-- ==== Sys2Proof/Word.lean ====
section
/-!
DEFINITION. Sys2Proof/Word.lean: the word types of the module and their plainest bit arithmetic (spec 00_scope, R8 to R10).
-/

namespace Sys2Proof

/-- A register word: 64 bits, little-endian (R10). -/
abbrev Word := BitVec 64

/-- One byte. -/
abbrev Byte := BitVec 8

/-- A 32-bit lane, control-core register or accumulator (R104, R107). -/
abbrev Lane := BitVec 32

/-- A 512-bit row: one stack beat, one MXU operand register or 16 vector lanes. -/
abbrev Row := BitVec 512

/-- Bits `[lo + w - 1 : lo]` of the number `n`. -/
def bits (n lo w : Nat) : Nat := (n >>> lo) % 2 ^ w

/-- Bit `i` of the number `n`. -/
def bitOf (n i : Nat) : Bool := n.testBit i

/-- 1 for true, 0 for false. -/
def b2n (b : Bool) : Nat := if b then 1 else 0

/-- A value clamped to the largest `w`-bit number: the registers' saturating counters. -/
def satAdd (w n k : Nat) : Nat := min (n + k) (2 ^ w - 1)

/-- Slice `i` of width `w` of a bit vector, as a bit vector. -/
def slice {n : Nat} (v : BitVec n) (w i : Nat) : BitVec w := v.extractLsb' (w * i) w

/-- A row made of the words of a list, first word lowest. -/
def packLe {w : Nat} (n : Nat) : List (BitVec w) → BitVec n
  | [] => 0
  | v :: r => v.setWidth n ||| ((packLe n r) <<< w)

/-- The first `k` slices of width `w` of a bit vector, lowest first. -/
def unpackLe {n : Nat} (v : BitVec n) (w k : Nat) : List (BitVec w) :=
  (List.range k).map (slice v w)

/-- The two's complement reading of the low `w` bits of `n`. -/
def signedOf (w n : Nat) : Int :=
  let m := n % 2 ^ w
  if m < 2 ^ (w - 1) then (m : Int) else (m : Int) - (2 : Int) ^ w

/-- The low `w` bits of an integer, as a natural number. -/
def wrapNat (w : Nat) (i : Int) : Nat := (i % ((2 : Int) ^ w)).toNat

end Sys2Proof
end

