-- ==== Sys2Proof/Payload.lean ====
section
/-!
DEFINITION. Sys2Proof/Payload.lean: the types of what commands carry from outside the block.
-/

namespace Sys2Proof

/-- A logical, spare or Base Camp coordinate pair (R6, R205). -/
abbrev Addr := BitVec 20

/-- How many symbols of a stored or moved code word are in error: none, one (corrected on a read) or more (R82). -/
inductive Ecc where
  | good
  | one
  | multi
  deriving DecidableEq, Repr

/-- What a SYSTEM packet or a RECT carries, with the routers at which its flits arrive with bits flipped and the flips of each
code word (R82, R203). -/
structure Carried (α : Type) where
  val : α
  hops : List (Addr × List (BitVec 80))
  deriving DecidableEq, Repr

/-- A landing at a port, and the bits flipped in each word of the record on its way to its FIFO (R82, R247). -/
structure Landing where
  port : Fin 6
  errs : List (BitVec 80)
  deriving DecidableEq, Repr

/-- A memory upset that comes about during a step: stack or scratch, the word index, and the bits of its 80-bit code word
that flip (R81). -/
structure Upset where
  stack : Bool
  word : BitVec 20
  err : BitVec 80
  deriving DecidableEq, Repr

/-- Sparse bytes of a given length: a listed offset holds its byte, every other offset 0. -/
structure Blob where
  len : Nat
  cells : List (Nat × BitVec 8)
  deriving DecidableEq, Repr, Inhabited

/-- An empty byte string. -/
def Blob.empty : Blob := ⟨0, []⟩

/-- Byte `i` of a byte string. -/
def Blob.byte (b : Blob) (i : Nat) : Nat :=
  match b.cells.find? (fun p => p.1 = i) with
  | some p => p.2.toNat
  | none => 0

/-- `n` bytes from offset `i`, little-endian (R8). -/
def Blob.le (b : Blob) (i : Nat) : Nat → Nat
  | 0 => 0
  | n + 1 => b.byte i + 256 * b.le (i + 1) n

/-- Whether every byte of a range is zero. -/
def Blob.zeroIn (b : Blob) (i n : Nat) : Bool :=
  b.cells.all (fun p => decide (p.1 < i) || decide (i + n ≤ p.1) || p.2 = 0)

/-- The bytes of a list, as a byte string. -/
def Blob.ofBytes (l : List (BitVec 8)) : Blob :=
  ⟨l.length, (List.range l.length).map (fun i => (i, l.getD i 0))⟩

/-- A link frame as received: header fields and units, each a channel code and its bytes (R234). -/
structure Frame where
  seqNo : Nat
  kph : BitVec 2
  replay : Bool
  clear : Bool
  fc : BitVec 4
  ack : Nat
  nak : Bool
  units : List (BitVec 4 × List (BitVec 8))
  deriving DecidableEq, Repr

/-- A Base Camp firmware image: whether both of its signatures verify, its version, the security version number of each
component, the tile firmware that it carries, and whether the tile, converter and optical-engine firmware verify (R360, R361). -/
structure Firmware where
  sigOk : Bool
  version : BitVec 16
  svns : List (BitVec 16)
  tile : Blob
  partsOk : Bool
  deriving DecidableEq, Repr

/-- The firmware of a module as delivered: it verifies, with version 0 and a tile firmware of 12 KiB of zeros. DESIGN CHOICE
(assumption 4). -/
def Firmware.delivered : Firmware := ⟨true, 0, [], ⟨12288, []⟩, true⟩

/-- The failed wires of one direction of a seam link (R129): its field, whether it crosses the north seam, its local physical row or
column, which of that line's link directions it is, and the failed wires of its two groups. -/
structure WireTest where
  f : Fin 48
  north : Bool
  line : Fin 132
  dir : BitVec 4
  group0 : Fin 65
  group1 : Fin 18
  deriving DecidableEq, Repr

/-- What a stage of start-up meets: the profile pins, the READY flags of MREF's sources, whether the module PLLs lock in three
attempts, the fields that fail the stage, and the link directions of seams that have failed wires (R129, R387, R394). -/
structure StageInput where
  sel : Fin 4
  ready : BitVec 3
  lock : Bool
  bad : List (Fin 48)
  wires : List WireTest
  deriving DecidableEq, Repr

/-- What an update of the IEEE 1687 network does: it sets an instrument, stops or restarts the ACLK of a field, or asks for a
reset (R428, R520, R521). -/
inductive IjtagUpdate where
  | set (ix : BitVec 32) (v : BitVec 64)
  | stop (f : Fin 48)
  | resume (f : Fin 48)
  | reset
  deriving DecidableEq, Repr

/-- What an owner command carries (R368): its staging offset in 64-byte units, the slot that signs it, whether both signatures
verify under that slot's keys (under its own keys for TAKE), the DeviceID key identifier and the command counter. -/
structure OwnerAuth where
  stage : BitVec 30
  signer : Fin 4
  sigOk : Bool
  devKey : BitVec 64
  ctr : BitVec 64
  deriving DecidableEq, Repr, Inhabited

/-- A debug token (R381); `signer` is none for the Tsuham failure-analysis key. -/
structure DebugToken where
  stage : BitVec 28
  signer : Option (Fin 4)
  sigOk : Bool
  nonce : BitVec 256
  devKey : BitVec 64
  scope : BitVec 4
  life : BitVec 32
  deriving DecidableEq, Repr, Inhabited

/-- An SPDM request as far as the responder's answer depends on it (R362, R363). -/
inductive SpdmReq where
  | version
  /-- the requester's largest transfer -/
  | capabilities (limit : BitVec 32)
  /-- whether the requester offers an algorithm that R362 supports of every kind -/
  | algorithms (ok : Bool)
  | digests
  | certificate (slot : BitVec 8) (off len : BitVec 16)
  | challenge (slot : BitVec 8)
  | measurements (index : BitVec 8) (sign : Bool)
  | keyExchange (slot : BitVec 8)
  /-- whether the requester's verify data agrees -/
  | finish (ok : Bool)
  | keyUpdate (op : BitVec 8)
  | heartbeat
  | endSession
  | pqCert (off : BitVec 32) (len : BitVec 16)
  | pqSig
  /-- any other request code -/
  | other
  deriving DecidableEq, Repr

/-- An IDE_KM message (R365): stream 0 is the Link IDE stream, 1 and 2 the Selective IDE streams. -/
inductive IdeKm where
  | query
  | keyProg (stream : Fin 3)
  | setGo (stream : Fin 3)
  | setStop (stream : Fin 3)
  deriving DecidableEq, Repr

end Sys2Proof
end

