-- ==== Sys2Proof/Syntax.lean ====
section
/-!
DEFINITION. Sys2Proof/Syntax.lean: the commands of the block, one constructor per row of spec/opcode_table.json, in its order.
An operand is what the outside supplies with the event: an address, a value, a reading, an outcome.
-/

namespace Sys2Proof

/-- The commands. -/
inductive Instr where
  /-- The 48 V input enters its operating range from below, which raises the POR source at L4 and starts start-up. (R428) `latched`: the input stage's BOR latch still holds. -/
  | por (latched : Bool)
  /-- The input stays below 38.0 V for 5 µs, which raises BOR at L4 and switches the input off. (R465) -/
  | bor
  /-- The input stays below the warning level for 20 µs; the module records PWR_BROWNOUT, drives ALERT_N and raises the brown-out divider need. (R465) `v`: 12 V input, millivolts. -/
  | brownOutWarning (v : BitVec 16)
  /-- The input stays above the warning level plus 1.0 V for 10 ms; the need is withdrawn and PWR_BROWNOUT_CLEAR is logged. (R466) -/
  | brownOutClear
  /-- The once-per-second comparison of average power with the limits raises or withdraws the power-limit divider need. (R468) `total`: average module power, milliwatts; `fields`: average field power. -/
  | pwrOverLimit (total : BitVec 32) (fields : List (BitVec 16))
  /-- A filtered low level on MOD_RESET_N raises the PIN reset source and holds the module at the PIN level. (R30) -/
  | modResetNLow
  /-- A filtered high level on MOD_RESET_N releases the PIN source so that release can begin or resume. (R30) -/
  | modResetNHigh
  /-- PWR_EN has stayed low for 1 ms; Base Camp issues SWR at L3, switches the compute, fabric and link rails off and enters standby. (R31) -/
  | pwrEnLow
  /-- PWR_EN goes high; Base Camp starts the rails and runs start-up from rail sequencing, clearing a latched leak response or trip where allowed. (R32) `leakLow`: LEAK_N reads low. -/
  | pwrEnHigh (leakLow : Bool)
  /-- LEAK_N has been low for 10 ms; Base Camp trips the module, drives FAULT_N, records class 0x06 and publishes the leak. (R41) `own`: the module's own tray sensor drives it. -/
  | leakResponse
  /-- Flow has been below 40 L/min for 2 s with the compute rails on, so a coolant warning is raised and logged. (R40) -/
  | cltFlowLow
  /-- Flow has been below 30 L/min for 2 s with the compute rails on, so the module trips. (R40) -/
  | flowLowTrip
  /-- No flow PDO has arrived for 1 s, so a warning is raised and thermal protection continues on the diodes alone. (R40) -/
  | flowPdoTimeout
  /-- The inlet rate of change exceeds 2 K/min over 60 s, so a warning is raised and the lifetime excursion counter is incremented. (R40) -/
  | cltRate
  /-- The 100 µs sampling of every thermal diode evaluates module temperature and gradient against the thermal stages. (R471) `temps`: the fields' diode readings. -/
  | diodeSample (temps : List (BitVec 16))
  /-- Every further 5 ms in stage 2, the thermal need grows by two half steps, up to 32. (R471) -/
  | stepdownEscalate
  /-- A stage's leave condition has held for 1 s, so its action ends. (R471) `stage`: the stage left. -/
  | thermalStageLeave (stage : Fin 4)
  /-- Every diode of a dark field has stayed below 85 °C for 1 s; the field is powered, zeroized, bloomed, reloaded and reopened. (R473) `f`: field. -/
  | fieldReturn (f : Fin 48)
  /-- PWR_CMD CLEAR_TRIP clears a latched trip unless a leak, a hot diode or low flow forbids it. (R474) -/
  | clearTrip
  /-- A rail loses power-good while on; the field enters REPLAN status, or the module trips. (R464) `rail`: rail; `f`: field. -/
  | pwrRailFail (rail : Fin 8) (f : Fin 48)
  /-- A converter reports power-good, or its 2 ms wait expires, after a PMBus switch-on; this moves rail sequencing on or retries it. (R390) `good`: the rails reach power good. -/
  | railPowerGood (good : Bool)
  /-- Spaced at one field per 1,024 refcycles, the next field's VCOMP is switched on at run time. (R470) -/
  | fieldWake
  /-- A write of SRC to CLK_MREF switches MREF to the named source with phase alignment, or refuses the switch and sets REFUSED. (R455) `src`: source; `port`: recovered-clock port; `ready`: READY flags of the sources. -/
  | mrefSwitch (src : Fin 4) (port : Fin 8) (ready : BitVec 3)
  /-- The selected MREF source stops or leaves its range for 10 µs; the controller switches to the internal oscillator and raises CLKF MREF. (R456) -/
  | mrefFail
  /-- A field PLL loses lock, which raises CLKF FIELDPLL as an L1 reset scoped to that field. (R431) `f`: field. -/
  | fieldPllUnlock (f : Fin 48)
  /-- A module PLL loses lock, which raises CLKF MODPLL at L3 or at the ceiling level. (R431) `link`: the link PLL, not the reference PLL. -/
  | modulePllUnlock (link : Bool)
  /-- A field PLL locks during release; the field's remaining release steps then run at their next free slots. (R443) `f`: field. -/
  | fieldPllLock (f : Fin 48)
  /-- A field PLL is still unlocked after three 1 ms attempts, so the field enters REPLAN status and the release completes without it. (R443) `f`: field. -/
  | rstReleaseStall (f : Fin 48)
  /-- At a ratio point, or after each step interval, every field changes D by one half step at the named acycle. (R460) -/
  | dividerStep
  /-- A write of CLK_DIV.HOSTREQ sets the host divider need and updates the local request sent to the anchor. (R461) `v`: ratio asked for. -/
  | hostreq (v : BitVec 8)
  /-- The Base Camp watchdog gets no service for 500 ms; both lockstep pairs restart at the boot ROM and the WDT level is applied. (R433) -/
  | wdt
  /-- FLD_SEC.ACYC of a field with a live section has not changed for 4,096 refcycles with its PLL locked, which raises LOCKUP STALL. (R428) `f`: field. -/
  | stall (f : Fin 48)
  /-- The cores of the active lockstep pair disagree; that pair stops and the standby pair is to take over. (R385) -/
  | pairDisagree
  /-- The active Base Camp pair has stopped committing for 1 ms; the standby pair takes over and the event is recorded. (R432) -/
  | bcpair
  /-- The standby pair resumes from the last commit and repeats the idempotent actions that followed it. (R385) -/
  | takeover
  /-- A failed pair's self-test ends after about 2 s; the pair returns as standby or is marked FAILED. (R385) `k`: pair; `pass`: the self-test passes. -/
  | pairSelfTestDone (k : Fin 2) (pass : Bool)
  /-- BC_PAIRS TEST_STANDBY runs the standby pair's self-test while the active pair keeps running. (R386) -/
  | testStandby
  /-- BC_PAIRS SWAP makes the standby pair active through a takeover at the next commit. (R386) -/
  | swap
  /-- RST_CMD RESET requests an SWR HOST reset at LEVEL and SCOPE, refused on live sections unless FORCE is set. (R436) `level`: LEVEL as written; `force`: FORCE as written. -/
  | reset (level : BitVec 4) (force : Bool)
  /-- RST_CMD HOLD applies a reset and runs the release only up to the held level. (R446) `level`: LEVEL as written; `force`: FORCE as written. -/
  | hold (level : BitVec 4) (force : Bool)
  /-- RST_CMD RELEASE completes a held release. (R446) -/
  | rstRelease
  /-- The 80-refcycle minimum hold ends, and release begins once the source is released. (R438) -/
  | minHoldEnd
  /-- After its refcycle gap, the next step of the release order brings a domain or field out of reset. (R441) `ready`: READY flags of MREF's sources; `sel`: profile pins as read. -/
  | releaseStep (ready : BitVec 3) (sel : Fin 4)
  /-- Start-up moves to its next stage once the condition that the current stage waits for is met. (R387) `io`: what the stage meets. -/
  | startupStage (io : StageInput)
  /-- In RECOVERY, the MCTP STATUS command returns the recovery state. (R388) -/
  | recoveryStatus
  /-- In RECOVERY, the MCTP WRITE command stores up to 64 bytes into the SRAM buffer. (R388) `off`: offset; `data`: up to 64 bytes. -/
  | recoveryWrite (off : BitVec 32) (data : List (BitVec 8))
  /-- In RECOVERY, the MCTP COMMIT command verifies the buffer, writes it to flash A and restarts stage 1. (R388) `w`: the image that the buffer holds. -/
  | recoveryCommit (w : Firmware)
  /-- A tile finishes its CRC check of the instruction store and tag table and sets CC_BLOOM.OK on a match. (R392) `a`: message pair of the tile; `good`: its memories hold what was written. -/
  | bloomCheck (a : Addr) (good : Bool)
  /-- The firmware-update command verifies a staged image and writes it to the flash that was not booted, which becomes first for the next L4. (R396) `off`: staging offset in 64-byte units; `w`: the image staged there. -/
  | firmwareUpdate (off : BitVec 32) (w : Firmware)
  /-- A CANopen SDO request frame performs an expedited or segmented dictionary transfer and is answered. (R412) `frame`: 8 data bytes. -/
  | sdoRequest (frame : List (BitVec 8))
  /-- 1 s passes between segments, so the transfer is aborted with 0x0504_0000. (R412) `udp`: the UDP source, none for CAN. -/
  | sdoTimeout (udp : Option (BitVec 48))
  /-- A UDP datagram of SDO records is served in order and answered with one datagram. (R420) `source`: source address and port; `recs`: records: COB-ID and SDO frame. -/
  | udpDatagram (source : BitVec 48) (recs : List (BitVec 16 × List (BitVec 8)))
  /-- An MCTP READ returns an abort code and the value of an entry. (R419) `i3c`: over I3C, not PCI Express; `ix`: index; `sub`: subindex. -/
  | dictRead (i3c : Bool) (ix : BitVec 16) (sub : BitVec 8)
  /-- A dictionary write is checked against the write policy, range and state, then sets the working value. (R409) `i3c`: over I3C, not PCI Express; `ix`: index; `sub`: subindex; `data`: value bytes. -/
  | dictWrite (i3c : Bool) (ix : BitVec 16) (sub : BitVec 8) (data : List (BitVec 8))
  /-- An MCTP NEXT returns the next existing index and subindex. (R419) `i3c`: over I3C, not PCI Express; `ix`: index; `sub`: subindex. -/
  | dictNext (i3c : Bool) (ix : BitVec 16) (sub : BitVec 8)
  /-- OD_CMD READ reads an entry into OD_DATA. (R422) `port`: host port; `ix`: index; `sub`: subindex. -/
  | odRead (port : Fin 2) (ix : BitVec 16) (sub : BitVec 8)
  /-- OD_CMD WRITE writes an entry from OD_DATA. (R422) `port`: host port; `ix`: index; `sub`: subindex; `len`: value bytes. -/
  | odWrite (port : Fin 2) (ix : BitVec 16) (sub : BitVec 8) (len : BitVec 12)
  /-- OD_CMD NEXT returns the next existing entry address in OD_DATA. (R422) `port`: host port; `ix`: index; `sub`: subindex. -/
  | odNext (port : Fin 2) (ix : BitVec 16) (sub : BitVec 8)
  /-- A MGMT cell carrying a dictionary READ, WRITE or RESPONSE from a rope member is served or delivered. (R421) -/
  | mgmt
  /-- The NMT start command puts the CANopen node into Operational. (R413) -/
  | nmtStart
  /-- The NMT stop command puts the CANopen node into Stopped. (R413) -/
  | nmtStop
  /-- The NMT command puts the CANopen node into Pre-operational. (R413) -/
  | enterPreOperational
  /-- NMT reset node reloads the communication and CAN entries from their stored values. (R413) -/
  | resetNode
  /-- NMT reset communication reloads the communication entries and applies the node ID and bit rates. (R413) -/
  | resetCommunication
  /-- 100 ms after boot-up with autostart set, the node enters Operational. (R413) -/
  | nmtAutostart
  /-- A CDU frame of inlet temperature, flow and status is stored and restarts the flow-PDO timer. (R415) `data`: data bytes. -/
  | rpdo1 (data : List (BitVec 8))
  /-- TPDO1 sends flow demand, outlet temperature, power and coolant status on timer expiry or on a status change. (R417) `outlet`: outlet temperature, 0.01 degrees. -/
  | tpdo1 (outlet : BitVec 16)
  /-- TPDO2 sends input voltage, input current and last fault on its event timer. (R417) `volts`: input voltage, 0.01 V; `amps`: input current, 0.1 A. -/
  | tpdo2 (volts : BitVec 16) (amps : BitVec 16)
  /-- The producer heartbeat timer expires and the node sends its heartbeat. (R412) -/
  | producerHeartbeat
  /-- Once per second, the flow demand is computed from average power and the coolant entries. (R416) `watts`: average input power, W. -/
  | flowDemand (watts : BitVec 32)
  /-- Writing "save" to 0x1010:01 stores every working profile value in the save-target slot. (R426) -/
  | save
  /-- Writing "load" to 0x1011:01 sets every working profile value to the active slot's factory value. (R426) -/
  | load
  /-- A pending write of 0x2000:02 applies the slot's live entries at once and loads the rest at the next L2 release. (R425) `n`: slot. -/
  | profileSwitchPending (n : Fin 4)
  /-- An immediate write of 0x2000:02 acts as a pending switch, then raises SWR at L2, unless the current state forbids it. (R425) `n`: slot. -/
  | profileSwitchImmediate (n : Fin 4)
  /-- The topology APPLY command sets HX_TOPO from the dictionary topology entries. (R411) -/
  | apply
  /-- The standalone-test command installs a stored test image and runs an invocation that reports its flags, faults and CRCs. (R398) `ix`: stored image index; `ok`: the container passes its check; `tenant`: tenant tag; `plain`: the plaintext. -/
  | standaloneTest (ix : BitVec 8) (ok : Bool) (tenant : Fin 16) (plain : Blob)
  /-- In Crocus, burn-in repeats a stored test image for a set time and divider at a raised belay rate. (R399) `ix`: stored image index; `secs`: seconds; `d2`: twice the divider; `ok`: the container passes its check; `tenant`: tenant tag; `plain`: the plaintext. -/
  | burnIn (ix : BitVec 8) (secs : BitVec 32) (d2 : BitVec 8) (ok : Bool) (tenant : Fin 16) (plain : Blob)
  /-- BC_IMG_CMD INSTALL verifies, decrypts and checks a staged container in order, and refuses it at the first failure. (R175) `len`: LENGTH as written; `sigOk`: both signatures verify; `unwrapOk`: the unwrap succeeds; `tagOk`: the GCM tag verifies; `plain`: the plaintext. -/
  | install (len : BitVec 48) (sigOk : Bool) (unwrapOk : Bool) (tagOk : Bool) (plain : Blob)
  /-- Once the checks pass, the commit phase writes the image into the tiles, makes the image copy and sets READY. (R177) -/
  | installCommit
  /-- BC_IMG_CMD REMOVE halts and zeroizes the array and sets the image state to NONE. (R178) -/
  | remove
  /-- FLD_HOLD HOLD_OUT halts a field that no image uses, closes its seams and sets it OUT. (R179) `f`: field. -/
  | holdOut (f : Fin 48)
  /-- FLD_HOLD RETURN zeroizes, scrubs and blooms an OUT field, with the field RETURNING meanwhile. (R180) `f`: field. -/
  | return_ (f : Fin 48)
  /-- The return work ends; the seams reopen and the field is IN. (R180) `f`: field. -/
  | returnComplete (f : Fin 48)
  /-- The anchor originates the next invocation with its entry, parameters and start acycle, checked under R167. (R286) `e`: entry;
  `start`: start acycle; `now`: the acycle at which the anchor originates it; `ups`: memory upsets that come about. -/
  | invocationIssue (e : BitVec 8) (start : BitVec 64) (now : BitVec 64) (ups : List (Addr × Upset))
  /-- At its start acycle an invocation starts, chained onto the previous one or as a cold start. (R169) `streams`: segment addresses of the cold start's streams. -/
  | invocationStart (streams : List (Addr × BitVec 23))
  /-- At the switch acycle every tile checks, exchanges its bundle stores, resets section state and starts the new section. (R161) -/
  | sectionSwitch
  /-- A sequencer armed by the switch reaches the section start acycle (w + GAP) and enters RUN. (R161) `a`: message pair of the tile. -/
  | armedStart (a : Addr)
  /-- In each acycle a running tile issues one bundle and carries out its events in the fixed order. (R147) `a`: message pair of the tile; `ups`: memory upsets that come about. -/
  | bundleIssue (a : Addr) (ups : List Upset)
  /-- An MXU load issued two acycles earlier writes its next buffer. (R101) `a`: message pair of the tile. -/
  | nextBufferWrite (a : Addr)
  /-- A VU result lands in its destination register at its fixed offset. (R116) `a`: message pair of the tile. -/
  | vuResultLanding (a : Addr)
  /-- An injected word becomes available as PA or PB two acycles after its INJECT. (R138) `a`: message pair of the tile. -/
  | injectAvailable (a : Addr)
  /-- An SRD beat lands in scratch at t + 24, or is discarded. (R74) `a`: message pair of the tile. -/
  | srdLanding (a : Addr)
  /-- An SLD writes four bundles into the standby store at t + 24 and may set STBY_VALID. (R164) `a`: message pair of the tile. -/
  | sldLanding (a : Addr)
  /-- A scheduled word arrives at a landing FIFO, is colour-checked and written, or is discarded. (R127) `a`: message pair of the tile; `port`: input port; `hop`: outcome of the hop's code word; `late`: the word missed its crossing's release acycle. -/
  | wordArrival (a : Addr) (port : Fin 8) (hop : BitVec 80) (late : Bool)
  /-- SCH_CMD ARM prepares a halted or idle tile for the next cold start. (R534) `a`: message pair of the tile. -/
  | arm (a : Addr)
  /-- SCH_CMD HALT stops the sequencer in HALT. (R534) `a`: message pair of the tile. -/
  | halt (a : Addr)
  /-- SCR_CMD SCRUB starts a scratch scrub of every row. (R69) `a`: message pair of the tile. -/
  | scrub (a : Addr)
  /-- SCR_CMD ZEROIZE writes data 0 with tag 0 to all of scratch. (R70) `a`: message pair of the tile. -/
  | zeroize (a : Addr)
  /-- A scrub or zeroize completes, which lets the sequencer be armed. (R69) `a`: message pair of the tile; `ups`: memory upsets that come about. -/
  | scrubDone (a : Addr) (ups : List Upset)
  /-- CC_CMD RUN starts the control core's start-up run from 0x2_0000. (R532) `a`: message pair of the tile. -/
  | run (a : Addr)
  /-- CC_CMD HALT puts the control core into held. (R532) `a`: message pair of the tile. -/
  | ccHalt (a : Addr)
  /-- CC_CMD RESTART clears TRAP or LOCKUP and runs the core from 0x2_0000. (R55) `a`: message pair of the tile. -/
  | restart (a : Addr)
  /-- An idle control core takes the next control-point event, reply or request and enters its handler. (R214) `a`: message pair of the tile. -/
  | ccDispatch (a : Addr)
  /-- The control core executes an ordinary RV32IMC instruction, including plain loads and stores. (R47) `a`: message pair of the tile. -/
  | coreInstruction (a : Addr)
  /-- A handler runs past CC_WDOG.LIMIT, which raises the LOCKUP reset for its field. (R56) `a`: message pair of the tile. -/
  | schCoreLockup (a : Addr)
  /-- The core sends a request and blocks until it is answered or times out. (R208) `a`: message pair of the tile. -/
  | tsSend (a : Addr)
  /-- The core replies to the request being handled. (R215) `a`: message pair of the tile; `stuck`: SEND_TIMEOUT passed before the reply could be injected. -/
  | tsReply (a : Addr) (stuck : Bool)
  /-- The core ends its handler, sending NOREPLY if a required reply is missing. (R53) `a`: message pair of the tile. -/
  | tsYield (a : Addr)
  /-- The core posts a value to the control-point mailbox. (R53) `a`: message pair of the tile. -/
  | tsCppost (a : Addr)
  /-- The core reads a field of a live handle. (R53) `a`: message pair of the tile. -/
  | tsHget (a : Addr)
  /-- The core writes a bounds-checked shadow handle field and marks it pending. (R62) `a`: message pair of the tile. -/
  | tsHset (a : Addr)
  /-- The core loads 32 bits through a handle. (R54) `a`: message pair of the tile; `ups`: memory upsets that come about. -/
  | tsHld (a : Addr) (ups : List Upset)
  /-- The core stores 32 bits through a handle with a read-modify-write. (R54) `a`: message pair of the tile; `ups`: memory upsets that come about. -/
  | tsHst (a : Addr) (ups : List Upset)
  /-- A message router forwards a packet one hop, or discards it on an uncorrectable flit. (R204) `k`: index of the packet among those in flight; `ue`: the hop met an uncorrectable error. -/
  | packetHop (k : Nat) (errs : List (BitVec 80))
  /-- A request lands at its destination, which tests it and answers ACK, BUSY or an error reply. (R212) `k`: index of the packet among those in flight. -/
  | unicast (k : Nat)
  /-- An ACK reaches the sender and TS.SEND returns. (R213) `k`: index of the packet among those in flight. -/
  | ack (k : Nat)
  /-- A BUSY reaches the sender, which backs off before resending. (R208) `k`: index of the packet among those in flight. -/
  | busy (k : Nat)
  /-- The 256-acycle back-off ends and the request is resent. (R208) `a`: message pair of the tile. -/
  | busyBackoff (a : Addr)
  /-- A reply lands in the slot it names, or is discarded as late. (R213) `k`: index of the packet among those in flight. -/
  | reply (k : Nat)
  /-- SEND_TIMEOUT expires; the slot is abandoned and rd is 2. (R208) `a`: message pair of the tile. -/
  | msgSendTimeout (a : Addr)
  /-- REPLY_TIMEOUT expires after the ACK; the interface delivers a TIMEOUT error reply. (R211) `a`: message pair of the tile; `slot`: outstanding slot. -/
  | msgReplyTimeout (a : Addr) (slot : Fin 8)
  /-- An abandoned or timed-out slot becomes usable again after a further REPLY_TIMEOUT. (R211) `a`: message pair of the tile; `slot`: outstanding slot. -/
  | slotQuarantineEnd (a : Addr) (slot : Fin 8)
  /-- A SYSTEM READ returns up to 8 words of tile address space. (R219) `a`: message pair of the tile; `addr`: address in the tile space; `n`: words less 1. -/
  | read (a : Addr) (addr : BitVec 20) (n : Carried (Fin 16))
  /-- A SYSTEM WRITE stores up to 7 words into tile address space. (R219) `a`: message pair of the tile; `addr`: address in the tile space; `data`: words and tags. -/
  | write (a : Addr) (addr : BitVec 20) (data : Carried (List (BitVec 64 × BitVec 4)))
  /-- A SYSTEM TEST starts a structural test on the tile. (R219) `a`: message pair of the tile; `number`: test number. -/
  | test (a : Addr) (number : Carried (BitVec 16))
  /-- A rectangle broadcast carries a WRITE or TEST to every tile of a rectangle. (R220) `a`: lower corner; `b`: upper corner; `test`: TEST, not WRITE; `addr`: address in the tile space; `data`: words and tags. -/
  | rect (a : Addr) (b : Addr) (test : Bool) (addr : BitVec 20) (data : Carried (List (BitVec 64 × BitVec 4)))
  /-- A declared window opens; the controller makes a refresh step and scrubs 16 beats per tile. (R187) `f`: field; `ups`: memory upsets that come about. -/
  | refreshWindow (f : Fin 48) (ups : List (Addr × Upset))
  /-- With no live section, one refresh step and 16 scrub beats are made every 10,000 refcycles. (R186) `f`: field; `ups`: memory upsets that come about. -/
  | autonomousRefresh (f : Fin 48) (ups : List (Addr × Upset))
  /-- 40,000 refcycles pass without a step, so a step is forced and the section is invalid. (R191) `f`: field. -/
  | forcedRefresh (f : Fin 48)
  /-- A waiting non-scheduled stack beat is admitted when order, window, budget and rate allow. (R185) `f`: field; `cls`: class: feed and drain, Base Camp, core, survey, aperture. -/
  | nonscheduledBeat (f : Fin 48) (cls : Fin 5)
  /-- A BAR4 read through a window reaches a segment or the reserve, or is denied. (R201) `port`: host port; `off`: offset in BAR4; `n`: bytes; `ups`: memory upsets that come about. -/
  | apertureRead (port : Fin 2) (off : BitVec 36) (n : Fin 4097) (ups : List (Addr × Upset))
  /-- A BAR4 write through a window is stored with tag 0, or is denied. (R201) `port`: host port; `off`: offset in BAR4; `data`: bytes. -/
  | apertureWrite (port : Fin 2) (off : BitVec 36) (data : List (BitVec 8))
  /-- An aperture access not admitted within 1 ms completes with Completer Abort or is discarded. (R202) `port`: host port; `write`: the access is a write. -/
  | apertureTimeout (port : Fin 2) (write : Bool)
  /-- A write of HX_CTRL.EN disables a port or enables it into DOWN. (R228) `p`: port; `en`: the value written. -/
  | portEnable (p : Fin 6) (en : Bool)
  /-- A write of HX_CTRL.LOOP in Crocus sets or clears the loopback test. (R243) `p`: port; `on`: the value written. -/
  | loop (p : Fin 6) (on : Bool)
  /-- HX_CMD TRAIN releases a HOLD_DOWN so the port trains. (R228) `p`: port. -/
  | train (p : Fin 6)
  /-- HX_CMD HOLD_DOWN takes a port DOWN and holds it there. (R268) `p`: port. -/
  | holdDown (p : Fin 6)
  /-- HX_CMD RETRAIN retrains a port. (R268) `p`: port. -/
  | retrain (p : Fin 6)
  /-- A DOWN port sees signal in each direction and enters TRAIN. (R228) `p`: port. -/
  | signalDetect (p : Fin 6)
  /-- PRBS qualification ends, fixing the good lanes, the width and the spares. (R229) `p`: port; `good`: lanes good in both directions. -/
  | laneQualify (p : Fin 6) (good : BitVec 26)
  /-- No lane qualifies within 50 ms, so the port returns to DOWN. (R228) `p`: port. -/
  | trainTimeout (p : Fin 6)
  /-- The 1 s wait after a failed training or keying ends and a new attempt starts. (R228) `p`: port. -/
  | trainRetry (p : Fin 6)
  /-- Width and lane maps are agreed with the neighbour, and the port enters ALIGN. (R228) `p`: port; `nport`: the neighbour's port; `ncoord`: the neighbour's coordinates. -/
  | map (p : Fin 6) (nport : Fin 6) (ncoord : BitVec 15)
  /-- Frame lock on every active lane moves the port to KEYING or LOOP. (R228) `p`: port. -/
  | frameLock (p : Fin 6)
  /-- The SPDM link session completes and the port enters MEASURE, or the session fails with HX_KEY_FAIL. (R239) `p`: port; `session`: the session was established; `accepted`: the neighbour passed the checks of R366. -/
  | keySessionEstablished (p : Fin 6) (session : Bool) (accepted : Bool)
  /-- Both ends agree the base latency from PROBE cells, and the port enters UP. (R238) `p`: port; `rtt`: round trip; `base`: base latency; `fibre`: fibre length. -/
  | baseLatencyAgreed (p : Fin 6) (rtt : BitVec 16) (base : BitVec 16) (fibre : BitVec 16)
  /-- An UP port loses frame lock or a lane with no spare; it goes DOWN, flushes its queues and retrains. (R267) `p`: port. -/
  | frameLockLoss (p : Fin 6)
  /-- An active lane fails, which starts a spare swap or a retrain. (R232) `p`: port; `lane`: the active lane. -/
  | laneFail (p : Fin 6) (lane : Fin 26)
  /-- A LANE cell names a failed lane, a spare and a switch SEQ. (R256) `p`: port. -/
  | lane (p : Fin 6)
  /-- At the named frame, both ends stripe the direction over the new lane map. (R232) `p`: port. -/
  | laneSwap (p : Fin 6)
  /-- A link frame is FEC-decoded, authenticated and decrypted, or is bad and triggers a NAK and go-back-N replay. (R235) `p`: port; `f`: the frame; `corr`: symbols corrected; `uncorr`: uncorrectable codewords; `tagOk`: outcome of the tag check. -/
  | frameReceive (p : Fin 6) (f : Frame) (corr : Nat) (uncorr : Nat) (tagOk : Bool)
  /-- The transmitter starts a frame, filling its units by channel priority and advancing KPH after an epoch boundary. (R244) `p`: port. -/
  | frameTransmit (p : Fin 6)
  /-- At the end of an acycle with edge words driven, the I/O field forms a scheduled record. (R245) `p`: port. -/
  | scheduledRecord (p : Fin 6)
  /-- Part of a record is still queued 16 acycles after capture, so the section is invalid. (R246) `p`: port. -/
  | hxSchedOverrate (p : Fin 6)
  /-- A scheduled record arrives in the landing buffer, or is discarded as late or on overflow. (R248) `p`: port. -/
  | recordArrival (p : Fin 6)
  /-- At t + L − 1, a record's words are written into the landing tiles' FIFOs. (R247) `p`: port, with the
  bits that flip in each word of the record on its way to its FIFO (R82). -/
  | recordLanding (p : Landing)
  /-- A record is not complete by t + L − 2, so it lands late. (R248) `p`: port; `t`: capture acycle of the record. -/
  | schLateLanding (p : Fin 6) (t : Nat)
  /-- A dynamic packet is CRC-checked, then routed onward or delivered to Base Camp. (R251) `p`: port; `vn`: virtual network. -/
  | dynamicPacket (p : Fin 6) (vn : Bool)
  /-- A MAIL request is delivered to a Base Camp mailbox and answered MAIL_DONE. (R252) -/
  | mail
  /-- A remote write into the staging area is served or refused. (R253) `admitted`: the trust policy admits the requester. -/
  | rwrite (admitted : Bool)
  /-- A remote read from the staging area is served or refused. (R253) `admitted`: the trust policy admits the requester. -/
  | rread (admitted : Bool)
  /-- The reply to a MAIL reaches its requester. (R252) -/
  | mailDone
  /-- The reply to an RWRITE reaches its requester. (R252) -/
  | rwriteDone
  /-- The data reply to an RREAD reaches its requester. (R252) -/
  | rreadData
  /-- An ERROR reply reports an unroutable request to its requester. (R254) -/
  | error
  /-- No reply arrives within 10 ms, so the request is treated as lost. (R254) `id`: transaction identifier. -/
  | dynamicRequestTimeout (id : BitVec 32)
  /-- A privileged cell is CRC-checked and routed by dimension order and VC, or delivered. (R257) `p`: port; `vc`: virtual channel. -/
  | privilegedCell (p : Fin 6) (vc : Bool)
  /-- A link-local SPDM cell carries one fragment of an SPDM message. (R256) `p`: port. -/
  | spdm (p : Fin 6)
  /-- A PROBE cell carries time stamps for the round-trip measurement. (R238) `p`: port. -/
  | probe (p : Fin 6)
  /-- BC_ROPE_CMD FORM enters PREPARE and checks the topology, ports, landing and time. (R281) `aovr`: AOVR as written; `anchor`: anchor coordinates as written. -/
  | form (aovr : Bool) (anchor : BitVec 15)
  /-- BC_ROPE_CMD STOP stops the rope. (R280) -/
  | stop
  /-- BC_ROPE_CMD LEAVE returns a STOPPED or REPLAN member to NONE. (R272) -/
  | leave
  /-- The PREPARE checks pass and RT is aligned, so the member enters JOINING. (R281) `mref`: the main reference was switched. -/
  | prepareDone (mref : Bool)
  /-- Every 100 ms in JOINING, the member sends its JOIN MAIL to the anchor. (R282) -/
  | join
  /-- Not every JOIN or START arrives in time, so the rope stops with FORM_TIMEOUT. (R282) -/
  | formTimeout
  /-- A START cell names RS, K0, the restore epoch and the start divider. (R283) `slack`: slack the anchor adds to the start. -/
  | start (slack : BitVec 32)
  /-- At refcycle RS, every member sets its counters to K0 and its divider, and replays the logged INVOKEs. (R283) -/
  | ropeStart
  /-- Every 65,536 refcycles, a time parent sends TIME to each child. (R276) -/
  | timeSend
  /-- A child takes a TIME cell and checks or aligns its rope time. (R276) -/
  | time
  /-- Three TIME intervals pass with no TIME cell, so SCH_ROPE_TIME is recorded. (R279) -/
  | timeMissing
  /-- At each epoch boundary the anchor sends MARK, and members repeat their ratio requests. (R285) -/
  | epochBoundary
  /-- A member takes a MARK cell and checks its epoch. (R285) -/
  | mark
  /-- A member journals an INVOKE cell and schedules its invocation, or records SCH_INVOKE_LATE. (R286) -/
  | invoke
  /-- The anchor takes a ratio REQUEST and recomputes its target divider. (R289) -/
  | request
  /-- A member takes an ANNOUNCE of a target and ratio point, or records SCH_RATIO_LATE. (R290) -/
  | announce
  /-- At the capture point K, Base Camp begins capturing into the free checkpoint slot. (R305) -/
  | capturePoint
  /-- The capture ends with STATE 2 and is reported in UP. (R310) -/
  | captureComplete
  /-- A member takes COMMIT for an epoch and writes its commit record. (R311) -/
  | commit
  /-- A member sends UP to its time parent at once on BAD or readiness, or on its timer. (R301) -/
  | upReport
  /-- A parent takes a child's UP, forwarding BAD at once and merging cleared acycles and slot sets. (R301) -/
  | up
  /-- No UP arrives from a child for 131,072 acycles, so the parent reports BAD MEMBER_LOST. (R301) -/
  | memberLost
  /-- The anchor computes CLEAR and broadcasts it at most every 4,096 acycles, with COMMIT where due. (R303) -/
  | clearBroadcast
  /-- A member takes CLEAR and releases the completion records of invocations that have ended. (R304) -/
  | clear
  /-- A member takes ABORT; it halts, flushes, applies L1 and restores the restore epoch. (R316) -/
  | abort
  /-- A migration completes; the skip, TILE_ID and reserve map are written and COMPLETE is logged. (R497) `f`: field. -/
  | rprMigrated (f : Fin 48)
  /-- The restore ends and the member reports READY. (R316) `csum`: the restored bytes' checksums agree. -/
  | restoreComplete (csum : Bool)
  /-- After an OUT HOP stream's last capture acycle, its engine sends a HOP cairn. (R298) `p`: port. -/
  | hopSend (p : Fin 6)
  /-- The IN engine compares a received HOP cairn with its own values. (R298) -/
  | hop
  /-- A hop cairn has not arrived L + 4,096 acycles after the stream ends. (R298) `p`: port. -/
  | crnMissing (p : Fin 6)
  /-- Once a window has ended and all children have reported, the member sends the subtree δ. (R299) -/
  | sumSend
  /-- A parent or the anchor takes a SUM, and the anchor verifies the window or aborts. (R299) -/
  | sum
  /-- A member writes a received FAULT cell into its own logbook. (R481) -/
  | fault
  /-- A short or failing port persists for SHORT_WAIT, so the member enters REPLAN. (R319) -/
  | shortWaitExpiry
  /-- MARK is missing for two epochs, or the time port stays down, so the member stops with ANCHOR_LOST. (R321) -/
  | anchorLost
  /-- At a row's sample acycle, the source tap copies an MXU or VU instance to the checkers. (R483) `f`: field; `row`: local physical row; `found`: an instance starts within 256 acycles. -/
  | belaySample (f : Fin 48) (row : Fin 132) (found : Bool)
  /-- The checkers' results are compared bit for bit and the vote is recorded. (R485) `f`: field; `row`: local physical row; `cut`: the instance was cut short; `t1`: the tile agrees with the first checker; `t2`: the tile agrees with the second; `cc`: the checkers agree. -/
  | belayCompare (f : Fin 48) (row : Fin 132) (cut : Bool) (t1 : Bool) (t2 : Bool) (cc : Bool)
  /-- A fundamental reset of a host port resets its link, its function and its L3 HP_ registers. (R328) `port`: host port; `low`: the level of the pin is low. -/
  | perstN (port : Fin 2) (low : Bool)
  /-- A hot reset resets that port's link and function. (R328) `port`: host port. -/
  | hotReset (port : Fin 2)
  /-- A Function Level Reset resets that port's function. (R328) `port`: host port. -/
  | flr (port : Fin 2)
  /-- A host link finishes training, and a degraded link is recorded. (R327) `port`: host port; `rate`: rate less 1; `width`: width as a power of two. -/
  | pcieLinkUp (port : Fin 2) (rate : Fin 6) (width : Fin 4)
  /-- A host link is lost; the other port continues. (R325) `port`: host port. -/
  | hpLinkDown (port : Fin 2)
  /-- A write to a posting map sets session bits. (R333) `port`: host port; `off`: byte of the map; `data`: bytes. -/
  | postingMapWrite (port : Fin 2) (off : Fin 512) (data : List (BitVec 8))
  /-- A BAR2 write to a ledger part is stored, or discarded and counted. (R332) `port`: host port; `off`: offset in BAR2; `data`: bytes; `ideBad`: the TLP fails its IDE check. -/
  | bar2Write (port : Fin 2) (off : BitVec 28) (data : List (BitVec 8)) (ideBad : Bool)
  /-- A change of EN from 0 to 1 in a ring descriptor reads the ring's fields and enables it. (R346) `port`: host port; `k`: ring. -/
  | ringEnable (port : Fin 2) (k : Fin 64)
  /-- A write of CONS frees ring slots and advances DLV and DONESEQ. (R347) `port`: host port; `k`: ring; `v`: CONS. -/
  | consWrite (port : Fin 2) (k : Fin 64) (v : BitVec 32)
  /-- At each tick, Base Camp takes the posting maps and serves each posted session's requests. (R336) `ups`: memory upsets that come about. -/
  | intakeTick (ups : List (Addr × Upset))
  /-- A port's lease expires; its sessions become ORPHAN and its rings stop. (R349) `port`: host port. -/
  | leaseExpiry (port : Fin 2)
  /-- The ACCEPT journal write completes; DSTAMP is written, the session opens and NEXTSEQ advances. (R338) -/
  | acceptance
  /-- The readback of every mirror copy returns, or a failure records LDG_MIRROR_FAIL. (R354) `ok`: every copy reads back. -/
  | mirrorReadback (ok : Bool)
  /-- Base Camp writes and journals the feed half of an invocation. (R342) -/
  | feedWrite
  /-- Base Camp reads the drain half of an invocation that has ended. (R342) -/
  | drainRead
  /-- A feed or drain deadline passes unmet, which is an abort trigger. (R344) -/
  | ldgFeedLate
  /-- A released completion record is written to its ring, or is suppressed as a replay. (R347) `n`: session. -/
  | completionWrite (n : Fin 4096)
  /-- A record's write completes and the ring's PROD advances. (R328) `port`: host port; `k`: ring. -/
  | completionWriteDone (port : Fin 2) (k : Fin 64)
  /-- The COALESCE time after a record ends and the ring's MSI-X vector is signalled. (R346) `port`: host port; `k`: ring. -/
  | msixCoalesce (port : Fin 2) (k : Fin 64)
  /-- HP_LEASE_OP RENEW extends the port's lease, reclaiming its still-orphaned sessions. (R349) `port`: host port. -/
  | renew (port : Fin 2)
  /-- HP_LEASE_OP CLAIM takes one orphaned session to the claiming port. (R350) `port`: host port. -/
  | claim (port : Fin 2)
  /-- HP_LEASE_OP CLAIM_ALL takes every orphaned session to the claiming port. (R350) `port`: host port. -/
  | claimAll (port : Fin 2)
  /-- An SPDM GET_VERSION request is answered. (R362) `c`: connection: 0, 1 host ports over MCTP, 2 I3C, 3, 4 host ports over DOE. -/
  | getVersion (c : Fin 5)
  /-- An SPDM GET_CAPABILITIES request is answered. (R362) `c`: connection: 0, 1 host ports over MCTP, 2 I3C, 3, 4 host ports over DOE; `limit`: largest transfer of the requester. -/
  | getCapabilities (c : Fin 5) (limit : BitVec 32)
  /-- An SPDM NEGOTIATE_ALGORITHMS request is answered. (R362) `c`: connection: 0, 1 host ports over MCTP, 2 I3C, 3, 4 host ports over DOE; `ok`: the requester offers what R362 supports. -/
  | negotiateAlgorithms (c : Fin 5) (ok : Bool)
  /-- An SPDM GET_DIGESTS request is answered. (R362) `c`: connection: 0, 1 host ports over MCTP, 2 I3C, 3, 4 host ports over DOE. -/
  | getDigests (c : Fin 5)
  /-- An SPDM GET_CERTIFICATE request returns part of the Ed25519 chain. (R362) `c`: connection: 0, 1 host ports over MCTP, 2 I3C, 3, 4 host ports over DOE; `slot`: certificate slot; `off`: offset; `len`: length. -/
  | getCertificate (c : Fin 5) (slot : BitVec 8) (off : BitVec 16) (len : BitVec 16)
  /-- An SPDM CHALLENGE is answered with a signed CHALLENGE_AUTH. (R362) `c`: connection: 0, 1 host ports over MCTP, 2 I3C, 3, 4 host ports over DOE; `slot`: certificate slot. -/
  | challenge (c : Fin 5) (slot : BitVec 8)
  /-- An SPDM GET_MEASUREMENTS returns the signed measurement blocks. (R364) `c`: connection: 0, 1 host ports over MCTP, 2 I3C, 3, 4 host ports over DOE; `index`: block; `sign`: a signature is asked for. -/
  | getMeasurements (c : Fin 5) (index : BitVec 8) (sign : Bool)
  /-- An SPDM KEY_EXCHANGE starts a secured session. (R362) `c`: connection: 0, 1 host ports over MCTP, 2 I3C, 3, 4 host ports over DOE; `slot`: certificate slot. -/
  | keyExchange (c : Fin 5) (slot : BitVec 8)
  /-- An SPDM FINISH completes a secured session. (R362) `c`: connection: 0, 1 host ports over MCTP, 2 I3C, 3, 4 host ports over DOE; `ok`: the verify data agrees. -/
  | finish (c : Fin 5) (ok : Bool)
  /-- An SPDM KEY_UPDATE updates the session keys. (R362) `c`: connection: 0, 1 host ports over MCTP, 2 I3C, 3, 4 host ports over DOE; `op`: operation. -/
  | keyUpdate (c : Fin 5) (op : BitVec 8)
  /-- An SPDM HEARTBEAT keeps a session alive. (R362) `c`: connection: 0, 1 host ports over MCTP, 2 I3C, 3, 4 host ports over DOE. -/
  | heartbeat (c : Fin 5)
  /-- An SPDM END_SESSION ends a session. (R362) `c`: connection: 0, 1 host ports over MCTP, 2 I3C, 3, 4 host ports over DOE. -/
  | endSession (c : Fin 5)
  /-- An SPDM CHUNK_SEND carries a chunk of a large request. (R362) `c`: connection: 0, 1 host ports over MCTP, 2 I3C, 3, 4 host ports over DOE; `data`: bytes; `last`: the last chunk; `q`: the request that the chunks make up. -/
  | chunkSend (c : Fin 5) (data : List (BitVec 8)) (last : Bool) (q : SpdmReq)
  /-- An SPDM CHUNK_GET returns a chunk of a large response. (R362) `c`: connection: 0, 1 host ports over MCTP, 2 I3C, 3, 4 host ports over DOE. -/
  | chunkGet (c : Fin 5)
  /-- A vendor-defined request returns part of the ML-DSA-65 chain. (R363) `c`: connection: 0, 1 host ports over MCTP, 2 I3C, 3, 4 host ports over DOE; `off`: offset; `len`: length. -/
  | getPqCert (c : Fin 5) (off : BitVec 32) (len : BitVec 16)
  /-- A vendor-defined request returns the ML-DSA-65 signature of the last signed response. (R363) `c`: connection: 0, 1 host ports over MCTP, 2 I3C, 3, 4 host ports over DOE. -/
  | getPqSig (c : Fin 5)
  /-- An IDE_KM message in a secured session manages IDE stream keys. (R365) `port`: host port; `m`: the message. -/
  | ideKm (port : Fin 2) (m : IdeKm)
  /-- The owner command TAKE makes slot 0 ACTIVE with all roles. (R368) `a`: signatures, identifier and counter; `keys`: digest of the holder's public keys. -/
  | take (a : OwnerAuth) (keys : BitVec 384)
  /-- The owner command SET_SLOT sets a slot's keys and roles. (R368) `a`: signatures, identifier and counter; `k`: slot; `keys`: digest of the holder's public keys; `roles`: role mask. -/
  | setSlot (a : OwnerAuth) (k : Fin 4) (keys : BitVec 384) (roles : BitVec 3)
  /-- The owner command REVOKE sets a slot to REVOKED. (R368) `a`: signatures, identifier and counter; `k`: slot. -/
  | revoke (a : OwnerAuth) (k : Fin 4)
  /-- The owner command ADVANCE_SVN raises the fused minimum SVN to the running SVN. (R361) `a`: signatures, identifier and counter. -/
  | advanceSvn (a : OwnerAuth)
  /-- The owner command RELEASE zeroizes fully and empties every owner slot. (R368) `a`: signatures, identifier and counter. -/
  | release (a : OwnerAuth)
  /-- BC_SEAL_CMD OFFER writes a signed seal offer for a FREE session. (R377) `n`: session; `stage`: staging offset in 64-byte units. -/
  | offer (n : Fin 4096) (stage : BitVec 30)
  /-- BC_SEAL_CMD OPEN verifies a client open, derives keys and writes SACK. (R377) `n`: session; `stage`: staging offset in 64-byte units; `ups`: memory upsets that come about. -/
  | open_ (n : Fin 4096) (stage : BitVec 30) (ups : List (Addr × Upset))
  /-- BC_SEAL_CMD ABANDON erases a pending offer. (R377) `n`: session. -/
  | abandon (n : Fin 4096)
  /-- A pending offer expires after 60 s and its keys are erased. (R377) `n`: session. -/
  | offerExpiry (n : Fin 4096)
  /-- BC_DBG_CMD CHALLENGE writes a fresh nonce for a debug unlock. (R381) -/
  | debugChallenge
  /-- BC_DBG_CMD UNLOCK verifies a token, zeroizes, raises DBG and opens the scope. (R382) `t`: the token. -/
  | unlock (t : DebugToken)
  /-- BC_DBG_CMD RELOCK closes every debug scope. (R382) -/
  | relock
  /-- The unlock lifetime ends and every scope closes. (R382) -/
  | unlockExpiry
  /-- Base Camp takes a fault report, applies abort, logs it, queues it and drives the alerts. (R478) `persist`: an uncorrectable word fails again when it is read 8 more times. -/
  | faultReport (persist : Bool)
  /-- Buffered logbook entries are written to both flashes. (R479) -/
  | logbookFlush
  /-- A tile's corrected-error count rises by more than the threshold in 1 h, so it is marked degrading. (R489) `f`: field; `key`: place in the field: local physical x + 132 y; `rise`: corrected words of the last hour. -/
  | eccCeRate (f : Fin 48) (key : Fin 17424) (rise : BitVec 32)
  /-- FLT_CMD RETEST runs the structural retest of a tile in a field with no live section. (R490) `px`: physical x; `py`: physical y. -/
  | retest (px : BitVec 11) (py : BitVec 10)
  /-- A retest ends and the tile is classified transient or permanent. (R489) `f`: field; `key`: place in the field: local physical x + 132 y; `fails`: units that failed. -/
  | retestResult (f : Fin 48) (key : Fin 17424) (fails : BitVec 10)
  /-- FLT_CMD MARK_DEAD classifies a tile permanent and refines the crevasse map. (R493) `px`: physical x; `py`: physical y. -/
  | markDead (px : BitVec 11) (py : BitVec 10)
  /-- FLT_CMD CLEAR_REPLAN clears REPLAN status of an OUT field whose last full survey passed. (R495) `f`: field. -/
  | clearReplan (f : Fin 48)
  /-- PERIOD hours since the last pass make a transparent pass due. (R401) `f`: field. -/
  | surveyDue (f : Fin 48)
  /-- FLD_SVY_CMD START_PASS makes a pass due. (R401) `f`: field. -/
  | startPass (f : Fin 48)
  /-- In a survey gap, one slice of a transparent pass runs on every tile of a field. (R400) `f`: field; `fails`: tiles and numbers of the tests (R500) that failed twice. -/
  | surveySlice (f : Fin 48) (fails : List (Fin 17424 × BitVec 16))
  /-- A pass not complete GRACE minutes after it became due is marked overdue. (R402) `f`: field. -/
  | svyOverdue (f : Fin 48)
  /-- FLD_SVY_CMD FULL starts a full survey of an OUT field. (R403) `f`: field. -/
  | full (f : Fin 48)
  /-- FLD_SVY_CMD ABANDON_FULL stops a full survey at the next test boundary. (R403) `f`: field. -/
  | abandonFull (f : Fin 48)
  /-- A full survey ends; the field is zeroized and bloomed again. (R403) `f`: field; `fails`: tiles and numbers of the tests (R500) that failed twice. -/
  | fullSurveyDone (f : Fin 48) (fails : List (Fin 17424 × BitVec 16))
  /-- At every 2^K array acycles, each tile histogram gains one sample. (R506) `f`: field. -/
  | histogramSample (f : Fin 48)
  /-- At the sample points, each UP port's buffer histograms gain one sample. (R509) -/
  | hxHistogramSample
  /-- FLD_TEL_CFG CLEAR zeroes the field's histograms and SAMPLES 64 acycles later. (R510) `f`: field. -/
  | telClear (f : Fin 48)
  /-- Every millisecond, the per-rail current history advances. (R512) `amps`: three averages a field, 0.1 A; `mj`: energy of each field, mJ. -/
  | currentHistoryAdvance (amps : List (BitVec 16)) (mj : List (BitVec 32))
  /-- A write of TEL_HIST_SEL selects and latches one rail history. (R512) `rail`: rail; `f`: field. -/
  | telHistSel (rail : Fin 4) (f : Fin 64)
  /-- A rising edge on PPS_IN latches TEL_TIME and advances the time of day. (R513) -/
  | ppsEdge
  /-- A survey window read becomes SYSTEM READs to the selected tile. (R515) `port`: host port; `view`: view; `off`: offset in the view; `n`: bytes; `ups`: memory upsets that come about. -/
  | surveyRead (port : Fin 2) (view : Fin 3) (off : BitVec 18) (n : Fin 4097) (ups : List (Addr × Upset))
  /-- A survey window write becomes SYSTEM WRITEs, or is denied. (R515) `view`: view; `off`: offset in the view; `data`: bytes. -/
  | surveyWrite (view : Fin 3) (off : BitVec 18) (data : List (BitVec 8))
  /-- No reply within 1 ms ends a survey access with Completer Abort. (R515) `port`: host port; `view`: view; `write`: the access is a write. -/
  | surveyTimeout (port : Fin 2) (view : Fin 3) (write : Bool)
  /-- The TAP IDCODE instruction selects the ID register. (R520) -/
  | idcode
  /-- The TAP BYPASS instruction, or a closed-scope instruction, selects bypass. (R520) -/
  | bypass
  /-- A capture-only scan of the IEEE 1687 network. (R520) `ix`: instrument. -/
  | ijtagRead (ix : BitVec 32)
  /-- A capture and update scan of the IEEE 1687 network, including field clock control. (R521) `u`: the update. -/
  | ijtagRw (u : IjtagUpdate)
  /-- The TAP halts and steps the Base Camp cores. (R521) -/
  | bcHalt
  /-- The scan chains of one field with no live section are scanned with its ACLK stopped. (R521) `f`: field. -/
  | tileScan (f : Fin 48)
  /-- A tile scan ends and the field's counter and col crossings are realigned. (R521) `f`: field. -/
  | tileScanEnd (f : Fin 48)
  /-- A write to a register with no row of its own acts according to its fields' access codes. (R11) `port`: host port; `off`: offset in BAR0; `data`: value; a narrow write takes its low 32 bits; `wide`: 64 bits, not 32; `ideBad`: the TLP fails its IDE check. -/
  | registerWrite (port : Fin 2) (off : BitVec 25) (data : BitVec 64) (wide : Bool) (ideBad : Bool)
  /-- At the end acycle of an invocation's LAST section with no chained invocation, the invocation ends: every tile stays in DONE, the fields' sections stop being live, and each stack controller enters autonomous refresh and makes one step at once. (R169) -/
  | invocationEnd
  /-- A debug challenge nonce that has served no UNLOCK expires 300 s after it was issued, and BC_DBG_CHAL returns to zero. (R381) -/
  | debugNonceExpiry
  /-- While start-up waits in stage 3 with PWR_EN high, 10 s of flow below 40 L/min raises the coolant warning of R40. (R389) -/
  | standbyFlowWarning
  deriving DecidableEq, Repr

end Sys2Proof
end

