-- ==== Sys2Proof/Config.lean ====
section
/-!
DEFINITION. Sys2Proof/Config.lean: what one module's fabrication and the manual's silence fix outside the state: free values.
-/

namespace Sys2Proof.Config

/-- A value that the manual leaves open, fresh at each use: nothing constrains it (assumption 1). The argument is the count
of free values used before. -/
opaque free : Nat → Nat

/-- Whether a handle of a tile (field, place, number) held the key-value cache of a session: the image decides it, and the manual
gives no layout (R193, assumption 31). -/
opaque holdsSession : Nat → Nat → Nat → Nat → Bool

/-- The three check symbols of a code word, as a function of data and tag: the manual names no generator (R81, R82; assumption
32). -/
opaque checkSymbols : Word → BitVec 4 → BitVec 12

/-- What a register write of a command finds outside the registers: the owner command and the debug token that the staging area
holds, whose layouts are not stated, and the plaintext of a container (assumption 68). The argument is the count of free values
used before. -/
opaque ownerAuth : Nat → OwnerAuth
opaque debugToken : Nat → DebugToken
opaque plaintext : Nat → Blob

/-- X25519 (RFC 7748) and ML-KEM-768 (FIPS 203), whose arithmetic the manual leaves to their standards (assumption 3): the public
key of a private one, and the 32 bytes that a private key shares with what the other end sent. -/
opaque xPublic : Nat → Nat
opaque xShared : Nat → List Nat → Nat
opaque kemPublic : Nat → Nat
opaque kemShared : Nat → List Nat → Nat

/-- The PUF (R357): its 2 KiB at a start-up, by the count of free values used before, what the helper data corrects
every reading to, what the device secret is made of from that and the fused seed, and the label of each key derived
from it. -/
opaque pufRead : Nat → Nat
opaque pufCorrected : Nat → Nat
opaque deviceSecret : Nat → Nat → Nat
opaque keyLabel : Nat → List Nat

/-- The Hexkel links: what follows the code in the SPDM messages of a link's set-up, the traffic secrets of its session for a
direction (0 from the requester, 1 to it), which the key schedule of SPDM derives from shares that the manual does not give (R239,
assumption 3), and the test unit of LOOP with a SEQ, whose pattern it does not give either (R243, assumption 34). -/
opaque linkMessage : Nat → List Nat
opaque linkSecret : Nat → Nat → List Nat
opaque testUnit : Nat → List Nat

/-- The record and section revisions of the UEFI specification that R503 names without a value (assumption 1). -/
opaque cperRevision : Nat
opaque cperSectionRevision : Nat

/-- The two certificate chains, 0 Ed25519 and 1 ML-DSA-65, with the digest of the firmware that their Alias certificates carry:
their lengths, their bytes and their digests (assumption 3). -/
opaque chainLen : Nat → Nat → Nat
opaque chainByte : Nat → Nat → Nat → Nat
opaque chainDigest : Nat → Nat → Nat

end Sys2Proof.Config
end

