-- ==== Sys2Proof/Machine/Bytes.lean ====
section
/-!
DEFINITION. Sys2Proof/Machine/Bytes.lean: byte strings as lists of numbers below 256, little-endian numbers in them (R8), and
CRC-32C (R250).
-/

namespace Sys2Proof.Machine

/-- The low `n` bytes of a number, lowest first. -/
def bytesLe : Nat → Nat → List Nat
  | 0, _ => []
  | n + 1, v => v % 256 :: bytesLe n (v / 256)

/-- The number that a list of bytes spells, lowest first. -/
def leNat : List Nat → Nat
  | [] => 0
  | b :: r => b % 256 + 256 * leNat r

/-- `n` bytes from offset `i` of a list, as a number. -/
def leAt (l : List Nat) (i n : Nat) : Nat := leNat ((l.drop i).take n)

/-- A list cut or zero-filled to `n` bytes. -/
def padTo (n : Nat) (l : List Nat) : List Nat := (l ++ List.replicate (n - l.length) 0).take n

/-- One bit of the reflected CRC-32C register. -/
def crcBit (c : Nat) : Nat := if c % 2 = 1 then (c / 2) ^^^ 0x82F63B78 else c / 2

/-- One byte into the CRC-32C register. -/
def crcByte (c b : Nat) : Nat := (List.range 8).foldl (fun c _ => crcBit c) (c ^^^ (b % 256))

/-- CRC-32C of a byte string (R250). -/
def crc32c (l : List Nat) : Nat := (l.foldl crcByte 0xFFFFFFFF) ^^^ 0xFFFFFFFF

end Sys2Proof.Machine
end

