-- ==== Sys2Proof/Machine/Codes.lean ====
section
/-!
DEFINITION. Sys2Proof/Machine/Codes.lean: the fault codes of parts other than tiles, from the fault code tables of the chapters.
-/

namespace Sys2Proof.Machine

/-- rope time deviation, missing TIME, wrong epoch, record far off (R279). -/
def Code.schRopeTime : Nat := 0x0213
/-- ANNOUNCE received after its ratio point (R293). -/
def Code.schRatioLate : Nat := 0x0214
/-- INVOKE received less than 4,096 acycles before its start (R286). -/
def Code.schInvokeLate : Nat := 0x0215
/-- port left UP (R233, R267). -/
def Code.hxLinkDown : Nat := 0x0401
/-- trained width below contract (R230, R233). -/
def Code.hxPortShort : Nat := 0x0402
/-- active lane replaced by a spare (R232). -/
def Code.hxLaneSpared : Nat := 0x0403
/-- frame bad after 8 attempts (R237). -/
def Code.hxRetryLimit : Nat := 0x0404
/-- session failed, or too many tag failures (R228, R242). -/
def Code.hxKeyFail : Nat := 0x0405
/-- record queued beyond 16 acycles (R246). -/
def Code.hxSchedOverrate : Nat := 0x0406
/-- landing buffer full (R248). -/
def Code.hxLandOverflow : Nat := 0x0407
/-- link below 64.0 GT/s ×8 (R327). -/
def Code.hpLinkDegraded : Nat := 0x0501
/-- host link lost (R325). -/
def Code.hpLinkDown : Nat := 0x0502
/-- lease not renewed (R349). -/
def Code.ldgLeaseExpired : Nat := 0x0503
/-- journal full (R340). -/
def Code.ldgJournalFull : Nat := 0x0504
/-- mirror write failed (R354). -/
def Code.ldgMirrorFail : Nat := 0x0505
/-- replayed token differs from the log (R348). -/
def Code.ldgReplayDiverge : Nat := 0x0506
/-- feed not written and journalled, or drain not read, in time (R344). -/
def Code.ldgFeedLate : Nat := 0x0507
/-- TLP failed its IDE check (R327). -/
def Code.hpIdeFail : Nat := 0x0508
/-- input below the warning level (R465). -/
def Code.pwrBrownout : Nat := 0x0601
/-- input recovered; ratio restored (R466). -/
def Code.pwrBrownoutClear : Nat := 0x0602
/-- measured power above a limit (R468). -/
def Code.pwrOverLimit : Nat := 0x0603
/-- rail lost power-good (R464). -/
def Code.pwrRailFail : Nat := 0x0604
/-- thermal stage 1 (R471). -/
def Code.thmWarn : Nat := 0x0605
/-- thermal stage 2 (R471). -/
def Code.thmStepdown : Nat := 0x0606
/-- flow below 40 L/min for 2 s (R40). -/
def Code.cltFlowLow : Nat := 0x0607
/-- inlet rate above 2 K/min (R40). -/
def Code.cltRate : Nat := 0x0608
/-- leak response (R41). -/
def Code.cltLeak : Nat := 0x0609
/-- module trip (R474). -/
def Code.modTrip : Nat := 0x060A
/-- a reset was applied; logged with source, level and scope (R438). -/
def Code.rstApplied : Nat := 0x0701
/-- reset of a field with a live section (R437). -/
def Code.rstSectionCut : Nat := 0x0702
/-- column migration interrupted and the field rebuilt (R450). -/
def Code.rstMigrationCut : Nat := 0x0703
/-- field PLL not locked after three attempts at release (R443). -/
def Code.rstReleaseStall : Nat := 0x0704
/-- stored profile failed its check (R424). -/
def Code.rstProfileInvalid : Nat := 0x0710
/-- firmware failed signature or SVN check (R360, R361). -/
def Code.trustFwVerify : Nat := 0x0802
/-- image container refused (R370). -/
def Code.trustContainer : Nat := 0x0803
/-- sealed handshake or record failed (R377, R378). -/
def Code.trustSealAuth : Nat := 0x0804
/-- debug token refused (R382). -/
def Code.trustDebugDenied : Nat := 0x0805
/-- owner command refused (R368). -/
def Code.trustOwnerDenied : Nat := 0x0806
/-- Hexkel neighbour not accepted (R366). -/
def Code.trustPeerDenied : Nat := 0x0807
/-- belay checkers disagree with the sampled tile (R314). -/
def Code.blyMismatch : Nat := 0x0901
/-- hop cairn differs, window sum not zero, or odd stream (R296, R298, R299). -/
def Code.crnMismatch : Nat := 0x0902
/-- hop cairn not received in time (R298). -/
def Code.crnMissing : Nat := 0x0903
/-- a checker disagreed while the sampled tile and the other checker agreed. -/
def Code.blyChecker : Nat := 0x0904
/-- a structural test failed. -/
def Code.svyTestFail : Nat := 0x0A01
/-- a survey pass became overdue (R402). -/
def Code.svyOverdue : Nat := 0x0A02
/-- a subject was classified permanent. -/
def Code.rprPermanent : Nat := 0x0A03
/-- a column migration completed. -/
def Code.rprMigrated : Nat := 0x0A04
/-- a field entered REPLAN status. -/
def Code.rprReplan : Nat := 0x0A05
/-- SCH_SEAM_SLIP outside a known clock event. -/
def Code.clkIsland : Nat := 0x0A06
/-- a Base Camp lockstep pair stopped or failed its self-test (R385). -/
def Code.bcPairFail : Nat := 0x0A07
/-- logbook entries lost because the entry buffer was full. -/
def Code.logOverflow : Nat := 0x0A08

end Sys2Proof.Machine
end

