-- ==== Sys2Proof/Machine/Sha.lean ====
section
/-!
DEFINITION. Sys2Proof/Machine/Sha.lean: SHA-384 (FIPS 180-4), HMAC and HKDF over it: the JOIN digest and the derivation
of keys (spec 09_ropes R282, 11_trust R355, R357, R376).
-/

namespace Sys2Proof.Machine

/-- Round constants. -/
def sha.k : List (BitVec 64) :=
  [0x428A2F98D728AE22, 0x7137449123EF65CD, 0xB5C0FBCFEC4D3B2F, 0xE9B5DBA58189DBBC,
   0x3956C25BF348B538, 0x59F111F1B605D019, 0x923F82A4AF194F9B, 0xAB1C5ED5DA6D8118,
   0xD807AA98A3030242, 0x12835B0145706FBE, 0x243185BE4EE4B28C, 0x550C7DC3D5FFB4E2,
   0x72BE5D74F27B896F, 0x80DEB1FE3B1696B1, 0x9BDC06A725C71235, 0xC19BF174CF692694,
   0xE49B69C19EF14AD2, 0xEFBE4786384F25E3, 0x0FC19DC68B8CD5B5, 0x240CA1CC77AC9C65] ++
  [0x2DE92C6F592B0275, 0x4A7484AA6EA6E483, 0x5CB0A9DCBD41FBD4, 0x76F988DA831153B5,
   0x983E5152EE66DFAB, 0xA831C66D2DB43210, 0xB00327C898FB213F, 0xBF597FC7BEEF0EE4,
   0xC6E00BF33DA88FC2, 0xD5A79147930AA725, 0x06CA6351E003826F, 0x142929670A0E6E70,
   0x27B70A8546D22FFC, 0x2E1B21385C26C926, 0x4D2C6DFC5AC42AED, 0x53380D139D95B3DF,
   0x650A73548BAF63DE, 0x766A0ABB3C77B2A8, 0x81C2C92E47EDAEE6, 0x92722C851482353B] ++
  [0xA2BFE8A14CF10364, 0xA81A664BBC423001, 0xC24B8B70D0F89791, 0xC76C51A30654BE30,
   0xD192E819D6EF5218, 0xD69906245565A910, 0xF40E35855771202A, 0x106AA07032BBD1B8,
   0x19A4C116B8D2D0C8, 0x1E376C085141AB53, 0x2748774CDF8EEB99, 0x34B0BCB5E19B48A8,
   0x391C0CB3C5C95A63, 0x4ED8AA4AE3418ACB, 0x5B9CCA4F7763E373, 0x682E6FF3D6B2B8A3,
   0x748F82EE5DEFB2FC, 0x78A5636F43172F60, 0x84C87814A1F0AB72, 0x8CC702081A6439EC] ++
  [0x90BEFFFA23631E28, 0xA4506CEBDE82BDE9, 0xBEF9A3F7B2C67915, 0xC67178F2E372532B,
   0xCA273ECEEA26619C, 0xD186B8C721C0C207, 0xEADA7DD6CDE0EB1E, 0xF57D4F7FEE6ED178,
   0x06F067AA72176FBA, 0x0A637DC5A2C898A6, 0x113F9804BEF90DAE, 0x1B710B35131C471B,
   0x28DB77F523047D84, 0x32CAAB7B40C72493, 0x3C9EBE0A15C9BEBC, 0x431D67C49C100D4C,
   0x4CC5D4BECB3E42B6, 0x597F299CFC657E2A, 0x5FCB6FAB3AD6FAEC, 0x6C44198C4A475817]

/-- The initial hash value of SHA-384. -/
def sha.h0 : List (BitVec 64) :=
  [0xCBBB9D5DC1059ED8, 0x629A292A367CD507, 0x9159015A3070DD17, 0x152FECD8F70E5939,
   0x67332667FFC00B31, 0x8EB44A8768581511, 0xDB0C2E0D64F98FA7, 0x47B5481DBEFA4FA4]

/-- A word of a state or schedule list. -/
def sha.at (l : List (BitVec 64)) (i : Nat) : BitVec 64 := l.getD i 0

/-- The message schedule, newest word first, extended by `n` words. -/
def sha.extend : Nat → List (BitVec 64) → List (BitVec 64)
  | 0, w => w
  | n + 1, w =>
    let a := sha.at w 1
    let b := sha.at w 14
    let s1 := a.rotateRight 19 ^^^ a.rotateRight 61 ^^^ (a >>> 6)
    let s0 := b.rotateRight 1 ^^^ b.rotateRight 8 ^^^ (b >>> 7)
    sha.extend n ((s1 + sha.at w 6 + s0 + sha.at w 15) :: w)

/-- One round on the working variables a to h. -/
def sha.round (v : List (BitVec 64)) (k w : BitVec 64) : List (BitVec 64) :=
  let a := sha.at v 0
  let b := sha.at v 1
  let c := sha.at v 2
  let e := sha.at v 4
  let f := sha.at v 5
  let g := sha.at v 6
  let t1 := sha.at v 7 + (e.rotateRight 14 ^^^ e.rotateRight 18 ^^^ e.rotateRight 41) + ((e &&& f) ^^^ (~~~e &&& g)) + k + w
  let t2 := (a.rotateRight 28 ^^^ a.rotateRight 34 ^^^ a.rotateRight 39) + ((a &&& b) ^^^ (a &&& c) ^^^ (b &&& c))
  [t1 + t2, a, b, c, sha.at v 3 + t1, e, f, g]

/-- A big-endian 64-bit word of a byte list. -/
def sha.word (b : List Nat) (i : Nat) : BitVec 64 :=
  BitVec.ofNat 64 (((b.drop (8 * i)).take 8).foldl (fun n x => 256 * n + x % 256) 0)

/-- One 128-byte block. -/
def sha.block (h : List (BitVec 64)) (b : List Nat) : List (BitVec 64) :=
  let w := (sha.extend 64 (((List.range 16).map (sha.word b)).reverse)).reverse
  let v := (sha.k.zip w).foldl (fun v p => sha.round v p.1 p.2) h
  (h.zip v).map (fun p => p.1 + p.2)

/-- The blocks of a padded message. -/
def sha.blocks : Nat → List (BitVec 64) → List Nat → List (BitVec 64)
  | 0, h, _ => h
  | n + 1, h, b => sha.blocks n (sha.block h (b.take 128)) (b.drop 128)

/-- A number as `n` bytes, highest first. -/
def bytesBe (n v : Nat) : List Nat := (bytesLe n v).reverse

/-- SHA-384 of a byte string: 48 bytes. -/
def sha384 (b : List Nat) : List Nat :=
  let z := (239 - b.length % 128) % 128
  let m := b ++ [0x80] ++ List.replicate z 0 ++ bytesBe 16 (8 * b.length)
  ((sha.blocks (m.length / 128) sha.h0 m).take 6).flatMap (fun w => bytesBe 8 w.toNat)

/-- HMAC-SHA-384 (RFC 2104): 48 bytes. -/
def hmac384 (key m : List Nat) : List Nat :=
  let k := padTo 128 (if 128 < key.length then sha384 key else key)
  sha384 (k.map (· ^^^ 0x5C) ++ sha384 (k.map (· ^^^ 0x36) ++ m))

/-- HKDF-SHA-384 (RFC 5869): the extraction, and the expansion to `n` bytes. -/
def hkdfExtract (salt ikm : List Nat) : List Nat := hmac384 salt ikm
def hkdfExpand (prk info : List Nat) (n : Nat) : List Nat :=
  let t := (List.range ((n + 47) / 48)).foldl
    (fun (t : List Nat × List Nat) i => let b := hmac384 prk (t.2 ++ info ++ [i + 1])
      (t.1 ++ b, b)) ([], [])
  t.1.take n

end Sys2Proof.Machine
end

