-- ==== Sys2Proof/Machine/Aes.lean ====
section
/-!
DEFINITION. Sys2Proof/Machine/Aes.lean: AES-256-GCM (NIST SP 800-38D) on byte strings, the nonce of a sealed record or frame, and the
keys of a sealed session (spec 08_hexkel R240, 11_trust R355, R376, R378, R379).
-/

namespace Sys2Proof.Machine

/-- Bytewise exclusive or of two strings, as long as the shorter. -/
def xorBytes (a b : List Nat) : List Nat := (a.zip b).map (fun p => p.1 ^^^ p.2)

/-! ### The block cipher (FIPS 197) -/

/-- Doubling in the field of the cipher. -/
def aes.dbl (b : Nat) : Nat := if b < 128 then 2 * b else (2 * b - 256) ^^^ 0x1B

/-- The product of two bytes in the field of the cipher, by `n` bits of the second. -/
def aes.mul : Nat → Nat → Nat → Nat
  | 0, _, _ => 0
  | n + 1, a, b => (if b % 2 = 1 then a else 0) ^^^ aes.mul n (aes.dbl a) (b / 2)

/-- The inverse of a byte, 0 for 0: its power 254. -/
def aes.inv (a : Nat) : Nat :=
  let sq := fun (x : Nat) => aes.mul 8 x x
  let p := (List.range 6).foldl (fun (p : Nat × Nat) _ => (sq p.1, aes.mul 8 p.2 (sq p.1))) (sq a, sq a)
  p.2

/-- The substitution of a byte: the inverse, then the affine map. -/
def aes.sub (a : Nat) : Nat :=
  let x := aes.inv a
  let rot := fun (k : Nat) => (x * 2 ^ k) % 256 ||| x / 2 ^ (8 - k)
  x ^^^ rot 1 ^^^ rot 2 ^^^ rot 3 ^^^ rot 4 ^^^ 0x63

/-- The key schedule: words newest first, `i` the index of the next one and `rc` the round constant. -/
def aes.expand : Nat → Nat → Nat → List (List Nat) → List (List Nat)
  | 0, _, _, w => w
  | n + 1, i, rc, w =>
    let t := w.headD []
    let old := w.getD 7 []
    if i % 8 = 0 then
      let g := xorBytes ((t.drop 1 ++ t.take 1).map aes.sub) [rc, 0, 0, 0]
      aes.expand n (i + 1) (aes.dbl rc) (xorBytes old g :: w)
    else aes.expand n (i + 1) rc (xorBytes old (if i % 8 = 4 then t.map aes.sub else t) :: w)

/-- The 15 round keys of a 32-byte key. -/
def aes.roundKeys (key : List Nat) : List (List Nat) :=
  let w := (aes.expand 52 8 1 (((List.range 8).map (fun k => padTo 4 (key.drop (4 * k)))).reverse)).reverse
  (List.range 15).map (fun r => ((w.drop (4 * r)).take 4).flatten)

/-- The rows of a block rotated. -/
def aes.shiftRows (b : List Nat) : List Nat := (List.range 16).map (fun i => b.getD ((i + 4 * (i % 4)) % 16) 0)

/-- The columns of a block mixed. -/
def aes.mixColumns (b : List Nat) : List Nat :=
  (List.range 16).map (fun i =>
    let x := fun (k : Nat) => b.getD (i / 4 * 4 + (i + k) % 4) 0
    aes.dbl (x 0) ^^^ (aes.dbl (x 1) ^^^ x 1) ^^^ x 2 ^^^ x 3)

/-- The encryption of a 16-byte block under round keys. -/
def aes.block (rk : List (List Nat)) (b : List Nat) : List Nat :=
  let mid := ((rk.drop 1).take 13).foldl (fun b k => xorBytes (aes.mixColumns (aes.shiftRows (b.map aes.sub))) k)
    (xorBytes b (rk.headD []))
  xorBytes (aes.shiftRows (mid.map aes.sub)) (rk.getD 14 [])

/-! ### Galois/counter mode -/

/-- A number of a byte string, highest byte first. -/
def beNat (b : List Nat) : Nat := b.foldl (fun n x => 256 * n + x % 256) 0

/-- The product of two blocks in the field of the mode, by `n` bits of the first, its highest bit first. -/
def gcm.mul : Nat → Nat → Nat → Nat
  | 0, _, _ => 0
  | n + 1, x, v =>
    (if x / 2 ^ n % 2 = 1 then v else 0) ^^^ gcm.mul n x (if v % 2 = 1 then (v / 2) ^^^ (0xE1 * 2 ^ 120) else v / 2)

/-- The hash of whole blocks. -/
def gcm.hash (h : Nat) : Nat → Nat → List Nat → Nat
  | 0, y, _ => y
  | n + 1, y, b => gcm.hash h n (gcm.mul 128 (y ^^^ beNat (b.take 16)) h) (b.drop 16)

/-- A string filled with zeros to whole blocks. -/
def gcm.pad (b : List Nat) : List Nat := padTo ((b.length + 15) / 16 * 16) b

/-- The key stream exclusive-ored with a string, from counter 2 on. -/
def gcm.stream (rk : List (List Nat)) (nonce b : List Nat) : List Nat :=
  xorBytes b ((List.range ((b.length + 15) / 16)).flatMap (fun k => aes.block rk (nonce ++ bytesBe 4 (k + 2))))

/-- The 16-byte tag of a ciphertext. -/
def gcm.tag (rk : List (List Nat)) (nonce aad ct : List Nat) : List Nat :=
  let h := beNat (aes.block rk (List.replicate 16 0))
  let m := gcm.pad aad ++ gcm.pad ct ++ bytesBe 8 (8 * aad.length) ++ bytesBe 8 (8 * ct.length)
  xorBytes (bytesBe 16 (gcm.hash h (m.length / 16) 0 m)) (aes.block rk (nonce ++ bytesBe 4 1))

/-- AES-256-GCM: the ciphertext of a plaintext, then its tag. -/
def gcmSeal (key nonce aad plain : List Nat) : List Nat :=
  let rk := aes.roundKeys key
  let ct := gcm.stream rk nonce plain
  ct ++ gcm.tag rk nonce aad ct

/-- AES-256-GCM: the plaintext of a ciphertext with its tag, and whether the tag verifies. -/
def gcmOpen (key nonce aad sealed_ : List Nat) : List Nat × Bool :=
  let rk := aes.roundKeys key
  let ct := sealed_.take (sealed_.length - 16)
  (gcm.stream rk nonce ct, decide (16 ≤ sealed_.length) && gcm.tag rk nonce aad ct = sealed_.drop (sealed_.length - 16))

/-- A 12-byte IV exclusive-ored with a 64-bit little-endian number in its low-order bytes: bytes 0 to 7 (R240; assumption 3). -/
def ivNonce (iv : List Nat) (n : Nat) : List Nat := xorBytes (padTo 12 iv) (bytesLe 8 n ++ List.replicate 4 0)

/-! ### The keys of a sealed session (R376); `okm` is the 136 bytes that HKDF gives -/

def sealKU (okm : List Nat) : List Nat := okm.take 32
def sealIVU (okm : List Nat) : List Nat := (okm.drop 32).take 12
def sealKD (okm : List Nat) : List Nat := (okm.drop 44).take 32
def sealIVD (okm : List Nat) : List Nat := (okm.drop 76).take 12
def sealKC (okm : List Nat) : List Nat := (okm.drop 88).take 48

/-- The ASCII string "Syolatas seal". -/
def sealLabel : List Nat := [0x53, 0x79, 0x6F, 0x6C, 0x61, 0x74, 0x61, 0x73, 0x20, 0x73, 0x65, 0x61, 0x6C]
/-- The ASCII strings "client" and "device". -/
def sealClient : List Nat := [0x63, 0x6C, 0x69, 0x65, 0x6E, 0x74]
def sealDevice : List Nat := [0x64, 0x65, 0x76, 0x69, 0x63, 0x65]

/-- TH: offer bytes 0x000 to 0x51F, then open bytes 0x000 to 0x46F. -/
def sealTH (offer open_ : List Nat) : List Nat := sha384 (offer.take 0x520 ++ open_.take 0x470)

/-- The derived bytes, of the shared secrets, the offer's NONCE and TH. -/
def sealOkm (ss nonce th : List Nat) : List Nat := hkdfExpand (hkdfExtract nonce ss) (sealLabel ++ th) 136

end Sys2Proof.Machine
end

