-- ==== Sys2Proof/Machine/SMap.lean ====
section
/-!
DEFINITION. Sys2Proof/Machine/SMap.lean: sparse data by key, as a list of (key, value) pairs in one canonical form: keys
strictly rising, and no listed value equal to what an unlisted key reads as.
-/

namespace Sys2Proof.Machine

/-- Sparse data by key. -/
abbrev SMap (α : Type) := List (Nat × α)

/-- What the key `i` holds; `d` is what an unlisted key reads as. -/
def SMap.get {α : Type} (d : α) : SMap α → Nat → α
  | [], _ => d
  | (k, v) :: r, i => if i = k then v else SMap.get d r i

/-- The map with `v` listed under `i`, at its place in the rising order. -/
def SMap.ins {α : Type} (i : Nat) (v : α) : SMap α → SMap α
  | [] => [(i, v)]
  | (k, w) :: r =>
    if i < k then (i, v) :: (k, w) :: r
    else if i = k then (i, v) :: r
    else (k, w) :: SMap.ins i v r

/-- Writes `v` under `i`; writing what an unlisted key reads as removes the entry. -/
def SMap.set {α : Type} [DecidableEq α] (d : α) (m : SMap α) (i : Nat) (v : α) : SMap α :=
  if v = d then m.filter (fun p => p.1 ≠ i) else SMap.ins i v m

/-- Changes the value under `i` by `f`. -/
def SMap.upd {α : Type} [DecidableEq α] (d : α) (m : SMap α) (i : Nat) (f : α → α) : SMap α :=
  m.set d i (f (m.get d i))

/-- Keys strictly rise. -/
def SMap.sorted {α : Type} : SMap α → Bool
  | [] => true
  | [_] => true
  | (a, _) :: (b, w) :: r => decide (a < b) && SMap.sorted ((b, w) :: r)

/-- The canonical form: keys strictly rise and no entry equals the default. -/
def SMap.wf {α : Type} [DecidableEq α] (d : α) (m : SMap α) : Bool :=
  SMap.sorted m && m.all (fun p => decide (p.2 ≠ d))

/-- Removes the entries whose key fails the test. -/
def SMap.keep {α : Type} (m : SMap α) (p : Nat → Bool) : SMap α := m.filter (fun e => p e.1)

/-- Writes a list of values at consecutive keys from `i`. -/
def SMap.setList {α : Type} [DecidableEq α] (d : α) (m : SMap α) (i : Nat) : List α → SMap α
  | [] => m
  | v :: r => SMap.setList d (m.set d i v) (i + 1) r

/-- Reads `n` values at consecutive keys from `i`. -/
def SMap.getList {α : Type} (d : α) (m : SMap α) (i n : Nat) : List α :=
  (List.range n).map (fun k => m.get d (i + k))

end Sys2Proof.Machine
end

