-- ==== Sys2Proof/Machine/LedgerTypes.lean ====
section
/-!
DEFINITION. Sys2Proof/Machine/LedgerTypes.lean: the host ports, the work ledger, the journal and the completion rings as far as
no register holds them (spec 10_host, 11_trust R375 to R380).
-/

namespace Sys2Proof.Machine

/-- An accepted request (R335 to R338). `fed` counts the payload bytes already placed in feeds, `made` the tokens
produced. -/
structure Req where
  seqNo : Nat
  kind : Nat
  entry : Nat
  flags : Nat
  port : Nat
  ring : Nat
  maxtok : Nat
  params : List Nat
  seed : Nat
  rentry : Nat
  tag : Nat
  desc : List Nat
  payload : List Nat
  /-- STATUS of a rejected request -/
  rejected : Option Nat
  fed : Nat
  made : Nat
  /-- its place in the order of acceptance -/
  order : Nat
  deriving DecidableEq, Repr

/-- A completion record (R346, R347): its drain's end acycle, and where it is: 0 not released, 1 released, 2 in its ring's
slot. -/
structure Rec where
  session : Nat
  seqNo : Nat
  index : Nat
  token : Nat
  isEnd : Bool
  noToken : Bool
  status : Nat
  redelivered : Bool
  aux : Nat
  endAcyc : Nat
  place : Nat
  /-- it ends a CLOSE -/
  close : Bool
  /-- the port and ring that take it (R347, R350) -/
  port : Nat
  ring : Nat
  /-- the keys of the sealed session, as the 136 bytes of R376; none where it is not sealed -/
  key : List Nat
  deriving DecidableEq, Repr

/-- A pending seal offer (R375 to R377): OFFER_ID, the refcycle of its expiry, its bytes 0x000 to 0x51F, and its ephemeral private
keys, X25519 and ML-KEM-768. -/
structure Offer where
  id : Nat
  ends : Nat
  head : List Nat
  xpriv : Nat
  kem : Nat
  deriving DecidableEq, Repr

/-- A session block, and what Base Camp keeps of the session beside it (R332 to R335, R377 to R379). -/
structure Session where
  state : Nat
  owner : Nat
  rentry : Nat
  tenant : Nat
  dups : Nat
  nextSeq : Nat
  doneSeq : Nat
  rel : Nat
  dlv : Nat
  gaps : Nat
  badCrc : Nat
  lastErr : Nat
  /-- accepted requests that have not ended, oldest first -/
  active : List Req
  /-- records not consumed, in INDEX order -/
  recs : List Rec
  /-- the token log: released tokens by index, each plus 1 -/
  tokens : SMap Nat
  /-- bytes of a re-prefill payload still to feed; none where no re-prefill is due (R353) -/
  refill : Option (List Nat)
  /-- bytes of the re-prefill payload already fed -/
  refed : Nat
  /-- keys of the sealed session, as the 136 bytes that R376 derives; none where it is not sealed -/
  key : List Nat
  /-- records released since it was sealed (R379) -/
  sealedRecs : Nat
  /-- pending offer -/
  offer : Option Offer
  /-- a sealed RESTORE was rejected: sealed requests end with STATUS CLOSED (R380) -/
  wasSealed : Bool
  deriving DecidableEq, Repr

/-- A session after L4: FREE with NEXTSEQ = 1, every other field 0 (R334). -/
def Session.zero : Session where
  state := 0
  owner := 0
  rentry := 0
  tenant := 0
  dups := 0
  nextSeq := 1
  doneSeq := 0
  rel := 0
  dlv := 0
  gaps := 0
  badCrc := 0
  lastErr := 0
  active := []
  recs := []
  tokens := []
  refill := none
  refed := 0
  key := []
  sealedRecs := 0
  offer := none
  wasSealed := false

/-- A journal record: 1 ACCEPT, 2 INVOKE, 3 FEED, 4 TOKENS, 5 CLOSE, 6 FREE. -/
structure Jrec where
  type : Nat
  session : Nat
  key : Nat
  jseq : Nat
  prompt : Bool
  body : List Nat
  deriving DecidableEq, Repr

/-- Its length in 64-byte units, header included; the image of a feed area is 256 KiB, of which `body` lists the bytes up to
the last that is not zero. -/
def Jrec.units (r : Jrec) : Nat := if r.type = 3 then 4097 else 1 + (r.body.length + 63) / 64

/-- An enabled completion ring (R346): the fields latched at its enabling, PROD, and the records in its slots that the host
has not consumed, oldest first, as session, SEQ, INDEX and whether the record has no token. The last `flying` of them are
writes that have not completed. -/
structure Ring where
  en : Bool
  base : Nat
  entries : Nat
  vector : Nat
  coalesce : Nat
  cons : Nat
  prod : Nat
  slots : List (Nat × Nat × Nat × Bool)
  flying : Nat
  /-- a record's interrupt waits for COALESCE -/
  due : Bool
  /-- the records whose writes were discarded, in the order of the slots that they are to be written to again (R328) -/
  redo : List (Nat × Nat × Nat × Bool)
  deriving DecidableEq, Repr

/-- A ring that is not enabled. -/
def Ring.zero : Ring := ⟨false, 0, 0, 0, 0, 0, 0, [], 0, false, []⟩

/-- A request whose acceptance record is being written (R338), with the ports whose mirror readback is awaited. -/
structure Accepting where
  session : Nat
  port : Nat
  req : Req
  mirror : Bool
  deriving DecidableEq, Repr

/-- A host aperture access that waits for admission (R202): its port, BAR4 offset, direction, bytes read and bytes written. -/
structure ApAccess where
  port : Nat
  off : Nat
  write : Bool
  n : Nat
  data : List Byte
  deriving DecidableEq, Repr

/-- The ledger. -/
structure Ledger where
  /-- waiting host aperture accesses, oldest first -/
  apWait : List ApAccess
  /-- the host-written bytes of BAR2: policy table, ring and mirror descriptors, request rings -/
  mem : SMap (BitVec 8)
  /-- posting maps A and B, bit s for session s -/
  mapA : Nat
  mapB : Nat
  sessions : SMap Session
  /-- journal records, oldest first, and the next journal sequence number -/
  journal : List Jrec
  jseq : Nat
  /-- units in use when the journal became full -/
  fullAt : Nat
  accepting : List Accepting
  /-- completion rings by 64 × port + index -/
  rings : SMap Ring
  /-- refcycle of each port's lease expiry, plus 1; 0 never renewed -/
  lease : SMap Nat
  /-- ports whose expiry has been served -/
  expired : List Nat
  accepted : Nat
  released : Nat
  /-- 0 CLOSED, 1 OPEN, 2 HOLD, 3 JFULL -/
  state : Nat
  /-- invocations whose feed half is written and journalled, and whose drain half has been read -/
  fed : List Nat
  drained : List Nat
  /-- MSI-X bytes by port × 2048 + offset: the table, and from offset 1024 the pending-bit array -/
  msix : SMap (BitVec 8)
  /-- subsystem IDs taken at the last L3 or L4 release (R326) -/
  subVendor : Nat
  subDevice : Nat
  /-- the last summary of active requests that each group of 64 entries sent to the anchor (R341) -/
  told : SMap (List Nat)
  /-- PERST_N of each port is low -/
  perstA : Bool
  perstB : Bool
  deriving DecidableEq, Repr

/-- The ledger after L4 and before its initialisation. Both PERST_N inputs are pulled down (R25). -/
def Ledger.zero : Ledger where
  apWait := []
  mem := []
  mapA := 0
  mapB := 0
  sessions := []
  journal := []
  jseq := 0
  fullAt := 0
  accepting := []
  rings := []
  lease := []
  expired := []
  accepted := 0
  released := 0
  state := 0
  fed := []
  drained := []
  msix := []
  subVendor := 0
  subDevice := 0
  told := []
  perstA := true
  perstB := true

end Sys2Proof.Machine
end

