-- ==== Sys2Proof/Machine/LedgerOps.lean ====
section
/-!
DEFINITION. Sys2Proof/Machine/LedgerOps.lean: operations over the ledger alone: the journal, a session's records, re-prefill and
the zeroization of a session (spec 10_host R340, R347, R353; 11_trust R372).
-/

namespace Sys2Proof.Machine

/-- Session `i`. -/
def Ledger.sess (l : Ledger) (i : Nat) : Session := l.sessions.get Session.zero i
/-- Session `i` changed. -/
def Ledger.upd (l : Ledger) (i : Nat) (g : Session → Session) : Ledger :=
  { l with sessions := l.sessions.upd Session.zero i g }
/-- Every session of a list changed. -/
def Ledger.updAll (l : Ledger) (is : List Nat) (g : Session → Session) : Ledger := is.foldl (fun l i => l.upd i g) l
/-- Completion ring `k` of a port. -/
def Ledger.ring (l : Ledger) (port k : Nat) : Ring := l.rings.get Ring.zero (64 * port + k)
/-- A completion ring changed. -/
def Ledger.updRing (l : Ledger) (port k : Nat) (g : Ring → Ring) : Ledger :=
  { l with rings := l.rings.upd Ring.zero (64 * port + k) g }

/-- The indices of the sessions whose state passes a test. -/
def Ledger.withState (l : Ledger) (p : Nat → Bool) : List Nat := (l.sessions.filter (fun e => p e.2.state)).map (·.1)

/-- Units of records in the journal (R339). -/
def Ledger.units (l : Ledger) : Nat := (l.journal.map Jrec.units).foldl (· + ·) 0
/-- Units of records that the Journal area of 4 GiB holds, in two copies of each (R197, R499). -/
def journalSize : Nat := 2 ^ 25
/-- A record of a number of units fits beside the records written and `more` units under way. -/
def Ledger.fits (l : Ledger) (more units : Nat) : Bool := decide (l.units + more + units ≤ journalSize)
/-- A record joins the journal. -/
def Ledger.append (l : Ledger) (type session key : Nat) (prompt : Bool) (body : List Nat) : Ledger :=
  { l with journal := l.journal ++ [⟨type, session, key, l.jseq, prompt, body⟩], jseq := l.jseq + 1 }
/-- The records that a test keeps. -/
def Ledger.keepJ (l : Ledger) (p : Jrec → Bool) : Ledger := { l with journal := l.journal.filter p }
/-- The FEED record of an invocation. -/
def Ledger.feedRec (l : Ledger) (q : Nat) : Option Jrec := l.journal.find? (fun r => r.type = 3 && r.key = q)

/-- `n` host-written bytes of BAR2 from an offset, as a number. -/
def Ledger.u (l : Ledger) (off n : Nat) : Nat := leNat ((SMap.getList 0 l.mem off n).map (·.toNat))

/-- BATCH, PMAX and the constants of an entry policy row (R341). -/
def Ledger.batch (l : Ledger) (e : Nat) : Nat := l.u (0x1000 + 64 * e) 2
def Ledger.pmax (l : Ledger) (e : Nat) : Nat := l.u (0x1002 + 64 * e) 1
def Ledger.pconst (l : Ledger) (e k : Nat) : Nat := l.u (0x1004 + 64 * e + 4 * k) 4

/-! ### A session's records (R347) -/

/-- The session's next token index: after every released record and every record drained. -/
def Session.nextIndex (x : Session) : Nat := x.recs.foldl (fun n r => if r.noToken then n else max n (r.index + 1)) x.rel
/-- The request's END record has been drained or made. -/
def Session.over (x : Session) (seq : Nat) : Bool := x.recs.any (fun r => r.isEnd && r.seqNo = seq)
/-- Whether a request ends without an invocation: it is rejected, or a CLOSE, NOP or RESTORE. -/
def Req.still (r : Req) : Bool := r.rejected.isSome || r.kind ≠ 1

/-- The NOTOKEN END record of a request (R337, R347). -/
def Session.endRec (x : Session) (i : Nat) (r : Req) (status : Nat) : Rec :=
  { session := i, seqNo := r.seqNo, index := x.nextIndex, token := 0, isEnd := true, noToken := true, status := status
    redelivered := false, aux := r.tag, endAcyc := 0, place := 0, close := (r.kind = 2 && r.rejected.isNone) || status = 4
    port := r.port, ring := r.ring, key := x.key }

/-- Requests end in sequence order: one that needs no invocation ends when every one before it has (R337, R347). -/
def Session.settle (x : Session) (i : Nat) : List Req → Session
  | [] => x
  | r :: rest =>
    if x.over r.seqNo then x.settle i rest
    else if r.still then
      Session.settle { x with recs := x.recs ++ [x.endRec i r (r.rejected.getD 0)] } i rest
    else x

/-- Session `i` with the requests ended that can end. -/
def Ledger.settle (l : Ledger) (i : Nat) : Ledger := l.upd i (fun x => x.settle i x.active)

/-- The request runs: it has not ended and waits for nothing before it in its session. -/
def Session.running (x : Session) : Option Req :=
  match x.active.find? (fun r => !x.over r.seqNo) with
  | some r => if r.still then none else some r
  | none => none

/-- The entry that a session wants invoked: its re-prefill entry, or its running request's (R341, R353). -/
def Session.wants (x : Session) : Option Nat :=
  if x.refill.isSome then some x.rentry else if x.state = 3 then none else x.running.map (·.entry)

/-- The sessions with work for an entry, in order of index. -/
def Ledger.wanting (l : Ledger) (e : Nat) : List Nat := (l.sessions.filter (fun p => p.2.wants = some e)).map (·.1)

/-- The largest descriptor parameter `k` of the requests that want an entry (R341). -/
def Ledger.largest (l : Ledger) (e k : Nat) : Nat :=
  (l.wanting e).foldl (fun n i => max n (match (l.sess i).running with
    | some r => r.params.getD k 0
    | none => 0)) 0

/-- Records not yet released are discarded, and their requests run again (R304, R316). -/
def Session.discard (x : Session) (i : Nat) : Session :=
  let lost := x.recs.filter (fun r => r.place = 0 && !r.noToken && decide (x.rel ≤ r.index))
  let y : Session := { x with
    recs := x.recs.filter (fun r => r.place ≠ 0)
    active := x.active.map (fun q => { q with made := q.made - (lost.filter (fun r => r.seqNo = q.seqNo)).length }) }
  y.settle i y.active

/-- Unreleased completion records of every session are discarded (R304). -/
def Ledger.discard (l : Ledger) : Ledger :=
  l.sessions.foldl (fun l e => l.upd e.1 (fun x => x.discard e.1)) l

/-! ### Re-prefill (R353) -/

/-- What the seal engine makes of a sealed payload under a session's keys, with its descriptor: the plaintext, and whether the tag
verifies (R378). -/
def unsealPayload (okm desc b : List Nat) : List Nat × Bool :=
  gcmOpen (sealKU okm) (ivNonce (sealIVU okm) (leAt desc 0 8)) (desc.take 0x50) b

/-- A payload as the image sees it: a sealed one is decrypted (R378). -/
def openPayload (okm desc b : List Nat) : List Nat := if okm = [] then b else (unsealPayload okm desc b).1

/-- The payload of a session's re-prefill: its PROMPT payloads that a feed has begun or ended, then its token log. -/
def Ledger.refillBytes (l : Ledger) (i : Nat) : List Nat :=
  let x := l.sess i
  let waits := fun (seq : Nat) => x.active.any (fun r => r.seqNo = seq && r.fed = 0 && r.made = 0 && !x.over seq)
  (l.journal.filter (fun r => r.type = 1 && r.session = i && r.prompt && !waits r.key)).flatMap
    (fun r => openPayload x.key r.body (r.body.drop 256)) ++
  (List.range x.rel).flatMap (fun k => bytesLe 4 (x.tokens.get 0 k - 1))

/-- A session is to be re-prefilled; one without a re-prefill entry ends its requests with STATUS ENTRY_GONE. -/
def Ledger.rebuild (l : Ledger) (i : Nat) : Ledger :=
  let x := l.sess i
  if x.rentry = 0xFF then
    (l.upd i (fun x => { x with active := x.active.map (fun r =>
      if r.kind = 1 && r.rejected.isNone then { r with rejected := some 3 } else r) })).settle i
  else
    let b := l.refillBytes i
    l.upd i (fun x => { x with
      state := 3
      refill := some b
      refed := 0
      active := x.active.map (fun r => if r.fed = 0 && r.made = 0 then r else { r with fed := r.payload.length }) })

/-- Every session that is OPEN, ORPHAN or REBUILD is re-prefilled (R193, R449). -/
def Ledger.rebuildAll (l : Ledger) : Ledger := (l.withState (fun v => decide (v ≠ 0))).foldl Ledger.rebuild l

/-- Of those, the sessions given are re-prefilled (R193). -/
def Ledger.rebuildSome (l : Ledger) (p : Nat → Bool) : Ledger :=
  ((l.withState (fun v => decide (v ≠ 0))).filter p).foldl Ledger.rebuild l

/-- A rope that starts with no checkpoint has none of the work done for a session: those that had begun are re-prefilled. -/
def Ledger.rebuildBegun (l : Ledger) : Ledger :=
  ((l.sessions.filter (fun e => e.2.state ≠ 0 && (decide (0 < e.2.rel) ||
    e.2.active.any (fun r => decide (0 < r.fed) || decide (0 < r.made))))).map (·.1)).foldl Ledger.rebuild l

/-! ### The end of a session (R372) -/

/-- The keys of a session, and its ACCEPT and TOKENS records, are erased. -/
def Ledger.erase (l : Ledger) (i : Nat) : Ledger :=
  (l.keepJ (fun r => !(r.session = i && (r.type = 1 || r.type = 4)))).upd i (fun x =>
    { x with key := [], sealedRecs := 0, tokens := [], refill := none, refed := 0 })

/-- A CLOSE completes: the session is FREE and keeps its sequence number; a RUN already accepted behind it opens it again
(R334, R372). -/
def Ledger.close (l : Ledger) (i seq : Nat) : Ledger :=
  let l := ((l.erase i).append 6 i seq false [])
  l.upd i (fun x =>
    let rest := x.active.filter (fun r => decide (seq < r.seqNo))
    match rest with
    | [] => { x with state := 0, owner := 0, rentry := 0, tenant := 0, active := [] }
    | r :: _ => { x with active := rest, rentry := r.rentry })

end Sys2Proof.Machine
end

