-- ==== Sys2Proof/Machine/Fp.lean ====
section
/-!
DEFINITION. Sys2Proof/Machine/Fp.lean: element formats, exact dyadic arithmetic, rounding to nearest even, the exception
flags, and the transcendental procedures (spec 03_arithmetic, R87 to R93, R108, R119 to R123).
-/

namespace Sys2Proof.Machine

/-- An exact floating-point datum: a NaN (signalling or quiet), an infinity, or plus or minus `m * 2^e`. -/
inductive Fp where
  | nan (signalling : Bool)
  | inf (neg : Bool)
  | fin (neg : Bool) (m : Nat) (e : Int)
  deriving DecidableEq, Repr

/-- The six exception flags, bit 0 NV to bit 5 SAT (R93). -/
abbrev Flags := BitVec 6

/-- Invalid operation. -/
def Flags.nv : Flags := 1#6
/-- Division by zero. -/
def Flags.dz : Flags := 2#6
/-- Overflow. -/
def Flags.of : Flags := 4#6
/-- Underflow. -/
def Flags.uf : Flags := 8#6
/-- Inexact. -/
def Flags.nx : Flags := 16#6
/-- Integer saturation. -/
def Flags.sat : Flags := 32#6

/-- The flag where the condition holds. -/
def flagIf (c : Bool) (f : Flags) : Flags := if c then f else 0

/-- The specials of a format's largest exponent (R87): as IEEE 754 (with or without signalling NaNs), a single NaN code
and no infinity (E4M3), or no special at all (FP6, FP4). -/
inductive Special where
  | ieee (signalling : Bool)
  | oneNan
  | noSpecial
  deriving DecidableEq, Repr

/-- A floating-point element format (R87). -/
structure Fmt where
  ew : Nat
  mw : Nat
  bias : Nat
  special : Special
  deriving DecidableEq, Repr

def fmtF32 : Fmt := ⟨8, 23, 127, .ieee true⟩
def fmtBF16 : Fmt := ⟨8, 7, 127, .ieee true⟩
def fmtF16 : Fmt := ⟨5, 10, 15, .ieee true⟩
def fmtE5M2 : Fmt := ⟨5, 2, 15, .ieee false⟩
def fmtE4M3 : Fmt := ⟨4, 3, 7, .oneNan⟩
def fmtE3M2 : Fmt := ⟨3, 2, 3, .noSpecial⟩
def fmtE2M3 : Fmt := ⟨2, 3, 1, .noSpecial⟩
def fmtE2M1 : Fmt := ⟨2, 1, 1, .noSpecial⟩

/-- The datum a code of the format stands for (R87, R91). -/
def Fmt.decode (f : Fmt) (c : Nat) : Fp :=
  let neg := bitOf c (f.ew + f.mw)
  let x := bits c f.mw f.ew
  let m := bits c 0 f.mw
  let normal := Fp.fin neg (2 ^ f.mw + m) ((x : Int) - f.bias - f.mw)
  if x = 0 then .fin neg m (1 - (f.bias : Int) - f.mw)
  else if x = 2 ^ f.ew - 1 then
    match f.special with
    | .ieee sig => if m = 0 then .inf neg else .nan (sig && !bitOf m (f.mw - 1))
    | .oneNan => if m = 2 ^ f.mw - 1 then .nan false else normal
    | .noSpecial => normal
  else normal

/-- `m / 2^sh` rounded to the nearest integer, ties to even, and whether that is inexact (R90). -/
def rne (m sh : Nat) : Nat × Bool :=
  if sh = 0 then (m, false)
  else
    let q := m >>> sh
    let r := m % 2 ^ sh
    let h := 2 ^ (sh - 1)
    (if h < r ∨ (r = h ∧ q % 2 = 1) then q + 1 else q, r ≠ 0)

/-- The number of bits of `m`. -/
def nbits (m : Nat) : Nat := if m = 0 then 0 else Nat.log2 m + 1

/-- A magnitude rounded into a format's grid. -/
structure Rounded where
  /-- the exponent and mantissa code, past the largest code where the value overflows -/
  code : Nat
  inexact : Bool
  /-- tiny after rounding: rounded with an unbounded exponent it lies below the smallest normal (R93, IEEE 754-2019) -/
  tiny : Bool
  deriving DecidableEq, Repr

/-- `m * 2^e` rounded to nearest even in the format (R90), the code counted on past the format's end. -/
def Fmt.round (f : Fmt) (m : Nat) (e : Int) : Rounded :=
  if m = 0 then ⟨0, false, false⟩
  else
    let l := nbits m
    let top : Int := e + l - 1
    let emin : Int := 1 - (f.bias : Int)
    let qmin : Int := emin - f.mw
    let q0 : Int := top - f.mw
    let q : Int := if q0 < qmin then qmin else q0
    let r : Nat × Bool := if q ≤ e then (m <<< (e - q).toNat, false) else rne m (q - e).toNat
    let tiny : Bool :=
      if emin ≤ top then false
      else if top < emin - 1 then true
      else
        let u : Nat × Bool := if q0 ≤ e then (m <<< (e - q0).toNat, false) else rne m (q0 - e).toNat
        decide (u.1 < 2 ^ (f.mw + 1))
    ⟨(q - qmin).toNat * 2 ^ f.mw + r.1, r.2, tiny⟩

/-- The sign bit of a format, as a number. -/
def Fmt.signBit (f : Fmt) (neg : Bool) : Nat := if neg then 2 ^ (f.ew + f.mw) else 0

/-- The code of infinity in an IEEE-like format. -/
def Fmt.infCode (f : Fmt) : Nat := (2 ^ f.ew - 1) * 2 ^ f.mw

/-- The canonical FP32 NaN (R91). -/
def canonNan : Lane := 0x7FC00000#32

/-- Underflow and inexact of a rounding. -/
def Rounded.flags (r : Rounded) : Flags :=
  flagIf (r.tiny && r.inexact) Flags.uf ||| flagIf r.inexact Flags.nx

/-- An exact datum rounded to FP32 once; a finite value beyond the range gives infinity with OF and NX (R90, R91, R102). -/
def roundF32 : Fp → Lane × Flags
  | .nan _ => (canonNan, 0)
  | .inf neg => (BitVec.ofNat 32 (fmtF32.signBit neg + fmtF32.infCode), 0)
  | .fin neg m e =>
    let r := fmtF32.round m e
    if fmtF32.infCode ≤ r.code then
      (BitVec.ofNat 32 (fmtF32.signBit neg + fmtF32.infCode), Flags.of ||| Flags.nx)
    else (BitVec.ofNat 32 (fmtF32.signBit neg + r.code), r.flags)

/-- An FP32 lane as an exact datum. -/
def ofF32 (a : Lane) : Fp := fmtF32.decode a.toNat

/-- Whether the datum is a NaN. -/
def Fp.isNan : Fp → Bool
  | .nan _ => true
  | _ => false

/-- Whether the datum is a signalling NaN. -/
def Fp.isSnan : Fp → Bool
  | .nan s => s
  | _ => false

/-- Whether the datum is an infinity. -/
def Fp.isInf : Fp → Bool
  | .inf _ => true
  | _ => false

/-- Whether the datum is a zero of either sign. -/
def Fp.isZero : Fp → Bool
  | .fin _ m _ => m = 0
  | _ => false

/-- The sign of a datum; a NaN counts as positive. -/
def Fp.neg : Fp → Bool
  | .nan _ => false
  | .inf n => n
  | .fin n _ _ => n

/-- The datum with its sign inverted. -/
def Fp.negate : Fp → Fp
  | .nan s => .nan s
  | .inf n => .inf (!n)
  | .fin n m e => .fin (!n) m e

/-- The datum times `2^k`, exactly. -/
def Fp.scaleBy (k : Int) : Fp → Fp
  | .fin n m e => .fin n m (e + k)
  | x => x

/-- The signed mantissa of a finite datum at the exponent `q`, which is at most its own. -/
def Fp.at (q : Int) : Fp → Int
  | .fin n m e => let v : Int := (m * 2 ^ (e - q).toNat : Nat); if n then -v else v
  | _ => 0

/-- The exact datum `i * 2^q`; an exact zero takes the sign given. -/
def Fp.ofInt (i : Int) (q : Int) (zeroNeg : Bool) : Fp :=
  if i = 0 then .fin zeroNeg 0 q else .fin (decide (i < 0)) i.natAbs q

/-- Exact product; the flag says that it is the invalid 0 times infinity (R102). -/
def Fp.mul (a b : Fp) : Fp × Bool :=
  match a, b with
  | .nan s, _ => (.nan s, false)
  | _, .nan s => (.nan s, false)
  | .inf n, y => if y.isZero then (.nan false, true) else (.inf (n != y.neg), false)
  | x, .inf n => if x.isZero then (.nan false, true) else (.inf (n != x.neg), false)
  | .fin n m e, .fin k p f => (.fin (n != k) (m * p) (e + f), false)

/-- Exact sum; the flag says that it is the invalid sum of opposite infinities (R102). An exact zero sum is negative only
where both terms are negative. -/
def Fp.add (a b : Fp) : Fp × Bool :=
  match a, b with
  | .nan s, _ => (.nan s, false)
  | _, .nan s => (.nan s, false)
  | .inf n, .inf k => if n = k then (.inf n, false) else (.nan false, true)
  | .inf n, _ => (.inf n, false)
  | _, .inf n => (.inf n, false)
  | .fin n m e, .fin k p f =>
    let q := min e f
    (Fp.ofInt (Fp.at q (.fin n m e) + Fp.at q (.fin k p f)) q (n && k), false)

/-- Exact comparison of two data that are not NaN: `a < b`. -/
def Fp.lt (a b : Fp) : Bool :=
  match a, b with
  | .nan _, _ => false
  | _, .nan _ => false
  | .inf n, .inf k => n && !k
  | .inf n, _ => n
  | _, .inf n => !n
  | .fin n m e, .fin k p f =>
    let q := min e f
    decide (Fp.at q (.fin n m e) < Fp.at q (.fin k p f))

/-- Exact equality of value of two data that are not NaN. -/
def Fp.eqv (a b : Fp) : Bool := !a.isNan && !b.isNan && !Fp.lt a b && !Fp.lt b a

/-- NV for a signalling operand. -/
def snanFlag (l : List Fp) : Flags := flagIf (l.any Fp.isSnan) Flags.nv

/-- The exact sum rounded to FP32 (R108 FADD). -/
def fadd (a b : Lane) : Lane × Flags :=
  let x := ofF32 a; let y := ofF32 b
  let s := Fp.add x y
  let r := roundF32 s.1
  (r.1, r.2 ||| flagIf s.2 Flags.nv ||| snanFlag [x, y])

/-- `a - b` (R108 FSUB). -/
def fsub (a b : Lane) : Lane × Flags :=
  let x := ofF32 a; let y := ofF32 b
  let s := Fp.add x y.negate
  let r := roundF32 s.1
  (r.1, r.2 ||| flagIf s.2 Flags.nv ||| snanFlag [x, y])

/-- `a * b` (R108 FMUL). -/
def fmul (a b : Lane) : Lane × Flags :=
  let x := ofF32 a; let y := ofF32 b
  let s := Fp.mul x y
  let r := roundF32 s.1
  (r.1, r.2 ||| flagIf s.2 Flags.nv ||| snanFlag [x, y])

/-- `a * b + d` with one rounding (R108 FMA): 0 times infinity sets NV even where `d` is a quiet NaN. -/
def fma (a b d : Lane) : Lane × Flags :=
  let x := ofF32 a; let y := ofF32 b; let z := ofF32 d
  let p := Fp.mul x y
  let s := Fp.add p.1 z
  let r := roundF32 s.1
  (r.1, r.2 ||| flagIf (p.2 || s.2) Flags.nv ||| snanFlag [x, y, z])

/-- Whether `a` comes before `b` in value, with -0 below +0. -/
def Fp.below (a b : Fp) : Bool :=
  Fp.lt a b || (a.isZero && b.isZero && a.neg && !b.neg)

/-- IEEE 754-2019 maximumNumber (R108 FMAX). -/
def fmax (a b : Lane) : Lane × Flags :=
  let x := ofF32 a; let y := ofF32 b
  let v := if x.isNan then (if y.isNan then canonNan else b) else if y.isNan then a
    else if Fp.below x y then b else a
  (v, snanFlag [x, y])

/-- IEEE 754-2019 minimumNumber (R108 FMIN). -/
def fmin (a b : Lane) : Lane × Flags :=
  let x := ofF32 a; let y := ofF32 b
  let v := if x.isNan then (if y.isNan then canonNan else b) else if y.isNan then a
    else if Fp.below y x then b else a
  (v, snanFlag [x, y])

/-- All ones for true (R108 FCLT, FCEQ). -/
def laneBool (b : Bool) : Lane := if b then BitVec.allOnes 32 else 0

/-- FCLT (R108). -/
def fclt (a b : Lane) : Lane × Flags :=
  let x := ofF32 a; let y := ofF32 b
  (laneBool (Fp.lt x y), flagIf (x.isNan || y.isNan) Flags.nv)

/-- FCEQ (R108). -/
def fceq (a b : Lane) : Lane × Flags :=
  let x := ofF32 a; let y := ofF32 b
  (laneBool (Fp.eqv x y), snanFlag [x, y])

/-- A finite magnitude rounded to an integer, ties to even, and whether that is inexact. -/
def roundInt (m : Nat) (e : Int) : Nat × Bool :=
  if 0 ≤ e then (m * 2 ^ e.toNat, false) else rne m (-e).toNat

/-- An integer clamped to 32 bits, and whether it was. -/
def sat32 (i : Int) : Lane × Bool :=
  if i < -(2 ^ 31 : Int) then (BitVec.ofInt 32 (-(2 ^ 31 : Int)), true)
  else if (2 ^ 31 - 1 : Int) < i then (BitVec.ofInt 32 (2 ^ 31 - 1), true)
  else (BitVec.ofInt 32 i, false)

/-- FP32 to INT32 (R108 F2I). -/
def f2i (a : Lane) : Lane × Flags :=
  match ofF32 a with
  | .nan _ => (0, Flags.nv)
  | .inf n => ((sat32 (if n then -(2 ^ 31 : Int) else 2 ^ 31 - 1)).1, Flags.nv)
  | .fin n m e =>
    -- every FP32 exponent above 8 with a normal mantissa lies beyond the range, so the shift stays small
    let r := roundInt m e
    let i : Int := if n then -(r.1 : Int) else r.1
    let s := sat32 i
    (s.1, if s.2 then Flags.nv else flagIf r.2 Flags.nx)

/-- INT32 to FP32 (R108 I2F). -/
def i2f (a : Lane) : Lane × Flags := roundF32 (Fp.ofInt a.toInt 0 false)

/-! ### Transcendental functions (R119, R120) -/

/-- `fma32` of exact data. -/
def fma32 (a b c : Fp) : Fp := ofF32 (roundF32 (Fp.add (Fp.mul a b).1 c).1).1
/-- `mul32` of exact data. -/
def mul32 (a b : Fp) : Fp := ofF32 (roundF32 (Fp.mul a b).1).1
/-- `add32` of exact data. -/
def add32 (a b : Fp) : Fp := ofF32 (roundF32 (Fp.add a b).1).1

/-- `scale(y, n)`: one rounding; OF and NX when too large, UF and NX when subnormal or zero and inexact. -/
def scale32 (y : Fp) (n : Int) : Lane × Flags :=
  match y with
  | .fin neg m e =>
    let r := fmtF32.round m (e + n)
    if fmtF32.infCode ≤ r.code then
      (BitVec.ofNat 32 (fmtF32.signBit neg + fmtF32.infCode), Flags.of ||| Flags.nx)
    else (BitVec.ofNat 32 (fmtF32.signBit neg + r.code),
      flagIf (r.code < 2 ^ 23 && r.inexact) (Flags.uf ||| Flags.nx))
  | x => roundF32 x

/-- `decompose`: the magnitude as `m * 2^e` with `m` in [1, 2), the mantissa held as an exact datum. -/
def decompose (m : Nat) (e : Int) : Fp × Int :=
  let l := nbits m
  (.fin false m (1 - (l : Int)), e + l - 1)

/-- A constant of 32 bits as a datum. -/
def f32c (n : Nat) : Fp := ofF32 (BitVec.ofNat 32 n)

def coefC1 : Fp := f32c 0x3F317218
def coefC2 : Fp := f32c 0x3E75FDF0
def coefC3 : Fp := f32c 0x3D635847
def coefK1 : Fp := f32c 0x3FB8AA3B
def coefK2 : Fp := f32c 0xBF38AA3B
def coefK3 : Fp := f32c 0x3EF6384F
def coefK4 : Fp := f32c 0xBEB8AA3B

/-- The exact datum 1. -/
def fpOne : Fp := .fin false 1 0

/-- E2T[i] is 2^(i/64) rounded to FP32 (R119). -/
def tabE2T : List Nat :=
  [0x3F800000, 0x3F8164D2, 0x3F82CD87, 0x3F843A29, 0x3F85AAC3, 0x3F871F62, 0x3F88980F, 0x3F8A14D5, 0x3F8B95C2, 0x3F8D1ADF, 0x3F8EA43A, 0x3F9031DC, 0x3F91C3D3, 0x3F935A2B, 0x3F94F4F0, 0x3F96942D] ++
  [0x3F9837F0, 0x3F99E046, 0x3F9B8D3A, 0x3F9D3EDA, 0x3F9EF532, 0x3FA0B051, 0x3FA27043, 0x3FA43516, 0x3FA5FED7, 0x3FA7CD94, 0x3FA9A15B, 0x3FAB7A3A, 0x3FAD583F, 0x3FAF3B79, 0x3FB123F6, 0x3FB311C4] ++
  [0x3FB504F3, 0x3FB6FD92, 0x3FB8FBAF, 0x3FBAFF5B, 0x3FBD08A4, 0x3FBF179A, 0x3FC12C4D, 0x3FC346CD, 0x3FC5672A, 0x3FC78D75, 0x3FC9B9BE, 0x3FCBEC15, 0x3FCE248C, 0x3FD06334, 0x3FD2A81E, 0x3FD4F35B] ++
  [0x3FD744FD, 0x3FD99D16, 0x3FDBFBB8, 0x3FDE60F5, 0x3FE0CCDF, 0x3FE33F89, 0x3FE5B907, 0x3FE8396A, 0x3FEAC0C7, 0x3FED4F30, 0x3FEFE4BA, 0x3FF28177, 0x3FF5257D, 0x3FF7D0DF, 0x3FFA83B3, 0x3FFD3E0C]

/-- LGR[k] is 1 / a(k) rounded to FP32 (R119). -/
def tabLGR : List Nat :=
  [0x3FA72F05, 0x3FA3D70A, 0x3FA0A0A1, 0x3F9D89D9, 0x3F9A90E8, 0x3F97B426, 0x3F94F209, 0x3F924925, 0x3F8FB824, 0x3F8D3DCB, 0x3F8AD8F3, 0x3F888889, 0x3F864B8A, 0x3F842108, 0x3F820821, 0x3F800000] ++
  [0x3F800000, 0x3F7C0FC1, 0x3F783E10, 0x3F74898D, 0x3F70F0F1, 0x3F6D7304, 0x3F6A0EA1, 0x3F66C2B4, 0x3F638E39, 0x3F607038, 0x3F5D67C9, 0x3F5A740E, 0x3F579436, 0x3F54C77B, 0x3F520D21, 0x3F4F6475] ++
  [0x3F4CCCCD, 0x3F4A4588, 0x3F47CE0C, 0x3F4565C8, 0x3F430C31, 0x3F40C0C1, 0x3F3E82FA, 0x3F3C5264, 0x3F3A2E8C, 0x3F381703, 0x3F360B61, 0x3F340B41, 0x3F321643, 0x3F302C0B, 0x3F2E4C41, 0x3F2C7692]

/-- LGL[k] is -log2 of the stored LGR[k], rounded to FP32 (R119). -/
def tabLGL : List Nat :=
  [0xBEC544BF, 0xBEB6587A, 0xBEA7B7DF, 0xBE995FF9, 0xBE8B4E03, 0xBE7AFEC6, 0xBE5FE33A, 0xBE4544C5, 0xBE2B1EE2, 0xBE116D6E, 0xBDF058D8, 0xBDBEB02F, 0xBD8DD98A, 0xBD3B9C9B, 0xBCBA1FA1, 0x00000000] ++
  [0x00000000, 0x3CB73CB3, 0x3D35D690, 0x3D8759C9, 0x3DB31FB7, 0x3DDE420E, 0x3E0462C4, 0x3E195751, 0x3E2E00D1, 0x3E42615F, 0x3E567AEF, 0x3E6A4F70, 0x3E7DE0B5, 0x3E88983F, 0x3E92203D, 0x3E9B8925] ++
  [0x3EA4D3C2, 0x3EAE00D1, 0x3EB71110, 0x3EC0052D, 0x3EC8DDD3, 0x3ED19BAF, 0x3EDA3F60, 0x3EE2C97E, 0x3EEB3A9E, 0x3EF39355, 0x3EFBD42A, 0x3F01FED4, 0x3F060828, 0x3F0A0650, 0x3F0DF98A, 0x3F11E20E]

/-- RCT[i] is 1 / (1 + (2i + 1)/256) rounded to FP32 (R119). -/
def tabRCT : List Nat :=
  [0x3F7F00FF, 0x3F7D08E5, 0x3F7B1885, 0x3F792FB2, 0x3F774E40, 0x3F757404, 0x3F73A0D5, 0x3F71D48C, 0x3F700F01, 0x3F6E500F, 0x3F6C9791, 0x3F6AE564, 0x3F693965, 0x3F679373, 0x3F65F36D, 0x3F645933] ++
  [0x3F62C4A7, 0x3F6135AA, 0x3F5FAC1F, 0x3F5E27EB, 0x3F5CA8F1, 0x3F5B2F17, 0x3F59BA42, 0x3F584A5A, 0x3F56DF44, 0x3F5578E9, 0x3F541733, 0x3F52BA08, 0x3F516154, 0x3F500D01, 0x3F4EBCF9, 0x3F4D7127] ++
  [0x3F4C2978, 0x3F4AE5D8, 0x3F49A634, 0x3F486A79, 0x3F473294, 0x3F45FE74, 0x3F44CE08, 0x3F43A13E, 0x3F427806, 0x3F415250, 0x3F40300C, 0x3F3F112B, 0x3F3DF59D, 0x3F3CDD53, 0x3F3BC841, 0x3F3AB656] ++
  [0x3F39A786, 0x3F389BC3, 0x3F379301, 0x3F368D31, 0x3F358A48, 0x3F348A3A, 0x3F338CFA, 0x3F32927C, 0x3F319AB6, 0x3F30A59B, 0x3F2FB322, 0x3F2EC33E, 0x3F2DD5E6, 0x3F2CEB10, 0x3F2C02B0, 0x3F2B1CBE] ++
  [0x3F2A392F, 0x3F2957FB, 0x3F287917, 0x3F279C7B, 0x3F26C21E, 0x3F25E9F7, 0x3F2513FD, 0x3F244029, 0x3F236E72, 0x3F229ECF, 0x3F21D13A, 0x3F2105A9, 0x3F203C17, 0x3F1F747A, 0x3F1EAECD, 0x3F1DEB07] ++
  [0x3F1D2922, 0x3F1C6917, 0x3F1BAADF, 0x3F1AEE73, 0x3F1A33CD, 0x3F197AE7, 0x3F18C3BB, 0x3F180E41, 0x3F175A75, 0x3F16A850, 0x3F15F7CC, 0x3F1548E5, 0x3F149B93, 0x3F13EFD2, 0x3F13459C, 0x3F129CEC] ++
  [0x3F11F5BD, 0x3F115009, 0x3F10ABCC, 0x3F100901, 0x3F0F67A2, 0x3F0EC7AB, 0x3F0E2918, 0x3F0D8BE3, 0x3F0CF009, 0x3F0C5584, 0x3F0BBC51, 0x3F0B246B, 0x3F0A8DCD, 0x3F09F874, 0x3F09645C, 0x3F08D181] ++
  [0x3F083FDE, 0x3F07AF70, 0x3F072033, 0x3F069223, 0x3F06053C, 0x3F05797C, 0x3F04EEDD, 0x3F04655E, 0x3F03DCF9, 0x3F0355AD, 0x3F02CF75, 0x3F024A4E, 0x3F01C636, 0x3F014328, 0x3F00C122, 0x3F004020]

/-- RST[i] is 1 / sqrt(1 + (2i + 1)/64) rounded to FP32 (R119). -/
def tabRST : List Nat :=
  [0x3F7E05EC, 0x3F7A33F9, 0x3F768CDC, 0x3F730D8A, 0x3F6FB345, 0x3F6C7B90, 0x3F69642A, 0x3F666B02, 0x3F638E39, 0x3F60CC16, 0x3F5E2305, 0x3F5B9193, 0x3F59166B, 0x3F56B051, 0x3F545E22, 0x3F521ED0] ++
  [0x3F4FF162, 0x3F4DD4ED, 0x3F4BC89B, 0x3F49CBA2, 0x3F47DD45, 0x3F45FCD6, 0x3F4429AF, 0x3F426337, 0x3F40A8DE, 0x3F3EFA1C, 0x3F3D5671, 0x3F3BBD67, 0x3F3A2E8C, 0x3F38A975, 0x3F372DBF, 0x3F35BB09] ++
  [0x3F3450FC, 0x3F32EF41, 0x3F319589, 0x3F304387, 0x3F2EF8F2, 0x3F2DB587, 0x3F2C7904, 0x3F2B432A, 0x3F2A13C0, 0x3F28EA8C, 0x3F27C759, 0x3F26A9F4, 0x3F25922C, 0x3F247FD3, 0x3F2372BD, 0x3F226ABE] ++
  [0x3F2167AF, 0x3F206968, 0x3F1F6FC4, 0x3F1E7AA0, 0x3F1D89D9, 0x3F1C9D4E, 0x3F1BB4E1, 0x3F1AD073, 0x3F19EFE6, 0x3F191320, 0x3F183A05, 0x3F17647C, 0x3F16926C, 0x3F15C3BC, 0x3F14F857, 0x3F143026] ++
  [0x3F136B13, 0x3F12A90B, 0x3F11E9F9, 0x3F112DCA, 0x3F10746D, 0x3F0FBDCE, 0x3F0F09DD, 0x3F0E5889, 0x3F0DA9C2, 0x3F0CFD79, 0x3F0C539F, 0x3F0BAC25, 0x3F0B06FD, 0x3F0A641A, 0x3F09C36D, 0x3F0924EC] ++
  [0x3F088889, 0x3F07EE37, 0x3F0755ED, 0x3F06BF9E, 0x3F062B40, 0x3F0598C7, 0x3F05082A, 0x3F04795F, 0x3F03EC5C, 0x3F036117, 0x3F02D788, 0x3F024FA6, 0x3F01C967, 0x3F0144C4, 0x3F00C1B4, 0x3F004030]

/-- Entry `i` of a table. -/
def tabAt (t : List Nat) (i : Nat) : Fp := f32c (t.getD i 0)

/-- NX for a finite nonzero result that is not one of the exact cases (R120). -/
def nxUnless (r : Lane) (exact : Bool) : Flags :=
  let x := ofF32 r
  flagIf (!exact && !x.isNan && !x.isInf && !x.isZero) Flags.nx

/-- The floor of a finite datum. -/
def floorFp : Fp → Int
  | .fin n m e =>
    let v : Int := if n then -(m : Int) else m
    if 0 ≤ e then v * 2 ^ e.toNat else v / 2 ^ (-e).toNat
  | _ => 0

/-- EXP2 (R119). -/
def exp2 (a : Lane) : Lane × Flags :=
  match ofF32 a with
  | .nan s => (canonNan, flagIf s Flags.nv)
  | .inf true => (0, 0)
  | .inf false => (a, 0)
  | .fin neg m e =>
    let x := Fp.fin neg m e
    if !Fp.lt x (.fin false 128 0) then (0x7F800000#32, Flags.of ||| Flags.nx)
    else if Fp.lt x (.fin true 150 0) then (0, Flags.uf ||| Flags.nx)
    else
      let n := floorFp x
      let f := (Fp.add x (Fp.ofInt (-n) 0 false)).1
      let i := floorFp (f.scaleBy 6)
      let r := (Fp.add f ((Fp.ofInt (-i) 0 false).scaleBy (-6))).1
      let p := fma32 r coefC3 coefC2
      let p := fma32 r p coefC1
      let p := mul32 r p
      let t := tabAt tabE2T i.toNat
      let y := fma32 t p t
      let z := scale32 y n
      (z.1, z.2 ||| nxUnless z.1 (f.isZero && decide (-149 ≤ n ∧ n ≤ 127)))

/-- LOG2 (R119). -/
def log2 (a : Lane) : Lane × Flags :=
  match ofF32 a with
  | .nan s => (canonNan, flagIf s Flags.nv)
  | .inf true => (canonNan, Flags.nv)
  | .inf false => (a, 0)
  | .fin neg m e =>
    if m = 0 then (0xFF800000#32, Flags.dz)
    else if neg then (canonNan, Flags.nv)
    else
      let d := decompose m e
      let pow2 := decide (m = 2 ^ Nat.log2 m)
      let hi := !Fp.lt d.1 (.fin false 3 (-1))
      let mm := if hi then d.1.scaleBy (-1) else d.1
      let ee := if hi then d.2 + 1 else d.2
      let k := (floorFp (mm.scaleBy 6) - 48).toNat
      let r := fma32 mm (tabAt tabLGR k) (.fin true 1 0)
      let p := fma32 r coefK4 coefK3
      let p := fma32 r p coefK2
      let p := fma32 r p coefK1
      let q := mul32 r p
      let z := roundF32 (Fp.add (add32 (Fp.ofInt ee 0 false) (tabAt tabLGL k)) q).1
      (z.1, nxUnless z.1 pow2)

/-- One Newton step of RCP (R119). -/
def rcpStep (m y : Fp) : Fp := fma32 y (fma32 m.negate y fpOne) y

/-- RCP (R119). -/
def rcp (a : Lane) : Lane × Flags :=
  match ofF32 a with
  | .nan s => (canonNan, flagIf s Flags.nv)
  | .inf n => (BitVec.ofNat 32 (fmtF32.signBit n), 0)
  | .fin neg m e =>
    if m = 0 then (BitVec.ofNat 32 (fmtF32.signBit neg + fmtF32.infCode), Flags.dz)
    else
      let d := decompose m e
      let pow2 := decide (m = 2 ^ Nat.log2 m)
      let y :=
        if pow2 then fpOne
        else
          let i := (floorFp (d.1.scaleBy 7) - 128).toNat
          rcpStep d.1 (rcpStep d.1 (tabAt tabRCT i))
      let z := scale32 y (-d.2)
      (z.1 ||| BitVec.ofNat 32 (fmtF32.signBit neg), z.2 ||| nxUnless z.1 pow2)

/-- One Newton step of RSQ (R119). -/
def rsqStep (m y : Fp) : Fp :=
  let t := mul32 y y
  let h := fma32 m.negate t fpOne
  let h := mul32 h (.fin false 1 (-1))
  fma32 y h y

/-- RSQ (R119). -/
def rsq (a : Lane) : Lane × Flags :=
  match ofF32 a with
  | .nan s => (canonNan, flagIf s Flags.nv)
  | .inf true => (canonNan, Flags.nv)
  | .inf false => (0, 0)
  | .fin neg m e =>
    if m = 0 then (BitVec.ofNat 32 (fmtF32.signBit neg + fmtF32.infCode), Flags.dz)
    else if neg then (canonNan, Flags.nv)
    else
      let d := decompose m e
      let odd := decide (d.2 % 2 = 1)
      let mm := if odd then d.1.scaleBy 1 else d.1
      let ee := if odd then d.2 - 1 else d.2
      let one := Fp.eqv mm fpOne
      let y :=
        if one then fpOne
        else
          let i := (floorFp (mm.scaleBy 5) - 32).toNat
          rsqStep mm (rsqStep mm (tabAt tabRST i))
      let z := scale32 y (-(ee / 2))
      (z.1, z.2 ||| nxUnless z.1 one)

/-! ### Exact reduction (R121 to R123) -/

/-- Whether a window top is legal: -53 to 128 (R121). -/
def xrWindowOk (w : Int) : Bool := decide (-53 ≤ w ∧ w ≤ 128)

/-- FP32 to an exact-reduction value of 128 bits (R122). -/
def xrConvert (a : Lane) (w : Int) : BitVec 128 × Flags :=
  if !xrWindowOk w then (0, Flags.nv)
  else
    match ofF32 a with
    | .nan _ => (0, Flags.nv)
    | .inf n => (BitVec.ofInt 128 (if n then -(2 ^ 96 : Int) else 2 ^ 96), Flags.of)
    | .fin neg m e =>
      if Fp.lt (.fin false m e) (.fin false 1 w) then
        let r := roundInt m (e - (w - 96))
        let i : Int := if neg then -(r.1 : Int) else r.1
        (BitVec.ofInt 128 i, flagIf r.2 Flags.nx ||| flagIf (m ≠ 0 && r.1 = 0) Flags.uf)
      else (BitVec.ofInt 128 (if neg then -(2 ^ 96 : Int) else 2 ^ 96), Flags.of)

/-- Exact-reduction sum modulo 2^128; OF where the signed sum overflows (R123). -/
def xrAdd (a b : BitVec 128) : BitVec 128 × Flags :=
  let s := a.toInt + b.toInt
  (a + b, flagIf (decide (s < -(2 ^ 127 : Int) ∨ (2 ^ 127 : Int) ≤ s)) Flags.of)

/-- Exact-reduction value to FP32, rounded once (R123). -/
def xrBack (a : BitVec 128) (w : Int) : Lane × Flags :=
  if !xrWindowOk w then (0, Flags.nv)
  else roundF32 (Fp.ofInt a.toInt (w - 96) false)

end Sys2Proof.Machine
end

