-- ==== Sys2Proof/Machine/RegDef.lean ====
section
/-!
DEFINITION. Sys2Proof/Machine/RegDef.lean: what a register table of the spec says of a field (R10 to R13), and a register
file as sparse field values.
-/

namespace Sys2Proof.Machine

/-- The access codes (R11). RWO is used by no register table of the spec. -/
inductive Acc where
  | ro
  | rw
  | w1c
  | cmd
  deriving DecidableEq, Repr

/-- One field of a register: the offset of its first copy, the strides of its two indices, its lowest bit and width, its
access code, its reset value and the lowest reset level that gives it that value (R11, R13). -/
structure Fld where
  base : Nat
  s1 : Nat
  s2 : Nat
  lo : Nat
  w : Nat
  acc : Acc
  rst : Nat
  dom : Nat
  deriving DecidableEq, Repr

/-- One register: the offset of its first copy, its two strides and counts, its reset domain and its fields. -/
structure RegDef where
  base : Nat
  s1 : Nat
  n1 : Nat
  s2 : Nat
  n2 : Nat
  dom : Nat
  flds : List Fld
  deriving DecidableEq, Repr

/-- A register file: field values by field key, an unlisted field at its reset value. The listed value is the value
itself, held as one more than it is, so that every field has the same unlisted mark 0. -/
abbrev RegFile := SMap Nat

/-- The key of a field's copy: the register's offset times 64 plus the field's lowest bit. -/
def Fld.key (f : Fld) (i j : Nat) : Nat := (f.base + f.s1 * i + f.s2 * j) * 64 + f.lo

/-- The value of a field's copy: its reset value where nothing is listed. -/
def RegFile.get (m : RegFile) (f : Fld) (i j : Nat) : Nat :=
  match SMap.get 0 m (f.key i j) with
  | 0 => f.rst
  | v + 1 => v

/-- Writes a field's copy, cut to its width; a field at its reset value is unlisted. -/
def RegFile.set (m : RegFile) (f : Fld) (i j : Nat) (v : Nat) : RegFile :=
  SMap.set 0 m (f.key i j) (if v % 2 ^ f.w = f.rst then 0 else v % 2 ^ f.w + 1)

/-- The register copy at an offset: the register and its two indices. -/
def RegDef.at (r : RegDef) (off : Nat) : Option (Nat × Nat) :=
  (List.range r.n1).findSome? fun i =>
    let b := r.base + r.s1 * i
    if r.s2 = 0 then (if off = b then some (i, 0) else none)
    else if b ≤ off ∧ off < b + r.s2 * r.n2 ∧ (off - b) % r.s2 = 0 then some (i, (off - b) / r.s2)
    else none

/-- The register of a table at an offset. -/
def findReg (t : List RegDef) (off : Nat) : Option (RegDef × Nat × Nat) :=
  t.findSome? fun r => (r.at off).map fun p => (r, p.1, p.2)

/-- The 64-bit value of a register copy made of the values of its fields; reserved fields read as zero (R12). -/
def RegDef.assemble (r : RegDef) (val : Fld → Nat) : Word :=
  r.flds.foldl (fun a f => a ||| (BitVec.ofNat 64 (val f % 2 ^ f.w) <<< f.lo)) 0

/-- Removes every field of a table whose copy passes the test, so that it reads as its reset value again (R13). -/
def RegFile.resetRegs (m : RegFile) (gone : Nat → Bool) : RegFile := SMap.keep m (fun k => !gone k)

end Sys2Proof.Machine
end

