-- ==== Sys2Proof/Machine/TileRegs.lean ====
section
/-!
DEFINITION. Sys2Proof/Machine/TileRegs.lean: the tile registers, field by field, from the register tables of spec 02, 03, 04, 05,
06, 07, 12 and 17. A reset value that the spec takes from elsewhere (position, crevasse map) is 0 here and is a view.
-/

namespace Sys2Proof.Machine

/-- TILE_ID.FIELD, bits 59:54 (R84). -/
def F.TILE_ID_FIELD : Fld := ⟨0x10000, 0x0, 0x0, 54, 6, .ro, 0, 4⟩
/-- TILE_ID.PY, bits 53:43 (R84). -/
def F.TILE_ID_PY : Fld := ⟨0x10000, 0x0, 0x0, 43, 11, .ro, 0, 4⟩
/-- TILE_ID.PX, bits 42:32 (R84). -/
def F.TILE_ID_PX : Fld := ⟨0x10000, 0x0, 0x0, 32, 11, .ro, 0, 4⟩
/-- TILE_ID.SPARE, bits 20 (R84). -/
def F.TILE_ID_SPARE : Fld := ⟨0x10000, 0x0, 0x0, 20, 1, .ro, 0, 4⟩
/-- TILE_ID.LXY, bits 19:0 (R84). -/
def F.TILE_ID_LXY : Fld := ⟨0x10000, 0x0, 0x0, 0, 20, .ro, 0, 4⟩
/-- The register TILE_ID (R84). -/
def R.TILE_ID : RegDef := ⟨0x10000, 0x0, 1, 0x0, 1, 4,
  [F.TILE_ID_FIELD, F.TILE_ID_PY, F.TILE_ID_PX, F.TILE_ID_SPARE, F.TILE_ID_LXY]⟩

/-- SCH_STATE.STBY_VALID, bits 31 (R47). -/
def F.SCH_STATE_STBY_VALID : Fld := ⟨0x10010, 0x0, 0x0, 31, 1, .ro, 0, 0⟩
/-- SCH_STATE.STBY_COUNT, bits 30:21 (R47). -/
def F.SCH_STATE_STBY_COUNT : Fld := ⟨0x10010, 0x0, 0x0, 21, 10, .ro, 0, 0⟩
/-- SCH_STATE.ACT_VALID, bits 20 (R47). -/
def F.SCH_STATE_ACT_VALID : Fld := ⟨0x10010, 0x0, 0x0, 20, 1, .ro, 0, 0⟩
/-- SCH_STATE.COLOUR, bits 19:16 (R47). -/
def F.SCH_STATE_COLOUR : Fld := ⟨0x10010, 0x0, 0x0, 16, 4, .ro, 0, 0⟩
/-- SCH_STATE.CMDARM, bits 13 (R47). -/
def F.SCH_STATE_CMDARM : Fld := ⟨0x10010, 0x0, 0x0, 13, 1, .ro, 0, 0⟩
/-- SCH_STATE.STATE, bits 12:10 (R47). -/
def F.SCH_STATE_STATE : Fld := ⟨0x10010, 0x0, 0x0, 10, 3, .ro, 0, 0⟩
/-- SCH_STATE.ACT, bits 9 (R47). -/
def F.SCH_STATE_ACT : Fld := ⟨0x10010, 0x0, 0x0, 9, 1, .ro, 0, 0⟩
/-- SCH_STATE.PC, bits 8:0 (R47). -/
def F.SCH_STATE_PC : Fld := ⟨0x10010, 0x0, 0x0, 0, 9, .ro, 0, 0⟩
/-- The register SCH_STATE (R47). -/
def R.SCH_STATE : RegDef := ⟨0x10010, 0x0, 1, 0x0, 1, 0,
  [F.SCH_STATE_STBY_VALID, F.SCH_STATE_STBY_COUNT, F.SCH_STATE_ACT_VALID, F.SCH_STATE_COLOUR, F.SCH_STATE_CMDARM, F.SCH_STATE_STATE, F.SCH_STATE_ACT, F.SCH_STATE_PC]⟩

/-- SCH_CMD.STATUS, bits 63:62 (R50). -/
def F.SCH_CMD_STATUS : Fld := ⟨0x10018, 0x0, 0x0, 62, 2, .cmd, 0, 0⟩
/-- SCH_CMD.OP, bits 3:0 (R50). -/
def F.SCH_CMD_OP : Fld := ⟨0x10018, 0x0, 0x0, 0, 4, .cmd, 0, 0⟩
/-- The register SCH_CMD (R50). -/
def R.SCH_CMD : RegDef := ⟨0x10018, 0x0, 1, 0x0, 1, 0,
  [F.SCH_CMD_STATUS, F.SCH_CMD_OP]⟩

/-- SCH_LOOP.LOOP3, bits 63:48 (R84). -/
def F.SCH_LOOP_LOOP3 : Fld := ⟨0x10020, 0x0, 0x0, 48, 16, .ro, 0, 0⟩
/-- SCH_LOOP.LOOP2, bits 47:32 (R84). -/
def F.SCH_LOOP_LOOP2 : Fld := ⟨0x10020, 0x0, 0x0, 32, 16, .ro, 0, 0⟩
/-- SCH_LOOP.LOOP1, bits 31:16 (R84). -/
def F.SCH_LOOP_LOOP1 : Fld := ⟨0x10020, 0x0, 0x0, 16, 16, .ro, 0, 0⟩
/-- SCH_LOOP.LOOP0, bits 15:0 (R84). -/
def F.SCH_LOOP_LOOP0 : Fld := ⟨0x10020, 0x0, 0x0, 0, 16, .ro, 0, 0⟩
/-- The register SCH_LOOP (R84). -/
def R.SCH_LOOP : RegDef := ⟨0x10020, 0x0, 1, 0x0, 1, 0,
  [F.SCH_LOOP_LOOP3, F.SCH_LOOP_LOOP2, F.SCH_LOOP_LOOP1, F.SCH_LOOP_LOOP0]⟩

/-- TILE_FAULT.VALID, bits 63 (R84). -/
def F.TILE_FAULT_VALID : Fld := ⟨0x10030, 0x0, 0x0, 63, 1, .w1c, 0, 1⟩
/-- TILE_FAULT.MULTI, bits 48 (R84). -/
def F.TILE_FAULT_MULTI : Fld := ⟨0x10030, 0x0, 0x0, 48, 1, .ro, 0, 1⟩
/-- TILE_FAULT.ACYC, bits 47:16 (R84). -/
def F.TILE_FAULT_ACYC : Fld := ⟨0x10030, 0x0, 0x0, 16, 32, .ro, 0, 1⟩
/-- TILE_FAULT.CODE, bits 15:0 (R84). -/
def F.TILE_FAULT_CODE : Fld := ⟨0x10030, 0x0, 0x0, 0, 16, .ro, 0, 1⟩
/-- The register TILE_FAULT (R84). -/
def R.TILE_FAULT : RegDef := ⟨0x10030, 0x0, 1, 0x0, 1, 1,
  [F.TILE_FAULT_VALID, F.TILE_FAULT_MULTI, F.TILE_FAULT_ACYC, F.TILE_FAULT_CODE]⟩

/-- SCR_ECC.UE_ADDR, bits 48:33 (R82). -/
def F.SCR_ECC_UE_ADDR : Fld := ⟨0x10050, 0x0, 0x0, 33, 16, .ro, 0, 2⟩
/-- SCR_ECC.UE, bits 32 (R82). -/
def F.SCR_ECC_UE : Fld := ⟨0x10050, 0x0, 0x0, 32, 1, .w1c, 0, 2⟩
/-- SCR_ECC.CE_COUNT, bits 31:0 (R82). -/
def F.SCR_ECC_CE_COUNT : Fld := ⟨0x10050, 0x0, 0x0, 0, 32, .ro, 0, 2⟩
/-- The register SCR_ECC (R82). -/
def R.SCR_ECC : RegDef := ⟨0x10050, 0x0, 1, 0x0, 1, 2,
  [F.SCR_ECC_UE_ADDR, F.SCR_ECC_UE, F.SCR_ECC_CE_COUNT]⟩

/-- SCR_CMD.STATUS, bits 63:62 (R84). -/
def F.SCR_CMD_STATUS : Fld := ⟨0x10058, 0x0, 0x0, 62, 2, .cmd, 0, 2⟩
/-- SCR_CMD.OP, bits 3:0 (R84). -/
def F.SCR_CMD_OP : Fld := ⟨0x10058, 0x0, 0x0, 0, 4, .cmd, 0, 2⟩
/-- The register SCR_CMD (R84). -/
def R.SCR_CMD : RegDef := ⟨0x10058, 0x0, 1, 0x0, 1, 2,
  [F.SCR_CMD_STATUS, F.SCR_CMD_OP]⟩

/-- CC_STATE.MCAUSE, bits 35:32 (R532). -/
def F.CC_STATE_MCAUSE : Fld := ⟨0x10080, 0x0, 0x0, 32, 4, .ro, 0, 1⟩
/-- CC_STATE.TAG, bits 25:16 (R532). -/
def F.CC_STATE_TAG : Fld := ⟨0x10080, 0x0, 0x0, 16, 10, .ro, 0, 1⟩
/-- CC_STATE.STATE, bits 15:13 (R532). -/
def F.CC_STATE_STATE : Fld := ⟨0x10080, 0x0, 0x0, 13, 3, .ro, 0, 1⟩
/-- CC_STATE.PC, bits 12:0 (R532). -/
def F.CC_STATE_PC : Fld := ⟨0x10080, 0x0, 0x0, 0, 13, .ro, 0, 1⟩
/-- The register CC_STATE (R532). -/
def R.CC_STATE : RegDef := ⟨0x10080, 0x0, 1, 0x0, 1, 1,
  [F.CC_STATE_MCAUSE, F.CC_STATE_TAG, F.CC_STATE_STATE, F.CC_STATE_PC]⟩

/-- CC_CMD.STATUS, bits 63:62 (R532). -/
def F.CC_CMD_STATUS : Fld := ⟨0x10088, 0x0, 0x0, 62, 2, .cmd, 0, 1⟩
/-- CC_CMD.OP, bits 3:0 (R532). -/
def F.CC_CMD_OP : Fld := ⟨0x10088, 0x0, 0x0, 0, 4, .cmd, 0, 1⟩
/-- The register CC_CMD (R532). -/
def R.CC_CMD : RegDef := ⟨0x10088, 0x0, 1, 0x0, 1, 1,
  [F.CC_CMD_STATUS, F.CC_CMD_OP]⟩

/-- CC_WDOG.LIMIT, bits 31:0 (R532). -/
def F.CC_WDOG_LIMIT : Fld := ⟨0x10090, 0x0, 0x0, 0, 32, .rw, 1048576, 1⟩
/-- The register CC_WDOG (R532). -/
def R.CC_WDOG : RegDef := ⟨0x10090, 0x0, 1, 0x0, 1, 1,
  [F.CC_WDOG_LIMIT]⟩

/-- CC_CP_MBOX.READY, bits 63 (R53). -/
def F.CC_CP_MBOX_READY : Fld := ⟨0x10098, 0x0, 0x0, 63, 1, .ro, 0, 0⟩
/-- CC_CP_MBOX.CP_ID, bits 39:32 (R53). -/
def F.CC_CP_MBOX_CP_ID : Fld := ⟨0x10098, 0x0, 0x0, 32, 8, .ro, 0, 0⟩
/-- CC_CP_MBOX.VALUE, bits 31:0 (R53). -/
def F.CC_CP_MBOX_VALUE : Fld := ⟨0x10098, 0x0, 0x0, 0, 32, .ro, 0, 0⟩
/-- The register CC_CP_MBOX (R53). -/
def R.CC_CP_MBOX : RegDef := ⟨0x10098, 0x0, 1, 0x0, 1, 0,
  [F.CC_CP_MBOX_READY, F.CC_CP_MBOX_CP_ID, F.CC_CP_MBOX_VALUE]⟩

/-- RTR_STATUS.PRESENT, bits 55:48 (R77). -/
def F.RTR_STATUS_PRESENT : Fld := ⟨0x100C0, 0x0, 0x0, 48, 8, .ro, 0, 0⟩
/-- RTR_STATUS.HOLD, bits 47:40 (R77). -/
def F.RTR_STATUS_HOLD : Fld := ⟨0x100C0, 0x0, 0x0, 40, 8, .ro, 0, 0⟩
/-- RTR_STATUS.OCC, bits 39:0 (R77). -/
def F.RTR_STATUS_OCC : Fld := ⟨0x100C0, 0x0, 0x0, 0, 40, .ro, 0, 0⟩
/-- The register RTR_STATUS (R77). -/
def R.RTR_STATUS : RegDef := ⟨0x100C0, 0x0, 1, 0x0, 1, 0,
  [F.RTR_STATUS_PRESENT, F.RTR_STATUS_HOLD, F.RTR_STATUS_OCC]⟩

/-- RTR_ECC.UE_PORT, bits 35:33 (R82). -/
def F.RTR_ECC_UE_PORT : Fld := ⟨0x100C8, 0x0, 0x0, 33, 3, .ro, 0, 2⟩
/-- RTR_ECC.UE, bits 32 (R82). -/
def F.RTR_ECC_UE : Fld := ⟨0x100C8, 0x0, 0x0, 32, 1, .w1c, 0, 2⟩
/-- RTR_ECC.CE_COUNT, bits 31:0 (R82). -/
def F.RTR_ECC_CE_COUNT : Fld := ⟨0x100C8, 0x0, 0x0, 0, 32, .ro, 0, 2⟩
/-- The register RTR_ECC (R82). -/
def R.RTR_ECC : RegDef := ⟨0x100C8, 0x0, 1, 0x0, 1, 2,
  [F.RTR_ECC_UE_PORT, F.RTR_ECC_UE, F.RTR_ECC_CE_COUNT]⟩

/-- BLY_TAP.PEER, bits 21:2 (R84). -/
def F.BLY_TAP_PEER : Fld := ⟨0x10100, 0x0, 0x0, 2, 20, .ro, 0, 1⟩
/-- BLY_TAP.ROLE, bits 1:0 (R84). -/
def F.BLY_TAP_ROLE : Fld := ⟨0x10100, 0x0, 0x0, 0, 2, .ro, 0, 1⟩
/-- The register BLY_TAP (R84). -/
def R.BLY_TAP : RegDef := ⟨0x10100, 0x0, 1, 0x0, 1, 1,
  [F.BLY_TAP_PEER, F.BLY_TAP_ROLE]⟩

/-- TILE_CNT.COUNT, bits 63:0 (R84). -/
def F.TILE_CNT_COUNT : Fld := ⟨0x10200, 0x0, 0x8, 0, 64, .ro, 0, 2⟩
/-- The register TILE_CNT (R84). -/
def R.TILE_CNT : RegDef := ⟨0x10200, 0x0, 1, 0x8, 8, 2,
  [F.TILE_CNT_COUNT]⟩

/-- VU_FLAGS_SEC.FIRST_ACYC, bits 63:32 (R94). -/
def F.VU_FLAGS_SEC_FIRST_ACYC : Fld := ⟨0x10040, 0x0, 0x0, 32, 32, .ro, 0, 0⟩
/-- VU_FLAGS_SEC.T2RSV, bits 17 (R94). -/
def F.VU_FLAGS_SEC_T2RSV : Fld := ⟨0x10040, 0x0, 0x0, 17, 1, .ro, 0, 0⟩
/-- VU_FLAGS_SEC.SCLNAN, bits 16 (R94). -/
def F.VU_FLAGS_SEC_SCLNAN : Fld := ⟨0x10040, 0x0, 0x0, 16, 1, .ro, 0, 0⟩
/-- VU_FLAGS_SEC.MXU, bits 13:8 (R94). -/
def F.VU_FLAGS_SEC_MXU : Fld := ⟨0x10040, 0x0, 0x0, 8, 6, .ro, 0, 0⟩
/-- VU_FLAGS_SEC.VU, bits 5:0 (R94). -/
def F.VU_FLAGS_SEC_VU : Fld := ⟨0x10040, 0x0, 0x0, 0, 6, .ro, 0, 0⟩
/-- The register VU_FLAGS_SEC (R94). -/
def R.VU_FLAGS_SEC : RegDef := ⟨0x10040, 0x0, 1, 0x0, 1, 0,
  [F.VU_FLAGS_SEC_FIRST_ACYC, F.VU_FLAGS_SEC_T2RSV, F.VU_FLAGS_SEC_SCLNAN, F.VU_FLAGS_SEC_MXU, F.VU_FLAGS_SEC_VU]⟩

/-- VU_FLAGS_TILE.SEC_COUNT, bits 47:32 (R94). -/
def F.VU_FLAGS_TILE_SEC_COUNT : Fld := ⟨0x10048, 0x0, 0x0, 32, 16, .ro, 0, 1⟩
/-- VU_FLAGS_TILE.T2RSV, bits 17 (R94). -/
def F.VU_FLAGS_TILE_T2RSV : Fld := ⟨0x10048, 0x0, 0x0, 17, 1, .w1c, 0, 1⟩
/-- VU_FLAGS_TILE.SCLNAN, bits 16 (R94). -/
def F.VU_FLAGS_TILE_SCLNAN : Fld := ⟨0x10048, 0x0, 0x0, 16, 1, .w1c, 0, 1⟩
/-- VU_FLAGS_TILE.MXU, bits 13:8 (R94). -/
def F.VU_FLAGS_TILE_MXU : Fld := ⟨0x10048, 0x0, 0x0, 8, 6, .w1c, 0, 1⟩
/-- VU_FLAGS_TILE.VU, bits 5:0 (R94). -/
def F.VU_FLAGS_TILE_VU : Fld := ⟨0x10048, 0x0, 0x0, 0, 6, .w1c, 0, 1⟩
/-- The register VU_FLAGS_TILE (R94). -/
def R.VU_FLAGS_TILE : RegDef := ⟨0x10048, 0x0, 1, 0x0, 1, 1,
  [F.VU_FLAGS_TILE_SEC_COUNT, F.VU_FLAGS_TILE_T2RSV, F.VU_FLAGS_TILE_SCLNAN, F.VU_FLAGS_TILE_MXU, F.VU_FLAGS_TILE_VU]⟩

/-- SCH_PV.VALUE, bits 31:0 (R142). -/
def F.SCH_PV_VALUE : Fld := ⟨0x10028, 0x0, 0x0, 0, 32, .ro, 0, 0⟩
/-- The register SCH_PV (R142). -/
def R.SCH_PV : RegDef := ⟨0x10028, 0x0, 1, 0x0, 1, 0,
  [F.SCH_PV_VALUE]⟩

/-- SCH_LOOP_START.DEPTH, bits 38:36 (R152). -/
def F.SCH_LOOP_START_DEPTH : Fld := ⟨0x10060, 0x0, 0x0, 36, 3, .ro, 0, 0⟩
/-- SCH_LOOP_START.START3, bits 35:27 (R152). -/
def F.SCH_LOOP_START_START3 : Fld := ⟨0x10060, 0x0, 0x0, 27, 9, .ro, 0, 0⟩
/-- SCH_LOOP_START.START2, bits 26:18 (R152). -/
def F.SCH_LOOP_START_START2 : Fld := ⟨0x10060, 0x0, 0x0, 18, 9, .ro, 0, 0⟩
/-- SCH_LOOP_START.START1, bits 17:9 (R152). -/
def F.SCH_LOOP_START_START1 : Fld := ⟨0x10060, 0x0, 0x0, 9, 9, .ro, 0, 0⟩
/-- SCH_LOOP_START.START0, bits 8:0 (R152). -/
def F.SCH_LOOP_START_START0 : Fld := ⟨0x10060, 0x0, 0x0, 0, 9, .ro, 0, 0⟩
/-- The register SCH_LOOP_START (R152). -/
def R.SCH_LOOP_START : RegDef := ⟨0x10060, 0x0, 1, 0x0, 1, 0,
  [F.SCH_LOOP_START_DEPTH, F.SCH_LOOP_START_START3, F.SCH_LOOP_START_START2, F.SCH_LOOP_START_START1, F.SCH_LOOP_START_START0]⟩

/-- SCH_LOOP_END.END3, bits 35:27 (R152). -/
def F.SCH_LOOP_END_END3 : Fld := ⟨0x10068, 0x0, 0x0, 27, 9, .ro, 0, 0⟩
/-- SCH_LOOP_END.END2, bits 26:18 (R152). -/
def F.SCH_LOOP_END_END2 : Fld := ⟨0x10068, 0x0, 0x0, 18, 9, .ro, 0, 0⟩
/-- SCH_LOOP_END.END1, bits 17:9 (R152). -/
def F.SCH_LOOP_END_END1 : Fld := ⟨0x10068, 0x0, 0x0, 9, 9, .ro, 0, 0⟩
/-- SCH_LOOP_END.END0, bits 8:0 (R152). -/
def F.SCH_LOOP_END_END0 : Fld := ⟨0x10068, 0x0, 0x0, 0, 9, .ro, 0, 0⟩
/-- The register SCH_LOOP_END (R152). -/
def R.SCH_LOOP_END : RegDef := ⟨0x10068, 0x0, 1, 0x0, 1, 0,
  [F.SCH_LOOP_END_END3, F.SCH_LOOP_END_END2, F.SCH_LOOP_END_END1, F.SCH_LOOP_END_END0]⟩

/-- SCH_CP_STAT.EV_COUNT, bits 42:40 (R152). -/
def F.SCH_CP_STAT_EV_COUNT : Fld := ⟨0x10070, 0x0, 0x0, 40, 3, .ro, 0, 0⟩
/-- SCH_CP_STAT.LAST_CP, bits 39:32 (R152). -/
def F.SCH_CP_STAT_LAST_CP : Fld := ⟨0x10070, 0x0, 0x0, 32, 8, .ro, 0, 0⟩
/-- SCH_CP_STAT.EVQ, bits 31:0 (R152). -/
def F.SCH_CP_STAT_EVQ : Fld := ⟨0x10070, 0x0, 0x0, 0, 32, .ro, 0, 0⟩
/-- The register SCH_CP_STAT (R152). -/
def R.SCH_CP_STAT : RegDef := ⟨0x10070, 0x0, 1, 0x0, 1, 0,
  [F.SCH_CP_STAT_EV_COUNT, F.SCH_CP_STAT_LAST_CP, F.SCH_CP_STAT_EVQ]⟩

/-- RTR_CUR.PB_VALID, bits 41 (R152). -/
def F.RTR_CUR_PB_VALID : Fld := ⟨0x100D0, 0x0, 0x0, 41, 1, .ro, 0, 0⟩
/-- RTR_CUR.PA_VALID, bits 40 (R152). -/
def F.RTR_CUR_PA_VALID : Fld := ⟨0x100D0, 0x0, 0x0, 40, 1, .ro, 0, 0⟩
/-- RTR_CUR.PB_TAG, bits 39:36 (R152). -/
def F.RTR_CUR_PB_TAG : Fld := ⟨0x100D0, 0x0, 0x0, 36, 4, .ro, 0, 0⟩
/-- RTR_CUR.PA_TAG, bits 35:32 (R152). -/
def F.RTR_CUR_PA_TAG : Fld := ⟨0x100D0, 0x0, 0x0, 32, 4, .ro, 0, 0⟩
/-- RTR_CUR.KB, bits 31:16 (R152). -/
def F.RTR_CUR_KB : Fld := ⟨0x100D0, 0x0, 0x0, 16, 16, .ro, 0, 0⟩
/-- RTR_CUR.KA, bits 15:0 (R152). -/
def F.RTR_CUR_KA : Fld := ⟨0x100D0, 0x0, 0x0, 0, 16, .ro, 0, 0⟩
/-- The register RTR_CUR (R152). -/
def R.RTR_CUR : RegDef := ⟨0x100D0, 0x0, 1, 0x0, 1, 0,
  [F.RTR_CUR_PB_VALID, F.RTR_CUR_PA_VALID, F.RTR_CUR_PB_TAG, F.RTR_CUR_PA_TAG, F.RTR_CUR_KB, F.RTR_CUR_KA]⟩

/-- RTR_HOLD.DATA, bits 63:0 (R152). -/
def F.RTR_HOLD_DATA : Fld := ⟨0x10140, 0x0, 0x8, 0, 64, .ro, 0, 0⟩
/-- The register RTR_HOLD (R152). -/
def R.RTR_HOLD : RegDef := ⟨0x10140, 0x0, 1, 0x8, 8, 0,
  [F.RTR_HOLD_DATA]⟩

/-- RTR_HOLD_TAG.TAG, bits 31:0 (R152). -/
def F.RTR_HOLD_TAG_TAG : Fld := ⟨0x10180, 0x0, 0x0, 0, 32, .ro, 0, 0⟩
/-- The register RTR_HOLD_TAG (R152). -/
def R.RTR_HOLD_TAG : RegDef := ⟨0x10180, 0x0, 1, 0x0, 1, 0,
  [F.RTR_HOLD_TAG_TAG]⟩

/-- RTR_PEEK.VALID, bits 63 (R152). -/
def F.RTR_PEEK_VALID : Fld := ⟨0x10190, 0x0, 0x0, 63, 1, .ro, 0, 0⟩
/-- RTR_PEEK.TAG, bits 11:8 (R152). -/
def F.RTR_PEEK_TAG : Fld := ⟨0x10190, 0x0, 0x0, 8, 4, .ro, 0, 0⟩
/-- RTR_PEEK.PORT, bits 6:4 (R152). -/
def F.RTR_PEEK_PORT : Fld := ⟨0x10190, 0x0, 0x0, 4, 3, .rw, 0, 0⟩
/-- RTR_PEEK.INDEX, bits 3:0 (R152). -/
def F.RTR_PEEK_INDEX : Fld := ⟨0x10190, 0x0, 0x0, 0, 4, .rw, 0, 0⟩
/-- The register RTR_PEEK (R152). -/
def R.RTR_PEEK : RegDef := ⟨0x10190, 0x0, 1, 0x0, 1, 0,
  [F.RTR_PEEK_VALID, F.RTR_PEEK_TAG, F.RTR_PEEK_PORT, F.RTR_PEEK_INDEX]⟩

/-- RTR_PEEK_DATA.DATA, bits 63:0 (R152). -/
def F.RTR_PEEK_DATA_DATA : Fld := ⟨0x10198, 0x0, 0x0, 0, 64, .ro, 0, 0⟩
/-- The register RTR_PEEK_DATA (R152). -/
def R.RTR_PEEK_DATA : RegDef := ⟨0x10198, 0x0, 1, 0x0, 1, 0,
  [F.RTR_PEEK_DATA_DATA]⟩

/-- RTR_PA.DATA, bits 63:0 (R152). -/
def F.RTR_PA_DATA : Fld := ⟨0x101A0, 0x0, 0x0, 0, 64, .ro, 0, 0⟩
/-- The register RTR_PA (R152). -/
def R.RTR_PA : RegDef := ⟨0x101A0, 0x0, 1, 0x0, 1, 0,
  [F.RTR_PA_DATA]⟩

/-- RTR_PB.DATA, bits 63:0 (R152). -/
def F.RTR_PB_DATA : Fld := ⟨0x101A8, 0x0, 0x0, 0, 64, .ro, 0, 0⟩
/-- The register RTR_PB (R152). -/
def R.RTR_PB : RegDef := ⟨0x101A8, 0x0, 1, 0x0, 1, 0,
  [F.RTR_PB_DATA]⟩

/-- STK_CUR.KT, bits 48:32 (R152). -/
def F.STK_CUR_KT : Fld := ⟨0x10600, 0x0, 0x8, 32, 17, .ro, 0, 0⟩
/-- STK_CUR.KS, bits 9:0 (R152). -/
def F.STK_CUR_KS : Fld := ⟨0x10600, 0x0, 0x8, 0, 10, .ro, 0, 0⟩
/-- The register STK_CUR (R152). -/
def R.STK_CUR : RegDef := ⟨0x10600, 0x0, 1, 0x8, 32, 0,
  [F.STK_CUR_KT, F.STK_CUR_KS]⟩

/-- SCH_INVP.PODD, bits 63:32 (R168). -/
def F.SCH_INVP_PODD : Fld := ⟨0x10700, 0x0, 0x8, 32, 32, .ro, 0, 1⟩
/-- SCH_INVP.PEVEN, bits 31:0 (R168). -/
def F.SCH_INVP_PEVEN : Fld := ⟨0x10700, 0x0, 0x8, 0, 32, .ro, 0, 1⟩
/-- The register SCH_INVP (R168). -/
def R.SCH_INVP : RegDef := ⟨0x10700, 0x0, 1, 0x8, 4, 1,
  [F.SCH_INVP_PODD, F.SCH_INVP_PEVEN]⟩

/-- SCH_SEC.SECTION, bits 63:48 (R161). -/
def F.SCH_SEC_SECTION : Fld := ⟨0x10720, 0x0, 0x0, 48, 16, .ro, 0, 0⟩
/-- SCH_SEC.ACYC, bits 31:0 (R161). -/
def F.SCH_SEC_ACYC : Fld := ⟨0x10720, 0x0, 0x0, 0, 32, .ro, 0, 0⟩
/-- The register SCH_SEC (R161). -/
def R.SCH_SEC : RegDef := ⟨0x10720, 0x0, 1, 0x0, 1, 0,
  [F.SCH_SEC_SECTION, F.SCH_SEC_ACYC]⟩

/-- STK_ECC.UE_ADDR, bits 55:33 (R192). -/
def F.STK_ECC_UE_ADDR : Fld := ⟨0x100E0, 0x0, 0x0, 33, 23, .ro, 0, 2⟩
/-- STK_ECC.UE, bits 32 (R192). -/
def F.STK_ECC_UE : Fld := ⟨0x100E0, 0x0, 0x0, 32, 1, .w1c, 0, 2⟩
/-- STK_ECC.CE_COUNT, bits 31:0 (R192). -/
def F.STK_ECC_CE_COUNT : Fld := ⟨0x100E0, 0x0, 0x0, 0, 32, .ro, 0, 2⟩
/-- The register STK_ECC (R192). -/
def R.STK_ECC : RegDef := ⟨0x100E0, 0x0, 1, 0x0, 1, 2,
  [F.STK_ECC_UE_ADDR, F.STK_ECC_UE, F.STK_ECC_CE_COUNT]⟩

/-- MSG_CFG.REPLY_TIMEOUT, bits 63:32 (R222). -/
def F.MSG_CFG_REPLY_TIMEOUT : Fld := ⟨0x10240, 0x0, 0x0, 32, 32, .rw, 2097152, 1⟩
/-- MSG_CFG.SEND_TIMEOUT, bits 31:0 (R222). -/
def F.MSG_CFG_SEND_TIMEOUT : Fld := ⟨0x10240, 0x0, 0x0, 0, 32, .rw, 65536, 1⟩
/-- The register MSG_CFG (R222). -/
def R.MSG_CFG : RegDef := ⟨0x10240, 0x0, 1, 0x0, 1, 1,
  [F.MSG_CFG_REPLY_TIMEOUT, F.MSG_CFG_SEND_TIMEOUT]⟩

/-- MSG_STATE.INC, bits 63 (R211). -/
def F.MSG_STATE_INC : Fld := ⟨0x10248, 0x0, 0x0, 63, 1, .ro, 0, 1⟩
/-- MSG_STATE.ABAN, bits 62:55 (R211). -/
def F.MSG_STATE_ABAN : Fld := ⟨0x10248, 0x0, 0x0, 55, 8, .ro, 0, 1⟩
/-- MSG_STATE.RSV, bits 54:47 (R211). -/
def F.MSG_STATE_RSV : Fld := ⟨0x10248, 0x0, 0x0, 47, 8, .ro, 0, 1⟩
/-- MSG_STATE.HELD, bits 46:39 (R211). -/
def F.MSG_STATE_HELD : Fld := ⟨0x10248, 0x0, 0x0, 39, 8, .ro, 0, 1⟩
/-- MSG_STATE.RQ, bits 38:35 (R211). -/
def F.MSG_STATE_RQ : Fld := ⟨0x10248, 0x0, 0x0, 35, 4, .ro, 0, 1⟩
/-- MSG_STATE.SEND, bits 34:33 (R211). -/
def F.MSG_STATE_SEND : Fld := ⟨0x10248, 0x0, 0x0, 33, 2, .ro, 0, 1⟩
/-- MSG_STATE.TAG, bits 29:20 (R211). -/
def F.MSG_STATE_TAG : Fld := ⟨0x10248, 0x0, 0x0, 20, 10, .ro, 0, 1⟩
/-- MSG_STATE.DEST, bits 19:0 (R211). -/
def F.MSG_STATE_DEST : Fld := ⟨0x10248, 0x0, 0x0, 0, 20, .ro, 0, 1⟩
/-- The register MSG_STATE (R211). -/
def R.MSG_STATE : RegDef := ⟨0x10248, 0x0, 1, 0x0, 1, 1,
  [F.MSG_STATE_INC, F.MSG_STATE_ABAN, F.MSG_STATE_RSV, F.MSG_STATE_HELD, F.MSG_STATE_RQ, F.MSG_STATE_SEND, F.MSG_STATE_TAG, F.MSG_STATE_DEST]⟩

/-- MSG_CNT.BUSY_RX, bits 63:48 (R211). -/
def F.MSG_CNT_BUSY_RX : Fld := ⟨0x10250, 0x0, 0x0, 48, 16, .ro, 0, 2⟩
/-- MSG_CNT.ERR_RX, bits 47:32 (R211). -/
def F.MSG_CNT_ERR_RX : Fld := ⟨0x10250, 0x0, 0x0, 32, 16, .ro, 0, 2⟩
/-- MSG_CNT.LATE, bits 31:16 (R211). -/
def F.MSG_CNT_LATE : Fld := ⟨0x10250, 0x0, 0x0, 16, 16, .ro, 0, 2⟩
/-- MSG_CNT.REFUSED, bits 15:0 (R211). -/
def F.MSG_CNT_REFUSED : Fld := ⟨0x10250, 0x0, 0x0, 0, 16, .ro, 0, 2⟩
/-- The register MSG_CNT (R211). -/
def R.MSG_CNT : RegDef := ⟨0x10250, 0x0, 1, 0x0, 1, 2,
  [F.MSG_CNT_BUSY_RX, F.MSG_CNT_ERR_RX, F.MSG_CNT_LATE, F.MSG_CNT_REFUSED]⟩

/-- MSG_SYS.ERR, bits 63 (R220). -/
def F.MSG_SYS_ERR : Fld := ⟨0x10258, 0x0, 0x0, 63, 1, .w1c, 0, 1⟩
/-- MSG_SYS.LAST_STATUS, bits 23:20 (R220). -/
def F.MSG_SYS_LAST_STATUS : Fld := ⟨0x10258, 0x0, 0x0, 20, 4, .ro, 0, 1⟩
/-- MSG_SYS.LAST_OP, bits 19:16 (R220). -/
def F.MSG_SYS_LAST_OP : Fld := ⟨0x10258, 0x0, 0x0, 16, 4, .ro, 0, 1⟩
/-- MSG_SYS.OPS, bits 15:0 (R220). -/
def F.MSG_SYS_OPS : Fld := ⟨0x10258, 0x0, 0x0, 0, 16, .ro, 0, 1⟩
/-- The register MSG_SYS (R220). -/
def R.MSG_SYS : RegDef := ⟨0x10258, 0x0, 1, 0x0, 1, 1,
  [F.MSG_SYS_ERR, F.MSG_SYS_LAST_STATUS, F.MSG_SYS_LAST_OP, F.MSG_SYS_OPS]⟩

/-- MSG_FLOW_OUT.MASK, bits 63:0 (R222). -/
def F.MSG_FLOW_OUT_MASK : Fld := ⟨0x10280, 0x0, 0x8, 0, 64, .rw, 0, 2⟩
/-- The register MSG_FLOW_OUT (R222). -/
def R.MSG_FLOW_OUT : RegDef := ⟨0x10280, 0x0, 1, 0x8, 16, 2,
  [F.MSG_FLOW_OUT_MASK]⟩

/-- MSG_FLOW_IN.MASK, bits 63:0 (R222). -/
def F.MSG_FLOW_IN_MASK : Fld := ⟨0x10300, 0x0, 0x8, 0, 64, .rw, 0, 2⟩
/-- The register MSG_FLOW_IN (R222). -/
def R.MSG_FLOW_IN : RegDef := ⟨0x10300, 0x0, 1, 0x8, 16, 2,
  [F.MSG_FLOW_IN_MASK]⟩

/-- MSG_FLOW_RPL.MASK, bits 63:0 (R222). -/
def F.MSG_FLOW_RPL_MASK : Fld := ⟨0x10380, 0x0, 0x8, 0, 64, .rw, 0, 2⟩
/-- The register MSG_FLOW_RPL (R222). -/
def R.MSG_FLOW_RPL : RegDef := ⟨0x10380, 0x0, 1, 0x8, 16, 2,
  [F.MSG_FLOW_RPL_MASK]⟩

/-- CC_BLOOM.OK, bits 63 (R392). -/
def F.CC_BLOOM_OK : Fld := ⟨0x100A0, 0x0, 0x0, 63, 1, .ro, 0, 2⟩
/-- CC_BLOOM.CRC, bits 31:0 (R392). -/
def F.CC_BLOOM_CRC : Fld := ⟨0x100A0, 0x0, 0x0, 0, 32, .ro, 0, 2⟩
/-- The register CC_BLOOM (R392). -/
def R.CC_BLOOM : RegDef := ⟨0x100A0, 0x0, 1, 0x0, 1, 2,
  [F.CC_BLOOM_OK, F.CC_BLOOM_CRC]⟩

/-- TEL_OCC.BIN_ODD, bits 63:32 (R508). -/
def F.TEL_OCC_BIN_ODD : Fld := ⟨0x10400, 0x0, 0x8, 32, 32, .ro, 0, 2⟩
/-- TEL_OCC.BIN_EVEN, bits 31:0 (R508). -/
def F.TEL_OCC_BIN_EVEN : Fld := ⟨0x10400, 0x0, 0x8, 0, 32, .ro, 0, 2⟩
/-- The register TEL_OCC (R508). -/
def R.TEL_OCC : RegDef := ⟨0x10400, 0x0, 1, 0x8, 64, 2,
  [F.TEL_OCC_BIN_ODD, F.TEL_OCC_BIN_EVEN]⟩

/-- UNIT_SEL.GROUP, bits 11:8 (R517). -/
def F.UNIT_SEL_GROUP : Fld := ⟨0x10728, 0x0, 0x0, 8, 4, .rw, 0, 0⟩
/-- UNIT_SEL.INDEX, bits 7:0 (R517). -/
def F.UNIT_SEL_INDEX : Fld := ⟨0x10728, 0x0, 0x0, 0, 8, .rw, 0, 0⟩
/-- The register UNIT_SEL (R517). -/
def R.UNIT_SEL : RegDef := ⟨0x10728, 0x0, 1, 0x0, 1, 0,
  [F.UNIT_SEL_GROUP, F.UNIT_SEL_INDEX]⟩

/-- UNIT_DATA.DATA, bits 63:0 (R517). -/
def F.UNIT_DATA_DATA : Fld := ⟨0x10730, 0x0, 0x0, 0, 64, .ro, 0, 0⟩
/-- The register UNIT_DATA (R517). -/
def R.UNIT_DATA : RegDef := ⟨0x10730, 0x0, 1, 0x0, 1, 0,
  [F.UNIT_DATA_DATA]⟩

/-- Every tile register (R10, R84). -/
def tileRegTable : List RegDef :=
  [R.TILE_ID, R.SCH_STATE, R.SCH_CMD, R.SCH_LOOP, R.TILE_FAULT, R.SCR_ECC, R.SCR_CMD, R.CC_STATE, R.CC_CMD, R.CC_WDOG, R.CC_CP_MBOX, R.RTR_STATUS] ++
  [R.RTR_ECC, R.BLY_TAP, R.TILE_CNT, R.VU_FLAGS_SEC, R.VU_FLAGS_TILE, R.SCH_PV, R.SCH_LOOP_START, R.SCH_LOOP_END, R.SCH_CP_STAT, R.RTR_CUR, R.RTR_HOLD, R.RTR_HOLD_TAG] ++
  [R.RTR_PEEK, R.RTR_PEEK_DATA, R.RTR_PA, R.RTR_PB, R.STK_CUR, R.SCH_INVP, R.SCH_SEC, R.STK_ECC, R.MSG_CFG, R.MSG_STATE, R.MSG_CNT, R.MSG_SYS] ++
  [R.MSG_FLOW_OUT, R.MSG_FLOW_IN, R.MSG_FLOW_RPL, R.CC_BLOOM, R.TEL_OCC, R.UNIT_SEL, R.UNIT_DATA]

end Sys2Proof.Machine
end

