-- ==== Sys2Proof/Machine/TileTypes.lean ====
section
/-!
DEFINITION. Sys2Proof/Machine/TileTypes.lean: the state of one tile as plain data (spec 02_tile, 03_arithmetic,
04_scheduled_fabric, 07_message_fabric).
-/

namespace Sys2Proof.Machine

/-- A word of scratch or of the stack segment as it was written, data and tenant tag, and the bits in which the 80-bit code
word now held differs from that (R81). -/
structure CWord where
  data : Word
  tag : BitVec 4
  err : BitVec 80
  deriving DecidableEq, Repr

/-- A zeroized word: data 0, tag 0 (R70). -/
def CWord.zero : CWord := ⟨0, 0, 0⟩

/-- The code word held: check symbols S17 to S19, the tag S16 and the data S0 to S15 (R81). -/
def CWord.code (w : CWord) : BitVec 80 := (Config.checkSymbols w.data w.tag ++ w.tag ++ w.data) ^^^ w.err

/-- The outcome of decoding a code word with the given bits in error (R82): an error confined to one of the 20 symbols is
corrected. An error of three symbols or more, on which R82 is silent, counts as uncorrectable (assumption 32). -/
def errOutcome (e : BitVec 80) : Ecc :=
  if e = 0 then .good
  else if (List.range 20).any (fun j => e &&& ~~~(0xF#80 <<< (4 * j)) = 0) then .one
  else .multi

/-- The outcome of decoding a word (R82). -/
def CWord.ecc (w : CWord) : Ecc := errOutcome w.err

/-- What decoding a word delivers: corrected, or data and tag as received (R82). -/
def CWord.read (w : CWord) : CWord :=
  if w.ecc = .multi then ⟨w.data ^^^ w.err.extractLsb' 0 64, w.tag ^^^ w.err.extractLsb' 64 4, 0⟩ else ⟨w.data, w.tag, 0⟩

/-- A word on the scheduled fabric, or a message flit: data and tag symbol (R81, R203). -/
structure Tok where
  data : Word
  colour : BitVec 4
  deriving DecidableEq, Repr

/-- A live handle entry (R62 to R66). -/
structure Handle where
  valid : Bool
  stackSpace : Bool
  ro : Bool
  res : Bool
  ckp : Bool
  app : Bool
  ten : BitVec 4
  length : BitVec 23
  base : BitVec 23
  wmark : BitVec 23
  stride : BitVec 16
  deriving DecidableEq, Repr

/-- The handle entry after reset. -/
def Handle.zero : Handle := ⟨false, false, false, false, false, false, 0, 0, 0, 0, 0⟩

/-- A shadow handle entry and its pending flags (R62, R67). -/
structure Shadow where
  base : BitVec 23
  length : BitVec 23
  stride : BitVec 16
  pBase : Bool
  pLength : Bool
  pStride : Bool
  deriving DecidableEq, Repr

/-- The shadow entry after reset. -/
def Shadow.zero : Shadow := ⟨0, 0, 0, false, false, false⟩

/-- The sequencer states (SCH_STATE.STATE). -/
inductive SeqState where
  | idle
  | armed
  | run
  | done
  | halt
  deriving DecidableEq, Repr

/-- An open loop: first and last bundle of its body and the remaining count (R143). -/
structure Loop where
  start : BitVec 9
  last : BitVec 9
  count : BitVec 16
  deriving DecidableEq, Repr

/-- The schedule sequencer (R47 to R51, R142 to R145, R534). -/
structure Seq where
  state : SeqState
  /-- index of the bundle issued in the last acycle (SCH_STATE.PC) -/
  pc : BitVec 9
  /-- index of the bundle to issue next -/
  nextPc : BitVec 9
  /-- the active bundle store, false for 0 -/
  act : Bool
  actValid : Bool
  stbyValid : Bool
  stbyCount : Nat
  /-- an SLD has been issued since the last switch (R164) -/
  sldBegun : Bool
  /-- slots of the active store that its load wrote; a later slot issues as a bundle of zeros (R165) -/
  actCount : Nat
  colour : BitVec 4
  cmdArm : Bool
  /-- the section start acycle that an ARMED tile waits for -/
  startAt : Nat
  /-- array acycle at which the section count began (R157) -/
  secStart : Nat
  section_ : Nat
  /-- open loops, outermost first, at most four -/
  loops : List Loop
  pv : Lane
  lastCp : Byte
  /-- the control-point event queue, oldest first, at most four -/
  evq : List Byte
  /-- the first array acycle that the tile has not run -/
  next : Nat
  deriving DecidableEq, Repr

/-- The sequencer after L0 (R84). -/
def Seq.zero : Seq where
  state := .idle
  pc := 0
  nextPc := 0
  act := false
  actValid := false
  stbyValid := false
  stbyCount := 0
  sldBegun := false
  actCount := 0
  colour := 0
  cmdArm := false
  startAt := 0
  secStart := 0
  section_ := 0
  loops := []
  pv := 0
  lastCp := 0
  evq := []
  next := 0

/-- Which next buffer an MXU load writes (R98). -/
inductive MxuBuf where
  | w
  | x
  | s
  deriving DecidableEq, Repr

/-- A next-buffer write on its way: the acycle at whose start it is made, the buffer and the 64 bytes (R101). -/
structure MxuLoad where
  due : Nat
  buf : MxuBuf
  data : Row
  deriving DecidableEq, Repr

/-- An accumulator set written by a MAC or CLR: issue acycle, set and the set's new value (R105). -/
structure AccWrite where
  at_ : Nat
  set : Nat
  value : Row
  deriving DecidableEq, Repr

/-- The matrix unit (R96 to R106). -/
structure Mxu where
  /-- the four accumulator sets, as the next MAC sees them -/
  acc : SMap Row
  /-- the sets as left by operations at least four acycles old, which STA and MXA see (R105) -/
  accOld : SMap Row
  /-- operations younger than that, oldest first -/
  accLog : List AccWrite
  wreg : Row
  wnxt : Row
  xreg : Row
  xnxt : Row
  ws : BitVec 128
  xs : BitVec 32
  wsnxt : BitVec 128
  xsnxt : BitVec 32
  cw : BitVec 10
  cx : BitVec 10
  cs : BitVec 10
  ca : BitVec 10
  wp : BitVec 8
  xp : BitVec 8
  bc : BitVec 8
  loads : List MxuLoad
  deriving DecidableEq, Repr

/-- The matrix unit at a section start and at L0 (R106): scales 0x7F, pointers 0xFF, everything else zero. -/
def Mxu.zero : Mxu where
  acc := []
  accOld := []
  accLog := []
  wreg := 0
  wnxt := 0
  xreg := 0
  xnxt := 0
  ws := packLe 128 (List.replicate 16 (0x7F#8))
  xs := packLe 32 (List.replicate 4 (0x7F#8))
  wsnxt := packLe 128 (List.replicate 16 (0x7F#8))
  xsnxt := packLe 32 (List.replicate 4 (0x7F#8))
  cw := 0
  cx := 0
  cs := 0
  ca := 0
  wp := 0xFF
  xp := 0xFF
  bc := 0xFF
  loads := []

/-- A VU result on its way: landing acycle, issue acycle, whether it comes from the memory part (which wins over the
compute part of the same bundle, R117), the register, the lanes written and the value. -/
structure VuRes where
  due : Nat
  issued : Nat
  mem : Bool
  reg : Nat
  lanes : BitVec 16
  value : Row
  deriving DecidableEq, Repr

/-- An instruction flag word: issue acycle, the acycle in which it is complete, and the flags (R94). -/
structure FlagWord where
  issued : Nat
  complete : Nat
  flags : BitVec 6
  deriving DecidableEq, Repr

/-- The vector unit (R107 to R118). -/
structure Vu where
  regs : SMap Row
  c : Lane
  m : BitVec 16
  k : SMap (BitVec 16)
  pending : List VuRes
  /-- instruction flag words of the section that are not yet complete -/
  flagsOpen : List FlagWord
  /-- the latest-issued complete flag word of the section, if any -/
  flagsLast : Option FlagWord
  deriving DecidableEq, Repr

/-- The vector unit at a section start and at L0 (R118). -/
def Vu.zero : Vu := ⟨[], 0, 0, [], [], [], none⟩

/-- An injected word on its way: the acycle from which it is PA or PB, the port (false for A) and the word (R138). -/
structure Inject where
  due : Nat
  portB : Bool
  tok : Tok
  deriving DecidableEq, Repr

/-- The router and the fabric and stack port cursors (R124 to R141). -/
structure Rtr where
  /-- the landing FIFOs by input port: N, E, S, W, ridge N, E, S, W; oldest word first -/
  fifos : SMap (List Tok)
  /-- hold registers; `none` has not been written since the section started -/
  hold : SMap (Option Tok)
  pa : Option Tok
  pb : Option Tok
  injects : List Inject
  ka : BitVec 16
  kb : BitVec 16
  ks : SMap (BitVec 10)
  kt : SMap (BitVec 17)
  deriving DecidableEq, Repr

/-- The router after L0. -/
def Rtr.zero : Rtr := ⟨[], [], none, none, [], 0, 0, [], []⟩

/-- A stack beat on its way to scratch (SRD) or to the standby bundle store (SLD), landing at `due` (R74, R164). -/
structure Beat where
  due : Nat
  sld : Bool
  /-- scratch byte address (SRD only) -/
  dest : Nat
  /-- the section start of the issuing section: a beat that outlives its section never lands (R162) -/
  secStart : Nat
  words : List CWord
  deriving DecidableEq, Repr

/-- A posted stack write on its way to the DRAM until `due`, with the first word's index and the words that it replaced: a forced
refresh discards it (R191). -/
structure Posted where
  due : Nat
  word : Nat
  old : List CWord
  deriving DecidableEq, Repr

/-- A message packet (R206). Payload flits keep their tag symbol. -/
structure Packet where
  /-- false: request mesh; true: reply mesh -/
  reply : Bool
  inc : Bool
  slot : BitVec 3
  status : BitVec 4
  cls : BitVec 2
  tag : BitVec 10
  src : BitVec 20
  dst : BitVec 20
  words : List Tok
  deriving DecidableEq, Repr

/-- A reply slot (R208 to R211). -/
structure Slot where
  reserved : Bool
  /-- abandoned, or in quarantine after a timeout: not usable -/
  abandoned : Bool
  /-- the acycle of the ACK from which REPLY_TIMEOUT counts, once it has come -/
  ackAt : Option Nat
  /-- the acycle at which the slot was abandoned or answered with TIMEOUT -/
  quarantineAt : Nat
  /-- a reply that has landed and is not dispatched -/
  held : Option Packet
  /-- tag and destination of the request that reserved the slot -/
  tag : BitVec 10
  dest : BitVec 20
  deriving DecidableEq, Repr

/-- A free slot. -/
def Slot.free : Slot := ⟨false, false, none, 0, none, 0, 0⟩

/-- What the transmitter is doing (MSG_STATE.SEND). -/
inductive SendState where
  | idle
  | awaitAnswer
  | backoff
  | awaitSlot
  deriving DecidableEq, Repr

/-- A landed item awaiting dispatch, in landing order: a request, or the reply held in a slot (R214). -/
inductive Landed where
  | request (p : Packet)
  | reply (slot : Nat)
  deriving DecidableEq, Repr

/-- The message interface (R208 to R215, MSG_STATE). -/
structure MsgIf where
  inc : Bool
  slots : SMap Slot
  /-- landed requests (at most eight) and replies, in landing order -/
  landed : List Landed
  send : SendState
  /-- the request in the transmitter -/
  txPkt : Option Packet
  /-- when TS.SEND started, and when the back-off began -/
  txStart : Nat
  backoffAt : Nat
  /-- register that takes TS.SEND's result -/
  txRd : Nat
  tag : BitVec 10
  dest : BitVec 20
  /-- one more than the array acycle in which a request last landed (R214) -/
  reqAt : Nat
  deriving DecidableEq, Repr

/-- The message interface after L1. -/
def MsgIf.zero : MsgIf := ⟨false, [], [], .idle, none, 0, 0, 0, 0, 0, 0⟩

/-- The control core's states (CC_STATE.STATE). -/
inductive CoreState where
  | held
  | waiting
  | handler
  | trap
  | lockup
  | startup
  deriving DecidableEq, Repr

/-- A tag-to-handler table entry. -/
structure TagEntry where
  valid : Bool
  handler : BitVec 16
  deriving DecidableEq, Repr

/-- An unbound tag. -/
def TagEntry.zero : TagEntry := ⟨false, 0⟩

/-- The control core and its memories (R47 to R57, R532). -/
structure CCore where
  state : CoreState
  /-- x1 to x31; x0 reads as zero -/
  x : SMap Lane
  /-- tile address of the next instruction -/
  pc : BitVec 32
  /-- instruction-store offset of the last instruction retired (CC_STATE.PC) -/
  retired : BitVec 13
  tag : BitVec 10
  mcause : BitVec 4
  /-- acycle at which the handler or start-up run began -/
  runStart : Nat
  /-- the request in hand, and whether it has been replied to -/
  inHand : Option Packet
  replied : Bool
  /-- instruction store, data RAM, receive and send buffer, by byte -/
  imem : SMap Byte
  dmem : SMap Byte
  rbuf : SMap Byte
  sbuf : SMap Byte
  tags : SMap TagEntry
  /-- the control-point mailbox CC_CP_MBOX -/
  mboxReady : Bool
  mboxId : Byte
  mboxValue : Lane
  deriving DecidableEq, Repr

/-- The control core after L2: held, with empty memories. -/
def CCore.zero : CCore where
  state := .held
  x := []
  pc := 0x20000
  retired := 0
  tag := 0
  mcause := 0
  runStart := 0
  inHand := none
  replied := false
  imem := []
  dmem := []
  rbuf := []
  sbuf := []
  tags := []
  mboxReady := false
  mboxId := 0
  mboxValue := 0

/-- A scratch operation under way (R69, R70). -/
inductive ScrOp where
  | none
  | scrub
  | zeroize
  deriving DecidableEq, Repr

/-- One tile. -/
structure Tile where
  seq : Seq
  mxu : Mxu
  vu : Vu
  rtr : Rtr
  msg : MsgIf
  core : CCore
  scratch : SMap CWord
  stack : SMap CWord
  store0 : SMap (BitVec 128)
  store1 : SMap (BitVec 128)
  handles : SMap Handle
  shadows : SMap Shadow
  beats : List Beat
  posted : List Posted
  scrOp : ScrOp
  /-- the structural test that the system agent has started and whose result has not come (R219) -/
  test : Option Nat
  /-- the check that a write of CC_BLOOM started has not ended (R392) -/
  bloom : Bool
  /-- fields of the tile registers that no other part above holds -/
  regs : RegFile
  deriving DecidableEq, Repr

/-- A tile after L4: everything cleared, the stack written zero (R84, R196). -/
def Tile.zero : Tile where
  seq := Seq.zero
  mxu := Mxu.zero
  vu := Vu.zero
  rtr := Rtr.zero
  msg := MsgIf.zero
  core := CCore.zero
  scratch := []
  stack := []
  store0 := []
  store1 := []
  handles := []
  shadows := []
  beats := []
  posted := []
  scrOp := .none
  test := none
  bloom := false
  regs := []

end Sys2Proof.Machine
end

