-- ==== Sys2Proof/Machine/Flags.lean ====
section
/-!
DEFINITION. Sys2Proof/Machine/Flags.lean: fault codes, the recording of a tile's faults (R85), and the flag words of the
MXU and VU (R93 to R95).
-/

namespace Sys2Proof.Machine

/-! ### Fault codes (R9) -/

def Code.eccCeRate : Nat := 0x0101
def Code.eccScrUe : Nat := 0x0102
def Code.eccHopUe : Nat := 0x0103
def Code.eccStkUe : Nat := 0x0104
def Code.eccMsgUe : Nat := 0x0105
def Code.staleToken : Nat := 0x0201
def Code.bankClash : Nat := 0x0202
def Code.fifoOverflow : Nat := 0x0203
def Code.lateLanding : Nat := 0x0204
def Code.fieldDark : Nat := 0x0205
def Code.refreshForced : Nat := 0x0206
def Code.handleViolation : Nat := 0x0207
def Code.coreTrap : Nat := 0x0208
def Code.coreLockup : Nat := 0x0209
def Code.illegalOp : Nat := 0x020A
def Code.cpEmpty : Nat := 0x020B
def Code.sourceEmpty : Nat := 0x020C
def Code.seamSlip : Nat := 0x020D
def Code.cpEventLost : Nat := 0x020E
def Code.stbyNotReady : Nat := 0x020F
def Code.sectionOverrun : Nat := 0x0210
def Code.stkRefreshClash : Nat := 0x0211
def Code.stkOverbudget : Nat := 0x0212
def Code.msgSendTimeout : Nat := 0x0301
def Code.msgFlowRefused : Nat := 0x0302
def Code.msgReplyTimeout : Nat := 0x0303
def Code.tenantMismatch : Nat := 0x0801

/-! ### Register fields of a tile -/

/-- The value of a tile register field that the register file holds. -/
def Tile.reg (t : Tile) (f : Fld) (j : Nat := 0) : Nat := t.regs.get f 0 j

/-- Writes a tile register field. -/
def Tile.setReg (t : Tile) (f : Fld) (v : Nat) (j : Nat := 0) : Tile := { t with regs := t.regs.set f 0 j v }

/-- Adds to a saturating counter field. -/
def Tile.countSat (t : Tile) (f : Fld) (n : Nat := 1) : Tile := t.setReg f (satAdd f.w (t.reg f) n)

/-- Adds to a tile counter, which wraps (R86). -/
def Tile.count (t : Tile) (i n : Nat) : Tile := t.setReg F.TILE_CNT_COUNT (t.reg F.TILE_CNT_COUNT i + n) i

/-! ### A tile at work -/

/-- A tile during one event: its state, the array acycle, the fault codes it has recorded (newest first), the words it
drives on outputs 0 to 7, the scheduled stack beats it has issued (R183), the correctable stack words it has read and the
byte addresses of the uncorrectable ones (R192, R193), the packets it sends, and whether a fault it recorded makes the
running section invalid. -/
structure TW where
  t : Tile
  now : Nat
  faults : List Nat
  words : List (Nat × Tok)
  beats : Nat
  stkCe : Nat
  stkUe : List Nat
  pkts : List Packet
  inval : Bool
  deriving DecidableEq, Repr

/-- A tile about to work in array acycle `now`. -/
def TW.start (t : Tile) (now : Nat) : TW := ⟨t, now, [], [], 0, 0, [], [], false⟩

/-- Changes the tile. -/
def TW.upd (w : TW) (f : Tile → Tile) : TW := { w with t := f w.t }

/-- The section acycle count of an array acycle (R157, R161). A tile that has taken no switch since its reset has no section
count: there the acycle that TILE_FAULT records is the array acycle (assumption 22). -/
def Tile.secAcyc (t : Tile) (now : Nat) : Nat := now - t.seq.secStart

/-- TILE_FAULT takes the first fault since it was cleared; a later one sets MULTI only (R85). -/
def Tile.latchFault (t : Tile) (code acyc : Nat) : Tile :=
  if t.reg F.TILE_FAULT_VALID = 0 then
    (((t.setReg F.TILE_FAULT_VALID 1).setReg F.TILE_FAULT_CODE code).setReg F.TILE_FAULT_ACYC acyc).setReg
      F.TILE_FAULT_MULTI 0
  else t.setReg F.TILE_FAULT_MULTI 1

/-- Records a fault in TILE_FAULT and for the fault path (R85), the section's validity apart. -/
def TW.note (w : TW) (code : Nat) : TW :=
  { w with t := w.t.latchFault code (w.t.secAcyc w.now), faults := code :: w.faults }

/-- Records a fault that makes the section invalid (R51, R63). -/
def TW.fault (w : TW) (code : Nat) : TW := { w.note code with inval := true }

/-- Sends a packet on its mesh. -/
def TW.emit (w : TW) (p : Packet) : TW := { w with pkts := w.pkts ++ [p] }

/-- Records a fault where the condition holds. -/
def TW.faultIf (w : TW) (c : Bool) (code : Nat) : TW := if c then w.fault code else w

/-! ### Flag words (R93 to R95) -/

/-- Any flag of VU_FLAGS_SEC. -/
def Tile.anySecFlag (t : Tile) : Bool :=
  t.reg F.VU_FLAGS_SEC_VU ≠ 0 || t.reg F.VU_FLAGS_SEC_MXU ≠ 0 || t.reg F.VU_FLAGS_SEC_SCLNAN ≠ 0 ||
    t.reg F.VU_FLAGS_SEC_T2RSV ≠ 0

/-- ORs a value into a field of VU_FLAGS_SEC and of VU_FLAGS_TILE. -/
def Tile.orFlag (t : Tile) (sec all : Fld) (v : Nat) : Tile :=
  (t.setReg sec (t.reg sec ||| v)).setReg all (t.reg all ||| v)

/-- FIRST_ACYC: the earliest issue of the section that set any flag (R94). -/
def Tile.firstFlag (t : Tile) (issued : Nat) : Tile :=
  let a := t.secAcyc issued % 2 ^ 32
  if t.anySecFlag then t.setReg F.VU_FLAGS_SEC_FIRST_ACYC (min a (t.reg F.VU_FLAGS_SEC_FIRST_ACYC))
  else t.setReg F.VU_FLAGS_SEC_FIRST_ACYC a

/-- Gathers the flags of a complete VU instruction flag word (R94). -/
def Tile.gatherVu (t : Tile) (issued : Nat) (f : Flags) : Tile :=
  if f = 0 then t else (t.firstFlag issued).orFlag F.VU_FLAGS_SEC_VU F.VU_FLAGS_TILE_VU f.toNat

/-- Gathers MXU flags, and the scale and ternary notes (R88, R92, R94). -/
def Tile.gatherMxu (t : Tile) (issued : Nat) (f : Flags) (sclnan t2rsv : Bool) : Tile :=
  if f = 0 && !sclnan && !t2rsv then t
  else
    let t := t.firstFlag issued
    let t := t.orFlag F.VU_FLAGS_SEC_MXU F.VU_FLAGS_TILE_MXU f.toNat
    let t := if sclnan then t.orFlag F.VU_FLAGS_SEC_SCLNAN F.VU_FLAGS_TILE_SCLNAN 1 else t
    if t2rsv then t.orFlag F.VU_FLAGS_SEC_T2RSV F.VU_FLAGS_TILE_T2RSV 1 else t

/-- VU_FLAGS_SEC at its reset value (R95). -/
def Tile.clearSecFlags (t : Tile) : Tile :=
  ((((t.setReg F.VU_FLAGS_SEC_VU 0).setReg F.VU_FLAGS_SEC_MXU 0).setReg F.VU_FLAGS_SEC_SCLNAN 0).setReg
    F.VU_FLAGS_SEC_T2RSV 0).setReg F.VU_FLAGS_SEC_FIRST_ACYC 0

/-- A section ends: SEC_COUNT counts it where any flag is set. -/
def Tile.countFlagged (t : Tile) : Tile :=
  if t.anySecFlag then t.countSat F.VU_FLAGS_TILE_SEC_COUNT else t

end Sys2Proof.Machine
end

