-- ==== Sys2Proof/Machine/Operands.lean ====
section
/-!
DEFINITION. Sys2Proof/Machine/Operands.lean: the operand forms of a tile: element addresses, handle checks, scratch and
stack words with their code-word outcomes, and bank arbitration (spec 02_tile R58 to R76, R531, R533; 03 R98, R110).
-/

namespace Sys2Proof.Machine

/-- Word `i` of scratch. -/
def Tile.scrWord (t : Tile) (i : Nat) : CWord := t.scratch.get CWord.zero (i % 8192)

/-- Stores word `i` of scratch, a good code word. -/
def Tile.setScrWord (t : Tile) (i : Nat) (d : Word) (tag : BitVec 4) : Tile :=
  { t with scratch := t.scratch.set CWord.zero (i % 8192) ⟨d, tag, 0⟩ }

/-- Words of a stack segment: 5 MiB (R74). -/
def stackWords : Nat := 655360

/-- Word `i` of the stack segment. -/
def Tile.stkWord (t : Tile) (i : Nat) : CWord := t.stack.get CWord.zero i

/-- Stores word `i` of the stack segment. -/
def Tile.setStkWord (t : Tile) (i : Nat) (d : Word) (tag : BitVec 4) : Tile :=
  { t with stack := t.stack.set CWord.zero i ⟨d, tag, 0⟩ }

/-- Live handle `n`. -/
def Tile.handle (t : Tile) (n : Nat) : Handle := t.handles.get Handle.zero n

/-- Shadow handle `n`. -/
def Tile.shadow (t : Tile) (n : Nat) : Shadow := t.shadows.get Shadow.zero n

/-- The byte address of element `i` (R63). -/
def Handle.elem (h : Handle) (i : Nat) : Nat := h.base.toNat + i * h.stride.toNat

/-- The address with the bits below a port's alignment cleared (R59). -/
def alignDown (a n : Nat) : Nat := a / n * n

/-- The first bank of four that a byte address names (R58, R533). -/
def bankOf (a : Nat) : Nat := (a / 2 ^ 14) % 4

/-- The checks of R63 in order, on `n` bytes from `addr`: `shapeOk` says that SPACE and STRIDE are those the access needs
(a failure counts as check 2), `tags` are the stored tags that a read meets (check 5). The answer is the fault code of the
first check that fails. -/
def Handle.check (h : Handle) (addr n : Nat) (write shapeOk : Bool) (tags : List (BitVec 4)) : Option Nat :=
  let base := h.base.toNat
  let wm := base + h.wmark.toNat
  if !h.valid then some Code.handleViolation
  else if !shapeOk || decide (addr < base) || decide (base + h.length.toNat < addr + n) then some Code.handleViolation
  else if write && h.ro then some Code.handleViolation
  else if h.app && write && decide (addr ≠ wm) then some Code.handleViolation
  else if h.app && !write && decide (wm < addr + n) then some Code.handleViolation
  else if !write && tags.any (fun g => g ≠ h.ten && g ≠ 0) then some Code.tenantMismatch
  else none

/-- A successful write advances the watermark of an APP handle (R64). -/
def Tile.advance (t : Tile) (hn n : Nat) : Tile :=
  let h := t.handle hn
  if h.app then { t with handles := t.handles.set Handle.zero hn { h with wmark := h.wmark + BitVec.ofNat 23 n } }
  else t

/-- The words that the bytes `[addr, addr + n)` touch: the first one's index and how many. -/
def wordSpan (addr n : Nat) : Nat × Nat := (addr / 8, (addr + n - 1) / 8 - addr / 8 + 1)

/-- The tags that a read of `k` scratch words from `i` delivers. -/
def Tile.scrTags (t : Tile) (i k : Nat) : List (BitVec 4) := (List.range k).map (fun j => (t.scrWord (i + j)).read.tag)

/-- The tags that a read of `k` stack words from `i` delivers. -/
def Tile.stkTags (t : Tile) (i k : Nat) : List (BitVec 4) := (List.range k).map (fun j => (t.stkWord (i + j)).read.tag)

/-- Notes the code-word outcome of a scratch read of word `i` (R71, R82); `sched` reads invalidate the section. -/
def TW.noteScr (w : TW) (i : Nat) : TW :=
  match (w.t.scrWord i).ecc with
  | .good => w
  | .one => w.upd (·.countSat F.SCR_ECC_CE_COUNT)
  | .multi =>
    let w := if w.t.reg F.SCR_ECC_UE = 0 then
        w.upd (fun t => (t.setReg F.SCR_ECC_UE 1).setReg F.SCR_ECC_UE_ADDR (i % 8192 * 8))
      else w
    w.fault Code.eccScrUe

/-- Reads `k` scratch words from `i`: their code-word outcomes are noted, and the words are as decoded. -/
def TW.readScr (w : TW) (i k : Nat) : TW × List CWord :=
  ((List.range k).foldl (fun w j => w.noteScr (i + j)) w, (List.range k).map (fun j => (w.t.scrWord (i + j)).read))

/-- Writes whole words to scratch with one tag (R59, R65). -/
def Tile.writeScr (t : Tile) (i : Nat) (tag : BitVec 4) : List Word → Tile
  | [] => t
  | d :: r => (t.setScrWord i d tag).writeScr (i + 1) tag r

/-- Writes code words to scratch, each with its own tag (R76). -/
def Tile.landScr (t : Tile) (i : Nat) : List CWord → Tile
  | [] => t
  | d :: r => (t.setScrWord i d.data d.tag).landScr (i + 1) r

/-- Writes code words to the stack segment, each with its own tag (R76). -/
def Tile.landStk (t : Tile) (i : Nat) : List CWord → Tile
  | [] => t
  | d :: r => (t.setStkWord i d.data d.tag).landStk (i + 1) r

/-- A word whose bytes in a list of byte ranges come from `new`, and the rest from `old`; a byte taken brings the new word's
tag. `i` is the word's index. -/
def mixWord (rs : List (Nat × Nat)) (i : Nat) (old new : CWord) : CWord :=
  let hit := fun (k : Nat) => rs.any (fun r => decide (r.1 ≤ 8 * i + k ∧ 8 * i + k < r.1 + r.2))
  if (List.range 8).all hit then new
  else if !(List.range 8).any hit then old
  else
    let byte := fun (k : Nat) => bits (if hit k then new.data.toNat else old.data.toNat) (8 * k) 8 * 2 ^ (8 * k)
    ⟨BitVec.ofNat 64 (((List.range 8).map byte).foldl (· + ·) 0), new.tag, 0⟩

/-- The 512 bits of eight words. -/
def rowOfWords (l : List CWord) : Row := packLe 512 (l.map (·.data))

/-- A bank request of a scheduled port: its clash priority, lowest first to win, and the byte address it names (R60). -/
structure ScrReq where
  prio : Nat
  addr : Nat
  deriving DecidableEq, Repr

/-- Clash priorities (R60). The stack port's issue comes before its landing beat: R531 and R64 say that it is the beat
that a clash discards. -/
def prioSwr : Nat := 0
def prioLand : Nat := 1
def prioMxu : Nat := 2
def prioVu : Nat := 3
def prioFa : Nat := 4
def prioFb : Nat := 5

/-- Whether the request of a priority wins its bank: no request of a higher priority names the same bank. -/
def wins (rs : List ScrReq) (prio : Nat) : Bool :=
  match rs.find? (fun r => r.prio = prio) with
  | none => false
  | some r => rs.all (fun q => bankOf q.addr ≠ bankOf r.addr || decide (prio ≤ q.prio))

/-- How many of the four banks two or more requests name. -/
def clashes (rs : List ScrReq) : Nat :=
  ((List.range 4).filter (fun b => decide (2 ≤ (rs.filter (fun r => bankOf r.addr = b)).length))).length

/-- A scheduled read of `n` bytes at `addr` through handle `hn` after it has won its bank: the words, or none where a
check fails and the access is suppressed (R63, R531). -/
def TW.readThrough (w : TW) (hn addr n : Nat) (shapeOk : Bool) : TW × Option (List CWord) :=
  let h := w.t.handle hn
  let sp := wordSpan addr n
  match h.check addr n false (shapeOk && !h.stackSpace) (w.t.scrTags sp.1 sp.2) with
  | some c => (w.fault c, none)
  | none => let r := w.readScr sp.1 sp.2; (r.1, some r.2)

/-- A scheduled write of whole words at `addr` through handle `hn` after it has won its bank; false where it is
suppressed. -/
def TW.writeThrough (w : TW) (hn addr n : Nat) (shapeOk : Bool) (ds : List Word) : TW × Bool :=
  let h := w.t.handle hn
  match h.check addr n true (shapeOk && !h.stackSpace) [] with
  | some c => (w.fault c, false)
  | none => (w.upd (fun t => (t.writeScr (addr / 8) h.ten ds).advance hn n), true)

/-! ### The stack segment -/

/-- Notes the code-word outcome of a stack read of word `i` in STK_ECC (R192, R193). -/
def TW.noteStk (w : TW) (i : Nat) : TW :=
  match (w.t.stkWord i).ecc with
  | .good => w
  | .one => { w.upd (·.countSat F.STK_ECC_CE_COUNT) with stkCe := w.stkCe + 1 }
  | .multi =>
    let w := { w with stkUe := i * 8 :: w.stkUe }
    let w := if w.t.reg F.STK_ECC_UE = 0 then
        w.upd (fun t => (t.setReg F.STK_ECC_UE 1).setReg F.STK_ECC_UE_ADDR (i * 8))
      else w
    w.fault Code.eccStkUe

/-- Whether a stack handle of the tile covers the byte address. -/
def Tile.covering (t : Tile) (a : Nat) : List Handle :=
  ((List.range 64).map t.handle).filter
    (fun h => h.valid && h.stackSpace && decide (h.base.toNat ≤ a ∧ a < h.base.toNat + h.length.toNat))

end Sys2Proof.Machine
end

