-- ==== Sys2Proof/Machine/Mxu.lean ====
section
/-!
DEFINITION. Sys2Proof/Machine/Mxu.lean: the matrix unit (spec 03_arithmetic, R96 to R106).
-/

namespace Sys2Proof.Machine

/-- An element format of an MXU operand. -/
inductive Elem where
  | fp (f : Fmt)
  | int (w : Nat)
  | t2
  deriving DecidableEq, Repr

/-- The element width in bits. -/
def Elem.width : Elem → Nat
  | .fp f => 1 + f.ew + f.mw
  | .int w => w
  | .t2 => 2

/-- A format pair (MXU format pairs table). -/
structure Pair where
  wt : Elem
  ac : Elem
  w : Nat
  isInt : Bool
  deriving DecidableEq, Repr

/-- The format pair of a FMT code; none where it is reserved. -/
def pairOf : Nat → Option Pair
  | 0x0 => some ⟨.fp fmtBF16, .fp fmtBF16, 1, false⟩
  | 0x1 => some ⟨.fp fmtF16, .fp fmtF16, 1, false⟩
  | 0x2 => some ⟨.fp fmtE4M3, .fp fmtE4M3, 2, false⟩
  | 0x3 => some ⟨.fp fmtE4M3, .fp fmtE5M2, 2, false⟩
  | 0x4 => some ⟨.fp fmtE5M2, .fp fmtE5M2, 2, false⟩
  | 0x5 => some ⟨.int 8, .int 8, 2, true⟩
  | 0x6 => some ⟨.fp fmtE2M3, .fp fmtE4M3, 2, false⟩
  | 0x7 => some ⟨.fp fmtE3M2, .fp fmtE4M3, 2, false⟩
  | 0x8 => some ⟨.fp fmtE2M1, .fp fmtE4M3, 4, false⟩
  | 0x9 => some ⟨.fp fmtE2M1, .fp fmtE2M1, 4, false⟩
  | 0xA => some ⟨.int 4, .int 4, 4, true⟩
  | 0xB => some ⟨.int 4, .int 8, 4, true⟩
  | 0xC => some ⟨.t2, .fp fmtE4M3, 8, false⟩
  | 0xD => some ⟨.t2, .int 8, 8, true⟩
  | _ => none

/-- The MXU slot's fields (R96). -/
structure MxuSlot where
  cop : Nat
  fmt : Nat
  acc : Nat
  lop : Nat
  lh : Nat
  ladv : Bool
  sset : Nat
  rsv : Nat
  deriving DecidableEq, Repr

/-- The fields of a 24-bit MXU slot. -/
def MxuSlot.ofNat (n : Nat) : MxuSlot :=
  ⟨bits n 20 4, bits n 16 4, bits n 14 2, bits n 11 3, bits n 5 6, bitOf n 4, bits n 2 2, bits n 0 2⟩

/-- Whether COP is a MAC. -/
def MxuSlot.isMac (s : MxuSlot) : Bool := decide (1 ≤ s.cop ∧ s.cop ≤ 4)

/-- Whether the MAC runs in block mode. -/
def MxuSlot.block (s : MxuSlot) : Bool := decide (3 ≤ s.cop)

/-- Whether the MAC takes its accumulators as zero. -/
def MxuSlot.fromZero (s : MxuSlot) : Bool := s.cop = 2 || s.cop = 4

/-- A slot that R97 makes a no-op: a reserved COP, FMT (of a MAC) or LOP, or a nonzero bit in [1:0]. -/
def MxuSlot.illegal (s : MxuSlot) : Bool :=
  decide (6 ≤ s.cop) || decide (6 ≤ s.lop) || decide (s.rsv ≠ 0) || (s.isMac && decide (0xE ≤ s.fmt))

/-- Whether the slot asks for a scratch access. -/
def MxuSlot.access (s : MxuSlot) : Bool := decide (1 ≤ s.lop ∧ s.lop ≤ 4)

/-- The cursor of the slot's load or store (R98). -/
def Mxu.cursor (m : Mxu) (lop : Nat) : BitVec 10 :=
  if lop = 1 then m.cw else if lop = 2 then m.cx else if lop = 3 then m.cs else m.ca

/-- The slot's access address before alignment: element CURSOR of handle LH. -/
def Tile.mxuAddr (t : Tile) (s : MxuSlot) : Nat := (t.handle s.lh).elem (t.mxu.cursor s.lop).toNat

/-- Sets the cursor that a load or store operation uses. -/
def Mxu.setCursor (m : Mxu) (lop : Nat) (v : BitVec 10) : Mxu :=
  if lop = 1 then { m with cw := v } else if lop = 2 then { m with cx := v }
  else if lop = 3 then { m with cs := v } else { m with ca := v }

/-! ### MAC arithmetic -/

/-- A weight or activation element as an exact datum, with the note of a reserved T2 code (R88). -/
def Elem.fpOf (e : Elem) (c : Nat) : Fp × Bool :=
  match e with
  | .fp f => (f.decode c, false)
  | .int w => (Fp.ofInt (signedOf w c) 0 false, false)
  | .t2 => if c = 1 then (.fin false 1 0, false) else if c = 3 then (.fin true 1 0, false)
    else (.fin false 0 0, c = 2)

/-- An element as an integer (R103). -/
def Elem.intOf (e : Elem) (c : Nat) : Int × Bool :=
  match e with
  | .int w => (signedOf w c, false)
  | .t2 => if c = 1 then (1, false) else if c = 3 then (-1, false) else (0, c = 2)
  | .fp _ => (0, false)

/-- What a MAC on one unit gives: the accumulator, the flags, and the notes SCLNAN and T2RSV. -/
structure MacOut where
  acc : Lane
  flags : Flags
  sclnan : Bool
  t2rsv : Bool
  deriving DecidableEq, Repr

/-- The exact sum of products, with the invalid operations it met (R102). -/
def dotFp : List (Fp × Fp) → Fp × Bool
  | [] => (.fin false 0 0, false)
  | [(a, b)] => Fp.mul a b
  | (a, b) :: r =>
    let p := Fp.mul a b
    let q := dotFp r
    let s := Fp.add p.1 q.1
    (s.1, p.2 || q.2 || s.2)

/-- A floating-point MAC on one unit, one rounding (R102). -/
def macFp (acc : Lane) (zero : Bool) (ab : List (Fp × Fp)) (sa sb : Nat) : Lane × Flags × Bool :=
  let scl := sa = 0xFF || sb = 0xFF
  if scl || ab.any (fun p => p.1.isNan || p.2.isNan) then (canonNan, Flags.nv, scl)
  else
    let p := dotFp ab
    let c := if zero then Fp.fin false 0 0 else ofF32 acc
    let v := Fp.add c (p.1.scaleBy ((sa : Int) + sb - 254))
    let r := roundF32 v.1
    (r.1, r.2 ||| flagIf (p.2 || v.2) Flags.nv ||| snanFlag [c], false)

/-- An integer MAC on one unit (R103). -/
def macInt (acc : Lane) (zero : Bool) (ab : List (Int × Int)) : Lane × Flags :=
  let c : Int := if zero then 0 else acc.toInt
  let r := sat32 (c + (ab.map (fun p => p.1 * p.2)).sum)
  (r.1, flagIf r.2 Flags.sat)

/-- Bit position of slot `p` of unit `u` in WREG, and in XREG. The formula is R99's: with FP6 weights in block mode the element
group of p = 5 lies across two 64-bit words, where R89 says that no element does (assumption 15). -/
def macPos (block : Bool) (f : Pair) (wp xp u : Nat) : Nat × Nat :=
  if block then (128 * (u / 4) + wp * f.w * f.wt.width, 128 * (u % 4) + xp * f.w * f.ac.width)
  else (32 * u + wp * f.w * f.wt.width, xp * f.w * f.ac.width)

/-- The MAC of unit `u`. -/
def Mxu.macUnit (m : Mxu) (block zero : Bool) (f : Pair) (acc : Row) (u : Nat) : MacOut :=
  let p := macPos block f m.wp.toNat m.xp.toNat u
  let a := (slice acc 32 u)
  let codes := (List.range f.w).map (fun k =>
    (bits m.wreg.toNat (p.1 + k * f.wt.width) f.wt.width, bits m.xreg.toNat (p.2 + k * f.ac.width) f.ac.width))
  let rsv := codes.any (fun c => (f.wt.fpOf c.1).2)
  if f.isInt then
    let r := macInt a zero (codes.map (fun c => ((f.wt.intOf c.1).1, (f.ac.intOf c.2).1)))
    ⟨r.1, r.2, false, rsv⟩
  else
    let sa := bits m.ws.toNat (8 * (if block then u / 4 else u)) 8
    let sb := bits m.xs.toNat (8 * (if block then u % 4 else 0)) 8
    let r := macFp a zero (codes.map (fun c => ((f.wt.fpOf c.1).1, (f.ac.fpOf c.2).1))) sa sb
    ⟨r.1, r.2.1, r.2.2, rsv⟩

/-- The promotions at a MAC's issue (R100). -/
def Mxu.promote (m : Mxu) (block : Bool) (f : Pair) : Mxu :=
  let wSlots := if block then 8 else 2
  let xSlots := (if block then 128 else 512) / (f.w * f.ac.width)
  let m := if wSlots ≤ m.wp.toNat then { m with wreg := m.wnxt, wp := 0 } else m
  let m := if xSlots ≤ m.xp.toNat then { m with xreg := m.xnxt, xp := 0 } else m
  if 32 / f.w ≤ m.bc.toNat then { m with ws := m.wsnxt, xs := m.xsnxt, bc := 0 } else m

/-- Writes an accumulator set, and logs it for the operations that see it later (R105). -/
def Mxu.writeAcc (m : Mxu) (now set : Nat) (v : Row) : Mxu :=
  { m with acc := m.acc.set 0 set v, accLog := m.accLog ++ [⟨now, set, v⟩] }

/-- Operations at least four acycles old become visible to STA and MXA (R105). -/
def Mxu.ageAcc (m : Mxu) (now : Nat) : Mxu :=
  let old := m.accLog.filter (fun a => decide (a.at_ + 4 ≤ now))
  { m with
    accOld := old.foldl (fun s a => s.set 0 a.set a.value) m.accOld
    accLog := m.accLog.filter (fun a => !decide (a.at_ + 4 ≤ now)) }

/-- The loads due at or before the start of `now` write their next buffers, oldest first (R101). -/
def Mxu.landOne (m : Mxu) (l : MxuLoad) : Mxu :=
  match l.buf with
  | .w => { m with wnxt := l.data }
  | .x => { m with xnxt := l.data }
  | .s => { m with wsnxt := l.data.extractLsb' 0 128, xsnxt := l.data.extractLsb' 128 32 }

/-- Every next-buffer write due at or before the start of `now` (R101). -/
def Mxu.land (m : Mxu) (now : Nat) : Mxu :=
  let due := m.loads.filter (fun l => decide (l.due ≤ now))
  { due.foldl Mxu.landOne m with loads := m.loads.filter (fun l => !decide (l.due ≤ now)) }

/-- The compute part of an MXU slot: MAC or CLR (R96, R100, R102, R103). -/
def TW.mxuCompute (w : TW) (s : MxuSlot) : TW :=
  if s.isMac then
    match pairOf s.fmt with
    | none => w
    | some f =>
      let m := w.t.mxu.promote s.block f
      let acc := m.acc.get 0 s.acc
      let outs := (List.range 16).map (m.macUnit s.block s.fromZero f acc)
      let v := packLe 512 (outs.map (·.acc))
      let fl := outs.foldl (fun a o => a ||| o.flags) 0
      let m := { m.writeAcc w.now s.acc v with wp := m.wp + 1, xp := m.xp + 1, bc := m.bc + 1 }
      (w.upd (fun t => ({ t with mxu := m }.gatherMxu w.now fl (outs.any (·.sclnan)) (outs.any (·.t2rsv))).count 1 1))
  else if s.cop = 5 then w.upd (fun t => ({ t with mxu := t.mxu.writeAcc w.now s.acc 0 }).count 1 1)
  else w

/-- Advances the cursor of a load or store where LADV asks (R98). -/
def TW.mxuAdvance (w : TW) (s : MxuSlot) : TW :=
  if s.ladv then w.upd (fun t => { t with mxu := t.mxu.setCursor s.lop (t.mxu.cursor s.lop + 1) }) else w

/-- The next buffer a load operation writes. -/
def bufOf (lop : Nat) : MxuBuf := if lop = 1 then .w else if lop = 2 then .x else .s

/-- The load part of an MXU slot: `won` says whether its access won its bank (R60, R98, R101, R105). A suppressed load
delivers zero words (R531). -/
def TW.mxuAccess (w : TW) (s : MxuSlot) (won : Bool) : TW :=
  let addr := alignDown (w.t.mxuAddr s) 64
  let shape := (w.t.handle s.lh).stride = 64
  let deliver := fun (w : TW) (d : Row) =>
    w.upd (fun t => { t with mxu := { t.mxu with loads := t.mxu.loads ++ [⟨w.now + 2, bufOf s.lop, d⟩] } })
  if s.lop = 5 then
    w.upd (fun t => { t with mxu := t.mxu.setCursor (bits s.lh 0 2 + 1) 0 })
  else if s.lop = 0 then w
  else if s.lop = 4 then
    if !won then w
    else
      let v := w.t.mxu.accOld.get 0 s.sset
      let r := w.writeThrough s.lh addr 64 shape (unpackLe v 64 8)
      if r.2 then r.1.mxuAdvance s else r.1
  else if !won then deliver w 0
  else
    let r := w.readThrough s.lh addr 64 shape
    match r.2 with
    | none => deliver r.1 0
    | some ws => (deliver r.1 (rowOfWords ws)).mxuAdvance s

end Sys2Proof.Machine
end

