-- ==== Sys2Proof/Machine/Vu.lean ====
section
/-!
DEFINITION. Sys2Proof/Machine/Vu.lean: the vector unit (spec 03_arithmetic, R107 to R123).
-/

namespace Sys2Proof.Machine

/-- The VU slot's fields (R107). -/
structure VuSlot where
  op : Nat
  rd : Nat
  ra : Nat
  rb : Nat
  mop : Nat
  mf : Nat
  mh : Nat
  mr : Nat
  mc : Nat
  madv : Bool
  deriving DecidableEq, Repr

/-- The fields of a 32-bit VU slot. -/
def VuSlot.ofNat (n : Nat) : VuSlot :=
  ⟨bits n 26 6, bits n 23 3, bits n 20 3, bits n 17 3, bits n 15 2, bits n 12 3, bits n 6 6, bits n 3 3, bits n 1 2,
    bitOf n 0⟩

/-- A slot that R112 makes a no-op: a reserved CTL sub-operation, or a nonzero register field with OP NOP. -/
def VuSlot.illegal (s : VuSlot) : Bool :=
  (s.mop = 3 && decide (6 ≤ s.mf)) || (s.op = 0 && (s.rd ≠ 0 || s.ra ≠ 0 || s.rb ≠ 0))

/-- Whether the slot asks for a scratch access. -/
def VuSlot.access (s : VuSlot) : Bool := s.mop = 1 || s.mop = 2

/-- Register `r`. -/
def Vu.reg (v : Vu) (r : Nat) : Row := v.regs.get 0 r

/-- Lane `l` of a row. -/
def lane (v : Row) (l : Nat) : Lane := slice v 32 l

/-- A row of 16 lanes. -/
def rowOf (f : Nat → Lane) : Row := packLe 512 ((List.range 16).map f)

/-- Applies a lane operation to 16 lanes and ORs the flags. -/
def lanes (f : Nat → Lane × Flags) : Row × Flags :=
  let l := (List.range 16).map f
  (packLe 512 (l.map (·.1)), l.foldl (fun a p => a ||| p.2) 0)

/-! ### Scans (R113, R114) -/

/-- The identity of a scan operator. -/
def scanId : Nat → Lane
  | 2 => 0xFF800000#32
  | 3 => 0x7F800000#32
  | 4 => 0x80000000#32
  | 5 => 0x7FFFFFFF#32
  | 6 => 0xFFFFFFFF#32
  | _ => 0

/-- One step of a scan operator. -/
def scanOp : Nat → Lane → Lane → Lane × Flags
  | 0, r, a => fadd r a
  | 1, r, a => (r + a, 0)
  | 2, r, a => fmax r a
  | 3, r, a => fmin r a
  | 4, r, a => (if r.toInt < a.toInt then a else r, 0)
  | 5, r, a => (if a.toInt < r.toInt then a else r, 0)
  | 6, r, a => (r &&& a, 0)
  | _, r, a => (r ||| a, 0)

/-- A scan over the lanes in order, lane 0 first: the outputs, the carry-out and the flags (R114). -/
def scanGo (op : Nat) (excl : Bool) : List (Lane × Bool) → Lane → List Lane × Lane × Flags
  | [], run => ([], run, 0)
  | (a, head) :: r, run =>
    let run := if head then scanId op else run
    let s := scanOp op run a
    let q := scanGo op excl r s.1
    ((if excl then run else s.1) :: q.1, q.2.1, s.2 ||| q.2.2)

/-- The scan of OP (0x20 to 0x3F) over a row, from the carry-in. -/
def scanRow (op : Nat) (a : Row) (mask : BitVec 16) (c : Lane) : Row × Lane × Flags :=
  let seg := bitOf op 4
  let q := scanGo (bits op 0 3) (bitOf op 3) ((List.range 16).map (fun l => (lane a l, seg && mask.getLsbD l))) c
  (packLe 512 q.1, q.2.1, q.2.2)

/-! ### Compute operations (R108) -/

/-- Group `g` of an exact-reduction register (R121). -/
def xrGroup (v : Row) (g : Nat) : BitVec 128 := slice v 128 g

/-- A logical shift by a signed count (R108 SHF). -/
def shf (a b : Lane) : Lane :=
  let k := b.toInt
  if 0 ≤ k then (if 32 ≤ k then 0 else a <<< k.toNat) else (if k ≤ -32 then 0 else a >>> (-k).toNat)

/-- The lane-wise compute operations 0x01 to 0x1C but LSH: lanes of RA, RB and RD. -/
def vuLane (op : Nat) (a b d : Lane) : Lane × Flags :=
  match op with
  | 0x01 => fadd a b
  | 0x02 => fsub a b
  | 0x03 => fmul a b
  | 0x04 => fma a b d
  | 0x05 => fmax a b
  | 0x06 => fmin a b
  | 0x07 => (a &&& 0x7FFFFFFF#32, 0)
  | 0x08 => (a ^^^ 0x80000000#32, 0)
  | 0x09 => fclt a b
  | 0x0A => fceq a b
  | 0x0B => f2i a
  | 0x0C => i2f a
  | 0x0D => (if b ≠ 0 then a else d, 0)
  | 0x0E => exp2 a
  | 0x0F => log2 a
  | 0x10 => rcp a
  | 0x11 => rsq a
  | 0x12 => (a + b, 0)
  | 0x13 => (a - b, 0)
  | 0x14 => let r := sat32 (a.toInt + b.toInt); (r.1, flagIf r.2 Flags.sat)
  | 0x15 => (a * b, 0)
  | 0x16 => (if a.toInt < b.toInt then b else a, 0)
  | 0x17 => (if b.toInt < a.toInt then b else a, 0)
  | 0x18 => (a &&& b, 0)
  | 0x19 => (a ||| b, 0)
  | 0x1B => (shf a b, 0)
  | 0x1C => (a.sshiftRight (b.toNat % 32), 0)
  | _ => (0, 0)

/-- LSH: lane `l` takes lane `l + s` of RA, or 0 (R108). -/
def vuLsh (a : Row) (s : Int) : Row :=
  rowOf (fun l => let i : Int := l + s; if 0 ≤ i ∧ i ≤ 15 then lane a i.toNat else 0)

/-- The result and flags of a compute operation on whole registers, scans apart. -/
def vuCompute (op : Nat) (a b d : Row) : Row × Flags :=
  let w := (lane b 0).toInt
  match op with
  | 0x1A => (vuLsh a w, 0)
  | 0x1D =>
    let l := (List.range 4).map (fun i => xrConvert (lane a i) w)
    (packLe 512 (l.map (·.1)), l.foldl (fun f p => f ||| p.2) 0)
  | 0x1E =>
    let l := (List.range 4).map (fun g => xrAdd (xrGroup a g) (xrGroup b g))
    (packLe 512 (l.map (·.1)), l.foldl (fun f p => f ||| p.2) 0)
  | 0x1F => lanes (fun l => if l < 4 then xrBack (xrGroup a l) w else (0, 0))
  | _ => lanes (fun l => vuLane op (lane a l) (lane b l) (lane d l))

/-- Acycles from issue to the result's landing (R116). -/
def vuLatency (op : Nat) : Nat :=
  if op = 0x04 ∨ op = 0x1F then 3 else if 0x0E ≤ op ∧ op ≤ 0x11 then 6 else 2

/-! ### Memory formats (R109, R110) -/

/-- Element size in bytes and element count of a memory format. -/
def mfSize : Nat → Nat × Nat
  | 0 => (4, 8)
  | 5 => (4, 8)
  | 1 => (2, 16)
  | 2 => (2, 16)
  | _ => (1, 16)

/-- A loaded element as a lane; loads take no flags. BF16 and FP16 widen exactly, a NaN with its payload; E4M3 and E5M2
NaNs and the scale 0xFF become the canonical NaN. -/
def loadElem (mf c : Nat) : Lane :=
  match mf with
  | 1 => BitVec.ofNat 32 (c <<< 16)
  | 2 =>
    if (fmtF16.decode c).isNan then
      BitVec.ofNat 32 (fmtF32.signBit (bitOf c 15) + 0x7F800000 + (bits c 0 10 <<< 13))
    else (roundF32 (fmtF16.decode c)).1
  | 3 => (roundF32 (fmtE4M3.decode c)).1
  | 4 => (roundF32 (fmtE5M2.decode c)).1
  | 6 => BitVec.ofInt 32 (signedOf 8 c)
  | 7 => if c = 0xFF then canonNan else (roundF32 (.fin false 1 ((c : Int) - 127))).1
  | _ => BitVec.ofNat 32 c

/-- A lane rounded into a narrower IEEE-like format; an overflow gives `ovf`, with OF and NX. -/
def storeRound (f : Fmt) (neg : Bool) (m : Nat) (e : Int) (maxCode ovf : Nat) : Nat × Flags :=
  let r := f.round m e
  if maxCode < r.code then (f.signBit neg + ovf, Flags.of ||| Flags.nx) else (f.signBit neg + r.code, r.flags)

/-- A lane as a stored element, with the flags of its row of the memory format table. -/
def storeElem (mf : Nat) (a : Lane) : Nat × Flags :=
  match mf with
  | 1 =>
    match ofF32 a with
    | .nan s => (0x7FC0, flagIf s Flags.nv)
    | .inf n => (fmtBF16.signBit n + 0x7F80, 0)
    | .fin n m e => storeRound fmtBF16 n m e 0x7F7F 0x7F80
  | 2 =>
    match ofF32 a with
    | .nan s => (0x7E00, flagIf s Flags.nv)
    | .inf n => (fmtF16.signBit n + 0x7C00, 0)
    | .fin n m e => storeRound fmtF16 n m e 0x7BFF 0x7C00
  | 3 =>
    match ofF32 a with
    | .nan _ => (0x7F, Flags.nv)
    | .inf n => (fmtE4M3.signBit n + 0x7E, Flags.of ||| Flags.nx)
    | .fin n m e => storeRound fmtE4M3 n m e 0x7E 0x7E
  | 4 =>
    match ofF32 a with
    | .nan s => (0x7E, flagIf s Flags.nv)
    | .inf n => (fmtE5M2.signBit n + 0x7C, 0)
    | .fin n m e => storeRound fmtE5M2 n m e 0x7B 0x7B
  | 6 =>
    let i := a.toInt
    if i < -128 then (0x80, Flags.sat) else if 127 < i then (0x7F, Flags.sat) else (wrapNat 8 i, 0)
  | 7 => (bits a.toNat 23 8, 0)
  | _ => (a.toNat, 0)

/-- The byte address of a VU access: element K(MC) of handle MH. -/
def Tile.vuAddr (t : Tile) (s : VuSlot) : Nat := (t.handle s.mh).elem (t.vu.k.get 0 s.mc).toNat

/-- The bytes a VU access covers: one element with STRIDE 0, otherwise the n elements (R110). -/
def Tile.vuBytes (t : Tile) (s : VuSlot) : Nat :=
  if (t.handle s.mh).stride = 0 then (mfSize s.mf).1 else (mfSize s.mf).1 * (mfSize s.mf).2

/-- The shape of a VU access that check 2 of R63 asks for: STRIDE the element size or 0, the cursor a multiple of n and
the elements inside one 32-byte block, or with STRIDE 0 BASE a multiple of the element size (R109, R110). -/
def Tile.vuShape (t : Tile) (s : VuSlot) : Bool :=
  let h := t.handle s.mh
  let sz := (mfSize s.mf).1
  let n := (mfSize s.mf).2
  if h.stride = 0 then decide (h.base.toNat % sz = 0)
  else decide (h.stride.toNat = sz) && decide ((t.vu.k.get 0 s.mc).toNat % n = 0) &&
    decide (t.vuAddr s / 32 = (t.vuAddr s + sz * n - 1) / 32)

/-- Byte `a` of a list of words that starts at the word-aligned address `a0`. -/
def byteIn (ws : List CWord) (a0 a : Nat) : Nat :=
  bits ((ws.getD ((a - a0) / 8) CWord.zero).data.toNat) (8 * ((a - a0) % 8)) 8

/-- `n` bytes little-endian. -/
def leBytes (ws : List CWord) (a0 a : Nat) : Nat → Nat
  | 0 => 0
  | n + 1 => byteIn ws a0 a + 256 * leBytes ws a0 (a + 1) n

/-- The word with byte `k` replaced. -/
def setByte (d : Word) (k v : Nat) : Word :=
  (d &&& ~~~((0xFF#64) <<< (8 * k))) ||| (BitVec.ofNat 64 (v % 256) <<< (8 * k))

/-- The words with the bytes of `v` (n bytes, little-endian) put in from address `a`. -/
def putBytes (ws : List Word) (a0 a v : Nat) : Nat → List Word
  | 0 => ws
  | n + 1 =>
    let i := (a - a0) / 8
    putBytes (ws.set i (setByte (ws.getD i 0) ((a - a0) % 8) v)) a0 (a + 1) (v / 256) n

/-- The lanes a load fills, from the words read at `addr` (R109, R110): all 16 with the element at BASE when STRIDE is 0,
else the n elements, from lane 8h for a 32-bit format. -/
def loadRow (mf : Nat) (stride0 : Bool) (h : Nat) (ws : List CWord) (addr : Nat) : Row × BitVec 16 :=
  let sz := (mfSize mf).1
  let n := (mfSize mf).2
  let a0 := addr / 8 * 8
  if stride0 then (let e := loadElem mf (leBytes ws a0 addr sz); (rowOf (fun _ => e), BitVec.allOnes 16))
  else
    let first := if n = 8 then 8 * h else 0
    (rowOf (fun l => if first ≤ l ∧ l < first + n then loadElem mf (leBytes ws a0 (addr + (l - first) * sz) sz) else 0),
      if n = 8 then (0xFF#16 <<< first) else BitVec.allOnes 16)

/-- The elements a store writes, with their flags. -/
def storeElems (mf : Nat) (stride0 : Bool) (h : Nat) (v : Row) : List (Nat × Flags) :=
  let n := (mfSize mf).2
  if stride0 then [storeElem mf (lane v 0)]
  else (List.range n).map (fun k => storeElem mf (lane v ((if n = 8 then 8 * h else 0) + k)))

/-- Puts elements of a size into words one after the other. -/
def putElems (ws : List Word) (a0 sz : Nat) : Nat → List Nat → List Word
  | _, [] => ws
  | a, e :: r => putElems (putBytes ws a0 a e sz) a0 sz (a + sz) r

/-! ### Landing and flag words (R94, R116, R117) -/

/-- Inserts a result at its place by landing acycle, after those of the same acycle that are already there. -/
def insRes (r : VuRes) : List VuRes → List VuRes
  | [] => [r]
  | q :: l => if r.due < q.due then r :: q :: l else q :: insRes r l

/-- The register with the lanes of a result put in. -/
def mergeLanes (old new : Row) (m : BitVec 16) : Row :=
  rowOf (fun l => if m.getLsbD l then lane new l else lane old l)

/-- One result lands. -/
def Vu.landOne (v : Vu) (r : VuRes) : Vu :=
  { v with regs := v.regs.set 0 r.reg (if r.lanes = BitVec.allOnes 16 then r.value
      else mergeLanes (v.reg r.reg) r.value r.lanes) }

/-- The results of a list that land: of those for one register in one acycle the last, which is the later issue's, and of one
bundle the memory part (R117). -/
def keptResults : List VuRes → List VuRes
  | [] => []
  | r :: l => if l.any (fun q => q.due = r.due && q.reg = r.reg) then keptResults l else r :: keptResults l

/-- Every result due by the start of `now` lands, in order (R116, R117). -/
def Vu.land (v : Vu) (now : Nat) : Vu :=
  let due := keptResults (v.pending.filter (fun r => decide (r.due ≤ now)))
  { due.foldl Vu.landOne v with pending := v.pending.filter (fun r => !decide (r.due ≤ now)) }

/-- The later-issued of two flag words. -/
def laterFlag (a : Option FlagWord) (b : FlagWord) : Option FlagWord :=
  match a with
  | none => some b
  | some x => if x.issued ≤ b.issued then some b else some x

/-- Flag words complete by the start of `now` join the section's flags and RDFLAG's word (R94, R111). -/
def Tile.completeFlags (t : Tile) (now : Nat) : Tile :=
  let done := t.vu.flagsOpen.filter (fun f => decide (f.complete ≤ now))
  let t := { t with vu := { t.vu with
    flagsOpen := t.vu.flagsOpen.filter (fun f => !decide (f.complete ≤ now))
    flagsLast := done.foldl laterFlag t.vu.flagsLast } }
  done.foldl (fun t f => t.gatherVu f.issued f.flags) t

/-! ### The slot's two parts -/

/-- A result to land. -/
def Vu.post (v : Vu) (due issued : Nat) (mem : Bool) (reg : Nat) (ls : BitVec 16) (val : Row) : Vu :=
  { v with pending := insRes ⟨due, issued, mem, reg, ls, val⟩ v.pending }

/-- The compute part: sources as they stand at the start of the acycle, the result posted for its landing; a scan chains
through C (R114 to R116). The answer has the instruction's compute flags. -/
def TW.vuComputePart (w : TW) (s : VuSlot) : TW × Flags :=
  if s.op = 0 then (w, 0)
  else
    let v := w.t.vu
    if 0x20 ≤ s.op then
      let r := scanRow s.op (v.reg s.ra) v.m v.c
      (w.upd (fun t => ({ t with vu := { t.vu.post (w.now + 2) w.now false s.rd (BitVec.allOnes 16) r.1 with
        c := r.2.1 } }).count 2 1), r.2.2)
    else
      let r := vuCompute s.op (v.reg s.ra) (v.reg s.rb) (v.reg s.rd)
      (w.upd (fun t => ({ t with vu := t.vu.post (w.now + vuLatency s.op) w.now false s.rd (BitVec.allOnes 16) r.1 }).count
        2 1), r.2)

/-- Advances cursor K(MC) by the element count where MADV asks (R110). -/
def TW.vuAdvance (w : TW) (s : VuSlot) : TW :=
  if s.madv then
    w.upd (fun t => { t with vu := { t.vu with
      k := t.vu.k.set 0 s.mc (t.vu.k.get 0 s.mc + BitVec.ofNat 16 (mfSize s.mf).2) } })
  else w

/-- LD after bank arbitration (R109, R116): a suppressed load delivers zero words to its lanes (R531). -/
def TW.vuLoad (w : TW) (s : VuSlot) (won : Bool) : TW :=
  let addr := w.t.vuAddr s
  let h := (w.t.vu.k.get 0 s.mc).toNat / 8 % 2
  let str0 := (w.t.handle s.mh).stride = 0
  let deliver := fun (w : TW) (ws : List CWord) =>
    let r := loadRow s.mf str0 h ws addr
    w.upd (fun t => { t with vu := t.vu.post (w.now + 3) w.now true s.mr r.2 r.1 })
  let zeros := fun (w : TW) =>
    let r := loadRow s.mf str0 h [] addr
    w.upd (fun t => { t with vu := t.vu.post (w.now + 3) w.now true s.mr r.2 0 })
  if !won then zeros w
  else
    let r := w.readThrough s.mh addr (w.t.vuBytes s) (w.t.vuShape s)
    match r.2 with
    | none => zeros r.1
    | some ws => (deliver r.1 ws).vuAdvance s

/-- The scratch words that a store covers only in part (R110). -/
def partialWords (addr n : Nat) : List Nat :=
  let sp := wordSpan addr n
  ((List.range sp.2).map (sp.1 + ·)).filter (fun i => decide (8 * i < addr) || decide (addr + n < 8 * i + 8))

/-- ST after bank arbitration (R109, R110). The answer has the store's conversion flags, which are set whether or not the
write is suppressed. A word covered in part is read in the same bank acycle: its code-word outcome is noted as that of any
scheduled read (R71, R82), and its tag and its other bytes are as that read delivers them. -/
def TW.vuStore (w : TW) (s : VuSlot) (won : Bool) : TW × Flags :=
  let addr := w.t.vuAddr s
  let n := w.t.vuBytes s
  let hd := w.t.handle s.mh
  let str0 := hd.stride = 0
  let es := storeElems s.mf str0 ((w.t.vu.k.get 0 s.mc).toNat / 8 % 2) (w.t.vu.reg s.mr)
  let fl := es.foldl (fun f p => f ||| p.2) 0
  if !won then (w, fl)
  else
    match hd.check addr n true (w.t.vuShape s && !hd.stackSpace) [] with
    | some c => (w.fault c, fl)
    | none =>
      let w := (partialWords addr n).foldl TW.noteScr w
      if (partialWords addr n).any (fun i =>
          let g := (w.t.scrWord i).read.tag
          g ≠ hd.ten && g ≠ 0) then (w.fault Code.tenantMismatch, fl)
      else
        let sp := wordSpan addr n
        let old := (List.range sp.2).map (fun j => (w.t.scrWord (sp.1 + j)).read.data)
        let new := putElems old (sp.1 * 8) (mfSize s.mf).1 addr (es.map (·.1))
        (((w.upd (fun t => (t.writeScr sp.1 hd.ten new).advance s.mh n))).vuAdvance s, fl)

/-- One bit per lane that is not zero. -/
def nonzeroLanes (v : Row) : BitVec 16 :=
  BitVec.ofNat 16 ((List.range 16).foldl (fun (a l : Nat) => if lane v l = 0 then a else a + 2 ^ l) 0)

/-- Posts a CTL result for all lanes of a register, to land at t + 2 (R116). -/
def TW.vuPost (w : TW) (reg : Nat) (v : Row) : TW :=
  w.upd (fun t => { t with vu := t.vu.post (w.now + 2) w.now true reg (BitVec.allOnes 16) v })

/-- CTL (R111). `c0` is C as it stood before the bundle. -/
def TW.vuCtl (w : TW) (s : VuSlot) (c0 : Lane) : TW :=
  let t := w.t
  let v := t.vu
  match s.mf with
  | 0 => w.upd (fun t => { t with vu := { t.vu with k := t.vu.k.set 0 s.mc 0 } })
  | 1 => w.vuPost s.mr (t.mxu.accOld.get 0 (s.mh % 4))
  | 2 => w.vuPost s.mr (rowOf (fun _ => c0))
  | 3 => w.upd (fun t => { t with vu := { t.vu with c := lane (v.reg s.mr) 0 } })
  | 4 => w.upd (fun t => { t with vu := { t.vu with
      m := nonzeroLanes (v.reg s.mr) } })
  | 5 =>
    match v.flagsLast with
    | none => w.vuPost s.mr 0
    | some f => w.vuPost s.mr (f.flags.setWidth 512)
  | _ => w

/-- Opens the issue's instruction flag word, where it has one (R94). -/
def TW.vuFlagWord (w : TW) (s : VuSlot) (f : Flags) : TW :=
  if s.op = 0 && s.mop ≠ 2 then w
  else
    let fw : FlagWord := ⟨w.now, if s.op = 0 then w.now + 1 else w.now + vuLatency s.op, f⟩
    w.upd (fun t => { t with vu := { t.vu with flagsOpen := t.vu.flagsOpen ++ [fw] } })

/-- A whole VU slot that is not a no-op. -/
def TW.vuIssue (w : TW) (s : VuSlot) (won : Bool) : TW :=
  let c0 := w.t.vu.c
  -- the store and CTL read registers, and the scan reads C and M, as they stand at the start of the acycle
  let r := w.vuComputePart s
  let q : TW × Flags :=
    if s.mop = 1 then (r.1.vuLoad s won, 0)
    else if s.mop = 2 then r.1.vuStore s won
    else if s.mop = 3 then (r.1.vuCtl s c0, 0)
    else (r.1, 0)
  q.1.vuFlagWord s (r.2 ||| q.2)

end Sys2Proof.Machine
end

