-- ==== Sys2Proof/Machine/Sequencer.lean ====
section
/-!
DEFINITION. Sys2Proof/Machine/Sequencer.lean: the bundle and the work of one tile in one acycle (spec 02_tile R47 to R51,
R67, R74; 04_scheduled_fabric R131 to R153; 05_sections R158 to R165).
-/

namespace Sys2Proof.Machine

/-- What a tile's surroundings fix in an acycle: its logical position and the number of rows of the array, the edge ports
that join a Hexkel I/O field (R126), the code recorded when it issues work its field may not do (TRANSIT or dark; none
where it may), and whether a stack operation issued now is discarded by a refresh (R188, R191). -/
structure TEnv where
  x : Nat
  y : Nat
  rows : Nat
  extra : List Nat
  blocked : Option Nat
  clash : Bool
  deriving DecidableEq, Repr

/-- Whether the tile has the port, numbered N, E, S, W, ridge N, E, S, W as PRESENT numbers inputs: both tiles of the
link lie in the logical array and, for a ridge lane, are stations of its direction (R77, R126). -/
def TEnv.hasPort (e : TEnv) (p : Nat) : Bool :=
  (match p with
    | 0 => decide (e.y + 1 < e.rows)
    | 1 => decide (e.x + 1 < 1024)
    | 2 => decide (1 ≤ e.y)
    | 3 => decide (1 ≤ e.x)
    | 4 => decide (e.y % 8 = 0 ∧ e.y + 32 < e.rows)
    | 5 => decide (e.x % 8 = 0 ∧ e.x + 32 < 1024)
    | 6 => decide (e.y % 8 = 0 ∧ 32 ≤ e.y)
    | 7 => decide (e.x % 8 = 0 ∧ 32 ≤ e.x)
    | _ => false) || e.extra.contains p

/-- The bundle fields that both forms carry (R131). -/
structure Bundle where
  setup : Bool
  vu : Nat
  mxu : Nat
  su : Nat
  route : Nat
  fa : Nat
  fb : Nat
  stk : Nat
  hold : Nat
  deriving DecidableEq, Repr

/-- The fields of a 128-bit bundle (R131). -/
def Bundle.ofBits (b : BitVec 128) : Bundle :=
  let n := b.toNat
  ⟨bitOf n 127, bits n 95 32, bits n 71 24, bits n 71 56, bits n 31 40, bits n 24 7, bits n 17 7, bits n 10 7,
    bits n 0 10⟩

/-- The source select of output `o`. -/
def Bundle.sel (b : Bundle) (o : Nat) : Nat := bits b.route (4 * o) 4

/-- The set-up field (R142), its bits counted from bundle bit 71. -/
structure SetUp where
  lv : Bool
  lend : Nat
  lcount : Nat
  lsrc : Bool
  cpv : Bool
  cpid : Nat
  take : Bool
  commit : Bool
  notify : Bool
  seq : Nat
  karst : Bool
  kbrst : Bool
  spair : Nat
  sprst : Bool
  skpv : Bool
  rsv : Nat
  deriving DecidableEq, Repr

/-- The fields of the set-up field. -/
def SetUp.ofNat (n : Nat) : SetUp :=
  ⟨bitOf n 55, bits n 46 9, bits n 30 16, bitOf n 29, bitOf n 28, bits n 20 8, bitOf n 19, bitOf n 18, bitOf n 17,
    bits n 14 3, bitOf n 13, bitOf n 12, bits n 7 5, bitOf n 6, bitOf n 5, bits n 0 5⟩

/-- Whether a bundle is a set-up bundle with SEQ = END (R164). -/
def isEnd (b : BitVec 128) : Bool :=
  (Bundle.ofBits b).setup && (SetUp.ofNat (Bundle.ofBits b).su).seq = 1

/-- Bundle `i` of the active store: zeros beyond what its load wrote (R165). -/
def Tile.activeBundle (t : Tile) (i : Nat) : BitVec 128 :=
  if t.seq.actCount ≤ i then 0 else (if t.seq.act then t.store1 else t.store0).get 0 i

/-- Writes bundle `i` of the standby store. -/
def Tile.setStandby (t : Tile) (i : Nat) (b : BitVec 128) : Tile :=
  if t.seq.act then { t with store0 := t.store0.set 0 i b } else { t with store1 := t.store1.set 0 i b }

/-! ### Landings at the start of an acycle -/

/-- An injected word becomes PA or PB (R138). -/
def Rtr.landInject (r : Rtr) (i : Inject) : Rtr :=
  if i.portB then { r with pb := some i.tok } else { r with pa := some i.tok }

/-- Injected words available from `now` or earlier. -/
def Rtr.landInjects (r : Rtr) (now : Nat) : Rtr :=
  { (r.injects.filter (fun i => decide (i.due ≤ now))).foldl Rtr.landInject r with
    injects := r.injects.filter (fun i => !decide (i.due ≤ now)) }

/-- An SLD beat writes four bundles at STBY_COUNT, which rises here, at its landing; END among them makes the store valid
(R164). A beat that lands when the store holds 512 bundles writes nothing and records nothing (assumption 22). -/
def Tile.landSld (t : Tile) (ws : List CWord) : Tile :=
  let c := t.seq.stbyCount
  if 512 < c + 4 then t
  else
    let bs : List (BitVec 128) := (List.range 4).map (fun k =>
      packLe 128 [(ws.getD (2 * k) CWord.zero).data, (ws.getD (2 * k + 1) CWord.zero).data])
    let t := (List.range 4).foldl (fun t k => t.setStandby (c + k) (bs.getD k 0)) t
    { t with seq := { t.seq with stbyCount := c + 4, stbyValid := t.seq.stbyValid || bs.any isEnd } }

/-- A beat lands without a clash: a beat of an ended section never lands (R162). -/
def Tile.landBeat (t : Tile) (b : Beat) : Tile :=
  if b.secStart ≠ t.seq.secStart then t
  else if b.sld then t.landSld b.words
  else t.landScr (b.dest / 8) b.words

/-- Whether the beat lands in acycle `now` through the scratch stack port. -/
def Beat.landsAt (b : Beat) (now sec : Nat) : Bool := !b.sld && b.due = now && b.secStart = sec

/-- The start of acycle `now`: next-buffer writes, VU results and flag words, injected words; standby loads and stack
beats due before `now`; an armed start (R101, R116, R138, R161, R164). SRD beats due in `now` itself stay, for the bank
arbitration of the acycle. -/
def Tile.startAcycle (t : Tile) (now : Nat) : Tile :=
  let t := { t with
    mxu := (t.mxu.land now).ageAcc now
    vu := t.vu.land now
    rtr := t.rtr.landInjects now }
  let t := t.completeFlags now
  let early := fun (b : Beat) => decide (b.due < now) || (b.sld && decide (b.due ≤ now))
  let t := (t.beats.filter early).foldl Tile.landBeat { t with beats := t.beats.filter (fun b => !early b) }
  if t.seq.state = .armed && !t.seq.cmdArm && decide (t.seq.startAt ≤ now) then
    { t with seq := { t.seq with state := .run } }
  else t

/-- SRD beats due in `now` take part in the arbitration with `rs` and land or are discarded (R60, R74, R531). -/
def TW.landBeats (w : TW) (won : Bool) : TW :=
  let due := w.t.beats.filter (fun b => decide (b.due ≤ w.now))
  let t := { w.t with beats := w.t.beats.filter (fun b => !decide (b.due ≤ w.now)) }
  { w with t := if won then due.foldl Tile.landBeat t else t }

/-! ### Control points (R144, R67) -/

/-- Every pending shadow field is copied into its live entry and the pending flags clear (R67). -/
def Tile.commitShadow (t : Tile) (n : Nat) : Tile :=
  let s := t.shadow n
  let h := t.handle n
  { t with
    handles := t.handles.set Handle.zero n { h with
      base := if s.pBase then s.base else h.base
      length := if s.pLength then s.length else h.length
      stride := if s.pStride then s.stride else h.stride }
    shadows := t.shadows.set Shadow.zero n { s with pBase := false, pLength := false, pStride := false } }

/-- The shadow commit of a control point. -/
def Tile.commitShadows (t : Tile) : Tile :=
  ((List.range 64).filter (fun n => (t.shadow n).pBase || (t.shadow n).pLength || (t.shadow n).pStride)).foldl
    Tile.commitShadow t

/-- The control-point take (R144 step 2). -/
def TW.cpTake (w : TW) (id : Nat) : TW :=
  let c := w.t.core
  if c.mboxReady && c.mboxId.toNat = id then
    w.upd (fun t => { t with core := { t.core with mboxReady := false }, seq := { t.seq with pv := t.core.mboxValue } })
  else (w.upd (fun t => { t with seq := { t.seq with pv := 0 } })).fault Code.cpEmpty

/-- The cursor resets of the set-up field (R142). -/
def Tile.cursorResets (t : Tile) (s : SetUp) : Tile :=
  let r := t.rtr
  let r := if s.karst then { r with ka := 0 } else r
  let r := if s.kbrst then { r with kb := 0 } else r
  let r := if s.sprst then { r with
      ks := r.ks.set 0 s.spair 0
      kt := r.kt.set 0 s.spair (if s.skpv then t.seq.pv.setWidth 17 else 0) } else r
  { t with rtr := r }

/-- Steps 1 and 2 of R147 for a set-up bundle; a reserved SEQ or bit is recorded and the rest still acts (R142). -/
def TW.setUp (w : TW) (s : SetUp) : TW :=
  let w := if s.cpv && s.commit then w.upd Tile.commitShadows else w
  let w := if s.cpv then w.upd (fun t => { t with seq := { t.seq with lastCp := BitVec.ofNat 8 s.cpid } }) else w
  let w := if s.cpv && s.take then w.cpTake s.cpid else w
  let w := w.faultIf (decide (2 ≤ s.seq) || decide (s.rsv ≠ 0)) Code.illegalOp
  w.upd (·.cursorResets s)

/-- NOTIFY: the event joins the queue of four at the end of the acycle (R144 step 4, R145). -/
def TW.notify (w : TW) (s : SetUp) : TW :=
  if s.cpv && s.notify then
    if 4 ≤ w.t.seq.evq.length then w.fault Code.cpEventLost
    else w.upd (fun t => { t with seq := { t.seq with evq := t.seq.evq ++ [BitVec.ofNat 8 s.cpid] } })
  else w

/-! ### Routing (R133 to R135, R141, R151) -/

/-- Landing FIFO of input `p`. -/
def Rtr.fifo (r : Rtr) (p : Nat) : List Tok := r.fifos.get [] p

/-- What a selected source gives: the word it drives, the fault it records, if any, and whether it pops a FIFO head. -/
structure Src where
  word : Option Tok
  fault : Option Nat
  pop : Bool
  deriving DecidableEq, Repr

/-- The source of a route code 1 to 12 at the start of the acycle. -/
def Tile.source (t : Tile) (code hr : Nat) : Src :=
  let plain := fun (w : Option Tok) => (⟨w, if w.isNone then some Code.sourceEmpty else none, false⟩ : Src)
  if code ≤ 8 then
    match t.rtr.fifo (code - 1) with
    | [] => ⟨none, some Code.sourceEmpty, false⟩
    | h :: _ => if h.colour = t.seq.colour then ⟨some h, none, true⟩ else ⟨none, some Code.staleToken, true⟩
  else if code = 9 then plain t.rtr.pa
  else if code = 10 then plain t.rtr.pb
  else if code = 11 then plain (t.rtr.hold.get none hr)
  else plain (some ⟨0, t.seq.colour⟩)

/-- A selection that R126 ignores with a record: a reserved code, a FIFO of an absent input, or an absent output. -/
def badSel (e : TEnv) (out code : Nat) : Bool :=
  decide (13 ≤ code) || (decide (1 ≤ code ∧ code ≤ 8) && !e.hasPort (code - 1)) ||
    (decide (out < 8) && !e.hasPort out)

/-- The selections of a bundle that name a source: (output, code), output 10 standing for the hold write. -/
def Bundle.selections (b : Bundle) : List (Nat × Nat) :=
  ((List.range 10).map (fun o => (o, b.sel o)) ++ [(10, bits b.hold 3 4)]).filter (fun p => p.2 ≠ 0)

/-- The words selected for each output, with the faults recorded and the FIFOs popped (R133 to R135, R147 steps 3 to 6). -/
structure Routed where
  outs : List (Nat × Tok)
  faults : List Nat
  pops : List Nat
  deriving DecidableEq, Repr

/-- Routing of one bundle. Each selection that R126 ignores records SCH_ILLEGAL_OP once (assumption 22). -/
def Tile.routed (t : Tile) (e : TEnv) (b : Bundle) : Routed :=
  let sels := b.selections
  let good := sels.filter (fun p => !badSel e p.1 p.2)
  let codes := (List.range 13).filter (fun c => good.any (fun p => p.2 = c))
  let hr := bits b.hold 0 3
  { outs := good.filterMap (fun p => (t.source p.2 hr).word.map (fun w => (p.1, w)))
    faults := (sels.filter (fun p => badSel e p.1 p.2)).map (fun _ => Code.illegalOp) ++
      codes.filterMap (fun c => (t.source c hr).fault)
    pops := (codes.filter (fun c => (t.source c hr).pop)).map (· - 1) }

/-- Pops the heads of the FIFOs given. -/
def Rtr.popAll (r : Rtr) (ps : List Nat) : Rtr :=
  { r with fifos := ps.foldl (fun m p => m.upd [] p List.tail) r.fifos }

/-! ### Fabric ports (R136 to R138) -/

/-- The cursor of a fabric port. -/
def Rtr.cursor (r : Rtr) (portB : Bool) : BitVec 16 := if portB then r.kb else r.ka

/-- The cursor of a fabric port advanced. -/
def Rtr.bump (r : Rtr) (portB : Bool) : Rtr := if portB then { r with kb := r.kb + 1 } else { r with ka := r.ka + 1 }

/-- The byte address of a fabric port access. -/
def Tile.fabAddr (t : Tile) (portB : Bool) (h : Nat) : Nat := (t.handle h).elem (t.rtr.cursor portB).toNat

/-- The shape of a fabric port access: STRIDE 8 or 0 (R137). -/
def Tile.fabShape (t : Tile) (h : Nat) : Bool := (t.handle h).stride = 8 || (t.handle h).stride = 0

/-- Posts an injected word for t + 2. -/
def TW.inject (w : TW) (portB : Bool) (tok : Tok) : TW :=
  w.upd (fun t => { t with rtr := { t.rtr with injects := t.rtr.injects ++ [⟨w.now + 2, portB, tok⟩] } })

/-- An INJECT or LAND after bank arbitration; `word` is what the port's local output drives. A word driven while the port
injects is dropped, its FIFO popped as for any selection; a LAND with no word makes no handle check (R136, R137; assumption
22). -/
def TW.fabric (w : TW) (portB : Bool) (op h : Nat) (won : Bool) (word : Option Tok) : TW :=
  let addr := alignDown (w.t.fabAddr portB h) 8
  let bump := fun (w : TW) => w.upd (fun t => { t with rtr := t.rtr.bump portB })
  if op = 1 then
    if !won then w.inject portB ⟨0, 0⟩
    else
      let r := w.readThrough h addr 8 (w.t.fabShape h)
      match r.2 with
      | none => r.1.inject portB ⟨0, 0⟩
      | some ws => bump (r.1.inject portB ⟨(ws.headD CWord.zero).data, w.t.seq.colour⟩)
  else if op = 2 then
    match won, word with
    | true, some tok =>
      let r := w.writeThrough h addr 8 (w.t.fabShape h) [tok.data]
      if r.2 then bump r.1 else r.1
    | _, _ => w
  else w

/-! ### Stack port (R139, R140, R164, R188) -/

/-- The scratch-side byte address of a pair's next beat. -/
def Tile.stkScrAddr (t : Tile) (p : Nat) : Nat := (t.handle p).elem (t.rtr.ks.get 0 p).toNat

/-- The stack-side byte address of a pair's next beat. -/
def Tile.stkSegAddr (t : Tile) (p : Nat) : Nat :=
  alignDown ((t.handle (p + 32)).elem (t.rtr.kt.get 0 p).toNat) 64

/-- The cursors of a pair advance; an SLD moves KT only (R140). -/
def Tile.bumpPair (t : Tile) (p : Nat) (sld : Bool) : Tile :=
  let r := t.rtr
  { t with rtr := { r with
    ks := if sld then r.ks else r.ks.set 0 p (r.ks.get 0 p + 1)
    kt := r.kt.set 0 p (r.kt.get 0 p + 1) } }

/-- The handle checks of a stack operation at issue: the stack side, and for SRD and SWR the scratch side (R140, R64). The
tags that an SRD reads go with its beat and are checked later (R76); those of an SLD are checked here. The answer is the code
of the first that fails. -/
def Tile.stkCheck (t : Tile) (op p : Nat) : Option Nat :=
  let hs := t.handle (p + 32)
  let h := t.handle p
  let sa := alignDown (t.stkScrAddr p) 64
  match hs.check (t.stkSegAddr p) 64 (op = 2) (hs.stackSpace && (hs.stride = 64 || hs.stride = 0))
      (if op = 3 then t.stkTags (t.stkSegAddr p / 8) 8 else []) with
  | some c => some c
  | none =>
    if op = 3 then none
    else h.check sa 64 (op = 1) (!h.stackSpace && h.stride = 64) (if op = 2 then t.scrTags (sa / 8) 8 else [])

/-- The eight words of a stack beat at a byte address, their outcomes noted (R74, R193). -/
def TW.readBeat (w : TW) (addr : Nat) : TW × List CWord :=
  ((List.range 8).foldl (fun w j => w.noteStk (addr / 8 + j)) w,
    (List.range 8).map (fun j => (w.t.stkWord (addr / 8 + j)).read))

/-- A stack operation at issue. -/
def TW.stack (w : TW) (e : TEnv) (op p : Nat) : TW :=
  let full := op = 3 && w.t.seq.sldBegun && decide (512 ≤ w.t.seq.stbyCount)
  if op = 0 then w
  else if full then w.fault Code.illegalOp
  else
    match w.t.stkCheck op p with
    | some c => w.fault c
    | none =>
      let w := { w with beats := w.beats + 1 }
      let scr := alignDown (w.t.stkScrAddr p) 64
      let seg := w.t.stkSegAddr p
      let w := if op = 3 && !w.t.seq.sldBegun then
          w.upd (fun t => { t with seq := { t.seq with sldBegun := true, stbyCount := 0 } }) else w
      let w := if op = 1 then w.upd (·.advance p 64) else w
      if e.clash then (w.upd (·.bumpPair p (op = 3))).fault Code.stkRefreshClash
      else if op = 2 then
        let r := w.readScr (scr / 8) 8
        let old := (List.range 8).map (fun j => w.t.stkWord (seg / 8 + j))
        let post := w.t.posted.filter (fun x => decide (w.now < x.due)) ++ [⟨w.now + 24, seg / 8, old⟩]
        r.1.upd (fun t => ({ ((t.landStk (seg / 8) r.2).advance (p + 32) 64).bumpPair p false with posted := post }).count 4 64)
      else
        let r := w.readBeat seg
        r.1.upd (fun t => ({ t with
          beats := t.beats ++ [(⟨w.now + 24, op = 3, scr, t.seq.secStart, r.2⟩ : Beat)] }.bumpPair p (op = 3)).count 3 64)

/-! ### The next bundle (R143) -/

/-- A finished body passes its end outwards: the loops left open and the next index. -/
def closeLoops : List Loop → Nat → Nat → List Loop × Nat
  | [], _, next => ([], next)
  | l :: r, e, next =>
    if e = l.last.toNat then
      if 1 < l.count.toNat then ({ l with count := l.count - 1 } :: r, l.start.toNat)
      else closeLoops r e next
    else (l :: r, next)

/-- Opens the loop of a set-up bundle: the loops (innermost first), the next index, the bundle that counts as finished,
and whether the set-up is illegal. -/
def openLoop (ls : List Loop) (pc : Nat) (s : SetUp) (pv : Lane) : List Loop × Nat × Nat × Bool :=
  let bad := decide (4 ≤ ls.length) || decide (s.lend ≤ pc) ||
    (match ls with
      | [] => false
      | l :: _ => decide (l.last.toNat < s.lend))
  let n := if s.lsrc then pv.toNat % 2 ^ 16 else s.lcount
  if bad then (ls, pc + 1, pc, true)
  else if n = 0 then (ls, s.lend + 1, s.lend, false)
  else (⟨BitVec.ofNat 9 (pc + 1), BitVec.ofNat 9 s.lend, BitVec.ofNat 16 n⟩ :: ls, pc + 1, pc, false)

/-- The choice of the next bundle after the one at `pc` (R143). -/
def TW.nextBundle (w : TW) (pc : Nat) (su : Option SetUp) : TW :=
  let ls := w.t.seq.loops.reverse
  let o := match su with
    | some s => if s.lv then openLoop ls pc s w.t.seq.pv else (ls, pc + 1, pc, false)
    | none => (ls, pc + 1, pc, false)
  let c := closeLoops o.1 o.2.2.1 o.2.1
  let w := w.faultIf o.2.2.2 Code.illegalOp
  let w := w.upd (fun t => { t with seq := { t.seq with loops := c.1.reverse } })
  let fin : Bool := match su with
    | some s => s.seq = 1
    | none => false
  if fin then w.upd (fun t => { t with seq := { t.seq with state := .done } })
  else if 512 ≤ c.2 then
    (w.fault Code.illegalOp).upd (fun t => { t with seq := { t.seq with state := .done } })
  else w.upd (fun t => { t with seq := { t.seq with nextPc := BitVec.ofNat 9 c.2 } })

/-! ### One acycle of a running tile (R147) -/

/-- Which of a bundle's operations a field in TRANSIT, or dark, may not do: one entry per operation issued (R158). -/
def Bundle.forbidden (b : Bundle) : List Nat :=
  (if !b.setup && b.mxu ≠ 0 then [0] else []) ++ (if !b.setup && b.vu ≠ 0 then [1] else []) ++
    (if bits b.fa 5 2 ≠ 0 then [2] else []) ++ (if bits b.fb 5 2 ≠ 0 then [3] else []) ++
    (if bits b.stk 5 2 = 1 ∨ bits b.stk 5 2 = 2 then [4] else [])

/-- The bundle without the operations that its field may not do. -/
def Bundle.strip (b : Bundle) : Bundle :=
  { b with
    mxu := if b.setup then b.mxu else 0
    vu := if b.setup then b.vu else 0
    fa := 0
    fb := 0
    stk := if bits b.stk 5 2 = 3 then b.stk else 0 }

/-- The bank requests of an acycle: the bundle's scheduled accesses and an SRD beat due now (R60, R533). -/
def Tile.requests (t : Tile) (now : Nat) (b : Bundle) (ms : MxuSlot) (vs : VuSlot) : List ScrReq :=
  let fa := bits b.fa 5 2
  let fb := bits b.fb 5 2
  (if bits b.stk 5 2 = 2 then [⟨prioSwr, t.stkScrAddr (bits b.stk 0 5)⟩] else []) ++
  ((t.beats.filter (fun x => x.landsAt now t.seq.secStart)).map (fun x => ⟨prioLand, x.dest⟩)) ++
  (if !b.setup && !ms.illegal && ms.access then [⟨prioMxu, t.mxuAddr ms⟩] else []) ++
  (if !b.setup && !vs.illegal && vs.access then [⟨prioVu, t.vuAddr vs⟩] else []) ++
  (if fa = 1 ∨ fa = 2 then [⟨prioFa, t.fabAddr false (bits b.fa 0 5)⟩] else []) ++
  (if fb = 1 ∨ fb = 2 then [⟨prioFb, t.fabAddr true (bits b.fb 0 5)⟩] else [])

/-- An SWR read and the landing beat of an SRD both need the scratch stack port, which makes one access in an acycle (R59): where
they name different banks the beat is the access that is suppressed, with a record as for a clash (assumption 18). -/
def portTwice (rs : List ScrReq) : Bool :=
  rs.any (fun r => r.prio = prioSwr && rs.any (fun q => q.prio = prioLand && bankOf q.addr ≠ bankOf r.addr))

/-- Records each code of a list. -/
def TW.faultAll (w : TW) (cs : List Nat) : TW := cs.foldl TW.fault w

/-- The hold write at the end of the acycle (R141). -/
def TW.holdWrite (w : TW) (b : Bundle) (r : Routed) : TW :=
  match r.outs.find? (fun p => p.1 = 10) with
  | none => w
  | some p => w.upd (fun t => { t with rtr := { t.rtr with hold := t.rtr.hold.set none (bits b.hold 7 3) (some p.2) } })

/-- One acycle of a tile in RUN, its start already made (R147). -/
def Tile.issue (t : Tile) (e : TEnv) (now : Nat) : TW :=
  let pc := t.seq.nextPc.toNat
  let b0 := Bundle.ofBits (t.activeBundle pc)
  let w := TW.start ({ t with seq := { t.seq with pc := t.seq.nextPc, next := now + 1 } }.count 0 1) now
  let w := match e.blocked with
    | none => w
    | some c => b0.forbidden.foldl (fun w _ => w.fault c) w
  let b := if e.blocked.isSome then b0.strip else b0
  let su := if b.setup then some (SetUp.ofNat b.su) else none
  -- steps 1 and 2
  let w := match su with
    | some s => w.setUp s
    | none => w
  -- steps 3 and 4
  let r := w.t.routed e b
  let w := w.faultAll r.faults
  -- the scheduled ports
  let ms := MxuSlot.ofNat b.mxu
  let vs := VuSlot.ofNat b.vu
  let rs := w.t.requests now b ms vs
  let w := w.faultAll (List.replicate (clashes rs + b2n (portTwice rs)) Code.bankClash)
  let w := w.landBeats (wins rs prioLand && !portTwice rs)
  let w := w.stack e (bits b.stk 5 2) (bits b.stk 0 5)
  let w := if b.setup then w
    else if ms.illegal then w.fault Code.illegalOp
    else (w.mxuAccess ms (wins rs prioMxu)).mxuCompute ms
  let w := if b.setup then w
    else if vs.illegal then w.fault Code.illegalOp
    else w.vuIssue vs (wins rs prioVu)
  let local_ := fun (o : Nat) => (r.outs.find? (fun p => p.1 = o)).map (·.2)
  let w := w.faultIf (bits b.fa 5 2 = 3) Code.illegalOp
  let w := w.faultIf (bits b.fb 5 2 = 3) Code.illegalOp
  let w := w.fabric false (bits b.fa 5 2) (bits b.fa 0 5) (wins rs prioFa) (local_ 8)
  let w := w.fabric true (bits b.fb 5 2) (bits b.fb 0 5) (wins rs prioFb) (local_ 9)
  -- steps 5 and 6
  let w := { w with words := r.outs.filter (fun p => decide (p.1 < 8)) }
  let w := w.holdWrite b r
  let w := w.upd (fun t => { t with rtr := t.rtr.popAll r.pops })
  -- step 8, and the events that join at the end of the acycle
  let w := w.nextBundle pc su
  match su with
  | some s => w.notify s
  | none => w

/-! ### Arrivals (R127, R128, R148, R151; step 7 of R147) -/

/-- A word arrives at input `p` at the end of an acycle, with the bits of its code word that the hop flipped: decoding, the
colour check on what it delivers, then the FIFO (R82, R151). -/
def TW.arrive (w : TW) (p : Nat) (tok : Tok) (err : BitVec 80) : TW :=
  let c : CWord := ⟨tok.data, tok.colour, err⟩
  let w := match c.ecc with
    | .good => w
    | .one => w.upd (·.countSat F.RTR_ECC_CE_COUNT)
    | .multi =>
      let w := if w.t.reg F.RTR_ECC_UE = 0 then
          w.upd (fun t => (t.setReg F.RTR_ECC_UE 1).setReg F.RTR_ECC_UE_PORT p) else w
      w.fault Code.eccHopUe
  let got : Tok := ⟨c.read.data, c.read.tag⟩
  if got.colour ≠ w.t.seq.colour then w.fault Code.staleToken
  else if 16 ≤ (w.t.rtr.fifo p).length then w.fault Code.fifoOverflow
  else w.upd (fun t => { t with rtr := { t.rtr with fifos := t.rtr.fifos.upd [] p (· ++ [got]) } })

/-! ### The section switch (R95, R106, R118, R152, R161, R162) -/

/-- Removes a beat that a tile issued in a section that has ended, when the acycle of its landing has come (R162). -/
def Tile.dropOldBeats (t : Tile) (now : Nat) : Tile :=
  { t with beats := t.beats.filter (fun b => b.secStart = t.seq.secStart || !decide (b.due ≤ now)) }

/-- The section-start resets of a tile (R95, R106, R118, R152, R153). -/
def Tile.sectionReset (t : Tile) : Tile :=
  ({ t with
    mxu := Mxu.zero
    vu := Vu.zero
    rtr := { Rtr.zero with fifos := t.rtr.fifos }
    seq := { t.seq with pv := 0, loops := [], stbyValid := false, stbyCount := 0, sldBegun := false } }).clearSecFlags

/-- Whether a scrub or zeroize keeps the sequencer of an IDLE or HALT tile from being armed (R69). -/
def Tile.unarmable (t : Tile) : Bool := t.scrOp ≠ .none && (t.seq.state = .idle || t.seq.state = .halt)

/-- The checks of the switch acycle (R161 step 1). `cold` says that this is the entry switch of a cold start. -/
def TW.switchChecks (w : TW) (cold : Bool) : TW :=
  let q := w.t.seq
  let bad := match q.state with
    | .run => true
    | .armed => !q.cmdArm || !cold
    | .idle => !cold || w.t.unarmable
    | .halt => !cold || w.t.unarmable
    | .done => false
  let late := w.t.beats.any (fun b => b.secStart = q.secStart && decide (w.now ≤ b.due))
  let w := w.faultIf bad Code.sectionOverrun
  let w := w.faultIf late Code.sectionOverrun
  let w := w.faultIf (!q.stbyValid) Code.stbyNotReady
  w.faultIf ((List.range 8).any (fun p => !(w.t.rtr.fifo p).isEmpty)) Code.staleToken

/-- A tile's switch at acycle `w.now` into section `sec` with its colour and GAP (R161, R168). `params` are the eight
parameters of an entry switch. A tile whose scratch is being scrubbed cannot be armed: it keeps its state, and its check fails
(R69; assumption 22). -/
def TW.switchTo (w : TW) (sec : Nat) (colour : BitVec 4) (gap : Nat) (cold : Bool) (params : Option (List Nat)) : TW :=
  let w := w.switchChecks cold
  w.upd (fun t =>
    let t := { t with seq := { t.seq with
      act := !t.seq.act
      actValid := t.seq.stbyValid
      actCount := t.seq.stbyCount
      colour := colour
      section_ := sec
      secStart := w.now
      cmdArm := false
      nextPc := 0
      pc := 0
      next := w.now
      startAt := w.now + gap
      state := if t.unarmable then t.seq.state else if gap = 0 then .run else .armed } }
    let t := t.sectionReset
    match params with
    | none => t
    | some ps => (List.range 4).foldl (fun t i =>
        (t.setReg F.SCH_INVP_PEVEN (ps.getD (2 * i) 0) i).setReg F.SCH_INVP_PODD (ps.getD (2 * i + 1) 0) i) t)

end Sys2Proof.Machine
end

