-- ==== Sys2Proof/Machine/TileAccess.lean ====
section
/-!
DEFINITION. Sys2Proof/Machine/TileAccess.lean: the tile address space (R46), the tile registers as views of the tile's state
(R84, R85, R152 to R154, R517), and the commands that a write to a tile register starts (R66, R69, R70, R532, R534).
-/

namespace Sys2Proof.Machine

/-- A tile's place: field, physical coordinates, whether it holds no logical position, its logical coordinates, its
schedule environment's extra ports, the rows of the array, the bytes of a stack segment that handles may name, the array
acycle, and which of its groups MXU, VU and CC are gated off (R462). -/
structure TPos where
  f : Nat
  px : Nat
  py : Nat
  spare : Bool
  lx : Nat
  ly : Nat
  rows : Nat
  extra : List Nat
  segBytes : Nat
  now : Nat
  gated : Nat
  deriving DecidableEq, Repr

/-- An address of a group that is gated off: the control core's, or a group of UNIT_DATA (R462). -/
def TPos.shuts (p : TPos) (a group : Nat) : Bool :=
  let cc := bitOf p.gated 2
  (cc && decide (0x10080 ≤ a ∧ a < 0x100A0 ∨ 0x20000 ≤ a ∧ a < 0x29000)) ||
    (a = 0x10730 && ((bitOf p.gated 0 && decide (group ≤ 6)) || (bitOf p.gated 1 && (group = 7 || group = 8)) ||
      (cc && decide (9 ≤ group))))

/-- The schedule environment of a place with no obstacle. -/
def TPos.env (p : TPos) : TEnv := ⟨p.lx, p.ly, p.rows, p.extra, none, false⟩

/-- A word made of (lowest bit, value) parts. -/
def word64 (l : List (Nat × Nat)) : Word := l.foldl (fun a p => a ||| (BitVec.ofNat 64 p.2 <<< p.1)) 0

/-- SCH_STATE.STATE code. -/
def SeqState.code : SeqState → Nat
  | .idle => 0
  | .armed => 1
  | .run => 2
  | .done => 3
  | .halt => 4

/-- CC_STATE.STATE code. -/
def CoreState.code : CoreState → Nat
  | .held => 0
  | .waiting => 1
  | .handler => 2
  | .trap => 3
  | .lockup => 4
  | .startup => 5

/-- MSG_STATE.SEND code. -/
def SendState.code : SendState → Nat
  | .idle => 0
  | .awaitAnswer => 1
  | .backoff => 2
  | .awaitSlot => 3

/-- Loop `i`, outermost first; a closed level reads as zero. -/
def Seq.loop (q : Seq) (i : Nat) : Loop := q.loops.getD i ⟨0, 0, 0⟩

/-- One bit per slot of the message interface. -/
def slotBits (m : MsgIf) (p : Slot → Bool) : Nat :=
  (List.range 8).foldl (fun (a s : Nat) => if p (m.slots.get Slot.free s) then a + 2 ^ s else a) 0

/-- Landed requests awaiting dispatch. -/
def MsgIf.requests (m : MsgIf) : Nat :=
  (m.landed.filter (fun l => match l with | .request _ => true | .reply _ => false)).length

/-- Entry `i` of landing FIFO `p`. -/
def Rtr.entry (r : Rtr) (p i : Nat) : Option Tok := (r.fifo p)[i]?

/-- A 64-bit slice of a bit vector. -/
def slice64 {n : Nat} (v : BitVec n) (i : Nat) : Word := slice v 64 i

/-- UNIT_DATA: word INDEX of group GROUP (R517). -/
def Tile.unitData (t : Tile) (g i : Nat) : Word :=
  let m := t.mxu
  match g with
  | 0 => if i < 32 then slice64 (m.acc.get 0 (i / 8)) (i % 8) else 0
  | 1 => if i < 8 then slice64 m.wreg i else 0
  | 2 => if i < 8 then slice64 m.wnxt i else 0
  | 3 => if i < 8 then slice64 m.xreg i else 0
  | 4 => if i < 8 then slice64 m.xnxt i else 0
  | 5 =>
    if i < 2 then slice64 m.ws i
    else if i = 2 then word64 [(0, m.xs.toNat), (32, m.xsnxt.toNat)]
    else if i < 5 then slice64 m.wsnxt (i - 3) else 0
  | 6 =>
    if i = 0 then word64 [(54, m.cw.toNat), (44, m.cx.toNat), (34, m.cs.toNat), (24, m.ca.toNat), (16, m.wp.toNat),
      (8, m.xp.toNat), (0, m.bc.toNat)] else 0
  | 7 => if i < 64 then slice64 (t.vu.reg (i / 8)) (i % 8) else 0
  | 8 =>
    if i = 0 then word64 [(32, t.vu.c.toNat), (0, t.vu.m.toNat)]
    else if i = 1 then word64 ((List.range 4).map (fun k => (16 * k, (t.vu.k.get 0 k).toNat))) else 0
  | 9 =>
    if i < 16 then word64 [(0, if i = 0 then 0 else (t.core.x.get 0 (2 * i)).toNat),
      (32, (t.core.x.get 0 (2 * i + 1)).toNat)] else 0
  | 10 => if i < 128 then (match t.rtr.entry (i / 16) (i % 16) with
      | some k => k.data
      | none => 0) else 0
  | _ => 0

/-- The tile registers that other parts of the tile hold; none where the register file holds the register. -/
def Tile.viewReg (t : Tile) (p : TPos) (off : Nat) : Option Word :=
  let q := t.seq
  let r := t.rtr
  match off with
  | 0x10000 => some (word64 [(54, p.f), (43, p.py), (32, p.px), (20, b2n p.spare),
      (0, if p.spare then 0 else p.lx + 1024 * p.ly)])
  | 0x10010 => some (word64 [(31, b2n q.stbyValid), (21, q.stbyCount), (20, b2n q.actValid), (16, q.colour.toNat),
      (13, b2n q.cmdArm), (10, q.state.code), (9, b2n q.act), (0, q.pc.toNat)])
  | 0x10020 => some (word64 ((List.range 4).map (fun i => (16 * i, (q.loop i).count.toNat))))
  | 0x10028 => some (word64 [(0, q.pv.toNat)])
  | 0x10060 => some (word64 ((36, q.loops.length) :: (List.range 4).map (fun i => (9 * i, (q.loop i).start.toNat))))
  | 0x10068 => some (word64 ((List.range 4).map (fun i => (9 * i, (q.loop i).last.toNat))))
  | 0x10070 => some (word64 ((40, q.evq.length) :: (32, q.lastCp.toNat) ::
      (List.range 4).map (fun i => (8 * i, (q.evq.getD i 0).toNat))))
  | 0x10080 => some (word64 [(32, t.core.mcause.toNat), (16, t.core.tag.toNat), (13, t.core.state.code),
      (0, t.core.retired.toNat)])
  | 0x10098 => some (word64 [(63, b2n t.core.mboxReady), (32, t.core.mboxId.toNat), (0, t.core.mboxValue.toNat)])
  | 0x100C0 => some (word64 (((List.range 8).map (fun i => (48 + i, b2n (!p.spare && p.env.hasPort i)))) ++
      ((List.range 8).map (fun i => (40 + i, b2n (r.hold.get none i).isSome))) ++
      (List.range 8).map (fun i => (5 * i, (r.fifo i).length))))
  | 0x100D0 => some (word64 [(41, b2n r.pb.isSome), (40, b2n r.pa.isSome), (36, (r.pb.getD ⟨0, 0⟩).colour.toNat),
      (32, (r.pa.getD ⟨0, 0⟩).colour.toNat), (16, r.kb.toNat), (0, r.ka.toNat)])
  | 0x10180 => some (word64 ((List.range 8).map (fun i => (4 * i, ((r.hold.get none i).getD ⟨0, 0⟩).colour.toNat))))
  | 0x10190 =>
    let e := r.entry (t.reg F.RTR_PEEK_PORT) (t.reg F.RTR_PEEK_INDEX)
    some (word64 [(63, b2n e.isSome), (8, (e.getD ⟨0, 0⟩).colour.toNat), (4, t.reg F.RTR_PEEK_PORT),
      (0, t.reg F.RTR_PEEK_INDEX)])
  | 0x10198 => some ((r.entry (t.reg F.RTR_PEEK_PORT) (t.reg F.RTR_PEEK_INDEX)).getD ⟨0, 0⟩).data
  | 0x101A0 => some (r.pa.getD ⟨0, 0⟩).data
  | 0x101A8 => some (r.pb.getD ⟨0, 0⟩).data
  | 0x10248 =>
    let m := t.msg
    some (word64 [(63, b2n m.inc), (55, slotBits m (·.abandoned)), (47, slotBits m (·.reserved)),
      (39, slotBits m (fun s => s.held.isSome)), (35, m.requests), (33, m.send.code), (20, m.tag.toNat),
      (0, m.dest.toNat)])
  | 0x10720 => some (word64 [(48, q.section_), (0, if q.colour = 0 then 0 else t.secAcyc p.now % 2 ^ 32)])
  | 0x10730 => some (t.unitData (t.reg F.UNIT_SEL_GROUP) (t.reg F.UNIT_SEL_INDEX))
  | _ =>
    if 0x10140 ≤ off ∧ off ≤ 0x10178 then some ((r.hold.get none ((off - 0x10140) / 8)).getD ⟨0, 0⟩).data
    else if 0x10600 ≤ off ∧ off ≤ 0x106F8 then
      let k := (off - 0x10600) / 8
      some (word64 [(32, (r.kt.get 0 k).toNat), (0, (r.ks.get 0 k).toNat)])
    else if 0x10400 ≤ off ∧ off < 0x10500 ∧ (p.spare || !p.env.hasPort ((off - 0x10400) / 32)) = true then some 0
    else none

/-- The value of the tile register at an 8-byte aligned address; an address with no register reads as zero (R15, R46). -/
def Tile.readReg (t : Tile) (p : TPos) (off : Nat) : Word :=
  match t.viewReg p off with
  | some w => w
  | none =>
    match findReg tileRegTable off with
    | some (r, i, j) => r.assemble (fun f => t.regs.get f i j)
    | none => 0

/-! ### Bytes, handle entries and the other ranges -/

/-- 64 bits at a byte offset of a byte memory. -/
def bytes64 (m : SMap Byte) (off : Nat) : Word :=
  word64 ((List.range 8).map (fun k => (8 * k, (m.get 0 (off + k)).toNat)))

/-- Stores the low `n` bytes of a value at a byte offset. -/
def putMem (m : SMap Byte) (off v : Nat) : Nat → SMap Byte
  | 0 => m
  | n + 1 => putMem (m.set 0 off (BitVec.ofNat 8 (v % 256))) (off + 1) (v / 256) n

/-- The low `n` bytes at a byte offset. -/
def getMem (m : SMap Byte) (off : Nat) : Nat → Nat
  | 0 => 0
  | n + 1 => (m.get 0 off).toNat + 256 * getMem m (off + 1) n

/-- Word 0 of a handle entry. -/
def Handle.word0 (h : Handle) : Word :=
  word64 [(63, b2n h.valid), (62, b2n h.stackSpace), (61, b2n h.ro), (60, b2n h.res), (59, b2n h.ckp), (58, b2n h.app),
    (52, h.ten.toNat), (23, h.length.toNat), (0, h.base.toNat)]

/-- Word 1 of a handle entry. -/
def Handle.word1 (h : Handle) : Word := word64 [(16, h.wmark.toNat), (0, h.stride.toNat)]

/-- A handle entry with word 0 written. -/
def Handle.put0 (h : Handle) (w : Word) : Handle :=
  let n := w.toNat
  { h with
    valid := bitOf n 63
    stackSpace := bitOf n 62
    ro := bitOf n 61
    res := bitOf n 60
    ckp := bitOf n 59
    app := bitOf n 58
    ten := BitVec.ofNat 4 (bits n 52 4)
    length := BitVec.ofNat 23 (bits n 23 23)
    base := BitVec.ofNat 23 (bits n 0 23) }

/-- A handle entry with word 1 written. -/
def Handle.put1 (h : Handle) (w : Word) : Handle :=
  { h with wmark := BitVec.ofNat 23 (bits w.toNat 16 23), stride := BitVec.ofNat 16 (bits w.toNat 0 16) }

/-- A shadow entry as word 0 or 1; word 1 bit 63 is the pending flag (R62). -/
def Shadow.word (s : Shadow) (k : Nat) : Word :=
  if k = 0 then word64 [(23, s.length.toNat), (0, s.base.toNat)]
  else word64 [(63, b2n (s.pBase || s.pLength || s.pStride)), (0, s.stride.toNat)]

/-- The bytes that BASE + LENGTH of a handle may reach (R62, R199). -/
def spaceLimit (p : TPos) (stackSpace : Bool) : Nat := if stackSpace then p.segBytes else 0x10000

/-- R62 on the entry that the next commit would produce with these shadow values of BASE and LENGTH. -/
def Tile.boundOk (t : Tile) (p : TPos) (n base length : Nat) : Bool :=
  decide (base + length ≤ spaceLimit p (t.handle n).stackSpace)

/-- BASE and LENGTH that the next commit would produce: a pending shadow value, else the live one (R62). -/
def Tile.nextBounds (t : Tile) (n : Nat) : Nat × Nat :=
  let s := t.shadow n
  let h := t.handle n
  ((if s.pBase then s.base else h.base).toNat, (if s.pLength then s.length else h.length).toNat)

/-- The ranges of the tile address map (R46). -/
def inTileMap (a : Nat) : Bool :=
  decide (a < 0x11000) || decide (0x20000 ≤ a ∧ a < 0x22000) || decide (0x24000 ≤ a ∧ a < 0x25000) ||
    decide (0x25000 ≤ a ∧ a < 0x25048) || decide (0x25080 ≤ a ∧ a < 0x250C0) || decide (0x28000 ≤ a ∧ a < 0x29000) ||
    decide (0x30000 ≤ a ∧ a < 0x34000)

/-- The 64-bit word at an 8-byte aligned tile address, with its tag (scratch only). Scratch reads here are control-port
reads: the code-word outcome is noted by the caller. -/
def Tile.readAddr (t : Tile) (p : TPos) (a : Nat) : Tok :=
  if p.shuts a (t.reg F.UNIT_SEL_GROUP) then ⟨0, 0⟩
  else if a < 0x10000 then ⟨(t.scrWord (a / 8)).read.data, (t.scrWord (a / 8)).read.tag⟩
  else if a < 0x10800 then ⟨t.readReg p a, 0⟩
  else if a < 0x10C00 then
    let h := t.handle ((a - 0x10800) / 16)
    ⟨if a % 16 < 8 then h.word0 else h.word1, 0⟩
  else if a < 0x11000 then ⟨(t.shadow ((a - 0x10C00) / 16)).word (a % 16 / 8), 0⟩
  else if 0x20000 ≤ a ∧ a < 0x22000 then ⟨bytes64 t.core.imem (a - 0x20000), 0⟩
  else if 0x24000 ≤ a ∧ a < 0x25000 then ⟨bytes64 t.core.dmem (a - 0x24000), 0⟩
  else if 0x25000 ≤ a ∧ a < 0x25048 then ⟨bytes64 t.core.rbuf (a - 0x25000), 0⟩
  else if 0x25080 ≤ a ∧ a < 0x250C0 then ⟨bytes64 t.core.sbuf (a - 0x25080), 0⟩
  else if 0x28000 ≤ a ∧ a < 0x29000 then
    let e := fun (k : Nat) => t.core.tags.get TagEntry.zero ((a - 0x28000) / 4 + k)
    ⟨word64 [(0, (e 0).handler.toNat), (31, b2n (e 0).valid), (32, (e 1).handler.toNat), (63, b2n (e 1).valid)], 0⟩
  else if 0x30000 ≤ a ∧ a < 0x34000 then
    let i := (a - 0x30000) % 0x2000 / 16
    let b := (if a < 0x32000 then t.store0 else t.store1).get 0 i
    ⟨slice64 b (a % 16 / 8), 0⟩
  else ⟨0, 0⟩

/-! ### Commands of the tile registers -/

/-- A command register's fields: the status and the operation. -/
def Tile.setCmd (t : Tile) (st op : Fld) (status code : Nat) : Tile := (t.setReg st status).setReg op code

/-- SCH_CMD ARM (R534): accepted in HALT, and in IDLE with a valid active store; refused while a scrub or zeroize runs
(R69) and in every other state. -/
def Tile.cmdArm (t : Tile) : Tile :=
  let q := t.seq
  let ok := (q.state = .halt || (q.state = .idle && q.actValid)) && t.scrOp = .none
  if ok then
    ({ t with seq := { q with state := .armed, cmdArm := true } }).setCmd F.SCH_CMD_STATUS F.SCH_CMD_OP 0 1
  else t.setCmd F.SCH_CMD_STATUS F.SCH_CMD_OP 2 1

/-- SCH_CMD HALT: from RUN, DONE or ARMED to HALT; refused in any other state (Sequencer transitions). -/
def Tile.cmdHalt (t : Tile) : Tile :=
  let q := t.seq
  if q.state = .run || q.state = .done || q.state = .armed then
    ({ t with seq := { q with state := .halt, cmdArm := false } }).setCmd F.SCH_CMD_STATUS F.SCH_CMD_OP 0 2
  else t.setCmd F.SCH_CMD_STATUS F.SCH_CMD_OP 2 2

/-- SCR_CMD SCRUB starts a scrub (R69); refused unless the sequencer is IDLE or HALT, and while one runs. -/
def Tile.cmdScrub (t : Tile) : Tile :=
  if (t.seq.state = .idle || t.seq.state = .halt) && t.scrOp = .none then
    ({ t with scrOp := .scrub }).setCmd F.SCR_CMD_STATUS F.SCR_CMD_OP 1 1
  else t.setCmd F.SCR_CMD_STATUS F.SCR_CMD_OP 2 1

/-- Every word of scratch becomes data 0 with tag 0 (R70). -/
def Tile.zeroScratch (t : Tile) : Tile := { t with scratch := [] }

/-- SCR_CMD ZEROIZE (R70); refused as SCRUB is. -/
def Tile.cmdZeroize (t : Tile) : Tile :=
  if (t.seq.state = .idle || t.seq.state = .halt) && t.scrOp = .none then
    ({ t.zeroScratch with scrOp := .zeroize }).setCmd F.SCR_CMD_STATUS F.SCR_CMD_OP 1 2
  else t.setCmd F.SCR_CMD_STATUS F.SCR_CMD_OP 2 2

/-- A tenant-change zeroize also clears the handles, the core's data RAM and message buffers, both bundle stores and the
mailbox (R70). -/
def Tile.tenantZeroize (t : Tile) : Tile :=
  { t.zeroScratch with
    handles := []
    shadows := []
    store0 := []
    store1 := []
    core := { t.core with
      dmem := []
      rbuf := []
      sbuf := []
      mboxReady := false
      mboxId := 0
      mboxValue := 0 } }

/-- A word after a scrub: a single-symbol error is corrected; an uncorrectable word becomes data 0, tag 0 (R69, R72). -/
def scrubWord (w : CWord) : CWord :=
  match w.ecc with
  | .multi => CWord.zero
  | _ => { w with err := 0 }

/-- Every listed word scrubbed; a zeroized word is unlisted. -/
def scrubAll (m : SMap CWord) : SMap CWord :=
  List.filter (fun (p : Nat × CWord) => decide (p.2 ≠ CWord.zero))
    (List.map (fun (p : Nat × CWord) => (p.1, scrubWord p.2)) m)

/-- The scrub or zeroize completes (R69, R72). -/
def TW.scrubDone (w : TW) : TW :=
  match w.t.scrOp with
  | .none => w
  | .zeroize => w.upd (fun t => ({ t with scrOp := .none }).setReg F.SCR_CMD_STATUS 0)
  | .scrub =>
    let bad := w.t.scratch.filter (fun p => p.2.ecc = .multi)
    let one := (w.t.scratch.filter (fun p => p.2.ecc = .one)).length
    let w := w.upd (fun t => t.countSat F.SCR_ECC_CE_COUNT one)
    let w := bad.foldl (fun w p => (if w.t.reg F.SCR_ECC_UE = 0 then
      w.upd (fun t => (t.setReg F.SCR_ECC_UE 1).setReg F.SCR_ECC_UE_ADDR (p.1 * 8)) else w).note Code.eccScrUe) w
    w.upd (fun t => ({ t with
      scrOp := .none
      scratch := scrubAll t.scratch }).setReg F.SCR_CMD_STATUS 0)

/-- The core lets go of a TS.SEND it was blocked in: the transmitter drops the request, and its slot stays (assumption 27). -/
def Tile.dropSend (t : Tile) : Tile := { t with msg := { t.msg with send := .idle, txPkt := none } }

/-- A start-up run from 0x2_0000 (R532). -/
def Tile.startRun (t : Tile) (now : Nat) : Tile :=
  { t.dropSend with core := { t.core with state := .startup, pc := 0x20000, runStart := now, inHand := none, replied := false } }

/-- CC_CMD RUN: accepted only while held or waiting. -/
def Tile.cmdRun (t : Tile) (now : Nat) : Tile :=
  if t.core.state = .held || t.core.state = .waiting then
    (t.startRun now).setCmd F.CC_CMD_STATUS F.CC_CMD_OP 0 1
  else t.setCmd F.CC_CMD_STATUS F.CC_CMD_OP 2 1

/-- CC_CMD HALT: enters held, accepted in every state. -/
def Tile.cmdCoreHalt (t : Tile) : Tile :=
  ({ t.dropSend with core := { t.core with state := .held } }).setCmd F.CC_CMD_STATUS F.CC_CMD_OP 0 2

/-- CC_CMD RESTART: clears TRAP or LOCKUP, then runs; refused in every other state. -/
def Tile.cmdRestart (t : Tile) (now : Nat) : Tile :=
  if t.core.state = .trap || t.core.state = .lockup then
    (t.startRun now).setCmd F.CC_CMD_STATUS F.CC_CMD_OP 0 3
  else t.setCmd F.CC_CMD_STATUS F.CC_CMD_OP 2 3

/-- A write of a tile command register's operation code. -/
def Tile.command (t : Tile) (now off op : Nat) : Tile :=
  if off = 0x10018 then
    (if op = 1 then t.cmdArm else if op = 2 then t.cmdHalt else if op = 0 then t.setCmd F.SCH_CMD_STATUS F.SCH_CMD_OP 0 0
      else t.setCmd F.SCH_CMD_STATUS F.SCH_CMD_OP 2 op)
  else if off = 0x10058 then
    (if op = 1 then t.cmdScrub else if op = 2 then t.cmdZeroize
      else if op = 0 then t.setCmd F.SCR_CMD_STATUS F.SCR_CMD_OP 0 0 else t.setCmd F.SCR_CMD_STATUS F.SCR_CMD_OP 2 op)
  else if off = 0x10088 then
    (if op = 1 then t.cmdRun now else if op = 2 then t.cmdCoreHalt else if op = 3 then t.cmdRestart now
      else if op = 0 then t.setCmd F.CC_CMD_STATUS F.CC_CMD_OP 0 0 else t.setCmd F.CC_CMD_STATUS F.CC_CMD_OP 2 op)
  else t

/-- A register written through its access codes: the bits of RW fields among the written bits `[lo, lo + n)` are set, and with a
whole-word write W1C bits clear (R11, R14). -/
def RegFile.writeFields (m : RegFile) (fs : List Fld) (i j : Nat) (v : Word) (lo n : Nat) : RegFile :=
  fs.foldl (fun m f =>
    match f.acc with
    | .rw =>
      let a := max lo f.lo
      let b := min (lo + n) (f.lo + f.w)
      if b ≤ a then m
      else if b - a = f.w then m.set f i j (bits v.toNat f.lo f.w)
      else
        let old := m.get f i j
        m.set f i j (old - bits old (a - f.lo) (b - a) * 2 ^ (a - f.lo) + bits v.toNat a (b - a) * 2 ^ (a - f.lo))
    | .w1c => if n = 64 then m.set f i j (m.get f i j &&& ((2 ^ f.w - 1) ^^^ bits v.toNat f.lo f.w)) else m
    | _ => m) m

/-- A 64-bit write of a tile register by Base Camp or the survey window. A write of CC_BLOOM starts its check (R392). -/
def Tile.writeReg (t : Tile) (now off : Nat) (v : Word) : Tile :=
  if off = 0x10018 ∨ off = 0x10058 ∨ off = 0x10088 then t.command now off (bits v.toNat 0 4)
  else
    match findReg tileRegTable off with
    | none => t
    | some (r, i, j) =>
      let t' := { t with regs := t.regs.writeFields r.flds i j v 0 64 }
      if off = 0x100A0 then { (t'.setReg F.CC_BLOOM_CRC (bits v.toNat 0 32)).setReg F.CC_BLOOM_OK 0 with bloom := true }
      else if off = 0x10030 && bitOf v.toNat 63 then t'.setReg F.TILE_FAULT_MULTI 0 else t'

/-- Whether R66 lets Base Camp firmware write a handle or its shadow now. -/
def Tile.handleWritable (t : Tile) : Bool :=
  t.seq.state = .idle || t.seq.state = .done || t.seq.state = .halt

/-- A write of a shadow word (R66); none where its value would break R62. -/
def Tile.writeShadow (t : Tile) (p : TPos) (n k : Nat) (v : Word) : Option Tile :=
  let s := t.shadow n
  if k = 0 then
    let b := bits v.toNat 0 23
    let l := bits v.toNat 23 23
    let s' := { s with base := BitVec.ofNat 23 b, length := BitVec.ofNat 23 l, pBase := true, pLength := true }
    if t.boundOk p n b l then some { t with shadows := t.shadows.set Shadow.zero n s' } else none
  else
    let s' := { s with stride := BitVec.ofNat 16 (bits v.toNat 0 16), pStride := true }
    some { t with shadows := t.shadows.set Shadow.zero n s' }

/-- A system WRITE of one word at an 8-byte aligned tile address; none where it is refused (R66, R219). Scratch takes the
tag of the flit. -/
def Tile.writeAddr (t : Tile) (p : TPos) (a : Nat) (v : Tok) : Option Tile :=
  let d := v.data
  if p.shuts a (t.reg F.UNIT_SEL_GROUP) then some t
  else if a < 0x10000 then some (t.setScrWord (a / 8) d v.colour)
  else if a < 0x10800 then some (t.writeReg p.now a d)
  else if a < 0x10C00 then
    if t.handleWritable then
      let n := (a - 0x10800) / 16
      let h := t.handle n
      some { t with handles := t.handles.set Handle.zero n (if a % 16 < 8 then h.put0 d else h.put1 d) }
    else none
  else if a < 0x11000 then
    if t.handleWritable then t.writeShadow p ((a - 0x10C00) / 16) (a % 16 / 8) d else none
  else if 0x20000 ≤ a ∧ a < 0x22000 then
    some { t with core := { t.core with imem := putMem t.core.imem (a - 0x20000) d.toNat 8 } }
  else if 0x24000 ≤ a ∧ a < 0x25000 then
    some { t with core := { t.core with dmem := putMem t.core.dmem (a - 0x24000) d.toNat 8 } }
  else if 0x25000 ≤ a ∧ a < 0x25048 then
    some { t with core := { t.core with rbuf := putMem t.core.rbuf (a - 0x25000) d.toNat 8 } }
  else if 0x25080 ≤ a ∧ a < 0x250C0 then
    some { t with core := { t.core with sbuf := putMem t.core.sbuf (a - 0x25080) d.toNat 8 } }
  else if 0x28000 ≤ a ∧ a < 0x29000 then
    let i := (a - 0x28000) / 4
    let e := fun (k : Nat) => (⟨bitOf d.toNat (32 * k + 31), BitVec.ofNat 16 (bits d.toNat (32 * k) 16)⟩ : TagEntry)
    some { t with core := { t.core with
      tags := (t.core.tags.set TagEntry.zero i (e 0)).set TagEntry.zero (i + 1) (e 1) } }
  else if 0x30000 ≤ a ∧ a < 0x34000 then
    if t.seq.state = .armed || t.seq.state = .run then none
    else
      let i := (a - 0x30000) % 0x2000 / 16
      let put := fun (b : BitVec 128) =>
        if a % 16 < 8 then packLe 128 [d, slice64 b 1] else packLe 128 [slice64 b 0, d]
      if a < 0x32000 then some { t with store0 := t.store0.upd 0 i put }
      else some { t with store1 := t.store1.upd 0 i put }
  else none

end Sys2Proof.Machine
end

