-- ==== Sys2Proof/Machine/ControlCore.lean ====
section
/-!
DEFINITION. Sys2Proof/Machine/ControlCore.lean: the control core: fetch, the RV32IMC instructions, its loads and stores, its
traps, and the Tsuham extension that stays inside the tile (spec 02_tile R47, R53 to R56, R62, R67). The RISC-V encodings
and effects are those of the RISC-V unprivileged specification, which the manual names.
-/

namespace Sys2Proof.Machine

/-- Register `n` of the core; x0 reads as zero. -/
def CCore.get (c : CCore) (n : Nat) : Lane := if n = 0 then 0 else c.x.get 0 n

/-- Register `n` of the core written; x0 discards it. -/
def CCore.put (c : CCore) (n : Nat) (v : Lane) : CCore := if n = 0 then c else { c with x := c.x.set 0 n v }

/-- The exception causes of the RISC-V privileged specification that the core can raise (R55). -/
def Cause.fetchAccess : Nat := 1
def Cause.illegal : Nat := 2
def Cause.breakpoint : Nat := 3
def Cause.loadMisaligned : Nat := 4
def Cause.loadAccess : Nat := 5
def Cause.storeMisaligned : Nat := 6
def Cause.storeAccess : Nat := 7
def Cause.ecall : Nat := 11

/-! ### Loads and stores (R47, R218) -/

/-- `n` bytes of a 64-bit word from byte `k`. -/
def wordBytes (w : Word) (k n : Nat) : Nat := bits w.toNat (8 * k) (8 * n)

/-- The ranges a plain load may not read: scratch, handles, shadows and bundle stores. -/
def loadForbidden (a : Nat) : Bool :=
  decide (a < 0x10000) || decide (0x10800 ≤ a ∧ a < 0x11000) || decide (0x30000 ≤ a ∧ a < 0x34000)

/-- The ranges a plain store may not write: those, and the flow masks (R218). -/
def storeForbidden (a : Nat) : Bool := loadForbidden a || decide (0x10280 ≤ a ∧ a < 0x10400)

/-- A plain load of `n` bytes: the value, or the cause of its exception. -/
def Tile.coreLoad (t : Tile) (p : TPos) (a n : Nat) : Nat ⊕ Nat :=
  if a % n ≠ 0 then .inr Cause.loadMisaligned
  else if loadForbidden a then .inr Cause.loadAccess
  else .inl (wordBytes (t.readAddr p (a / 8 * 8)).data (a % 8) n)

/-- A plain store of `n` bytes: the tile, or the cause of its exception. A store to a register writes the RW fields it
covers; a register with a CMD or W1C field ignores it. -/
def Tile.coreStore (t : Tile) (a n v : Nat) : Tile ⊕ Nat :=
  if a % n ≠ 0 then .inr Cause.storeMisaligned
  else if storeForbidden a then .inr Cause.storeAccess
  else if 0x10000 ≤ a ∧ a < 0x10800 then
    match findReg tileRegTable (a / 8 * 8) with
    | none => .inl t
    | some (r, i, j) =>
      if r.flds.any (fun f => f.acc = .cmd || f.acc = .w1c) then .inl t
      else .inl { t with regs :=
        t.regs.writeFields r.flds i j (BitVec.ofNat 64 (v <<< (8 * (a % 8)))) (8 * (a % 8)) (8 * n) }
  else if 0x20000 ≤ a ∧ a < 0x22000 then
    .inl { t with core := { t.core with imem := putMem t.core.imem (a - 0x20000) v n } }
  else if 0x24000 ≤ a ∧ a < 0x25000 then
    .inl { t with core := { t.core with dmem := putMem t.core.dmem (a - 0x24000) v n } }
  else if 0x25000 ≤ a ∧ a < 0x25048 then
    .inl { t with core := { t.core with rbuf := putMem t.core.rbuf (a - 0x25000) v n } }
  else if 0x25080 ≤ a ∧ a < 0x250C0 then
    .inl { t with core := { t.core with sbuf := putMem t.core.sbuf (a - 0x25080) v n } }
  else if 0x28000 ≤ a ∧ a < 0x29000 then
    let i := (a - 0x28000) / 4
    let e := t.core.tags.get TagEntry.zero i
    let old := e.handler.toNat + (if e.valid then 2 ^ 31 else 0)
    let k := 8 * (a % 4)
    let new := bits old 0 k + (v % 2 ^ (8 * n)) * 2 ^ k + (old >>> (k + 8 * n)) * 2 ^ (k + 8 * n)
    .inl { t with core := { t.core with
      tags := t.core.tags.set TagEntry.zero i ⟨bitOf new 31, BitVec.ofNat 16 (bits new 0 16)⟩ } }
  else .inl t

/-! ### Compressed instructions -/

/-- A 32-bit I-type word. -/
def encI (op f3 rd rs1 imm : Nat) : Nat := op + rd * 2 ^ 7 + f3 * 2 ^ 12 + rs1 * 2 ^ 15 + (imm % 4096) * 2 ^ 20

/-- A 32-bit R-type word. -/
def encR (op f3 f7 rd rs1 rs2 : Nat) : Nat :=
  op + rd * 2 ^ 7 + f3 * 2 ^ 12 + rs1 * 2 ^ 15 + rs2 * 2 ^ 20 + f7 * 2 ^ 25

/-- A 32-bit S-type word. -/
def encS (op f3 rs1 rs2 imm : Nat) : Nat :=
  op + bits imm 0 5 * 2 ^ 7 + f3 * 2 ^ 12 + rs1 * 2 ^ 15 + rs2 * 2 ^ 20 + bits imm 5 7 * 2 ^ 25

/-- A 32-bit B-type word. -/
def encB (f3 rs1 rs2 : Nat) (imm : Int) : Nat :=
  let n := wrapNat 13 imm
  0x63 + bits n 11 1 * 2 ^ 7 + bits n 1 4 * 2 ^ 8 + f3 * 2 ^ 12 + rs1 * 2 ^ 15 + rs2 * 2 ^ 20 + bits n 5 6 * 2 ^ 25 +
    bits n 12 1 * 2 ^ 31

/-- A 32-bit J-type word. -/
def encJ (rd : Nat) (imm : Int) : Nat :=
  let n := wrapNat 21 imm
  0x6F + rd * 2 ^ 7 + bits n 12 8 * 2 ^ 12 + bits n 11 1 * 2 ^ 20 + bits n 1 10 * 2 ^ 21 + bits n 20 1 * 2 ^ 31

/-- The 6-bit signed immediate of the CI format. -/
def ciImm (h : Nat) : Int := signedOf 6 (bits h 2 5 + bits h 12 1 * 32)

/-- The jump offset of the CJ format. -/
def cjImm (h : Nat) : Int :=
  signedOf 12 (bits h 3 3 * 2 + bits h 11 1 * 16 + bits h 2 1 * 32 + bits h 7 1 * 64 + bits h 6 1 * 128 +
    bits h 9 2 * 256 + bits h 8 1 * 1024 + bits h 12 1 * 2048)

/-- The branch offset of the CB format. -/
def cbImm (h : Nat) : Int :=
  signedOf 9 (bits h 3 2 * 2 + bits h 10 2 * 8 + bits h 2 1 * 32 + bits h 5 2 * 64 + bits h 12 1 * 256)

/-- The stack-pointer adjustment of C.ADDI16SP. -/
def c16spImm (h : Nat) : Int :=
  signedOf 10 (bits h 6 1 * 16 + bits h 2 1 * 32 + bits h 5 1 * 64 + bits h 3 2 * 128 + bits h 12 1 * 512)

/-- The 32-bit instruction that a 16-bit one stands for; none where the encoding is illegal on RV32C without F. -/
def expandC (h : Nat) : Option Nat :=
  let f3 := bits h 13 3
  let rdp := 8 + bits h 2 3
  let rsp := 8 + bits h 7 3
  let rd := bits h 7 5
  let rs2 := bits h 2 5
  let imm := ciImm h
  let lwOff := bits h 6 1 * 4 + bits h 10 3 * 8 + bits h 5 1 * 64
  match bits h 0 2, f3 with
  | 0, 0 =>
    let n := bits h 6 1 * 4 + bits h 5 1 * 8 + bits h 11 2 * 16 + bits h 7 4 * 64
    if n = 0 then none else some (encI 0x13 0 rdp 2 n)
  | 0, 2 => some (encI 0x03 2 rdp rsp lwOff)
  | 0, 6 => some (encS 0x23 2 rsp rdp lwOff)
  | 1, 0 => some (encI 0x13 0 rd rd (wrapNat 12 imm))
  | 1, 1 => some (encJ 1 (cjImm h))
  | 1, 2 => some (encI 0x13 0 rd 0 (wrapNat 12 imm))
  | 1, 3 =>
    if rd = 2 then (if c16spImm h = 0 then none else some (encI 0x13 0 2 2 (wrapNat 12 (c16spImm h))))
    else if imm = 0 then none else some (0x37 + rd * 2 ^ 7 + wrapNat 20 imm * 2 ^ 12)
  | 1, 4 =>
    let sh := bits h 2 5
    match bits h 10 2 with
    | 0 => if bitOf h 12 then none else some (encI 0x13 5 rsp rsp sh)
    | 1 => if bitOf h 12 then none else some (encI 0x13 5 rsp rsp (sh + 0x400))
    | 2 => some (encI 0x13 7 rsp rsp (wrapNat 12 imm))
    | _ =>
      if bitOf h 12 then none
      else match bits h 5 2 with
        | 0 => some (encR 0x33 0 0x20 rsp rsp rdp)
        | 1 => some (encR 0x33 4 0 rsp rsp rdp)
        | 2 => some (encR 0x33 6 0 rsp rsp rdp)
        | _ => some (encR 0x33 7 0 rsp rsp rdp)
  | 1, 5 => some (encJ 0 (cjImm h))
  | 1, 6 => some (encB 0 rsp 0 (cbImm h))
  | 1, 7 => some (encB 1 rsp 0 (cbImm h))
  | 2, 0 => if bitOf h 12 then none else some (encI 0x13 1 rd rd (bits h 2 5))
  | 2, 2 =>
    if rd = 0 then none
    else some (encI 0x03 2 rd 2 (bits h 4 3 * 4 + bits h 12 1 * 32 + bits h 2 2 * 64))
  | 2, 4 =>
    if bitOf h 12 then
      (if rs2 = 0 then (if rd = 0 then some 0x00100073 else some (encI 0x67 0 1 rd 0))
        else some (encR 0x33 0 0 rd rd rs2))
    else if rs2 = 0 then (if rd = 0 then none else some (encI 0x67 0 0 rd 0))
    else some (encR 0x33 0 0 rd 0 rs2)
  | 2, 6 => some (encS 0x23 2 2 rs2 (bits h 9 4 * 4 + bits h 7 2 * 64))
  | _, _ => none

/-! ### Fetch -/

/-- An instruction fetched: its 32-bit form and its length in bytes. -/
structure Fetched where
  word : Nat
  len : Nat
  deriving DecidableEq, Repr

/-- The instruction at the core's pc, or the cause of the exception its fetch raises. -/
def CCore.fetch (c : CCore) : Fetched ⊕ Nat :=
  let a := c.pc.toNat
  if a < 0x20000 ∨ 0x22000 ≤ a then .inr Cause.fetchAccess
  else
    let h := getMem c.imem (a - 0x20000) 2
    if h % 4 = 3 then
      if 0x22000 ≤ a + 2 then .inr Cause.fetchAccess
      else .inl ⟨h + 65536 * getMem c.imem (a - 0x20000 + 2) 2, 4⟩
    else
      match expandC h with
      | some w => .inl ⟨w, 2⟩
      | none => .inr Cause.illegal

/-! ### Integer arithmetic -/

/-- The ALU operations of OP and OP-IMM. -/
def aluOp (f3 : Nat) (alt : Bool) (a b : Lane) : Lane :=
  let sh := b.toNat % 32
  match f3 with
  | 0 => if alt then a - b else a + b
  | 1 => a <<< sh
  | 2 => if a.toInt < b.toInt then 1 else 0
  | 3 => if a.toNat < b.toNat then 1 else 0
  | 4 => a ^^^ b
  | 5 => if alt then a.sshiftRight sh else a >>> sh
  | 6 => a ||| b
  | _ => a &&& b

/-- The M operations; division by zero and the signed overflow as the RISC-V specification fixes them. -/
def mulOp (f3 : Nat) (a b : Lane) : Lane :=
  match f3 with
  | 0 => a * b
  | 1 => BitVec.ofInt 32 ((a.toInt * b.toInt) / 2 ^ 32)
  | 2 => BitVec.ofInt 32 ((a.toInt * (b.toNat : Int)) / 2 ^ 32)
  | 3 => BitVec.ofNat 32 (a.toNat * b.toNat / 2 ^ 32)
  | 4 => if b = 0 then BitVec.allOnes 32 else BitVec.ofInt 32 (a.toInt.tdiv b.toInt)
  | 5 => if b = 0 then BitVec.allOnes 32 else BitVec.ofNat 32 (a.toNat / b.toNat)
  | 6 => if b = 0 then a else BitVec.ofInt 32 (a.toInt.tmod b.toInt)
  | _ => if b = 0 then a else BitVec.ofNat 32 (a.toNat % b.toNat)

/-- The condition of a branch; none for a reserved funct3. -/
def branchTaken (f3 : Nat) (a b : Lane) : Option Bool :=
  match f3 with
  | 0 => some (a = b)
  | 1 => some (a ≠ b)
  | 4 => some (decide (a.toInt < b.toInt))
  | 5 => some (decide (b.toInt ≤ a.toInt))
  | 6 => some (decide (a.toNat < b.toNat))
  | 7 => some (decide (b.toNat ≤ a.toNat))
  | _ => none

/-- What an ordinary instruction does: a tile with its next pc, an exception, or it is one of the Tsuham extension. -/
inductive Ran where
  | ok (t : Tile) (next : Nat)
  | trap (cause : Nat)
  | extension
  deriving DecidableEq, Repr

/-- A register result and the next pc. -/
def Tile.ranReg (t : Tile) (rd : Nat) (v : Lane) (next : Nat) : Ran := .ok { t with core := t.core.put rd v } next

/-- Whether an extension word has zeros where R53 requires them, and a listed funct7. -/
def tsLegal (w : Nat) : Bool :=
  let rd := bits w 7 5
  let rs1 := bits w 15 5
  let rs2 := bits w 20 5
  let f7 := bits w 25 7
  match bits w 12 3 with
  | 0 => f7 = 0
  | 1 => f7 = 0 && rs1 = 0
  | 2 => f7 = 0 && rd = 0 && rs1 = 0 && rs2 = 0
  | 3 => f7 = 0
  | 4 => decide (f7 ≤ 5) && rs2 = 0
  | 5 => decide (f7 ≤ 2)
  | 6 => f7 = 0 && rs2 = 0
  | _ => f7 = 0 && rd = 0

/-- The effect of a fetched instruction of `len` bytes. -/
def Tile.run32 (t : Tile) (p : TPos) (w len : Nat) : Ran :=
  let c := t.core
  let pc := c.pc.toNat
  let rd := bits w 7 5
  let f3 := bits w 12 3
  let f7 := bits w 25 7
  let a := c.get (bits w 15 5)
  let b := c.get (bits w 20 5)
  let immI : Int := signedOf 12 (bits w 20 12)
  let immS : Int := signedOf 12 (bits w 7 5 + bits w 25 7 * 32)
  let immB : Int := signedOf 13 (bits w 8 4 * 2 + bits w 25 6 * 32 + bits w 7 1 * 2048 + bits w 31 1 * 4096)
  let immJ : Int := signedOf 21 (bits w 21 10 * 2 + bits w 20 1 * 2048 + bits w 12 8 * 4096 + bits w 31 1 * 2 ^ 20)
  let next := wrapNat 32 ((pc : Int) + len)
  let at_ := fun (i : Int) => wrapNat 32 ((a.toNat : Int) + i)
  match bits w 0 7 with
  | 0x37 => t.ranReg rd (BitVec.ofNat 32 (bits w 12 20 * 4096)) next
  | 0x17 => t.ranReg rd (BitVec.ofNat 32 (pc + bits w 12 20 * 4096)) next
  | 0x6F => t.ranReg rd (BitVec.ofNat 32 next) (wrapNat 32 ((pc : Int) + immJ))
  | 0x67 => if f3 = 0 then t.ranReg rd (BitVec.ofNat 32 next) (at_ immI / 2 * 2) else .trap Cause.illegal
  | 0x63 =>
    match branchTaken f3 a b with
    | some true => .ok t (wrapNat 32 ((pc : Int) + immB))
    | some false => .ok t next
    | none => .trap Cause.illegal
  | 0x03 =>
    let ld := fun (n : Nat) (signed : Bool) =>
      match t.coreLoad p (at_ immI) n with
      | .inl v => t.ranReg rd (if signed then BitVec.ofInt 32 (signedOf (8 * n) v) else BitVec.ofNat 32 v) next
      | .inr e => .trap e
    match f3 with
    | 0 => ld 1 true
    | 1 => ld 2 true
    | 2 => ld 4 false
    | 4 => ld 1 false
    | 5 => ld 2 false
    | _ => .trap Cause.illegal
  | 0x23 =>
    if 3 ≤ f3 then .trap Cause.illegal
    else
      match t.coreStore (at_ immS) (2 ^ f3) (b.toNat % 2 ^ (8 * 2 ^ f3)) with
      | .inl t' => .ok t' next
      | .inr e => .trap e
  | 0x13 =>
    let shift := f3 = 1 || f3 = 5
    if shift && !(f7 = 0 || (f3 = 5 && f7 = 0x20)) then .trap Cause.illegal
    else t.ranReg rd (aluOp f3 (f3 = 5 && f7 = 0x20) a (if shift then BitVec.ofNat 32 (bits w 20 5)
      else BitVec.ofInt 32 immI)) next
  | 0x33 =>
    if f7 = 1 then t.ranReg rd (mulOp f3 a b) next
    else if f7 = 0 || (f7 = 0x20 && (f3 = 0 || f3 = 5)) then t.ranReg rd (aluOp f3 (f7 = 0x20) a b) next
    else .trap Cause.illegal
  | 0x0F => if f3 = 0 then .ok t next else .trap Cause.illegal
  | 0x73 => if w = 0x00000073 then .trap Cause.ecall else if w = 0x00100073 then .trap Cause.breakpoint
    else .trap Cause.illegal
  | 0x0B => if tsLegal w then .extension else .trap Cause.illegal
  | _ => .trap Cause.illegal

/-- What the instruction at the pc does. -/
def Tile.coreRun (t : Tile) (p : TPos) : Ran :=
  match t.core.fetch with
  | .inr e => .trap e
  | .inl f => t.run32 p f.word f.len

/-- An instruction retires: CC_STATE.PC takes its offset and the pc moves on. -/
def Tile.retire (t : Tile) (next : Nat) : Tile :=
  { t with core := { t.core with
    retired := BitVec.ofNat 13 (t.core.pc.toNat - 0x20000)
    pc := BitVec.ofNat 32 next } }

/-! ### Answers to requests that the core no longer serves (R221) -/

/-- The reply to a request with a status and no payload (R206, R207): REPLY, ACK or BUSY by its class. -/
def Packet.answer (p : Packet) (cls status : Nat) (words : List Tok) : Packet :=
  { reply := true
    inc := p.inc
    slot := p.slot
    status := BitVec.ofNat 4 status
    cls := BitVec.ofNat 2 cls
    tag := p.tag
    src := p.dst
    dst := p.src
    words := words }

/-- Whether requests with a tag expect a reply (MSG_FLOW_RPL). -/
def Tile.rpl (t : Tile) (tag : Nat) : Bool := bitOf (t.reg F.MSG_FLOW_RPL_MASK (tag / 64)) (tag % 64)

/-- The answers of a status that the interface sends for the requests queued and in hand when the core stops serving
(R221): TRAPPED for a trap or lock-up. -/
def TW.answerAll (w : TW) (status : Nat) : TW :=
  let t := w.t
  let queued := t.msg.landed.filterMap (fun l => match l with
    | .request p => if t.rpl p.tag.toNat then some (p.answer 0 status []) else none
    | .reply _ => none)
  let hand := match t.core.inHand with
    | some p => if t.rpl p.tag.toNat && !t.core.replied then [p.answer 0 status []] else []
    | none => []
  let keep := t.msg.landed.filter (fun l => match l with
    | .request _ => false
    | .reply _ => true)
  { w with
    t := { t with msg := { t.msg with landed := keep }, core := { t.core with inHand := none, replied := false } }
    pkts := w.pkts ++ hand ++ queued }

/-- A synchronous exception: the core stops in TRAP, MCAUSE takes the cause, SCH_CORE_TRAP is recorded, and requests are
answered TRAPPED (R55, R221). -/
def TW.coreTrap (w : TW) (cause : Nat) : TW :=
  ((w.upd (fun t => { t with core := { t.core with state := .trap, mcause := BitVec.ofNat 4 cause } })).note
    Code.coreTrap).answerAll 4

/-- Whether the core executes: in a handler or the start-up run, and not blocked in TS.SEND. -/
def Tile.coreActive (t : Tile) : Bool :=
  (t.core.state = .handler || t.core.state = .startup) && t.msg.send = .idle

/-- One ordinary instruction (R47, R55). An instruction of the extension is no ordinary one: nothing happens. -/
def TW.coreInstr (w : TW) (p : TPos) : TW :=
  if !w.t.coreActive then w
  else
    match w.t.coreRun p with
    | .ok t next => { w with t := t.retire next }
    | .trap e => w.coreTrap e
    | .extension => w

/-! ### The extension inside the tile (R53, R54, R62, R67) -/

/-- The extension instruction at the pc with this funct3: its word, where the core executes. -/
def Tile.tsAt (t : Tile) (f3 : Nat) : Option Nat :=
  if !t.coreActive then none
  else
    match t.core.fetch with
    | .inl f => if bits f.word 0 7 = 0x0B ∧ bits f.word 12 3 = f3 ∧ tsLegal f.word = true then some f.word else none
    | .inr _ => none

/-- The operands of an extension word: rd, and the values of rs1 and rs2. -/
def Tile.tsArgs (t : Tile) (w : Nat) : Nat × Nat × Nat :=
  (bits w 7 5, (t.core.get (bits w 15 5)).toNat, (t.core.get (bits w 20 5)).toNat)

/-- An extension instruction retires with a result. -/
def Tile.tsDone (t : Tile) (rd v : Nat) : Tile :=
  ({ t with core := t.core.put rd (BitVec.ofNat 32 v) }).retire (wrapNat 32 ((t.core.pc.toNat : Int) + 4))

/-- TS.CPPOST (R53): posts to the mailbox; 1 where an unconsumed post was overwritten. -/
def Tile.tsCppost (t : Tile) : Tile :=
  match t.tsAt 3 with
  | none => t
  | some w =>
    let a := t.tsArgs w
    let old := b2n t.core.mboxReady
    ({ t with core := { t.core with
      mboxReady := true
      mboxId := BitVec.ofNat 8 a.2.1
      mboxValue := BitVec.ofNat 32 a.2.2 } }).tsDone a.1 old

/-- TS.HGET (R53). -/
def Tile.tsHget (t : Tile) : Tile :=
  match t.tsAt 4 with
  | none => t
  | some w =>
    let a := t.tsArgs w
    let n := a.2.1 % 64
    let h := t.handle n
    let s := t.shadow n
    let v := match bits w 25 7 with
      | 0 => h.base.toNat
      | 1 => h.length.toNat
      | 2 => h.stride.toNat
      | 3 => bits h.word0.toNat 48 16
      | 4 => h.wmark.toNat
      | _ => b2n (s.pBase || s.pLength || s.pStride)
    t.tsDone a.1 v

/-- TS.HSET (R53, R62, R67): the shadow field is written and marked pending; 1 where the value is out of range. -/
def Tile.tsHset (t : Tile) (p : TPos) : Tile :=
  match t.tsAt 5 with
  | none => t
  | some w =>
    let a := t.tsArgs w
    let n := a.2.1 % 64
    let v := a.2.2
    let s := t.shadow n
    let nb := t.nextBounds n
    let put := fun (s' : Shadow) => ({ t with shadows := t.shadows.set Shadow.zero n s' }).tsDone a.1 0
    match bits w 25 7 with
    | 0 => if v < 2 ^ 23 ∧ t.boundOk p n v nb.2 = true then put { s with base := BitVec.ofNat 23 v, pBase := true }
      else t.tsDone a.1 1
    | 1 => if v < 2 ^ 23 ∧ t.boundOk p n nb.1 v = true then
        put { s with length := BitVec.ofNat 23 v, pLength := true } else t.tsDone a.1 1
    | _ => if v < 2 ^ 16 then put { s with stride := BitVec.ofNat 16 v, pStride := true } else t.tsDone a.1 1

/-- The word a handle access of the core meets: scratch or stack, by the handle's SPACE. -/
def Tile.spaceWord (t : Tile) (stackSpace : Bool) (i : Nat) : CWord := if stackSpace then t.stkWord i else t.scrWord i

/-- The core's handle access: the handle, the byte address and the code of the first check that fails (R54, R63); a
misaligned offset fails without a code of its own. -/
def Tile.coreHandle (t : Tile) (rs1 : Nat) (write : Bool) : Nat × Nat × Option Nat :=
  let n := bits rs1 24 6
  let off := bits rs1 0 23
  let h := t.handle n
  let addr := h.base.toNat + off
  let sp := wordSpan addr 4
  let tags := if h.stackSpace then t.stkTags sp.1 sp.2 else t.scrTags sp.1 sp.2
  let c :=
    if off % 4 ≠ 0 then some Code.handleViolation
    else
      match h.check addr 4 write true tags with
      | some c => some c
      | none => if write && tags.any (fun g => g ≠ h.ten && g ≠ 0) then some Code.tenantMismatch else none
  (n, addr, c)

/-- A read of `k` words by the control core: the outcomes are noted and make no section invalid (R54, R71, R193). The Bool
says that one of the words is uncorrectable. -/
def TW.readCore (w : TW) (stackSpace : Bool) (i k : Nat) : TW × List CWord × Bool :=
  let r := (List.range k).foldl (fun (w : TW) j => if stackSpace then w.noteStk (i + j) else w.noteScr (i + j)) w
  let ws := (List.range k).map (fun j => w.t.spaceWord stackSpace (i + j))
  ({ r with inval := w.inval }, ws.map CWord.read, ws.any (fun c => c.ecc = .multi))

/-- TS.HLD (R53, R54). The four bytes may lie in two words where BASE is not aligned. Read through a stack handle they count
in TILE_CNT_3 (R86). -/
def TW.tsHld (w : TW) : TW :=
  match w.t.tsAt 6 with
  | none => w
  | some i =>
    let a := w.t.tsArgs i
    let h := w.t.coreHandle a.2.1 false
    let stk := (w.t.handle h.1).stackSpace
    match h.2.2 with
    | some c => (w.note c).coreTrap Cause.loadAccess
    | none =>
      let sp := wordSpan h.2.1 4
      let r := w.readCore stk sp.1 sp.2
      if r.2.2 then r.1.coreTrap Cause.loadAccess
      else
        let v := leBytes r.2.1 (8 * sp.1) h.2.1 4
        r.1.upd (fun t => (if stk then t.count 3 4 else t).tsDone a.1 v)

/-- Words written to one of the two memories from a word index, with one tag. -/
def Tile.putWords (t : Tile) (stackSpace : Bool) (i : Nat) (tag : BitVec 4) (ds : List Word) : Tile :=
  if stackSpace then t.landStk i (ds.map (fun d => ⟨d, tag, 0⟩)) else t.writeScr i tag ds

/-- TS.HST (R53, R54): a read-modify-write of each containing word, which takes the handle's TEN. Written through a stack
handle the four bytes count in TILE_CNT_4 (R86). -/
def TW.tsHst (w : TW) : TW :=
  match w.t.tsAt 7 with
  | none => w
  | some i =>
    let a := w.t.tsArgs i
    let h := w.t.coreHandle a.2.1 true
    let hd := w.t.handle h.1
    match h.2.2 with
    | some c => (w.note c).coreTrap Cause.storeAccess
    | none =>
      let sp := wordSpan h.2.1 4
      let r := w.readCore hd.stackSpace sp.1 sp.2
      if r.2.2 then r.1.coreTrap Cause.storeAccess
      else
        let ds := putBytes (r.2.1.map (·.data)) (8 * sp.1) h.2.1 a.2.2 4
        r.1.upd (fun t =>
          (((if hd.stackSpace then t.count 4 4 else t).putWords hd.stackSpace sp.1 hd.ten ds).advance h.1 4).tsDone 0 0)

end Sys2Proof.Machine
end

