-- ==== Sys2Proof/Machine/Message.lean ====
section
/-!
DEFINITION. Sys2Proof/Machine/Message.lean: a tile's message interface and system agent (spec 07_message_fabric R205 to R221;
02_tile R52, R53, R536).
-/

namespace Sys2Proof.Machine

/-- A coordinate pair (R6). -/
def pairOf2 (x y : Nat) : Nat := x + 1024 * y
/-- The x of a pair. -/
def pairX (a : Nat) : Nat := a % 1024
/-- The y of a pair. -/
def pairY (a : Nat) : Nat := a / 1024 % 1024

/-- Base Camp's message address (R205). -/
def bcPair : Nat := 0xFFFFF

/-- Whether a pair names a logical tile. -/
def isLogical (rows a : Nat) : Bool := decide (a < 2 ^ 20) && decide (pairY a < rows)

/-- The header flit (R206). -/
def Packet.header (p : Packet) : Word :=
  word64 [(63, b2n p.inc), (60, p.slot.toNat), (56, p.status.toNat), (52, p.words.length), (50, p.cls.toNat),
    (40, p.tag.toNat), (20, p.src.toNat), (0, p.dst.toNat)]

/-- Slot `i` of the interface. -/
def MsgIf.slot (m : MsgIf) (i : Nat) : Slot := m.slots.get Slot.free i

/-- Slot `i` written. -/
def MsgIf.setSlot (m : MsgIf) (i : Nat) (s : Slot) : MsgIf := { m with slots := m.slots.set Slot.free i s }

/-- The first slot that is neither reserved nor abandoned (R208). -/
def MsgIf.freeSlot (m : MsgIf) : Option Nat :=
  (List.range 8).find? (fun i => !(m.slot i).reserved && !(m.slot i).abandoned)

/-- Changes the message interface. -/
def Tile.msgUpd (t : Tile) (f : MsgIf → MsgIf) : Tile := { t with msg := f t.msg }

/-- Bit `tag` of one of the three flow masks. -/
def Tile.flowBit (t : Tile) (f : Fld) (tag : Nat) : Bool := bitOf (t.reg f (tag / 64)) (tag % 64)

/-! ### Sending (R208, R215) -/

/-- `n` words of the send buffer as flits. -/
def CCore.sendWords (c : CCore) (n : Nat) : List Tok := (List.range n).map (fun k => ⟨bytes64 c.sbuf (8 * k), 0⟩)

/-- The TS.SEND at the pc, where the core may issue it or waits for a slot with it. -/
def Tile.sendWord (t : Tile) : Option Nat :=
  if t.msg.send = .awaitSlot then ({ t with msg := { t.msg with send := .idle } }).tsAt 0 else t.tsAt 0

/-- TS.SEND's tests of its operands (R208). -/
def Tile.sendOk (t : Tile) (rows a b : Nat) : Bool :=
  let tag := bits b 0 10
  bits b 14 2 = 0 && decide (bits b 10 4 ≤ 8) && decide (tag ≠ 0x3FF) && decide (b / 2 ^ 16 = 0) &&
    t.flowBit F.MSG_FLOW_OUT_MASK tag && isLogical rows a

/-- TS.SEND: its operands are tested once, before the wait for a slot. A spare tile originates no request: its TS.SEND
is refused as well (R205; assumption 27). It is refused by its tests with rd = 1, or waiting for a slot, or its
request goes out and the core blocks until the answer (R208). -/
def TW.tsSend (w : TW) (p : TPos) : TW :=
  match w.t.sendWord with
  | none => w
  | some i =>
    let t := w.t
    let a := t.tsArgs i
    let tag := bits a.2.2 0 10
    if t.msg.send ≠ .awaitSlot && (p.spare || !t.sendOk p.rows a.2.1 a.2.2) then
      (w.note Code.msgFlowRefused).upd (·.tsDone a.1 1)
    else
      let m : MsgIf := { t.msg with
        tag := BitVec.ofNat 10 tag
        dest := BitVec.ofNat 20 a.2.1
        txRd := a.1
        txStart := if t.msg.send = .awaitSlot then t.msg.txStart else w.now }
      match m.freeSlot with
      | none => { w with t := { t with msg := ({ m with send := .awaitSlot } : MsgIf) } }
      | some s =>
        let pk : Packet := {
          reply := false
          inc := m.inc
          slot := BitVec.ofNat 3 s
          status := 0
          cls := 0
          tag := BitVec.ofNat 10 tag
          src := BitVec.ofNat 20 (pairOf2 p.lx p.ly)
          dst := BitVec.ofNat 20 a.2.1
          words := t.core.sendWords (bits a.2.2 10 4) }
        let m : MsgIf := { m.setSlot s { Slot.free with reserved := true, tag := m.tag, dest := m.dest } with
          send := .awaitAnswer, txPkt := some pk }
        ({ w with t := ({ t with msg := m }).count 5 1 }).emit pk

/-- The blocked TS.SEND returns with a result. -/
def Tile.sendReturn (t : Tile) (v : Nat) : Tile :=
  ({ t with msg := { t.msg with send := .idle, txPkt := none } }).tsDone t.msg.txRd v

/-- Whether an answer matches a reserved slot and the incarnation (R211). -/
def Tile.answerMatches (t : Tile) (p : Packet) : Bool :=
  (t.msg.slot p.slot.toNat).reserved && p.inc = t.msg.inc

/-- Whether the transmitter waits for this answer. -/
def Tile.awaits (t : Tile) (p : Packet) : Bool :=
  t.msg.send = .awaitAnswer && (match t.msg.txPkt with
    | some q => q.slot = p.slot
    | none => false)

/-- A late answer is discarded and counted (R211). -/
def TW.lateAnswer (w : TW) : TW := w.upd (·.countSat F.MSG_CNT_LATE)

/-- An ACK reaches the sender (R208, R213): its slot awaits the reply or is released, and the TS.SEND that waits for it returns. -/
def TW.takeAck (w : TW) (p : Packet) : TW :=
  if w.t.answerMatches p then
    w.upd (fun t =>
      let s := p.slot.toNat
      let sl := t.msg.slot s
      let sl' := if t.rpl p.tag.toNat then { sl with ackAt := some w.now } else { sl with reserved := false }
      let t' := t.msgUpd (·.setSlot s sl')
      if t.awaits p then t'.sendReturn 0 else t')
  else w.lateAnswer

/-- A BUSY reaches the sender, which backs off (R208). The slot of a request that its core has let go of is released
(assumption 27). -/
def TW.takeBusy (w : TW) (p : Packet) : TW :=
  if w.t.answerMatches p then
    w.upd (fun t =>
      let s := p.slot.toNat
      (if t.awaits p then t.msgUpd (fun m => { m with send := .backoff, backoffAt := w.now })
        else t.msgUpd (·.setSlot s { t.msg.slot s with reserved := false })).countSat F.MSG_CNT_BUSY_RX)
  else w.lateAnswer

/-- The back-off ends and the request is sent again (R208). -/
def TW.resend (w : TW) : TW :=
  match w.t.msg.send, w.t.msg.txPkt with
  | .backoff, some p => (w.upd (·.msgUpd (fun m => { m with send := .awaitAnswer }))).emit p
  | _, _ => w

/-- The landing order with a reply that lands at acycle `now`: it is taken before a request that landed in the same acycle
(R214). `live` says that the array acycle counts: while no section runs it stands still, and no two landings count as of one
acycle (assumption 27). -/
def MsgIf.landReply (m : MsgIf) (live : Bool) (now s : Nat) : List Landed :=
  match m.landed.getLast? with
  | some (.request p) => if live && m.reqAt = now + 1 then m.landed.dropLast ++ [.reply s, .request p] else m.landed ++ [.reply s]
  | _ => m.landed ++ [.reply s]

/-- A reply lands in the slot it names, or is discarded as late (R211, R213); an error reply that stands for the answer
ends TS.SEND with rd = 0 (R208). -/
def TW.takeReply (w : TW) (live : Bool) (p : Packet) : TW :=
  let s := p.slot.toNat
  if w.t.answerMatches p && (w.t.msg.slot s).held.isNone then
    w.upd (fun t =>
      let t' := t.msgUpd (fun m =>
        { m.setSlot s { m.slot s with held := some p } with landed := m.landReply live w.now s })
      let t' := if p.status ≠ 0 then t'.countSat F.MSG_CNT_ERR_RX else t'
      if t.awaits p then t'.sendReturn 0 else t')
  else w.lateAnswer

/-- SEND_TIMEOUT expires: the slot is abandoned, MSG_SEND_TIMEOUT is recorded and rd is 2 (R208). -/
def TW.sendTimeout (w : TW) : TW :=
  if w.t.msg.send = .idle || w.t.reg F.MSG_CFG_SEND_TIMEOUT = 0 then w
  else
    let t := w.t
    let t := match t.msg.txPkt, t.msg.send with
      | _, .awaitSlot => t
      | some p, _ => t.msgUpd (fun m => m.setSlot p.slot.toNat
          { m.slot p.slot.toNat with reserved := false, abandoned := true, ackAt := none, quarantineAt := w.now })
      | none, _ => t
    ({ w with t := t.sendReturn 2 }).note Code.msgSendTimeout

/-- REPLY_TIMEOUT expires after the ACK: the interface delivers a TIMEOUT error reply and the slot is quarantined
(R211). `own` is the tile's pair. -/
def TW.replyTimeout (w : TW) (own : Nat) (live : Bool) (s : Nat) : TW :=
  let sl := w.t.msg.slot s
  if sl.reserved && sl.ackAt.isSome && sl.held.isNone && decide (w.t.reg F.MSG_CFG_REPLY_TIMEOUT ≠ 0) then
    let p : Packet := {
      reply := true
      inc := w.t.msg.inc
      slot := BitVec.ofNat 3 s
      status := 6
      cls := 0
      tag := sl.tag
      src := sl.dest
      dst := BitVec.ofNat 20 own
      words := [] }
    (w.upd (fun t => (t.msgUpd (fun m =>
      { m.setSlot s { sl with held := some p, abandoned := true, quarantineAt := w.now } with
        landed := m.landReply live w.now s })).countSat F.MSG_CNT_ERR_RX)).note Code.msgReplyTimeout
  else w

/-- The quarantine of a slot ends (R211). -/
def TW.quarantineEnd (w : TW) (s : Nat) : TW :=
  w.upd (·.msgUpd (fun m => m.setSlot s { m.slot s with abandoned := false }))

/-- TS.REPLY (R53, R215). `stuck` says that SEND_TIMEOUT passed before the reply could be injected. -/
def TW.tsReply (w : TW) (stuck : Bool) : TW :=
  match w.t.tsAt 1 with
  | none => w
  | some i =>
    let t := w.t
    let a := t.tsArgs i
    let n := bits a.2.2 0 4
    match t.core.inHand with
    | none => w.upd (·.tsDone a.1 3)
    | some q =>
      if t.core.state ≠ .handler || !t.rpl q.tag.toNat || t.core.replied || decide (8 < n) then
        w.upd (·.tsDone a.1 3)
      else if stuck && decide (t.reg F.MSG_CFG_SEND_TIMEOUT ≠ 0) then (w.upd (·.tsDone a.1 2)).note Code.msgSendTimeout
      else
        (w.upd (fun t => ({ t with core := { t.core with replied := true } }.count 5 1).tsDone a.1 0)).emit
          (q.answer 0 0 (t.core.sendWords n))

/-- TS.YIELD: the handler or start-up run ends; a required reply that is missing is sent as NOREPLY (R53, R215, R532). -/
def TW.tsYield (w : TW) : TW :=
  match w.t.tsAt 2 with
  | none => w
  | some _ =>
    let t := w.t
    let w := match t.core.inHand with
      | some q => if t.rpl q.tag.toNat && !t.core.replied then w.emit (q.answer 0 5 []) else w
      | none => w
    w.upd (fun t =>
      let t := t.tsDone 0 0
      { t with core := { t.core with state := .waiting, inHand := none, replied := false } })

/-! ### Receiving and dispatch (R212 to R214) -/

/-- A UNICAST request at its destination (R212); `away` says that the field is held out, dark, in reset or unpowered. -/
def TW.takeRequest (w : TW) (p : Packet) (away : Bool) : TW :=
  let t := w.t
  let refuse := fun (st : Nat) => (w.upd (·.countSat F.MSG_CNT_REFUSED)).emit (p.answer 0 st [])
  if away || t.core.state = .held then refuse 3
  else if t.core.state = .trap || t.core.state = .lockup then refuse 4
  else if !t.flowBit F.MSG_FLOW_IN_MASK p.tag.toNat then refuse 2
  else if !(t.core.tags.get TagEntry.zero p.tag.toNat).valid then refuse 1
  else if 8 ≤ t.msg.requests then w.emit (p.answer 2 0 [])
  else (w.upd (·.msgUpd (fun m => { m with landed := m.landed ++ [.request p], reqAt := w.now + 1 }))).emit (p.answer 1 0 [])

/-- A handler starts: the receive buffer, a0 to a2 and the pc (spec 02_tile, Control core). -/
def Tile.enter (t : Tile) (now tag a1 a2 : Nat) (e : TagEntry) (msg : Option Packet) : Tile :=
  let rb := match msg with
    | none => t.core.rbuf
    | some p => (List.range p.words.length).foldl
        (fun m k => putMem m (8 + 8 * k) (p.words.getD k ⟨0, 0⟩).data.toNat 8) (putMem t.core.rbuf 0 p.header.toNat 8)
  let c := ((t.core.put 10 (BitVec.ofNat 32 tag)).put 11 (BitVec.ofNat 32 a1)).put 12 (BitVec.ofNat 32 a2)
  { t with core := { c with
    rbuf := rb
    state := .handler
    tag := BitVec.ofNat 10 tag
    pc := BitVec.ofNat 32 (0x20000 + e.handler.toNat)
    runStart := now
    inHand := none
    replied := false } }

/-- a2 of a dispatched packet (R214). -/
def Packet.a2 (p : Packet) : Nat :=
  p.words.length + (if p.reply then 2 ^ 8 + p.status.toNat * 2 ^ 12 + p.slot.toNat * 2 ^ 16 else 0)

/-- The idle core takes the next control-point event, reply or request (R145, R214, R536). -/
def TW.dispatch (w : TW) : TW :=
  if w.t.core.state ≠ .waiting then w
  else
    let t := w.t
    let entry := fun (tag : Nat) => t.core.tags.get TagEntry.zero tag
    match t.seq.evq with
    | ev :: rest =>
      let t := { t with seq := { t.seq with evq := rest } }
      if (entry 0x3FF).valid then { w with t := t.enter w.now 0x3FF ev.toNat 0 (entry 0x3FF) none } else { w with t := t }
    | [] =>
      match t.msg.landed with
      | [] => w
      | .request p :: rest =>
        let t := { t with msg := { t.msg with landed := rest } }
        let e := entry p.tag.toNat
        if e.valid then
          let t := (t.enter w.now p.tag.toNat p.src.toNat p.a2 e (some p)).count 6 1
          { w with t := { t with core := { t.core with inHand := some p } } }
        else if t.rpl p.tag.toNat then ({ w with t := t }).emit (p.answer 0 1 []) else { w with t := t }
      | .reply s :: rest =>
        let sl := t.msg.slot s
        let t := { t with msg := { t.msg.setSlot s { sl with reserved := false, ackAt := none, held := none } with
          landed := rest } }
        match sl.held with
        | none => { w with t := t }
        | some p =>
          let e := entry p.tag.toNat
          if e.valid then { w with t := (t.enter w.now p.tag.toNat p.src.toNat p.a2 e (some p)).count 6 1 }
          else { w with t := t }

/-- A handler or start-up run has passed CC_WDOG.LIMIT: the core stops in LOCKUP and its requests are answered TRAPPED
(R56, R221). -/
def TW.lockup (w : TW) : TW :=
  let t := w.t
  if (t.core.state = .handler || t.core.state = .startup) && decide (t.reg F.CC_WDOG_LIMIT ≠ 0) then
    ((w.upd (fun t => { t with core := { t.core with state := .lockup }, msg := { t.msg with send := .idle } })).note
      Code.coreLockup).answerAll 4
  else w

/-! ### The system agent (R219, R220) -/

/-- A system operation is served or refused: MSG_SYS. -/
def Tile.sysNote (t : Tile) (op status : Nat) : Tile :=
  let t := (t.setReg F.MSG_SYS_LAST_OP (op % 16)).setReg F.MSG_SYS_LAST_STATUS status
  if status = 0 then t.countSat F.MSG_SYS_OPS else t.setReg F.MSG_SYS_ERR 1

/-- SYSTEM READ: the words read, or refused. Scratch words note their code-word outcome (R71, R219). -/
def TW.sysRead (w : TW) (p : TPos) (arg : Nat) : TW × Option (List Tok) :=
  let a := bits arg 0 20
  let n := bits arg 20 4
  if a % 8 ≠ 0 || n = 0 || decide (8 < n) || (List.range n).any (fun k => !inTileMap (a + 8 * k)) then (w, none)
  else
    let ws := (List.range n).map (fun k => w.t.readAddr p (a + 8 * k))
    let r := (List.range n).foldl (fun (w : TW) (k : Nat) =>
      if a + 8 * k < 0x10000 then w.noteScr (a / 8 + k) else w) w
    ({ r with inval := w.inval }, some ws)

/-- Writes words at consecutive tile addresses; none at the first that is refused, with no word written. -/
def Tile.sysWriteAll (t : Tile) (p : TPos) (a : Nat) : List Tok → Option Tile
  | [] => some t
  | d :: r =>
    if !inTileMap a then none
    else match t.writeAddr p a d with
      | none => none
      | some t' => t'.sysWriteAll p (a + 8) r

/-- SYSTEM WRITE at an 8-byte aligned address, up to seven words (R219). -/
def Tile.sysWrite (t : Tile) (p : TPos) (a : Nat) (ds : List Tok) : Option Tile :=
  if a % 8 ≠ 0 || ds.isEmpty || decide (7 < ds.length) then none else t.sysWriteAll p a ds

/-- A SYSTEM packet at its tile: READ, WRITE or TEST by its tag, answered with a REPLY (R219). `away` says that the agent
is unavailable. -/
def TW.system (w : TW) (p : TPos) (q : Packet) (away : Bool) : TW :=
  let arg := (q.words.headD ⟨0, 0⟩).data.toNat
  let op := q.tag.toNat
  let refuse := fun (st : Nat) => (w.upd (·.sysNote op st)).emit (q.answer 0 st [])
  if away then refuse 3
  else
    match op with
    | 0 =>
      match w.sysRead p arg with
      | (_, none) => refuse 2
      | (w', some ws) => (w'.upd (·.sysNote 0 0)).emit (q.answer 0 0 ws)
    | 1 =>
      match w.t.sysWrite p (bits arg 0 20) q.words.tail with
      | none => refuse 2
      | some t => ({ w with t := t.sysNote 1 0 }).emit (q.answer 0 0 [])
    | 2 => (w.upd (fun t => ({ t with test := some (arg % 2 ^ 16) }).sysNote 2 0)).emit (q.answer 0 0 [])
    | _ => refuse 2

/-- A copy of a RECT broadcast at a tile: WRITE or TEST, no reply; a tile that refuses sets MSG_SYS.ERR (R220). -/
def Tile.rect (t : Tile) (p : TPos) (op addr : Nat) (ds : List Tok) (away : Bool) : Tile :=
  if away then t.setReg F.MSG_SYS_ERR 1
  else if op = 1 then
    match t.sysWrite p addr ds with
    | none => t.sysNote 1 2
    | some t' => t'.sysNote 1 0
  else if op = 2 then ({ t with test := some (bits (ds.headD ⟨0, 0⟩).data.toNat 0 16) }).sysNote 2 0
  else t.sysNote op 2

end Sys2Proof.Machine
end

