-- ==== Sys2Proof/Machine/Bar0Regs.lean ====
section
/-!
DEFINITION. Sys2Proof/Machine/Bar0Regs.lean: the BAR0 registers, field by field, from the register tables of the spec. A reset value
that the spec takes from elsewhere (fuses, profile, logbook, crevasse map) is 0 here and is a view.
-/

namespace Sys2Proof.Machine

/-- FLD_SEAM_E.SLIP, bits 63:48 (R155). -/
def F.FLD_SEAM_E_SLIP : Fld := ⟨0x100100, 0x4000, 0x0, 48, 16, .ro, 0, 1⟩
/-- FLD_SEAM_E.REPAIRED, bits 47:32 (R155). -/
def F.FLD_SEAM_E_REPAIRED : Fld := ⟨0x100100, 0x4000, 0x0, 32, 16, .ro, 0, 1⟩
/-- FLD_SEAM_E.DEFECT, bits 31:16 (R155). -/
def F.FLD_SEAM_E_DEFECT : Fld := ⟨0x100100, 0x4000, 0x0, 16, 16, .ro, 0, 1⟩
/-- FLD_SEAM_E.ALIGNED, bits 0 (R155). -/
def F.FLD_SEAM_E_ALIGNED : Fld := ⟨0x100100, 0x4000, 0x0, 0, 1, .ro, 0, 1⟩
/-- The register FLD_SEAM_E (R155). -/
def R.FLD_SEAM_E : RegDef := ⟨0x100100, 0x4000, 48, 0x0, 1, 1,
  [F.FLD_SEAM_E_SLIP, F.FLD_SEAM_E_REPAIRED, F.FLD_SEAM_E_DEFECT, F.FLD_SEAM_E_ALIGNED]⟩

/-- FLD_SEAM_N.SLIP, bits 63:48 (R155). -/
def F.FLD_SEAM_N_SLIP : Fld := ⟨0x100108, 0x4000, 0x0, 48, 16, .ro, 0, 1⟩
/-- FLD_SEAM_N.REPAIRED, bits 47:32 (R155). -/
def F.FLD_SEAM_N_REPAIRED : Fld := ⟨0x100108, 0x4000, 0x0, 32, 16, .ro, 0, 1⟩
/-- FLD_SEAM_N.DEFECT, bits 31:16 (R155). -/
def F.FLD_SEAM_N_DEFECT : Fld := ⟨0x100108, 0x4000, 0x0, 16, 16, .ro, 0, 1⟩
/-- FLD_SEAM_N.ALIGNED, bits 0 (R155). -/
def F.FLD_SEAM_N_ALIGNED : Fld := ⟨0x100108, 0x4000, 0x0, 0, 1, .ro, 0, 1⟩
/-- The register FLD_SEAM_N (R155). -/
def R.FLD_SEAM_N : RegDef := ⟨0x100108, 0x4000, 48, 0x0, 1, 1,
  [F.FLD_SEAM_N_SLIP, F.FLD_SEAM_N_REPAIRED, F.FLD_SEAM_N_DEFECT, F.FLD_SEAM_N_ALIGNED]⟩

/-- BC_IMG_STATUS.REASON, bits 63:56 (R175). -/
def F.BC_IMG_STATUS_REASON : Fld := ⟨0x200, 0x0, 0x0, 56, 8, .ro, 0, 4⟩
/-- BC_IMG_STATUS.DFLOOR, bits 45:40 (R175). -/
def F.BC_IMG_STATUS_DFLOOR : Fld := ⟨0x200, 0x0, 0x0, 40, 6, .ro, 0, 4⟩
/-- BC_IMG_STATUS.STATE, bits 39:36 (R175). -/
def F.BC_IMG_STATUS_STATE : Fld := ⟨0x200, 0x0, 0x0, 36, 4, .ro, 0, 4⟩
/-- BC_IMG_STATUS.BUILD, bits 31:0 (R175). -/
def F.BC_IMG_STATUS_BUILD : Fld := ⟨0x200, 0x0, 0x0, 0, 32, .ro, 0, 4⟩
/-- The register BC_IMG_STATUS (R175). -/
def R.BC_IMG_STATUS : RegDef := ⟨0x200, 0x0, 1, 0x0, 1, 4,
  [F.BC_IMG_STATUS_REASON, F.BC_IMG_STATUS_DFLOOR, F.BC_IMG_STATUS_STATE, F.BC_IMG_STATUS_BUILD]⟩

/-- BC_IMG_ID_LO.ID, bits 63:0 (R181). -/
def F.BC_IMG_ID_LO_ID : Fld := ⟨0x208, 0x0, 0x0, 0, 64, .ro, 0, 4⟩
/-- The register BC_IMG_ID_LO (R181). -/
def R.BC_IMG_ID_LO : RegDef := ⟨0x208, 0x0, 1, 0x0, 1, 4,
  [F.BC_IMG_ID_LO_ID]⟩

/-- BC_IMG_ID_HI.ID, bits 63:0 (R181). -/
def F.BC_IMG_ID_HI_ID : Fld := ⟨0x210, 0x0, 0x0, 0, 64, .ro, 0, 4⟩
/-- The register BC_IMG_ID_HI (R181). -/
def R.BC_IMG_ID_HI : RegDef := ⟨0x210, 0x0, 1, 0x0, 1, 4,
  [F.BC_IMG_ID_HI_ID]⟩

/-- BC_IMG_CMD.STATUS, bits 63:62 (R174). -/
def F.BC_IMG_CMD_STATUS : Fld := ⟨0x218, 0x0, 0x0, 62, 2, .cmd, 0, 4⟩
/-- BC_IMG_CMD.LENGTH, bits 55:8 (R174). -/
def F.BC_IMG_CMD_LENGTH : Fld := ⟨0x218, 0x0, 0x0, 8, 48, .cmd, 0, 4⟩
/-- BC_IMG_CMD.OP, bits 3:0 (R174). -/
def F.BC_IMG_CMD_OP : Fld := ⟨0x218, 0x0, 0x0, 0, 4, .cmd, 0, 4⟩
/-- The register BC_IMG_CMD (R174). -/
def R.BC_IMG_CMD : RegDef := ⟨0x218, 0x0, 1, 0x0, 1, 4,
  [F.BC_IMG_CMD_STATUS, F.BC_IMG_CMD_LENGTH, F.BC_IMG_CMD_OP]⟩

/-- FLD_SEC.SECTION, bits 63:48 (R181). -/
def F.FLD_SEC_SECTION : Fld := ⟨0x100000, 0x4000, 0x0, 48, 16, .ro, 0, 1⟩
/-- FLD_SEC.COLOUR, bits 47:44 (R181). -/
def F.FLD_SEC_COLOUR : Fld := ⟨0x100000, 0x4000, 0x0, 44, 4, .ro, 0, 1⟩
/-- FLD_SEC.MODE, bits 43:42 (R181). -/
def F.FLD_SEC_MODE : Fld := ⟨0x100000, 0x4000, 0x0, 42, 2, .ro, 0, 1⟩
/-- FLD_SEC.ACYC, bits 31:0 (R181). -/
def F.FLD_SEC_ACYC : Fld := ⟨0x100000, 0x4000, 0x0, 0, 32, .ro, 0, 1⟩
/-- The register FLD_SEC (R181). -/
def R.FLD_SEC : RegDef := ⟨0x100000, 0x4000, 48, 0x0, 1, 1,
  [F.FLD_SEC_SECTION, F.FLD_SEC_COLOUR, F.FLD_SEC_MODE, F.FLD_SEC_ACYC]⟩

/-- FLD_INV.INVOCATION, bits 63:32 (R181). -/
def F.FLD_INV_INVOCATION : Fld := ⟨0x100008, 0x4000, 0x0, 32, 32, .ro, 0, 1⟩
/-- FLD_INV.LEN, bits 31:0 (R181). -/
def F.FLD_INV_LEN : Fld := ⟨0x100008, 0x4000, 0x0, 0, 32, .ro, 0, 1⟩
/-- The register FLD_INV (R181). -/
def R.FLD_INV : RegDef := ⟨0x100008, 0x4000, 48, 0x0, 1, 1,
  [F.FLD_INV_INVOCATION, F.FLD_INV_LEN]⟩

/-- FLD_HOLD.STATUS, bits 63:62 (R179). -/
def F.FLD_HOLD_STATUS : Fld := ⟨0x100010, 0x4000, 0x0, 62, 2, .cmd, 0, 4⟩
/-- FLD_HOLD.INTRUDE, bits 47:32 (R179). -/
def F.FLD_HOLD_INTRUDE : Fld := ⟨0x100010, 0x4000, 0x0, 32, 16, .ro, 0, 4⟩
/-- FLD_HOLD.STATE, bits 5:4 (R179). -/
def F.FLD_HOLD_STATE : Fld := ⟨0x100010, 0x4000, 0x0, 4, 2, .ro, 0, 4⟩
/-- FLD_HOLD.OP, bits 3:0 (R179). -/
def F.FLD_HOLD_OP : Fld := ⟨0x100010, 0x4000, 0x0, 0, 4, .cmd, 0, 4⟩
/-- The register FLD_HOLD (R179). -/
def R.FLD_HOLD : RegDef := ⟨0x100010, 0x4000, 48, 0x0, 1, 4,
  [F.FLD_HOLD_STATUS, F.FLD_HOLD_INTRUDE, F.FLD_HOLD_STATE, F.FLD_HOLD_OP]⟩

/-- FLD_STK_USE.OVER, bits 63:56 (R184). -/
def F.FLD_STK_USE_OVER : Fld := ⟨0x100200, 0x4000, 0x0, 56, 8, .ro, 0, 2⟩
/-- FLD_STK_USE.PEAK, bits 49:25 (R184). -/
def F.FLD_STK_USE_PEAK : Fld := ⟨0x100200, 0x4000, 0x0, 25, 25, .ro, 0, 2⟩
/-- FLD_STK_USE.DECL, bits 24:0 (R184). -/
def F.FLD_STK_USE_DECL : Fld := ⟨0x100200, 0x4000, 0x0, 0, 25, .ro, 0, 2⟩
/-- The register FLD_STK_USE (R184). -/
def R.FLD_STK_USE : RegDef := ⟨0x100200, 0x4000, 48, 0x0, 1, 2,
  [F.FLD_STK_USE_OVER, F.FLD_STK_USE_PEAK, F.FLD_STK_USE_DECL]⟩

/-- FLD_STK_REF.FORCED, bits 63:48 (R202). -/
def F.FLD_STK_REF_FORCED : Fld := ⟨0x100208, 0x4000, 0x0, 48, 16, .ro, 0, 2⟩
/-- FLD_STK_REF.MAXGAP, bits 47:32 (R202). -/
def F.FLD_STK_REF_MAXGAP : Fld := ⟨0x100208, 0x4000, 0x0, 32, 16, .ro, 0, 2⟩
/-- FLD_STK_REF.CLASH, bits 31:24 (R202). -/
def F.FLD_STK_REF_CLASH : Fld := ⟨0x100208, 0x4000, 0x0, 24, 8, .ro, 0, 2⟩
/-- FLD_STK_REF.ROW, bits 23:16 (R202). -/
def F.FLD_STK_REF_ROW : Fld := ⟨0x100208, 0x4000, 0x0, 16, 8, .ro, 0, 2⟩
/-- FLD_STK_REF.MODE, bits 1:0 (R202). -/
def F.FLD_STK_REF_MODE : Fld := ⟨0x100208, 0x4000, 0x0, 0, 2, .ro, 0, 2⟩
/-- The register FLD_STK_REF (R202). -/
def R.FLD_STK_REF : RegDef := ⟨0x100208, 0x4000, 48, 0x0, 1, 2,
  [F.FLD_STK_REF_FORCED, F.FLD_STK_REF_MAXGAP, F.FLD_STK_REF_CLASH, F.FLD_STK_REF_ROW, F.FLD_STK_REF_MODE]⟩

/-- FLD_STK_ECC.UE_PX, bits 63:53 (R192). -/
def F.FLD_STK_ECC_UE_PX : Fld := ⟨0x100210, 0x4000, 0x0, 53, 11, .ro, 0, 2⟩
/-- FLD_STK_ECC.UE_PY, bits 52:42 (R192). -/
def F.FLD_STK_ECC_UE_PY : Fld := ⟨0x100210, 0x4000, 0x0, 42, 11, .ro, 0, 2⟩
/-- FLD_STK_ECC.UE, bits 41 (R192). -/
def F.FLD_STK_ECC_UE : Fld := ⟨0x100210, 0x4000, 0x0, 41, 1, .w1c, 0, 2⟩
/-- FLD_STK_ECC.UE_COUNT, bits 40:32 (R192). -/
def F.FLD_STK_ECC_UE_COUNT : Fld := ⟨0x100210, 0x4000, 0x0, 32, 9, .ro, 0, 2⟩
/-- FLD_STK_ECC.CE_COUNT, bits 31:0 (R192). -/
def F.FLD_STK_ECC_CE_COUNT : Fld := ⟨0x100210, 0x4000, 0x0, 0, 32, .ro, 0, 2⟩
/-- The register FLD_STK_ECC (R192). -/
def R.FLD_STK_ECC : RegDef := ⟨0x100210, 0x4000, 48, 0x0, 1, 2,
  [F.FLD_STK_ECC_UE_PX, F.FLD_STK_ECC_UE_PY, F.FLD_STK_ECC_UE, F.FLD_STK_ECC_UE_COUNT, F.FLD_STK_ECC_CE_COUNT]⟩

/-- FLD_STK_SCRUB.PASSES, bits 63:32 (R202). -/
def F.FLD_STK_SCRUB_PASSES : Fld := ⟨0x100218, 0x4000, 0x0, 32, 32, .ro, 0, 2⟩
/-- FLD_STK_SCRUB.NEXT, bits 16:0 (R202). -/
def F.FLD_STK_SCRUB_NEXT : Fld := ⟨0x100218, 0x4000, 0x0, 0, 17, .ro, 0, 2⟩
/-- The register FLD_STK_SCRUB (R202). -/
def R.FLD_STK_SCRUB : RegDef := ⟨0x100218, 0x4000, 48, 0x0, 1, 2,
  [F.FLD_STK_SCRUB_PASSES, F.FLD_STK_SCRUB_NEXT]⟩

/-- HP_APW.EN, bits 63 (R199). -/
def F.HP_APW_EN : Fld := ⟨0x80800, 0x10000000, 0x8, 63, 1, .rw, 0, 3⟩
/-- HP_APW.WP, bits 62 (R199). -/
def F.HP_APW_WP : Fld := ⟨0x80800, 0x10000000, 0x8, 62, 1, .rw, 0, 3⟩
/-- HP_APW.TYPE, bits 61:60 (R199). -/
def F.HP_APW_TYPE : Fld := ⟨0x80800, 0x10000000, 0x8, 60, 2, .rw, 0, 3⟩
/-- HP_APW.SEL, bits 9:0 (R199). -/
def F.HP_APW_SEL : Fld := ⟨0x80800, 0x10000000, 0x8, 0, 10, .rw, 0, 3⟩
/-- The register HP_APW (R199). -/
def R.HP_APW : RegDef := ⟨0x80800, 0x10000000, 2, 0x8, 8, 3,
  [F.HP_APW_EN, F.HP_APW_WP, F.HP_APW_TYPE, F.HP_APW_SEL]⟩

/-- HP_APW_STAT.TIMEOUT, bits 47:32 (R201). -/
def F.HP_APW_STAT_TIMEOUT : Fld := ⟨0x80840, 0x10000000, 0x0, 32, 16, .ro, 0, 3⟩
/-- HP_APW_STAT.DENIED, bits 31:0 (R201). -/
def F.HP_APW_STAT_DENIED : Fld := ⟨0x80840, 0x10000000, 0x0, 0, 32, .ro, 0, 3⟩
/-- The register HP_APW_STAT (R201). -/
def R.HP_APW_STAT : RegDef := ⟨0x80840, 0x10000000, 2, 0x0, 1, 3,
  [F.HP_APW_STAT_TIMEOUT, F.HP_APW_STAT_DENIED]⟩

/-- HX_CTRL.EN, bits 63 (R228). -/
def F.HX_CTRL_EN : Fld := ⟨0xC0000, 0x4000, 0x0, 63, 1, .rw, 1, 4⟩
/-- HX_CTRL.LOOP, bits 62 (R228). -/
def F.HX_CTRL_LOOP : Fld := ⟨0xC0000, 0x4000, 0x0, 62, 1, .rw, 0, 4⟩
/-- The register HX_CTRL (R228). -/
def R.HX_CTRL : RegDef := ⟨0xC0000, 0x4000, 6, 0x0, 1, 4,
  [F.HX_CTRL_EN, F.HX_CTRL_LOOP]⟩

/-- HX_CMD.STATUS, bits 63:62 (R228). -/
def F.HX_CMD_STATUS : Fld := ⟨0xC0008, 0x4000, 0x0, 62, 2, .cmd, 0, 3⟩
/-- HX_CMD.OP, bits 3:0 (R228). -/
def F.HX_CMD_OP : Fld := ⟨0xC0008, 0x4000, 0x0, 0, 4, .cmd, 0, 3⟩
/-- The register HX_CMD (R228). -/
def R.HX_CMD : RegDef := ⟨0xC0008, 0x4000, 6, 0x0, 1, 3,
  [F.HX_CMD_STATUS, F.HX_CMD_OP]⟩

/-- HX_STATUS.STATE, bits 63:60 (R228). -/
def F.HX_STATUS_STATE : Fld := ⟨0xC0010, 0x4000, 0x0, 60, 4, .ro, 1, 3⟩
/-- HX_STATUS.WIDTH, bits 59:55 (R228). -/
def F.HX_STATUS_WIDTH : Fld := ⟨0xC0010, 0x4000, 0x0, 55, 5, .ro, 0, 3⟩
/-- HX_STATUS.SPARES, bits 54:53 (R228). -/
def F.HX_STATUS_SPARES : Fld := ⟨0xC0010, 0x4000, 0x0, 53, 2, .ro, 0, 3⟩
/-- HX_STATUS.CONTRACT, bits 52:48 (R228). -/
def F.HX_STATUS_CONTRACT : Fld := ⟨0xC0010, 0x4000, 0x0, 48, 5, .ro, 24, 3⟩
/-- HX_STATUS.SHORT, bits 47 (R228). -/
def F.HX_STATUS_SHORT : Fld := ⟨0xC0010, 0x4000, 0x0, 47, 1, .ro, 1, 3⟩
/-- HX_STATUS.KEYED, bits 46 (R228). -/
def F.HX_STATUS_KEYED : Fld := ⟨0xC0010, 0x4000, 0x0, 46, 1, .ro, 0, 3⟩
/-- HX_STATUS.KPH, bits 45:44 (R228). -/
def F.HX_STATUS_KPH : Fld := ⟨0xC0010, 0x4000, 0x0, 44, 2, .ro, 0, 3⟩
/-- HX_STATUS.NPORT, bits 43:41 (R228). -/
def F.HX_STATUS_NPORT : Fld := ⟨0xC0010, 0x4000, 0x0, 41, 3, .ro, 0, 3⟩
/-- HX_STATUS.NCOORD, bits 40:26 (R228). -/
def F.HX_STATUS_NCOORD : Fld := ⟨0xC0010, 0x4000, 0x0, 26, 15, .ro, 0, 3⟩
/-- HX_STATUS.NVALID, bits 25 (R228). -/
def F.HX_STATUS_NVALID : Fld := ⟨0xC0010, 0x4000, 0x0, 25, 1, .ro, 0, 3⟩
/-- The register HX_STATUS (R228). -/
def R.HX_STATUS : RegDef := ⟨0xC0010, 0x4000, 6, 0x0, 1, 3,
  [F.HX_STATUS_STATE, F.HX_STATUS_WIDTH, F.HX_STATUS_SPARES, F.HX_STATUS_CONTRACT, F.HX_STATUS_SHORT, F.HX_STATUS_KEYED, F.HX_STATUS_KPH, F.HX_STATUS_NPORT, F.HX_STATUS_NCOORD, F.HX_STATUS_NVALID]⟩

/-- HX_LANES.GOOD, bits 57:32 (R268). -/
def F.HX_LANES_GOOD : Fld := ⟨0xC0018, 0x4000, 0x0, 32, 26, .ro, 0, 3⟩
/-- HX_LANES.ACTIVE, bits 25:0 (R268). -/
def F.HX_LANES_ACTIVE : Fld := ⟨0xC0018, 0x4000, 0x0, 0, 26, .ro, 0, 3⟩
/-- The register HX_LANES (R268). -/
def R.HX_LANES : RegDef := ⟨0xC0018, 0x4000, 6, 0x0, 1, 3,
  [F.HX_LANES_GOOD, F.HX_LANES_ACTIVE]⟩

/-- HX_LAT.RTT, bits 47:32 (R238). -/
def F.HX_LAT_RTT : Fld := ⟨0xC0020, 0x4000, 0x0, 32, 16, .ro, 0, 3⟩
/-- HX_LAT.BASE, bits 31:16 (R238). -/
def F.HX_LAT_BASE : Fld := ⟨0xC0020, 0x4000, 0x0, 16, 16, .ro, 0, 3⟩
/-- HX_LAT.FIBRE, bits 15:0 (R238). -/
def F.HX_LAT_FIBRE : Fld := ⟨0xC0020, 0x4000, 0x0, 0, 16, .ro, 0, 3⟩
/-- The register HX_LAT (R238). -/
def R.HX_LAT : RegDef := ⟨0xC0020, 0x4000, 6, 0x0, 1, 3,
  [F.HX_LAT_RTT, F.HX_LAT_BASE, F.HX_LAT_FIBRE]⟩

/-- HX_FEC.CORR, bits 63:32 (R235). -/
def F.HX_FEC_CORR : Fld := ⟨0xC0028, 0x4000, 0x0, 32, 32, .ro, 0, 3⟩
/-- HX_FEC.UNCORR, bits 31:0 (R235). -/
def F.HX_FEC_UNCORR : Fld := ⟨0xC0028, 0x4000, 0x0, 0, 32, .ro, 0, 3⟩
/-- The register HX_FEC (R235). -/
def R.HX_FEC : RegDef := ⟨0xC0028, 0x4000, 6, 0x0, 1, 3,
  [F.HX_FEC_CORR, F.HX_FEC_UNCORR]⟩

/-- HX_ERR.RETRY, bits 63:52 (R234). -/
def F.HX_ERR_RETRY : Fld := ⟨0xC0030, 0x4000, 0x0, 52, 12, .ro, 0, 3⟩
/-- HX_ERR.AUTH, bits 51:40 (R234). -/
def F.HX_ERR_AUTH : Fld := ⟨0xC0030, 0x4000, 0x0, 40, 12, .ro, 0, 3⟩
/-- HX_ERR.CRC, bits 39:28 (R234). -/
def F.HX_ERR_CRC : Fld := ⟨0xC0030, 0x4000, 0x0, 28, 12, .ro, 0, 3⟩
/-- HX_ERR.ROUTE, bits 27:16 (R234). -/
def F.HX_ERR_ROUTE : Fld := ⟨0xC0030, 0x4000, 0x0, 16, 12, .ro, 0, 3⟩
/-- HX_ERR.MAP, bits 15:0 (R234). -/
def F.HX_ERR_MAP : Fld := ⟨0xC0030, 0x4000, 0x0, 0, 16, .ro, 0, 3⟩
/-- The register HX_ERR (R234). -/
def R.HX_ERR : RegDef := ⟨0xC0030, 0x4000, 6, 0x0, 1, 3,
  [F.HX_ERR_RETRY, F.HX_ERR_AUTH, F.HX_ERR_CRC, F.HX_ERR_ROUTE, F.HX_ERR_MAP]⟩

/-- HX_SCHED.LATE, bits 63:52 (R248). -/
def F.HX_SCHED_LATE : Fld := ⟨0xC0038, 0x4000, 0x0, 52, 12, .ro, 0, 3⟩
/-- HX_SCHED.DROP, bits 51:40 (R248). -/
def F.HX_SCHED_DROP : Fld := ⟨0xC0038, 0x4000, 0x0, 40, 12, .ro, 0, 3⟩
/-- HX_SCHED.OVERRATE, bits 39:28 (R248). -/
def F.HX_SCHED_OVERRATE : Fld := ⟨0xC0038, 0x4000, 0x0, 28, 12, .ro, 0, 3⟩
/-- HX_SCHED.PEAK, bits 16:0 (R248). -/
def F.HX_SCHED_PEAK : Fld := ⟨0xC0038, 0x4000, 0x0, 0, 17, .ro, 0, 3⟩
/-- The register HX_SCHED (R248). -/
def R.HX_SCHED : RegDef := ⟨0xC0038, 0x4000, 6, 0x0, 1, 3,
  [F.HX_SCHED_LATE, F.HX_SCHED_DROP, F.HX_SCHED_OVERRATE, F.HX_SCHED_PEAK]⟩

/-- HX_FC.OFF_SENT, bits 63:60 (R268). -/
def F.HX_FC_OFF_SENT : Fld := ⟨0xC0040, 0x4000, 0x0, 60, 4, .ro, 0, 3⟩
/-- HX_FC.OFF_SEEN, bits 59:56 (R268). -/
def F.HX_FC_OFF_SEEN : Fld := ⟨0xC0040, 0x4000, 0x0, 56, 4, .ro, 0, 3⟩
/-- HX_FC.OCC_VN1, bits 19:10 (R268). -/
def F.HX_FC_OCC_VN1 : Fld := ⟨0xC0040, 0x4000, 0x0, 10, 10, .ro, 0, 3⟩
/-- HX_FC.OCC_VN0, bits 9:0 (R268). -/
def F.HX_FC_OCC_VN0 : Fld := ⟨0xC0040, 0x4000, 0x0, 0, 10, .ro, 0, 3⟩
/-- The register HX_FC (R268). -/
def R.HX_FC : RegDef := ⟨0xC0040, 0x4000, 6, 0x0, 1, 3,
  [F.HX_FC_OFF_SENT, F.HX_FC_OFF_SEEN, F.HX_FC_OCC_VN1, F.HX_FC_OCC_VN0]⟩

/-- HX_TOPO.VALID, bits 63 (R251). -/
def F.HX_TOPO_VALID : Fld := ⟨0xD8000, 0x0, 0x0, 63, 1, .ro, 0, 4⟩
/-- HX_TOPO.NZM1, bits 29:25 (R251). -/
def F.HX_TOPO_NZM1 : Fld := ⟨0xD8000, 0x0, 0x0, 25, 5, .ro, 0, 4⟩
/-- HX_TOPO.NYM1, bits 24:20 (R251). -/
def F.HX_TOPO_NYM1 : Fld := ⟨0xD8000, 0x0, 0x0, 20, 5, .ro, 0, 4⟩
/-- HX_TOPO.NXM1, bits 19:15 (R251). -/
def F.HX_TOPO_NXM1 : Fld := ⟨0xD8000, 0x0, 0x0, 15, 5, .ro, 0, 4⟩
/-- HX_TOPO.COORD, bits 14:0 (R251). -/
def F.HX_TOPO_COORD : Fld := ⟨0xD8000, 0x0, 0x0, 0, 15, .ro, 0, 4⟩
/-- The register HX_TOPO (R251). -/
def R.HX_TOPO : RegDef := ⟨0xD8000, 0x0, 1, 0x0, 1, 4,
  [F.HX_TOPO_VALID, F.HX_TOPO_NZM1, F.HX_TOPO_NYM1, F.HX_TOPO_NXM1, F.HX_TOPO_COORD]⟩

/-- HX_RING.FWD, bits 63:32 (R269). -/
def F.HX_RING_FWD : Fld := ⟨0xD8008, 0x0, 0x0, 32, 32, .ro, 0, 3⟩
/-- HX_RING.DROP, bits 31:16 (R269). -/
def F.HX_RING_DROP : Fld := ⟨0xD8008, 0x0, 0x0, 16, 16, .ro, 0, 3⟩
/-- The register HX_RING (R269). -/
def R.HX_RING : RegDef := ⟨0xD8008, 0x0, 1, 0x0, 1, 3,
  [F.HX_RING_FWD, F.HX_RING_DROP]⟩

/-- BC_ROPE_CMD.STATUS, bits 63:62 (R272). -/
def F.BC_ROPE_CMD_STATUS : Fld := ⟨0x300, 0x0, 0x0, 62, 2, .cmd, 0, 4⟩
/-- BC_ROPE_CMD.AOVR, bits 31 (R272). -/
def F.BC_ROPE_CMD_AOVR : Fld := ⟨0x300, 0x0, 0x0, 31, 1, .cmd, 0, 4⟩
/-- BC_ROPE_CMD.ANCHOR, bits 30:16 (R272). -/
def F.BC_ROPE_CMD_ANCHOR : Fld := ⟨0x300, 0x0, 0x0, 16, 15, .cmd, 0, 4⟩
/-- BC_ROPE_CMD.OP, bits 3:0 (R272). -/
def F.BC_ROPE_CMD_OP : Fld := ⟨0x300, 0x0, 0x0, 0, 4, .cmd, 0, 4⟩
/-- The register BC_ROPE_CMD (R272). -/
def R.BC_ROPE_CMD : RegDef := ⟨0x300, 0x0, 1, 0x0, 1, 4,
  [F.BC_ROPE_CMD_STATUS, F.BC_ROPE_CMD_AOVR, F.BC_ROPE_CMD_ANCHOR, F.BC_ROPE_CMD_OP]⟩

/-- BC_ROPE_STATUS.REASON, bits 63:56 (R272). -/
def F.BC_ROPE_STATUS_REASON : Fld := ⟨0x308, 0x0, 0x0, 56, 8, .ro, 0, 4⟩
/-- BC_ROPE_STATUS.STATE, bits 55:52 (R272). -/
def F.BC_ROPE_STATUS_STATE : Fld := ⟨0x308, 0x0, 0x0, 52, 4, .ro, 0, 4⟩
/-- BC_ROPE_STATUS.ANCHOR, bits 51 (R272). -/
def F.BC_ROPE_STATUS_ANCHOR : Fld := ⟨0x308, 0x0, 0x0, 51, 1, .ro, 0, 4⟩
/-- BC_ROPE_STATUS.TPORT, bits 50:48 (R272). -/
def F.BC_ROPE_STATUS_TPORT : Fld := ⟨0x308, 0x0, 0x0, 48, 3, .ro, 7, 4⟩
/-- BC_ROPE_STATUS.REPLAYS, bits 47:40 (R272). -/
def F.BC_ROPE_STATUS_REPLAYS : Fld := ⟨0x308, 0x0, 0x0, 40, 8, .ro, 0, 4⟩
/-- BC_ROPE_STATUS.SOLO, bits 39 (R272). -/
def F.BC_ROPE_STATUS_SOLO : Fld := ⟨0x308, 0x0, 0x0, 39, 1, .ro, 0, 4⟩
/-- BC_ROPE_STATUS.LSTATE, bits 38:35 (R272). -/
def F.BC_ROPE_STATUS_LSTATE : Fld := ⟨0x308, 0x0, 0x0, 35, 4, .ro, 0, 4⟩
/-- BC_ROPE_STATUS.ACOORD, bits 34:20 (R272). -/
def F.BC_ROPE_STATUS_ACOORD : Fld := ⟨0x308, 0x0, 0x0, 20, 15, .ro, 0, 4⟩
/-- BC_ROPE_STATUS.MEMBERS, bits 15:0 (R272). -/
def F.BC_ROPE_STATUS_MEMBERS : Fld := ⟨0x308, 0x0, 0x0, 0, 16, .ro, 0, 4⟩
/-- The register BC_ROPE_STATUS (R272). -/
def R.BC_ROPE_STATUS : RegDef := ⟨0x308, 0x0, 1, 0x0, 1, 4,
  [F.BC_ROPE_STATUS_REASON, F.BC_ROPE_STATUS_STATE, F.BC_ROPE_STATUS_ANCHOR, F.BC_ROPE_STATUS_TPORT, F.BC_ROPE_STATUS_REPLAYS, F.BC_ROPE_STATUS_SOLO, F.BC_ROPE_STATUS_LSTATE, F.BC_ROPE_STATUS_ACOORD, F.BC_ROPE_STATUS_MEMBERS]⟩

/-- BC_ROPE_ACYC.ACYC, bits 63:0 (R324). -/
def F.BC_ROPE_ACYC_ACYC : Fld := ⟨0x310, 0x0, 0x0, 0, 64, .ro, 0, 3⟩
/-- The register BC_ROPE_ACYC (R324). -/
def R.BC_ROPE_ACYC : RegDef := ⟨0x310, 0x0, 1, 0x0, 1, 3,
  [F.BC_ROPE_ACYC_ACYC]⟩

/-- BC_ROPE_CKP.COMMITTED, bits 63:32 (R324). -/
def F.BC_ROPE_CKP_COMMITTED : Fld := ⟨0x318, 0x0, 0x0, 32, 32, .ro, 0, 4⟩
/-- BC_ROPE_CKP.CVALID, bits 7 (R324). -/
def F.BC_ROPE_CKP_CVALID : Fld := ⟨0x318, 0x0, 0x0, 7, 1, .ro, 0, 4⟩
/-- BC_ROPE_CKP.CSLOT, bits 6 (R324). -/
def F.BC_ROPE_CKP_CSLOT : Fld := ⟨0x318, 0x0, 0x0, 6, 1, .ro, 0, 4⟩
/-- BC_ROPE_CKP.CAPTURING, bits 0 (R324). -/
def F.BC_ROPE_CKP_CAPTURING : Fld := ⟨0x318, 0x0, 0x0, 0, 1, .ro, 0, 4⟩
/-- The register BC_ROPE_CKP (R324). -/
def R.BC_ROPE_CKP : RegDef := ⟨0x318, 0x0, 1, 0x0, 1, 4,
  [F.BC_ROPE_CKP_COMMITTED, F.BC_ROPE_CKP_CVALID, F.BC_ROPE_CKP_CSLOT, F.BC_ROPE_CKP_CAPTURING]⟩

/-- BC_ROPE_CLEAR.CLEAR, bits 63:0 (R303). -/
def F.BC_ROPE_CLEAR_CLEAR : Fld := ⟨0x320, 0x0, 0x0, 0, 64, .ro, 0, 3⟩
/-- The register BC_ROPE_CLEAR (R303). -/
def R.BC_ROPE_CLEAR : RegDef := ⟨0x320, 0x0, 1, 0x0, 1, 3,
  [F.BC_ROPE_CLEAR_CLEAR]⟩

/-- BC_ROPE_RATIO.REQ, bits 55:48 (R324). -/
def F.BC_ROPE_RATIO_REQ : Fld := ⟨0x328, 0x0, 0x0, 48, 8, .ro, 0, 3⟩
/-- BC_ROPE_RATIO.FLOOR, bits 47:40 (R324). -/
def F.BC_ROPE_RATIO_FLOOR : Fld := ⟨0x328, 0x0, 0x0, 40, 8, .ro, 0, 3⟩
/-- BC_ROPE_RATIO.TARGET, bits 39:32 (R324). -/
def F.BC_ROPE_RATIO_TARGET : Fld := ⟨0x328, 0x0, 0x0, 32, 8, .ro, 0, 3⟩
/-- BC_ROPE_RATIO.CURRENT, bits 31:24 (R324). -/
def F.BC_ROPE_RATIO_CURRENT : Fld := ⟨0x328, 0x0, 0x0, 24, 8, .ro, 0, 3⟩
/-- The register BC_ROPE_RATIO (R324). -/
def R.BC_ROPE_RATIO : RegDef := ⟨0x328, 0x0, 1, 0x0, 1, 3,
  [F.BC_ROPE_RATIO_REQ, F.BC_ROPE_RATIO_FLOOR, F.BC_ROPE_RATIO_TARGET, F.BC_ROPE_RATIO_CURRENT]⟩

/-- BC_ROPE_CFG.SHORT_WAIT, bits 47:32 (R315). -/
def F.BC_ROPE_CFG_SHORT_WAIT : Fld := ⟨0x330, 0x0, 0x0, 32, 16, .rw, 10, 4⟩
/-- BC_ROPE_CFG.FORM_TIMEOUT, bits 31:16 (R315). -/
def F.BC_ROPE_CFG_FORM_TIMEOUT : Fld := ⟨0x330, 0x0, 0x0, 16, 16, .rw, 10, 4⟩
/-- BC_ROPE_CFG.REPLAY_LIMIT, bits 2:0 (R315). -/
def F.BC_ROPE_CFG_REPLAY_LIMIT : Fld := ⟨0x330, 0x0, 0x0, 0, 3, .rw, 2, 4⟩
/-- The register BC_ROPE_CFG (R315). -/
def R.BC_ROPE_CFG : RegDef := ⟨0x330, 0x0, 1, 0x0, 1, 4,
  [F.BC_ROPE_CFG_SHORT_WAIT, F.BC_ROPE_CFG_FORM_TIMEOUT, F.BC_ROPE_CFG_REPLAY_LIMIT]⟩

/-- BC_ROPE_CRN.MM, bits 63 (R324). -/
def F.BC_ROPE_CRN_MM : Fld := ⟨0x338, 0x0, 0x0, 63, 1, .w1c, 0, 3⟩
/-- BC_ROPE_CRN.DELTA, bits 60:0 (R324). -/
def F.BC_ROPE_CRN_DELTA : Fld := ⟨0x338, 0x0, 0x0, 0, 61, .ro, 0, 3⟩
/-- The register BC_ROPE_CRN (R324). -/
def R.BC_ROPE_CRN : RegDef := ⟨0x338, 0x0, 1, 0x0, 1, 3,
  [F.BC_ROPE_CRN_MM, F.BC_ROPE_CRN_DELTA]⟩

/-- CRN_STAT.MISMATCH, bits 63:48 (R324). -/
def F.CRN_STAT_MISMATCH : Fld := ⟨0xC0100, 0x4000, 0x0, 48, 16, .ro, 0, 3⟩
/-- CRN_STAT.MISSING, bits 47:32 (R324). -/
def F.CRN_STAT_MISSING : Fld := ⟨0xC0100, 0x4000, 0x0, 32, 16, .ro, 0, 3⟩
/-- CRN_STAT.CHECKED, bits 31:0 (R324). -/
def F.CRN_STAT_CHECKED : Fld := ⟨0xC0100, 0x4000, 0x0, 0, 32, .ro, 0, 3⟩
/-- The register CRN_STAT (R324). -/
def R.CRN_STAT : RegDef := ⟨0xC0100, 0x4000, 6, 0x0, 1, 3,
  [F.CRN_STAT_MISMATCH, F.CRN_STAT_MISSING, F.CRN_STAT_CHECKED]⟩

/-- CRN_LAST_LO.CAIRN, bits 63:0 (R324). -/
def F.CRN_LAST_LO_CAIRN : Fld := ⟨0xC0108, 0x4000, 0x0, 0, 64, .ro, 0, 3⟩
/-- The register CRN_LAST_LO (R324). -/
def R.CRN_LAST_LO : RegDef := ⟨0xC0108, 0x4000, 6, 0x0, 1, 3,
  [F.CRN_LAST_LO_CAIRN]⟩

/-- CRN_LAST_HI.CAIRN, bits 63:0 (R324). -/
def F.CRN_LAST_HI_CAIRN : Fld := ⟨0xC0110, 0x4000, 0x0, 0, 64, .ro, 0, 3⟩
/-- The register CRN_LAST_HI (R324). -/
def R.CRN_LAST_HI : RegDef := ⟨0xC0110, 0x4000, 6, 0x0, 1, 3,
  [F.CRN_LAST_HI_CAIRN]⟩

/-- HP_LINK.IDE, bits 15 (R354). -/
def F.HP_LINK_IDE : Fld := ⟨0x80000, 0x10000000, 0x0, 15, 1, .ro, 0, 3⟩
/-- HP_LINK.FLIT, bits 14 (R354). -/
def F.HP_LINK_FLIT : Fld := ⟨0x80000, 0x10000000, 0x0, 14, 1, .ro, 0, 3⟩
/-- HP_LINK.WIDTH, bits 11:8 (R354). -/
def F.HP_LINK_WIDTH : Fld := ⟨0x80000, 0x10000000, 0x0, 8, 4, .ro, 0, 3⟩
/-- HP_LINK.RATE, bits 7:4 (R354). -/
def F.HP_LINK_RATE : Fld := ⟨0x80000, 0x10000000, 0x0, 4, 4, .ro, 0, 3⟩
/-- HP_LINK.UP, bits 0 (R354). -/
def F.HP_LINK_UP : Fld := ⟨0x80000, 0x10000000, 0x0, 0, 1, .ro, 0, 3⟩
/-- The register HP_LINK (R354). -/
def R.HP_LINK : RegDef := ⟨0x80000, 0x10000000, 2, 0x0, 1, 3,
  [F.HP_LINK_IDE, F.HP_LINK_FLIT, F.HP_LINK_WIDTH, F.HP_LINK_RATE, F.HP_LINK_UP]⟩

/-- HP_LEASE.REMAIN, bits 61:32 (R328). -/
def F.HP_LEASE_REMAIN : Fld := ⟨0x80008, 0x10000000, 0x0, 32, 30, .ro, 0, 4⟩
/-- HP_LEASE.SESSION, bits 19:8 (R328). -/
def F.HP_LEASE_SESSION : Fld := ⟨0x80008, 0x10000000, 0x0, 8, 12, .rw, 0, 4⟩
/-- HP_LEASE.RINGIX, bits 5:0 (R328). -/
def F.HP_LEASE_RINGIX : Fld := ⟨0x80008, 0x10000000, 0x0, 0, 6, .rw, 0, 4⟩
/-- The register HP_LEASE (R328). -/
def R.HP_LEASE : RegDef := ⟨0x80008, 0x10000000, 2, 0x0, 1, 4,
  [F.HP_LEASE_REMAIN, F.HP_LEASE_SESSION, F.HP_LEASE_RINGIX]⟩

/-- HP_LEASE_OP.STATUS, bits 63:62 (R349). -/
def F.HP_LEASE_OP_STATUS : Fld := ⟨0x80010, 0x10000000, 0x0, 62, 2, .cmd, 0, 3⟩
/-- HP_LEASE_OP.OP, bits 3:0 (R349). -/
def F.HP_LEASE_OP_OP : Fld := ⟨0x80010, 0x10000000, 0x0, 0, 4, .cmd, 0, 3⟩
/-- The register HP_LEASE_OP (R349). -/
def R.HP_LEASE_OP : RegDef := ⟨0x80010, 0x10000000, 2, 0x0, 1, 3,
  [F.HP_LEASE_OP_STATUS, F.HP_LEASE_OP_OP]⟩

/-- HP_EVENT.BOOTGEN, bits 5 (R330). -/
def F.HP_EVENT_BOOTGEN : Fld := ⟨0x80018, 0x10000000, 0x0, 5, 1, .w1c, 0, 3⟩
/-- HP_EVENT.JFULL, bits 4 (R330). -/
def F.HP_EVENT_JFULL : Fld := ⟨0x80018, 0x10000000, 0x0, 4, 1, .w1c, 0, 3⟩
/-- HP_EVENT.HOLD, bits 3 (R330). -/
def F.HP_EVENT_HOLD : Fld := ⟨0x80018, 0x10000000, 0x0, 3, 1, .w1c, 0, 3⟩
/-- HP_EVENT.ORPHANS, bits 2 (R330). -/
def F.HP_EVENT_ORPHANS : Fld := ⟨0x80018, 0x10000000, 0x0, 2, 1, .w1c, 0, 3⟩
/-- HP_EVENT.DEGRADED, bits 1 (R330). -/
def F.HP_EVENT_DEGRADED : Fld := ⟨0x80018, 0x10000000, 0x0, 1, 1, .w1c, 0, 3⟩
/-- HP_EVENT.FAULT, bits 0 (R330). -/
def F.HP_EVENT_FAULT : Fld := ⟨0x80018, 0x10000000, 0x0, 0, 1, .w1c, 0, 3⟩
/-- The register HP_EVENT (R330). -/
def R.HP_EVENT : RegDef := ⟨0x80018, 0x10000000, 2, 0x0, 1, 3,
  [F.HP_EVENT_BOOTGEN, F.HP_EVENT_JFULL, F.HP_EVENT_HOLD, F.HP_EVENT_ORPHANS, F.HP_EVENT_DEGRADED, F.HP_EVENT_FAULT]⟩

/-- LDG_STATUS.ACTIVE, bits 63:32 (R354). -/
def F.LDG_STATUS_ACTIVE : Fld := ⟨0x81000, 0x0, 0x0, 32, 32, .ro, 0, 4⟩
/-- LDG_STATUS.OPEN, bits 31:16 (R354). -/
def F.LDG_STATUS_OPEN : Fld := ⟨0x81000, 0x0, 0x0, 16, 16, .ro, 0, 4⟩
/-- LDG_STATUS.MODE, bits 9:8 (R354). -/
def F.LDG_STATUS_MODE : Fld := ⟨0x81000, 0x0, 0x0, 8, 2, .ro, 0, 4⟩
/-- LDG_STATUS.STATE, bits 1:0 (R354). -/
def F.LDG_STATUS_STATE : Fld := ⟨0x81000, 0x0, 0x0, 0, 2, .ro, 0, 4⟩
/-- The register LDG_STATUS (R354). -/
def R.LDG_STATUS : RegDef := ⟨0x81000, 0x0, 1, 0x0, 1, 4,
  [F.LDG_STATUS_ACTIVE, F.LDG_STATUS_OPEN, F.LDG_STATUS_MODE, F.LDG_STATUS_STATE]⟩

/-- LDG_STAT.IGNORED, bits 63:48 (R332). -/
def F.LDG_STAT_IGNORED : Fld := ⟨0x81008, 0x0, 0x0, 48, 16, .ro, 0, 4⟩
/-- LDG_STAT.FOREIGN, bits 47:32 (R332). -/
def F.LDG_STAT_FOREIGN : Fld := ⟨0x81008, 0x0, 0x0, 32, 16, .ro, 0, 4⟩
/-- LDG_STAT.REJECTED, bits 31:16 (R332). -/
def F.LDG_STAT_REJECTED : Fld := ⟨0x81008, 0x0, 0x0, 16, 16, .ro, 0, 4⟩
/-- LDG_STAT.SUPPRESSED, bits 15:0 (R332). -/
def F.LDG_STAT_SUPPRESSED : Fld := ⟨0x81008, 0x0, 0x0, 0, 16, .ro, 0, 4⟩
/-- The register LDG_STAT (R332). -/
def R.LDG_STAT : RegDef := ⟨0x81008, 0x0, 1, 0x0, 1, 4,
  [F.LDG_STAT_IGNORED, F.LDG_STAT_FOREIGN, F.LDG_STAT_REJECTED, F.LDG_STAT_SUPPRESSED]⟩

/-- LDG_JRNL.FREE, bits 63:32 (R354). -/
def F.LDG_JRNL_FREE : Fld := ⟨0x81010, 0x0, 0x0, 32, 32, .ro, 0, 4⟩
/-- LDG_JRNL.JSEQ, bits 31:0 (R354). -/
def F.LDG_JRNL_JSEQ : Fld := ⟨0x81010, 0x0, 0x0, 0, 32, .ro, 0, 4⟩
/-- The register LDG_JRNL (R354). -/
def R.LDG_JRNL : RegDef := ⟨0x81010, 0x0, 1, 0x0, 1, 4,
  [F.LDG_JRNL_FREE, F.LDG_JRNL_JSEQ]⟩

/-- BC_TRUST_STATUS.FAIL, bits 63:48 (R383). -/
def F.BC_TRUST_STATUS_FAIL : Fld := ⟨0x400, 0x0, 0x0, 48, 16, .ro, 0, 4⟩
/-- BC_TRUST_STATUS.SLOTS, bits 35:32 (R383). -/
def F.BC_TRUST_STATUS_SLOTS : Fld := ⟨0x400, 0x0, 0x0, 32, 4, .ro, 0, 4⟩
/-- BC_TRUST_STATUS.REVOKED, bits 31:28 (R383). -/
def F.BC_TRUST_STATUS_REVOKED : Fld := ⟨0x400, 0x0, 0x0, 28, 4, .ro, 0, 4⟩
/-- BC_TRUST_STATUS.BOOTB, bits 8 (R383). -/
def F.BC_TRUST_STATUS_BOOTB : Fld := ⟨0x400, 0x0, 0x0, 8, 1, .ro, 0, 4⟩
/-- BC_TRUST_STATUS.TENANT, bits 7:4 (R383). -/
def F.BC_TRUST_STATUS_TENANT : Fld := ⟨0x400, 0x0, 0x0, 4, 4, .ro, 0, 4⟩
/-- BC_TRUST_STATUS.DEBUG, bits 3 (R383). -/
def F.BC_TRUST_STATUS_DEBUG : Fld := ⟨0x400, 0x0, 0x0, 3, 1, .ro, 0, 4⟩
/-- BC_TRUST_STATUS.PROV, bits 2 (R383). -/
def F.BC_TRUST_STATUS_PROV : Fld := ⟨0x400, 0x0, 0x0, 2, 1, .ro, 0, 4⟩
/-- The register BC_TRUST_STATUS (R383). -/
def R.BC_TRUST_STATUS : RegDef := ⟨0x400, 0x0, 1, 0x0, 1, 4,
  [F.BC_TRUST_STATUS_FAIL, F.BC_TRUST_STATUS_SLOTS, F.BC_TRUST_STATUS_REVOKED, F.BC_TRUST_STATUS_BOOTB, F.BC_TRUST_STATUS_TENANT, F.BC_TRUST_STATUS_DEBUG, F.BC_TRUST_STATUS_PROV]⟩

/-- BC_TRUST_ID.DEVKEY, bits 63:0 (R383). -/
def F.BC_TRUST_ID_DEVKEY : Fld := ⟨0x408, 0x0, 0x0, 0, 64, .ro, 0, 4⟩
/-- The register BC_TRUST_ID (R383). -/
def R.BC_TRUST_ID : RegDef := ⟨0x408, 0x0, 1, 0x0, 1, 4,
  [F.BC_TRUST_ID_DEVKEY]⟩

/-- BC_SEAL_CMD.STATUS, bits 63:62 (R377). -/
def F.BC_SEAL_CMD_STATUS : Fld := ⟨0x410, 0x0, 0x0, 62, 2, .cmd, 0, 3⟩
/-- BC_SEAL_CMD.SESSION, bits 57:46 (R377). -/
def F.BC_SEAL_CMD_SESSION : Fld := ⟨0x410, 0x0, 0x0, 46, 12, .cmd, 0, 3⟩
/-- BC_SEAL_CMD.STAGE, bits 45:16 (R377). -/
def F.BC_SEAL_CMD_STAGE : Fld := ⟨0x410, 0x0, 0x0, 16, 30, .cmd, 0, 3⟩
/-- BC_SEAL_CMD.OP, bits 3:0 (R377). -/
def F.BC_SEAL_CMD_OP : Fld := ⟨0x410, 0x0, 0x0, 0, 4, .cmd, 0, 3⟩
/-- The register BC_SEAL_CMD (R377). -/
def R.BC_SEAL_CMD : RegDef := ⟨0x410, 0x0, 1, 0x0, 1, 3,
  [F.BC_SEAL_CMD_STATUS, F.BC_SEAL_CMD_SESSION, F.BC_SEAL_CMD_STAGE, F.BC_SEAL_CMD_OP]⟩

/-- BC_OWNER_CMD.STATUS, bits 63:62 (R368). -/
def F.BC_OWNER_CMD_STATUS : Fld := ⟨0x418, 0x0, 0x0, 62, 2, .cmd, 0, 4⟩
/-- BC_OWNER_CMD.STAGE, bits 33:4 (R368). -/
def F.BC_OWNER_CMD_STAGE : Fld := ⟨0x418, 0x0, 0x0, 4, 30, .cmd, 0, 4⟩
/-- BC_OWNER_CMD.OP, bits 3:0 (R368). -/
def F.BC_OWNER_CMD_OP : Fld := ⟨0x418, 0x0, 0x0, 0, 4, .cmd, 0, 4⟩
/-- The register BC_OWNER_CMD (R368). -/
def R.BC_OWNER_CMD : RegDef := ⟨0x418, 0x0, 1, 0x0, 1, 4,
  [F.BC_OWNER_CMD_STATUS, F.BC_OWNER_CMD_STAGE, F.BC_OWNER_CMD_OP]⟩

/-- BC_OWNER_CTR.COUNT, bits 63:0 (R383). -/
def F.BC_OWNER_CTR_COUNT : Fld := ⟨0x420, 0x0, 0x0, 0, 64, .ro, 0, 4⟩
/-- The register BC_OWNER_CTR (R383). -/
def R.BC_OWNER_CTR : RegDef := ⟨0x420, 0x0, 1, 0x0, 1, 4,
  [F.BC_OWNER_CTR_COUNT]⟩

/-- BC_DBG_CMD.STATUS, bits 63:62 (R381). -/
def F.BC_DBG_CMD_STATUS : Fld := ⟨0x428, 0x0, 0x0, 62, 2, .cmd, 0, 4⟩
/-- BC_DBG_CMD.SCOPE, bits 55:52 (R381). -/
def F.BC_DBG_CMD_SCOPE : Fld := ⟨0x428, 0x0, 0x0, 52, 4, .ro, 0, 4⟩
/-- BC_DBG_CMD.REMAIN, bits 51:35 (R381). -/
def F.BC_DBG_CMD_REMAIN : Fld := ⟨0x428, 0x0, 0x0, 35, 17, .ro, 0, 4⟩
/-- BC_DBG_CMD.FAILS, bits 34:32 (R381). -/
def F.BC_DBG_CMD_FAILS : Fld := ⟨0x428, 0x0, 0x0, 32, 3, .ro, 0, 4⟩
/-- BC_DBG_CMD.STAGE, bits 31:4 (R381). -/
def F.BC_DBG_CMD_STAGE : Fld := ⟨0x428, 0x0, 0x0, 4, 28, .cmd, 0, 4⟩
/-- BC_DBG_CMD.OP, bits 3:0 (R381). -/
def F.BC_DBG_CMD_OP : Fld := ⟨0x428, 0x0, 0x0, 0, 4, .cmd, 0, 4⟩
/-- The register BC_DBG_CMD (R381). -/
def R.BC_DBG_CMD : RegDef := ⟨0x428, 0x0, 1, 0x0, 1, 4,
  [F.BC_DBG_CMD_STATUS, F.BC_DBG_CMD_SCOPE, F.BC_DBG_CMD_REMAIN, F.BC_DBG_CMD_FAILS, F.BC_DBG_CMD_STAGE, F.BC_DBG_CMD_OP]⟩

/-- BC_DBG_CHAL.NONCE, bits 63:0 (R381). -/
def F.BC_DBG_CHAL_NONCE : Fld := ⟨0x430, 0x0, 0x8, 0, 64, .ro, 0, 4⟩
/-- The register BC_DBG_CHAL (R381). -/
def R.BC_DBG_CHAL : RegDef := ⟨0x430, 0x0, 1, 0x8, 4, 4,
  [F.BC_DBG_CHAL_NONCE]⟩

/-- BC_ID.VENDOR, bits 63:48 (R403). -/
def F.BC_ID_VENDOR : Fld := ⟨0x0, 0x0, 0x0, 48, 16, .ro, 8167, 4⟩
/-- BC_ID.DEVICE, bits 47:32 (R403). -/
def F.BC_ID_DEVICE : Fld := ⟨0x0, 0x0, 0x0, 32, 16, .ro, 39424, 4⟩
/-- BC_ID.STEPPING, bits 31:24 (R403). -/
def F.BC_ID_STEPPING : Fld := ⟨0x0, 0x0, 0x0, 24, 8, .ro, 0, 4⟩
/-- BC_ID.VARIANT, bits 23:16 (R403). -/
def F.BC_ID_VARIANT : Fld := ⟨0x0, 0x0, 0x0, 16, 8, .ro, 0, 4⟩
/-- BC_ID.FWVER, bits 15:0 (R403). -/
def F.BC_ID_FWVER : Fld := ⟨0x0, 0x0, 0x0, 0, 16, .ro, 0, 4⟩
/-- The register BC_ID (R403). -/
def R.BC_ID : RegDef := ⟨0x0, 0x0, 1, 0x0, 1, 4,
  [F.BC_ID_VENDOR, F.BC_ID_DEVICE, F.BC_ID_STEPPING, F.BC_ID_VARIANT, F.BC_ID_FWVER]⟩

/-- BC_BOOT.STAGE, bits 63:56 (R387). -/
def F.BC_BOOT_STAGE : Fld := ⟨0x8, 0x0, 0x0, 56, 8, .ro, 0, 4⟩
/-- BC_BOOT.FAILSTAGE, bits 55:48 (R387). -/
def F.BC_BOOT_FAILSTAGE : Fld := ⟨0x8, 0x0, 0x0, 48, 8, .ro, 0, 4⟩
/-- BC_BOOT.FAULT, bits 47:32 (R387). -/
def F.BC_BOOT_FAULT : Fld := ⟨0x8, 0x0, 0x0, 32, 16, .ro, 0, 4⟩
/-- BC_BOOT.MS, bits 31:0 (R387). -/
def F.BC_BOOT_MS : Fld := ⟨0x8, 0x0, 0x0, 0, 32, .ro, 0, 4⟩
/-- The register BC_BOOT (R387). -/
def R.BC_BOOT : RegDef := ⟨0x8, 0x0, 1, 0x0, 1, 4,
  [F.BC_BOOT_STAGE, F.BC_BOOT_FAILSTAGE, F.BC_BOOT_FAULT, F.BC_BOOT_MS]⟩

/-- BC_PAIRS.STATUS, bits 63:62 (R385). -/
def F.BC_PAIRS_STATUS : Fld := ⟨0x10, 0x0, 0x0, 62, 2, .cmd, 0, 4⟩
/-- BC_PAIRS.TAKEOVERS, bits 47:32 (R385). -/
def F.BC_PAIRS_TAKEOVERS : Fld := ⟨0x10, 0x0, 0x0, 32, 16, .ro, 0, 4⟩
/-- BC_PAIRS.P1, bits 11:10 (R385). -/
def F.BC_PAIRS_P1 : Fld := ⟨0x10, 0x0, 0x0, 10, 2, .ro, 1, 4⟩
/-- BC_PAIRS.P0, bits 9:8 (R385). -/
def F.BC_PAIRS_P0 : Fld := ⟨0x10, 0x0, 0x0, 8, 2, .ro, 0, 4⟩
/-- BC_PAIRS.ACTIVE, bits 4 (R385). -/
def F.BC_PAIRS_ACTIVE : Fld := ⟨0x10, 0x0, 0x0, 4, 1, .ro, 0, 4⟩
/-- BC_PAIRS.OP, bits 3:0 (R385). -/
def F.BC_PAIRS_OP : Fld := ⟨0x10, 0x0, 0x0, 0, 4, .cmd, 0, 4⟩
/-- The register BC_PAIRS (R385). -/
def R.BC_PAIRS : RegDef := ⟨0x10, 0x0, 1, 0x0, 1, 4,
  [F.BC_PAIRS_STATUS, F.BC_PAIRS_TAKEOVERS, F.BC_PAIRS_P1, F.BC_PAIRS_P0, F.BC_PAIRS_ACTIVE, F.BC_PAIRS_OP]⟩

/-- BC_SVY_CFG.GRACE, bits 47:32 (R401). -/
def F.BC_SVY_CFG_GRACE : Fld := ⟨0x500, 0x0, 0x0, 32, 16, .rw, 60, 4⟩
/-- BC_SVY_CFG.PERIOD, bits 31:16 (R401). -/
def F.BC_SVY_CFG_PERIOD : Fld := ⟨0x500, 0x0, 0x0, 16, 16, .rw, 24, 4⟩
/-- BC_SVY_CFG.EN, bits 0 (R401). -/
def F.BC_SVY_CFG_EN : Fld := ⟨0x500, 0x0, 0x0, 0, 1, .rw, 1, 4⟩
/-- The register BC_SVY_CFG (R401). -/
def R.BC_SVY_CFG : RegDef := ⟨0x500, 0x0, 1, 0x0, 1, 4,
  [F.BC_SVY_CFG_GRACE, F.BC_SVY_CFG_PERIOD, F.BC_SVY_CFG_EN]⟩

/-- FLD_SVY.AGE, bits 63:48 (R401). -/
def F.FLD_SVY_AGE : Fld := ⟨0x100300, 0x4000, 0x0, 48, 16, .ro, 0, 4⟩
/-- FLD_SVY.FAILS, bits 47:40 (R401). -/
def F.FLD_SVY_FAILS : Fld := ⟨0x100300, 0x4000, 0x0, 40, 8, .ro, 0, 4⟩
/-- FLD_SVY.SLICE, bits 39:32 (R401). -/
def F.FLD_SVY_SLICE : Fld := ⟨0x100300, 0x4000, 0x0, 32, 8, .ro, 0, 4⟩
/-- FLD_SVY.PASSES, bits 31:16 (R401). -/
def F.FLD_SVY_PASSES : Fld := ⟨0x100300, 0x4000, 0x0, 16, 16, .ro, 0, 4⟩
/-- FLD_SVY.OVERDUE, bits 3 (R401). -/
def F.FLD_SVY_OVERDUE : Fld := ⟨0x100300, 0x4000, 0x0, 3, 1, .ro, 0, 4⟩
/-- FLD_SVY.DUE, bits 2 (R401). -/
def F.FLD_SVY_DUE : Fld := ⟨0x100300, 0x4000, 0x0, 2, 1, .ro, 0, 4⟩
/-- FLD_SVY.FULL, bits 1:0 (R401). -/
def F.FLD_SVY_FULL : Fld := ⟨0x100300, 0x4000, 0x0, 0, 2, .ro, 0, 4⟩
/-- The register FLD_SVY (R401). -/
def R.FLD_SVY : RegDef := ⟨0x100300, 0x4000, 48, 0x0, 1, 4,
  [F.FLD_SVY_AGE, F.FLD_SVY_FAILS, F.FLD_SVY_SLICE, F.FLD_SVY_PASSES, F.FLD_SVY_OVERDUE, F.FLD_SVY_DUE, F.FLD_SVY_FULL]⟩

/-- FLD_SVY_CMD.STATUS, bits 63:62 (R401). -/
def F.FLD_SVY_CMD_STATUS : Fld := ⟨0x100308, 0x4000, 0x0, 62, 2, .cmd, 0, 4⟩
/-- FLD_SVY_CMD.OP, bits 3:0 (R401). -/
def F.FLD_SVY_CMD_OP : Fld := ⟨0x100308, 0x4000, 0x0, 0, 4, .cmd, 0, 4⟩
/-- The register FLD_SVY_CMD (R401). -/
def R.FLD_SVY_CMD : RegDef := ⟨0x100308, 0x4000, 48, 0x0, 1, 4,
  [F.FLD_SVY_CMD_STATUS, F.FLD_SVY_CMD_OP]⟩

/-- FLD_BLOOM.EXPECT, bits 48:34 (R392). -/
def F.FLD_BLOOM_EXPECT : Fld := ⟨0x100310, 0x4000, 0x0, 34, 15, .ro, 0, 2⟩
/-- FLD_BLOOM.OKCOUNT, bits 33:19 (R392). -/
def F.FLD_BLOOM_OKCOUNT : Fld := ⟨0x100310, 0x4000, 0x0, 19, 15, .ro, 0, 2⟩
/-- FLD_BLOOM.ATTEMPTS, bits 18:16 (R392). -/
def F.FLD_BLOOM_ATTEMPTS : Fld := ⟨0x100310, 0x4000, 0x0, 16, 3, .ro, 0, 2⟩
/-- FLD_BLOOM.DONE, bits 0 (R392). -/
def F.FLD_BLOOM_DONE : Fld := ⟨0x100310, 0x4000, 0x0, 0, 1, .ro, 0, 2⟩
/-- The register FLD_BLOOM (R392). -/
def R.FLD_BLOOM : RegDef := ⟨0x100310, 0x4000, 48, 0x0, 1, 2,
  [F.FLD_BLOOM_EXPECT, F.FLD_BLOOM_OKCOUNT, F.FLD_BLOOM_ATTEMPTS, F.FLD_BLOOM_DONE]⟩

/-- OD_CMD.STATUS, bits 63:62 (R422). -/
def F.OD_CMD_STATUS : Fld := ⟨0x60000, 0x1000, 0x0, 62, 2, .cmd, 0, 3⟩
/-- OD_CMD.INDEX, bits 47:32 (R422). -/
def F.OD_CMD_INDEX : Fld := ⟨0x60000, 0x1000, 0x0, 32, 16, .cmd, 0, 3⟩
/-- OD_CMD.SUB, bits 31:24 (R422). -/
def F.OD_CMD_SUB : Fld := ⟨0x60000, 0x1000, 0x0, 24, 8, .cmd, 0, 3⟩
/-- OD_CMD.LEN, bits 23:12 (R422). -/
def F.OD_CMD_LEN : Fld := ⟨0x60000, 0x1000, 0x0, 12, 12, .cmd, 0, 3⟩
/-- OD_CMD.OP, bits 3:0 (R422). -/
def F.OD_CMD_OP : Fld := ⟨0x60000, 0x1000, 0x0, 0, 4, .cmd, 0, 3⟩
/-- The register OD_CMD (R422). -/
def R.OD_CMD : RegDef := ⟨0x60000, 0x1000, 2, 0x0, 1, 3,
  [F.OD_CMD_STATUS, F.OD_CMD_INDEX, F.OD_CMD_SUB, F.OD_CMD_LEN, F.OD_CMD_OP]⟩

/-- OD_ABORT.CODE, bits 31:0 (R422). -/
def F.OD_ABORT_CODE : Fld := ⟨0x60008, 0x1000, 0x0, 0, 32, .ro, 0, 3⟩
/-- The register OD_ABORT (R422). -/
def R.OD_ABORT : RegDef := ⟨0x60008, 0x1000, 2, 0x0, 1, 3,
  [F.OD_ABORT_CODE]⟩

/-- OD_INFO.TYPE, bits 63:48 (R422). -/
def F.OD_INFO_TYPE : Fld := ⟨0x60010, 0x1000, 0x0, 48, 16, .ro, 0, 3⟩
/-- OD_INFO.ACCESS, bits 47:40 (R422). -/
def F.OD_INFO_ACCESS : Fld := ⟨0x60010, 0x1000, 0x0, 40, 8, .ro, 0, 3⟩
/-- OD_INFO.STORE, bits 39:38 (R422). -/
def F.OD_INFO_STORE : Fld := ⟨0x60010, 0x1000, 0x0, 38, 2, .ro, 0, 3⟩
/-- OD_INFO.LIVE, bits 37 (R422). -/
def F.OD_INFO_LIVE : Fld := ⟨0x60010, 0x1000, 0x0, 37, 1, .ro, 0, 3⟩
/-- The register OD_INFO (R422). -/
def R.OD_INFO : RegDef := ⟨0x60010, 0x1000, 2, 0x0, 1, 3,
  [F.OD_INFO_TYPE, F.OD_INFO_ACCESS, F.OD_INFO_STORE, F.OD_INFO_LIVE]⟩

/-- OD_DATA.DATA, bits 63:0 (R422). -/
def F.OD_DATA_DATA : Fld := ⟨0x60100, 0x1000, 0x8, 0, 64, .rw, 0, 3⟩
/-- The register OD_DATA (R422). -/
def R.OD_DATA : RegDef := ⟨0x60100, 0x1000, 2, 0x8, 128, 3,
  [F.OD_DATA_DATA]⟩

/-- RST_CAUSE.COUNT, bits 63:48 (R428). -/
def F.RST_CAUSE_COUNT : Fld := ⟨0x10000, 0x0, 0x0, 48, 16, .ro, 0, 4⟩
/-- RST_CAUSE.QUAL, bits 39:32 (R428). -/
def F.RST_CAUSE_QUAL : Fld := ⟨0x10000, 0x0, 0x0, 32, 8, .ro, 0, 4⟩
/-- RST_CAUSE.SOURCE, bits 26:24 (R428). -/
def F.RST_CAUSE_SOURCE : Fld := ⟨0x10000, 0x0, 0x0, 24, 3, .ro, 0, 4⟩
/-- RST_CAUSE.LEVEL, bits 18:16 (R428). -/
def F.RST_CAUSE_LEVEL : Fld := ⟨0x10000, 0x0, 0x0, 16, 3, .ro, 4, 4⟩
/-- RST_CAUSE.SCOPED, bits 0 (R428). -/
def F.RST_CAUSE_SCOPED : Fld := ⟨0x10000, 0x0, 0x0, 0, 1, .ro, 0, 4⟩
/-- The register RST_CAUSE (R428). -/
def R.RST_CAUSE : RegDef := ⟨0x10000, 0x0, 1, 0x0, 1, 4,
  [F.RST_CAUSE_COUNT, F.RST_CAUSE_QUAL, F.RST_CAUSE_SOURCE, F.RST_CAUSE_LEVEL, F.RST_CAUSE_SCOPED]⟩

/-- RST_CAUSE_SCOPE.FIELDS, bits 47:0 (R451). -/
def F.RST_CAUSE_SCOPE_FIELDS : Fld := ⟨0x10008, 0x0, 0x0, 0, 48, .ro, 0, 4⟩
/-- The register RST_CAUSE_SCOPE (R451). -/
def R.RST_CAUSE_SCOPE : RegDef := ⟨0x10008, 0x0, 1, 0x0, 1, 4,
  [F.RST_CAUSE_SCOPE_FIELDS]⟩

/-- RST_CMD.STATUS, bits 63:62 (R428). -/
def F.RST_CMD_STATUS : Fld := ⟨0x10010, 0x0, 0x0, 62, 2, .cmd, 0, 4⟩
/-- RST_CMD.FORCE, bits 55 (R428). -/
def F.RST_CMD_FORCE : Fld := ⟨0x10010, 0x0, 0x0, 55, 1, .cmd, 0, 4⟩
/-- RST_CMD.LEVEL, bits 51:48 (R428). -/
def F.RST_CMD_LEVEL : Fld := ⟨0x10010, 0x0, 0x0, 48, 4, .cmd, 0, 4⟩
/-- RST_CMD.OP, bits 3:0 (R428). -/
def F.RST_CMD_OP : Fld := ⟨0x10010, 0x0, 0x0, 0, 4, .cmd, 0, 4⟩
/-- The register RST_CMD (R428). -/
def R.RST_CMD : RegDef := ⟨0x10010, 0x0, 1, 0x0, 1, 4,
  [F.RST_CMD_STATUS, F.RST_CMD_FORCE, F.RST_CMD_LEVEL, F.RST_CMD_OP]⟩

/-- RST_SCOPE.ALL, bits 63 (R451). -/
def F.RST_SCOPE_ALL : Fld := ⟨0x10018, 0x0, 0x0, 63, 1, .rw, 1, 4⟩
/-- RST_SCOPE.FIELDS, bits 47:0 (R451). -/
def F.RST_SCOPE_FIELDS : Fld := ⟨0x10018, 0x0, 0x0, 0, 48, .rw, 0, 4⟩
/-- The register RST_SCOPE (R451). -/
def R.RST_SCOPE : RegDef := ⟨0x10018, 0x0, 1, 0x0, 1, 4,
  [F.RST_SCOPE_ALL, F.RST_SCOPE_FIELDS]⟩

/-- RST_STATE.ACTIVE, bits 63 (R451). -/
def F.RST_STATE_ACTIVE : Fld := ⟨0x10020, 0x0, 0x0, 63, 1, .ro, 0, 4⟩
/-- RST_STATE.LEVEL, bits 62:60 (R451). -/
def F.RST_STATE_LEVEL : Fld := ⟨0x10020, 0x0, 0x0, 60, 3, .ro, 0, 4⟩
/-- RST_STATE.HOLD, bits 59 (R451). -/
def F.RST_STATE_HOLD : Fld := ⟨0x10020, 0x0, 0x0, 59, 1, .ro, 0, 4⟩
/-- RST_STATE.PINLOW, bits 58 (R451). -/
def F.RST_STATE_PINLOW : Fld := ⟨0x10020, 0x0, 0x0, 58, 1, .ro, 0, 4⟩
/-- RST_STATE.STEP, bits 51:48 (R451). -/
def F.RST_STATE_STEP : Fld := ⟨0x10020, 0x0, 0x0, 48, 4, .ro, 0, 4⟩
/-- RST_STATE.FIELDS, bits 47:0 (R451). -/
def F.RST_STATE_FIELDS : Fld := ⟨0x10020, 0x0, 0x0, 0, 48, .ro, 0, 4⟩
/-- The register RST_STATE (R451). -/
def R.RST_STATE : RegDef := ⟨0x10020, 0x0, 1, 0x0, 1, 4,
  [F.RST_STATE_ACTIVE, F.RST_STATE_LEVEL, F.RST_STATE_HOLD, F.RST_STATE_PINLOW, F.RST_STATE_STEP, F.RST_STATE_FIELDS]⟩

/-- RST_LEVELS.CEIL, bits 47:24 (R451). -/
def F.RST_LEVELS_CEIL : Fld := ⟨0x10028, 0x0, 0x0, 24, 24, .ro, 0, 4⟩
/-- RST_LEVELS.LEVEL, bits 23:0 (R451). -/
def F.RST_LEVELS_LEVEL : Fld := ⟨0x10028, 0x0, 0x0, 0, 24, .ro, 0, 4⟩
/-- The register RST_LEVELS (R451). -/
def R.RST_LEVELS : RegDef := ⟨0x10028, 0x0, 1, 0x0, 1, 4,
  [F.RST_LEVELS_CEIL, F.RST_LEVELS_LEVEL]⟩

/-- RST_ISO.HOST, bits 63:32 (R445). -/
def F.RST_ISO_HOST : Fld := ⟨0x10030, 0x0, 0x0, 32, 32, .ro, 0, 4⟩
/-- RST_ISO.MSG, bits 31:0 (R445). -/
def F.RST_ISO_MSG : Fld := ⟨0x10030, 0x0, 0x0, 0, 32, .ro, 0, 4⟩
/-- The register RST_ISO (R445). -/
def R.RST_ISO : RegDef := ⟨0x10030, 0x0, 1, 0x0, 1, 4,
  [F.RST_ISO_HOST, F.RST_ISO_MSG]⟩

/-- RST_HIST_T.TIME, bits 63:0 (R452). -/
def F.RST_HIST_T_TIME : Fld := ⟨0x10100, 0x0, 0x10, 0, 64, .ro, 0, 4⟩
/-- The register RST_HIST_T (R452). -/
def R.RST_HIST_T : RegDef := ⟨0x10100, 0x0, 1, 0x10, 16, 4,
  [F.RST_HIST_T_TIME]⟩

/-- RST_HIST_I.FIELDS, bits 63:16 (R452). -/
def F.RST_HIST_I_FIELDS : Fld := ⟨0x10108, 0x0, 0x10, 16, 48, .ro, 0, 4⟩
/-- RST_HIST_I.VALID, bits 15 (R452). -/
def F.RST_HIST_I_VALID : Fld := ⟨0x10108, 0x0, 0x10, 15, 1, .ro, 0, 4⟩
/-- RST_HIST_I.MERGED, bits 14 (R452). -/
def F.RST_HIST_I_MERGED : Fld := ⟨0x10108, 0x0, 0x10, 14, 1, .ro, 0, 4⟩
/-- RST_HIST_I.ALL, bits 13 (R452). -/
def F.RST_HIST_I_ALL : Fld := ⟨0x10108, 0x0, 0x10, 13, 1, .ro, 0, 4⟩
/-- RST_HIST_I.SOURCE, bits 12:10 (R452). -/
def F.RST_HIST_I_SOURCE : Fld := ⟨0x10108, 0x0, 0x10, 10, 3, .ro, 0, 4⟩
/-- RST_HIST_I.LEVEL, bits 9:7 (R452). -/
def F.RST_HIST_I_LEVEL : Fld := ⟨0x10108, 0x0, 0x10, 7, 3, .ro, 0, 4⟩
/-- RST_HIST_I.QUAL, bits 6:3 (R452). -/
def F.RST_HIST_I_QUAL : Fld := ⟨0x10108, 0x0, 0x10, 3, 4, .ro, 0, 4⟩
/-- The register RST_HIST_I (R452). -/
def R.RST_HIST_I : RegDef := ⟨0x10108, 0x0, 1, 0x10, 16, 4,
  [F.RST_HIST_I_FIELDS, F.RST_HIST_I_VALID, F.RST_HIST_I_MERGED, F.RST_HIST_I_ALL, F.RST_HIST_I_SOURCE, F.RST_HIST_I_LEVEL, F.RST_HIST_I_QUAL]⟩

/-- FLD_RST.RESETS, bits 63:48 (R445). -/
def F.FLD_RST_RESETS : Fld := ⟨0x100400, 0x4000, 0x0, 48, 16, .ro, 0, 4⟩
/-- FLD_RST.INTRUDE, bits 47:32 (R445). -/
def F.FLD_RST_INTRUDE : Fld := ⟨0x100400, 0x4000, 0x0, 32, 16, .ro, 0, 4⟩
/-- FLD_RST.LSOURCE, bits 26:24 (R445). -/
def F.FLD_RST_LSOURCE : Fld := ⟨0x100400, 0x4000, 0x0, 24, 3, .ro, 0, 4⟩
/-- FLD_RST.LLEVEL, bits 18:16 (R445). -/
def F.FLD_RST_LLEVEL : Fld := ⟨0x100400, 0x4000, 0x0, 16, 3, .ro, 0, 4⟩
/-- FLD_RST.MIGRATE_CUT, bits 3 (R445). -/
def F.FLD_RST_MIGRATE_CUT : Fld := ⟨0x100400, 0x4000, 0x0, 3, 1, .w1c, 0, 4⟩
/-- FLD_RST.STATE, bits 2:0 (R445). -/
def F.FLD_RST_STATE : Fld := ⟨0x100400, 0x4000, 0x0, 0, 3, .ro, 0, 4⟩
/-- The register FLD_RST (R445). -/
def R.FLD_RST : RegDef := ⟨0x100400, 0x4000, 48, 0x0, 1, 4,
  [F.FLD_RST_RESETS, F.FLD_RST_INTRUDE, F.FLD_RST_LSOURCE, F.FLD_RST_LLEVEL, F.FLD_RST_MIGRATE_CUT, F.FLD_RST_STATE]⟩

/-- CLK_MREF.STATUS, bits 63:62 (R454). -/
def F.CLK_MREF_STATUS : Fld := ⟨0x20000, 0x0, 0x0, 62, 2, .cmd, 0, 3⟩
/-- CLK_MREF.READY, bits 50:48 (R454). -/
def F.CLK_MREF_READY : Fld := ⟨0x20000, 0x0, 0x0, 48, 3, .ro, 1, 3⟩
/-- CLK_MREF.REFUSED, bits 47 (R454). -/
def F.CLK_MREF_REFUSED : Fld := ⟨0x20000, 0x0, 0x0, 47, 1, .w1c, 0, 3⟩
/-- CLK_MREF.CUR_PORT, bits 42:40 (R454). -/
def F.CLK_MREF_CUR_PORT : Fld := ⟨0x20000, 0x0, 0x0, 40, 3, .ro, 7, 3⟩
/-- CLK_MREF.CUR_SRC, bits 35:34 (R454). -/
def F.CLK_MREF_CUR_SRC : Fld := ⟨0x20000, 0x0, 0x0, 34, 2, .ro, 0, 3⟩
/-- CLK_MREF.PORT, bits 6:4 (R454). -/
def F.CLK_MREF_PORT : Fld := ⟨0x20000, 0x0, 0x0, 4, 3, .cmd, 0, 3⟩
/-- CLK_MREF.SRC, bits 1:0 (R454). -/
def F.CLK_MREF_SRC : Fld := ⟨0x20000, 0x0, 0x0, 0, 2, .cmd, 0, 3⟩
/-- The register CLK_MREF (R454). -/
def R.CLK_MREF : RegDef := ⟨0x20000, 0x0, 1, 0x0, 1, 3,
  [F.CLK_MREF_STATUS, F.CLK_MREF_READY, F.CLK_MREF_REFUSED, F.CLK_MREF_CUR_PORT, F.CLK_MREF_CUR_SRC, F.CLK_MREF_PORT, F.CLK_MREF_SRC]⟩

/-- CLK_DIV.HOSTREQ, bits 55:48 (R461). -/
def F.CLK_DIV_HOSTREQ : Fld := ⟨0x20008, 0x0, 0x0, 48, 8, .rw, 0, 3⟩
/-- CLK_DIV.LOCALREQ, bits 47:40 (R461). -/
def F.CLK_DIV_LOCALREQ : Fld := ⟨0x20008, 0x0, 0x0, 40, 8, .ro, 0, 3⟩
/-- CLK_DIV.REASONS, bits 39:36 (R461). -/
def F.CLK_DIV_REASONS : Fld := ⟨0x20008, 0x0, 0x0, 36, 4, .ro, 0, 3⟩
/-- CLK_DIV.FLOOR, bits 31:24 (R461). -/
def F.CLK_DIV_FLOOR : Fld := ⟨0x20008, 0x0, 0x0, 24, 8, .ro, 0, 3⟩
/-- CLK_DIV.TARGET, bits 23:16 (R461). -/
def F.CLK_DIV_TARGET : Fld := ⟨0x20008, 0x0, 0x0, 16, 8, .ro, 16, 3⟩
/-- CLK_DIV.CURRENT, bits 15:8 (R461). -/
def F.CLK_DIV_CURRENT : Fld := ⟨0x20008, 0x0, 0x0, 8, 8, .ro, 16, 3⟩
/-- CLK_DIV.RAMPING, bits 0 (R461). -/
def F.CLK_DIV_RAMPING : Fld := ⟨0x20008, 0x0, 0x0, 0, 1, .ro, 0, 3⟩
/-- The register CLK_DIV (R461). -/
def R.CLK_DIV : RegDef := ⟨0x20008, 0x0, 1, 0x0, 1, 3,
  [F.CLK_DIV_HOSTREQ, F.CLK_DIV_LOCALREQ, F.CLK_DIV_REASONS, F.CLK_DIV_FLOOR, F.CLK_DIV_TARGET, F.CLK_DIV_CURRENT, F.CLK_DIV_RAMPING]⟩

/-- CLK_SSC.FREQ, bits 15:8 (R474). -/
def F.CLK_SSC_FREQ : Fld := ⟨0x20010, 0x0, 0x0, 8, 8, .ro, 33, 3⟩
/-- CLK_SSC.ACTIVE, bits 4 (R474). -/
def F.CLK_SSC_ACTIVE : Fld := ⟨0x20010, 0x0, 0x0, 4, 1, .ro, 0, 3⟩
/-- CLK_SSC.DEPTH, bits 3:0 (R474). -/
def F.CLK_SSC_DEPTH : Fld := ⟨0x20010, 0x0, 0x0, 0, 4, .ro, 0, 3⟩
/-- The register CLK_SSC (R474). -/
def R.CLK_SSC : RegDef := ⟨0x20010, 0x0, 1, 0x0, 1, 3,
  [F.CLK_SSC_FREQ, F.CLK_SSC_ACTIVE, F.CLK_SSC_DEPTH]⟩

/-- CLK_PLL.MOD, bits 49:48 (R474). -/
def F.CLK_PLL_MOD : Fld := ⟨0x20018, 0x0, 0x0, 48, 2, .ro, 0, 3⟩
/-- CLK_PLL.FIELD, bits 47:0 (R474). -/
def F.CLK_PLL_FIELD : Fld := ⟨0x20018, 0x0, 0x0, 0, 48, .ro, 0, 3⟩
/-- The register CLK_PLL (R474). -/
def R.CLK_PLL : RegDef := ⟨0x20018, 0x0, 1, 0x0, 1, 3,
  [F.CLK_PLL_MOD, F.CLK_PLL_FIELD]⟩

/-- CLK_GATE.EFF, bits 35:32 (R462). -/
def F.CLK_GATE_EFF : Fld := ⟨0x20020, 0x0, 0x0, 32, 4, .ro, 0, 4⟩
/-- CLK_GATE.MODE, bits 3:0 (R462). -/
def F.CLK_GATE_MODE : Fld := ⟨0x20020, 0x0, 0x0, 0, 4, .rw, 0, 4⟩
/-- The register CLK_GATE (R462). -/
def R.CLK_GATE : RegDef := ⟨0x20020, 0x0, 1, 0x0, 1, 4,
  [F.CLK_GATE_EFF, F.CLK_GATE_MODE]⟩

/-- FLD_GATE.EFF, bits 21:16 (R462). -/
def F.FLD_GATE_EFF : Fld := ⟨0x100600, 0x4000, 0x0, 16, 6, .ro, 0, 4⟩
/-- FLD_GATE.MODE, bits 5:0 (R462). -/
def F.FLD_GATE_MODE : Fld := ⟨0x100600, 0x4000, 0x0, 0, 6, .rw, 0, 4⟩
/-- The register FLD_GATE (R462). -/
def R.FLD_GATE : RegDef := ⟨0x100600, 0x4000, 48, 0x0, 1, 4,
  [F.FLD_GATE_EFF, F.FLD_GATE_MODE]⟩

/-- PWR_STATUS.VIN, bits 63:48 (R474). -/
def F.PWR_STATUS_VIN : Fld := ⟨0x30000, 0x0, 0x0, 48, 16, .ro, 0, 4⟩
/-- PWR_STATUS.IIN, bits 47:32 (R474). -/
def F.PWR_STATUS_IIN : Fld := ⟨0x30000, 0x0, 0x0, 32, 16, .ro, 0, 4⟩
/-- PWR_STATUS.TRIPCAUSE, bits 11:8 (R474). -/
def F.PWR_STATUS_TRIPCAUSE : Fld := ⟨0x30000, 0x0, 0x0, 8, 4, .ro, 0, 4⟩
/-- PWR_STATUS.TRIP, bits 7 (R474). -/
def F.PWR_STATUS_TRIP : Fld := ⟨0x30000, 0x0, 0x0, 7, 1, .ro, 0, 4⟩
/-- PWR_STATUS.LEAK, bits 6 (R474). -/
def F.PWR_STATUS_LEAK : Fld := ⟨0x30000, 0x0, 0x0, 6, 1, .ro, 0, 4⟩
/-- PWR_STATUS.BOWARN, bits 5 (R474). -/
def F.PWR_STATUS_BOWARN : Fld := ⟨0x30000, 0x0, 0x0, 5, 1, .ro, 0, 4⟩
/-- PWR_STATUS.STANDBY, bits 4 (R474). -/
def F.PWR_STATUS_STANDBY : Fld := ⟨0x30000, 0x0, 0x0, 4, 1, .ro, 0, 4⟩
/-- The register PWR_STATUS (R474). -/
def R.PWR_STATUS : RegDef := ⟨0x30000, 0x0, 1, 0x0, 1, 4,
  [F.PWR_STATUS_VIN, F.PWR_STATUS_IIN, F.PWR_STATUS_TRIPCAUSE, F.PWR_STATUS_TRIP, F.PWR_STATUS_LEAK, F.PWR_STATUS_BOWARN, F.PWR_STATUS_STANDBY]⟩

/-- PWR_BOR.WARNS, bits 63:48 (R474). -/
def F.PWR_BOR_WARNS : Fld := ⟨0x30008, 0x0, 0x0, 48, 16, .ro, 0, 4⟩
/-- PWR_BOR.VMIN, bits 47:32 (R474). -/
def F.PWR_BOR_VMIN : Fld := ⟨0x30008, 0x0, 0x0, 32, 16, .ro, 65535, 4⟩
/-- PWR_BOR.LEVEL, bits 31:16 (R474). -/
def F.PWR_BOR_LEVEL : Fld := ⟨0x30008, 0x0, 0x0, 16, 16, .ro, 4200, 4⟩
/-- The register PWR_BOR (R474). -/
def R.PWR_BOR : RegDef := ⟨0x30008, 0x0, 1, 0x0, 1, 4,
  [F.PWR_BOR_WARNS, F.PWR_BOR_VMIN, F.PWR_BOR_LEVEL]⟩

/-- PWR_CMD.STATUS, bits 63:62 (R474). -/
def F.PWR_CMD_STATUS : Fld := ⟨0x30010, 0x0, 0x0, 62, 2, .cmd, 0, 4⟩
/-- PWR_CMD.OP, bits 3:0 (R474). -/
def F.PWR_CMD_OP : Fld := ⟨0x30010, 0x0, 0x0, 0, 4, .cmd, 0, 4⟩
/-- The register PWR_CMD (R474). -/
def R.PWR_CMD : RegDef := ⟨0x30010, 0x0, 1, 0x0, 1, 4,
  [F.PWR_CMD_STATUS, F.PWR_CMD_OP]⟩

/-- THM_STATUS.STAGES, bits 63:60 (R474). -/
def F.THM_STATUS_STAGES : Fld := ⟨0x30100, 0x0, 0x0, 60, 4, .ro, 0, 4⟩
/-- THM_STATUS.DARK, bits 47:0 (R474). -/
def F.THM_STATUS_DARK : Fld := ⟨0x30100, 0x0, 0x0, 0, 48, .ro, 0, 4⟩
/-- The register THM_STATUS (R474). -/
def R.THM_STATUS : RegDef := ⟨0x30100, 0x0, 1, 0x0, 1, 4,
  [F.THM_STATUS_STAGES, F.THM_STATUS_DARK]⟩

/-- THM_TEMP.TMAX, bits 63:48 (R474). -/
def F.THM_TEMP_TMAX : Fld := ⟨0x30108, 0x0, 0x0, 48, 16, .ro, 0, 4⟩
/-- THM_TEMP.TMAX_FIELD, bits 47:42 (R474). -/
def F.THM_TEMP_TMAX_FIELD : Fld := ⟨0x30108, 0x0, 0x0, 42, 6, .ro, 0, 4⟩
/-- THM_TEMP.TMAX_DIODE, bits 41:38 (R474). -/
def F.THM_TEMP_TMAX_DIODE : Fld := ⟨0x30108, 0x0, 0x0, 38, 4, .ro, 0, 4⟩
/-- THM_TEMP.GRAD, bits 31:16 (R474). -/
def F.THM_TEMP_GRAD : Fld := ⟨0x30108, 0x0, 0x0, 16, 16, .ro, 0, 4⟩
/-- THM_TEMP.TMIN, bits 15:0 (R474). -/
def F.THM_TEMP_TMIN : Fld := ⟨0x30108, 0x0, 0x0, 0, 16, .ro, 0, 4⟩
/-- The register THM_TEMP (R474). -/
def R.THM_TEMP : RegDef := ⟨0x30108, 0x0, 1, 0x0, 1, 4,
  [F.THM_TEMP_TMAX, F.THM_TEMP_TMAX_FIELD, F.THM_TEMP_TMAX_DIODE, F.THM_TEMP_GRAD, F.THM_TEMP_TMIN]⟩

/-- FLD_PWR.POWER, bits 63:48 (R474). -/
def F.FLD_PWR_POWER : Fld := ⟨0x100500, 0x4000, 0x0, 48, 16, .ro, 0, 4⟩
/-- FLD_PWR.RAILS, bits 34:32 (R474). -/
def F.FLD_PWR_RAILS : Fld := ⟨0x100500, 0x4000, 0x0, 32, 3, .ro, 0, 4⟩
/-- FLD_PWR.DARKS, bits 31:16 (R474). -/
def F.FLD_PWR_DARKS : Fld := ⟨0x100500, 0x4000, 0x0, 16, 16, .ro, 0, 4⟩
/-- FLD_PWR.DARK, bits 1 (R474). -/
def F.FLD_PWR_DARK : Fld := ⟨0x100500, 0x4000, 0x0, 1, 1, .ro, 0, 4⟩
/-- FLD_PWR.OVER, bits 0 (R474). -/
def F.FLD_PWR_OVER : Fld := ⟨0x100500, 0x4000, 0x0, 0, 1, .ro, 0, 4⟩
/-- The register FLD_PWR (R474). -/
def R.FLD_PWR : RegDef := ⟨0x100500, 0x4000, 48, 0x0, 1, 4,
  [F.FLD_PWR_POWER, F.FLD_PWR_RAILS, F.FLD_PWR_DARKS, F.FLD_PWR_DARK, F.FLD_PWR_OVER]⟩

/-- FLD_THM.TMAX, bits 63:48 (R474). -/
def F.FLD_THM_TMAX : Fld := ⟨0x100508, 0x4000, 0x0, 48, 16, .ro, 0, 4⟩
/-- FLD_THM.DIODE, bits 47:44 (R474). -/
def F.FLD_THM_DIODE : Fld := ⟨0x100508, 0x4000, 0x0, 44, 4, .ro, 0, 4⟩
/-- The register FLD_THM (R474). -/
def R.FLD_THM : RegDef := ⟨0x100508, 0x4000, 48, 0x0, 1, 4,
  [F.FLD_THM_TMAX, F.FLD_THM_DIODE]⟩

/-- FLT_STATUS.LAST, bits 63:48 (R477). -/
def F.FLT_STATUS_LAST : Fld := ⟨0x40000, 0x0, 0x0, 48, 16, .ro, 0, 4⟩
/-- FLT_STATUS.ENTRIES, bits 47:16 (R477). -/
def F.FLT_STATUS_ENTRIES : Fld := ⟨0x40000, 0x0, 0x0, 16, 32, .ro, 0, 4⟩
/-- FLT_STATUS.LOST, bits 15:0 (R477). -/
def F.FLT_STATUS_LOST : Fld := ⟨0x40000, 0x0, 0x0, 0, 16, .ro, 0, 4⟩
/-- The register FLT_STATUS (R477). -/
def R.FLT_STATUS : RegDef := ⟨0x40000, 0x0, 1, 0x0, 1, 4,
  [F.FLT_STATUS_LAST, F.FLT_STATUS_ENTRIES, F.FLT_STATUS_LOST]⟩

/-- FLT_REPLAN.REASON, bits 63:56 (R495). -/
def F.FLT_REPLAN_REASON : Fld := ⟨0x40008, 0x0, 0x0, 56, 8, .ro, 0, 4⟩
/-- FLT_REPLAN.FIELDS, bits 47:0 (R495). -/
def F.FLT_REPLAN_FIELDS : Fld := ⟨0x40008, 0x0, 0x0, 0, 48, .ro, 0, 4⟩
/-- The register FLT_REPLAN (R495). -/
def R.FLT_REPLAN : RegDef := ⟨0x40008, 0x0, 1, 0x0, 1, 4,
  [F.FLT_REPLAN_REASON, F.FLT_REPLAN_FIELDS]⟩

/-- FLT_QPTR.CONS, bits 63:32 (R505). -/
def F.FLT_QPTR_CONS : Fld := ⟨0x40010, 0x0, 0x0, 32, 32, .rw, 0, 4⟩
/-- FLT_QPTR.PROD, bits 31:0 (R505). -/
def F.FLT_QPTR_PROD : Fld := ⟨0x40010, 0x0, 0x0, 0, 32, .ro, 0, 4⟩
/-- The register FLT_QPTR (R505). -/
def R.FLT_QPTR : RegDef := ⟨0x40010, 0x0, 1, 0x0, 1, 4,
  [F.FLT_QPTR_CONS, F.FLT_QPTR_PROD]⟩

/-- FLT_VEC.ENB, bits 15 (R505). -/
def F.FLT_VEC_ENB : Fld := ⟨0x40018, 0x0, 0x0, 15, 1, .rw, 0, 4⟩
/-- FLT_VEC.VECB, bits 13:8 (R505). -/
def F.FLT_VEC_VECB : Fld := ⟨0x40018, 0x0, 0x0, 8, 6, .rw, 0, 4⟩
/-- FLT_VEC.ENA, bits 7 (R505). -/
def F.FLT_VEC_ENA : Fld := ⟨0x40018, 0x0, 0x0, 7, 1, .rw, 0, 4⟩
/-- FLT_VEC.VECA, bits 5:0 (R505). -/
def F.FLT_VEC_VECA : Fld := ⟨0x40018, 0x0, 0x0, 0, 6, .rw, 0, 4⟩
/-- The register FLT_VEC (R505). -/
def R.FLT_VEC : RegDef := ⟨0x40018, 0x0, 1, 0x0, 1, 4,
  [F.FLT_VEC_ENB, F.FLT_VEC_VECB, F.FLT_VEC_ENA, F.FLT_VEC_VECA]⟩

/-- FLT_CMD.STATUS, bits 63:62 (R495). -/
def F.FLT_CMD_STATUS : Fld := ⟨0x40020, 0x0, 0x0, 62, 2, .cmd, 0, 4⟩
/-- FLT_CMD.FIELD, bits 53:48 (R495). -/
def F.FLT_CMD_FIELD : Fld := ⟨0x40020, 0x0, 0x0, 48, 6, .cmd, 0, 4⟩
/-- FLT_CMD.PX, bits 47:37 (R495). -/
def F.FLT_CMD_PX : Fld := ⟨0x40020, 0x0, 0x0, 37, 11, .cmd, 0, 4⟩
/-- FLT_CMD.PY, bits 36:27 (R495). -/
def F.FLT_CMD_PY : Fld := ⟨0x40020, 0x0, 0x0, 27, 10, .cmd, 0, 4⟩
/-- FLT_CMD.OP, bits 3:0 (R495). -/
def F.FLT_CMD_OP : Fld := ⟨0x40020, 0x0, 0x0, 0, 4, .cmd, 0, 4⟩
/-- The register FLT_CMD (R495). -/
def R.FLT_CMD : RegDef := ⟨0x40020, 0x0, 1, 0x0, 1, 4,
  [F.FLT_CMD_STATUS, F.FLT_CMD_FIELD, F.FLT_CMD_PX, F.FLT_CMD_PY, F.FLT_CMD_OP]⟩

/-- FLT_CPER_SEL.VALID, bits 63 (R503). -/
def F.FLT_CPER_SEL_VALID : Fld := ⟨0x40028, 0x0, 0x0, 63, 1, .ro, 0, 4⟩
/-- FLT_CPER_SEL.SEQ, bits 62:0 (R503). -/
def F.FLT_CPER_SEL_SEQ : Fld := ⟨0x40028, 0x0, 0x0, 0, 63, .rw, 0, 4⟩
/-- The register FLT_CPER_SEL (R503). -/
def R.FLT_CPER_SEL : RegDef := ⟨0x40028, 0x0, 1, 0x0, 1, 4,
  [F.FLT_CPER_SEL_VALID, F.FLT_CPER_SEL_SEQ]⟩

/-- FLT_CPER.DATA, bits 63:0 (R505). -/
def F.FLT_CPER_DATA : Fld := ⟨0x40400, 0x0, 0x8, 0, 64, .ro, 0, 4⟩
/-- The register FLT_CPER (R505). -/
def R.FLT_CPER : RegDef := ⟨0x40400, 0x0, 1, 0x8, 33, 4,
  [F.FLT_CPER_DATA]⟩

/-- FLT_QUEUE.DATA, bits 63:0 (R505). -/
def F.FLT_QUEUE_DATA : Fld := ⟨0x41000, 0x0, 0x8, 0, 64, .ro, 0, 4⟩
/-- The register FLT_QUEUE (R505). -/
def R.FLT_QUEUE : RegDef := ⟨0x41000, 0x0, 1, 0x8, 512, 4,
  [F.FLT_QUEUE_DATA]⟩

/-- FLD_FAULT.VALID, bits 63 (R477). -/
def F.FLD_FAULT_VALID : Fld := ⟨0x100720, 0x4000, 0x0, 63, 1, .w1c, 0, 1⟩
/-- FLD_FAULT.LXY, bits 55:36 (R477). -/
def F.FLD_FAULT_LXY : Fld := ⟨0x100720, 0x4000, 0x0, 36, 20, .ro, 0, 1⟩
/-- FLD_FAULT.COUNT, bits 31:16 (R477). -/
def F.FLD_FAULT_COUNT : Fld := ⟨0x100720, 0x4000, 0x0, 16, 16, .ro, 0, 1⟩
/-- FLD_FAULT.CODE, bits 15:0 (R477). -/
def F.FLD_FAULT_CODE : Fld := ⟨0x100720, 0x4000, 0x0, 0, 16, .ro, 0, 1⟩
/-- The register FLD_FAULT (R477). -/
def R.FLD_FAULT : RegDef := ⟨0x100720, 0x4000, 48, 0x0, 1, 1,
  [F.FLD_FAULT_VALID, F.FLD_FAULT_LXY, F.FLD_FAULT_COUNT, F.FLD_FAULT_CODE]⟩

/-- FLD_BLY.ROWS2, bits 63:56 (R487). -/
def F.FLD_BLY_ROWS2 : Fld := ⟨0x100700, 0x4000, 0x0, 56, 8, .ro, 0, 4⟩
/-- FLD_BLY.ROWS1, bits 55:48 (R487). -/
def F.FLD_BLY_ROWS1 : Fld := ⟨0x100700, 0x4000, 0x0, 48, 8, .ro, 0, 4⟩
/-- FLD_BLY.ROWS0, bits 47:40 (R487). -/
def F.FLD_BLY_ROWS0 : Fld := ⟨0x100700, 0x4000, 0x0, 40, 8, .ro, 0, 4⟩
/-- FLD_BLY.INTERVAL, bits 31:0 (R487). -/
def F.FLD_BLY_INTERVAL : Fld := ⟨0x100700, 0x4000, 0x0, 0, 32, .ro, 0, 4⟩
/-- The register FLD_BLY (R487). -/
def R.FLD_BLY : RegDef := ⟨0x100700, 0x4000, 48, 0x0, 1, 4,
  [F.FLD_BLY_ROWS2, F.FLD_BLY_ROWS1, F.FLD_BLY_ROWS0, F.FLD_BLY_INTERVAL]⟩

/-- FLD_BLY_CNT.MISMATCH, bits 63:56 (R505). -/
def F.FLD_BLY_CNT_MISMATCH : Fld := ⟨0x100708, 0x4000, 0x0, 56, 8, .ro, 0, 2⟩
/-- FLD_BLY_CNT.CHECKER, bits 55:48 (R505). -/
def F.FLD_BLY_CNT_CHECKER : Fld := ⟨0x100708, 0x4000, 0x0, 48, 8, .ro, 0, 2⟩
/-- FLD_BLY_CNT.IDLE, bits 47:32 (R505). -/
def F.FLD_BLY_CNT_IDLE : Fld := ⟨0x100708, 0x4000, 0x0, 32, 16, .ro, 0, 2⟩
/-- FLD_BLY_CNT.COMPARED, bits 31:0 (R505). -/
def F.FLD_BLY_CNT_COMPARED : Fld := ⟨0x100708, 0x4000, 0x0, 0, 32, .ro, 0, 2⟩
/-- The register FLD_BLY_CNT (R505). -/
def R.FLD_BLY_CNT : RegDef := ⟨0x100708, 0x4000, 48, 0x0, 1, 2,
  [F.FLD_BLY_CNT_MISMATCH, F.FLD_BLY_CNT_CHECKER, F.FLD_BLY_CNT_IDLE, F.FLD_BLY_CNT_COMPARED]⟩

/-- FLD_CREV.ROWS, bits 63:32 (R505). -/
def F.FLD_CREV_ROWS : Fld := ⟨0x100710, 0x4000, 0x0, 32, 32, .ro, 0, 4⟩
/-- FLD_CREV.COLS, bits 31:0 (R505). -/
def F.FLD_CREV_COLS : Fld := ⟨0x100710, 0x4000, 0x0, 0, 32, .ro, 0, 4⟩
/-- The register FLD_CREV (R505). -/
def R.FLD_CREV : RegDef := ⟨0x100710, 0x4000, 48, 0x0, 1, 4,
  [F.FLD_CREV_ROWS, F.FLD_CREV_COLS]⟩

/-- HX_HIST.BIN_ODD, bits 63:32 (R509). -/
def F.HX_HIST_BIN_ODD : Fld := ⟨0xC0200, 0x4000, 0x8, 32, 32, .ro, 0, 3⟩
/-- HX_HIST.BIN_EVEN, bits 31:0 (R509). -/
def F.HX_HIST_BIN_EVEN : Fld := ⟨0xC0200, 0x4000, 0x8, 0, 32, .ro, 0, 3⟩
/-- The register HX_HIST (R509). -/
def R.HX_HIST : RegDef := ⟨0xC0200, 0x4000, 6, 0x8, 20, 3,
  [F.HX_HIST_BIN_ODD, F.HX_HIST_BIN_EVEN]⟩

/-- FLD_TEL_CFG.STATUS, bits 63:62 (R506). -/
def F.FLD_TEL_CFG_STATUS : Fld := ⟨0x100800, 0x4000, 0x0, 62, 2, .cmd, 0, 2⟩
/-- FLD_TEL_CFG.SAMPLES, bits 47:16 (R506). -/
def F.FLD_TEL_CFG_SAMPLES : Fld := ⟨0x100800, 0x4000, 0x0, 16, 32, .ro, 0, 2⟩
/-- FLD_TEL_CFG.K, bits 12:8 (R506). -/
def F.FLD_TEL_CFG_K : Fld := ⟨0x100800, 0x4000, 0x0, 8, 5, .rw, 12, 2⟩
/-- FLD_TEL_CFG.FREEZE, bits 5 (R506). -/
def F.FLD_TEL_CFG_FREEZE : Fld := ⟨0x100800, 0x4000, 0x0, 5, 1, .rw, 0, 2⟩
/-- FLD_TEL_CFG.EN, bits 4 (R506). -/
def F.FLD_TEL_CFG_EN : Fld := ⟨0x100800, 0x4000, 0x0, 4, 1, .rw, 1, 2⟩
/-- FLD_TEL_CFG.OP, bits 3:0 (R506). -/
def F.FLD_TEL_CFG_OP : Fld := ⟨0x100800, 0x4000, 0x0, 0, 4, .cmd, 0, 2⟩
/-- The register FLD_TEL_CFG (R506). -/
def R.FLD_TEL_CFG : RegDef := ⟨0x100800, 0x4000, 48, 0x0, 1, 2,
  [F.FLD_TEL_CFG_STATUS, F.FLD_TEL_CFG_SAMPLES, F.FLD_TEL_CFG_K, F.FLD_TEL_CFG_FREEZE, F.FLD_TEL_CFG_EN, F.FLD_TEL_CFG_OP]⟩

/-- FLD_TEL_ACYC.ACYC, bits 63:0 (R511). -/
def F.FLD_TEL_ACYC_ACYC : Fld := ⟨0x100808, 0x4000, 0x0, 0, 64, .ro, 0, 2⟩
/-- The register FLD_TEL_ACYC (R511). -/
def R.FLD_TEL_ACYC : RegDef := ⟨0x100808, 0x4000, 48, 0x0, 1, 2,
  [F.FLD_TEL_ACYC_ACYC]⟩

/-- FLD_TEL_LIVE.ACYC, bits 63:0 (R511). -/
def F.FLD_TEL_LIVE_ACYC : Fld := ⟨0x100810, 0x4000, 0x0, 0, 64, .ro, 0, 2⟩
/-- The register FLD_TEL_LIVE (R511). -/
def R.FLD_TEL_LIVE : RegDef := ⟨0x100810, 0x4000, 48, 0x0, 1, 2,
  [F.FLD_TEL_LIVE_ACYC]⟩

/-- FLD_TEL_ENERGY.MJ, bits 63:0 (R511). -/
def F.FLD_TEL_ENERGY_MJ : Fld := ⟨0x100818, 0x4000, 0x0, 0, 64, .ro, 0, 4⟩
/-- The register FLD_TEL_ENERGY (R511). -/
def R.FLD_TEL_ENERGY : RegDef := ⟨0x100818, 0x4000, 48, 0x0, 1, 4,
  [F.FLD_TEL_ENERGY_MJ]⟩

/-- FLD_TEL_I.VCOMP, bits 47:32 (R511). -/
def F.FLD_TEL_I_VCOMP : Fld := ⟨0x100820, 0x4000, 0x0, 32, 16, .ro, 0, 4⟩
/-- FLD_TEL_I.VFAB, bits 31:16 (R511). -/
def F.FLD_TEL_I_VFAB : Fld := ⟨0x100820, 0x4000, 0x0, 16, 16, .ro, 0, 4⟩
/-- FLD_TEL_I.VDRAM, bits 15:0 (R511). -/
def F.FLD_TEL_I_VDRAM : Fld := ⟨0x100820, 0x4000, 0x0, 0, 16, .ro, 0, 4⟩
/-- The register FLD_TEL_I (R511). -/
def R.FLD_TEL_I : RegDef := ⟨0x100820, 0x4000, 48, 0x0, 1, 4,
  [F.FLD_TEL_I_VCOMP, F.FLD_TEL_I_VFAB, F.FLD_TEL_I_VDRAM]⟩

/-- FLD_TEL_DIODE.TEMP, bits 63:0 (R511). -/
def F.FLD_TEL_DIODE_TEMP : Fld := ⟨0x100828, 0x4000, 0x8, 0, 64, .ro, 0, 4⟩
/-- The register FLD_TEL_DIODE (R511). -/
def R.FLD_TEL_DIODE : RegDef := ⟨0x100828, 0x4000, 48, 0x8, 4, 4,
  [F.FLD_TEL_DIODE_TEMP]⟩

/-- TEL_HIST_SEL.RAIL, bits 7:6 (R512). -/
def F.TEL_HIST_SEL_RAIL : Fld := ⟨0x50000, 0x0, 0x0, 6, 2, .rw, 0, 4⟩
/-- TEL_HIST_SEL.FIELD, bits 5:0 (R512). -/
def F.TEL_HIST_SEL_FIELD : Fld := ⟨0x50000, 0x0, 0x0, 0, 6, .rw, 0, 4⟩
/-- The register TEL_HIST_SEL (R512). -/
def R.TEL_HIST_SEL : RegDef := ⟨0x50000, 0x0, 1, 0x0, 1, 4,
  [F.TEL_HIST_SEL_RAIL, F.TEL_HIST_SEL_FIELD]⟩

/-- TEL_HIST.I, bits 63:0 (R512). -/
def F.TEL_HIST_I : Fld := ⟨0x50008, 0x0, 0x8, 0, 64, .ro, 0, 4⟩
/-- The register TEL_HIST (R512). -/
def R.TEL_HIST : RegDef := ⟨0x50008, 0x0, 1, 0x8, 16, 4,
  [F.TEL_HIST_I]⟩

/-- TEL_TIME.REF, bits 63:0 (R513). -/
def F.TEL_TIME_REF : Fld := ⟨0x50100, 0x0, 0x0, 0, 64, .ro, 0, 4⟩
/-- The register TEL_TIME (R513). -/
def R.TEL_TIME : RegDef := ⟨0x50100, 0x0, 1, 0x0, 1, 4,
  [F.TEL_TIME_REF]⟩

/-- TEL_PPS.REF, bits 63:0 (R513). -/
def F.TEL_PPS_REF : Fld := ⟨0x50108, 0x0, 0x0, 0, 64, .ro, 0, 4⟩
/-- The register TEL_PPS (R513). -/
def R.TEL_PPS : RegDef := ⟨0x50108, 0x0, 1, 0x0, 1, 4,
  [F.TEL_PPS_REF]⟩

/-- TEL_TOD.SEC, bits 63:2 (R513). -/
def F.TEL_TOD_SEC : Fld := ⟨0x50110, 0x0, 0x0, 2, 62, .ro, 0, 4⟩
/-- TEL_TOD.ANCHOR, bits 1 (R513). -/
def F.TEL_TOD_ANCHOR : Fld := ⟨0x50110, 0x0, 0x0, 1, 1, .ro, 0, 4⟩
/-- TEL_TOD.VALID, bits 0 (R513). -/
def F.TEL_TOD_VALID : Fld := ⟨0x50110, 0x0, 0x0, 0, 1, .ro, 0, 4⟩
/-- The register TEL_TOD (R513). -/
def R.TEL_TOD : RegDef := ⟨0x50110, 0x0, 1, 0x0, 1, 4,
  [F.TEL_TOD_SEC, F.TEL_TOD_ANCHOR, F.TEL_TOD_VALID]⟩

/-- TEL_CFG.K, bits 12:8 (R509). -/
def F.TEL_CFG_K : Fld := ⟨0x50118, 0x0, 0x0, 8, 5, .rw, 12, 3⟩
/-- TEL_CFG.EN, bits 0 (R509). -/
def F.TEL_CFG_EN : Fld := ⟨0x50118, 0x0, 0x0, 0, 1, .rw, 1, 3⟩
/-- The register TEL_CFG (R509). -/
def R.TEL_CFG : RegDef := ⟨0x50118, 0x0, 1, 0x0, 1, 3,
  [F.TEL_CFG_K, F.TEL_CFG_EN]⟩

/-- SVY_SEL.EN, bits 63 (R516). -/
def F.SVY_SEL_EN : Fld := ⟨0x2C0000, 0x0, 0x8, 63, 1, .rw, 0, 3⟩
/-- SVY_SEL.TARGET, bits 19:0 (R516). -/
def F.SVY_SEL_TARGET : Fld := ⟨0x2C0000, 0x0, 0x8, 0, 20, .rw, 0, 3⟩
/-- The register SVY_SEL (R516). -/
def R.SVY_SEL : RegDef := ⟨0x2C0000, 0x0, 1, 0x8, 3, 3,
  [F.SVY_SEL_EN, F.SVY_SEL_TARGET]⟩

/-- SVY_STAT.LAST, bits 63:60 (R516). -/
def F.SVY_STAT_LAST : Fld := ⟨0x2C0100, 0x0, 0x8, 60, 4, .ro, 0, 3⟩
/-- SVY_STAT.DENIED, bits 47:32 (R516). -/
def F.SVY_STAT_DENIED : Fld := ⟨0x2C0100, 0x0, 0x8, 32, 16, .ro, 0, 3⟩
/-- SVY_STAT.ERR, bits 31:16 (R516). -/
def F.SVY_STAT_ERR : Fld := ⟨0x2C0100, 0x0, 0x8, 16, 16, .ro, 0, 3⟩
/-- SVY_STAT.OPS, bits 15:0 (R516). -/
def F.SVY_STAT_OPS : Fld := ⟨0x2C0100, 0x0, 0x8, 0, 16, .ro, 0, 3⟩
/-- The register SVY_STAT (R516). -/
def R.SVY_STAT : RegDef := ⟨0x2C0100, 0x0, 1, 0x8, 3, 3,
  [F.SVY_STAT_LAST, F.SVY_STAT_DENIED, F.SVY_STAT_ERR, F.SVY_STAT_OPS]⟩

/-- FLD_TRACE.SECTION, bits 63:48 (R519). -/
def F.FLD_TRACE_SECTION : Fld := ⟨0x100880, 0x4000, 0x8, 48, 16, .ro, 0, 1⟩
/-- FLD_TRACE.COLOUR, bits 47:44 (R519). -/
def F.FLD_TRACE_COLOUR : Fld := ⟨0x100880, 0x4000, 0x8, 44, 4, .ro, 0, 1⟩
/-- FLD_TRACE.INV, bits 43:33 (R519). -/
def F.FLD_TRACE_INV : Fld := ⟨0x100880, 0x4000, 0x8, 33, 11, .ro, 0, 1⟩
/-- FLD_TRACE.FAULTED, bits 32 (R519). -/
def F.FLD_TRACE_FAULTED : Fld := ⟨0x100880, 0x4000, 0x8, 32, 1, .ro, 0, 1⟩
/-- FLD_TRACE.ACYC, bits 31:0 (R519). -/
def F.FLD_TRACE_ACYC : Fld := ⟨0x100880, 0x4000, 0x8, 0, 32, .ro, 0, 1⟩
/-- The register FLD_TRACE (R519). -/
def R.FLD_TRACE : RegDef := ⟨0x100880, 0x4000, 48, 0x8, 16, 1,
  [F.FLD_TRACE_SECTION, F.FLD_TRACE_COLOUR, F.FLD_TRACE_INV, F.FLD_TRACE_FAULTED, F.FLD_TRACE_ACYC]⟩

/-- Every register of the BAR0 window (R10 to R13). -/
def bar0RegTable : List RegDef :=
  [R.FLD_SEAM_E, R.FLD_SEAM_N, R.BC_IMG_STATUS, R.BC_IMG_ID_LO, R.BC_IMG_ID_HI, R.BC_IMG_CMD, R.FLD_SEC, R.FLD_INV, R.FLD_HOLD, R.FLD_STK_USE, R.FLD_STK_REF, R.FLD_STK_ECC] ++
  [R.FLD_STK_SCRUB, R.HP_APW, R.HP_APW_STAT, R.HX_CTRL, R.HX_CMD, R.HX_STATUS, R.HX_LANES, R.HX_LAT, R.HX_FEC, R.HX_ERR, R.HX_SCHED, R.HX_FC] ++
  [R.HX_TOPO, R.HX_RING, R.BC_ROPE_CMD, R.BC_ROPE_STATUS, R.BC_ROPE_ACYC, R.BC_ROPE_CKP, R.BC_ROPE_CLEAR, R.BC_ROPE_RATIO, R.BC_ROPE_CFG, R.BC_ROPE_CRN, R.CRN_STAT, R.CRN_LAST_LO] ++
  [R.CRN_LAST_HI, R.HP_LINK, R.HP_LEASE, R.HP_LEASE_OP, R.HP_EVENT, R.LDG_STATUS, R.LDG_STAT, R.LDG_JRNL, R.BC_TRUST_STATUS, R.BC_TRUST_ID, R.BC_SEAL_CMD, R.BC_OWNER_CMD] ++
  [R.BC_OWNER_CTR, R.BC_DBG_CMD, R.BC_DBG_CHAL, R.BC_ID, R.BC_BOOT, R.BC_PAIRS, R.BC_SVY_CFG, R.FLD_SVY, R.FLD_SVY_CMD, R.FLD_BLOOM, R.OD_CMD, R.OD_ABORT] ++
  [R.OD_INFO, R.OD_DATA, R.RST_CAUSE, R.RST_CAUSE_SCOPE, R.RST_CMD, R.RST_SCOPE, R.RST_STATE, R.RST_LEVELS, R.RST_ISO, R.RST_HIST_T, R.RST_HIST_I, R.FLD_RST] ++
  [R.CLK_MREF, R.CLK_DIV, R.CLK_SSC, R.CLK_PLL, R.CLK_GATE, R.FLD_GATE, R.PWR_STATUS, R.PWR_BOR, R.PWR_CMD, R.THM_STATUS, R.THM_TEMP, R.FLD_PWR] ++
  [R.FLD_THM, R.FLT_STATUS, R.FLT_REPLAN, R.FLT_QPTR, R.FLT_VEC, R.FLT_CMD, R.FLT_CPER_SEL, R.FLT_CPER, R.FLT_QUEUE, R.FLD_FAULT, R.FLD_BLY, R.FLD_BLY_CNT] ++
  [R.FLD_CREV, R.HX_HIST, R.FLD_TEL_CFG, R.FLD_TEL_ACYC, R.FLD_TEL_LIVE, R.FLD_TEL_ENERGY, R.FLD_TEL_I, R.FLD_TEL_DIODE, R.TEL_HIST_SEL, R.TEL_HIST, R.TEL_TIME, R.TEL_PPS] ++
  [R.TEL_TOD, R.TEL_CFG, R.SVY_SEL, R.SVY_STAT, R.FLD_TRACE]

end Sys2Proof.Machine
end

