-- ==== Sys2Proof/Machine/DictTypes.lean ====
section
/-!
DEFINITION. Sys2Proof/Machine/DictTypes.lean: the object dictionary's entries and the state of its transports (spec
13_dictionary, and the entries that other chapters name).
-/

namespace Sys2Proof.Machine

/-- Entry access codes (R406, OD_INFO.ACCESS). -/
inductive OdAcc where
  | const
  | ro
  | rw
  | cmd
  deriving DecidableEq, Repr

/-- Storage classes (R407, OD_INFO.STORE). -/
inductive OdStore where
  | volatile
  | module
  | profile
  deriving DecidableEq, Repr

/-- One entry: key (index × 256 + subindex), CiA 301 type code and bytes (0 for strings and domains), access, storage, live
flag, default and range (R404). -/
structure Ent where
  key : Nat
  type : Nat
  size : Nat
  acc : OdAcc
  store : OdStore
  live : Bool
  dflt : Nat
  lo : Nat
  hi : Nat
  deriving DecidableEq, Repr

/-- The key of an entry. -/
def odKey (ix sub : Nat) : Nat := ix * 256 + sub

/-- Type codes (R405). -/
def tyBool : Nat := 1
def tyI16 : Nat := 3
def tyU8 : Nat := 5
def tyU16 : Nat := 6
def tyU32 : Nat := 7
def tyU64 : Nat := 0x1B
def tyStr : Nat := 9
def tyDom : Nat := 0xF

/-- Bytes of a type; 0 where they vary. -/
def tySize (t : Nat) : Nat :=
  if t = 1 then 1 else if t = 3 then 2 else if t = 5 then 1 else if t = 6 then 2 else if t = 7 then 4
  else if t = 0x1B then 8 else 0

/-- An entry whose range is that of its type. -/
def ent (ix sub t : Nat) (a : OdAcc) (st : OdStore) (live : Bool) (d : Nat) : Ent :=
  ⟨odKey ix sub, t, tySize t, a, st, live, d, 0, if t = 1 then 1 else 2 ^ (8 * tySize t) - 1⟩

/-- An entry with a range of its own. -/
def entR (ix sub t : Nat) (a : OdAcc) (st : OdStore) (live : Bool) (d lo hi : Nat) : Ent :=
  { ent ix sub t a st live d with lo := lo, hi := hi }

/-- Subindex 0 of an index with several subindices (R404). -/
def ent0 (ix n : Nat) : Ent := ent ix 0 tyU8 .const .volatile false n

/-- The communication and identity entries. COB-ID defaults that add a node ID are computed where they are read. -/
def odComm : List Ent :=
  [ent 0x1000 0 tyU32 .const .volatile false 0, ent 0x1001 0 tyU8 .ro .volatile false 0,
   ent 0x1008 0 tyStr .const .volatile false 0, ent 0x100A 0 tyStr .ro .volatile false 0,
   ent0 0x1010 1, ent 0x1010 1 tyU32 .cmd .volatile false 0, ent0 0x1011 1, ent 0x1011 1 tyU32 .cmd .volatile false 0,
   ent 0x1014 0 tyU32 .rw .module false 0xC0, ent 0x1017 0 tyU16 .rw .module true 1000,
   ent0 0x1018 4, ent 0x1018 1 tyU32 .const .volatile false 0x1FE7, ent 0x1018 2 tyU32 .const .volatile false 0x9A00,
   ent 0x1018 3 tyU32 .const .volatile false 0, ent 0x1018 4 tyU32 .const .volatile false 0] ++
  [ent0 0x1400 1, ent 0x1400 1 tyU32 .rw .module false 0x190, ent0 0x1600 3, ent 0x1600 1 tyU32 .rw .module false 0x23000110,
   ent 0x1600 2 tyU32 .rw .module false 0x23000210, ent 0x1600 3 tyU32 .rw .module false 0x23000A08,
   ent0 0x1800 5, ent 0x1800 1 tyU32 .rw .module false 0x1C0, ent 0x1800 3 tyU16 .rw .module false 100,
   ent 0x1800 5 tyU16 .rw .module false 100, ent0 0x1A00 4, ent 0x1A00 1 tyU32 .rw .module false 0x23000810,
   ent 0x1A00 2 tyU32 .rw .module false 0x23000310, ent 0x1A00 3 tyU32 .rw .module false 0x40000110,
   ent 0x1A00 4 tyU32 .rw .module false 0x23000908] ++
  [ent0 0x1801 1, ent 0x1801 1 tyU32 .rw .module false 0x2C0, ent0 0x1A01 3, ent 0x1A01 1 tyU32 .rw .module false 0x40000210,
   ent 0x1A01 2 tyU32 .rw .module false 0x40000310, ent 0x1A01 3 tyU32 .rw .module false 0x50000110]

/-- Profile, CAN, clock, coolant and power entries. -/
def odProfile : List Ent :=
  [ent0 0x2000 5, ent 0x2000 1 tyU8 .ro .volatile false 0, entR 0x2000 2 tyU8 .cmd .volatile false 0 0 255,
   ent 0x2000 3 tyU8 .ro .volatile false 0, entR 0x2000 4 tyU8 .rw .volatile false 0xFF 0 3,
   ent 0x2000 5 tyU8 .ro .volatile false 0xFF, ent0 0x2010 1, ent 0x2010 1 tyU32 .rw .profile true 0x3F,
   ent0 0x2020 6, entR 0x2020 1 tyU8 .rw .module false 0x40 1 127, entR 0x2020 2 tyU8 .rw .module false 2 0 3,
   entR 0x2020 3 tyU8 .rw .module false 1 0 3, ent 0x2020 4 tyBool .rw .module true 0,
   entR 0x2020 5 tyU8 .rw .module true 0x10 1 127, ent 0x2020 6 tyBool .rw .module true 1] ++
  [ent0 0x2040 1, ent 0x2040 1 tyU8 .rw .module true 0x3F, ent0 0x2050 4, ent 0x2050 1 tyU32 .rw .module true 0,
   ent 0x2050 2 tyU32 .rw .module true 0, ent 0x2050 3 tyU32 .rw .module true 0, ent 0x2050 4 tyU16 .rw .module true 4120,
   ent0 0x2100 2, entR 0x2100 1 tyU8 .rw .profile false 8 8 32, entR 0x2100 2 tyU8 .rw .module false 0 0 2,
   ent0 0x2110 2, entR 0x2110 1 tyU8 .rw .profile false 0 0 10, entR 0x2110 2 tyU8 .rw .profile false 33 30 63] ++
  [ent0 0x2300 10, ent 0x2300 1 tyI16 .ro .volatile false 0, ent 0x2300 2 tyU16 .ro .volatile false 0,
   ent 0x2300 3 tyI16 .ro .volatile false 0, ent 0x2300 4 tyBool .rw .profile true 0, ent 0x2300 5 tyU16 .rw .profile true 0,
   entR 0x2300 6 tyU16 .rw .profile true 1000 300 1500, entR 0x2300 7 tyU16 .rw .module true 416 300 450,
   ent 0x2300 8 tyU16 .ro .volatile false 4000, ent 0x2300 9 tyU8 .ro .volatile false 0,
   ent 0x2300 10 tyU8 .ro .volatile false 0] ++
  [ent0 0x2400 1, entR 0x2400 1 tyU16 .rw .profile true 420 400 460, ent0 0x2410 2,
   ent 0x2410 1 tyU32 .rw .profile false 36000, ent 0x2410 2 tyU16 .rw .profile false 820,
   ent0 0x2600 3, ent 0x2600 1 tyU8 .cmd .volatile false 0, ent 0x2600 2 tyDom .rw .volatile false 0,
   ent 0x2600 3 tyDom .ro .volatile false 0]

/-- Reset, telemetry, fault, Hexkel, ledger and trust entries. -/
def odRest : List Ent :=
  ent0 0x3000 8 :: (List.range 8).map (fun k => ent 0x3000 (k + 1) tyU8 .rw .profile false 0) ++
  ent0 0x3010 8 :: (List.range 8).map (fun k => ent 0x3010 (k + 1) tyU8 .ro .volatile false 0) ++
  [ent0 0x3020 2, ent 0x3020 1 tyU32 .cmd .volatile false 0, ent 0x3020 2 tyU64 .rw .volatile false 0,
   ent0 0x4000 3, ent 0x4000 1 tyU32 .ro .volatile false 0, ent 0x4000 2 tyU16 .ro .volatile false 0,
   ent 0x4000 3 tyU16 .ro .volatile false 0, ent0 0x4010 1, ent 0x4010 1 tyU64 .rw .volatile true 0,
   ent0 0x4020 3, ent 0x4020 1 tyU32 .rw .volatile true 0, ent 0x4020 2 tyU32 .rw .volatile true 0,
   ent 0x4020 3 tyU64 .rw .volatile true 0] ++
  [ent0 0x5000 1, ent 0x5000 1 tyU16 .ro .volatile false 0, ent0 0x5010 5, ent 0x5010 1 tyU64 .rw .volatile true 0,
   ent 0x5010 2 tyDom .ro .volatile false 0, ent 0x5010 3 tyDom .ro .volatile false 0,
   ent 0x5010 4 tyU32 .rw .volatile true 0, ent 0x5010 5 tyU64 .ro .volatile false 0, ent0 0x5020 48] ++
  (List.range 48).map (fun k => ent 0x5020 (k + 1) tyDom .ro .volatile false 0) ++
  [ent0 0x5100 3, ent 0x5100 1 tyU32 .rw .profile true 4096, entR 0x5100 2 tyU16 .rw .profile true 168 1 8760,
   ent 0x5100 3 tyU32 .rw .profile true 1000, ent0 0x6000 1, entR 0x6000 1 tyU8 .rw .profile true 24 1 24,
   ent0 0x6010 5, entR 0x6010 1 tyU16 .rw .module false 0 0 0x7FFF, entR 0x6010 2 tyU8 .rw .module false 0 0 31,
   entR 0x6010 3 tyU8 .rw .module false 0 0 31, entR 0x6010 4 tyU8 .rw .module false 0 0 31,
   ent 0x6010 5 tyU8 .cmd .volatile false 0] ++
  [ent0 0x7000 3, entR 0x7000 1 tyU16 .rw .module true 5 1 1000, entR 0x7000 2 tyU16 .rw .module true 100 10 10000,
   ent 0x7000 3 tyBool .rw .module true 0, ent0 0x7010 2, ent 0x7010 1 tyU16 .rw .module false 0x1FE7,
   ent 0x7010 2 tyU16 .rw .module false 0, ent0 0x7100 1, ent 0x7100 1 tyU32 .cmd .volatile false 0,
   ent0 0x8000 1, ent 0x8000 1 tyU64 .ro .volatile false 0]

/-- Every entry, in rising order of index and subindex. -/
def odTable : List Ent := odComm ++ odProfile ++ odRest

/-- The entry with a key. -/
def odFind (key : Nat) : Option Ent := odTable.find? (fun e => e.key = key)

/-- The factory value of a profile-stored entry in a slot (R423). -/
def factory (slot : Nat) (e : Ent) : Nat :=
  if e.key = odKey 0x2100 1 then [16, 8, 10, 8].getD slot 8
  else if e.key = odKey 0x2410 1 then [20000, 36000, 28000, 36000].getD slot 36000
  else if e.key = odKey 0x2410 2 then [500, 820, 640, 820].getD slot 820
  else if e.key = odKey 0x5100 1 then [1024, 4096, 4096, 4096].getD slot 4096
  else e.dflt

/-- NMT states of the CANopen node (R413). -/
inductive Nmt where
  | off
  | preOperational
  | operational
  | stopped
  deriving DecidableEq, Repr

/-- A segmented SDO transfer (R412): the source (0 CAN, else the UDP source plus 1), entry key, whether it is a download,
the bytes so far or still to send, the toggle bit expected, and the size announced. -/
structure Sdo where
  source : Nat
  key : Nat
  download : Bool
  data : List Nat
  toggle : Bool
  size : Nat
  deriving DecidableEq, Repr

/-- A standalone test or burn-in (R398, R399): stored image index, refcycle at which a burn-in ends (none for one run), whether
its invocation has been issued, and the invocation's sequence number. -/
structure SoloTest where
  index : Nat
  until_ : Option Nat
  issued : Bool
  seqNo : Nat
  deriving DecidableEq, Repr

/-- The dictionary's own state. A listed value is held as one more than it is. -/
structure DictSt where
  /-- working values by key, unlisted at the default in force -/
  work : SMap Nat
  /-- values in effect of entries that are not live, where they differ from the working value: taken at an L2 release -/
  effect : SMap Nat
  /-- module-stored values in configuration flash -/
  stored : SMap Nat
  /-- saved values of slots 1 to 3, by slot × 2^24 + key; and slots whose record fails its check -/
  slots : SMap Nat
  badSlots : List Nat
  /-- bytes of the DOMAIN entries that hold data: 0x2600:02 and :03 -/
  params : List Nat
  results : List Nat
  test : Option SoloTest
  /-- abort code of the last command by entry key, with the status (0 done, 1 busy, 2 refused) -/
  cmdStatus : SMap Nat
  nmt : Nmt
  node : Nat
  sdo : List Sdo
  /-- refcycle of the last EMCY and of the last TPDO1, plus 1; 0 for none -/
  lastEmcy : Nat
  lastTpdo1 : Nat
  /-- coolant status byte that TPDO1 last carried -/
  sentStatus : Nat
  deriving DecidableEq, Repr

/-- The dictionary after L4, before its loads. -/
def DictSt.zero : DictSt where
  work := []
  effect := []
  stored := []
  slots := []
  badSlots := []
  params := List.replicate 32 0
  results := []
  test := none
  cmdStatus := []
  nmt := .off
  node := 0x40
  sdo := []
  lastEmcy := 0
  lastTpdo1 := 0
  sentStatus := 0

end Sys2Proof.Machine
end

