-- ==== Sys2Proof/Machine/Image.lean ====
section
/-!
DEFINITION. Sys2Proof/Machine/Image.lean: the plaintext Guzel image read by its layouts (05_sections R171 to R174, 06 R187, 07
R216, 09 R270, R294). An image is a byte string; every accessor is total.
-/

namespace Sys2Proof.Machine

/-- The image header and directory (R171). -/
structure Img where
  blob : Blob
  deriving DecidableEq, Repr

def Img.u (m : Img) (off n : Nat) : Nat := m.blob.le off n
/-- Header fields (R171). -/
def Img.magic (m : Img) : Nat := m.u 0 4
def Img.length (m : Img) : Nat := m.u 8 8
def Img.layers (m : Img) : Nat := m.u 0x12 1
def Img.flags (m : Img) : Nat := m.u 0x13 1
def Img.build (m : Img) : Nat := m.u 0x14 4
def Img.idLo (m : Img) : Nat := m.u 0x18 8
def Img.idHi (m : Img) : Nat := m.u 0x20 8
def Img.fieldMode (m : Img) (f : Nat) : Nat := bits (m.u 0x28 12) (2 * f) 2
def Img.portWidth (m : Img) (p : Nat) : Nat := m.u (0x34 + p) 1
def Img.sections (m : Img) : Nat := m.u 0x3C 2
def Img.entries (m : Img) : Nat := m.u 0x3E 2
def Img.roles (m : Img) : Nat := m.u 0x40 2
/-- Offset and length of directory part `k`. -/
def Img.dirOff (m : Img) (k : Nat) : Nat := m.u (0x48 + 16 * k) 8
def Img.dirLen (m : Img) (k : Nat) : Nat := m.u (0x50 + 16 * k) 8
/-- Whether the image carries a rope descriptor. -/
def Img.hasRope (m : Img) : Bool := bitOf m.flags 0

/-- A section table entry. -/
structure Sect where
  lenBase : Nat
  lenMul : Nat
  preload : Nat
  last : Bool
  lparam : Bool
  pidx : Nat
  lenMax : Nat
  gap : Nat
  colour : Nat
  deriving DecidableEq, Repr

/-- Section `s` of the section table. -/
def Img.sect (m : Img) (s : Nat) : Sect :=
  let o := m.dirOff 0 + 16 * s
  let fl := m.u (o + 7) 1
  { lenBase := m.u o 4
    lenMul := m.u (o + 4) 2
    preload := m.u (o + 6) 1
    last := bitOf fl 0
    lparam := bitOf fl 1
    pidx := bits fl 2 3
    lenMax := m.u (o + 8) 4
    gap := m.u (o + 0xC) 2
    colour := m.u (o + 0xE) 1 }

/-- Entry section and parameter count of entry `e`. -/
def Img.entrySec (m : Img) (e : Nat) : Nat := m.u (m.dirOff 1 + 8 * e) 2
def Img.entryParams (m : Img) (e : Nat) : Nat := m.u (m.dirOff 1 + 8 * e + 2) 1

/-- Whether field `f` is ACTIVE or TRANSIT in the image. -/
def Img.uses (m : Img) (f : Nat) : Bool := m.fieldMode f = 1 || m.fieldMode f = 2

/-- How many fields below `f` the image uses: the tile directory's field order. -/
def Img.fieldRank (m : Img) (f : Nat) : Nat := ((List.range f).filter m.uses).length

/-- The tile directory entry of local logical tile (lx, ly) of field `f`. -/
structure TDir where
  role : Nat
  stackBytes : Nat
  scratchBytes : Nat
  payload : Nat
  deriving DecidableEq, Repr

/-- The directory entry at index `i`. -/
def Img.tdirAt (m : Img) (i : Nat) : TDir :=
  let o := m.dirOff 2 + 24 * i
  ⟨m.u o 2, m.u (o + 4) 4, m.u (o + 8) 4, m.u (o + 0x10) 8⟩

/-- The directory index of a local logical tile of a used field. -/
def Img.tdirIndex (m : Img) (f lx ly : Nat) : Nat := 16384 * m.fieldRank f + 128 * ly + lx

/-- The directory entry of a local logical tile. -/
def Img.tdir (m : Img) (f lx ly : Nat) : TDir := m.tdirAt (m.tdirIndex f lx ly)

/-- A role table entry. -/
structure Role where
  prog : Nat
  progLen : Nat
  tags : Nat
  handles : Nat
  deriving DecidableEq, Repr

/-- Role `r`. -/
def Img.role (m : Img) (r : Nat) : Role :=
  let o := m.dirOff 3 + 32 * r
  ⟨m.u o 8, m.u (o + 8) 2, m.u (o + 0x10) 8, m.u (o + 0x18) 8⟩

/-- Words 0 and 1 of handle entry `n` of a role. -/
def Img.handle0 (m : Img) (r : Role) (n : Nat) : Nat := m.u (r.handles + 16 * n) 8
def Img.handle1 (m : Img) (r : Role) (n : Nat) : Nat := m.u (r.handles + 16 * n + 8) 8

/-- The masks of role `r` in the request flow graph: OUT (0), IN (1), RPL (2), as 1024-bit numbers (R216). -/
def Img.flow (m : Img) (r k : Nat) : Nat := m.u (m.dirOff 4 + 0x10 + 384 * r + 128 * k) 128

/-- FIFO_PEAK and HOLD_PEAK of a section (R172). -/
def Img.fifoPeak (m : Img) (s : Nat) : Nat := m.u (m.dirOff 5 + 4 * s) 1
def Img.holdPeak (m : Img) (s : Nat) : Nat := m.u (m.dirOff 5 + 4 * s + 1) 1

/-- Stack budget of field `f` in section `s`, in bytes, and the refresh window declaration (R173, R187). -/
def Img.budget (m : Img) (s f : Nat) : Nat := m.u (m.dirOff 6 + 200 * s + 4 * f) 4
def Img.period (m : Img) (s : Nat) : Nat := m.u (m.dirOff 6 + 200 * s + 192) 4
def Img.phase (m : Img) (s : Nat) : Nat := m.u (m.dirOff 6 + 200 * s + 196) 4

/-- Declared power of field `f` in section `s`, in watts (R174). -/
def Img.pStat (m : Img) (s f : Nat) : Nat := m.u (m.dirOff 7 + 192 * s + 4 * f) 2
def Img.pDyn (m : Img) (s f : Nat) : Nat := m.u (m.dirOff 7 + 192 * s + 4 * f + 2) 2

/-- The rope descriptor (R270), or that of a rope of one (R271). -/
structure RopeDesc where
  idLo : Nat
  idHi : Nat
  coord : Nat
  anchor : Nat
  nx : Nat
  ny : Nat
  nz : Nat
  epochLog2 : Nat
  dmin2 : Nat
  landBase : Nat
  landWin : Nat
  cairns : Nat
  deriving DecidableEq, Repr

/-- The descriptor in force. -/
def Img.rope (m : Img) : RopeDesc :=
  if m.hasRope then
    let o := m.dirOff 8
    { idLo := m.u o 8, idHi := m.u (o + 8) 8, coord := m.u (o + 0x10) 2, anchor := m.u (o + 0x12) 2
      nx := m.u (o + 0x14) 1, ny := m.u (o + 0x15) 1, nz := m.u (o + 0x16) 1, epochLog2 := m.u (o + 0x17) 1
      dmin2 := m.u (o + 0x18) 1, landBase := m.u (o + 0x1A) 2, landWin := m.u (o + 0x1C) 2, cairns := m.u (o + 0x1E) 2 }
  else ⟨0, 0, 0, 0, 1, 1, 1, 20, 8, 0, 0, 0⟩

/-- The landing delay L (R287). -/
def RopeDesc.land (d : RopeDesc) : Nat := d.landBase + d.landWin

/-- A cairn stream entry (R294). -/
structure CairnDef where
  section_ : Nat
  port : Nat
  kind : Nat
  role : Nat
  i0 : Nat
  i1 : Nat
  start : Nat
  span : Nat
  k0 : Nat
  mult : Nat
  r : Nat
  deriving DecidableEq, Repr

/-- Cairn entry `n`. -/
def Img.cairn (m : Img) (n : Nat) : CairnDef :=
  let o := m.dirOff 8 + 0x40 + 32 * n
  ⟨m.u o 2, m.u (o + 2) 1, m.u (o + 3) 1, m.u (o + 4) 1, m.u (o + 5) 1, m.u (o + 6) 1, m.u (o + 8) 4, m.u (o + 0xC) 4,
    m.u (o + 0x10) 4, m.u (o + 0x14) 4, m.u (o + 0x18) 8⟩

/-- The length of section `s` with the parameters of an invocation; none where R167 refuses. -/
def Img.secLen (m : Img) (ps : List Nat) (s : Nat) : Option Nat :=
  let e := m.sect s
  let n := if e.lparam then (e.lenBase + e.lenMul * (ps.getD e.pidx 0)) % 2 ^ 64 else e.lenBase
  if e.lenMax < n ∨ n ≤ e.gap then none else some n

/-- The lengths of the sections of an invocation from section `s` up to the first LAST one. -/
def Img.lengths (m : Img) (ps : List Nat) : Nat → Nat → Option (List Nat)
  | 0, _ => none
  | n + 1, s =>
    if m.sections ≤ s then none
    else
      match m.secLen ps s with
      | none => none
      | some l => if (m.sect s).last then some [l] else (m.lengths ps n (s + 1)).map (l :: ·)

/-- The total length of the invocation of entry `e`; none where R167 refuses it. -/
def Img.invLength (m : Img) (e : Nat) (ps : List Nat) : Option Nat :=
  (m.lengths ps (m.sections + 1) (m.entrySec e)).map (fun l => l.foldl (· + ·) 0)

/-! ### Installation checks on the plaintext (R175) -/

/-- Check 2, FORMAT: the header, every reserved byte zero, and the directory. R175 states the ranges of SECTIONS, ENTRIES and ROLES
and that a directory part lies in the file, and not which reason refuses them: it is this one (assumption 47). -/
def Img.formatOk (m : Img) : Bool :=
  m.magic = 0x494C5A47 && m.u 4 2 = 1 && m.length = m.blob.len &&
    bits m.flags 1 7 = 0 && m.blob.zeroIn 0x3A 2 && m.blob.zeroIn 0x42 6 && m.blob.zeroIn 0xF8 8 &&
    m.blob.zeroIn (m.dirOff 4 + 2) 6 && m.blob.zeroIn (m.dirOff 4 + 0xC) 4 && (!m.hasRope ||
      (m.blob.zeroIn (m.dirOff 8 + 0x19) 1 && m.blob.zeroIn (m.dirOff 8 + 0x20) 0x20 &&
        (List.range m.rope.cairns).all (fun n => m.blob.zeroIn (m.dirOff 8 + 0x47 + 32 * n) 1))) &&
    m.dirOff 10 = 0 && m.dirLen 10 = 0 &&
    (List.range 48).all (fun f => decide (m.fieldMode f ≤ 2)) && (List.range 48).any m.uses &&
    (List.range 6).all (fun p => decide (m.portWidth p ≤ 24)) && (m.dirLen 8 = 0) = !m.hasRope &&
    decide (1 ≤ m.sections) && decide (1 ≤ m.entries ∧ m.entries ≤ 255) && decide (1 ≤ m.roles ∧ m.roles ≤ 4096) &&
    [0, 1, 2, 3, 4, 5, 6, 7, 9].all (fun k => decide (m.dirLen k ≠ 0) && decide (m.dirOff k + m.dirLen k ≤ m.blob.len)) &&
    (List.range m.sections).all (fun s => bits (m.u (m.dirOff 0 + 16 * s + 7) 1) 5 3 = 0 &&
      m.u (m.dirOff 0 + 16 * s + 15) 1 = 0 && m.u (m.dirOff 5 + 4 * s + 2) 2 = 0) &&
    (List.range m.entries).all (fun e => m.u (m.dirOff 1 + 8 * e + 3) 1 = 0) &&
    (List.range m.roles).all (fun r => m.u (m.dirOff 3 + 32 * r + 10) 6 = 0) &&
    m.blob.cells.all (fun c => decide (c.1 < m.dirOff 2) || decide (m.dirOff 2 + m.dirLen 2 ≤ c.1) ||
      (let e := m.tdirAt ((c.1 - m.dirOff 2) / 24)
       let o := m.dirOff 2 + 24 * ((c.1 - m.dirOff 2) / 24)
       decide (e.role < m.roles) && m.u (o + 2) 2 = 0 && m.u (o + 12) 4 = 0))

/-- The directory entries that some listed byte of the image touches, and the all-zero entry that every other one is. -/
def Img.tdirs (m : Img) : List TDir :=
  ⟨0, 0, 0, 0⟩ :: (m.blob.cells.filter (fun c => decide (m.dirOff 2 ≤ c.1 ∧ c.1 < m.dirOff 2 + m.dirLen 2))).map
    (fun c => m.tdirAt ((c.1 - m.dirOff 2) / 24))

/-- Check 6, LAYOUT. `seg` is the bytes of a stack segment that handles may name. STACK_BYTES and SCRATCH_BYTES that are no
multiples are refused here: the reason is not stated (assumption 47). -/
def Img.layoutOk (m : Img) (seg : Nat) : Bool :=
  let lim := if m.layers = 2 then min seg 0x280000 else seg
  m.tdirs.all (fun e => decide (e.stackBytes ≤ seg) && e.stackBytes % 64 = 0 && decide (e.scratchBytes ≤ 0x10000) &&
    e.scratchBytes % 8 = 0) &&
  (List.range m.roles).all (fun r =>
    let ro := m.role r
    decide (ro.progLen ≤ 8192) && (List.range 64).all (fun n =>
      let w := m.handle0 ro n
      if bitOf w 63 then bits w 52 4 = 0 &&
        decide (bits w 0 23 + bits w 23 23 ≤ (if bitOf w 62 then lim else 0x10000)) else true))

/-- The colours of two sections that can follow each other differ (R166). -/
def Img.coloursOk (m : Img) : Bool :=
  (List.range m.sections).all (fun s =>
    let e := m.sect s
    decide (1 ≤ e.colour ∧ e.colour ≤ 15) &&
      (if e.last then (List.range m.entries).all (fun n => e.colour ≠ (m.sect (m.entrySec n)).colour)
       else decide (s + 1 < m.sections) && e.colour ≠ (m.sect (s + 1)).colour))

/-- Check 7, SECTIONS. -/
def Img.sectionsOk (m : Img) : Bool :=
  m.coloursOk && (m.sect (m.sections - 1)).last &&
    (List.range m.sections).all (fun s =>
      let e := m.sect s
      decide (1 ≤ e.lenBase ∧ e.lenBase ≤ e.lenMax ∧ e.gap < e.lenBase) &&
        (e.preload = 0xFF || decide (e.preload < m.entries))) &&
    (List.range m.entries).all (fun e => decide (m.entrySec e < m.sections))

/-- Check 8, FIFO (R149, R150, R172). -/
def Img.fifoOk (m : Img) : Bool :=
  (List.range m.sections).all (fun s => decide (m.fifoPeak s ≤ 16 ∧ m.holdPeak s ≤ 8))

/-- Roles that are reachable in one edge from a role of the list (R217). -/
def Img.flowNext (m : Img) (rs : List Nat) : List Nat :=
  (List.range m.roles).filter (fun b => rs.any (fun a => m.flow a 0 &&& m.flow b 1 ≠ 0))

/-- Check 9, FLOWS (R217). The graph is acyclic exactly when a walk of as many edges as there are roles dies out. -/
def Img.flowsOk (m : Img) : Bool :=
  let rs := List.range m.roles
  let o := m.dirOff 4
  m.dirLen 4 = 16 + 384 * m.roles && m.u o 2 = m.roles && m.u (o + 8) 4 = 384 &&
    rs.all (fun r => (List.range 3).all (fun k => !bitOf (m.flow r k) 0x3FF)) &&
    rs.all (fun r => m.flow r 0 &&& m.flow r 1 = 0) &&
    rs.all (fun r => (m.flow r 2 &&& (m.flow r 0 ||| m.flow r 1)) = m.flow r 2) &&
    rs.all (fun a => rs.all (fun b =>
      (m.flow a 0 ||| m.flow a 1) &&& (m.flow b 0 ||| m.flow b 1) &&& (m.flow a 2 ^^^ m.flow b 2) = 0)) &&
    rs.all (fun r => (List.range 1024).all (fun t =>
      !bitOf (m.flow r 0 ||| m.flow r 1) t || bitOf (m.u ((m.role r).tags + 4 * t) 4) 31)) &&
    ((List.range m.roles).foldl (fun l _ => m.flowNext l) rs).isEmpty

/-- Check 10, STACK. -/
def Img.stackOk (m : Img) : Bool :=
  (List.range m.sections).all (fun s => (List.range 48).all (fun f => decide (m.budget s f ≤ 67108864)))

/-- `last(s, L)` of R190. -/
def Img.lastWin (m : Img) (s l : Nat) : Nat := m.phase s + (l - 320 - m.phase s) / m.period s * m.period s

/-- `tail(s)`: the greatest distance from the last window to the section's end, over every length it may have. Over one
period of lengths the distance rises by one from 320 to PERIOD + 319. -/
def Img.tailGap (m : Img) (s : Nat) : Nat :=
  let lo := max (m.sect s).lenBase (m.phase s + 320)
  let hi := (m.sect s).lenMax
  let top := m.phase s + 320 + (hi - m.phase s - 320) / m.period s * m.period s
  let atHi := hi - m.lastWin s hi
  if lo < top then max atHi (m.period s + 319) else atHi

def Img.bare (m : Img) (s : Nat) : Bool := m.period s = 0 || decide ((m.sect s).lenBase < m.phase s + 320)
def Img.bareLen (m : Img) (s : Nat) : Nat :=
  if m.period s = 0 then (m.sect s).lenMax else min (m.sect s).lenMax (m.phase s + 319)
def Img.succSec (m : Img) (s : Nat) : Option Nat :=
  if !(m.sect s).last then some (s + 1)
  else if (m.sect s).preload = 0xFF then none else some (m.entrySec (m.sect s).preload)

/-- `walk(t, gap)` of R190: true where it returns without a refusal. Each pass adds at least one acycle to the gap. -/
def Img.walk (m : Img) : Nat → Option Nat → Nat → Bool
  | 0, _, _ => false
  | n + 1, t, gap =>
    if 32768 < gap then false
    else
      match t with
      | none => true
      | some s =>
        if 0 < m.period s ∧ 32768 < gap + m.phase s then false
        else if !m.bare s then true
        else m.walk n (m.succSec s) (gap + m.bareLen s)

/-- Check 11, REFRESH (R187, R190). -/
def Img.refreshOk (m : Img) : Bool :=
  (List.range m.sections).all (fun s =>
    m.period s = 0 || (decide (1024 ≤ m.period s ∧ m.period s ≤ 32768 ∧ m.phase s + 320 ≤ (m.sect s).lenMax) &&
      m.walk 32770 (m.succSec s) (m.tailGap s))) &&
  (List.range m.entries).all (fun e => m.walk 32770 (some (m.entrySec e)) 4096)

/-- Whether the image fits at D = d2 / 2 under the field and module power limits in watts (R176). -/
def Img.fitsAt (m : Img) (fieldLimit moduleLimit d2 : Nat) : Bool :=
  let ports := ((List.range 6).filter (fun p => decide (0 < m.portWidth p))).length
  (List.range m.sections).all (fun s =>
    let w := fun (f : Nat) => m.pStat s f * d2 + 8 * m.pDyn s f
    (List.range 48).all (fun f => decide (w f ≤ fieldLimit * d2)) &&
      decide (1000 * (((List.range 48).map w).foldl (· + ·) 0 + (100 + 67 * ports) * d2) ≤ 922 * moduleLimit * d2))

/-- DFLOOR: twice the smallest D at which the image fits, from the profile's smallest up to 16 (R176). -/
def Img.dfloor (m : Img) (fieldLimit moduleLimit pmin2 : Nat) : Option Nat :=
  (List.range 33).find? (fun d2 => decide (8 ≤ d2 ∧ pmin2 ≤ d2) && m.fitsAt fieldLimit moduleLimit d2)

/-- The bytes that a capture of one tile holds for a role's handles: an APP handle is captured through its WMARK alone (R64,
R307). -/
def Img.ckpBytes (m : Img) (r : Role) : Nat :=
  ((List.range 64).map (fun n =>
    let w := m.handle0 r n
    if bitOf w 63 && bitOf w 59 && !bitOf w 58 then bits w 23 23 else 0)).foldl (· + ·) 2048

/-- The directory indices that some listed byte touches. -/
def Img.tdirIxs (m : Img) : List Nat :=
  ((m.blob.cells.filter (fun c => decide (m.dirOff 2 ≤ c.1 ∧ c.1 < m.dirOff 2 + m.dirLen 2))).map
    (fun c => (c.1 - m.dirOff 2) / 24)).eraseDups

/-- The data bytes that a capture of the tiles with directory indices `[i, i + n)` holds (R307): the listed entries' roles,
and role 0 for every other one. -/
def Img.capBytes (m : Img) (i n : Nat) : Nat :=
  let ix := m.tdirIxs.filter (fun k => decide (i ≤ k ∧ k < i + n))
  (ix.map (fun k => m.ckpBytes (m.role (m.tdirAt k).role))).foldl (· + ·) 0 + (n - ix.length) * m.ckpBytes (m.role 0)

/-- The capture gap CAP of an image (R308). -/
def Img.capGap (m : Img) : Nat :=
  let used := ((List.range 48).filter m.uses).length
  let b := ((List.range used).map (fun r => m.capBytes (16384 * r) 16384)).foldl max 0
  (((b + 32767) / 32768 + 3072 + 1023) / 1024) * 1024

/-- Check 13, ROPE (R273, R295). `slot` is the bytes of a checkpoint slot. -/
def Img.ropeOk (m : Img) (slot : Nat) : Bool :=
  let d := m.rope
  let inRing := fun (c : Nat) => decide (c % 32 < d.nx ∧ c / 32 % 32 < d.ny ∧ c / 1024 < d.nz)
  let used := ((List.range 48).filter m.uses).length
  (!m.hasRope ||
    (m.dirLen 8 = 64 + 32 * d.cairns &&
      decide (1 ≤ d.nx ∧ d.nx ≤ 32 ∧ 1 ≤ d.ny ∧ d.ny ≤ 32 ∧ 1 ≤ d.nz ∧ d.nz ≤ 32) &&
      decide (16 ≤ d.epochLog2 ∧ d.epochLog2 ≤ 24 ∧ 8 ≤ d.dmin2 ∧ d.dmin2 ≤ 32) &&
      decide (64 ≤ d.landBase ∧ d.landBase ≤ 4096 ∧ 256 ≤ d.landWin ∧ d.landWin ≤ 8192 ∧ d.cairns ≤ 256) &&
      inRing d.coord && inRing d.anchor &&
      (d.nx ≠ 1 || (m.portWidth 0 = 0 && m.portWidth 1 = 0)) &&
      (d.ny ≠ 1 || (m.portWidth 2 = 0 && m.portWidth 3 = 0)) &&
      (d.nz ≠ 1 || (m.portWidth 4 = 0 && m.portWidth 5 = 0)) &&
      (List.range d.cairns).all (fun n =>
        let c := m.cairn n
        decide (c.section_ < m.sections ∧ c.port < 6 ∧ c.kind ≤ 2 ∧ c.i0 ≤ c.i1 ∧ c.i1 ≤ 127 ∧ 1 ≤ c.span) &&
          decide (c.start + c.span ≤ (m.sect c.section_).lenBase) && decide (m.portWidth c.port ≠ 0) &&
          decide (c.role < 8) && (!bitOf c.role 0 || decide (c.kind ≤ 1)) && decide (1 ≤ c.r ∧ c.r ≤ 2 ^ 61 - 2) &&
          (c.kind ≠ 2 || bitOf c.role 1 || bitOf c.role 2) &&
          (!bitOf c.role 1 || decide (1 ≤ c.mult ∧ c.mult ≤ d.nx * d.ny * d.nz)) &&
          (c.kind = 1 || (List.range n).all (fun k =>
            let e := m.cairn k
            e.kind = 1 || decide (e.section_ ≠ c.section_) || e.port ≠ c.port || decide (e.i1 < c.i0 ∨ c.i1 < e.i0) ||
              decide (e.start + e.span ≤ c.start ∨ c.start + c.span ≤ e.start)))))) &&
    decide (m.capBytes 0 (16384 * used) + 4096 ≤ slot)

end Sys2Proof.Machine
end

