-- ==== Sys2Proof/Machine/FieldTypes.lean ====
section
/-!
DEFINITION. Sys2Proof/Machine/FieldTypes.lean: one field, the words and packets between tiles, invocations and the fault path
as plain data (spec 05, 06, 07, 16).
-/

namespace Sys2Proof.Machine

/-- Classes of non-scheduled stack beats (R185): feed and drain, other Base Camp transfers, control core, survey window,
host aperture. -/
inductive BeatClass where
  | feed
  | baseCamp
  | core
  | survey
  | aperture
  deriving DecidableEq, Repr

/-- A belay sample under way (R483 to R485): the local physical row, the place of the sampled tile, its unit (false MXU, true
VU), and the places of its checkers. -/
structure Sample where
  row : Nat
  key : Nat
  vu : Bool
  checkers : List Nat
  deriving DecidableEq, Repr

/-- A section of a field that has ended: its first acycle, the acycle of its end and its declared beats (R184). -/
structure Declared where
  from_ : Nat
  end_ : Nat
  beats : Nat
  deriving DecidableEq, Repr

/-- One field. `logical` and `spare` are what every tile is that `tiles` does not list, at a logical position and elsewhere;
`tiles` is keyed by local physical x + 132 y. -/
structure FieldSt where
  logical : Tile
  spare : Tile
  tiles : SMap Tile
  /-- a section of the field is live (R185) -/
  live : Bool
  /-- array acycle of the field's last switch -/
  secStart : Nat
  /-- scheduled beats by issue acycle, newest first, of the last 2,200 acycles (R183, R184) -/
  beats : List (Nat × Nat)
  /-- admitted non-scheduled beats, likewise (R185) -/
  others : List (Nat × Nat)
  /-- sections that have ended within the last 2,200 acycles (R184) -/
  decls : List Declared
  /-- the last acycle in which S(t) exceeded the declared value -/
  excess : Option Nat
  /-- waiting non-scheduled beats by class (feed and drain, Base Camp, core, survey, aperture) -/
  waiting : List Nat
  /-- places of the tiles whose control core waits with a handle access on the stack (R75, R185) -/
  coreWait : List Nat
  /-- refcycle of the last refresh step -/
  lastStep : Nat
  /-- array acycle at which the last declared window opened -/
  window : Option Nat
  /-- array acycle of the last forced step (R191) -/
  forced : Option Nat
  /-- reports of the field in its collector's queue (R477) -/
  queued : Nat
  /-- tile entries of the running section instance in the logbook (R479) -/
  cascade : Nat
  /-- its ACLK is stopped by a tile scan or by clock control of the IEEE 1687 network (R521) -/
  stopped : Bool
  /-- the array acycle at which its counter stopped (R156) -/
  stopAcyc : Nat
  /-- it has missed a switch while in reset, and takes none before the entry switch of a cold start (R157) -/
  missed : Bool
  /-- belay samples taken since the last L1 release, by local physical row, and the samples under way (R483) -/
  samples : SMap Nat
  belay : List Sample
  /-- the array acycle at which a CLEAR of the histograms takes effect (R510) -/
  clearAt : Option Nat
  deriving DecidableEq, Repr

/-- A field after L4. -/
def FieldSt.zero : FieldSt where
  logical := Tile.zero
  spare := Tile.zero
  tiles := []
  live := false
  secStart := 0
  beats := []
  others := []
  decls := []
  excess := none
  waiting := [0, 0, 0, 0, 0]
  coreWait := []
  lastStep := 0
  window := none
  forced := none
  queued := 0
  cascade := 0
  stopped := false
  stopAcyc := 0
  missed := false
  samples := []
  belay := []
  clearAt := none

/-- A word on a link of the scheduled fabric: the logical pair of its tile, the input port, the word, the acycle at whose
end it is written, and whether its hop crosses a seam (R127). -/
structure LinkWord where
  dest : Nat
  port : Nat
  tok : Tok
  due : Nat
  seam : Bool
  deriving DecidableEq, Repr

/-- A packet in flight on a message mesh, the pair of the router that holds it, and the pair of the router it came from: its
own tile's where it is injected there (R204). -/
structure Flight where
  at_ : Nat
  prev : Nat
  pkt : Packet
  deriving DecidableEq, Repr

/-- An invocation issued or running (R167 to R169). -/
structure Invocation where
  seqNo : Nat
  entry : Nat
  start : Nat
  params : List Nat
  deriving DecidableEq, Repr

/-- The running invocation and the next switch. -/
structure Run where
  /-- the invocation that runs -/
  cur : Option Invocation
  /-- the invocation whose entry switch comes next, whether it is a cold start, and the lengths of its sections -/
  nxt : Option (Invocation × Bool × List Nat)
  section_ : Nat
  len : Nat
  /-- the array acycle at which the running section ends -/
  next : Nat
  /-- the running section is LAST -/
  last : Bool
  /-- a section of the running invocation is invalid -/
  invalid : Bool
  /-- lengths of the sections still to run after this one -/
  lens : List Nat
  /-- invocations started since installation (FLD_INV) -/
  count : Nat
  /-- invocations that have ended: sequence number and end acycle, newest first -/
  ended : List (Nat × Nat)
  deriving DecidableEq, Repr

/-- Nothing runs. -/
def Run.zero : Run := ⟨none, none, 0, 0, 0, false, false, [], 0, []⟩

/-- A fault report on its way to the firmware (R477). -/
structure Report where
  code : Nat
  /-- subject of the logbook entry: 0 tile, 1 field, 2 seam, 3 Hexkel port, 4 host port, 5 module, 6 Base Camp, 7 member -/
  subject : Nat
  field : Nat
  px : Nat
  py : Nat
  lpair : Option Nat
  acyc : Nat
  rope : Nat
  detail : Nat
  /-- it came through the field collector's queue -/
  tree : Bool
  /-- an abort trigger (R314) -/
  trig : Bool
  classif : Nat
  action : Nat
  deriving DecidableEq, Repr

/-- A logbook entry (R488). -/
structure LogEntry where
  seqNo : Nat
  time : Nat
  bootgen : Nat
  code : Nat
  subject : Nat
  classif : Nat
  px : Nat
  py : Nat
  field : Nat
  lpair : Option Nat
  module_ : Nat
  action : Nat
  count : Nat
  tod : Nat
  rope : Nat
  detail : Nat
  /-- array acycle of the fault in its section, for the origin of an abort (R480) -/
  acyc : Nat
  deriving DecidableEq, Repr

/-- The summary of a physical tile: 0 good, 1 suspect, 2 dead; failed units; transient count; hour of the last event. -/
structure TileSum where
  state : Nat
  failed : Nat
  transients : Nat
  lastHour : Nat
  deriving DecidableEq, Repr

/-- The summary of a tile without events. -/
def TileSum.zero : TileSum := ⟨0, 0, 0, 0⟩

/-- A direction of a link of a field's east or north seam that has failed wires: its local physical row or column, which of that
line's directions it is, and the failed wires of its two groups (R129). -/
structure SeamLink where
  north : Bool
  line : Nat
  dir : Nat
  group0 : Nat
  group1 : Nat
  deriving DecidableEq, Repr

/-- Each group has two spare wires: a link direction with more failed ones in a group is a seam defect (R129). -/
def SeamLink.defect (l : SeamLink) : Bool := decide (2 < l.group0 ∨ 2 < l.group1)

/-- A field's record of the crevasse map (R491): skipped local physical columns and rows, dead tiles, a pending row skip, and the
link directions of its east and north seams with failed wires. -/
structure Crev where
  cols : List Nat
  rows : List Nat
  dead : List Nat
  pending : List Nat
  seams : List SeamLink
  deriving DecidableEq, Repr

/-- A field without defects. -/
def Crev.zero : Crev := ⟨[], [], [], [], []⟩

/-- Link directions of a seam that work with one or two spare wires, and those that are defects (R155). -/
def Crev.seamCount (c : Crev) (north defect : Bool) : Nat :=
  (c.seams.filter (fun l => l.north = north && l.defect = defect && decide (0 < l.group0 + l.group1))).length

/-- Messages and signals that leave the block. -/
inductive Chan where
  /-- MSI-X message: port, vector -/
  | msix
  /-- memory write to a host: port, address, bytes -/
  | hostWrite
  /-- completion of a host read: port, status (0 successful, 4 Completer Abort), bytes -/
  | hostCpl
  /-- CAN frame: identifier, bytes -/
  | can
  /-- UDP datagram -/
  | udp
  /-- MCTP response -/
  | mctp
  /-- SPDM response -/
  | spdm
  /-- privileged cell: port, type, bytes -/
  | priv
  /-- dynamic packet: port, kind, bytes -/
  | dyn
  /-- link-local cell or scheduled record: port, type, bytes -/
  | link
  /-- reply that reached Base Camp's message port: status, words -/
  | bcReply
  /-- JTAG scan-out -/
  | tap
  deriving DecidableEq, Repr

/-- One item that left the block. -/
structure Out where
  chan : Chan
  port : Nat
  tag : Nat
  body : List Nat
  deriving DecidableEq, Repr

end Sys2Proof.Machine
end

