-- ==== Sys2Proof/Machine/HexkelTypes.lean ====
section
/-!
DEFINITION. Sys2Proof/Machine/HexkelTypes.lean: the state of a Hexkel port and of the transit ring that no register holds
(spec 08_hexkel).
-/

namespace Sys2Proof.Machine

/-- A frame sent, kept for a replay: its header as first sent, its units and the traffic secret in force (R234, R237, R240). -/
structure Sent where
  seqNo : Nat
  kph : Nat
  clear : Bool
  fc : Nat
  ack : Nat
  nak : Bool
  units : List (Nat × List Nat)
  secret : List Nat
  deriving DecidableEq, Repr

/-- A scheduled record: the rope acycle captured, the colour and the words by landing tile (R245). -/
structure Record where
  at_ : Nat
  colour : BitVec 4
  words : List (Nat × Word)
  deriving DecidableEq, Repr

/-- A lane swap agreed: failed lane, spare, the direction byte of its LANE cell, the SEQ of the first frame on the new map,
and whether it is of the direction that this end receives (R232). -/
structure Swap where
  failed : Nat
  spare : Nat
  dir : Nat
  seqNo : Nat
  rx : Bool
  deriving DecidableEq, Repr

/-- One item of a transmit queue: its bytes, how many have gone, for a scheduled record the acycle of its capture and
whether its overrate has been recorded (R245, R246), and whether it is transit traffic from the ring (R244, R269). -/
structure TxItem where
  bytes : List Nat
  gone : Nat
  at_ : Nat
  noted : Bool
  transit : Bool
  deriving DecidableEq, Repr

/-- One port. -/
structure HxPort where
  /-- held DOWN by HOLD_DOWN until TRAIN -/
  held : Bool
  /-- the 1 s wait after a failed training or keying -/
  waiting : Bool
  /-- SEQ of the next new frame; SEQ of the last frame received intact, plus 1 -/
  txSeq : Nat
  rxSeq : Nat
  /-- bad attempts of the frame expected next -/
  attempts : Nat
  /-- a NAK goes in the next frame started -/
  nak : Bool
  /-- the last 128 frames sent, oldest first -/
  sent : List Sent
  /-- frames to resend, oldest first -/
  resend : List Sent
  /-- refcycles of tag failures within the last second -/
  fails : List Nat
  /-- items waiting to be sent and bytes received, by channel code 1 to 6 -/
  tx : SMap (List TxItem)
  rx : SMap (List Nat)
  /-- words driven this acycle on the edge outputs, by landing tile -/
  edge : List (Nat × Tok)
  edgeAt : Nat
  /-- landing buffer -/
  landing : List Record
  swaps : List Swap
  /-- the SPDM message being assembled from its fragments -/
  spdm : List Nat
  /-- its message number and the index of the fragment expected next (R256) -/
  spdmMsg : Nat
  spdmFrag : Nat
  /-- the whole SPDM messages received in this session's set-up, newest first, and how many this end has sent (R239) -/
  spdmIn : List (List Nat)
  spdmSent : Nat
  /-- the physical lane of each position of a direction's map, sent and received (R229, R232) -/
  txMap : List Nat
  rxMap : List Nat
  /-- lanes that failed with no spare free, left out of the qualification that follows (R233) -/
  lost : List Nat
  /-- acycle of the last frame started, and whether a boundary passed before the acycle counter was set anew (R241) -/
  keyAt : Nat
  rekey : Bool
  /-- the traffic secret of the frames sent (R239, R241) -/
  txSecret : List Nat
  /-- the phase of the last new frame received intact, and the secrets of the previous, current and next phases (R241) -/
  rxKph : Nat
  rxSecrets : List (List Nat)
  /-- test units of LOOP that did not hold what was sent (R243; no register shows them) -/
  loopBad : Nat
  deriving DecidableEq, Repr

/-- A port after L3. -/
def HxPort.zero : HxPort where
  held := false
  waiting := false
  txSeq := 0
  rxSeq := 0
  attempts := 0
  nak := false
  sent := []
  resend := []
  fails := []
  tx := []
  rx := []
  edge := []
  edgeAt := 0
  landing := []
  swaps := []
  spdm := []
  spdmMsg := 0
  spdmFrag := 0
  spdmIn := []
  spdmSent := 0
  txMap := []
  rxMap := []
  lost := []
  keyAt := 0
  rekey := false
  txSecret := []
  rxKph := 0
  rxSecrets := []
  loopBad := 0

/-- A dynamic packet (R249). -/
structure Dyn where
  dst : Nat
  vn : Nat
  src : Nat
  op : Nat
  status : Nat
  id : Nat
  arg : Nat
  payload : List Nat
  deriving DecidableEq, Repr

/-- A privileged cell (R255). -/
structure Cell where
  bcast : Bool
  dst : Nat
  src : Nat
  type : Nat
  vc : Nat
  phase : Nat
  hops : Nat
  seqNo : Nat
  body : List Nat
  deriving DecidableEq, Repr

/-- What travels on the transit ring: a dynamic packet or a privileged cell (R263). -/
inductive Load where
  | dyn (d : Dyn)
  | cell (c : Cell)
  deriving DecidableEq, Repr

/-- An item on the transit ring: the stops where it entered, where it leaves and where it is, and its lane (R264). -/
structure RingItem where
  from_ : Nat
  to_ : Nat
  stop : Nat
  lane : Nat
  load : Load
  deriving DecidableEq, Repr

/-- Base Camp's side of the links: cells and packets delivered and not yet taken, with the port they came by (6: from the
module itself), outstanding requests (identifier, destination, operation, refcycle), mailbox contents, and the next SEQ and
identifier. `data` holds the RREAD replies received: identifier, status and bytes. `ring` holds the transit ring's
buffers, the items of each stop, channel and lane in their order of arrival, and `ringOff` the buffers that send OFF, by
stop + 7 × lane + 14 × channel (R252, R264). -/
structure BcLink where
  cells : List (Nat × Cell)
  dyns : List Dyn
  waiting : List (Nat × Nat × Nat × Nat)
  mail : List (Nat × Nat × List Nat)
  data : List (Nat × Nat × List Nat)
  nextCell : Nat
  nextId : Nat
  ring : List RingItem
  ringOff : SMap Bool
  deriving DecidableEq, Repr

/-- Nothing delivered. -/
def BcLink.zero : BcLink := ⟨[], [], [], [], [], 0, 0, [], []⟩

end Sys2Proof.Machine
end

