-- ==== Sys2Proof/Machine/PowerTypes.lean ====
section
/-!
DEFINITION. Sys2Proof/Machine/PowerTypes.lean: pins, rails, start-up, the divider and the thermal stages as far as no register
holds them (spec 01_module, 12_base_camp, 15_clocks_power).
-/

namespace Sys2Proof.Machine

/-- Pins, power, clocks and start-up beside their registers. -/
structure Pw where
  /-- accepted levels of PWR_EN, LEAK_N (true: low) and PROFILE_SEL1, PROFILE_SEL0 (R29) -/
  pwrEn : Bool
  leakLow : Bool
  /-- the module's own tray sensor is wet (R27, R41) -/
  trayWet : Bool
  sel : Nat
  /-- cap rails that are on, one bit each (R464) -/
  caps : Nat
  /-- rail sequencing of start-up: 0 cap rails, 1 fabric rails, 2 compute rails; the rail being switched; failed waits -/
  phase : Nat
  rail : Nat
  tries : Nat
  /-- start-up is in progress, and the reset level whose steps it runs (R395) -/
  boot : Bool
  level : Nat
  /-- local divider needs by reason 1 to 4 (R461) -/
  needs : SMap Nat
  /-- announced ratio points with their targets, oldest first, and the acycle of the next step of a ramp (R290, R291) -/
  anns : List (Nat × Nat)
  nextStep : Nat
  /-- the D2 that the ramp in progress goes to -/
  goal : Nat
  /-- over the power limit: PWR_OVER_LIMIT has been recorded (R468) -/
  excess : Bool
  /-- whole seconds for which every power has been below 95 % of its limit -/
  under : Nat
  /-- fields whose VCOMP waits to be switched on at run time, rising (R470) -/
  wake : List Nat
  /-- refcycle of the last such switching, plus 1 -/
  woke : Nat
  /-- warnings whose cause no register shows: bit 0 flow, 1 no flow PDO, 2 inlet rate, 3 profile, 4 lease -/
  warn : Nat
  /-- the logbook's lifetime coolant-excursion counter (R40) -/
  excursions : Nat
  /-- refcycle since which some diode has read 95.0 °C or more, and the gradient 15.0 K or more (R471) -/
  hotSince : Option Nat
  gradSince : Option Nat
  /-- refcycle at which each dark field went dark, plus 1 -/
  darkAt : SMap Nat
  /-- the firmware in flash A and in flash B, and the flash that the next L4 boots first (R396): false A, true B -/
  flashA : Firmware
  flashB : Firmware
  firstB : Bool
  /-- the tile firmware of the bloom: 8 KiB of instruction store, then the 4 KiB tag table (R392) -/
  tileFw : Blob
  /-- the recovery buffer in SRAM (R388) -/
  recovery : SMap (BitVec 8)
  /-- a SWAP waits for the next commit (R386) -/
  swap : Bool
  /-- fields whose full survey waits its turn, oldest first (R403) -/
  fullWait : List Nat
  /-- flow is below 40 L/min and the standby warning of R389 has been raised -/
  flowWarned : Bool
  /-- 1 ms current averages by 3 × field + rail, newest first, at most 64 (R512); the history that TEL_HIST_SEL latched, and the
refcycle of the latch -/
  hist : SMap (List Nat)
  latch : List Nat
  latchAt : Nat
  /-- the time of day that the next PPS edge takes, and the refcycle at which TEL_TOD.SEC was the time (R513) -/
  todNext : Option Nat
  todAt : Nat
  deriving DecidableEq, Repr

/-- Pins at their inactive levels: PWR_EN low, LEAK_N high, profile pins low (R27, R34). -/
def Pw.zero : Pw where
  pwrEn := false
  leakLow := false
  trayWet := false
  sel := 0
  caps := 0
  phase := 0
  rail := 0
  tries := 0
  boot := false
  level := 4
  needs := []
  anns := []
  nextStep := 0
  goal := 16
  excess := false
  under := 0
  wake := []
  woke := 0
  warn := 0
  excursions := 0
  hotSince := none
  gradSince := none
  darkAt := []
  flashA := Firmware.delivered
  flashB := Firmware.delivered
  firstB := false
  tileFw := Blob.empty
  recovery := []
  swap := false
  fullWait := []
  flowWarned := false
  hist := []
  latch := []
  latchAt := 0
  todNext := none
  todAt := 0

end Sys2Proof.Machine
end

