-- ==== Sys2Proof/Machine/ResetTypes.lean ====
section
/-!
DEFINITION. Sys2Proof/Machine/ResetTypes.lean: the reset controller, the logbook and the fuses as plain data (spec 14_reset,
16_faults, 18 R528).
-/

namespace Sys2Proof.Machine

/-- What a source asks for (R428, R452). -/
structure RstReq where
  source : Nat
  qual : Nat
  level : Nat
  all : Bool
  fields : Nat
  deriving DecidableEq, Repr

/-- The reset controller beside its registers. -/
structure Rst where
  /-- level and scope in force, while a reset or a release is in progress -/
  active : Bool
  level : Nat
  all : Bool
  fields : Nat
  /-- an SWR with qualifier REPLAY is among the merged requests (R442) -/
  replay : Bool
  /-- the 80-refcycle minimum hold has ended -/
  heldMin : Bool
  /-- the last step of the release that is complete, and the next field of a step that works field by field -/
  step : Nat
  next : Nat
  /-- the last release step complete for each field in reset (R441, R443) -/
  late : SMap Nat
  /-- failed lock attempts by field -/
  tries : SMap Nat
  /-- level at which a HOLD keeps the module (R446) -/
  hold : Option Nat
  /-- the warnings that were pending when the reset began (R28) -/
  warned : Nat
  /-- the carrier's BOR latch is set (R440) -/
  latch : Bool
  deriving DecidableEq, Repr

/-- No reset in progress. -/
def Rst.zero : Rst where
  active := false
  level := 0
  all := false
  fields := 0
  replay := false
  heldMin := false
  step := 8
  next := 0
  late := []
  tries := []
  hold := none
  warned := 0
  latch := false

/-- A retest due (R489, R490): a tile by field and place, what asks for it (0 a command or an error port, 1 BLY_MISMATCH with
vote TILE, 2 with vote NONE, 3 the origin of three aborts), and for vote NONE the tile that was sampled. -/
structure Retest where
  field : Nat
  key : Nat
  why : Nat
  sampled : Nat
  deriving DecidableEq, Repr

/-- The logbook and Base Camp's buffer of it (R479, R488). -/
structure Log where
  /-- entries, newest first -/
  entries : List LogEntry
  nextSeq : Nat
  /-- entries that have not reached flash -/
  buffered : Nat
  /-- a fault was lost to a full buffer and LOG_OVERFLOW has not been recorded -/
  lost : Bool
  tiles : SMap TileSum
  /-- refinements of the crevasse map by field (R491) -/
  crev : SMap Crev
  /-- the reserve map: the spare tile, by field and place, of each unit of one segment (R197) -/
  reserve : List (Nat × Nat)
  /-- a MIGRATE record without COMPLETE: field and local physical column (R449) -/
  migrate : List (Nat × Nat)
  /-- migrations due that have not begun, oldest first (R496) -/
  due : List (Nat × Nat)
  /-- start-up count (R332) -/
  bootgen : Nat
  /-- origins of aborts: physical tile key and refcycle (R489) -/
  origins : List (Nat × Nat)
  /-- mismatches charged: kind (0 tile, 1 checker, 2 seam slip by field), subject and refcycle -/
  charges : List (Nat × Nat × Nat)
  /-- retests due, oldest first, and those run since the last abort -/
  retests : List Retest
  retested : Nat
  deriving DecidableEq, Repr

/-- A logbook without entries. -/
def Log.zero : Log := ⟨[], 0, 0, false, [], [], [], [], [], 0, [], [], [], 0⟩

/-- The fuse block (R357 to R361, R429, R491, R528). Nothing in the block writes it but ADVANCE_SVN. -/
structure Fuses where
  variant : Nat
  stepping : Nat
  serial : Nat
  devKey : Nat
  /-- the helper data of the PUF and the 256-bit seed (R357) -/
  helper : Nat
  seed : Nat
  /-- the DeviceID certificate is present -/
  provisioned : Bool
  /-- default and ceiling reset levels by source -/
  levels : List Nat
  ceilings : List Nat
  /-- factory records of the crevasse map by field -/
  crev : SMap Crev
  /-- minimum security version numbers by component -/
  minSvn : List Nat
  deriving DecidableEq, Repr

/-- The fuses of a module of order code TS9W-A48 without factory defects, unprovisioned (R1, R429). -/
def Fuses.zero : Fuses where
  variant := 0
  stepping := 0
  serial := 0
  devKey := 0
  helper := 0
  seed := 0
  provisioned := false
  levels := [4, 4, 3, 3, 3, 1, 2, 1]
  ceilings := [4, 4, 4, 4, 3, 3, 3, 2]
  crev := []
  minSvn := []

end Sys2Proof.Machine
end

