-- ==== Sys2Proof/Machine/RopeTypes.lean ====
section
/-!
DEFINITION. Sys2Proof/Machine/RopeTypes.lean: the state of a rope member that no register holds (spec 09_ropes).
-/

namespace Sys2Proof.Machine

/-- What a capture holds of one tile: the handle table and shadow, and the words of its CKP handles (R307). -/
structure TileCap where
  handles : SMap Handle
  shadows : SMap Shadow
  scratch : SMap CWord
  stack : SMap CWord
  deriving DecidableEq, Repr

/-- The capture of a tile without CKP content. -/
def TileCap.zero : TileCap := ⟨[], [], [], []⟩

/-- The capture of one field, by local logical x + 128 y; `rest` is the capture of every tile not listed. -/
structure FieldCap where
  rest : TileCap
  tiles : SMap TileCap
  deriving DecidableEq, Repr

/-- The capture of an empty field. -/
def FieldCap.zero : FieldCap := ⟨TileCap.zero, []⟩

/-- A checkpoint slot: header and commit record (R309, R310). `crcOk` says that the header's CRC is valid. -/
structure CkpSlot where
  /-- 0 empty, 1 capturing, 2 captured -/
  state : Nat
  crcOk : Bool
  epoch : Nat
  k : Nat
  invSeq : Nat
  ropeId : Nat
  /-- LENGTH and CSUM of the content -/
  length : Nat
  csum : Nat
  content : SMap FieldCap
  /-- the epoch of a valid commit record -/
  commit : Option Nat
  deriving DecidableEq, Repr

/-- A slot never written. -/
def CkpSlot.zero : CkpSlot := ⟨0, false, 0, 0, 0, 0, 0, 0, [], none⟩

/-- A member as the anchor knows it from its JOIN (R282). -/
structure Member where
  coord : Nat
  dfloor2 : Nat
  pmin2 : Nat
  cap : Nat
  /-- epochs in usable slots, with the commit flag of each -/
  slots : List (Nat × Bool)
  cairns : Nat
  deriving DecidableEq, Repr

/-- A child in the time tree (R274, R301, R313). -/
structure Child where
  coord : Nat
  /-- rope acycle of its last UP -/
  lastUp : Nat
  cleared : Nat
  counted : Nat
  captured : Option Nat
  /-- it has reported READY since the ABORT or START -/
  ready : Bool
  slots : List (Nat × Bool)
  deriving DecidableEq, Repr

/-- A standing ratio request at the anchor: member, D2, reason, and the epoch in which it was last repeated (R289). -/
structure RatioReq where
  coord : Nat
  d2 : Nat
  epoch : Nat
  deriving DecidableEq, Repr

/-- A section instance: section, start acycle, length and invocation sequence number (R296, R299). -/
structure Inst where
  section_ : Nat
  start : Nat
  len : Nat
  seqNo : Nat
  deriving DecidableEq, Repr

/-- A cairn engine's instance of a stream (R296 to R298): table entry, invocation, words taken, checksum and CRC register, an
odd word that waits for its pair, and whether its cairn has been sent, compared or given up. -/
structure Engine where
  entry : Nat
  seqNo : Nat
  count : Nat
  lsum : Nat
  crc : Nat
  half : Option Nat
  done : Bool
  deriving DecidableEq, Repr

/-- What the children have reported of a check window (R299): child, subtree δ and members counted. -/
structure Window where
  j : Nat
  kids : List (Nat × Nat × Nat)
  deriving DecidableEq, Repr

/-- A START that has been received or originated and whose refcycle has not come (R283). -/
structure StartCell where
  rs : Nat
  k0 : Nat
  restore : Option Nat
  d2 : Nat
  floor : Nat
  sums : Bool
  replays : Nat
  deriving DecidableEq, Repr

/-- A rope member's state beside its registers. -/
structure Rope where
  /-- RT less 64 times the refcycle count, modulo 2^64 (R276) -/
  rtOff : Nat
  /-- refcycle of the last TIME cell taken -/
  lastTime : Nat
  /-- anchor override of the FORM -/
  override : Option Nat
  /-- refcycle at which the member entered JOINING or READY -/
  waitFrom : Nat
  members : List Member
  children : List Child
  start : Option StartCell
  sums : Bool
  /-- logged INVOKEs, oldest first (R286) -/
  journal : List Invocation
  /-- the sequence number that the next invocation takes -/
  nextSeq : Nat
  /-- the rope acycle at which the last issued invocation ends -/
  lastEnd : Nat
  /-- the earliest acycle of the next cold start: K + CAP or a survey gap's end (R305, R401) -/
  coldMin : Nat
  /-- the last epoch boundary marked -/
  epoch : Nat
  /-- rope acycle of the last MARK at a member -/
  lastMark : Nat
  requests : List RatioReq
  annNo : Nat
  /-- first abort trigger since the last START: code, rope acycle and origin's coordinates (R301) -/
  bad : Option (Nat × Nat × Nat)
  badSent : Bool
  /-- the lowest fault rope acycle of the abort triggers recorded since then (R302) -/
  low : Option Nat
  /-- an ABORT has been originated or taken and the restore has not ended -/
  restore : Option Nat
  ready : Bool
  /-- the CSUM of the restore's slot did not hold (R316) -/
  noCkp : Bool
  upAt : Nat
  upCleared : Nat
  clearAt : Nat
  /-- a capture has completed and its COMMIT is awaited (R306) -/
  awaitCommit : Bool
  /-- the epoch being captured, its capture acycle and slot -/
  capture : Option (Nat × Nat × Nat)
  /-- an invocation has started since the previous capture point (R305) -/
  startedSince : Bool
  slotA : CkpSlot
  slotB : CkpSlot
  engines : List Engine
  windows : List Window
  /-- the first check window not verified at the anchor, or not sent at another member -/
  verified : Nat
  /-- epochs whose COMMIT the anchor has originated -/
  committed : List Nat
  /-- epochs of the last capture point reached, plus 1, and at the anchor of the last one planned for, plus 1 (R305) -/
  capEpoch : Nat
  planEpoch : Nat
  /-- section instances begun, newest first -/
  insts : List Inst
  /-- the anchor's journal position from which a START replays -/
  replayFrom : Nat
  /-- standing survey-gap requests at the anchor: coordinates and the epoch of the last repetition (R401) -/
  gaps : List (Nat × Nat)
  /-- belay burst until the next COMMIT (R486) -/
  burst : Bool
  /-- the member goes through PREPARE again after its own L2 or L3 (R321) -/
  rejoin : Bool
  deriving DecidableEq, Repr

/-- No rope. -/
def Rope.zero : Rope where
  rtOff := 0
  lastTime := 0
  override := none
  waitFrom := 0
  members := []
  children := []
  start := none
  sums := false
  journal := []
  nextSeq := 0
  lastEnd := 0
  coldMin := 0
  epoch := 0
  lastMark := 0
  requests := []
  annNo := 0
  bad := none
  badSent := false
  low := none
  restore := none
  ready := false
  noCkp := false
  upAt := 0
  upCleared := 0
  clearAt := 0
  awaitCommit := false
  capture := none
  startedSince := false
  slotA := CkpSlot.zero
  slotB := CkpSlot.zero
  engines := []
  windows := []
  verified := 0
  committed := []
  capEpoch := 0
  planEpoch := 0
  insts := []
  replayFrom := 0
  gaps := []
  burst := false
  rejoin := false

end Sys2Proof.Machine
end

