-- ==== Sys2Proof/Machine/TrustTypes.lean ====
section
/-!
DEFINITION. Sys2Proof/Machine/TrustTypes.lean: owners, attestation, debug access and the test access port as far as no register
holds them (spec 11_trust, 17_telemetry R520, R521).
-/

namespace Sys2Proof.Machine

/-- An owner slot (R367): 0 EMPTY, 1 ACTIVE, 2 REVOKED; the digest of its holder's public keys; its role mask. -/
structure OwnerSlot where
  state : Nat
  keys : Nat
  roles : Nat
  deriving DecidableEq, Repr

/-- An empty slot. -/
def OwnerSlot.zero : OwnerSlot := ⟨0, 0, 0⟩

/-- An SPDM connection on one transport: 0 and 1 host ports by MCTP, 2 I3C, 3 and 4 host ports by DOE (R362). -/
structure SpdmConn where
  /-- 0 none, 1 version given, 2 capabilities given, 3 algorithms negotiated -/
  stage : Nat
  /-- secured session: 0 none, 1 keys exchanged, 2 established -/
  session : Nat
  /-- key updates of the session -/
  updates : Nat
  /-- the ML-DSA-65 signature of the last signed response, as the count of the free value it is (R363) -/
  pqSig : Option Nat
  /-- bytes of a large request received, and of a large response still to fetch -/
  chunkIn : List Nat
  chunkOut : List Nat
  /-- the requester's largest transfer, 0 not given; the handle of the last large response -/
  xfer : Nat
  handle : Nat
  deriving DecidableEq, Repr

/-- No connection. -/
def SpdmConn.zero : SpdmConn := ⟨0, 0, 0, none, [], [], 0, 0⟩

/-- Instructions of the test access port (R520). -/
inductive TapIr where
  | idcode
  | bypass
  | read
  | write
  | halt
  | scan
  deriving DecidableEq, Repr

/-- The device keys in the seal engine (R357): the secrets of the DeviceID pair, the Alias pair and the image unwrap pair, and the
storage key. -/
structure DeviceKeys where
  deviceId : List Nat
  aliasKey : List Nat
  unwrap : List Nat
  storage : List Nat
  deriving DecidableEq, Repr

/-- No keys: the seal engine's RAM after an L4. -/
def DeviceKeys.zero : DeviceKeys := ⟨[], [], [], []⟩

/-- Trust state. -/
structure Trust where
  /-- the PUF SRAM as read at start-up, the unique device secret while the boot ROM holds it in SRAM, and the keys derived from it -/
  puf : Nat
  uds : List Nat
  keys : DeviceKeys
  slots : SMap OwnerSlot
  /-- owner slots whose record in flash fails its MAC (R367) -/
  badSlots : List Nat
  /-- owner command counter, in flash -/
  ctr : Nat
  /-- SVN that runs, by component -/
  svn : SMap Nat
  /-- measurement digests of blocks 1 to 9 but block 6, by index (R364) -/
  meas : SMap Nat
  conns : SMap SpdmConn
  /-- IDE streams with keys, by 3 × port + stream: 1 keys programmed, 2 in use (R365) -/
  ide : SMap Nat
  /-- the next OFFER_ID, which never repeats -/
  offerId : Nat
  /-- refcycle at which the pending nonce expires, while one is pending -/
  nonceEnd : Option Nat
  /-- refcycle at which the unlock ends, and the refcycles of failed UNLOCKs of the last hour -/
  unlockEnd : Option Nat
  fails : List Nat
  /-- UNLOCK is locked until the next L4 -/
  locked : Bool
  tap : TapIr
  /-- the Base Camp cores are halted by the TAP, and since which refcycle -/
  halted : Bool
  haltAt : Nat
  /-- instruments of the IEEE 1687 network by number, and fields with a tile scan under way -/
  ijtag : SMap Nat
  scanning : List Nat
  deriving DecidableEq, Repr

/-- Trust state of an unprovisioned module. -/
def Trust.zero : Trust where
  puf := 0
  uds := []
  keys := DeviceKeys.zero
  slots := []
  badSlots := []
  ctr := 0
  svn := []
  meas := []
  conns := []
  ide := []
  offerId := 0
  nonceEnd := none
  unlockEnd := none
  fails := []
  locked := false
  tap := .idcode
  halted := false
  haltAt := 0
  ijtag := []
  scanning := []

end Sys2Proof.Machine
end

