-- ==== Sys2Proof/Machine/State.lean ====
section
/-!
DEFINITION. Sys2Proof/Machine/State.lean: the state of the block, its reset, and the reasons a step can stop.
-/

namespace Sys2Proof.Machine

/-- The state of the block: everything the manual gives it, as plain data, and the queue of waiting commands. -/
structure State where
  /-- the fuse block -/
  fuse : Fuses
  /-- refcycles since the last L4 start-up (TEL_TIME) -/
  ref : Nat
  /-- the array acycle, which is also the rope acycle (R156, R284) -/
  acyc : Nat
  /-- every BAR0 register field that no other part holds -/
  regs : RegFile
  /-- the fields -/
  fields : SMap FieldSt
  /-- words on the links of the scheduled fabric -/
  links : List LinkWord
  /-- packets on the message meshes -/
  pkts : List Flight
  /-- the installed image -/
  image : Option Img
  /-- the image copy in the reserve -/
  copy : Option Img
  /-- the plaintext of an INSTALL that has passed its checks and is not committed -/
  pendingImg : Option Img
  /-- tag and tenant of the installed, or last installed, image -/
  tenant : Nat
  /-- the staging area of the reserve, by byte -/
  staging : SMap Byte
  /-- the running invocation -/
  run : Run
  /-- invocations issued and not started, oldest first -/
  invq : List Invocation
  /-- fault reports on their way to the firmware, oldest first -/
  reports : List Report
  /-- the logbook -/
  log : Log
  /-- the rope member -/
  rope : Rope
  /-- the six Hexkel ports -/
  ports : SMap HxPort
  /-- Base Camp's stop of the transit ring -/
  bcl : BcLink
  /-- pins, rails, start-up and the divider -/
  pw : Pw
  /-- the reset controller -/
  rst : Rst
  /-- the object dictionary -/
  dict : DictSt
  /-- the host ports and the work ledger -/
  ldg : Ledger
  /-- owners, attestation and debug access -/
  trust : Trust
  /-- what has left the block, newest first (the model's own) -/
  out : List Out
  /-- free values used so far (the model's own) -/
  free : Nat
  /-- the commands that wait, first in first out -/
  pending : List Instr
  deriving DecidableEq, Repr

/-- Why a step can fault. No command of this block ends in a fault: every command has an effect or leaves the state as it
is. -/
inductive Fault where
  /-- Raised by nothing; safe. -/
  | none
  deriving DecidableEq, Repr

/-- Why a step can be refused. -/
inductive Refusal where
  /-- A command without a meaning in the model, by its mnemonic; safe. -/
  | notModelled (mnemonic : String)
  deriving DecidableEq, Repr

/-- The block after a full reset (L4) with no start-up step made: every register at its reset value, stack and ledger memory
 lost, nothing waiting (R84, R434, R444). -/
def State.reset : State where
  fuse := Fuses.zero
  ref := 0
  acyc := 0
  regs := []
  fields := []
  links := []
  pkts := []
  image := none
  copy := none
  pendingImg := none
  tenant := 0
  staging := []
  run := Run.zero
  invq := []
  reports := []
  log := Log.zero
  rope := Rope.zero
  ports := []
  bcl := BcLink.zero
  pw := Pw.zero
  rst := Rst.zero
  dict := DictSt.zero
  ldg := Ledger.zero
  trust := Trust.zero
  out := []
  free := 0
  pending := []

end Sys2Proof.Machine
end

