-- ==== Sys2Proof/Machine/Ops.lean ====
section
/-!
DEFINITION. Sys2Proof/Machine/Ops.lean: the named operations over the block's state: register fields, the places of tiles, the
work that a tile does in its surroundings, fault reports, packets and outputs.
-/

namespace Sys2Proof.Machine

/-- A command that runs to a next state. -/
abbrev Res := Host.Outcome State Fault Refusal

/-! ### Registers, outputs, free values -/

/-- A BAR0 register field's value. -/
def State.reg (s : State) (f : Fld) (i : Nat := 0) (j : Nat := 0) : Nat := s.regs.get f i j

/-- A BAR0 register field written. -/
def State.setReg (s : State) (f : Fld) (v : Nat) (i : Nat := 0) (j : Nat := 0) : State :=
  { s with regs := s.regs.set f i j v }

/-- Adds to a saturating counter. -/
def State.satReg (s : State) (f : Fld) (i : Nat := 0) (n : Nat := 1) : State := s.setReg f (satAdd f.w (s.reg f i) n) i

/-- Adds to a wrapping counter. -/
def State.addReg (s : State) (f : Fld) (i : Nat := 0) (n : Nat := 1) : State := s.setReg f (s.reg f i + n) i

/-- The first word of a list that passes a test, and the list without it. -/
def takeFirst {α : Type} (p : α → Bool) : List α → Option (α × List α)
  | [] => none
  | x :: r => if p x then some (x, r) else (takeFirst p r).map (fun q => (q.1, x :: q.2))

/-- Sends something out of the block. -/
def State.emit (s : State) (c : Chan) (port tag : Nat) (body : List Nat) : State := { s with out := ⟨c, port, tag, body⟩ :: s.out }

/-- One refcycle passes with no command: TEL_TIME counts it (R504). -/
def State.tick (s : State) : State := { s with ref := s.ref + 1 }

/-- A value that the manual leaves open, and the state with the count of them advanced (assumption 1). -/
def State.fresh (s : State) : Nat × State := (Config.free s.free, { s with free := s.free + 1 })

/-- STATUS of a command register: 0 done, 1 busy, 2 refused, with the operation written (R11, R14). -/
def State.cmd (s : State) (st op : Fld) (status code : Nat) (i : Nat := 0) : State := (s.setReg st status i).setReg op code i

/-! ### Dictionary values (R407) -/

/-- The default in force of an entry: a base plus the node ID, the factory value of the active slot, the fuses' level for a reset
source, or the table's (R415, R423, R429). -/
def State.odDefault (s : State) (e : Ent) : Nat :=
  if e.key = odKey 0x1014 0 then 0x80 + s.dict.node
  else if e.key = odKey 0x1800 1 then 0x180 + s.dict.node
  else if e.key = odKey 0x1801 1 then 0x280 + s.dict.node
  else if e.key = odKey 0x1400 1 then 0x180 + (match SMap.get 0 s.dict.work (odKey 0x2020 5) with
    | v + 1 => v
    | 0 => 0x10)
  else if odKey 0x3000 1 ≤ e.key ∧ e.key ≤ odKey 0x3000 8 then s.fuse.levels.getD (e.key - odKey 0x3000 1) 0
  else if e.store = .profile then factory ((SMap.get 0 s.dict.work (odKey 0x2000 1)) - 1) e
  else e.dflt

/-- The working value of an entry by index and subindex. -/
def State.od (s : State) (ix sub : Nat) : Nat :=
  match SMap.get 0 s.dict.work (odKey ix sub) with
  | v + 1 => v
  | 0 => match odFind (odKey ix sub) with
    | some e => s.odDefault e
    | none => 0

/-- The value in effect of an entry that is not live: the working value of the last L2 release or higher (R408). -/
def State.odEff (s : State) (ix sub : Nat) : Nat :=
  match SMap.get 0 s.dict.effect (odKey ix sub) with
  | v + 1 => v
  | 0 => s.od ix sub

/-- A working value written. -/
def State.setOd (s : State) (ix sub v : Nat) : State :=
  { s with dict := { s.dict with work := s.dict.work.set 0 (odKey ix sub) (v + 1) } }

/-- Profile Crocus is active. -/
def State.crocus (s : State) : Bool := s.od 0x2000 1 = 0

/-! ### Order code and geometry (R2, R4, R5, R225, R491, R492, R528) -/

/-- Fields of the order code. -/
def State.nFields (s : State) : Nat := if s.fuse.variant = 1 then 40 else 48
/-- Whether field `f` exists. -/
def State.present (s : State) (f : Nat) : Bool := decide (f < s.nFields)
/-- The fields of the order code. -/
def State.allFields (s : State) : List Nat := List.range s.nFields
/-- Rows of the logical array. -/
def State.rows (s : State) : Nat := if s.fuse.variant = 1 then 640 else 768
/-- Bytes of a stack segment that exist (R199). -/
def State.segBytes (s : State) : Nat := if s.fuse.variant = 2 then 0x280000 else 0x500000
/-- Hexkel ports of the order code. -/
def State.nPorts (s : State) : Nat := if s.fuse.variant = 3 then 2 else 6

/-- An owner slot as it reads: REVOKED where its record in flash fails its MAC (R367). -/
def State.slotOwner (s : State) (k : Nat) : OwnerSlot :=
  let x := s.trust.slots.get OwnerSlot.zero k
  if s.trust.badSlots.contains k then { x with state := 2 } else x

/-- A rising list with one more element. -/
def insertAsc (x : Nat) : List Nat → List Nat
  | [] => [x]
  | y :: r => if x < y then x :: y :: r else if x = y then y :: r else y :: insertAsc x r

/-- The crevasse map in force for a field: the union of fuses and logbook (R491). -/
def State.crev (s : State) (f : Nat) : Crev :=
  let a := s.fuse.crev.get Crev.zero f
  let b := s.log.crev.get Crev.zero f
  { cols := b.cols.foldl (fun l x => insertAsc x l) (a.cols.foldl (fun l x => insertAsc x l) [])
    rows := b.rows.foldl (fun l x => insertAsc x l) (a.rows.foldl (fun l x => insertAsc x l) [])
    dead := b.dead.foldl (fun l x => insertAsc x l) (a.dead.foldl (fun l x => insertAsc x l) [])
    pending := b.pending
    seams := b.seams ++ a.seams.filter (fun l => !b.seams.any (fun k => k.north = l.north && k.line = l.line && k.dir = l.dir)) }

/-- The local physical index of logical index `l`, past the skipped ones, which rise (R492). -/
def physOf (skips : List Nat) (l : Nat) : Nat := skips.foldl (fun p c => if c ≤ p then p + 1 else p) l

/-- The logical index at local physical index `p`; none where it is skipped or spare (R492). -/
def logOf (skips : List Nat) (p : Nat) : Option Nat :=
  let l := p - (skips.filter (fun c => decide (c < p))).length
  if skips.contains p || decide (128 ≤ l) then none else some l

/-- The key of a tile in its field: local physical x + 132 y. -/
def tileKey (lpx lpy : Nat) : Nat := lpx + 132 * lpy

/-- The local logical position of a tile; none for a spare tile. -/
def State.position (s : State) (f key : Nat) : Option (Nat × Nat) :=
  let c := s.crev f
  match logOf c.cols (key % 132), logOf c.rows (key / 132) with
  | some x, some y => some (x, y)
  | _, _ => none

/-- The key of the tile at a local logical position. -/
def State.keyAt (s : State) (f lx ly : Nat) : Nat :=
  let c := s.crev f
  tileKey (physOf c.cols lx) (physOf c.rows ly)

/-- Field and key of the tile that a message pair names (R205); none for an unassigned pair. -/
def State.locate (s : State) (a : Nat) : Option (Nat × Nat) :=
  let x := pairX a
  let y := pairY a
  if y < s.rows then
    let f := 8 * (y / 128) + x / 128
    some (f, s.keyAt f (x % 128) (y % 128))
  else if 768 ≤ y ∧ y < 960 then
    let f := (y - 768) / 4
    let k := (y - 768) % 4
    if !s.present f then none
    else if x < 132 then some (f, tileKey (128 + k) x)
    else if 512 ≤ x ∧ x < 640 then some (f, tileKey (x - 512) (128 + k))
    else none
  else none

/-- The spare pair of a tile that lies in a spare column or row by its physical place. -/
def sparePair (f key : Nat) : Nat :=
  let px := key % 132
  let py := key / 132
  if 128 ≤ px then pairOf2 py (768 + 4 * f + (px - 128)) else pairOf2 (512 + px) (768 + 4 * f + (py - 128))

/-- The message pair of a tile: its logical pair, or its spare pair (R205). -/
def State.pairAt (s : State) (f key : Nat) : Nat :=
  match s.position f key with
  | some (x, y) => pairOf2 (128 * (f % 8) + x) (128 * (f / 8) + y)
  | none => sparePair f key

/-- The Hexkel port and landing tile index of a logical tile and mesh output that faces the wafer edge (R223, R225). -/
def State.landingOf (s : State) (x y o : Nat) : Option (Nat × Nat) :=
  let top := s.rows - 1
  let two := s.nPorts = 2
  if o = 1 ∧ x = 1023 ∧ 320 ≤ y ∧ y < 448 then some (0, y - 320)
  else if o = 3 ∧ x = 0 ∧ 320 ≤ y ∧ y < 448 then some (1, y - 320)
  else if two then none
  else if o = 0 ∧ y = top ∧ 256 ≤ x ∧ x < 384 then some (2, x - 256)
  else if o = 2 ∧ y = 0 ∧ 640 ≤ x ∧ x < 768 then some (3, x - 640)
  else if o = 0 ∧ y = top ∧ 640 ≤ x ∧ x < 768 then some (4, x - 640)
  else if o = 2 ∧ y = 0 ∧ 256 ≤ x ∧ x < 384 then some (5, x - 256)
  else none

/-- The logical pair and edge port of landing tile `i` of a Hexkel port (R223, R225). -/
def State.landingTile (s : State) (p i : Nat) : Nat × Nat :=
  match p with
  | 0 => (pairOf2 1023 (320 + i), 1)
  | 1 => (pairOf2 0 (320 + i), 3)
  | 2 => (pairOf2 (256 + i) (s.rows - 1), 0)
  | 3 => (pairOf2 (640 + i) 0, 2)
  | 4 => (pairOf2 (640 + i) (s.rows - 1), 0)
  | _ => (pairOf2 (256 + i) 0, 2)

/-- PORT_WIDTH of a port in the installed image. -/
def State.portWidth (s : State) (p : Nat) : Nat :=
  match s.image with
  | some m => m.portWidth p
  | none => 0

/-- The edge ports of a logical tile that exist (R126, R226). -/
def State.edgePorts (s : State) (x y : Nat) : List Nat :=
  (List.range 4).filter (fun o => match s.landingOf x y o with
    | some (p, _) => decide (s.portWidth p ≠ 0)
    | none => false)

/-! ### Fields and tiles -/

/-- Field `f`. -/
def State.field (s : State) (f : Nat) : FieldSt := s.fields.get FieldSt.zero f
/-- Field `f` changed. -/
def State.updField (s : State) (f : Nat) (g : FieldSt → FieldSt) : State :=
  { s with fields := s.fields.upd FieldSt.zero f g }

/-- What an unlisted tile of the field is. -/
def State.tileBase (s : State) (f key : Nat) : Tile :=
  if (s.position f key).isSome then (s.field f).logical else (s.field f).spare

/-- The tile with a key. -/
def State.tile (s : State) (f key : Nat) : Tile := (s.field f).tiles.get (s.tileBase f key) key

/-- The tile with a key written. -/
def State.setTile (s : State) (f key : Nat) (t : Tile) : State :=
  let b := s.tileBase f key
  s.updField f (fun g => { g with tiles := g.tiles.set b key t })

/-- Every tile of a field changed, each by its logical position's class. -/
def State.mapTiles (s : State) (f : Nat) (g : Tile → Tile) : State :=
  let fs := s.field f
  let l := g fs.logical
  let p := g fs.spare
  let base := fun (k : Nat) => if (s.position f k).isSome then l else p
  let ts := (fs.tiles.map (fun e => (e.1, g e.2))).filter (fun e => decide (e.2 ≠ base e.1))
  s.updField f (fun fs => { fs with logical := l, spare := p, tiles := ts })

/-- Every tile of every field of a list changed. -/
def State.mapFields (s : State) (fs : List Nat) (g : Tile → Tile) : State := fs.foldl (fun s f => s.mapTiles f g) s

/-- Whether some tile of a field passes a test. -/
def FieldSt.anyTile (f : FieldSt) (p : Tile → Bool) : Bool := p f.logical || f.tiles.any (fun e => p e.2)

/-- The mode of field `f` in the installed image: 0 ABSENT, 1 TRANSIT, 2 ACTIVE (R158). -/
def State.mode (s : State) (f : Nat) : Nat :=
  match s.image with
  | some m => if s.present f then m.fieldMode f else 0
  | none => 0

/-- Fields whose mode is ACTIVE or TRANSIT. -/
def State.usedFields (s : State) : List Nat := (List.range s.nFields).filter (fun f => decide (s.mode f ≠ 0))

/-- FLD_HOLD.STATE is OUT or RETURNING. -/
def State.heldOut (s : State) (f : Nat) : Bool := s.reg F.FLD_HOLD_STATE f ≠ 0
/-- The field is in a reset of level L1 or above: FLD_RST.STATE 2 to 4. -/
def State.inL1 (s : State) (f : Nat) : Bool := decide (2 ≤ s.reg F.FLD_RST_STATE f)
/-- The last release step complete for a field in reset (R441). -/
def State.fieldStep (s : State) (f : Nat) : Nat := s.rst.late.get 0 f
/-- Whether a field has an east or a north seam: the module holds a field on both sides (R155). -/
def State.hasSeam (s : State) (f : Nat) (north : Bool) : Bool :=
  s.present f && (if north then s.present (f + 8) else decide (f % 8 ≠ 7) && s.present (f + 1))

/-- FLD_SEAM_E and FLD_SEAM_N show the link directions of the crevasse map (R129, R155). -/
def State.seamRegs (s : State) (f : Nat) : State :=
  let c := s.crev f
  (((s.setReg F.FLD_SEAM_E_REPAIRED (c.seamCount false false) f).setReg F.FLD_SEAM_E_DEFECT (c.seamCount false true) f).setReg
    F.FLD_SEAM_N_REPAIRED (c.seamCount true false) f).setReg F.FLD_SEAM_N_DEFECT (c.seamCount true true) f

/-- Base Camp realigns the crossings of a field and reapplies its spare wires (R155). -/
def State.alignSeams (s : State) (f : Nat) : State :=
  let s := if s.hasSeam f false then s.setReg F.FLD_SEAM_E_ALIGNED 1 f else s
  let s := if s.hasSeam f true then s.setReg F.FLD_SEAM_N_ALIGNED 1 f else s
  s.seamRegs f

/-- The field's message fabric is in reset: L1 or above, before step 5. -/
def State.msgReset (s : State) (f : Nat) : Bool := s.inL1 f && decide (s.fieldStep f < 5)
/-- The field's control cores are in reset: L1 or above, before step 6. -/
def State.coreReset (s : State) (f : Nat) : Bool := s.inL1 f && decide (s.fieldStep f < 6)
/-- The field is in any reset. -/
def State.inReset (s : State) (f : Nat) : Bool := s.reg F.FLD_RST_STATE f ≠ 0
/-- The field is dark (R472). -/
def State.dark (s : State) (f : Nat) : Bool := s.reg F.FLD_PWR_DARK f ≠ 0
/-- The field's compute rail is on (FLD_PWR.RAILS bit 0). -/
def State.compOn (s : State) (f : Nat) : Bool := bitOf (s.reg F.FLD_PWR_RAILS f) 0
/-- Requests to tiles of the field are answered UNAVAILABLE (R212, R221, R445). -/
def State.away (s : State) (f : Nat) : Bool := s.heldOut f || s.dark f || s.msgReset f || !s.compOn f ||
  s.trust.scanning.contains f

/-- The mode in force of a field group (0 MXU, 1 VU, 2 CC): the mode written, while no image uses the field or it is out
(R462, R463). -/
def State.gateEff (s : State) (f g : Nat) : Nat :=
  let m := bits (s.reg F.FLD_GATE_MODE f) (2 * g) 2
  if m = 3 || !(s.image.isNone || s.mode f = 0 || s.heldOut f) then 0 else m

/-- The place of a tile. -/
def State.tpos (s : State) (f key : Nat) : TPos :=
  let fx := f % 8
  let fy := f / 8
  let pos := s.position f key
  let l := pos.getD (0, 0)
  let x := 128 * fx + l.1
  let y := 128 * fy + l.2
  { f := f
    px := 132 * fx + key % 132
    py := 132 * fy + key / 132
    spare := pos.isNone
    lx := x
    ly := y
    rows := s.rows
    extra := if pos.isNone then [] else s.edgePorts x y
    segBytes := s.segBytes
    now := s.acyc
    gated := (List.range 3).foldl (fun n g => n + if s.gateEff f g = 2 then 2 ^ g else 0) 0 }

/-- The field's PLL is locked. -/
def State.pllLocked (s : State) (f : Nat) : Bool := bitOf (s.reg F.CLK_PLL_FIELD) f
/-- The field's ACLK runs. -/
def State.aclk (s : State) (f : Nat) : Bool := s.pllLocked f && !(s.field f).stopped
/-- The agent of the field's tiles answers UNAVAILABLE: they are held out, dark or unpowered, or scanned by the TAP (R179, R219,
R521). -/
def State.agentAway (s : State) (f : Nat) : Bool := s.heldOut f || s.dark f || !s.compOn f || s.trust.scanning.contains f

/-! ### The array acycle (R156, R510, R511) -/

/-- Every histogram of a tile reads zero. -/
def Tile.clearHist (t : Tile) : Tile := { t with regs := t.regs.keep (fun k => decide (k < 0x10400 * 64 ∨ 0x10600 * 64 ≤ k)) }

/-- A CLEAR of a field takes effect (R510). -/
def State.clearTel (s : State) (f : Nat) : State :=
  let s := (s.mapTiles f Tile.clearHist).updField f (fun g => { g with clearAt := none })
  (s.setReg F.FLD_TEL_CFG_SAMPLES 0 f).setReg F.FLD_TEL_CFG_STATUS 0 f

/-- CLEARs that are due at array acycle `t` take effect. -/
def State.clearsDue (s : State) (t : Nat) : State :=
  (s.fields.filter (fun e => match e.2.clearAt with
    | some a => decide (a ≤ t)
    | none => false)).foldl (fun s e => s.clearTel e.1) s

/-- The array acycle counter moves on to acycle `t`; FLD_TEL_ACYC and FLD_TEL_LIVE count it. -/
def State.advance (s : State) (t : Nat) : State :=
  let d := t - s.acyc
  let s := if d = 0 then s else
    ((List.range s.nFields).filter s.aclk).foldl (fun s f =>
      let s := s.addReg F.FLD_TEL_ACYC_ACYC f d
      if (s.field f).live then s.addReg F.FLD_TEL_LIVE_ACYC f d else s) s
  { s with acyc := t }.clearsDue t

/-! ### Faults (R85, R314, R477) -/

/-- A report joins the fault path; the 65th of a field collector's queue is counted as lost (R477). -/
def State.report (s : State) (r : Report) : State :=
  if r.tree && decide (64 ≤ (s.field r.field).queued) then s.satReg F.FLT_STATUS_LOST
  else
    let s := if r.tree then s.updField r.field (fun g => { g with queued := g.queued + 1 }) else s
    { s with reports := s.reports ++ [r] }

/-- The first report of a field, and the count since (FLD_FAULT). -/
def State.collect (s : State) (f code lxy : Nat) : State :=
  if s.reg F.FLD_FAULT_VALID f = 0 then
    (((s.setReg F.FLD_FAULT_VALID 1 f).setReg F.FLD_FAULT_CODE code f).setReg F.FLD_FAULT_LXY lxy f).setReg
      F.FLD_FAULT_COUNT 1 f
  else s.satReg F.FLD_FAULT_COUNT f

/-- The running section becomes invalid (R51, R169). -/
def State.invalidate (s : State) : State := { s with run := { s.run with invalid := true } }

/-- A report about a field, port, rail, module or Base Camp, which enters at stage 3 (R477). -/
def State.moduleFault (s : State) (subject code field detail : Nat) (trig : Bool) : State :=
  s.report ⟨code, subject, field, 0, 0, none, s.acyc - (s.field field).secStart, s.acyc, detail, false, trig, 0, 0⟩

/-- A fault of a field that makes the running section invalid. -/
def State.fieldFault (s : State) (f code : Nat) : State := (s.invalidate).moduleFault 1 code f 0 true

/-- The tile's report on its field's tree, and the collector (R477). `trig` says that it is an abort trigger. -/
def State.tileReport (s : State) (f key code acyc : Nat) (trig : Bool) : State :=
  let p := s.tpos f key
  let a := s.pairAt f key
  (s.collect f code a).report
    ⟨code, 0, f, p.px, p.py, if p.spare then none else some a, acyc, s.acyc, 0, true, trig, 0, 0⟩

/-! ### The stack segment's uncorrectable words (R193) -/

/-- The word of the image's stack image at a segment address of a tile, if it lies there. -/
def State.imageWord (s : State) (f key a : Nat) : Option Nat :=
  match s.copy, s.position f key with
  | some m, some (x, y) =>
    let e := m.tdir f x y
    if s.mode f ≠ 0 ∧ a + 8 ≤ e.stackBytes then some (m.u (e.payload + a) 8) else none
  | _, _ => none

/-- The watermark of a handle in the last committed checkpoint (R193): 0 where none is committed. -/
def State.committedMark (s : State) (f key n : Nat) : Nat :=
  if s.reg F.BC_ROPE_CKP_CVALID = 0 then 0
  else
    match s.position f key with
    | none => 0
    | some (x, y) =>
      let sl := if s.reg F.BC_ROPE_CKP_CSLOT = 0 then s.rope.slotA else s.rope.slotB
      let fc := sl.content.get FieldCap.zero f
      ((fc.tiles.get fc.rest (x + 128 * y)).handles.get Handle.zero n).wmark.toNat

/-- The handle entries of a role, with the tenant's tag (R177 step 3). -/
def Img.handles (m : Img) (ro : Role) (tag : BitVec 4) : SMap Handle :=
  (List.range 64).foldl (fun r n =>
    let h := ((Handle.zero.put0 (BitVec.ofNat 64 (m.handle0 ro n))).put1 (BitVec.ofNat 64 (m.handle1 ro n)))
    r.set Handle.zero n { h with ten := tag }) []

/-- The handle entries that the installed image gives a tile: none at a place of no logical position. -/
def State.imageHandles (s : State) (f key : Nat) : SMap Handle :=
  match s.image, s.position f key with
  | some m, some (x, y) => if s.mode f = 0 then [] else m.handles (m.role (m.tdir f x y).role) (BitVec.ofNat 4 s.tenant)
  | _, _ => []

/-- The outcome of an uncorrectable stack word at a byte address (R193): FLD_STK_ECC records it and Base Camp rewrites it by
the restoration table, and has the sessions re-prefilled whose cache it held. The Bool says that the table's row makes the
record an abort trigger. -/
def State.stackUe (s : State) (f key a : Nat) (sched : Bool) : State × Bool :=
  let t := s.tile f key
  let p := s.tpos f key
  let hs := (s.imageHandles f key).filter (fun h => h.2.valid && h.2.stackSpace &&
    decide (h.2.base.toNat < a / 8 * 8 + 8 ∧ a / 8 * 8 < h.2.base.toNat + h.2.length.toNat))
  let caches := hs.filter (fun h => h.2.app && decide (a < h.2.base.toNat + s.committedMark f key h.1))
  let plain := hs.any (fun h => !h.2.res || h.2.ckp || h.2.app)
  let onlyRes := !hs.isEmpty && !plain
  let w := if onlyRes then
      ⟨BitVec.ofNat 64 ((s.imageWord f key (a / 8 * 8)).getD 0), BitVec.ofNat 4 s.tenant, 0⟩ else CWord.zero
  let s := s.setTile f key { t with stack := t.stack.set CWord.zero (a / 8) w }
  let s := if caches.isEmpty then s else
    { s with ldg := s.ldg.rebuildSome (fun i => caches.any (fun h => Config.holdsSession f key h.1 i)) }
  let s := s.satReg F.FLD_STK_ECC_UE_COUNT f
  let s := if s.reg F.FLD_STK_ECC_UE f = 0 then
      ((s.setReg F.FLD_STK_ECC_UE 1 f).setReg F.FLD_STK_ECC_UE_PX p.px f).setReg F.FLD_STK_ECC_UE_PY p.py f else s
  (s, plain || (onlyRes && sched))

/-- An uncorrectable stack word that no tile's own work found: it is recorded in the tile and handled (R193). -/
def State.foundUe (s : State) (f key a : Nat) : State :=
  let t := s.tile f key
  let t := if t.reg F.STK_ECC_UE = 0 then (t.setReg F.STK_ECC_UE 1).setReg F.STK_ECC_UE_ADDR a else t
  let acyc := t.secAcyc s.acyc
  let r := (s.setTile f key (t.latchFault Code.eccStkUe acyc)).stackUe f key a false
  r.1.tileReport f key Code.eccStkUe acyc r.2

/-- A read of `n` bytes of a tile's segment that is none of the tile's own work: a corrected word is counted and an uncorrectable
one is recorded and handled (R192, R193). -/
def State.noteStack (s : State) (f key a n : Nat) : State :=
  let ws := (s.tile f key).stack.filter (fun w => decide (n ≠ 0 ∧ a / 8 ≤ w.1 ∧ w.1 ≤ (a + n - 1) / 8))
  let ce := (ws.filter (fun w => w.2.ecc = .one)).length
  let s := if ce = 0 then s else
    (s.setTile f key ((s.tile f key).countSat F.STK_ECC_CE_COUNT ce)).satReg F.FLD_STK_ECC_CE_COUNT f ce
  ((ws.filter (fun w => w.2.ecc = .multi)).map (·.1)).foldl (fun s i => s.foundUe f key (8 * i)) s

/-- The handles of a tile that cover a lost scratch word and are marked RES are reloaded from the image copy; the image's own
table is taken where a reset has cleared the live one (R72, R316 step 6). -/
def State.reloadLost (s : State) (f key : Nat) (lost : List Nat) : State :=
  match s.copy, s.position f key with
  | some m, some (x, y) =>
    if s.mode f = 0 then s
    else
      let e := m.tdir f x y
      let t := s.tile f key
      let tag := BitVec.ofNat 4 s.tenant
      let hs := (if t.handles.isEmpty then m.handles (m.role e.role) tag else t.handles).map (·.2)
      let hit := hs.filter (fun h => h.valid && !h.stackSpace && h.res &&
        lost.any (fun i => decide (h.base.toNat < 8 * i + 8 ∧ 8 * i < h.base.toNat + h.length.toNat)))
      let scr := hit.foldl (fun sc h =>
        let sp := wordSpan h.base.toNat h.length.toNat
        (List.range sp.2).foldl (fun sc k =>
          let i := sp.1 + k
          let d := if 8 * i + 8 ≤ e.scratchBytes then m.u (e.payload + e.stackBytes + 8 * i) 8 else 0
          let new : CWord := ⟨BitVec.ofNat 64 d, tag, 0⟩
          sc.set CWord.zero i (mixWord [(h.base.toNat, h.length.toNat)] i (sc.get CWord.zero i) new)) sc) t.scratch
      s.setTile f key { t with scratch := scr }
  | _, _ => s

/-! ### Absorbing a tile's work -/

/-- A word that a logical tile drives on output `o` goes onto its link, or into the I/O field's slot of its acycle
(R127, R226). -/
def State.drive (s : State) (x y now : Nat) (o : Nat) (tok : Tok) : State :=
  match s.landingOf x y o with
  | some (p, i) =>
    let g := s.ports.get HxPort.zero p
    let edge := if g.edgeAt = now then g.edge ++ [(i, tok)] else [(i, tok)]
    { s with ports := s.ports.set HxPort.zero p { g with edge := edge, edgeAt := now } }
  | none =>
    let d := if o < 4 then 1 else 32
    let nx := if o % 4 = 1 then x + d else if o % 4 = 3 then x - d else x
    let ny := if o % 4 = 0 then y + d else if o % 4 = 2 then y - d else y
    let seam := nx / 128 ≠ x / 128 || ny / 128 ≠ y / 128
    { s with links := s.links ++ [⟨pairOf2 nx ny, 4 * (o / 4) + (o + 2) % 4, tok, if seam then now + 2 else now, seam⟩] }

/-- Adds `n` to the newest entry of a beat log, or opens one for this acycle, and drops entries older than 2,200 acycles. -/
def logBeats (l : List (Nat × Nat)) (now n : Nat) : List (Nat × Nat) :=
  let l := l.filter (fun p => decide (now < p.1 + 2200))
  if n = 0 then l
  else
    match l with
    | (a, k) :: r => if a = now then (a, k + n) :: r else (now, n) :: l
    | [] => [(now, n)]

/-- The beats of acycles t − 1,023 to t. -/
def sumBeats (l : List (Nat × Nat)) (now : Nat) : Nat :=
  ((l.filter (fun p => decide (now < p.1 + 1024 ∧ p.1 ≤ now))).map (·.2)).foldl (· + ·) 0

/-- The declared stack beats of field `f` in section `sec` of the installed image (R173, R185). -/
def State.declared (s : State) (f sec : Nat) : Nat :=
  match s.image with
  | some m => m.budget sec f / 64
  | none => 0

/-- Whether S(t) exceeds the largest declared value among the sections that overlap acycles t − 1,023 to t (R184). -/
def State.beatsOver (s : State) (f t : Nat) : Bool :=
  let g := s.field f
  let now := if g.live && decide (g.secStart ≤ t) then s.reg F.FLD_STK_USE_DECL f else 0
  let past := (g.decls.filter (fun d => decide (d.from_ ≤ t ∧ t < d.end_ + 1023))).map (·.beats)
  decide (past.foldl max now < sumBeats g.beats t)

/-- Scheduled beats issued in acycle `now` are counted. An excursion above the declared value is recorded in its first acycle,
and anew only after an acycle that has ended without one (R183, R184). -/
def State.countBeats (s : State) (f now n : Nat) : State :=
  if n = 0 then s
  else
    let s := s.updField f (fun g => { g with beats := logBeats g.beats now n })
    let s := s.setReg F.FLD_STK_USE_PEAK (max (s.reg F.FLD_STK_USE_PEAK f) (sumBeats (s.field f).beats now)) f
    if !s.beatsOver f now then s
    else
      let anew := match (s.field f).excess with
        | none => true
        | some e => (List.range (min (now - e - 1) 1100)).any (fun k => !s.beatsOver f (now - 1 - k))
      let s := s.updField f (fun g => { g with excess := some now })
      if anew then (s.satReg F.FLD_STK_USE_OVER f).fieldFault f Code.stkOverbudget else s

/-! ### Refresh steps (R186, R189) -/

/-- One refresh step of a field (R186, FLD_STK_REF). -/
def State.refreshStep (s : State) (f : Nat) : State :=
  let gap := s.ref - (s.field f).lastStep
  let s := s.setReg F.FLD_STK_REF_ROW ((s.reg F.FLD_STK_REF_ROW f + 1) % 160) f
  let s := s.setReg F.FLD_STK_REF_MAXGAP (max (s.reg F.FLD_STK_REF_MAXGAP f) (min gap 0xFFFF)) f
  s.updField f (fun g => { g with lastStep := s.ref })

/-- A field's section stops being live: autonomous mode, and one step at once (R185, R189). -/
def State.stopLive (s : State) (f : Nat) : State :=
  if !(s.field f).live then s
  else
    let d := s.reg F.FLD_STK_USE_DECL f
    let s := s.updField f (fun g => { g with live := false, decls := ⟨g.secStart, s.acyc, d⟩ :: g.decls })
    let s := s.setReg F.FLD_STK_USE_DECL 0 f
    if s.reg F.FLD_STK_REF_MODE f = 0 then s else (s.setReg F.FLD_STK_REF_MODE 1 f).refreshStep f

/-! ### The next switch (R161, R169) -/

/-- What a switch goes into: its acycle, the section, its length, the lengths that follow, and for an entry switch the
invocation and whether it is a cold start's. -/
structure SwitchTo where
  w : Nat
  section_ : Nat
  len : Nat
  lens : List Nat
  entry : Option (Invocation × Bool)
  deriving DecidableEq, Repr

/-- The switch to the section after the running one. -/
def State.nextSection (s : State) : Option SwitchTo :=
  match s.run.lens with
  | l :: r => some ⟨s.run.next, s.run.section_ + 1, l, r, none⟩
  | [] => none

/-- The switch that comes next; none where none is to come. After the LAST section it is the chained invocation's entry switch,
unless a fault has made a section of the running one invalid (R169). -/
def State.switchNext (s : State) : Option SwitchTo :=
  match s.image, s.run.cur, s.run.nxt with
  | some m, some _, some (i, cold, l :: r) =>
    if !s.run.last then s.nextSection
    else if s.run.invalid then none
    else some ⟨s.run.next, m.entrySec i.entry, l, r, some (i, cold)⟩
  | some m, none, some (i, cold, l :: r) => some ⟨i.start, m.entrySec i.entry, l, r, some (i, cold)⟩
  | some _, some _, none => if s.run.last then none else s.nextSection
  | _, _, _ => none

/-- Whether a tile's fault code can be an abort trigger: core traps, lock-ups and message faults are not (R222, R314). -/
def trigCode (c : Nat) : Bool := c ≠ Code.coreTrap && c ≠ Code.coreLockup && !decide (0x0300 ≤ c ∧ c < 0x0400)

/-- The surroundings take in what a tile did: its state, the words it drives, its beats, faults and packets. -/
def State.absorb (s : State) (f key : Nat) (w : TW) : State :=
  let p := s.tpos f key
  let s := s.setTile f key w.t
  let s := w.words.foldl (fun s o => s.drive p.lx p.ly w.now o.1 o.2) s
  let s := s.countBeats f w.now w.beats
  let s := s.satReg F.FLD_STK_ECC_CE_COUNT f w.stkCe
  let r := w.stkUe.reverse.foldl (fun (r : State × Bool) a =>
    let q := r.1.stackUe f key a w.inval
    (q.1, r.2 || q.2)) (s, false)
  let s := w.faults.reverse.foldl (fun s c =>
    s.tileReport f key c (w.t.secAcyc w.now) (trigCode c && (w.inval || (c = Code.eccStkUe && r.2)))) r.1
  let s := if w.inval then s.invalidate else s
  let s := s.satReg F.FLD_STK_REF_CLASH f (w.faults.filter (fun c => c = Code.stkRefreshClash)).length
  { s with pkts := s.pkts ++ w.pkts.map (fun q => ⟨s.pairAt f key, s.pairAt f key, q⟩) }

/-- Runs a tile's work at a message pair; no effect where the pair names no tile. -/
def State.atTile (s : State) (a : Nat) (g : State → Nat → Nat → TPos → Tile → TW) : State :=
  match s.locate a with
  | none => s
  | some (f, key) => s.absorb f key (g s f key (s.tpos f key) (s.tile f key))

/-- As `atTile`, for work that only changes the tile. -/
def State.atTile' (s : State) (a : Nat) (g : TPos → Tile → Tile) : State :=
  s.atTile a (fun s _ _ p t => TW.start (g p t) s.acyc)

end Sys2Proof.Machine
end

