-- ==== Sys2Proof/Machine/CairnOps.lean ====
section
/-!
DEFINITION. Sys2Proof/Machine/CairnOps.lean: the cairn engines: checksums and digests of declared streams (spec 09_ropes R294 to
R300).
-/

namespace Sys2Proof.Machine

/-- p = 2^61 − 1 (R296). -/
def cairnP : Nat := 2 ^ 61 - 1

/-- R ^ n mod p by squaring. -/
def powMod (fuel r n : Nat) : Nat :=
  match fuel with
  | 0 => 1
  | k + 1 =>
    if n = 0 then 1
    else
      let h := powMod k (r * r % cairnP) (n / 2)
      if n % 2 = 1 then r * h % cairnP else h

/-- The signed 128-bit XR value of two words, mod p (R121, R296). -/
def xrMod (lo hi : Nat) : Nat := ((signedOf 128 (lo + 2 ^ 64 * hi)) % (cairnP : Int)).toNat

/-- An engine that has taken no word. -/
def Engine.fresh (entry seqNo : Nat) : Engine := ⟨entry, seqNo, 0, 0, 0xFFFFFFFF, none, false⟩

/-- The engine takes the next word of its stream (R296). -/
def Engine.take (e : Engine) (c : CairnDef) (w : Nat) : Engine :=
  let e := { e with crc := (bytesLe 8 w).foldl crcByte e.crc }
  match e.half with
  | none => { e with half := some w, count := e.count + 1 }
  | some lo =>
    let k := e.count / 2
    let t := powMod 64 (c.r % cairnP) (c.k0 + k + 1) * xrMod lo w % cairnP
    { e with half := none, count := e.count + 1, lsum := (e.lsum + t) % cairnP }

/-- SEQ of a cairn (R297). -/
def cairnSeq (seqNo entry : Nat) : Nat := seqNo % 256 * 256 + entry

/-- TDIG of a stream whose sender has coordinates `coord` (R296). -/
def Engine.tdig (e : Engine) (coord : Nat) : Nat :=
  ((bytesLe 2 (cairnSeq e.seqNo e.entry) ++ bytesLe 2 coord).foldl crcByte e.crc) ^^^ 0xFFFFFFFF

/-- The 128-bit cairn of a stream (R297). -/
def Engine.cairn (e : Engine) (coord : Nat) : Nat :=
  e.tdig coord * 2 ^ 96 + cairnSeq e.seqNo e.entry * 2 ^ 80 + coord * 2 ^ 64 + e.lsum

/-- The engine of a stream instance. -/
def State.engine (s : State) (n seqNo : Nat) : Engine :=
  (s.rope.engines.find? (fun e => e.entry = n && e.seqNo = seqNo)).getD (Engine.fresh n seqNo)

/-- The engine of a stream instance written. -/
def State.setEngine (s : State) (e : Engine) : State :=
  { s with rope := { s.rope with
    engines := e :: s.rope.engines.filter (fun x => !(x.entry = e.entry && x.seqNo = e.seqNo)) } }

/-- The cairn entries of the installed image, by number. -/
def State.cairnDefs (s : State) : List (Nat × CairnDef) :=
  match s.image with
  | some m => (List.range m.rope.cairns).map (fun n => (n, m.cairn n))
  | none => []

/-- The section instance in whose stream an acycle is a capture acycle. -/
def State.instAt (s : State) (c : CairnDef) (t : Nat) : Option Inst :=
  s.rope.insts.find? (fun i => i.section_ = c.section_ && decide (i.start + c.start ≤ t ∧ t < i.start + c.start + c.span))

/-- Words of a port with their landing tiles, captured at acycle `t`, given to the engines of a kind of stream: a test says
which kinds (R296). -/
def State.feedEngines (s : State) (p t : Nat) (kinds : Nat → Bool) (ws : List (Nat × Nat)) : State :=
  (s.cairnDefs.filter (fun d => d.2.port = p && kinds d.2.kind)).foldl (fun s d =>
    match s.instAt d.2 t with
    | none => s
    | some i =>
      let mine := (List.range 128).filterMap (fun k =>
        if d.2.i0 ≤ k ∧ k ≤ d.2.i1 then (ws.find? (fun w => w.1 = k)).map (·.2) else none)
      if mine.isEmpty then s
      else s.setEngine (mine.foldl (fun e w => e.take d.2 w) (s.engine d.1 i.seqNo))) s

/-- The landing tiles whose words of acycle `t` are tallied and not sent (R294, R296). -/
def State.tallied (s : State) (p t : Nat) (k : Nat) : Bool :=
  s.cairnDefs.any (fun d => d.2.port = p && d.2.kind = 2 && decide (d.2.i0 ≤ k ∧ k ≤ d.2.i1) && (s.instAt d.2 t).isSome)

/-- The acycle after the last capture acycle of a stream in a section instance. -/
def streamEnd (c : CairnDef) (i : Inst) : Nat := i.start + c.start + c.span

/-- The member's own δ of check window `j` (R299). -/
def State.ownDelta (s : State) (j : Nat) : Nat :=
  (s.rope.insts.filter (fun i => i.start / 16384 = j)).foldl (fun t i =>
    (s.cairnDefs.filter (fun d => d.2.section_ = i.section_)).foldl (fun t d =>
      let l := (s.engine d.1 i.seqNo).lsum
      let t := if bitOf d.2.role 2 then (t + l) % cairnP else t
      if bitOf d.2.role 1 then (t + cairnP * d.2.mult - d.2.mult * l) % cairnP else t) t) 0

end Sys2Proof.Machine
end

