-- ==== Sys2Proof/Machine/LinkOps.lean ====
section
/-!
DEFINITION. Sys2Proof/Machine/LinkOps.lean: operations over the Hexkel ports and the transit ring: queues, packets and cells
and their routes, and what a port that goes DOWN does (spec 08_hexkel R224 to R268).
-/

namespace Sys2Proof.Machine

/-! ### Ports -/

/-- Port `p`'s state beside its registers. -/
def State.port (s : State) (p : Nat) : HxPort := s.ports.get HxPort.zero p
/-- Port `p` changed. -/
def State.updPort (s : State) (p : Nat) (g : HxPort → HxPort) : State := { s with ports := s.ports.upd HxPort.zero p g }
/-- HX_STATUS.STATE of a port. -/
def State.portState (s : State) (p : Nat) : Nat := s.reg F.HX_STATUS_STATE p
/-- The port carries traffic. -/
def State.portUp (s : State) (p : Nat) : Bool := s.portState p = 7
/-- The contracted width C of a port (R230). -/
def State.contract (s : State) (p : Nat) : Nat := if s.portWidth p ≠ 0 then s.portWidth p else s.od 0x6000 1
/-- The port is short (R230). -/
def State.short (s : State) (p : Nat) : Bool := !s.portUp p || decide (s.reg F.HX_STATUS_WIDTH p < s.contract p)
/-- The link layer is in reset: L3 or above, before step 3 of the release (R266, R441). -/
def State.linkReset (s : State) : Bool := s.rst.active && decide (3 ≤ s.rst.level ∧ s.rst.step < 3)
/-- A port exists and its link layer is out of reset. -/
def State.portLive (s : State) (p : Nat) : Bool := decide (p < s.nPorts) && !s.linkReset
/-- A fault about a port. -/
def State.portFault (s : State) (p code : Nat) (trig : Bool) : State := s.moduleFault 3 code p p trig

/-- The items of a transmit queue. -/
def HxPort.queue (g : HxPort) (ch : Nat) : List TxItem := g.tx.get [] ch

/-- Bytes join a transmit queue of a port; `transit` says that they come from another port by the ring. -/
def State.enqueue (s : State) (p ch : Nat) (bs : List Nat) (transit : Bool := false) : State :=
  s.updPort p (fun g => { g with tx := g.tx.set [] ch (g.queue ch ++ [⟨bs, 0, s.acyc, false, transit⟩]) })

/-- A port that the image uses is short: no invocation is issued or started (R231). -/
def State.usedShort (s : State) : Bool := (List.range 6).any (fun p => s.portWidth p ≠ 0 && s.short p)

/-! ### The torus (R7, R224) -/

/-- Component `i` (X, Y, Z) of module coordinates (R7). -/
def coordOf (c i : Nat) : Nat := bits c (5 * i) 5
/-- Coordinates with component `i` replaced. -/
def coordWith (c i v : Nat) : Nat := c - coordOf c i * 2 ^ (5 * i) + v * 2 ^ (5 * i)
/-- The module's own coordinates. -/
def State.own (s : State) : Nat := s.reg F.HX_TOPO_COORD
/-- Ring size of dimension `i`. -/
def State.ringSize (s : State) (i : Nat) : Nat :=
  (match i with
    | 0 => s.reg F.HX_TOPO_NXM1
    | 1 => s.reg F.HX_TOPO_NYM1
    | _ => s.reg F.HX_TOPO_NZM1) + 1
/-- Whether coordinates lie in the torus. -/
def State.inTorus (s : State) (c : Nat) : Bool := (List.range 3).all (fun i => decide (coordOf c i < s.ringSize i))

/-! ### Dynamic packets (R249 to R254) -/

/-- The bytes of a dynamic packet (R249, R250). -/
def Dyn.bytes (d : Dyn) : List Nat :=
  let b := bytesLe 2 (d.dst % 0x8000 + 0x8000 * d.vn) ++ bytesLe 2 (d.src % 0x8000) ++ bytesLe 2 d.payload.length ++
    [d.op % 256, d.status % 256] ++ bytesLe 4 d.id ++ bytesLe 4 d.arg ++ d.payload
  b ++ bytesLe 4 (crc32c b)

/-- The packet that bytes spell, its CRC left out. -/
def dynOf (b : List Nat) : Dyn :=
  { dst := leAt b 0 2 % 0x8000
    vn := leAt b 0 2 / 0x8000
    src := leAt b 2 2 % 0x8000
    op := leAt b 6 1
    status := leAt b 7 1
    id := leAt b 8 4
    arg := leAt b 12 4
    payload := (b.drop 16).take (leAt b 4 2) }

/-- The bytes of a privileged cell (R255). -/
def Cell.bytes (c : Cell) : List Nat :=
  let b := bytesLe 2 (c.dst % 0x8000 + 0x8000 * b2n c.bcast) ++ bytesLe 2 (c.src % 0x8000) ++
    [c.type % 32 + 32 * (c.vc % 2) + 64 * (c.phase % 4), c.hops % 32] ++ bytesLe 2 c.seqNo ++ padTo 52 c.body
  b ++ bytesLe 4 (crc32c b)

/-- The cell that 64 bytes spell. -/
def cellOf (b : List Nat) : Cell :=
  { bcast := bitOf (leAt b 0 2) 15
    dst := leAt b 0 2 % 0x8000
    src := leAt b 2 2 % 0x8000
    type := bits (leAt b 4 1) 0 5
    vc := bits (leAt b 4 1) 5 1
    phase := bits (leAt b 4 1) 6 2
    hops := bits (leAt b 5 1) 0 5
    seqNo := leAt b 6 2
    body := (b.drop 8).take 52 }

/-- Whether a cell's CRC holds. -/
def cellCrcOk (b : List Nat) : Bool := decide (crc32c (b.take 60) = leAt b 60 4)

/-- Where a dynamic packet goes next: to Base Camp, through a port, or nowhere (R251). -/
inductive Next where
  | here
  | out (p : Nat)
  | none
  deriving DecidableEq, Repr

/-- The next step of a dynamic packet: X, then Y, then Z, never round a ring (R251). -/
def State.dynNext (s : State) (dst : Nat) : Next :=
  if s.reg F.HX_TOPO_VALID = 0 then
    match (List.range s.nPorts).find? (fun p => s.reg F.HX_STATUS_NVALID p = 1 && s.reg F.HX_STATUS_NCOORD p = dst) with
    | some p => .out p
    | none => .none
  else if dst = s.own then .here
  else if !s.inTorus dst then .none
  else
    match (List.range 3).find? (fun i => coordOf dst i ≠ coordOf s.own i) with
    | some i => .out (2 * i + (if coordOf s.own i < coordOf dst i then 0 else 1))
    | none => .here

/-- R254, R257 and R267 events of a port. -/
def State.routeErr (s : State) (p : Nat) : State := s.satReg F.HX_ERR_ROUTE p

/-- A packet or cell passed on from a port (stop 6 is Base Camp's own). -/
def State.passed (s : State) (stop : Nat) : State := if stop < 6 then s.addReg F.HX_RING_FWD else s
/-- Transit traffic discarded. -/
def State.ringDrop (s : State) (stop : Nat) : State := if stop < 6 then s.satReg F.HX_RING_DROP else s

/-! ### The transit ring (R252, R263 to R265)

The stops are the six ports and, as 6, Base Camp. The ring's pace is outside the model: what can move moves at the command that puts it
on the ring or makes room (assumption 37). -/

/-- The stops clockwise: X−, Y+, Z+, X+, Y−, Base Camp, Z− (R263). -/
def ringOrder : List Nat := [1, 2, 4, 0, 3, 6, 5]
/-- A stop's place in that order. -/
def ringPlace (stop : Nat) : Nat := ringOrder.idxOf stop

/-- The stop after `stop` on the shorter way to another one, and whether the segment between Z− and X− lies between them (R264). -/
def ringNext (stop to_ : Nat) : Nat × Bool :=
  let a := ringPlace stop
  let b := if (ringPlace to_ + 7 - a) % 7 ≤ 3 then (a + 1) % 7 else (a + 6) % 7
  (ringOrder.getD b 0, decide (a + b = 6 ∧ (a = 0 ∨ b = 0)))

/-- The bytes of an item of the ring. -/
def Load.bytes : Load → List Nat
  | .dyn d => d.bytes
  | .cell c => c.bytes
/-- The channel of an item of the ring. -/
def Load.ch : Load → Nat
  | .dyn d => 2 + d.vn
  | .cell c => 4 + c.vc

/-- The key of the buffer of a stop, lane and channel. -/
def ringKey (stop lane ch : Nat) : Nat := stop + 7 * lane + 14 * ch
/-- Whether that buffer sends OFF. -/
def State.ringIsOff (s : State) (stop lane ch : Nat) : Bool := s.bcl.ringOff.get false (ringKey stop lane ch)

/-- The bytes that a stop holds of a lane and channel: its buffer, and what waits in the queue of its port (R244, R252). -/
def State.ringHeld (s : State) (stop lane ch : Nat) : Nat :=
  ((s.bcl.ring.filter (fun x => x.stop = stop && x.lane = lane && x.load.ch = ch)).map (fun x => x.load.bytes.length)).foldl (· + ·) 0 +
    (((s.port stop).queue ch).map (fun x => x.bytes.length - x.gone)).foldl (· + ·) 0

/-- OFF at 256 KiB or more, ON below 192 KiB, else as before (R252). -/
def offAt (n : Nat) (old : Bool) : Bool := if 262144 ≤ n then true else if n < 196608 then false else old

/-- OFF and ON of a stop's two lanes of a channel after a change of what it holds. -/
def State.ringFlow (s : State) (stop ch : Nat) : State :=
  [0, 1].foldl (fun (s : State) lane =>
    let v := offAt (s.ringHeld stop lane ch) (s.ringIsOff stop lane ch)
    { s with bcl := { s.bcl with ringOff := s.bcl.ringOff.set false (ringKey stop lane ch) v } }) s

/-- An item enters the ring at a stop, on lane 0 (R264). -/
def State.ringPut (s : State) (stop to_ : Nat) (l : Load) : State :=
  let x : RingItem := ⟨stop, to_, stop, 0, l⟩
  let s : State := { s with bcl := { s.bcl with ring := s.bcl.ring ++ [x] } }
  s.ringFlow stop l.ch

/-- A reply enters the ring, or is discarded where it has no way (R254). -/
def State.replyPut (s : State) (stop : Nat) (d : Dyn) : State :=
  match s.dynNext d.dst with
  | .here => s.ringPut stop 6 (.dyn d)
  | .out p => s.ringPut stop p (.dyn d)
  | .none => (s.routeErr (stop % 6)).ringDrop stop

/-- This module's reply to a request enters the ring at Base Camp's stop (R265). -/
def State.answerPut (s : State) (d : Dyn) (op status : Nat) (payload : List Nat) : State :=
  let r := s.fresh
  r.2.replyPut 6 ⟨d.src, 1, s.own, op, status, d.id, r.1 % 2 ^ 32, payload⟩

/-- Whether an item can move: at its last stop it leaves, and elsewhere the next stop must not hold its channel OFF. -/
def State.ringMoves (s : State) (x : RingItem) : Bool :=
  let n := ringNext x.stop x.to_
  x.stop = x.to_ || !s.ringIsOff n.1 (if n.2 then 1 else x.lane) x.load.ch

/-- An item leaves the ring: to Base Camp, to its port's queue, or, where that port is not UP, under R254 and R267. -/
def State.ringLeave (s : State) (x : RingItem) : State :=
  if x.to_ = 6 then
    match x.load with
    | .dyn d => { s with bcl := { s.bcl with dyns := s.bcl.dyns ++ [d] } }
    | .cell c => { s with bcl := { s.bcl with cells := s.bcl.cells ++ [(x.from_, c)] } }
  else if s.portUp x.to_ then (s.enqueue x.to_ x.load.ch x.load.bytes (decide (x.from_ < 6))).passed x.from_
  else
    match x.load with
    | .dyn d => if d.vn = 0 then (s.routeErr x.to_).answerPut d 0x8F 3 [] else (s.routeErr x.to_).ringDrop x.from_
    | .cell _ => (s.routeErr x.to_).ringDrop x.from_

/-- One move of an item; `rest` is the ring without it. -/
def State.ringMove (s : State) (x : RingItem) (rest : List RingItem) : State :=
  let s : State := { s with bcl := { s.bcl with ring := rest } }
  if x.stop = x.to_ then (s.ringLeave x).ringFlow x.stop x.load.ch
  else
    let n := ringNext x.stop x.to_
    let y := { x with stop := n.1, lane := if n.2 then 1 else x.lane }
    let s : State := { s with bcl := { s.bcl with ring := rest ++ [y] } }
    (s.ringFlow x.stop x.load.ch).ringFlow n.1 x.load.ch

/-- Up to `n` moves on the ring, the item that waits longest and can move first. -/
def State.ringRun : Nat → State → State
  | 0, s => s
  | n + 1, s =>
    match takeFirst (fun x => s.ringMoves x) s.bcl.ring with
    | none => s
    | some (x, rest) => State.ringRun n (s.ringMove x rest)

/-- The ring runs until nothing on it can move: an item makes at most four moves, and a request turned back one reply's more. -/
def State.ringGo (s : State) : State := s.ringRun (8 * s.bcl.ring.length)

/-- The room that a port's queues have gained is used. -/
def State.ringDrain (s : State) (p : Nat) : State := ([2, 3, 4, 5].foldl (fun (s : State) ch => s.ringFlow p ch) s).ringGo

/-- A reply goes on its way from a stop; discarded where it has none (R254). -/
def State.sendReply (s : State) (stop : Nat) (d : Dyn) : State := (s.replyPut stop d).ringGo

/-- The reply to a request, from this module, whose traffic enters the ring at Base Camp's stop (R265). -/
def State.answer (s : State) (d : Dyn) (op status : Nat) (payload : List Nat) : State := (s.answerPut d op status payload).ringGo

/-- A request goes on its way from a stop; answered with ERROR where it has none (R254). -/
def State.sendRequest (s : State) (stop : Nat) (d : Dyn) : State :=
  match s.dynNext d.dst with
  | .here => (s.ringPut stop 6 (.dyn d)).ringGo
  | .out p => (s.ringPut stop p (.dyn d)).ringGo
  | .none => (s.routeErr (stop % 6)).answer d 0x8F 3 []

/-- Base Camp originates a request, with at most 64 outstanding (R252). -/
def State.request (s : State) (dst op arg : Nat) (payload : List Nat) : State :=
  if 64 ≤ s.bcl.waiting.length then s
  else
    let id := s.bcl.nextId
    let s := { s with bcl := { s.bcl with nextId := (id + 1) % 2 ^ 32, waiting := s.bcl.waiting ++ [(id, dst, op, s.ref)] } }
    s.sendRequest 6 ⟨dst, 0, s.own, op, 0, id, arg, payload⟩

/-! ### Privileged cells (R255 to R260) -/

/-- A cell leaves through port `p`; crossing the wraparound link puts it on VC1 (R258). Discarded where the port is not
UP. -/
def State.cellOut (s : State) (stop p : Nat) (c : Cell) : State :=
  let i := p / 2
  let n := s.ringSize i
  let own := coordOf s.own i
  let wrap := if p % 2 = 0 then decide (own + 1 = n) else decide (own = 0)
  let c := { c with vc := if wrap then 1 else c.vc }
  (s.ringPut stop p (.cell c)).ringGo

/-- A cell is delivered to Base Camp, at whose stop it leaves the ring (R265). -/
def State.deliverCell (s : State) (stop : Nat) (c : Cell) : State := (s.ringPut stop 6 (.cell c)).ringGo

/-- A unicast cell starts the first dimension from `i` on in which it has a distance to go (R257). -/
def State.cellStart (s : State) (stop i : Nat) (c : Cell) : State :=
  match (List.range 3).find? (fun k => decide (i ≤ k) && coordOf c.dst k ≠ coordOf s.own k) with
  | none => s.deliverCell stop c
  | some k =>
    let n := s.ringSize k
    let f := (coordOf c.dst k + n - coordOf s.own k) % n
    if f ≤ n - f then s.cellOut stop (2 * k) { c with vc := 0, phase := k, hops := f - 1 }
    else s.cellOut stop (2 * k + 1) { c with vc := 0, phase := k, hops := n - f - 1 }

/-- A broadcast's phases from dimension `i` on, with this module as originator (R259). -/
def State.bcastFrom (s : State) (stop i : Nat) (c : Cell) : State :=
  ((List.range 3).filter (fun k => decide (i ≤ k))).foldl (fun s k =>
    let n := s.ringSize k
    let up := n / 2
    let dn := n - 1 - up
    let s := if 1 ≤ up then s.cellOut stop (2 * k) { c with vc := 0, phase := k, hops := up - 1 } else s
    if 1 ≤ dn then s.cellOut stop (2 * k + 1) { c with vc := 0, phase := k, hops := dn - 1 } else s) s

/-- Base Camp originates a unicast cell. -/
def State.sendCell (s : State) (dst type : Nat) (body : List Nat) : State :=
  let c : Cell := ⟨false, dst, s.own, type, 0, 0, 0, s.bcl.nextCell, body⟩
  let s := { s with bcl := { s.bcl with nextCell := (s.bcl.nextCell + 1) % 2 ^ 16 } }
  if dst = s.own then s.deliverCell 6 c
  else if s.reg F.HX_TOPO_VALID = 0 || !s.inTorus dst then s.routeErr 0
  else s.cellStart 6 0 c

/-- Base Camp originates a broadcast, which it also takes itself (R259). -/
def State.bcastCell (s : State) (type : Nat) (body : List Nat) : State :=
  let c : Cell := ⟨true, 0, s.own, type, 0, 0, 0, s.bcl.nextCell, body⟩
  let s := { s with bcl := { s.bcl with nextCell := (s.bcl.nextCell + 1) % 2 ^ 16 } }
  let s := s.deliverCell 6 c
  if s.reg F.HX_TOPO_VALID = 0 then s else s.bcastFrom 6 0 c

/-- The first delivered cell that passes a test, and the state without it. -/
def State.takeCell (s : State) (p : Cell → Bool) : Option ((Nat × Cell) × State) :=
  let rec go : List (Nat × Cell) → Option ((Nat × Cell) × List (Nat × Cell))
    | [] => none
    | x :: r => if p x.2 then some (x, r) else (go r).map (fun q => (q.1, x :: q.2))
  (go s.bcl.cells).map (fun q => (q.1, { s with bcl := { s.bcl with cells := q.2 } }))

/-- The first delivered packet that passes a test, and the state without it. -/
def State.takeDyn (s : State) (p : Dyn → Bool) : Option (Dyn × State) :=
  let rec go : List Dyn → Option (Dyn × List Dyn)
    | [] => none
    | x :: r => if p x then some (x, r) else (go r).map (fun q => (q.1, x :: q.2))
  (go s.bcl.dyns).map (fun q => (q.1, { s with bcl := { s.bcl with dyns := q.2 } }))

/-! ### Input buffers (R252) -/

/-- HX_FC after a change of the input buffers: OFF at 256 KiB, ON below 192 KiB, by virtual network and, as the header's FC has
them, by virtual channel (R234). -/
def State.flowControl (s : State) (p : Nat) : State :=
  let g := s.port p
  let off := s.reg F.HX_FC_OFF_SENT p
  let held := fun (ch : Nat) => (g.rx.get [] ch).length
  let now := ((List.range 4).map (fun k => if offAt (held (2 + k)) (bitOf off k) then 2 ^ k else 0)).foldl (· + ·) 0
  ((s.setReg F.HX_FC_OFF_SENT now p).setReg F.HX_FC_OCC_VN0 (min 1023 (held 2 / 1024)) p).setReg
    F.HX_FC_OCC_VN1 (min 1023 (held 3 / 1024)) p

/-- Takes the first `n` bytes received on a channel of a port. -/
def State.takeRx (s : State) (p ch n : Nat) : State :=
  (s.updPort p (fun g => { g with rx := g.rx.set [] ch ((g.rx.get [] ch).drop n) })).flowControl p

/-! ### Link-local cells (R239, R255, R256) -/

/-- A link-local cell is queued, with the module's next cell number. -/
def State.linkCell (s : State) (p type : Nat) (body : List Nat) : State :=
  let c : Cell := ⟨false, s.reg F.HX_STATUS_NCOORD p, s.own, type, 0, 0, 0, s.bcl.nextCell, body⟩
  let s : State := { s with bcl := { s.bcl with nextCell := (s.bcl.nextCell + 1) % 2 ^ 16 } }
  s.enqueue p 6 c.bytes

/-- The header of an SPDM message: version 1.3, code, two parameters. -/
def spdmHdr (code p1 p2 : Nat) : List Nat := [0x13, code, p1, p2]

/-- An SPDM message leaves over the link, in cells of 48 bytes each (R256); what follows its header is free. -/
def State.linkSpdm (s : State) (p code : Nat) : State :=
  let m := spdmHdr code 0 0 ++ Config.linkMessage s.free
  let no := (s.port p).spdmSent
  let n := (m.length + 47) / 48
  let s : State := { s with free := s.free + 1 }
  (List.range n).foldl (fun (s : State) k =>
    s.linkCell p 0x10 (bytesLe 2 no ++ [k, b2n (decide (k + 1 = n))] ++ (m.drop (48 * k)).take 48))
    (s.updPort p (fun g => { g with spdmSent := (no + 1) % 2 ^ 16 }))

/-- The requests of a link's set-up, in order: GET_VERSION, GET_CAPABILITIES, NEGOTIATE_ALGORITHMS, GET_DIGESTS, GET_CERTIFICATE,
KEY_EXCHANGE, FINISH (R239; PRESUMED but for the last two, assumption 36). -/
def linkRequests : List Nat := [0x84, 0xE1, 0xE3, 0x81, 0x82, 0xE4, 0xE5]

/-- The end on the + port is the requester: it sends its next request (R239). -/
def State.linkAsk (s : State) (p : Nat) : State :=
  match linkRequests[(s.port p).spdmIn.length]? with
  | some code => if p % 2 = 0 then s.linkSpdm p code else s
  | none => s

/-! ### Traffic secrets of a link (R239 to R241) -/

/-- The information string of the key schedule of SPDM 1.3 for a length and label (PRESUMED DSP0274; assumption 36). -/
def spdmInfo (len : Nat) (label : List Nat) : List Nat := bytesLe 2 len ++ [0x73, 0x70, 0x64, 0x6D, 0x31, 0x2E, 0x33, 0x20] ++ label
/-- The secret of the next phase: label "traffic upd". -/
def nextSecret (sec : List Nat) : List Nat :=
  hkdfExpand sec (spdmInfo 48 [0x74, 0x72, 0x61, 0x66, 0x66, 0x69, 0x63, 0x20, 0x75, 0x70, 0x64]) 48
/-- The data key and the IV of a phase: labels "key" and "iv". -/
def linkKey (sec : List Nat) : List Nat := hkdfExpand sec (spdmInfo 32 [0x6B, 0x65, 0x79]) 32
def linkIv (sec : List Nat) : List Nat := hkdfExpand sec (spdmInfo 12 [0x69, 0x76]) 12

/-- EPOCH_LOG2 by which a port advances its key phase: the rope's, or 20 outside a rope (R241). -/
def State.keyLog2 (s : State) : Nat := match s.image with
  | some m => if s.reg F.BC_ROPE_STATUS_STATE = 0 then 20 else m.rope.epochLog2
  | none => 20

/-- An epoch boundary has passed since the last frame of a port. -/
def State.keyDue (s : State) (p : Nat) : Bool :=
  let g := s.port p
  g.rekey || g.keyAt / 2 ^ s.keyLog2 ≠ s.acyc / 2 ^ s.keyLog2

/-- The acycle counter is about to be set to `t`, which is no epoch boundary: what is due stays due. -/
def State.restartKeys (s : State) (t : Nat) : State :=
  (List.range 6).foldl (fun (s : State) p =>
    let due := s.keyDue p
    s.updPort p (fun g => { g with rekey := due, keyAt := t })) s

/-! ### A port that goes DOWN (R233, R267) -/

/-- A port leaves its state for DOWN: HX_LINK_DOWN where it was UP, queued requests answered, queued replies and privileged
cells counted, buffers emptied, the session ended and its keys erased. -/
def State.portDown (s : State) (p : Nat) : State :=
  let up := s.portUp p
  let g := s.port p
  let s := s.setReg F.HX_STATUS_STATE 1 p
  let s := (s.setReg F.HX_STATUS_KEYED 0 p).setReg F.HX_FC_OFF_SEEN 0 p
  let s := s.updPort p (fun g =>
    { g with nak := false, attempts := 0, sent := [], resend := [], tx := [], rx := [], swaps := [], spdm := [], spdmIn := [],
             spdmSent := 0, spdmFrag := 0, txSecret := [], rxSecrets := [], rxKph := 0, rekey := false })
  let s := s.flowControl p
  let s := (g.queue 2).foldl (fun s it => (s.routeErr p).answer (dynOf it.bytes) 0x8F 3 []) s
  let lost := g.queue 3 ++ g.queue 4 ++ g.queue 5
  let s := s.satReg F.HX_ERR_ROUTE p (lost.length + (g.queue 6).length)
  let s := s.satReg F.HX_RING_DROP 0 (lost.filter (·.transit)).length
  let s := s.ringDrain p
  if up then s.portFault p Code.hxLinkDown false else s

/-- UP to DOWN, then TRAIN at once (R228, R319). -/
def State.portRetrain (s : State) (p : Nat) : State := (s.portDown p).setReg F.HX_STATUS_STATE 2 p

end Sys2Proof.Machine
end

