-- ==== Sys2Proof/Machine/PowerOps.lean ====
section
/-!
DEFINITION. Sys2Proof/Machine/PowerOps.lean: the divider and its needs, the pins that the block drives, and rails (spec
01_module R36, R37; 15_clocks_power R458 to R470).
-/

namespace Sys2Proof.Machine

/-! ### The rope member's part in the divider (R271, R272, R284) -/

/-- The installed image runs as a rope of one. -/
def State.solo (s : State) : Bool := s.reg F.BC_ROPE_STATUS_SOLO = 1
/-- The member's rope state: LSTATE of a rope of one, STATE otherwise. -/
def State.ropeState (s : State) : Nat :=
  if s.solo && s.reg F.BC_ROPE_STATUS_STATE = 0 then s.reg F.BC_ROPE_STATUS_LSTATE else s.reg F.BC_ROPE_STATUS_STATE
/-- Moves the member to a rope state between PREPARE and RESTORING. -/
def State.setRopeState (s : State) (v : Nat) : State :=
  if s.solo then s.setReg F.BC_ROPE_STATUS_LSTATE v else s.setReg F.BC_ROPE_STATUS_STATE v
/-- The module is its rope's anchor. -/
def State.isAnchor (s : State) : Bool := s.solo || s.reg F.BC_ROPE_STATUS_ANCHOR = 1
/-- The rope state is NONE, STOPPED or REPLAN. -/
def State.ropeIdle (s : State) : Bool :=
  s.reg F.BC_ROPE_STATUS_STATE = 0 || s.reg F.BC_ROPE_STATUS_STATE = 7 || s.reg F.BC_ROPE_STATUS_STATE = 8
/-- A member of a rope of more than one module. -/
def State.inRope (s : State) : Bool := !s.solo && !s.ropeIdle

/-- PMIN2: twice the active profile's smallest divider, in effect. -/
def State.pmin2 (s : State) : Nat := s.odEff 0x2100 1

/-- The floor: of DFLOOR and the profile (R176), and in a rope the rope floor F (R284). -/
def State.divFloor (s : State) : Nat :=
  if s.inRope then s.reg F.CLK_DIV_FLOOR
  else if s.solo then max 8 (max (s.reg F.BC_IMG_STATUS_DFLOOR) s.pmin2)
  else max (s.reg F.BC_IMG_STATUS_DFLOOR) s.pmin2

/-! ### Ratio points and ramps (R288 to R291, R459) -/

/-- The first ratio point at least `lead` acycles ahead. -/
def ratioPoint (now lead : Nat) : Nat := (now + lead + 16383) / 16384 * 16384

/-- The ANNOUNCE lead. -/
def State.announceLead (s : State) : Nat := if s.inRope then 65536 else 16384

/-- A target takes effect from a ratio point. -/
def State.announced (s : State) (p target : Nat) : State :=
  let s := { s with pw := { s.pw with anns := s.pw.anns ++ [(p, target)] } }
  ((s.setReg F.CLK_DIV_TARGET target).setReg F.CLK_DIV_RAMPING 1).setReg F.BC_ROPE_RATIO_TARGET target

/-- The largest of the standing requests that the module's target follows: every member's at the anchor of a rope, its own
otherwise (R289, R459). -/
def State.topRequest (s : State) : Nat :=
  if s.inRope then (s.rope.requests.map (·.d2)).foldl max 0 else s.reg F.CLK_DIV_LOCALREQ

/-- The target recomputed where this module sets it: the larger of the floor and the largest standing request, at most 32.
A change is announced (R289, R290). -/
def State.retarget (s : State) : State :=
  let f := s.divFloor
  let t := min 32 (max f s.topRequest)
  if (s.inRope && !(s.isAnchor && s.ropeState = 4)) || t = s.reg F.CLK_DIV_TARGET then s
  else
    let p := ratioPoint s.acyc s.announceLead
    if s.inRope then
      let n := s.rope.annNo + 1
      { s with rope := { s.rope with annNo := n } }.bcastCell 0x03
        ([0x02, t, f, 0] ++ bytesLe 8 p ++ bytesLe 4 n)
    else s.announced p t

/-- The reason of the largest standing need. -/
def State.needReason (s : State) : Nat :=
  let l := s.reg F.CLK_DIV_LOCALREQ
  ((List.range 5).find? (fun r => decide (1 ≤ r) && s.pw.needs.get 0 r = l)).getD 0

/-- Sends the local request to the anchor (R289). -/
def State.sendRatio (s : State) : State :=
  s.sendCell (s.reg F.BC_ROPE_STATUS_ACOORD) 0x03 [0x01, s.reg F.CLK_DIV_LOCALREQ, s.needReason]

/-- A member's request at the anchor; 0 withdraws it. -/
def State.takeRequest (s : State) (coord d2 : Nat) : State :=
  let r := s.rope.requests.filter (fun q => q.coord ≠ coord)
  let e := s.acyc / 2 ^ (match s.image with
    | some m => m.rope.epochLog2
    | none => 20)
  { s with rope := { s.rope with requests := if d2 = 0 then r else r ++ [(⟨coord, d2, e⟩ : RatioReq)] } }.retarget

/-- The largest of the needs that stand (R461). -/
def State.needMax (s : State) : Nat := (s.pw.needs.map (·.2)).foldl max 0

/-- The local request and its reasons show the needs that stand (R461). -/
def State.showNeeds (s : State) : State :=
  let why := ((List.range 4).map (fun r => if s.pw.needs.get 0 (r + 1) = 0 then 0 else 2 ^ r)).foldl (· + ·) 0
  ((s.setReg F.CLK_DIV_LOCALREQ s.needMax).setReg F.CLK_DIV_REASONS why).setReg F.BC_ROPE_RATIO_REQ s.needMax

/-- A local need stands at `d2`, or not at all with 0 (R461). -/
def State.setNeed (s : State) (reason d2 : Nat) : State :=
  let old := s.reg F.CLK_DIV_LOCALREQ
  let s := ({ s with pw := { s.pw with needs := s.pw.needs.set 0 reason d2 } } : State).showNeeds
  let l := s.needMax
  if l = old then s
  else if s.inRope then (if s.isAnchor then s.takeRequest s.own l else s.sendRatio)
  else s.retarget

/-- The divider in force. -/
def State.divNow (s : State) : Nat := s.reg F.CLK_DIV_CURRENT

/-- The divider set at once, at a START. -/
def State.setDivider (s : State) (d2 : Nat) : State :=
  let s := { s with pw := { s.pw with goal := d2, anns := [] } }
  ((((s.setReg F.CLK_DIV_CURRENT d2).setReg F.CLK_DIV_TARGET d2).setReg F.CLK_DIV_RAMPING 0).setReg
    F.BC_ROPE_RATIO_CURRENT d2).setReg F.BC_ROPE_RATIO_TARGET d2

/-- A loss of a clock (CLKF) stops a ramp where it stands (15_clocks_power, Coincidences). -/
def State.stopRamp (s : State) : State :=
  if s.reg F.CLK_DIV_RAMPING = 0 then s else s.setDivider s.divNow

/-- No reference source is switched: a field is live, or the divider ramps (R455). -/
def State.mrefHeld (s : State) : Bool := (List.range s.nFields).any (fun f => (s.field f).live) || s.reg F.CLK_DIV_RAMPING = 1

/-- READY of the sources as measured: source 0 is always ready, and source 2 only where its port is UP (R454). -/
def State.mrefReady (s : State) (ready port : Nat) : Nat :=
  let r := ready % 8 ||| 1
  if bitOf r 2 && !s.portUp port then r - 4 else r

/-- MREF comes from a source, of a port where it is recovered. -/
def State.takeMref (s : State) (src port : Nat) : State :=
  (s.setReg F.CLK_MREF_CUR_SRC src).setReg F.CLK_MREF_CUR_PORT (if src = 2 then port else 7)

/-! ### Pins (R36, R37) -/

/-- The pending warnings, coded as the ALERT_N mask. -/
def State.warnings (s : State) : Nat :=
  let w := fun (k : Nat) => bitOf s.pw.warn k
  let b0 := s.reg F.PWR_STATUS_BOWARN = 1 || s.pw.excess || w 3
  let b1 := bitOf (s.reg F.THM_STATUS_STAGES) 0
  let b2 := w 0 || w 1 || w 2
  let b3 := (List.range s.nPorts).any s.short
  let b4 := (List.range s.nFields).any (fun f => s.reg F.FLD_SVY_OVERDUE f = 1)
  b2n b0 + 2 * b2n b1 + 4 * b2n b2 + 8 * b2n b3 + 16 * b2n b4 + 32 * b2n (w 4)

/-- Base Camp firmware runs: it has verified itself and taken control of the pins (R27, R387). -/
def State.fwRuns (s : State) : Bool := decide (2 ≤ s.reg F.BC_BOOT_STAGE)

/-- ALERT_N is driven low; released until the firmware runs (R27). A reset up to L3 withdraws no warning that stood when it
began, and the ports that it takes down raise none: the pin holds its state until the release ends (R28). -/
def State.alertLow (s : State) : Bool :=
  let w := if s.rst.active then s.rst.warned ||| (s.warnings - (s.warnings &&& 8)) else s.warnings
  s.fwRuns && w &&& s.od 0x2010 1 ≠ 0

/-- LEAK_N is driven low by the module: its own tray sensor is wet (R27). -/
def State.leakDriven (s : State) : Bool := s.pw.trayWet

/-- Both lockstep pairs are lost: neither is ACTIVE or STANDBY. -/
def State.pairsLost (s : State) : Bool :=
  decide (2 ≤ s.reg F.BC_PAIRS_P0) && decide (2 ≤ s.reg F.BC_PAIRS_P1)

/-- FAULT_N is driven low: until the firmware is verified, and on a trip, a leak response, REPLAN status, the loss of both
pairs or a failed start-up (R37, R388, R394). -/
def State.faultLow (s : State) : Bool :=
  let st := s.reg F.BC_BOOT_STAGE
  decide (st ≤ 1) || st = 11 || s.reg F.PWR_STATUS_TRIP = 1 || s.reg F.PWR_STATUS_LEAK = 1 ||
    s.reg F.FLT_REPLAN_FIELDS ≠ 0 || s.reg F.BC_ROPE_STATUS_STATE = 8 || s.pairsLost

/-- A warning without a register stands or not. -/
def State.warn (s : State) (k : Nat) (on : Bool) : State :=
  let w := s.pw.warn
  { s with pw := { s.pw with warn := if bitOf w k = on then w else if on then w + 2 ^ k else w - 2 ^ k } }

/-! ### Rails (R464) -/

/-- One rail of a field (0 VCOMP, 1 VFAB, 2 VDRAM) switched. -/
def State.setRail (s : State) (f k : Nat) (on : Bool) : State :=
  let r := s.reg F.FLD_PWR_RAILS f
  s.setReg F.FLD_PWR_RAILS (if bitOf r k = on then r else if on then r + 2 ^ k else r - 2 ^ k) f

/-- 1,024 refcycles have passed since a VCOMP was last switched on at run time (R470). -/
def State.wakeFree (s : State) : Bool := s.pw.woke = 0 || decide (s.pw.woke + 1024 ≤ s.ref + 1)

/-- A field's VCOMP switched on at run time (R470). -/
def State.wakeRail (s : State) (f : Nat) : State :=
  { s with pw := { s.pw with woke := s.ref + 1 } }.setRail f 0 true

/-- THM_STATUS bit `k` set or cleared. -/
def State.setStage (s : State) (k : Nat) (on : Bool) : State :=
  let v := s.reg F.THM_STATUS_STAGES
  s.setReg F.THM_STATUS_STAGES (if bitOf v k = on then v else if on then v + 2 ^ k else v - 2 ^ k)

/-- A latched trip clears, and thermal stage 4 with it (R471, R474). -/
def State.clearTrip (s : State) : State :=
  ((s.setReg F.PWR_STATUS_TRIP 0).setReg F.PWR_STATUS_TRIPCAUSE 0).setStage 3 false

/-- A field PLL's lock bit. -/
def State.setLock (s : State) (f : Nat) (on : Bool) : State :=
  let r := s.reg F.CLK_PLL_FIELD
  s.setReg F.CLK_PLL_FIELD (if bitOf r f = on then r else if on then r + 2 ^ f else r - 2 ^ f)

/-- The compute, fabric and link rails switched off: standby (R31). -/
def State.railsOff (s : State) : State :=
  let s := (List.range s.nFields).foldl (fun s f => ((s.setRail f 0 false).setRail f 1 false).setLock f false) s
  { s with pw := { s.pw with caps := 0, wake := [] } }.setReg F.PWR_STATUS_STANDBY 1

/-- A field's REPLAN status. -/
def State.inReplan (s : State) (f : Nat) : Bool := bitOf (s.reg F.FLT_REPLAN_FIELDS) f

/-- The last flow value received (R39): 0x2300:02, which holds the override where Crocus honours it. -/
def State.flow (s : State) : Nat :=
  if s.crocus && s.od 0x2300 4 = 1 then s.od 0x2300 5 else s.od 0x2300 2

/-- A field's compute state is lost or zeroized: scratch, handles and control core (R472). -/
def Tile.darken (t : Tile) : Tile :=
  { t with
    scratch := []
    handles := []
    shadows := []
    core := CCore.zero
    msg := { MsgIf.zero with inc := t.msg.inc } }

end Sys2Proof.Machine
end

