-- ==== Sys2Proof/Machine/FaultOps.lean ====
section
/-!
DEFINITION. Sys2Proof/Machine/FaultOps.lean: the logbook, the fault queue, EMCY, REPLAN status, and repair (spec 16_faults
R477 to R499; 13_dictionary R418).
-/

namespace Sys2Proof.Machine

/-! ### The logbook entry (R488) -/

/-- The bytes of a logbook entry. -/
def LogEntry.bytes (e : LogEntry) : List Nat :=
  let b := bytesLe 8 e.seqNo ++ bytesLe 8 e.time ++ bytesLe 4 e.bootgen ++ bytesLe 2 e.code ++
    [e.subject % 256, e.classif % 256] ++ bytesLe 4 (e.px % 2048 + 2048 * (e.py % 1024) + 2 ^ 21 * (e.field % 64)) ++
    bytesLe 4 (match e.lpair with
      | some a => a % 2 ^ 20 + 2 ^ 20
      | none => 0) ++ bytesLe 2 e.module_ ++ [e.action % 256, e.count % 256] ++ bytesLe 4 e.tod ++ bytesLe 8 e.rope ++
    bytesLe 8 e.detail ++ bytesLe 4 0
  b ++ bytesLe 4 (crc32c b)

/-- Time of day in seconds, low 32 bits; 0 if unknown. -/
def State.tod (s : State) : Nat :=
  if s.reg F.TEL_TOD_VALID = 1 then (s.reg F.TEL_TOD_SEC + (s.ref - s.pw.todAt) / 100000000) % 2 ^ 32 else 0

/-! ### Signals to a host (R330) -/

/-- The reset value of a byte of a port's MSI-X structures: each entry's vector control word has its mask bit set, and all
else is 0 (assumption 50). -/
def msixReset (o : Nat) : BitVec 8 := if o < 1024 ∧ o % 16 = 12 then 1 else 0

/-- A byte of a port's MSI-X table, or from 1,024 on of its pending-bit array (R329, R330). -/
def State.msixByte (s : State) (port o : Nat) : Nat := (s.ldg.msix.get 0 (2048 * port + o) ^^^ msixReset o).toNat

/-- A vector of a port is signalled: its message is sent, or waits in the pending-bit array while its entry is masked. -/
def State.signal (s : State) (port v : Nat) : State :=
  if s.msixByte port (16 * v + 12) % 2 = 1 then
    let o := 2048 * port + 1024 + v / 8
    let old := s.ldg.msix.get 0 o
    { s with ldg := { s.ldg with msix := s.ldg.msix.set 0 o (old ||| BitVec.ofNat 8 (2 ^ (v % 8))) } }
  else s.emit .msix port v ((List.range 12).map (fun k => s.msixByte port (16 * v + k)))

/-- An event bit of HP_EVENT is set; vector 0 signals it. -/
def State.hpEvent (s : State) (port : Nat) (e : Fld) : State := (s.setReg e 1 port).signal port 0

/-- An entry is copied into the fault queue; a port whose enable is set is signalled when the queue was empty (R505). -/
def State.queueEntry (s : State) (e : LogEntry) : State :=
  let prod := s.reg F.FLT_QPTR_PROD
  let cons := s.reg F.FLT_QPTR_CONS
  let bs := e.bytes
  let s := (List.range 8).foldl (fun s k =>
    s.setReg F.FLT_QUEUE_DATA (leAt bs (8 * k) 8) 0 (8 * (prod % 64) + k)) s
  let s := s.setReg F.FLT_QPTR_PROD (prod + 1)
  if prod ≠ cons then s
  else
    let s := if s.reg F.FLT_VEC_ENA = 1 then s.signal 0 (s.reg F.FLT_VEC_VECA) else s
    if s.reg F.FLT_VEC_ENB = 1 then s.signal 1 (s.reg F.FLT_VEC_VECB) else s

/-- The error register 0x1001 after a fault: bit 0 any fault, bit 2 voltage, bit 3 temperature, bit 7 other. -/
def errorRegister (code : Nat) : Nat :=
  1 + (if 0x0601 ≤ code ∧ code ≤ 0x0604 then 4 else if code = 0x0605 ∨ code = 0x0606 then 8 else 128)

/-- The node's EMCY for a fault, at most one per 10 ms (R418). -/
def State.emcy (s : State) (code : Nat) : State :=
  let er := errorRegister code
  let s := s.setOd 0x1001 0 er
  if s.dict.nmt = .off ∨ (s.dict.lastEmcy ≠ 0 ∧ s.ref + 1 < s.dict.lastEmcy + 1000000) then s
  else { s with dict := { s.dict with lastEmcy := s.ref + 1 } }.emit .can 0 (s.odEff 0x1014 0)
    ([0x00, 0xFF, er] ++ bytesLe 2 code ++ [0, 0, 0])

/-- An entry is new: it joins the buffer and the circle of 262,144 entries (R488), the queue and the counts, and goes
out as EMCY; in a rope a permanent or migrated or REPLAN entry is broadcast (R478). -/
def State.newEntry (s : State) (e : LogEntry) : State :=
  let l := s.log
  let e := { e with seqNo := l.nextSeq }
  let s := { s with log := { l with entries := (e :: l.entries).take 262144, nextSeq := l.nextSeq + 1, buffered := l.buffered + 1 } }
  let s := (s.addReg F.FLT_STATUS_ENTRIES).queueEntry e
  if s.inRope && e.subject ≠ 7 && (e.classif = 2 || e.action = 3 || e.action = 4) then
    s.bcastCell 0x05 ([0x01, 0, 0, 0] ++ (e.bytes.drop 8).take 48)
  else s

/-- The subject of an entry, by which repeats coalesce. -/
def LogEntry.sameSubject (e : LogEntry) (r : Report) : Bool :=
  e.code = r.code && e.subject = r.subject && e.field = r.field && e.px = r.px && e.py = r.py

/-- A report is written to the logbook, or coalesced, or counted as lost (R479). -/
def State.logReport (s : State) (r : Report) : State :=
  let s := (s.setReg F.FLT_STATUS_LAST r.code).setOd 0x5000 1 r.code
  let r := if r.trig && r.action = 0 then { r with action := 1 } else r
  let s := if r.code / 256 = 5 then (s.hpEvent 0 F.HP_EVENT_FAULT).hpEvent 1 F.HP_EVENT_FAULT else s
  let hit := fun (e : LogEntry) => e.sameSubject r && e.bootgen = s.log.bootgen % 2 ^ 32 && decide (s.ref < e.time + 100000)
  if s.log.entries.any hit then
    { s with log := { s.log with entries := s.log.entries.map (fun e =>
      if hit e then { e with count := min 255 (e.count + 1) } else e) } }
  else if r.subject = 0 && decide (64 ≤ (s.field r.field).cascade) then s.satReg F.FLT_STATUS_LOST
  else if 4096 ≤ s.log.buffered then
    { s with log := { s.log with lost := true } }.satReg F.FLT_STATUS_LOST
  else
    let mk : Nat → Nat → LogEntry := fun code subject =>
      { seqNo := 0, time := s.ref, bootgen := s.log.bootgen % 2 ^ 32, code := code, subject := subject
        classif := r.classif, px := r.px, py := r.py, field := r.field, lpair := r.lpair
        module_ := if s.inRope then s.own else 0, action := r.action, count := 1, tod := s.tod, rope := r.rope
        detail := r.detail, acyc := r.acyc }
    let wasLost := s.log.lost
    let s := if r.subject = 0 then s.updField r.field (fun g => { g with cascade := g.cascade + 1 }) else s
    let s := (s.newEntry (mk r.code r.subject)).emcy r.code
    if wasLost then
      ({ s with log := { s.log with lost := false } }.newEntry
        { mk Code.logOverflow 6 with px := 0, py := 0, field := 0, lpair := none, detail := 0, acyc := 0 }).emcy Code.logOverflow
    else s

/-! ### REPLAN status and classification (R489, R493, R495) -/

/-- A fault of a field with a class and an action. -/
def State.classReport (s : State) (subject code field px py detail classif action : Nat) (trig : Bool) : State :=
  let a := s.pairAt field (px % 132 + 132 * (py % 132))
  let lp := if subject = 0 && (s.position field (px % 132 + 132 * (py % 132))).isSome then some a else none
  s.report ⟨code, subject, field, px, py, lp, s.acyc - (s.field field).secStart, s.acyc, detail, false, trig,
    classif, action⟩

/-- A field enters REPLAN status: its compute and fabric rails go off, and RPR_REPLAN is recorded. -/
def State.replan (s : State) (f reason : Nat) : State :=
  if s.inReplan f then s
  else
    let s := (s.setReg F.FLT_REPLAN_FIELDS (s.reg F.FLT_REPLAN_FIELDS + 2 ^ f)).setReg F.FLT_REPLAN_REASON reason
    let s := ((s.setRail f 0 false).setRail f 1 false).setLock f false
    s.classReport 1 Code.rprReplan f 0 0 0 0 4 false

/-- The physical coordinates of a tile as a key of the summaries. -/
def physKey (px py : Nat) : Nat := px + 2048 * py

/-- Tiles of the reserve's margin, in segments: the order code's margin less one for each spare tile that holds a logical
position (R197, R198). -/
def State.spareTaken (s : State) : Nat :=
  ((List.range s.nFields).map (fun f =>
    let c := s.crev f
    let good := fun (l : List Nat) => 128 - (l.filter (fun x => decide (x < 128))).length
    16384 - good c.cols * good c.rows)).foldl (· + ·) 0

/-- Bytes of the margin in force (R198). -/
def State.margin (s : State) : Int :=
  let total : Nat := s.nFields * 1040 * s.segBytes
  let areas : Nat := (if s.fuse.variant = 2 then 116 else if s.fuse.variant = 1 then 196 else 228) * 2 ^ 30
  (total : Int) - areas - (s.spareTaken * s.segBytes : Nat)

/-- Migrations due begin where no section of their field is live and none runs in it: the MIGRATE record (R449, R496). -/
def State.beginMigrations (s : State) : State :=
  s.log.due.foldl (fun s d =>
    if (s.field d.1).live || s.log.migrate.any (fun m => m.1 = d.1) then s
    else { s with log := { s.log with
      due := s.log.due.filter (fun x => x ≠ d)
      migrate := s.log.migrate ++ [d] } }) s

/-! ### The reserve map (R197 to R199, R499) -/

/-- Spare tiles that are not dead, field by field: those in rows that hold logical positions, or those in the other rows. -/
def State.spares (s : State) (logicalRows : Bool) : List (Nat × Nat) :=
  s.allFields.flatMap (fun f =>
    let c := s.crev f
    let rows := ((List.range 132).filter (fun y => !c.rows.contains y)).take 128
    ((List.range 17424).filter (fun k => (s.position f k).isNone && !c.dead.contains k &&
      (decide (rows.contains (k / 132)) = logicalRows))).map (fun k => (f, k)))

/-- Base Camp rebuilds the reserve map: one segment a unit, the spare-column tiles of logical rows last, where the margin lies
(R197, R198; the order among tiles of one kind is the model's, assumption 74). -/
def State.rebuildReserve (s : State) : State := { s with log := { s.log with reserve := s.spares false ++ s.spares true } }

/-- The areas of the reserve by their first GiB (R197): staging, image copy, checkpoints A and B, journal, margin. -/
def State.areaStarts (s : State) : List Nat :=
  if s.fuse.variant = 2 then [0, 40, 80, 96, 112, 116] else if s.fuse.variant = 1 then [0, 64, 128, 160, 192, 196]
  else [0, 64, 128, 176, 224, 228]

/-- Areas 0 to 4 that a unit of the reserve reaches into. -/
def State.unitAreas (s : State) (u : Nat) : List Nat :=
  (List.range 5).filter (fun a => decide (u * s.segBytes < s.areaStarts.getD (a + 1) 0 * 2 ^ 30 ∧
    s.areaStarts.getD a 0 * 2 ^ 30 < (u + 1) * s.segBytes))

/-- A unit of the reserve is lost (R499): staged objects in it read as zero, an image copy fails its reinstall, and a checkpoint slot
is unusable; a journal record has its other copy. -/
def State.unitLost (s : State) (u : Nat) : State :=
  (s.unitAreas u).foldl (fun s a =>
    if a = 0 then
      let lo := u * s.segBytes
      { s with staging := s.staging.keep (fun k => decide (k < lo ∨ lo + s.segBytes ≤ k)) }
    else if a = 1 then { s with copy := none }
    else if a = 2 then { s with rope := { s.rope with slotA := CkpSlot.zero } }
    else if a = 3 then { s with rope := { s.rope with slotB := CkpSlot.zero } }
    else s) s

/-- The first free unit of the reserve's margin: the one after the areas (R197, R198). -/
def State.marginUnit (s : State) : Nat := s.areaStarts.getD 5 0 * 2 ^ 30 / s.segBytes + 1

/-- The reserve map when the tile of unit `u` goes: the unit moves to the free unit's tile; a margin unit is given up (R198). -/
def moveUnit (m : List (Nat × Nat)) (u free : Nat) : List (Nat × Nat) :=
  if u < free then
    match m[free]? with
    | some x => (m.set u x).eraseIdx free
    | none => m
  else m.eraseIdx u

/-- A spare tile is classified permanent: the unit on it goes to a free margin unit while its stack port (unit 7) and its DRAM
(unit 9) can be read, and is lost otherwise (R499). -/
def State.reserveMoves (s : State) (f key units : Nat) : State :=
  match s.log.reserve.findIdx? (fun x => x = (f, key)) with
  | none => s
  | some u =>
    let m := moveUnit s.log.reserve u s.marginUnit
    let s := if units &&& 0x280 = 0 then s else s.unitLost u
    { s with log := { s.log with reserve := m } }

/-- A tile at a local physical place is classified permanent, where it is not already dead: its summary is dead,
RPR_PERMANENT is recorded, and its field is refined (R489, R493, R496, R499). A row that already waits to be skipped
counts among the four (assumption 49). -/
def State.permanent (s : State) (f key units : Nat) : State :=
  let px := 132 * (f % 8) + key % 132
  let py := 132 * (f / 8) + key / 132
  let k := physKey px py
  let old := s.log.tiles.get TileSum.zero k
  if (s.crev f).dead.contains key then
    { s with log := { s.log with tiles := s.log.tiles.set TileSum.zero k { old with failed := old.failed ||| units } } }
  else
  let s := { s with log := { s.log with
    tiles := s.log.tiles.set TileSum.zero k { old with state := 2, failed := old.failed ||| units, lastHour := s.ref / 360000000000 }
    crev := s.log.crev.upd Crev.zero f (fun c => { c with dead := insertAsc key c.dead }) } }
  let c := s.crev f
  let logical := (s.position f key).isSome
  let s := s.classReport 0 Code.rprPermanent f px py 0 2 0 (logical && s.run.cur.isSome)
  if !logical then s.reserveMoves f key units
  else if s.log.due.contains (f, key % 132) || s.log.migrate.contains (f, key % 132) then s
  else if c.cols.length < 4 then
    if s.margin < (128 * s.segBytes : Nat) then s.replan f 2
    else { s with log := { s.log with due := s.log.due ++ [(f, key % 132)] } }.beginMigrations
  else if c.pending.contains (key / 132) then s
  else if c.rows.length + c.pending.length < 4 then
    { s with log := { s.log with crev := s.log.crev.upd Crev.zero f (fun c =>
      { c with pending := insertAsc (key / 132) c.pending }) } }.replan f 7
  else s.replan f 1

/-- A transient charged to a tile. -/
def State.transient (s : State) (f key : Nat) : State :=
  let k := physKey (132 * (f % 8) + key % 132) (132 * (f / 8) + key / 132)
  { s with log := { s.log with tiles := s.log.tiles.upd TileSum.zero k (fun t =>
    { t with state := max t.state 0, transients := t.transients + 1, lastHour := s.ref / 360000000000 }) } }

end Sys2Proof.Machine
end

