-- ==== Sys2Proof/Machine/DictOps.lean ====
section
/-!
DEFINITION. Sys2Proof/Machine/DictOps.lean: loading, saving and switching profiles, and the stored values of the dictionary
(spec 13_dictionary R407, R408, R413, R423 to R426).
-/

namespace Sys2Proof.Machine

/-- A measurement block takes a new digest (R364). -/
def State.remeasure (s : State) (k : Nat) : State :=
  let r := s.fresh
  { r.2 with trust := { r.2.trust with meas := r.2.trust.meas.set 0 k r.1 } }

/-- The value that a slot gives a profile-stored entry: the saved value, or the factory value (R423). A slot whose record fails its
check gives the values of Crocus (R424). -/
def State.slotValue (s : State) (n0 : Nat) (e : Ent) : Nat :=
  let n := if s.dict.badSlots.contains n0 then 0 else n0
  match s.dict.slots.get 0 (n * 2 ^ 24 + e.key) with
  | v + 1 => v
  | 0 => if odKey 0x3000 1 ≤ e.key ∧ e.key ≤ odKey 0x3000 8 then s.fuse.levels.getD (e.key - odKey 0x3000 1) 0
    else factory n e

/-- The profile-stored entries. -/
def profileEnts : List Ent := odTable.filter (fun e => e.store = .profile)

/-- Working values set from a list of entries and values. -/
def State.putEnts (s : State) (es : List (Ent × Nat)) : State :=
  es.foldl (fun s p => { s with dict := { s.dict with work := s.dict.work.set 0 p.1.key (p.2 + 1) } }) s

/-- Every profile-stored entry, or every live one, loaded from a slot. -/
def State.loadSlot (s : State) (n : Nat) (liveOnly : Bool) : State :=
  s.putEnts ((profileEnts.filter (fun e => e.live || !liveOnly)).map (fun e => (e, s.slotValue n e)))

/-- Values in effect follow the working values (R408). -/
def State.settleDict (s : State) : State := { s with dict := { s.dict with effect := [] } }

/-- A working value written; one that is not live keeps its former effect until the next L2 release (R408). -/
def State.writeOd (s : State) (e : Ent) (v : Nat) : State :=
  let old := s.od (e.key / 256) (e.key % 256)
  let d := s.dict
  let eff := if e.live then d.effect
    else if d.effect.get 0 e.key = 0 then d.effect.set 0 e.key (old + 1) else d.effect
  let sto := if e.store = .module then d.stored.set 0 e.key (v + 1) else d.stored
  { s with dict := { d with work := d.work.set 0 e.key (v + 1), effect := eff, stored := sto } }

/-- A slot becomes active, with the source that chose it: 0 the pins, 1 a command; a slot whose record fails its check is
replaced by Crocus (R424). -/
def State.activate (s : State) (n source : Nat) : State :=
  let bad := s.dict.badSlots.contains n
  let slot := if bad then 0 else n
  let s := (s.loadSlot slot false).settleDict
  let s := ((s.setOd 0x2000 1 slot).setOd 0x2000 3 (if bad then 2 else source)).setOd 0x2000 5 0xFF
  let s := s.remeasure 4
  if bad then (s.moduleFault 6 Code.rstProfileInvalid 0 n false).warn 3 true else s

/-- Module-stored values loaded from configuration flash: the entries that pass a test (R407, R413). -/
def State.loadStored (s : State) (p : Ent → Bool) : State :=
  s.putEnts ((odTable.filter (fun e => e.store = .module && p e)).map (fun e =>
    (e, match s.dict.stored.get 0 e.key with
      | v + 1 => v
      | 0 => s.odDefault e)))

/-- The status of a CMD entry: 0 done, 1 busy, 2 refused, and the abort code (R406). -/
def State.odCmd (s : State) (ix sub status abort : Nat) : State :=
  { s with dict := { s.dict with cmdStatus := s.dict.cmdStatus.set 0 (odKey ix sub) (status + 2 ^ 32 * abort) } }

/-- The abort codes of R409. -/
def Abort.timeout : Nat := 0x05040000
def Abort.specifier : Nat := 0x05040001
def Abort.readOnly : Nat := 0x06010002
def Abort.noIndex : Nat := 0x06020000
def Abort.length : Nat := 0x06070010
def Abort.noSub : Nat := 0x06090011
def Abort.range : Nat := 0x06090030
def Abort.transport : Nat := 0x08000020
def Abort.state : Nat := 0x08000022

/-- The node's boot-up: the CAN and communication entries are loaded, the node ID and bit rates applied, and the node sends
its boot-up message and enters Pre-operational (R411, R413). -/
def State.nodeBoot (s : State) : State :=
  let can := fun (k : Nat) => decide (odKey 0x2020 0 ≤ k ∧ k < odKey 0x2021 0)
  let comm := fun (k : Nat) => decide (k < odKey 0x2000 0)
  let s := s.loadStored (fun e => can e.key)
  let id := s.od 0x2020 1
  let s := ({ s with dict := { s.dict with
    nmt := .preOperational
    node := id
    effect := s.dict.effect.keep (fun k => !(can k || comm k))
    sdo := s.dict.sdo.filter (fun x => x.source ≠ 0) } } : State).loadStored (fun e => comm e.key)
  s.emit .can 0 (0x700 + id) [0]

end Sys2Proof.Machine
end

