-- ==== Sys2Proof/Machine/Fabric.lean ====
section
/-!
DEFINITION. Sys2Proof/Machine/Fabric.lean: the commands of a tile's sequencer, units, fabric, scratch and control core (spec
02_tile, 03_arithmetic, 04_scheduled_fabric).
-/

namespace Sys2Proof.Machine

/-! ### The start of an acycle and landings -/

/-- Bits of the code word of a memory word of a tile flip (R81, R82). -/
def Tile.upset (t : Tile) (u : Upset) : Tile :=
  if u.stack then
    let i := u.word.toNat % stackWords
    { t with stack := t.stack.set CWord.zero i { t.stkWord i with err := (t.stkWord i).err ^^^ u.err } }
  else
    let i := u.word.toNat % 8192
    { t with scratch := t.scratch.set CWord.zero i { t.scrWord i with err := (t.scrWord i).err ^^^ u.err } }

/-- The things due at the start of the current acycle land; a stack beat due now lands at once where the tile does not
issue, and with the bundle where it does (R60, R74). -/
def Tile.landDue (t : Tile) (now : Nat) : Tile :=
  let t := (t.startAcycle now).dropOldBeats now
  if t.seq.state = .run then t
  else
    let due := t.beats.filter (fun b => decide (b.due ≤ now))
    due.foldl Tile.landBeat { t with beats := t.beats.filter (fun b => !decide (b.due ≤ now)) }

/-- Lands what is due at the tile that a pair names. -/
def State.land (s : State) (a : Nat) : State := s.atTile' a (fun p t => t.landDue p.now)

/-- NEXT_BUFFER_WRITE (R101). -/
def execNextBufferWrite (a : Addr) (s : State) : Res := .next (s.land a.toNat)
/-- VU_RESULT_LANDING (R116, R117). -/
def execVuResultLanding (a : Addr) (s : State) : Res := .next (s.land a.toNat)
/-- INJECT_AVAILABLE (R138). -/
def execInjectAvailable (a : Addr) (s : State) : Res := .next (s.land a.toNat)
/-- SRD_LANDING (R74, R162). -/
def execSrdLanding (a : Addr) (s : State) : Res := .next (s.land a.toNat)
/-- SLD_LANDING (R162, R164). -/
def execSldLanding (a : Addr) (s : State) : Res := .next (s.land a.toNat)
/-- ARMED_START (R161): a sequencer armed by the switch enters RUN in its start acycle. -/
def execArmedStart (a : Addr) (s : State) : Res := .next (s.land a.toNat)

/-! ### Arrivals (R127, R128, R151, R159, R179, R445) -/

/-- The seam register of a word's crossing: whether it is the north one, and its field (R128). -/
def seamOf (f port : Nat) : Bool × Nat :=
  match port % 4 with
  | 0 => (true, f)
  | 1 => (false, f)
  | 2 => (true, f - 8)
  | _ => (false, f - 1)

/-- A word that met a closed seam: discarded and counted, and for a held-out field recorded (R179, R445). -/
def State.intrude (s : State) (f a : Nat) : State :=
  if s.heldOut f then
    ((((s.satReg F.FLD_HOLD_INTRUDE f).invalidate).collect f Code.staleToken a).report
      ⟨Code.staleToken, 0, f, (s.tpos f 0).px, (s.tpos f 0).py, some a, s.acyc - (s.field f).secStart, s.acyc, 0, true, true,
        0, 0⟩)
  else s.satReg F.FLD_RST_INTRUDE f

/-- A link word arrives at its tile. `hop` has the bits of its code word that the hop flipped and `late` says that a col crossing
missed the release acycle. -/
def State.arriveWord (s : State) (l : LinkWord) (hop : BitVec 80) (late : Bool) : State :=
  match s.locate l.dest with
  | none => s
  | some (f, key) =>
    if l.seam && (s.heldOut f || s.inReset f) then s.intrude f l.dest
    else if s.inReset f then s
    else if l.seam && late then
      let r := seamOf f l.port
      let s := if r.1 then s.satReg F.FLD_SEAM_N_SLIP r.2 else s.satReg F.FLD_SEAM_E_SLIP r.2
      s.absorb f key ((TW.start (s.tile f key) l.due).fault Code.seamSlip)
    else s.absorb f key ((TW.start (s.tile f key) l.due).arrive l.port l.tok hop)

/-- Every word due at a tile before acycle `now` arrives, in the order driven. -/
def State.arriveDue (s : State) (a now : Nat) : State :=
  let due := s.links.filter (fun l => l.dest = a && decide (l.due < now))
  due.foldl (fun s l => s.arriveWord l 0 false)
    { s with links := s.links.filter (fun l => !(l.dest = a && decide (l.due < now))) }

/-- Whether a word that is due may arrive now: the acycle of its writing has come, and its tile has issued in it. -/
def State.mayArrive (s : State) (l : LinkWord) : Bool :=
  decide (l.due ≤ s.acyc) &&
    (match s.locate l.dest with
      | none => true
      | some (f, key) => (s.tile f key).seq.state ≠ .run || decide (l.due < (s.tile f key).seq.next))

/-- WORD_ARRIVAL (R127, R128, R151). -/
def execWordArrival (a : Addr) (port : Fin 8) (hop : BitVec 80) (late : Bool) (s : State) : Res :=
  match takeFirst (fun l => l.dest = a.toNat && l.port = port.val && s.mayArrive l) s.links with
  | none => .next s
  | some (l, r) => .next ({ s with links := r }.arriveWord l hop late)

/-! ### Bundle issue -/

/-- The declared refresh window whose clash span holds section acycle `t` (R187, R188). -/
def Img.clashes (m : Img) (sec len t : Nat) : Bool :=
  let per := m.period sec
  let ph := m.phase sec
  if per = 0 then false
  else
    let k := (t + 23 - ph) / per
    decide (ph ≤ t + 23) && decide (t < ph + k * per + 320) && decide (ph + k * per + 320 ≤ len)

/-- Whether section acycle `t` lies in a declared refresh window (R187). -/
def Img.windowAt (m : Img) (sec len t : Nat) : Bool :=
  let per := m.period sec
  let ph := m.phase sec
  let a := ph + (t - ph) / per * per
  decide (0 < per ∧ ph ≤ t ∧ t < a + 320 ∧ a + 320 ≤ len)

/-- Acycles that a 16-refcycle refresh step overlaps at the divider in force (R191). -/
def State.stepAcycles (s : State) : Nat :=
  let d2 := s.reg F.CLK_DIV_CURRENT
  (6016 + 5 * d2 - 1) / (5 * d2)

/-- Whether an operation at acycle `t` clashes with the first window of the section that comes next (R188). -/
def State.nextClash (s : State) (m : Img) (t : Nat) : Bool :=
  match s.switchNext with
  | none => false
  | some d =>
    let a := d.w + m.phase d.section_
    decide (0 < m.period d.section_ ∧ m.phase d.section_ + 320 ≤ d.len ∧ a < t + 24 ∧ t < a + 320)

/-- Whether a stack operation that a field issues at acycle `t` is discarded by a refresh (R188, R191). -/
def State.refreshClash (s : State) (f t : Nat) : Bool :=
  (match s.image with
    | some m => (s.field f).live && (m.clashes s.run.section_ s.run.len (t - (s.field f).secStart) || s.nextClash m t)
    | none => false) ||
  (match (s.field f).forced with
    | some z => decide (t < z + s.stepAcycles ∧ z < t + 24)
    | none => false)

/-- The schedule environment of a tile issuing at acycle `t` (R126, R158, R188, R472). -/
def State.tenv (s : State) (f key t : Nat) : TEnv :=
  { (s.tpos f key).env with
    blocked := if s.dark f then some Code.fieldDark else if s.mode f = 1 then some Code.illegalOp else none
    clash := s.refreshClash f t }

/-- The acycle in which a tile issues its next bundle: the current one, or the one after where it has issued in it. -/
def State.issueAt (s : State) (t : Tile) : Nat := if t.seq.next ≤ s.acyc then s.acyc else s.acyc + 1

/-- The array acycle of the next switch, or of the running invocation's end; none where nothing is to come. -/
def State.nextSwitch (s : State) : Option Nat :=
  match s.run.cur, s.run.nxt with
  | some _, _ => some s.run.next
  | none, some (i, _) => some i.start
  | none, none => none

/-- Whether acycle `t` lies before the next switch. -/
def State.beforeSwitch (s : State) (t : Nat) : Bool :=
  match s.nextSwitch with
  | none => true
  | some w => decide (t < w)

/-- BUNDLE_ISSUE (R147): the tile's next acycle; `ups` are the memory upsets that come about in it. A tile that does not
run, and an acycle that belongs to the next section, issue nothing (R160, R161). -/
def execBundleIssue (a : Addr) (ups : List Upset) (s : State) : Res :=
  match s.locate a.toNat with
  | none => .next s
  | some (f, key) =>
    let t := s.issueAt (s.tile f key)
    if s.inReset f || (s.field f).stopped || !s.beforeSwitch t then .next s
    else
      let s1 := s.arriveDue a.toNat t
      let tl := (ups.foldl Tile.upset (s1.tile f key)).startAcycle t
      if tl.seq.state = .run then
        .next ((s1.advance t).absorb f key (tl.issue (s1.tenv f key t) t))
      else .next s

/-! ### Tile commands -/

/-- A command of the sequencer: no effect while the field is in reset. -/
def State.seqCmd (s : State) (a : Nat) (g : Tile → Tile) : State :=
  s.atTile a (fun s f _ _ t => TW.start (if s.inReset f then t else g t) s.acyc)

/-- Work of the compute side: no effect while the field is in reset at L1 or above, dark or without its compute rail. -/
def State.coreWork (s : State) (a : Nat) (g : State → Nat → TPos → TW → TW) : State :=
  s.atTile a (fun s f _ p t =>
    let w := TW.start t s.acyc
    if s.coreReset f || s.dark f || !s.compOn f then w else g s f p w)

/-- ARM (R534, R69). A sequencer is armable once the release of its field has passed step 8 (R442). -/
def execArm (a : Addr) (s : State) : Res :=
  .next (s.atTile a.toNat (fun s f _ _ t => TW.start
    (if s.inReset f then t
      else if s.rst.active && (s.rst.all || bitOf s.rst.fields f) then t.setCmd F.SCH_CMD_STATUS F.SCH_CMD_OP 2 1
      else t.cmdArm) s.acyc))
/-- HALT (R534). -/
def execHalt (a : Addr) (s : State) : Res := .next (s.seqCmd a.toNat Tile.cmdHalt)
/-- SCRUB (R69). -/
def execScrub (a : Addr) (s : State) : Res := .next (s.coreWork a.toNat (fun _ _ _ w => w.upd Tile.cmdScrub))
/-- ZEROIZE (R70). -/
def execZeroize (a : Addr) (s : State) : Res := .next (s.coreWork a.toNat (fun _ _ _ w => w.upd Tile.cmdZeroize))
/-- SCRUB_DONE (R69, R72); `ups` are the upsets that the scrub meets. Lost words of RES handles are reloaded. -/
def execScrubDone (a : Addr) (ups : List Upset) (s : State) : Res :=
  let s' := s.coreWork a.toNat (fun _ _ _ w => (w.upd (fun t => ups.foldl Tile.upset t)).scrubDone)
  .next (match s.locate a.toNat with
    | some (f, key) =>
      let t := ups.foldl Tile.upset (s.tile f key)
      let lost := (t.scratch.filter (fun p => p.2.ecc = .multi)).map (·.1)
      if t.scrOp = .scrub && (s'.tile f key).scrOp = .none && !lost.isEmpty then s'.reloadLost f key lost else s'
    | none => s')
/-- RUN (R532). -/
def execRun (a : Addr) (s : State) : Res := .next (s.coreWork a.toNat (fun s _ _ w => w.upd (·.cmdRun s.acyc)))
/-- CC_HALT (R532). -/
def execCcHalt (a : Addr) (s : State) : Res := .next (s.coreWork a.toNat (fun _ _ _ w => w.upd Tile.cmdCoreHalt))
/-- RESTART (R55). -/
def execRestart (a : Addr) (s : State) : Res := .next (s.coreWork a.toNat (fun s _ _ w => w.upd (·.cmdRestart s.acyc)))

/-! ### The control core -/

/-- The control core's clock is gated off: it counts as held (R463). -/
def State.coreGated (s : State) (f : Nat) : Bool := s.gateEff f 2 = 2

/-- CC_DISPATCH (R145, R214). -/
def execCcDispatch (a : Addr) (s : State) : Res :=
  .next (s.coreWork a.toNat (fun s f _ w => if s.coreGated f then w else w.dispatch))
/-- CORE_INSTRUCTION (R47, R55). -/
def execCoreInstruction (a : Addr) (s : State) : Res :=
  .next (s.coreWork a.toNat (fun s f p w => if s.coreGated f then w else w.coreInstr p))
/-- TS_SEND (R208). -/
def execTsSend (a : Addr) (s : State) : Res :=
  .next (s.coreWork a.toNat (fun s f p w => if s.coreGated f then w else w.tsSend p))
/-- TS_REPLY (R215); `stuck` says that SEND_TIMEOUT passed before the reply could be injected. -/
def execTsReply (a : Addr) (stuck : Bool) (s : State) : Res :=
  .next (s.coreWork a.toNat (fun s f _ w => if s.coreGated f then w else w.tsReply stuck))
/-- TS_YIELD (R53, R215). -/
def execTsYield (a : Addr) (s : State) : Res :=
  .next (s.coreWork a.toNat (fun s f _ w => if s.coreGated f then w else w.tsYield))
/-- TS_CPPOST (R53). -/
def execTsCppost (a : Addr) (s : State) : Res :=
  .next (s.coreWork a.toNat (fun s f _ w => if s.coreGated f then w else w.upd Tile.tsCppost))
/-- TS_HGET (R53). -/
def execTsHget (a : Addr) (s : State) : Res :=
  .next (s.coreWork a.toNat (fun s f _ w => if s.coreGated f then w else w.upd Tile.tsHget))
/-- TS_HSET (R62). -/
def execTsHset (a : Addr) (s : State) : Res :=
  .next (s.coreWork a.toNat (fun s f p w => if s.coreGated f then w else w.upd (·.tsHset p)))

/-- Whether acycle `t` of a field lies in a declared refresh window or a forced step (R185 condition 2). -/
def State.inRefresh (s : State) (f t : Nat) : Bool :=
  (match s.image with
    | some m => (s.field f).live && m.windowAt s.run.section_ s.run.len (t - (s.field f).secStart)
    | none => false) ||
  (match (s.field f).forced with
    | some z => decide (z ≤ t ∧ t < z + s.stepAcycles)
    | none => false)

/-- Whether R185 admits a non-scheduled beat of a class (0 feed and drain, 1 Base Camp, 2 core, 3 survey, 4 aperture) in the
current acycle: no beat of a higher class waits, no refresh, the budget but for feed and drain, and the rate. -/
def State.admits (s : State) (f cls : Nat) : Bool :=
  let g := s.field f
  (g.waiting.take cls).all (fun n => n = 0) && (decide (cls ≤ 2) || g.coreWait.isEmpty) && !s.inRefresh f s.acyc &&
    (cls = 0 || decide (sumBeats (g.others.filter (fun p => decide (p.1 < s.acyc))) (s.acyc - 1) + 1 ≤
      1048576 - s.reg F.FLD_STK_USE_DECL f)) &&
    decide (((g.others.filter (fun p => p.1 = s.acyc)).map (·.2)).foldl (· + ·) 0 < 1024)

/-- Non-scheduled beats served at once. -/
def State.served (s : State) (f n : Nat) : State :=
  s.updField f (fun g => { g with others := logBeats g.others s.acyc n })

/-- The beats that the core's handle access at the pc will make: one for a load, two for a store through a stack handle. -/
def Tile.coreBeats (t : Tile) (f3 n : Nat) : Nat :=
  match t.tsAt f3 with
  | none => 0
  | some i => if (t.handle (bits (t.tsArgs i).2.1 24 6)).stackSpace then n else 0

/-- A handle access of the core. One that reaches the stack is made in an acycle that admits its beats; until then the core waits,
and its access before those of the survey window and the aperture (R54, R75, R185). -/
def State.coreAccess (s : State) (a f3 n : Nat) (g : TW → TW) : State :=
  match s.locate a with
  | none => s
  | some (f, key) =>
    if s.coreGated f || s.coreReset f || s.dark f || !s.compOn f then s
    else
      let k := (s.tile f key).coreBeats f3 n
      if k = 0 then s.coreWork a (fun _ _ _ w => g w)
      else if !s.admits f 2 then s.updField f (fun h => { h with coreWait := insertAsc key h.coreWait })
      else ((s.coreWork a (fun _ _ _ w => g w)).served f k).updField f (fun h =>
        { h with coreWait := h.coreWait.filter (fun q => q ≠ key) })

/-- TS_HLD (R54); `ups` are the upsets of the words it meets. -/
def execTsHld (a : Addr) (ups : List Upset) (s : State) : Res :=
  .next (s.coreAccess a.toNat 6 1 (fun w => (w.upd (fun t => ups.foldl Tile.upset t)).tsHld))
/-- TS_HST (R54). -/
def execTsHst (a : Addr) (ups : List Upset) (s : State) : Res :=
  .next (s.coreAccess a.toNat 7 2 (fun w => (w.upd (fun t => ups.foldl Tile.upset t)).tsHst))

end Sys2Proof.Machine
end

