-- ==== Sys2Proof/Machine/Messaging.lean ====
section
/-!
DEFINITION. Sys2Proof/Machine/Messaging.lean: the commands of the message fabric (spec 07_message_fabric).
-/

namespace Sys2Proof.Machine

/-! ### Routing (R203 to R205, R221) -/

/-- The field of a pair that is not Base Camp's. -/
def pairField (a : Nat) : Nat := if 768 ≤ pairY a then (pairY a - 768) / 4 else 8 * (pairY a / 128) + pairX a / 128

/-- The north-east logical corner of a field. -/
def cornerOf (f : Nat) : Nat := pairOf2 (128 * (f % 8) + 127) (128 * (f / 8) + 127)

/-- The logical router towards which a packet for a pair is routed. -/
def routeTarget (a : Nat) : Nat := if a = bcPair then pairOf2 512 0 else if 768 ≤ pairY a then cornerOf (pairField a) else a

/-- The pair of the next router; none where the packet is at its destination. A packet from Base Camp's port enters at
(512, 0). -/
def nextHop (at_ dst : Nat) : Option Nat :=
  if at_ = dst then none
  else if at_ = bcPair then some (pairOf2 512 0)
  else if 768 ≤ pairY at_ then some (cornerOf (pairField at_))
  else
    let t := routeTarget dst
    if pairX at_ < pairX t then some (at_ + 1)
    else if pairX t < pairX at_ then some (at_ - 1)
    else if pairY at_ < pairY t then some (at_ + 1024)
    else if pairY t < pairY at_ then some (at_ - 1024)
    else some dst

/-- Base Camp's message port takes a packet: its status and words leave the mesh. -/
def State.toBaseCamp (s : State) (p : Packet) : State :=
  s.emit .bcReply p.src.toNat p.status.toNat (p.words.map (fun w => w.data.toNat))

/-- A message answered UNAVAILABLE by a closed wrapper (R221, R445). A UNICAST request so answered is outcome 1 of R212, which
MSG_CNT.REFUSED of its destination counts where that register is out of reset, as it is at L1. -/
def State.wrapperAnswer (s : State) (at_ : Nat) (p : Packet) : State :=
  let s := s.satReg F.RST_ISO_MSG
  if p.reply then s
  else
    let s := if p.cls = 0 && decide (s.rst.level < 2) then s.atTile' p.dst.toNat (fun _ t => t.countSat F.MSG_CNT_REFUSED)
      else s
    { s with pkts := s.pkts ++ [⟨at_, at_, p.answer 0 3 []⟩] }

/-- Whether no earlier packet stands before packet `k` in the router input that holds it: the packets of an input keep their
order (R204, R209, R221). -/
def State.atHead (s : State) (k : Nat) : Bool :=
  match s.pkts[k]? with
  | none => false
  | some x => (s.pkts.take k).all (fun y => !decide (y.pkt.reply = x.pkt.reply ∧ y.at_ = x.at_ ∧ y.prev = x.prev))

/-- Flits held at the input of router `b` from router `a` on a mesh. -/
def State.inputFlits (s : State) (reply : Bool) (a b : Nat) : Nat :=
  ((s.pkts.filter (fun y => y.pkt.reply = reply && y.at_ = b && y.prev = a)).map (fun y => 1 + y.pkt.words.length)).sum

/-- The input signals ON: it holds fewer than 5 flits (R204). -/
def State.inputOn (s : State) (reply : Bool) (a b : Nat) : Bool := decide (s.inputFlits reply a b < 5)

/-- A router input decodes the flits of a packet, `errs` the bits flipped in each code word: corrected flits are counted, and an
uncorrectable one discards the packet with ECC_MSG_UE (R82, R203). The Bool says that the packet is lost. -/
def State.decodeAt (s : State) (b : Nat) (errs : List (BitVec 80)) : State × Bool :=
  if errs.isEmpty then (s, false)
  else
    let lost := errs.any (fun e => errOutcome e = .multi)
    let n := (errs.filter (fun e => errOutcome e = .one)).length
    (s.atTile b (fun s _ _ _ t =>
      let w := TW.start (t.countSat F.RTR_ECC_CE_COUNT n) s.acyc
      if lost then w.note Code.eccMsgUe else w), lost)

/-- Packet `k` in flight, where it stands first in its input, and the list without it. -/
def State.takePkt (s : State) (k : Nat) : Option (Flight × State) :=
  match s.pkts[k]? with
  | none => none
  | some x => if s.atHead k then some (x, { s with pkts := s.pkts.eraseIdx k }) else none

/-- A SYSTEM packet from Base Camp. -/
def sysPacket (dst op : Nat) (ws : List Tok) : Packet where
  reply := false
  inc := false
  slot := 0
  status := 0
  cls := 1
  tag := BitVec.ofNat 10 op
  src := BitVec.ofNat 20 bcPair
  dst := BitVec.ofNat 20 dst
  words := ws

/-- A RECT packet's copy for one tile: the operation as its tag, and word 0 as R220 lays it out. -/
def rectPacket (dst op addr : Nat) (ds : List Tok) : Packet :=
  { sysPacket dst op (⟨word64 [(0, dst), (20, addr)], 0⟩ :: ds) with cls := 2 }

/-- The agent of a tile serves a SYSTEM packet or a copy of a RECT that has come to it (R219, R220). -/
def State.serveAgent (s : State) (p : Packet) : State :=
  s.atTile p.dst.toNat (fun s f _ tp t =>
    if p.cls = 1 then (TW.start t s.acyc).system tp p (s.agentAway f)
    else TW.start (t.rect tp p.tag.toNat (bits (p.words.headD ⟨0, 0⟩).data.toNat 20 20) p.words.tail (s.agentAway f)) s.acyc)

/-- One hop of packet `k`, first of its input, with the errors its flits meet on the link (R203 to R205, R221). A packet for a
system agent is served where it has arrived. -/
def State.hop (s : State) (x : Flight) (k : Nat) (errs : List (BitVec 80)) : State :=
  let gone := { s with pkts := s.pkts.eraseIdx k }
  if x.pkt.cls = 3 then gone
  else
    match nextHop x.at_ x.pkt.dst.toNat with
    | none => if !x.pkt.reply && x.pkt.cls ≠ 0 then gone.serveAgent x.pkt else s
    | some b =>
      if b = bcPair then gone.toBaseCamp x.pkt
      else if s.msgReset (pairField b) && pairField b ≠ pairField x.at_ then
        if x.pkt.dst.toNat = bcPair || pairField x.pkt.dst.toNat ≠ pairField b then s
        else if x.pkt.cls = 2 && !x.pkt.reply then gone
        else gone.wrapperAnswer x.at_ x.pkt
      else if !s.inputOn x.pkt.reply x.at_ b then s
      else
        let r := gone.decodeAt b errs
        if r.2 then r.1 else { r.1 with pkts := r.1.pkts ++ [⟨b, x.at_, x.pkt⟩] }

/-- PACKET_HOP: packet `k` of those in flight, with the bits flipped in each flit's code word on the link. -/
def execPacketHop (k : Nat) (errs : List (BitVec 80)) (s : State) : Res :=
  match s.pkts[k]? with
  | none => .next s
  | some x => if s.atHead k then .next (s.hop x k errs) else .next s

/-- Runs work at the destination of packet `k`, where it has arrived there and passes the test; a tile in reset answers
through its wrapper (R221). -/
def State.deliver (s : State) (k : Nat) (ok : Packet → Bool) (g : State → Nat → Packet → TW → TW) : State :=
  match s.takePkt k with
  | none => s
  | some (x, s') =>
    if x.at_ ≠ x.pkt.dst.toNat || !ok x.pkt then s
    else if s.msgReset (pairField x.at_) then s'.wrapperAnswer x.at_ x.pkt
    else s'.atTile x.at_ (fun s f _ _ t => g s f x.pkt (TW.start t s.acyc))

/-- UNICAST (R212). -/
def execUnicast (k : Nat) (s : State) : Res :=
  .next (s.deliver k (fun p => !p.reply && p.cls = 0)
    (fun s f p w => w.takeRequest p (s.away f || s.coreGated f)))
/-- ACK (R213). -/
def execAck (k : Nat) (s : State) : Res := .next (s.deliver k (fun p => p.reply && p.cls = 1) (fun _ _ p w => w.takeAck p))
/-- BUSY (R208, R213). -/
def execBusy (k : Nat) (s : State) : Res := .next (s.deliver k (fun p => p.reply && p.cls = 2) (fun _ _ p w => w.takeBusy p))
/-- REPLY (R211, R213). -/
def execReply (k : Nat) (s : State) : Res :=
  .next (s.deliver k (fun p => p.reply && p.cls = 0) (fun s _ p w => w.takeReply s.run.cur.isSome p))

/-! ### Timers (R208, R211) -/

/-- BUSY_BACKOFF (R208). -/
def execBusyBackoff (a : Addr) (s : State) : Res := .next (s.coreWork a.toNat (fun _ _ _ w => w.resend))
/-- MSG_SEND_TIMEOUT (R208). -/
def execMsgSendTimeout (a : Addr) (s : State) : Res := .next (s.coreWork a.toNat (fun _ _ _ w => w.sendTimeout))
/-- MSG_REPLY_TIMEOUT (R211). -/
def execMsgReplyTimeout (a : Addr) (slot : Fin 8) (s : State) : Res :=
  .next (s.coreWork a.toNat (fun s _ p w => w.replyTimeout (pairOf2 p.lx p.ly) s.run.cur.isSome slot.val))
/-- SLOT_QUARANTINE_END (R211). -/
def execSlotQuarantineEnd (a : Addr) (slot : Fin 8) (s : State) : Res :=
  .next (s.coreWork a.toNat (fun _ _ _ w => w.quarantineEnd slot.val))

/-! ### The system agent (R219, R220) -/

/-- The routers between two logical pairs, the first one left out: along the row, then along the column (R204). -/
def meshPath (a b : Nat) : List Nat :=
  let x0 := pairX a
  let x1 := pairX b
  let y0 := pairY a
  let y1 := pairY b
  (if x0 ≤ x1 then (List.range (x1 - x0)).map (fun i => pairOf2 (x0 + 1 + i) y0)
    else (List.range (x0 - x1)).map (fun i => pairOf2 (x0 - 1 - i) y0)) ++
  (if y0 ≤ y1 then (List.range (y1 - y0)).map (fun i => pairOf2 x1 (y0 + 1 + i))
    else (List.range (y0 - y1)).map (fun i => pairOf2 x1 (y0 - 1 - i)))

/-- The routers that a packet from Base Camp passes: (512, 0), then by rows and columns, a spare tile by its field's corner and
spare link (R205). -/
def bcRoute (dst : Nat) : List Nat :=
  pairOf2 512 0 :: meshPath (pairOf2 512 0) (routeTarget dst) ++ (if 768 ≤ pairY dst then [dst] else [])

/-- The errors listed for a router. -/
def errsAt (hops : List (Addr × List (BitVec 80))) (b : Nat) : List (BitVec 80) :=
  (hops.filter (fun h => h.1.toNat = b)).flatMap (·.2)

/-- What became of a packet from Base Camp in the routers given. -/
inductive Passage where
  /-- it came through -/
  | through
  /-- a router discarded it -/
  | lost
  /-- it stands before the seam of a field whose message fabric is in reset: at the router given, before the one given -/
  | held (at_ next : Nat)
  deriving DecidableEq, Repr

/-- A packet from Base Camp passes routers one after the other, from the router `a` (R203, R205, R221). -/
def State.pass (hops : List (Addr × List (BitVec 80))) : List Nat → Nat → State → State × Passage
  | [], _, s => (s, .through)
  | b :: r, a, s =>
    if s.msgReset (pairField b) then (s, .held a b)
    else
      let q := s.decodeAt b (errsAt hops b)
      if q.2 then (q.1, .lost) else State.pass hops r b q.1

/-- A SYSTEM packet goes from Base Camp's port to its tile, in this step as far as its way is free, and is served there (R205,
R219, R221). A packet for a field whose message fabric is in reset is answered at the seam; one that only passes through waits
there. `hops` lists the routers at which flits arrive with bits flipped. -/
def State.sysOp (s : State) (a op : Nat) (ws : List Tok) (hops : List (Addr × List (BitVec 80))) : State :=
  let p := sysPacket a op ws
  match s.locate a with
  | none => s
  | some _ =>
    match State.pass hops (bcRoute a) bcPair s with
    | (s, .through) => s.serveAgent p
    | (s, .lost) => s
    | (s, .held z b) =>
      if pairField a = pairField b then s.wrapperAnswer z p else { s with pkts := s.pkts ++ [⟨z, z, p⟩] }

/-- READ (R219). -/
def execRead (a : Addr) (addr : BitVec 20) (n : Carried (Fin 16)) (s : State) : Res :=
  .next (s.sysOp a.toNat 0 [⟨word64 [(0, addr.toNat), (20, n.val.val)], 0⟩] n.hops)
/-- WRITE (R219): data words with their tag symbols. -/
def execWrite (a : Addr) (addr : BitVec 20) (data : Carried (List (BitVec 64 × BitVec 4))) (s : State) : Res :=
  .next (s.sysOp a.toNat 1 (⟨word64 [(0, addr.toNat)], 0⟩ :: data.val.map (fun d => ⟨d.1, d.2⟩)) data.hops)
/-- TEST (R219, R500). -/
def execTest (a : Addr) (number : Carried (BitVec 16)) (s : State) : Res :=
  .next (s.sysOp a.toNat 2 [⟨word64 [(0, number.val.toNat)], 0⟩] number.hops)

/-- The pairs of a rectangle from (x0, y0) to (x1, y1). -/
def rectPairs (a b : Nat) : List Nat :=
  (List.range (pairY b + 1 - pairY a)).flatMap (fun j =>
    (List.range (pairX b + 1 - pairX a)).map (fun i => pairOf2 (pairX a + i) (pairY a + j)))

/-- Whether a rectangle lies wholly in the logical range, or wholly in the spare range of one field (R220). -/
def rectOk (rows a b : Nat) : Bool :=
  decide (pairX a ≤ pairX b ∧ pairY a ≤ pairY b) &&
    (decide (pairY b < rows) ||
      (decide (768 ≤ pairY a ∧ pairY b < 960) && pairField a = pairField b &&
        (decide (pairX b < 132) || decide (512 ≤ pairX a ∧ pairX b < 640))))

/-- The routers that a RECT's copy for tile `q` passes, from Base Camp's port to the south-west corner `a` and from there east and
north (R220). -/
def rectRoute (a q : Nat) : List Nat := if 768 ≤ pairY a then bcRoute q else bcRoute a ++ meshPath a q

/-- The copy of a RECT for one tile: served, lost where `lost` names a router of its way, discarded at the seam of its own field
in reset, or waiting at another field's seam (R220, R221). -/
def State.rectCopy (s : State) (lost : List Nat) (a q : Nat) (p : Packet) : State :=
  match (State.pass [] ((rectRoute a q).takeWhile (fun b => !lost.contains b)) bcPair s).2 with
  | .held z b => if pairField q = pairField b then s else { s with pkts := s.pkts ++ [⟨z, z, p⟩] }
  | .lost => s
  | .through => if (rectRoute a q).any (fun b => lost.contains b) then s else s.serveAgent p

/-- RECT (R220): every tile of the rectangle takes one copy of a WRITE (or of a TEST). -/
def execRect (a b : Addr) (test : Bool) (addr : BitVec 20) (data : Carried (List (BitVec 64 × BitVec 4)))
    (s : State) : Res :=
  if !rectOk s.rows a.toNat b.toNat then .next s
  else
    let ds := data.val.map (fun d => (⟨d.1, d.2⟩ : Tok))
    let r := data.hops.foldl (fun (r : State × List Nat) h =>
      let q := r.1.decodeAt h.1.toNat h.2
      (q.1, if q.2 then h.1.toNat :: r.2 else r.2)) (s, [])
    .next ((rectPairs a.toNat b.toNat).foldl (fun s q =>
      s.rectCopy r.2 a.toNat q (rectPacket q (if test then 2 else 1) addr.toNat ds)) r.1)

end Sys2Proof.Machine
end

