-- ==== Sys2Proof/Machine/Stacked.lean ====
section
/-!
DEFINITION. Sys2Proof/Machine/Stacked.lean: refresh, scrubbing, non-scheduled beats and the host aperture (spec
06_stacked_memory).
-/

namespace Sys2Proof.Machine

/-! ### Refresh and scrubbing (R186 to R193) -/

/-- The listed stack words of a tile in beats `[b, b + n)` with a code-word state. -/
def Tile.errWords (t : Tile) (b n : Nat) (e : Ecc) : List Nat :=
  (t.stack.filter (fun w => decide (8 * b ≤ w.1 ∧ w.1 < 8 * (b + n)) && w.2.ecc = e)).map (·.1)

/-- A tile after the scrub of beats `[b, b + n)`: corrected words are written back (R192). -/
def Tile.scrubBeats (t : Tile) (b n : Nat) : Tile :=
  let ws := t.errWords b n .one
  let t := ws.foldl (fun t i => t.setStkWord i (t.stkWord i).data (t.stkWord i).tag) t
  t.countSat F.STK_ECC_CE_COUNT ws.length

/-- The scrub of `n` beats of every tile of a field, from FLD_STK_SCRUB.NEXT (R192, R193). -/
def State.scrubField (s : State) (f n : Nat) : State :=
  let b := s.reg F.FLD_STK_SCRUB_NEXT f
  let ce := ((s.field f).tiles.map (fun e => (e.2.errWords b n .one).length)).foldl (· + ·) 0
  let bad := (s.field f).tiles.flatMap (fun e => (e.2.errWords b n .multi).map (fun i => (e.1, i)))
  let s := (s.mapTiles f (·.scrubBeats b n)).satReg F.FLD_STK_ECC_CE_COUNT f ce
  let s := bad.foldl (fun s e => s.foundUe f e.1 (8 * e.2)) s
  let s := if 81920 ≤ b + n then s.addReg F.FLD_STK_SCRUB_PASSES f else s
  s.setReg F.FLD_STK_SCRUB_NEXT ((b + n) % 81920) f

/-- Memory upsets that come about in a field, each at a message pair. -/
def State.upsets (s : State) (ups : List (Addr × Upset)) : State :=
  ups.foldl (fun s u => match s.locate u.1.toNat with
    | none => s
    | some (f, key) => s.setTile f key ((s.tile f key).upset u.2)) s

/-- REFRESH_WINDOW (R187): a declared window of the running section that has opened and has not been served. -/
def execRefreshWindow (f : Fin 48) (ups : List (Addr × Upset)) (s : State) : Res :=
  match s.image with
  | none => .next s
  | some m =>
    let g := s.field f.val
    let t := s.acyc - g.secStart
    let per := m.period s.run.section_
    let ph := m.phase s.run.section_
    let a := ph + (t - ph) / per * per
    if !g.live || per = 0 || decide (t < ph) || decide (s.run.len < a + 320) || g.window = some (g.secStart + a) ||
        g.stopped then .next s
    else
      let s := (s.upsets ups).updField f.val (fun g => { g with window := some (g.secStart + a) })
      .next ((s.refreshStep f.val).scrubField f.val 16)

/-- AUTONOMOUS_REFRESH (R186): 10,000 refcycles have passed with no live section and the stack controller out of reset. -/
def execAutonomousRefresh (f : Fin 48) (ups : List (Addr × Upset)) (s : State) : Res :=
  if !s.present f.val || (s.field f.val).live || s.reg F.FLD_STK_REF_MODE f.val ≠ 1 then .next s
  else .next (((s.upsets ups).refreshStep f.val).scrubField f.val 16)

/-- A tile's stack operations whose DRAM access a forced step overlaps are discarded: beats still to land, and posted writes, which
leave the words as they were (R188, R191). -/
def TW.dropBeats (w : TW) : TW :=
  let beats := w.t.beats.filter (fun b => decide (w.now < b.due))
  let posts := w.t.posted.filter (fun p => decide (w.now < p.due))
  let back := posts.foldr (fun p (m : SMap CWord) =>
    (List.range p.old.length).foldl (fun m j => m.set CWord.zero (p.word + j) (p.old.getD j CWord.zero)) m) w.t.stack
  (List.range (beats.length + posts.length)).foldl (fun w _ => w.fault Code.stkRefreshClash) { w with
    t := { w.t with
      stack := back
      posted := []
      beats := w.t.beats.filter (fun b => !decide (w.now < b.due)) } }

/-- FORCED_REFRESH (R191): 40,000 refcycles have passed without a step. -/
def execForcedRefresh (f : Fin 48) (s : State) : Res :=
  if !s.present f.val || s.reg F.FLD_STK_REF_MODE f.val = 0 then .next s
  else
    let s := (s.refreshStep f.val).satReg F.FLD_STK_REF_FORCED f.val
    let s := s.updField f.val (fun g => { g with forced := some s.acyc })
    let s := (s.field f.val).tiles.foldl (fun s e =>
      if e.2.beats.isEmpty && e.2.posted.isEmpty then s else s.absorb f.val e.1 (TW.start e.2 s.acyc).dropBeats) s
    .next (s.fieldFault f.val Code.refreshForced)

/-! ### The host aperture (R200 to R202) -/

/-- Bytes of the staging area (R197). -/
def State.stagingSize (s : State) : Nat := (if s.fuse.variant = 2 then 40 else 64) * 2 ^ 30

/-- The bytes of a checkpoint slot and of the image copy area (R197). -/
def State.slotSize (s : State) : Nat :=
  (if s.fuse.variant = 2 then 16 else if s.fuse.variant = 1 then 32 else 48) * 2 ^ 30
def State.copySize (s : State) : Nat := s.stagingSize

/-- The container range that no aperture may touch while its INSTALL is in progress or it holds plaintext (R201). -/
def State.stagedRange (s : State) : Nat := if s.pendingImg.isSome then s.reg F.BC_IMG_CMD_LENGTH else 0

/-- What an aperture access of `n` bytes at BAR4 offset `off` reaches (R200, R201). -/
inductive ApTarget where
  | denied
  | segment (f key addr : Nat)
  | staging (addr : Nat)
  deriving DecidableEq, Repr

/-- The target of an aperture access. -/
def State.apTarget (s : State) (port off n : Nat) (write : Bool) : ApTarget :=
  let w := off / 2 ^ 33
  let o := off % 2 ^ 33
  let sel := s.reg F.HP_APW_SEL port w
  let type := s.reg F.HP_APW_TYPE port w
  if s.reg F.HP_APW_EN port w = 0 || (write && s.reg F.HP_APW_WP port w = 1) then .denied
  else if type = 0 then
    let a := o % 2 ^ 23
    if s.rows ≤ sel ∨ s.segBytes < a + n ∨ (write = true ∧ s.run.cur.isSome = true) then .denied
    else
      match s.locate (pairOf2 (o / 2 ^ 23) sel) with
      | some (f, key) => .segment f key a
      | none => .denied
  else if type = 1 then
    let b := sel * 2 ^ 30 + o
    if s.stagingSize < b + n ∨ b < s.stagedRange then .denied else .staging b
  else .denied

/-- `n` bytes of a tile's stack segment from a byte address; an uncorrectable word reads as zero (R193). -/
def Tile.stackBytes (t : Tile) (a n : Nat) : List Nat :=
  (List.range n).map (fun k =>
    let w := t.stkWord ((a + k) / 8)
    if w.ecc = .multi then 0 else bits w.data.toNat (8 * ((a + k) % 8)) 8)

/-- Whether some word of a stack range carries a tag. -/
def Tile.stackTagged (t : Tile) (a n : Nat) : Bool :=
  t.stack.any (fun w => decide (a / 8 ≤ w.1 ∧ w.1 ≤ (a + n - 1) / 8) && w.2.tag ≠ 0)

/-- Bytes written to the stack segment with tag 0, each word read, changed and written (R201). -/
def Tile.putStack (t : Tile) (a : Nat) : List Nat → Tile
  | [] => t
  | b :: r =>
    let i := a / 8
    let d := (t.stkWord i).read.data.toNat
    let k := 8 * (a % 8)
    let d' := d - bits d k 8 * 2 ^ k + (b % 256) * 2 ^ k
    (t.setStkWord i (BitVec.ofNat 64 d') 0).putStack (a + 1) r

/-- The beats that a range touches. -/
def beatCount (a n : Nat) : Nat := if n = 0 then 0 else (a + n - 1) / 64 - a / 64 + 1

/-- The stack controllers are in reset (L2 or above). -/
def State.stackReset (s : State) : Bool := s.rst.active && decide (2 ≤ s.rst.level ∧ s.rst.step < 4)

/-- A read of a part in reset: Completer Abort, counted (R445). -/
def State.isoRead (s : State) (port : Nat) : State := (s.satReg F.RST_ISO_HOST).emit .hostCpl port 4 []

/-- The field whose segment holds a byte of the reserve: its units of one segment are dealt to the fields in turn (R197; assumption
31). -/
def State.reserveField (s : State) (b : Nat) : Nat := b / s.segBytes % s.nFields

/-- An aperture access made now, its beats admitted (R200 to R202). A write that covers a word in part reads it first. -/
def State.apServe (s : State) (x : ApAccess) : State :=
  let n := if x.write then x.data.length else x.n
  let denied := s.satReg F.HP_APW_STAT_DENIED x.port
  let none_ := if x.write then denied else denied.emit .hostCpl x.port 0 (List.replicate n 0)
  match s.apTarget x.port x.off n x.write with
  | .denied => none_
  | .staging b =>
    let s := s.served (s.reserveField b) (beatCount b n)
    if x.write then { s with staging := s.staging.setList 0 b x.data }
    else s.emit .hostCpl x.port 0 ((SMap.getList 0 s.staging b n).map (·.toNat))
  | .segment f key a =>
    let t := s.tile f key
    if t.stackTagged a n then none_
    else if x.write then
      let s := (partialWords a n).foldl (fun s i => s.noteStack f key (8 * i) 8) s
      (s.setTile f key ((s.tile f key).putStack a (x.data.map (·.toNat)))).served f (2 * beatCount a n)
    else ((s.noteStack f key a n).served f (beatCount a n)).emit .hostCpl x.port 0 (t.stackBytes a n)

/-- The field whose stack controller an aperture access needs; none where it reaches none. -/
def State.apField (s : State) (x : ApAccess) : Option Nat :=
  match s.apTarget x.port x.off (if x.write then x.data.length else x.n) x.write with
  | .denied => none
  | .staging b => some (s.reserveField b)
  | .segment f _ _ => some f

/-- Whether an aperture access can be made now (R185, R202). -/
def State.apReady (s : State) (x : ApAccess) : Bool :=
  match s.apField x with
  | none => true
  | some f => s.admits f 4

/-- An aperture access of a port arrives: it is made at once, or waits behind the port's waiting ones or for admission (R202). -/
def State.apArrive (s : State) (x : ApAccess) : State :=
  if s.apReady x && !s.ldg.apWait.any (fun y => y.port = x.port) then s.apServe x
  else { s with ldg := { s.ldg with apWait := s.ldg.apWait ++ [x] } }

/-- APERTURE_READ: `n` bytes at a BAR4 offset of a port (R200 to R202, R445). -/
def execApertureRead (port : Fin 2) (off : BitVec 36) (n : Fin 4097) (ups : List (Addr × Upset)) (s : State) : Res :=
  if s.stackReset then .next (s.isoRead port.val)
  else .next ((s.upsets ups).apArrive ⟨port.val, off.toNat, false, n.val, []⟩)

/-- APERTURE_WRITE: bytes at a BAR4 offset of a port (R200 to R202, R445). -/
def execApertureWrite (port : Fin 2) (off : BitVec 36) (data : List (BitVec 8)) (s : State) : Res :=
  if s.stackReset then .next (s.satReg F.RST_ISO_HOST)
  else .next (s.apArrive ⟨port.val, off.toNat, true, data.length, data⟩)

/-- The first waiting access of each port, in order, as far as a field admits them (R185, R202). -/
def State.apDrain (f : Nat) : Nat → State → State
  | 0, s => s
  | n + 1, s =>
    let first := fun (x : ApAccess) => s.ldg.apWait.find? (fun y => y.port = x.port) = some x
    match s.ldg.apWait.find? (fun x => first x && (s.apField x = none || s.apField x = some f) && s.apReady x) with
    | none => s
    | some x => State.apDrain f n
        (({ s with ldg := { s.ldg with apWait := s.ldg.apWait.erase x } } : State).apServe x)

/-- NONSCHEDULED_BEAT (R185): a waiting beat of a class (0 feed and drain, 1 Base Camp, 2 core, 3 survey, 4 aperture) is
admitted where the rules allow; it waits otherwise. The waiting accesses of the aperture go on; a waiting core makes its access
by its own command. -/
def execNonscheduledBeat (f : Fin 48) (cls : Fin 5) (s : State) : Res :=
  let g := s.field f.val
  let n := g.waiting.getD cls.val 0
  if s.reg F.FLD_STK_REF_MODE f.val = 0 || !s.admits f.val cls.val then .next s
  else if cls.val = 4 then .next (s.apDrain f.val s.ldg.apWait.length)
  else if n = 0 then .next s
  else .next (s.updField f.val (fun g =>
    { g with waiting := g.waiting.set cls.val (n - 1), others := logBeats g.others s.acyc 1 }))

/-- The waiting aperture accesses are given up: reads complete with Completer Abort (R195, R445). -/
def State.apAbort (s : State) : State :=
  let s' := s.ldg.apWait.foldl (fun s x => if x.write then s.satReg F.RST_ISO_HOST else s.isoRead x.port) s
  { s' with ldg := { s'.ldg with apWait := [] } }

/-- APERTURE_TIMEOUT: an access of a port was not admitted within 1 ms: a waiting read ends with Completer Abort, a write is
discarded (R202). -/
def execApertureTimeout (port : Fin 2) (write : Bool) (s : State) : Res :=
  let s := s.satReg F.HP_APW_STAT_TIMEOUT port.val
  let l := s.ldg.apWait
  let s : State := match l.find? (fun x => x.port = port.val && x.write = write) with
    | some x => { s with ldg := { s.ldg with apWait := l.erase x } }
    | none => s
  .next (if write then s else s.emit .hostCpl port.val 4 [])

end Sys2Proof.Machine
end

