-- ==== Sys2Proof/Machine/Sections.lean ====
section
/-!
DEFINITION. Sys2Proof/Machine/Sections.lean: section switches, the start and end of invocations (spec
05_sections R156 to R170, R535).
-/

namespace Sys2Proof.Machine

/-! ### The standby load of a cold start (R170, R535) -/

/-- The one-bundle stream END: a set-up bundle with SEQ = END. -/
def endBundle : BitVec 128 := BitVec.ofNat 128 (2 ^ 127 + 2 ^ 85)

/-- The bundles of a stream from a segment address up to the beat that holds END, at most 512. -/
def Tile.stream (t : Tile) (a : Nat) : Nat → List (BitVec 128)
  | 0 => []
  | n + 1 =>
    let bs : List (BitVec 128) := (List.range 4).map (fun k =>
      packLe 128 [(t.stkWord (a / 8 + 2 * k)).read.data, (t.stkWord (a / 8 + 2 * k + 1)).read.data])
    if bs.any isEnd then bs else bs ++ t.stream (a + 64) n

/-- A stream in the standby store. -/
def Tile.fillStandby (t : Tile) (bs : List (BitVec 128)) : Tile :=
  let t := (List.range bs.length).foldl (fun t k => t.setStandby k (bs.getD k 0)) t
  { t with seq := { t.seq with stbyCount := bs.length, stbyValid := bs.any isEnd, sldBegun := false } }

/-- The cold-start load: tiles listed take their stream from the segment address given, with its code-word outcomes and in
TILE_CNT_3 (R86, R192), every other one END. -/
def State.coldLoad (s : State) (streams : List (Addr × BitVec 23)) : State :=
  let s := s.mapFields s.usedFields (fun t => t.fillStandby [endBundle])
  streams.foldl (fun s p => match s.locate p.1.toNat with
    | none => s
    | some (f, key) =>
      if s.mode f = 0 then s
      else
        let bs := (s.tile f key).stream p.2.toNat 128
        let s := s.noteStack f key p.2.toNat (16 * bs.length)
        s.setTile f key (((s.tile f key).fillStandby bs).count 3 (16 * bs.length))) s

/-! ### INVOCATION_START (R167 to R170, R189) -/

/-- The end acycle of the running invocation, and its LAST section. -/
def State.runEnd (s : State) : Nat := s.run.next + s.run.lens.sum
def State.lastSection (s : State) : Nat := s.run.section_ + s.run.lens.length

/-- Whether invocation `i` may chain onto the running one, named now (R169). -/
def State.chains (s : State) (m : Img) (i : Invocation) : Bool :=
  s.run.cur.isSome && i.start = s.runEnd && !s.run.invalid && decide (s.acyc + 4096 ≤ s.runEnd) &&
    (m.sect s.lastSection).preload = i.entry

/-- INVOCATION_START: the oldest issued invocation is named to the field controllers, chained onto the running one, or as a
cold start, for which Base Camp loads the streams whose stack addresses `streams` gives. An invocation that R167 refuses is
dropped, and so is one that is due while a port that the image uses is short (R231). -/
def execInvocationStart (streams : List (Addr × BitVec 23)) (s : State) : Res :=
  match s.image, s.invq with
  | some m, i :: rest =>
    if s.run.nxt.isSome then .next s
    else if s.usedShort then .next { s with invq := rest }
    else
      match m.lengths i.params (m.sections + 1) (m.entrySec i.entry) with
      | none => .next ({ s with invq := rest }.setReg F.BC_IMG_STATUS_REASON 0x11)
      | some ls =>
        if s.chains m i then
          .next { s with
            invq := rest
            run := { s.run with nxt := some (i, false, ls) }
            rope := { s.rope with startedSince := true } }
        else if s.run.cur.isNone && decide (s.acyc ≤ i.start) then
          let s := s.coldLoad streams
          .next ({ s with
            invq := rest
            run := { s.run with nxt := some (i, true, ls) }
            rope := { s.rope with startedSince := true } }.setReg F.BC_IMG_STATUS_STATE 3)
        else .next s
  | _, _ => .next s

/-! ### SECTION_SWITCH (R157, R161, R162) -/

/-- The faults of the unlisted tiles at a switch, which all record the same: the first 64 are reported and the rest
counted as lost (R477). -/
def State.baseFaults (s : State) (f : Nat) (codes : List Nat) (acyc : Nat) : State :=
  if codes.isEmpty then s
  else
    let ks := (((List.range 16384).map (fun i => s.keyAt f (i % 128) (i / 128))).filter
      (fun k => !(s.field f).tiles.any (fun e => e.1 = k)))
    let s := (ks.take 64).foldl (fun s k => codes.foldl (fun s c => s.tileReport f k c acyc true) s) s
    s.satReg F.FLT_STATUS_LOST 0 ((ks.length - 64) * codes.length)

/-- The switch of one field (R161, R168, R519). -/
def State.switchField (s : State) (f : Nat) (d : SwitchTo) (e : Sect) (ending : Bool) : State :=
  let params := d.entry.map (fun p => p.1.params)
  let cold := match d.entry with
    | some (_, c) => c
    | none => false
  let work := fun (t : Tile) =>
    (TW.start (if ending then t.countFlagged else t) d.w).switchTo d.section_ (BitVec.ofNat 4 e.colour) e.gap cold params
  let g := s.field f
  let acyc := d.w - g.secStart
  let bw := work g.logical
  let bad := !bw.faults.isEmpty || g.tiles.any (fun p => (s.position f p.1).isSome && !(work p.2).faults.isEmpty)
  let keys := (g.tiles.filter (fun p => (s.position f p.1).isSome)).map (·.1)
  let olds := keys.map (fun k => (k, s.tile f k))
  let s := s.updField f (fun g => { g with logical := bw.t })
  let s := olds.foldl (fun s p => s.absorb f p.1 (work p.2)) s
  let s := s.baseFaults f bw.faults.reverse acyc
  let s := if bad then s.invalidate else s
  let decl := s.declared f d.section_
  let s := s.updField f (fun g => { g with
    live := true
    secStart := d.w
    missed := false
    decls := (if g.live then [⟨g.secStart, d.w, s.reg F.FLD_STK_USE_DECL f⟩] else []) ++
      g.decls.filter (fun x => decide (d.w < x.end_ + 2200))
    window := none
    cascade := 0 })
  let s := ((s.setReg F.FLD_STK_USE_DECL decl f).setReg F.FLD_STK_USE_PEAK 0 f).setReg F.FLD_STK_REF_MODE 2 f
  let s := ((s.setReg F.FLD_SEC_SECTION d.section_ f).setReg F.FLD_SEC_COLOUR e.colour f).setReg F.FLD_INV_LEN d.len f
  let s := if d.entry.isSome then s.setReg F.FLD_INV_INVOCATION (s.run.count + 1) f else s
  let s := (List.range 15).foldl (fun s k =>
    let i := 14 - k
    ((((s.setReg F.FLD_TRACE_SECTION (s.reg F.FLD_TRACE_SECTION f i) f (i + 1)).setReg F.FLD_TRACE_COLOUR
      (s.reg F.FLD_TRACE_COLOUR f i) f (i + 1)).setReg F.FLD_TRACE_INV (s.reg F.FLD_TRACE_INV f i) f (i + 1)).setReg
      F.FLD_TRACE_FAULTED (s.reg F.FLD_TRACE_FAULTED f i) f (i + 1)).setReg F.FLD_TRACE_ACYC
      (s.reg F.FLD_TRACE_ACYC f i) f (i + 1)) s
  ((((s.setReg F.FLD_TRACE_SECTION d.section_ f 0).setReg F.FLD_TRACE_COLOUR e.colour f 0).setReg F.FLD_TRACE_INV
    (s.reg F.FLD_INV_INVOCATION f % 2048) f 0).setReg F.FLD_TRACE_FAULTED (b2n bad) f 0).setReg F.FLD_TRACE_ACYC
    (d.w % 2 ^ 32) f 0

/-- The words due before a switch arrive. -/
def State.arriveAll (s : State) (now : Nat) : State :=
  let due := s.links.filter (fun l => decide (l.due < now))
  due.foldl (fun s l => s.arriveWord l 0 false) { s with links := s.links.filter (fun l => !decide (l.due < now)) }

/-- The landings before the end of a section at acycle `now`: an SLD due in `now` itself does not land (R162). Flag words that
complete in `now` still join the ending section's flags (assumption 17). -/
def Tile.settle (t : Tile) (now : Nat) : Tile :=
  let last := fun (b : Beat) => b.sld && b.due = now
  let t' := ({ t with beats := t.beats.filter (fun b => !last b) }.startAcycle now).dropOldBeats now
  { t' with beats := t'.beats ++ t.beats.filter last }

/-- The landings before a switch in every tile of a field. -/
def State.settle (s : State) (f now : Nat) : State := s.mapTiles f (·.settle now)

/-- The refresh step that every field's controller completes within the 4,096 acycles before an entry switch that is not chained
(R189). -/
def State.coldRefresh (s : State) : State :=
  s.allFields.foldl (fun s f => if s.reg F.FLD_STK_REF_MODE f = 0 then s else s.refreshStep f) s

/-- Whether a field takes a switch (R157, R521): not in reset, its counter running, and, where it has missed a switch, only at
the entry of a cold start. -/
def State.switches (s : State) (cold : Bool) (f : Nat) : Bool :=
  !s.inReset f && !(s.field f).stopped && (cold || !(s.field f).missed)

/-- The used fields that are in reset miss a switch (R157). -/
def State.missSwitch (s : State) : State :=
  s.usedFields.foldl (fun s f => if s.inReset f then s.updField f (fun g => { g with missed := true }) else s) s

/-- SECTION_SWITCH: the next switch of the running or starting invocation (R157, R161). A field in reset takes no switch; the
entry switch waits for a tile scan to end (R521). -/
def execSectionSwitch (s : State) : Res :=
  match s.image, s.switchNext with
  | some m, some d =>
    if d.entry.isSome && s.usedFields.any (fun f => s.trust.scanning.contains f) then .next s
    else
    let e := m.sect d.section_
    let ending := s.run.cur.isSome
    let s := (s.arriveAll d.w).advance d.w
    let cold := match d.entry with
      | some (_, c) => c
      | none => false
    let s := if cold then s.coldRefresh else s
    let fs := s.usedFields.filter (s.switches cold)
    let s := fs.foldl (fun s f => (s.settle f d.w).switchField f d e ending) s.missSwitch
    let run := match d.entry with
      | some (i, _) =>
        let ended := match s.run.cur with
          | some c => (c.seqNo, d.w) :: s.run.ended
          | none => s.run.ended
        { s.run with cur := some i, nxt := none, count := s.run.count + 1, ended := ended, invalid := false }
      | none => s.run
    let s := { s with run := { run with
      section_ := d.section_
      len := d.len
      next := d.w + d.len
      last := e.last
      lens := d.lens } }
    let old := s.rope.insts.filter (fun x => decide (d.w < x.start + x.len + 131072))
    let seqNo := (s.run.cur.map (·.seqNo)).getD 0
    let s := { s with rope := { s.rope with insts := ⟨d.section_, d.w, d.len, seqNo⟩ :: old } }
    .next (if d.entry.isSome then
      (List.range 6).foldl (fun s p => s.setReg F.HX_SCHED_PEAK 0 p) s else s)
  | _, _ => .next s

/-! ### INVOCATION_END (R169, R189) -/

/-- VU_FLAGS_TILE of a tile without its count (R94). -/
def Tile.flagsTile (t : Tile) : Nat :=
  t.reg F.VU_FLAGS_TILE_VU + 2 ^ 8 * t.reg F.VU_FLAGS_TILE_MXU + 2 ^ 16 * t.reg F.VU_FLAGS_TILE_SCLNAN +
    2 ^ 17 * t.reg F.VU_FLAGS_TILE_T2RSV

/-- VU_FLAGS_TILE ORed over the tiles of the used fields. -/
def State.flagsOr (s : State) : Nat :=
  s.usedFields.foldl (fun v f => (s.field f).tiles.foldl (fun v e => v ||| e.2.flagsTile) (v ||| (s.field f).logical.flagsTile)) 0

/-- The end of a standalone test's invocation (R398, R399): its results are the flags, the last fault code and two zero bytes;
a burn-in whose time has not passed runs again. -/
def State.endTest (s : State) (q : Nat) : State :=
  match s.dict.test with
  | none => s
  | some t =>
    if !t.issued || t.seqNo ≠ q then s
    else
      let res := bytesLe 4 s.flagsOr ++ bytesLe 2 (s.reg F.FLT_STATUS_LAST) ++ [0, 0]
      let more : Bool := match t.until_ with
        | some e => decide (s.ref < e)
        | none => false
      let s : State := { s with dict := { s.dict with
        results := res
        test := if more then some { t with issued := false } else none } }
      if more then s else { s with dict := { s.dict with cmdStatus := s.dict.cmdStatus.set 0 (odKey 0x2600 1) 0 } }

/-- INVOCATION_END: the end acycle of the LAST section comes with no chained invocation. One that was named, and that a fault may
not let chain, starts cold later (R169). -/
def execInvocationEnd (s : State) : Res :=
  match s.run.cur with
  | none => .next s
  | some i =>
    if !s.run.last || (s.run.nxt.isSome && !s.run.invalid) then .next s
    else
      let w := s.run.next
      let s := (s.arriveAll w).advance w
      let s := s.mapFields s.usedFields (fun t => (t.settle w).countFlagged)
      let s := s.usedFields.foldl State.stopLive s
      let back := match s.run.nxt with
        | some (j, _) => [j]
        | none => []
      let s := { s with
        invq := back ++ s.invq
        run := { s.run with
          cur := none
          nxt := none
          last := false
          lens := []
          invalid := false
          ended := (i.seqNo, w) :: s.run.ended } }.setReg F.BC_IMG_STATUS_STATE 2
      .next (s.endTest i.seqNo)

end Sys2Proof.Machine
end

