-- ==== Sys2Proof/Machine/InstallOps.lean ====
section
/-!
DEFINITION. Sys2Proof/Machine/InstallOps.lean: what Base Camp writes into tiles: the bloom (R392), an image (R177, R178) and the
restoration of a field; and what a reset level clears in a tile (R84).
-/

namespace Sys2Proof.Machine

/-! ### The bloom (R392) -/

/-- The listed bytes of a range of a byte string, as a byte memory that starts at the range. -/
def blobMem (b : Blob) (off n : Nat) (old : SMap Byte) : SMap Byte :=
  (b.cells.filter (fun c => decide (off ≤ c.1 ∧ c.1 < off + n))).foldr (fun c m => m.set 0 (c.1 - off) c.2)
    (old.keep (fun k => decide (n ≤ k)))

/-- The tag-to-handler table that 4 KiB of a byte string spell (R213). -/
def tagTableOf (b : Blob) (off : Nat) : SMap TagEntry :=
  (b.cells.filter (fun c => decide (off ≤ c.1 ∧ c.1 < off + 4096))).foldr (fun c m =>
    let i := (c.1 - off) / 4
    let w := b.le (off + 4 * i) 4
    m.set TagEntry.zero i ⟨bitOf w 31, BitVec.ofNat 16 (bits w 0 16)⟩) []

/-- The 12 KiB that a tile's bloom check covers: the instruction store and the tag table. -/
def CCore.bloomBytes (c : CCore) : List Nat :=
  (List.range 8192).map (fun i => (c.imem.get 0 i).toNat) ++
    (List.range 1024).flatMap (fun i =>
      let e := c.tags.get TagEntry.zero i
      bytesLe 4 (e.handler.toNat + 2 ^ 31 * b2n e.valid))

/-- The tile firmware's instruction store, table and CRC written: the check starts (R392). -/
def Tile.bloomLoad (fw : Blob) (t : Tile) : Tile :=
  let c := { t.core with imem := blobMem fw 0 8192 [], tags := tagTableOf fw 8192 }
  { (({ t with core := c }).setReg F.CC_BLOOM_CRC (crc32c c.bloomBytes)).setReg F.CC_BLOOM_OK 0 with bloom := true }

/-- The end of a tile's check; `good` says that its memories hold what was written. -/
def Tile.bloomEnd (good : Bool) (t : Tile) : Tile :=
  if !t.bloom then t
  else { t.setReg F.CC_BLOOM_OK (b2n (good && decide (crc32c t.core.bloomBytes = t.reg F.CC_BLOOM_CRC))) with bloom := false }

/-- Every tile of a field changed but those that the crevasse map lists as dead. -/
def State.mapLive (s : State) (f : Nat) (g : Tile → Tile) : State :=
  let dead := (s.crev f).dead
  dead.foldl (fun s' k => s'.setTile f k (s.tile f k)) (s.mapTiles f g)

/-- How many tiles of a field pass a test. -/
def State.countTiles (s : State) (f : Nat) (p : Tile → Bool) : Nat :=
  let g := s.field f
  let ls := (g.tiles.filter (fun e => (s.position f e.1).isSome)).length
  (if p g.logical then 16384 - ls else 0) + (if p g.spare then 1040 - (g.tiles.length - ls) else 0) +
    (g.tiles.filter (fun e => p e.2)).length

/-- The tiles of a field that pass a test, by key. -/
def State.keysWith (s : State) (f : Nat) (p : Tile → Bool) : List Nat :=
  (List.range 17424).filter (fun k => p (s.tile f k))

/-- The bloom of a field begins: the firmware is written into every tile that is not dead. -/
def State.bloomField (s : State) (f : Nat) : State :=
  let s := s.mapLive f (Tile.bloomLoad s.pw.tileFw)
  (((s.setReg F.FLD_BLOOM_EXPECT (17424 - (s.crev f).dead.length) f).setReg F.FLD_BLOOM_OKCOUNT 0 f).setReg
    F.FLD_BLOOM_ATTEMPTS 1 f).setReg F.FLD_BLOOM_DONE 0 f

/-- A confirmed field's control cores receive CC_CMD RUN, unless a reset holds them for a replay (R392, R442). -/
def State.confirm (s : State) (f : Nat) : State :=
  let s := s.setReg F.FLD_BLOOM_DONE 1 f
  if s.rst.active && s.rst.replay then s else s.mapLive f (fun t => t.cmdRun s.acyc)

/-- When no check of a field is under way: it is confirmed, or its failing tiles are rewritten, or after three attempts
recorded as permanent (R392). -/
def State.bloomSettle (s : State) (f : Nat) : State :=
  if s.reg F.FLD_BLOOM_DONE f = 1 || s.reg F.FLD_BLOOM_ATTEMPTS f = 0 || s.countTiles f (·.bloom) ≠ 0 then s
  else if s.reg F.FLD_BLOOM_EXPECT f ≤ s.reg F.FLD_BLOOM_OKCOUNT f then s.confirm f
  else if s.reg F.FLD_BLOOM_ATTEMPTS f < 3 then
    (s.mapLive f (fun t => if t.reg F.CC_BLOOM_OK = 1 then t else t.bloomLoad s.pw.tileFw)).addReg F.FLD_BLOOM_ATTEMPTS f
  else
    let dead := (s.crev f).dead
    let bad := (s.keysWith f (fun t => t.reg F.CC_BLOOM_OK ≠ 1)).filter (fun k => !dead.contains k)
    let s := bad.foldl (fun s k => s.permanent f k 1) s
    (s.setReg F.FLD_BLOOM_EXPECT (17424 - (s.crev f).dead.length) f).confirm f

/-- Every check of a field that is under way ends, with memories that hold what was written. -/
def State.bloomFinish (s : State) (f : Nat) : State :=
  let once := fun (s : State) =>
    let s := s.mapTiles f (Tile.bloomEnd true)
    (s.setReg F.FLD_BLOOM_OKCOUNT (s.countTiles f (fun t => t.reg F.CC_BLOOM_OK = 1)) f).bloomSettle f
  if s.reg F.FLD_BLOOM_ATTEMPTS f = 0 || s.reg F.FLD_BLOOM_DONE f = 1 then s else once (once (once s))

/-! ### Reset levels in a tile (R84) -/

/-- The tile register fields whose reset domain a level reaches read as their reset value again (R13, R444). -/
def tileRegReset (m : RegFile) (lvl : Nat) : RegFile :=
  m.resetRegs (fun k => match findReg tileRegTable (k / 64) with
    | some (r, _) => decide (r.dom ≤ lvl)
    | none => false)

/-- A tile after a reset at a level (R84, R434). The incarnation bit of its message interface flips at the release
(R221). -/
def Tile.reset (lvl : Nat) (t : Tile) : Tile :=
  let c0 := { t.core with mboxReady := false, mboxId := 0, mboxValue := 0 }
  let t0 := { t with
    seq := Seq.zero
    mxu := Mxu.zero
    vu := Vu.zero
    rtr := Rtr.zero
    beats := []
    posted := []
    core := c0
    regs := tileRegReset t.regs lvl }
  let t1 := if lvl = 0 then t0 else
    { t0 with
      handles := []
      shadows := []
      core := { CCore.zero with imem := c0.imem, tags := c0.tags }
      msg := { MsgIf.zero with inc := t.msg.inc }
      test := none }
  let t2 := if lvl < 2 then t1 else
    { t1 with
      core := CCore.zero
      store0 := []
      store1 := []
      scratch := []
      scrOp := .none
      bloom := false }
  if lvl < 4 then t2 else Tile.zero

/-! ### Writing an image (R177, R178, R473) -/

/-- A tile halted with both bundle stores invalid (R177 step 1). -/
def Tile.haltStores (t : Tile) : Tile :=
  { t with seq := { t.seq with
    state := .halt
    cmdArm := false
    actValid := false
    stbyValid := false
    sldBegun := false } }

/-- Words written over the first `n` words of a memory, with a tag: listed bytes of the image from `off`. -/
def Img.words (m : Img) (off n : Nat) (tag : BitVec 4) (old : SMap CWord) : SMap CWord :=
  (List.range n).foldl (fun r i => r.set CWord.zero i ⟨BitVec.ofNat 64 (m.u (off + 8 * i) 8), tag, 0⟩) old

/-- The three flow masks of a role written into a tile (R216, R217). -/
def Tile.putMasks (m : Img) (r : Nat) (t : Tile) : Tile :=
  (List.range 16).foldl (fun t j =>
    let w := fun (k : Nat) => bits (m.flow r k) (64 * j) 64
    ((t.setReg F.MSG_FLOW_OUT_MASK (w 0) j).setReg F.MSG_FLOW_IN_MASK (w 1) j).setReg F.MSG_FLOW_RPL_MASK (w 2) j) t

/-- Program, tag table, handles and flow masks of role `r` written into a tile (R177 step 3, R217). -/
def Tile.putRole (m : Img) (r : Nat) (tag : BitVec 4) (t : Tile) : Tile :=
  let ro := m.role r
  let prog := if ro.progLen = 0 then t.core.imem else blobMem m.blob ro.prog ro.progLen t.core.imem
  ({ t with
    handles := m.handles ro tag
    core := { t.core with imem := prog, tags := tagTableOf m.blob ro.tags } } : Tile).putMasks m r

/-- A tile after steps 3 and 4 of R177. -/
def Tile.putImage (m : Img) (e : TDir) (tag : BitVec 4) (t : Tile) : Tile :=
  let t := t.putRole m e.role tag
  { t with
    stack := m.words e.payload (e.stackBytes / 8) tag t.stack
    scratch := m.words (e.payload + e.stackBytes) (e.scratchBytes / 8) tag t.scratch }

/-- A tile whose handles, scratch image and RES contents are rewritten from the image (R450, R473). -/
def Tile.putField (m : Img) (e : TDir) (tag : BitVec 4) (t : Tile) : Tile :=
  let hs := m.handles (m.role e.role) tag
  let res := (hs.map (·.2)).filter (fun h => h.valid && h.stackSpace && h.res)
  let sc := m.words (e.payload + e.stackBytes) (e.scratchBytes / 8) tag []
  let stk := res.foldl (fun st h => (List.range (h.length.toNat / 8)).foldl (fun st i =>
    let a := h.base.toNat / 8 + i
    let d := if 8 * a + 8 ≤ e.stackBytes then m.u (e.payload + 8 * a) 8 else 0
    st.set CWord.zero a ⟨BitVec.ofNat 64 d, tag, 0⟩) st) t.stack
  { t with handles := hs, shadows := [], scratch := sc, stack := stk }

/-- Work done on every logical tile of a used field by its directory entry: the unlisted entries are all zero. -/
def State.byDir (s : State) (m : Img) (f : Nat) (g : TDir → Tile → Tile) : State :=
  let e0 : TDir := ⟨0, 0, 0, 0⟩
  let b := g e0 (s.field f).logical
  let r := 16384 * m.fieldRank f
  let ks := (m.tdirIxs.filter (fun i => decide (r ≤ i ∧ i < r + 16384))).map (fun i =>
    (s.keyAt f ((i - r) % 128) ((i - r) / 128 % 128), m.tdirAt i))
  let old := s.field f
  let ls := old.tiles.map (fun p => (p.1, if (s.position f p.1).isSome then
    (match ks.find? (fun k => k.1 = p.1) with
      | some k => g k.2 p.2
      | none => g e0 p.2) else p.2))
  let new := (ks.filter (fun k => !old.tiles.any (fun p => p.1 = k.1))).map (fun k => (k.1, g k.2 old.logical))
  let s := s.updField f (fun fs => { fs with logical := b, tiles := [] })
  (ls ++ new).foldl (fun s p => s.setTile f p.1 p.2) s

/-- Steps 1 and 2 of R177 and the IDLE state of step 6: on every field but those held out, and by REMOVE on every field (R178). The
bundle indices and open loops of an IDLE tile are cleared too, which the manual does not say (assumption 47). -/
def State.clearArray (s : State) (every : Bool := false) : State :=
  let fs := s.allFields.filter (fun f => every || !s.heldOut f)
  let s := s.mapFields s.allFields (fun t => t.haltStores.zeroScratch)
  s.mapFields fs (fun t => { t with seq := { t.seq with state := .idle, colour := 0, pc := 0, nextPc := 0, loops := [] } })

/-- A range of the staging area zeroized. -/
def State.wipeStaging (s : State) (off n : Nat) : State :=
  { s with staging := s.staging.keep (fun k => decide (k < off) || decide (off + n ≤ k)) }

/-- The commit of an image into the tiles: R177 steps 1 to 4 and 6 (R178). -/
def State.commitImage (s : State) (m : Img) (tag : BitVec 4) : State :=
  let s := s.clearArray
  (s.allFields.filter m.uses).foldl (fun s f => s.byDir m f (fun e => Tile.putImage m e tag)) s

/-- The installed image's registers. -/
def State.imageRegs (s : State) (m : Img) (dfloor : Nat) : State :=
  let s := ((s.setReg F.BC_IMG_STATUS_STATE 2).setReg F.BC_IMG_STATUS_DFLOOR dfloor).setReg F.BC_IMG_STATUS_BUILD m.build
  (s.setReg F.BC_IMG_ID_LO_ID m.idLo).setReg F.BC_IMG_ID_HI_ID m.idHi

/-- The reinstallation of R178 from the image copy, once the power check of R427 has passed. A copy that has been lost fails it
(R499). -/
def State.reinstall (s : State) : State :=
  match s.copy with
  | none => ({ s with image := none } : State).setReg F.BC_IMG_STATUS_STATE 0
  | some m =>
    match m.dfloor (s.od 0x2410 2) (s.od 0x2410 1) s.pmin2 with
    | none => (({ s with image := none }.clearArray).setReg F.BC_IMG_STATUS_STATE 5).setReg F.BC_IMG_STATUS_REASON 0x0C
    | some d => (({ s with image := some m }).commitImage m (BitVec.ofNat 4 s.tenant)).imageRegs m d

/-- Handles, scratch images and RES contents of one field from the image copy (R450, R473). -/
def State.reloadField (s : State) (f : Nat) : State :=
  match s.copy with
  | none => s
  | some m => if s.mode f = 0 then s else s.byDir m f (fun e => Tile.putField m e (BitVec.ofNat 4 s.tenant))

end Sys2Proof.Machine
end

