-- ==== Sys2Proof/Machine/ResetOps.lean ====
section
/-!
DEFINITION. Sys2Proof/Machine/ResetOps.lean: a reset request and what it does at once, and the steps of a release (spec 14_reset
R428 to R452).
-/

namespace Sys2Proof.Machine

/-- The level in force of a reset source (R429). -/
def State.sourceLevel (s : State) (source : Nat) : Nat := s.odEff 0x3000 (source + 1)

/-- The first step of a release at a level (R441). -/
def firstStep (lvl : Nat) : Nat := if lvl = 0 then 7 else if lvl = 1 then 5 else if lvl = 2 then 4 else if lvl = 3 then 2 else 1

/-- The fields of a scope. -/
def State.scope (s : State) (all : Bool) (fields : Nat) : List Nat :=
  s.allFields.filter (fun f => all || bitOf fields f)

/-- A mask of the fields that pass a test. -/
def State.fieldMask (s : State) (p : Nat → Bool) : Nat :=
  ((s.allFields.filter p).map (fun f => 2 ^ f)).foldl (· + ·) 0

/-- RST_STATE follows the controller. -/
def State.syncRst (s : State) : State :=
  let s := ((s.setReg F.RST_STATE_ACTIVE (b2n s.rst.active)).setReg F.RST_STATE_LEVEL (if s.rst.active then s.rst.level else 0))
  let s := (s.setReg F.RST_STATE_HOLD (b2n s.rst.hold.isSome)).setReg F.RST_STATE_STEP s.rst.step
  s.setReg F.RST_STATE_FIELDS (s.fieldMask s.inReset)

/-! ### History and cause (R452, R451) -/

/-- A request enters the history. -/
def State.pushHist (s : State) (q : RstReq) (merged : Bool) : State :=
  let fs := [F.RST_HIST_I_FIELDS, F.RST_HIST_I_VALID, F.RST_HIST_I_MERGED, F.RST_HIST_I_ALL, F.RST_HIST_I_SOURCE,
    F.RST_HIST_I_LEVEL, F.RST_HIST_I_QUAL, F.RST_HIST_T_TIME]
  let s := (List.range 15).foldl (fun s k =>
    fs.foldl (fun s f => s.setReg f (s.reg f 0 (14 - k)) 0 (15 - k)) s) s
  let s := ((s.setReg F.RST_HIST_I_FIELDS q.fields).setReg F.RST_HIST_I_VALID 1).setReg F.RST_HIST_I_MERGED (b2n merged)
  let s := ((s.setReg F.RST_HIST_I_ALL (b2n q.all)).setReg F.RST_HIST_I_SOURCE q.source).setReg F.RST_HIST_I_LEVEL q.level
  (s.setReg F.RST_HIST_I_QUAL q.qual).setReg F.RST_HIST_T_TIME s.ref

/-- RST_CAUSE shows a reset: of merged requests the one of the highest level, and of two in one refcycle at one level the lower
source code (R451). A merged reset counts once. `all` and `fields` are the merged scope; `first` says that no reset was in
progress, `same` that the request before came in this refcycle. -/
def State.setCause (s : State) (q : RstReq) (first same all : Bool) (fields : Nat) : State :=
  let lv := s.reg F.RST_CAUSE_LEVEL
  let s := if first then s.satReg F.RST_CAUSE_COUNT else s
  let s := if first || decide (lv < q.level) || (same && q.level = lv && decide (q.source < s.reg F.RST_CAUSE_SOURCE)) then
    ((s.setReg F.RST_CAUSE_QUAL q.qual).setReg F.RST_CAUSE_SOURCE q.source).setReg F.RST_CAUSE_LEVEL q.level else s
  (s.setReg F.RST_CAUSE_SCOPED (b2n !all)).setReg F.RST_CAUSE_SCOPE_FIELDS fields

/-! ### What a level clears (R434, R444) -/

/-- FLD_SEAM_E and FLD_SEAM_N hold REPAIRED and DEFECT in bits 16 to 47: the crevasse map gives them, through every reset
(R155). -/
def seamMapKey (k : Nat) : Bool :=
  decide (0x100000 * 64 ≤ k ∧ k < 0x1C0000 * 64) && (k / 64 % 0x4000 = 0x100 || k / 64 % 0x4000 = 0x108) &&
    decide (16 ≤ k % 64 ∧ k % 64 < 48)

/-- BAR0 fields whose reset domain a level reaches read as their reset value: those of the fields in scope, and with the
whole module every other register. -/
def State.clearRegs (s : State) (lvl : Nat) (all : Bool) (fs : List Nat) : State :=
  { s with regs := s.regs.resetRegs (fun k =>
    let off := k / 64
    let mine := if 0x100000 ≤ off ∧ off < 0x1C0000 then fs.contains ((off - 0x100000) / 0x4000) else all
    mine && !seamMapKey k && (match findReg bar0RegTable off with
      | some (r, _) => decide (r.dom ≤ lvl)
      | none => false)) }

/-- After an L3, HX_STATUS shows DOWN at the ports that HX_CTRL enables, and DISABLED at the others (R228, R266). -/
def State.keepDisabled (s : State) : State :=
  (List.range s.nPorts).foldl (fun (s : State) p => if s.reg F.HX_CTRL_EN p = 0 then s.setReg F.HX_STATUS_STATE 0 p else s) s

/-- After an L3, CLK_DIV shows the needs that still stand; the host's went with HOSTREQ (R461, R465). -/
def State.keepNeeds (s : State) : State := { s with pw := { s.pw with needs := s.pw.needs.set 0 4 0 } }.showNeeds

/-- A queued request with RPL = 1 of a tile in a reset of level L1 is answered UNAVAILABLE (R221). -/
def Tile.dropQueue (t : Tile) (now : Nat) : List Packet :=
  ((TW.start { t with core := { t.core with inHand := none } } now).answerAll 3).pkts

/-- A field enters a reset at a level: its tiles, packets, words and schedule logs. -/
def State.clearField (s : State) (f lvl : Nat) : State :=
  let g := s.field f
  let s := if 1 ≤ lvl && g.clearAt.isSome then s.clearTel f else s
  let ans := if lvl = 0 then [] else g.tiles.flatMap (fun e => (e.2.dropQueue s.acyc).map (fun q => (⟨s.pairAt f e.1, s.pairAt f e.1, q⟩ : Flight)))
  let s := s.mapTiles f (Tile.reset lvl)
  let s := s.stopLive f
  if lvl = 0 then s
  else
    let s := { s with
      pkts := s.pkts.filter (fun (x : Flight) => pairField x.at_ ≠ f) ++ ans
      links := s.links.filter (fun l => l.seam || (match s.locate l.dest with
        | some (h, _) => h ≠ f
        | none => true)) }
    let s := s.updField f (fun g => { g with
      secStart := 0
      beats := []
      others := []
      decls := []
      window := none
      forced := none
      stopped := false
      samples := []
      belay := []
      excess := none
      coreWait := []
      waiting := if lvl < 2 then g.waiting else [0, 0, 0, 0, 0] })
    s.setLock f false

/-- A port's in-flight writes to its host are discarded: the records are to be written again, to the same slots (R328). -/
def State.dropFlying (s : State) (port : Nat) : State :=
  let rs := s.ldg.rings.filter (fun e => e.1 / 64 = port)
  rs.foldl (fun s e =>
    let r := e.2
    let lost := r.slots.drop (r.slots.length - r.flying)
    let r' : Ring := { r with slots := r.slots.take (r.slots.length - r.flying), flying := 0, due := false, redo := lost ++ r.redo }
    let s := { s with ldg := { s.ldg with rings := s.ldg.rings.set Ring.zero e.1 r' } }
    lost.foldl (fun s k =>
      let ss := s.ldg.sessions.upd Session.zero k.1 (fun x =>
        { x with recs := x.recs.map (fun c =>
          if c.port = port && c.ring = e.1 % 64 && c.seqNo = k.2.1 && c.index = k.2.2.1 && c.noToken = k.2.2.2 then { c with place := 1 } else c) })
      { s with ldg := { s.ldg with sessions := ss } }) s) s

/-- The link and function of a host port are reset: the L3 registers of its block, its IDE keys, its writes in flight
(R328, R365). -/
def State.hostDown (s : State) (port : Nat) : State :=
  let s := s.dropFlying port
  let s := { s with
    trust := { s.trust with
      ide := s.trust.ide.keep (fun k => decide (k / 3 ≠ port))
      conns := s.trust.conns.keep (fun k => decide (k ≠ port ∧ k ≠ port + 3)) }
    ldg := { s.ldg with msix := s.ldg.msix.keep (fun k => decide (k / 2048 ≠ port)) } }
  { s with regs := s.regs.resetRegs (fun k =>
    let off := k / 64
    decide (off / 0x10000000 = port ∧ off % 0x10000000 / 0x1000 = 0x80) &&
      (match findReg bar0RegTable off with
        | some (r, _) => decide (r.dom ≤ 3)
        | none => false)) }

/-- What an L2 or L3 of the module does to its rope: a rope of one restores at the release, and a member of a larger rope goes
through PREPARE again (R321). Triggers reported before it ask for nothing more in a rope of one. -/
def State.ropeCut (s : State) : State :=
  let st := s.ropeState
  let s := { s with rope := { s.rope with start := none, ready := false } }
  if s.solo && decide (3 ≤ st ∧ st ≤ 6) then
    { (s.setRopeState 6) with reports := s.reports.map (fun r => { r with trig := false }) }
  else if !s.solo && decide (2 ≤ st ∧ st ≤ 6) then
    { s.setRopeState 1 with rope := { s.rope with rejoin := true } }
  else s

/-- The Base Camp cores run again: the lease timers go on from where they stopped. -/
def State.bcResume (s : State) : State :=
  if !s.trust.halted then s
  else
    let d := s.ref - s.trust.haltAt
    { s with
      trust := { s.trust with halted := false, haltAt := 0 }
      ldg := { s.ldg with lease := s.ldg.lease.map (fun e => (e.1, e.2 + d)) } }

/-- A reset in the commit phase of an INSTALL, before step 5 of R177: no image is installed, and the staging range is zeroized
(R451, R372). -/
def State.cutInstall (s : State) : State :=
  if s.pendingImg.isNone then s
  else { s.wipeStaging 0 (s.reg F.BC_IMG_CMD_LENGTH) with pendingImg := none, image := none, copy := none }.setReg F.BC_IMG_STATUS_STATE 0

/-- Everything but fields that a level clears in the whole module. -/
def State.clearModule (s : State) (lvl : Nat) : State :=
  let s := s.restartKeys 0
  let s := { s with run := { Run.zero with count := s.run.count, ended := s.run.ended }, acyc := 0, invq := [] }
  let s := if s.reg F.BC_IMG_STATUS_STATE = 3 then s.setReg F.BC_IMG_STATUS_STATE 2 else s
  let s := { s with rope := { s.rope with
    capture := none
    engines := []
    windows := []
    insts := []
    slotA := if s.rope.slotA.state = 1 then { s.rope.slotA with content := [] } else s.rope.slotA
    slotB := if s.rope.slotB.state = 1 then { s.rope.slotB with content := [] } else s.rope.slotB } }
  let s := { s.setReg F.BC_ROPE_CKP_CAPTURING 0 with pw := { s.pw with anns := [] } }
  if lvl < 2 then s
  else
    let s := (List.range 6).foldl (fun s p => s.updPort p (fun g =>
      { g with landing := [], edge := [], tx := g.tx.keep (fun k => decide (k ≠ 1)) })) s
    let s := s.apAbort.ropeCut
    let s := if s.copy.isSome || s.image.isSome then s.setReg F.BC_IMG_STATUS_STATE 4 else s
    let s := { s with ldg := { s.ldg with accepting := [] } }
    if lvl < 3 then s
    else
      let s := (List.range s.nPorts).foldl (fun s p => s.portDown p) s
      let s := ((s.hostDown 0).hostDown 1).bcResume
      let s := (s.setReg F.BC_DBG_CMD_SCOPE 0).setReg F.BC_TRUST_STATUS_DEBUG 0
      { s with
        ports := []
        pw := { s.pw with goal := 16 }
        bcl := BcLink.zero
        trust := { s.trust with unlockEnd := none, scanning := [], tap := .idcode } }

/-- A cold start: everything is lost but what fuses, flash and the pins keep (R434, R440). -/
def State.coldStart (s : State) (source : Nat) : State :=
  let z : State := { State.reset with
    fuse := s.fuse
    log := { s.log with buffered := 0, lost := false, charges := [] }
    dict := { DictSt.zero with stored := s.dict.stored, slots := s.dict.slots, badSlots := s.dict.badSlots }
    pw := { Pw.zero with pwrEn := s.pw.pwrEn, leakLow := s.pw.leakLow, trayWet := s.pw.trayWet, sel := s.pw.sel, excursions := s.pw.excursions,
                         firstB := s.pw.firstB, flashA := s.pw.flashA, flashB := s.pw.flashB }
    trust := { Trust.zero with slots := s.trust.slots, badSlots := s.trust.badSlots, ctr := s.trust.ctr, offerId := s.trust.offerId }
    ldg := { Ledger.zero with perstA := s.ldg.perstA, perstB := s.ldg.perstB }
    out := s.out
    free := s.free
    pending := s.pending }
  let pin := s.reg F.RST_STATE_PINLOW
  let z := { z with rst := { Rst.zero with active := true, level := 4, all := true, step := 0 }
                    pw := { z.pw with boot := true, level := 4 } }
  let z := z.allFields.foldl (fun z f => (z.setReg F.FLD_RST_STATE 3 f).setReg F.FLD_RST_LLEVEL 4 f) z
  let z := z.allFields.foldl (fun z f => z.setRail f 2 true) z
  let z := (z.setReg F.FLT_REPLAN_FIELDS (s.reg F.FLT_REPLAN_FIELDS)).setReg F.FLT_REPLAN_REASON (s.reg F.FLT_REPLAN_REASON)
  let z := (((z.setReg F.RST_CAUSE_SOURCE source).setReg F.RST_STATE_PINLOW pin).pushHist ⟨source, 0, 4, true, 2 ^ s.nFields - 1⟩ false).syncRst
  { z with log := { z.log with bootgen := z.log.bootgen + 1 } }.remeasure 1

/-! ### A request (R435 to R438, R451) -/

/-- A field lies in the scope of the reset in progress. -/
def State.inScope (s : State) (f : Nat) : Bool := s.rst.active && (s.rst.all || bitOf s.rst.fields f)

/-- The level at which the reset in progress holds a field of its scope: each releases at its own level below L2 (R451). -/
def State.ownLevel (s : State) (f : Nat) : Nat := if 2 ≤ s.rst.level then s.rst.level else s.reg F.FLD_RST_LLEVEL f

/-- The release has let a domain of level `lv` of a field out already: its message fabric, or its tiles. -/
def State.freed (s : State) (lv f : Nat) : Bool := !s.inReset f || decide (1 ≤ lv ∧ 5 ≤ s.fieldStep f)

/-- The release has let a domain of level `lv` of the module out already. -/
def State.moduleFreed (s : State) (lv : Nat) : Bool :=
  let k := s.rst.step
  decide ((2 ≤ lv ∧ 4 ≤ k) ∨ (3 ≤ lv ∧ 2 ≤ k) ∨ (4 ≤ lv ∧ 1 ≤ k))

/-- Whether a request adds no domain to the reset in progress; a field PLL that loses lock during its field's own release adds
none either (R451). -/
def State.absorbs (s : State) (q : RstReq) : Bool :=
  let fs := s.scope q.all q.fields
  s.rst.active && fs.all (fun f => s.inScope f && decide (q.level ≤ s.ownLevel f)) &&
    (if q.source = 6 && q.qual = 7 then fs.all s.inReset else !s.moduleFreed q.level && !fs.any (fun f => s.freed q.level f))

/-- One field's part in the entry of a reset: it enters at `q.level`. A field that the reset in progress holds already counts
one reset, with the source that gave it its level. -/
def State.enterField (s : State) (q : RstReq) (f : Nat) : State :=
  let old := s.inScope f
  let up := !old || decide (s.ownLevel f < q.level)
  let cut := (s.field f).live && s.mode f ≠ 0
  let s := if cut then (s.invalidate).moduleFault 1 Code.rstSectionCut f 0 (!(s.solo && decide (2 ≤ q.level))) else s
  let s := s.clearField f q.level
  let s := s.setReg F.FLD_RST_STATE (if q.level = 0 then 1 else if q.level = 1 then 2 else 3) f
  let s := if old then s else s.satReg F.FLD_RST_RESETS f
  let s := (if up then s.setReg F.FLD_RST_LSOURCE q.source f else s).setReg F.FLD_RST_LLEVEL q.level f
  { s with rst := { s.rst with late := s.rst.late.set 0 f 0 } }

/-- The level at which a field of the merged scope is reset: the merged level from L2 up, else the higher of its own two. -/
def State.target (s : State) (q : RstReq) (lv f : Nat) : Nat :=
  if 2 ≤ lv then lv
  else max (if s.inScope f then s.ownLevel f else 0) (if q.all || bitOf q.fields f then q.level else 0)

/-- A reset source asserts with a level and a scope, and is merged with the reset in progress: everything up to the minimum hold
(R438, R451). A request below L4 that meets an L4 release leaves Base Camp and the registers of domain L4 as they are: the release
restarts, and what the request wrote to cause and history stays (assumption 41). -/
def State.resetReq (s : State) (source qual level : Nat) (all0 : Bool) (fields0 : Nat) : State :=
  let all := all0 || decide (2 ≤ level)
  let q : RstReq := ⟨source, qual, level, all, if all then 2 ^ s.nFields - 1 else fields0 % 2 ^ s.nFields⟩
  let same := s.reg F.RST_HIST_I_VALID = 1 && s.reg F.RST_HIST_T_TIME = s.ref
  let abs := s.absorbs q
  let r := s.rst
  let s := s.pushHist q r.active
  let warned := if r.active then r.warned else s.warnings
  if abs then (if same then s.setCause q false true r.all r.fields else s).syncRst
  else if level = 4 then s.coldStart source
  else
    let lv := if r.active then max r.level level else level
    let whole := q.all || (r.active && r.all)
    let mask := if whole then 2 ^ s.nFields - 1 else if r.active then r.fields ||| q.fields else q.fields
    let s := s.setCause q (!r.active) same whole mask
    let used := (s.scope q.all q.fields).any (fun f => s.mode f ≠ 0)
    let s := s.moduleFault 5 Code.rstApplied 0 (source + 256 * level + 65536 * q.fields)
      (decide (1 ≤ level) && used && s.run.cur.isSome && !(s.solo && decide (2 ≤ level)))
    let ts := (s.scope whole mask).map (fun f => (f, s.target q lv f))
    let enter := ts.filter (fun t => !(s.inScope t.1 && decide (t.2 ≤ s.ownLevel t.1) && !s.freed t.2 t.1))
    let s := (enter.foldl (fun s t => s.enterField { q with level := t.2 } t.1) s).cutInstall
    let full := whole && ts.all (fun t => t.2 = lv)
    let s := if full && decide (1 ≤ lv) then s.clearModule lv else s
    let s := s.clearRegs (min 3 lv) full ((enter.filter (fun t => t.2 = lv)).map (·.1))
    let s := if full && decide (3 ≤ lv) then s.keepDisabled.keepNeeds else s
    let low := (enter.filter (fun t => decide (t.2 < lv))).map (·.1)
    let s := if low.isEmpty then s else s.clearRegs 0 false low
    .syncRst { s with rst := { s.rst with
      active := true
      level := lv
      all := whole
      fields := mask
      replay := (r.active && r.replay) || (source = 4 && qual = 2)
      heldMin := false
      warned := warned
      step := min (firstStep lv - 1) (match r.hold with
        | some h => firstStep h - 1
        | none => 8)
      next := 0 } }

/-! ### Release (R441 to R443) -/

/-- The level at which a field in reset releases. -/
def State.fieldLevel (s : State) (f : Nat) : Nat :=
  let st := s.reg F.FLD_RST_STATE f
  if st = 1 then 0 else if st = 2 then 1 else if st = 3 then max 2 s.rst.level else if 2 ≤ s.rst.level then s.rst.level else 1

/-- The fields that the release in progress still has to bring out, in increasing order. -/
def State.releasing (s : State) : List Nat := (s.scope s.rst.all s.rst.fields).filter s.inReset

/-- Steps done by a field. -/
def State.doneStep (s : State) (f k : Nat) : State := { s with rst := { s.rst with late := s.rst.late.set 0 f k } }

/-- Step 5 of a field: its message fabric; the incarnation bit of each tile flips (R221); its crossings are realigned and spare
wires reapplied (R155). -/
def State.step5 (s : State) (f : Nat) : State :=
  let s := s.mapTiles f (fun t => { t with msg := { t.msg with inc := !t.msg.inc } })
  let s := if s.reg F.FLD_RST_STATE f = 4 then s.setReg F.FLD_RST_STATE (if 2 ≤ s.rst.level then 3 else 2) f else s
  (s.alignSeams f).doneStep f 5

/-- Step 6 of a field: at L1 the control cores start from 0x2_0000 unless a replay holds them; at L2 and above the bloom begins
(R392, R442). -/
def State.step6 (s : State) (f : Nat) : State :=
  let s := s.doneStep f 6
  if 2 ≤ s.fieldLevel f then s.bloomField f
  else if s.rst.replay || !s.compOn f || s.dark f then s
  else s.mapTiles f (fun t => t.startRun s.acyc)

/-- Step 7 of a field: its tiles leave reset, and at L1 the scrub begins; deferred while its compute rail is off (R443). -/
def State.step7 (s : State) (f : Nat) : State :=
  if !s.compOn f || s.dark f then s
  else
    let lv := s.fieldLevel f
    let s := if lv = 1 then s.mapTiles f (fun t => t.cmdScrub) else s
    (s.setReg F.FLD_RST_STATE 0 f).doneStep f 0

/-- A field whose PLL has locked late, or whose rail has come back, catches up with the release (R443). -/
def State.catchUp (s : State) (f : Nat) : State :=
  if !s.inReset f then s
  else
    let upto := if s.rst.active then s.rst.step else 8
    let s := if 5 ≤ upto && s.fieldStep f < 5 && decide (1 ≤ s.fieldLevel f) && s.pllLocked f then s.step5 f else s
    let s := if 6 ≤ upto && s.fieldStep f = 5 then s.step6 f else s
    let s := if 7 ≤ upto && (s.fieldStep f = 6 || s.fieldLevel f = 0) then s.step7 f else s
    s.syncRst

/-- A migration that a reset cut short is completed by rebuilding its field (R450). -/
def State.migrateCut (s : State) (f col : Nat) : State :=
  let s := { s with log := { s.log with
    crev := s.log.crev.upd Crev.zero f (fun c => { c with cols := insertAsc col c.cols })
    migrate := s.log.migrate.filter (fun m => m ≠ (f, col)) } }
  let g := s.field f
  let keep := g.tiles.filter (fun e => (s.position f e.1).isNone)
  let s := s.updField f (fun g => { g with logical := { g.logical with stack := [], scratch := [] }, tiles := [] })
  let s := keep.foldl (fun s e => s.setTile f e.1 e.2) s
  let s := s.reloadField f
  let s := ({ s with ldg := s.ldg.rebuildAll } : State).rebuildReserve
  ((s.setReg F.FLD_RST_MIGRATE_CUT 1 f).moduleFault 1 Code.rstMigrationCut f col false).remeasure 5

/-- Step 8: the sequencers may be armed again, the bloom and the image are in place, and the release ends (R178, R395,
R442, R450). -/
def State.step8 (s : State) : State :=
  let lv := s.rst.level
  let s := if 2 ≤ lv then s.allFields.foldl (fun s f => s.bloomFinish f) s else s
  let cut := s.log.migrate
  let s := cut.foldl (fun s m => s.migrateCut m.1 m.2) s
  let s := if (lv = 2 ∨ lv = 3) ∧ s.reg F.BC_IMG_STATUS_STATE = 4 then s.reinstall else s
  let s := { s with rst := { Rst.zero with hold := none, latch := s.rst.latch } }
  let s := s.beginMigrations.syncRst
  if s.inRope || s.solo then s else s.retarget

/-- MREF's source at start-up: the one that 0x2100:02 names where it is ready, else source 0 (R454). -/
def State.selectMref (s : State) (ready : Nat) : State :=
  let want := s.od 0x2100 2
  let port := s.reg F.CLK_MREF_PORT
  let ready := s.mrefReady ready port
  let ok := bitOf ready want
  let s := (s.setReg F.CLK_MREF_READY ready).takeMref (if ok then want else 0) port
  if ok then s else s.setReg F.CLK_MREF_REFUSED 1

/-- The next step of the release, or its next field (R441). `ready` gives the READY flags of MREF's sources,
`sel` the profile pins as read (R34). -/
def State.releaseStep (s : State) (ready sel : Nat) : State :=
  let r := s.rst
  let stop := match r.hold with
    | some h => decide (firstStep h ≤ r.step + 1)
    | none => false
  let pin := s.reg F.RST_STATE_PINLOW = 1 && decide (1 ≤ r.step)
  if !r.active || !r.heldMin || stop || pin then s
  else
    let done := fun (s : State) (k : Nat) => ({ s with rst := { s.rst with step := k, next := 0 } } : State).syncRst
    match r.step with
    | 0 => if 2 ≤ s.reg F.BC_BOOT_STAGE then done s 1 else s
    | 1 =>
      if s.reg F.PWR_STATUS_STANDBY = 1 || s.pw.boot && s.reg F.CLK_PLL_MOD ≠ 3 then s
      else
        done ((s.selectMref ready).setReg F.CLK_PLL_MOD 3) 2
    | 2 =>
      let s := if r.level = 3 then ({ s with pw := { s.pw with sel := sel } } : State).activate sel 0 else s
      let s := { s with ldg := { s.ldg with subVendor := s.od 0x7010 1, subDevice := s.od 0x7010 2 } }
      done s 3
    | 3 =>
      let s := s.setReg F.CLK_PLL_MOD 3
      let pend := s.od 0x2000 5
      let s := if pend ≤ 3 then s.activate pend 1 else s
      let s := s.settleDict
      -- the 160 steps of R195 bring the row index round to where it stood
      done (s.allFields.foldl (fun s f => (s.setReg F.FLD_STK_REF_MODE 1 f).updField f (fun g => { g with lastStep := s.ref })) s) 4
    | 7 => if s.releasing.any (fun f => s.reg F.FLD_RST_STATE f = 4 && !s.inReplan f) then s else s.step8
    | k =>
      let fs := s.scope r.all r.fields
      match fs.find? (fun f => decide (r.next ≤ f)) with
      | none => done s (k + 1)
      | some f =>
        let s := { s with rst := { s.rst with next := f + 1 } }
        let lv := s.fieldLevel f
        let s :=
          if !s.inReset f || s.inReplan f then s
          else if k = 4 then
            (if lv = 0 then s
              else if s.pllLocked f then s.step5 f
              else s.setReg F.FLD_RST_STATE 4 f)
          else if k = 5 then (if s.fieldStep f = 5 then s.step6 f else s)
          else (if lv = 0 || s.fieldStep f = 6 then s.step7 f else s)
        s.syncRst

end Sys2Proof.Machine
end

