-- ==== Sys2Proof/Machine/RopeOps.lean ====
section
/-!
DEFINITION. Sys2Proof/Machine/RopeOps.lean: what a rope member does with the anchor's cells, its checkpoints, its restore and its
stop (spec 09_ropes). A rope of one sends no cell: what the anchor would broadcast takes effect at once (R271).
-/

namespace Sys2Proof.Machine

/-! ### Topology (R274, R281, R287) -/

/-- The rope descriptor in force. -/
def State.rdesc (s : State) : RopeDesc := match s.image with
  | some m => m.rope
  | none => ⟨0, 0, 0, 0, 1, 1, 1, 20, 8, 0, 0, 0⟩

/-- Members of the rope. -/
def RopeDesc.size (d : RopeDesc) : Nat := d.nx * d.ny * d.nz
/-- Ring size of dimension `i`. -/
def RopeDesc.ring (d : RopeDesc) (i : Nat) : Nat := if i = 0 then d.nx else if i = 1 then d.ny else d.nz
/-- Coordinates within the rings. -/
def RopeDesc.inside (d : RopeDesc) (c : Nat) : Bool := (List.range 3).all (fun i => decide (coordOf c i < d.ring i))
/-- The port of the first hop of a privileged unicast cell from `c` to `t` (R257). -/
def RopeDesc.hop (d : RopeDesc) (c t : Nat) : Option Nat :=
  ((List.range 3).find? (fun i => coordOf c i ≠ coordOf t i)).map (fun i =>
    let n := d.ring i
    let f := (coordOf t i + n - coordOf c i) % n
    if f ≤ n - f then 2 * i else 2 * i + 1)
/-- The coordinates of the neighbour through a port. -/
def RopeDesc.next (d : RopeDesc) (c p : Nat) : Nat :=
  let i := p / 2
  let n := d.ring i
  coordWith c i ((coordOf c i + (if p % 2 = 0 then 1 else n - 1)) % n)

/-- The anchor's coordinates. -/
def State.acoord (s : State) : Nat := s.reg F.BC_ROPE_STATUS_ACOORD
/-- The children in the time tree (R274). -/
def State.childCoords (s : State) : List Nat :=
  let d := s.rdesc
  (((List.range 6).map (d.next s.own)).filter (fun c => c ≠ s.own && (match d.hop c s.acoord with
    | some q => d.next c q = s.own
    | none => false))).eraseDups

/-- Each port that the rope needs is UP, not short, and reports the neighbour that the rings imply (R281). -/
def State.ropePortsOk (s : State) : Bool :=
  (List.range 6).all (fun p => (s.portWidth p = 0 && p ≠ s.reg F.BC_ROPE_STATUS_TPORT) ||
    (s.portUp p && !s.short p && s.reg F.HX_STATUS_NVALID p = 1 && s.reg F.HX_STATUS_NCOORD p = s.rdesc.next s.own p))

/-- The landing checks of a port (R287). -/
def State.landingOk (s : State) (p : Nat) : Bool :=
  let d := s.rdesc
  let up := fun (n : Nat) => (n * 752 + 10000 * d.dmin2 - 1) / (10000 * d.dmin2)
  decide (up (64 * s.reg F.HX_LAT_BASE p + 6000) + 20 ≤ d.landBase ∧ up (98 * s.reg F.HX_LAT_FIBRE p + 15000) ≤ d.landWin)

/-- The landing checks of every port with nonzero PORT_WIDTH. -/
def State.ropeLatencyOk (s : State) : Bool := (List.range 6).all (fun p => s.portWidth p = 0 || s.landingOk p)

/-- A port that the rope needs and that is UP is short, or fails R287. -/
def State.portPoor (s : State) (p : Nat) : Bool :=
  s.portUp p && ((s.portWidth p ≠ 0 && (s.short p || !s.landingOk p)) || (p = s.reg F.BC_ROPE_STATUS_TPORT && s.short p))

/-- A member that is READY retrains such ports (R319). -/
def State.retrainPoor (s : State) : State :=
  (List.range 6).foldl (fun s p => if s.portPoor p then s.portRetrain p else s) s

/-- A field that the image marks ACTIVE is dark (R472). -/
def State.darkActive (s : State) : Bool := s.allFields.any (fun f => s.mode f = 2 && s.dark f)

/-! ### Time (R276) -/

/-- Rope time in units of 1/64 refcycle. -/
def State.rt (s : State) : Nat := (s.rope.rtOff + 64 * s.ref) % 2 ^ 64
/-- The rope refcycle count. -/
def State.rrc (s : State) : Nat := s.rt / 64

/-! ### Checkpoint slots (R306 to R313) -/

/-- The current epoch. -/
def State.epochNow (s : State) : Nat := s.acyc / 2 ^ s.rdesc.epochLog2
/-- A slot. -/
def State.slot (s : State) (b : Nat) : CkpSlot := if b = 0 then s.rope.slotA else s.rope.slotB
/-- A slot written. -/
def State.setSlot (s : State) (b : Nat) (x : CkpSlot) : State :=
  { s with rope := if b = 0 then { s.rope with slotA := x } else { s.rope with slotB := x } }
/-- A usable slot holds a capture whose header is valid (R310), of the installed image's rope. -/
def State.usable (s : State) (x : CkpSlot) : Bool := x.state = 2 && x.crcOk && x.ropeId = s.rdesc.idLo
/-- The epochs in usable slots, with their commit flags (R313). -/
def State.ownSlots (s : State) : List (Nat × Bool) :=
  ([s.rope.slotA, s.rope.slotB].filter s.usable).map (fun x => (x.epoch, decide (x.commit = some x.epoch)))
/-- The epoch that the member has captured last, in a usable slot. -/
def State.ownCaptured (s : State) : Option Nat :=
  let es := s.ownSlots.map (·.1)
  if es.isEmpty then none else some (es.foldl max 0)
/-- The intersection of two slot sets; a commit flag is the OR of both (R313). -/
def meetSlots (a b : List (Nat × Bool)) : List (Nat × Bool) :=
  a.filterMap (fun x => (b.find? (fun y => y.1 = x.1)).map (fun y => (x.1, x.2 || y.2)))
/-- The slot set of the member's subtree. -/
def State.subtreeSlots (s : State) : List (Nat × Bool) :=
  s.rope.children.foldl (fun l c => meetSlots l c.slots) s.ownSlots
/-- The restore epoch (R312), from the JOINs while the rope forms and from the subtree afterwards. -/
def State.restoreEpoch (s : State) : Option Nat :=
  let set := if s.solo then s.ownSlots
    else if s.rope.children.any (fun c => c.ready) || s.rope.members.isEmpty then s.subtreeSlots
    else s.rope.members.foldl (fun l m => if m.coord = s.own then l else meetSlots l m.slots) s.ownSlots
  let es := (set.filter (fun x => x.2 || s.rope.committed.contains x.1)).map (·.1)
  if es.isEmpty then none else some (es.foldl max 0)

/-- Whether a checkpoint saves what a handle covers in a space: of an APP handle only WMARK is saved (R64). -/
def Handle.saved (h : Handle) (stack : Bool) : Bool := h.valid && h.ckp && !h.app && h.stackSpace = stack

/-- The words of a memory inside the saved handles of a space. -/
def ckpWords (hs : SMap Handle) (stack : Bool) (m : SMap CWord) : SMap CWord :=
  m.keep (fun i => hs.any (fun h => h.2.saved stack &&
    decide (h.2.base.toNat ≤ 8 * i + 7 ∧ 8 * i < h.2.base.toNat + h.2.length.toNat)))

/-- The capture of one tile (R307). -/
def Tile.capture (t : Tile) : TileCap :=
  ⟨t.handles, t.shadows, ckpWords t.handles false t.scratch, ckpWords t.handles true t.stack⟩

/-- A memory whose CKP ranges are written back from a capture (R316). -/
def putCkp (hs : SMap Handle) (stack : Bool) (cap old : SMap CWord) : SMap CWord :=
  let rs := ((hs.map (·.2)).filter (·.saved stack)).map
    (fun h => (h.base.toNat, h.length.toNat))
  let is := (ckpWords hs stack old).map (·.1) ++ cap.map (·.1)
  is.foldl (fun m i => m.set CWord.zero i (mixWord rs i (old.get CWord.zero i) (cap.get CWord.zero i))) old

/-- A tile restored from its capture: handle table and shadow, CKP contents and, with the handles, WMARK (R316 step 5). -/
def Tile.restore (c : TileCap) (t : Tile) : Tile :=
  { t with
    handles := c.handles
    shadows := c.shadows
    scratch := putCkp c.handles false c.scratch t.scratch
    stack := putCkp c.handles true c.stack t.stack }

/-- The capture of a field. -/
def State.captureField (s : State) (f : Nat) : FieldCap :=
  let g := s.field f
  let ts := g.tiles.filterMap (fun e => (s.position f e.1).map (fun q => (q.1 + 128 * q.2, e.2.capture)))
  let rest := g.logical.capture
  ⟨rest, ts.foldl (fun m e => m.set rest e.1 e.2) []⟩

/-- A field restored from its capture. -/
def State.restoreField (s : State) (f : Nat) (c : FieldCap) : State :=
  let g := s.field f
  let ks := (g.tiles.filter (fun e => (s.position f e.1).isSome)).map (·.1) ++
    c.tiles.map (fun e => s.keyAt f (e.1 % 128) (e.1 / 128))
  let olds := ks.eraseDups.map (fun k => (k, s.tile f k))
  let s := s.updField f (fun g => { g with logical := g.logical.restore c.rest })
  olds.foldl (fun s e => match s.position f e.1 with
    | some (x, y) => s.setTile f e.1 (e.2.restore (c.tiles.get c.rest (x + 128 * y)))
    | none => s) s

/-- The slot that holds an epoch. -/
def State.slotOf (s : State) (e : Nat) : Option CkpSlot :=
  [s.rope.slotA, s.rope.slotB].find? (fun x => s.usable x && x.epoch = e)

/-- The 64-bit words of a tile in a slot's content: handle table, handle shadow, the data of its saved handles in order of number, and
their tags, sixteen to a word. The order of the content is the model's (assumption 75). -/
def TileCap.words (c : TileCap) : List Nat :=
  let ns := List.range 64
  let ws := fun (stack : Bool) (h : Handle) =>
    let sp := wordSpan h.base.toNat h.length.toNat
    (List.range sp.2).map (fun j => (if stack then c.stack else c.scratch).get CWord.zero (sp.1 + j))
  let saved := ns.flatMap (fun n =>
    let h := c.handles.get Handle.zero n
    if h.saved false then ws false h else if h.saved true then ws true h else [])
  ns.flatMap (fun n => let h := c.handles.get Handle.zero n; [h.word0.toNat, h.word1.toNat]) ++
    ns.flatMap (fun n => let h := c.shadows.get Shadow.zero n; [(h.word 0).toNat, (h.word 1).toNat]) ++
    saved.map (fun w => w.data.toNat) ++
    (List.range ((saved.length + 15) / 16)).map (fun k =>
      ((List.range 16).map (fun j => (saved.getD (16 * k + j) CWord.zero).tag.toNat * 16 ^ j)).foldl (· + ·) 0)

/-- Words, their sum, and the sum of (index + 1) × word of a tile's content. -/
def TileCap.weigh (c : TileCap) : Nat × Nat × Nat :=
  c.words.foldl (fun a w => (a.1 + 1, a.2.1 + w, a.2.2 + (a.1 + 1) * w)) (0, 0, 0)

/-- The words of a slot's content and its CSUM, tile after tile and field after field (R309). -/
def weighFields (c : SMap FieldCap) (fs : List Nat) : Nat × Nat :=
  fs.foldl (fun a f =>
    let g := c.get FieldCap.zero f
    let rest := g.rest.weigh
    (List.range 16384).foldl (fun a q =>
      let w := match g.tiles.find? (fun e => e.1 = q) with
        | some e => e.2.weigh
        | none => rest
      (a.1 + w.1, (a.2 + a.1 * w.2.1 + w.2.2) % cairnP)) a) (0, 0)

/-- The header of a slot (R309); `crcOk` says that the CRC it holds is the one given here. -/
def CkpSlot.header (x : CkpSlot) : List Nat :=
  let b := bytesLe 4 0x544B5043 ++ [x.state, 0, 0, 0] ++ bytesLe 8 x.epoch ++ bytesLe 8 x.k ++ bytesLe 8 x.invSeq ++
    bytesLe 8 x.length ++ bytesLe 8 x.csum ++ bytesLe 8 x.ropeId
  b ++ bytesLe 4 (crc32c b) ++ bytesLe 4 0

/-- The commit record of a slot, where it holds a valid one (R309). -/
def CkpSlot.record (x : CkpSlot) : List Nat := match x.commit with
  | some e =>
    let b := bytesLe 4 0x544D4F43 ++ bytesLe 4 0 ++ bytesLe 8 e
    b ++ bytesLe 4 (crc32c b) ++ List.replicate 44 0
  | none => []

/-- An epoch stands in a usable slot whose CSUM its content meets (R309, R316 step 5). -/
def State.csumOk (s : State) (e : Nat) : Bool := match s.slotOf e with
  | some x => x.csum = (weighFields x.content s.usedFields).2
  | none => false

/-- Step 5 of R316 for every used field. -/
def State.restoreSlot (s : State) (e : Nat) : State :=
  match s.slotOf e with
  | some x => s.usedFields.foldl (fun s f => s.restoreField f (x.content.get FieldCap.zero f)) s
  | none => s

/-- Steps 5 and 7 of R316 for a field that returns from the dark after the member's restore (R472, R473). -/
def State.restoreReturn (s : State) (f : Nat) : State :=
  match s.rope.restore with
  | none => s
  | some e =>
    if s.ropeState ≠ 3 || !s.rope.ready then s
    else match s.slotOf e with
      | none => s
      | some x => (s.restoreField f (x.content.get FieldCap.zero f)).mapTiles f (fun t =>
          { t with core := { t.core with dmem := [] } }.startRun s.acyc)

/-! ### What halts a member (R316 steps 1 to 3) -/

/-- Every sequencer halts, nothing runs any more, and no invocation waits. -/
def State.haltAll (s : State) : State :=
  let s := s.mapFields s.allFields (fun t => { t with seq := { t.seq with state := .halt, cmdArm := false } })
  let s := s.usedFields.foldl State.stopLive s
  let s := { s with invq := [], run := { Run.zero with count := s.run.count, ended := s.run.ended } }
  if s.reg F.BC_IMG_STATUS_STATE = 3 then s.setReg F.BC_IMG_STATUS_STATE 2 else s

/-- Cairn engines stop, scheduled buffers and queues empty, a capture in progress is abandoned, and pending ANNOUNCEs are
cancelled (R293, R316). -/
def State.flushRope (s : State) : State :=
  let s := (List.range 6).foldl (fun s p => s.updPort p (fun g =>
    { g with landing := [], edge := [], tx := g.tx.keep (fun k => decide (k ≠ 1)) })) s
  let s : State := { s with
    rope := { s.rope with engines := [], windows := [], insts := [], capture := none, start := none }
    pw := { s.pw with anns := [] }
    ldg := s.ldg.discard }
  let s := s.setReg F.BC_ROPE_CKP_CAPTURING 0
  if s.divNow = s.pw.goal then (s.setReg F.CLK_DIV_RAMPING 0).setReg F.CLK_DIV_TARGET s.divNow else s

/-- The member stops with a reason (R280). -/
def State.stopRope (s : State) (reason : Nat) : State :=
  let s := s.haltAll.flushRope
  let s := (s.setReg F.BC_ROPE_STATUS_STATE 7).setReg F.BC_ROPE_STATUS_REASON reason
  let s := { s with rope := { s.rope with ready := false, restore := none } }
  s.setReg F.BC_ROPE_STATUS_LSTATE 0

/-! ### The anchor's cells, as a member takes them (R285) -/

/-- MARK (R279, R285). -/
def State.takeMark (s : State) (b : List Nat) : State :=
  let s := { s with rope := { s.rope with lastMark := s.acyc } }
  if leAt b 4 8 = s.epochNow then s else s.moduleFault 5 Code.schRopeTime 0 (leAt b 4 8) true

/-- An all-ones field says that there is no epoch. -/
def optEpoch (v : Nat) : Option Nat := if v = 2 ^ 64 - 1 then none else some v

/-- START (R283, R285). A new rope has no checkpoint: slots that hold none of its epochs are emptied (assumption 44). -/
def State.takeStart (s : State) (b : List Nat) : State :=
  if s.ropeState ≠ 3 then s
  else
    let s := ((s.setReg F.CLK_DIV_FLOOR (leAt b 29 1)).setReg F.BC_ROPE_RATIO_FLOOR (leAt b 29 1)).setReg
      F.BC_ROPE_STATUS_REPLAYS (leAt b 30 1)
    let new := (optEpoch (leAt b 20 8)).isNone
    let s : State := if new then { s with
      ldg := s.ldg.rebuildBegun
      rope := { s.rope with journal := [], slotA := CkpSlot.zero, slotB := CkpSlot.zero, committed := [] } } else s
    let s := if new then (s.setReg F.BC_ROPE_CKP_CVALID 0).setReg F.BC_ROPE_CKP_COMMITTED 0 else s
    { s with rope := { s.rope with start := some ⟨leAt b 4 8, leAt b 12 8, optEpoch (leAt b 20 8), leAt b 28 1, leAt b 29 1,
      bitOf (leAt b 1 1) 0, leAt b 30 1⟩ } }

/-- The rope acycle by which an arriving INVOKE is judged: the start's K0 where the rope has not started. -/
def State.issueNow (s : State) : Nat := if s.ropeState = 4 then s.acyc else match s.rope.start with
  | some c => c.k0
  | none => s.acyc

/-- INVOKE: journalled as the cell received, and scheduled unless it is late (R286). -/
def State.takeInvoke (s : State) (cell : Cell) : State :=
  let b := cell.body
  let i : Invocation := ⟨leAt b 4 8, leAt b 1 1, leAt b 12 8, (List.range 8).map (fun k => leAt b (20 + 4 * k) 4)⟩
  let s : State := { s with
    rope := { s.rope with
      journal := s.rope.journal ++ [i]
      nextSeq := i.seqNo + 1
      lastEnd := i.start + (match s.image with
        | some m => (m.invLength i.entry i.params).getD 0
        | none => 0) }
    ldg := s.ldg.append 2 0xFFFF i.seqNo false cell.bytes }
  if i.start < s.issueNow + 4096 then s.moduleFault 5 Code.schInvokeLate 0 i.seqNo true
  else if s.ropeState = 4 then { s with invq := s.invq ++ [i] }
  else s

/-- CLEAR (R303). -/
def State.takeClear (s : State) (b : List Nat) : State := s.setReg F.BC_ROPE_CLEAR_CLEAR (leAt b 4 8)

/-- COMMIT: the commit record is written, and the journal records that it covers are freed (R286, R311, R340). -/
def State.takeCommit (s : State) (b : List Nat) : State :=
  let e := leAt b 4 8
  let s := s.setReg F.BC_ROPE_STATUS_REPLAYS 0
  let late := match s.ownCaptured with
    | some c => decide (e < c)
    | none => false
  let s := { s with rope := { s.rope with burst := false, awaitCommit := s.rope.awaitCommit && late } }
  match (List.range 2).find? (fun k => s.usable (s.slot k) && (s.slot k).epoch = e) with
  | none => s
  | some k =>
    let x := s.slot k
    let s := s.setSlot k { x with commit := some e }
    let s := ((s.setReg F.BC_ROPE_CKP_COMMITTED e).setReg F.BC_ROPE_CKP_CVALID 1).setReg F.BC_ROPE_CKP_CSLOT k
    { s with
      rope := { s.rope with journal := s.rope.journal.filter (fun i => decide (x.invSeq ≤ i.seqNo)) }
      ldg := s.ldg.keepJ (fun r => !((r.type = 2 || r.type = 3) && decide (r.key < x.invSeq))) }

/-- ABORT (R293, R316): reason STOP carries the stop's reason in bytes 2 and 3 (assumption 20). -/
def State.takeAbort (s : State) (b : List Nat) : State :=
  let reason := leAt b 1 1
  if s.ropeState = 0 then s
  else if reason = 2 then s.stopRope (leAt b 2 2)
  else if 7 ≤ s.ropeState then s
  else if reason = 3 then s.stopRope 9
  else
    let rejoin := s.rope.rejoin
    let s := s.haltAll.flushRope
    let s : State := { s with
      reports := s.reports.map (fun r => { r with trig := false })
      log := { s.log with retested := 0 }
      rope := { s.rope with bad := none, low := none, burst := s.rope.burst || leAt b 2 2 = Code.crnMismatch, badSent := false,
                            ready := false, noCkp := false, restore := optEpoch (leAt b 4 8),
                            children := s.rope.children.map (fun c => { c with ready := false }) } }
    let s := s.setReg F.BC_ROPE_STATUS_REPLAYS (leAt b 14 1)
    if rejoin then s else (s.setRopeState 5).resetReq 4 2 1 true 0

/-- An EPOCH cell takes effect at a member, by its subtype. -/
def State.takeEpoch (s : State) (c : Cell) : State :=
  let b := c.body
  match leAt b 0 1 with
  | 1 => s.takeMark b
  | 2 => s.takeStart b
  | 3 => s.takeInvoke c
  | 5 => s.takeClear b
  | 6 => s.takeCommit b
  | 7 => s.takeAbort b
  | _ => s

/-- The anchor originates an EPOCH cell: broadcast, or in a rope of one in effect at once (R271). -/
def State.castEpoch (s : State) (b : List Nat) : State :=
  if s.solo then s.takeEpoch ⟨true, 0, 0, 1, 0, 0, 0, 0, padTo 52 b⟩ else s.bcastCell 0x01 b

/-- An EPOCH cell that the anchor originates for all (R285). -/
def anchorCell (c : Cell) : Bool := c.type = 1 && [1, 2, 3, 5, 6, 7].contains (leAt c.body 0 1)

/-- The next of the anchor's EPOCH cells, in the order in which they came, where it is of a subtype, and the state without it
(R285). -/
def State.nextEpoch (s : State) (sub : Nat) : Option (Cell × State) :=
  match s.takeCell anchorCell with
  | some ((_, c), s') => if leAt c.body 0 1 = sub then some (c, s') else none
  | none => none

/-- The next of the anchor's cells takes effect where it is of a subtype. -/
def State.serveEpoch (s : State) (sub : Nat) : State :=
  match s.nextEpoch sub with
  | some (c, s') => s'.takeEpoch c
  | none => s

/-! ### Aborts (R301, R314, R315, R318) -/

/-- Eight bytes of an optional epoch. -/
def epochBytes (e : Option Nat) : List Nat := bytesLe 8 (match e with
  | some v => v
  | none => 2 ^ 64 - 1)

/-- The bytes of an ABORT. -/
def abortBytes (reason code : Nat) (e : Option Nat) (origin replays : Nat) : List Nat :=
  [7, reason] ++ bytesLe 2 code ++ epochBytes e ++ bytesLe 2 origin ++ [replays % 256]

/-- The anchor originates ABORT for a fault at a member (R315, R318). -/
def State.castAbort (s : State) (code origin : Nat) : State :=
  let st := s.ropeState
  if !(st = 3 || st = 4 || st = 6 || st = 1) then s
  else
    let n := min 255 (s.reg F.BC_ROPE_STATUS_REPLAYS + 1)
    if code = 9 ∨ code = Code.rprReplan then s.castEpoch (abortBytes 3 code none origin n)
    else if s.reg F.BC_ROPE_CFG_REPLAY_LIMIT < n then s.castEpoch (abortBytes 2 6 none origin n)
    else match s.restoreEpoch with
      | none => s.castEpoch (abortBytes 2 11 none origin n)
      | some e => s.castEpoch (abortBytes (if code = Code.crnMismatch ∨ code = Code.crnMissing then 1 else 0) code (some e)
          origin n)

/-- The cleared acycle stays at or below a trigger's fault rope acycle (R302). -/
def State.holdLow (s : State) (acyc : Nat) : State :=
  { s with rope := { s.rope with low := some (min acyc (s.rope.low.getD acyc)) } }

/-- An abort trigger (R301, R302, R314): at the first one since the last START the anchor aborts and another member reports BAD; every
one holds the cleared acycle down. -/
def State.trigger (s : State) (code acyc origin : Nat) : State :=
  if s.ropeState = 0 || decide (7 ≤ s.ropeState) then s
  else
    let s := s.holdLow acyc
    if s.rope.bad.isSome then s
    else
      let s : State := { s with rope := { s.rope with bad := some (code, acyc, origin), badSent := false } }
      if s.isAnchor then s.castAbort code origin else s

/-- The member enters REPLAN (R318, R319). -/
def State.enterReplan (s : State) (reason : Nat) : State :=
  if s.ropeState = 0 || s.ropeState = 8 then s
  else
    let others := s.inRope && s.isAnchor
    let s := s.haltAll.flushRope
    let s := { s with rope := { s.rope with bad := some (9, s.acyc, s.own), badSent := false } }.holdLow s.acyc
    let s := if others then s.bcastCell 0x01 (abortBytes 3 9 none s.own 0) else s
    let s := (s.setReg F.BC_ROPE_STATUS_STATE 8).setReg F.BC_ROPE_STATUS_REASON reason
    s.setReg F.BC_ROPE_STATUS_LSTATE 0

/-! ### Cleared acycles (R301 to R303) -/

/-- The epoch that every member has captured last, as far as the reports show: this member's own, where no child's subtree has a
lower or a later one. A member that skipped an epoch reports another (R306, R311). -/
def State.allCaptured (s : State) : Option Nat :=
  match s.ownCaptured with
  | some e => if s.rope.children.all (fun c => c.captured = some e) then some e else none
  | none => none

/-- The last committed epoch that this member knows of (R285). -/
def State.lastCommitted (s : State) : Option Nat :=
  let es := s.rope.committed ++ (s.ownSlots.filter (·.2)).map (·.1)
  if es.isEmpty then none else some (es.foldl max 0)

/-- The member's own cleared acycle (R302). -/
def State.ownCleared (s : State) : Nat :=
  let c := s.acyc - ((if s.solo then 0 else s.rdesc.land) + 8192)
  match s.rope.low with
  | some a => min c a
  | none => c

/-- The subtree's cleared acycle, members counted, and lowest captured epoch (R301, R302). -/
def State.subtreeCleared (s : State) : Nat := s.rope.children.foldl (fun a c => min a c.cleared) s.ownCleared
def State.subtreeCount (s : State) : Nat := s.rope.children.foldl (fun n c => n + c.counted) 1
def State.subtreeCaptured (s : State) : Option Nat :=
  s.rope.children.foldl (fun a c => match a, c.captured with
    | some x, some y => some (min x y)
    | _, _ => none) s.ownCaptured

/-! ### Forming (R271, R281) -/

/-- A new rope: what survives of the old one is the slots, the time and the journal of accepted work. -/
def Rope.again (r : Rope) : Rope :=
  { Rope.zero with rtOff := r.rtOff, slotA := r.slotA, slotB := r.slotB, journal := r.journal, nextSeq := r.nextSeq }

/-- A rope of one forms (R271, R272): it restores where a usable committed checkpoint exists. -/
def State.formSolo (s : State) : State :=
  let s := { s with rope := s.rope.again }
  let s := ((s.setReg F.BC_ROPE_STATUS_SOLO 1).setReg F.BC_ROPE_STATUS_STATE 0).setReg F.BC_ROPE_STATUS_REASON 0
  let s := ((s.setReg F.BC_ROPE_STATUS_ANCHOR 1).setReg F.BC_ROPE_STATUS_ACOORD 0).setReg F.BC_ROPE_STATUS_TPORT 7
  let s := s.setReg F.BC_ROPE_STATUS_MEMBERS 1
  match s.restoreEpoch with
  | some e => { s.setReg F.BC_ROPE_STATUS_LSTATE 6 with rope := { s.rope with restore := some e } }
  | none => { s.setReg F.BC_ROPE_STATUS_LSTATE 3 with rope := { s.rope with ready := true, journal := [] } }

/-- No rope: a new image replaces the one that the rope ran (R271, R320). -/
def State.unformSolo (s : State) : State :=
  if s.solo then
    let s := ((s.setReg F.BC_ROPE_STATUS_SOLO 0).setReg F.BC_ROPE_STATUS_LSTATE 0).setReg F.BC_ROPE_STATUS_ANCHOR 0
    { s with rope := s.rope.again }
  else s

/-- A standing survey pass asks for a gap (R401). -/
def State.surveying (s : State) : Bool :=
  s.reg F.BC_SVY_CFG_EN = 1 && s.allFields.any (fun f => s.reg F.FLD_SVY_DUE f = 1)

end Sys2Proof.Machine
end

