-- ==== Sys2Proof/Machine/Install.lean ====
section
/-!
DEFINITION. Sys2Proof/Machine/Install.lean: INSTALL, its commit, REMOVE, and the fields held out (spec 05_sections R175 to R181,
11_trust R369 to R373).
-/

namespace Sys2Proof.Machine

/-! ### Zeroization (R372) -/

/-- A tile's scratch and its stack segment of data 0, tag 0, with the rest of a tenant-change zeroize (R70, R372). -/
def Tile.tenantWipe (t : Tile) : Tile := { t.tenantZeroize with stack := [] }

/-- The tenant-change row of the Zeroization table (R372); `keep` bytes from the start of the staging area hold the new
plaintext and stay (R373). Spare tiles hold the reserve, whose areas the state keeps apart. -/
def State.tenantWipe (s : State) (keep : Nat) : State :=
  let l := s.ldg.sessions.foldl (fun (l : Ledger) e => (l.erase e.1).upd e.1 (fun x => { x with offer := none })) s.ldg
  let l : Ledger := { l with journal := [] }
  let s := s.mapFields s.allFields Tile.tenantWipe
  { s with
    ldg := l
    copy := none
    staging := s.staging.keep (fun k => decide (k < keep))
    rope := { s.rope with slotA := CkpSlot.zero, slotB := CkpSlot.zero, committed := [] } }

/-- The debug row: the tenant-change row and the installed image (R372). -/
def State.debugWipe (s : State) : State :=
  let s := s.unformSolo
  let s := { s.clearArray.tenantWipe 0 with image := none, pendingImg := none, run := Run.zero, invq := [] }
  let s := ((s.setReg F.BC_IMG_STATUS_STATE 0).setReg F.BC_IMG_STATUS_DFLOOR 0).setReg F.BC_IMG_STATUS_BUILD 0
  (s.setReg F.BC_IMG_ID_LO_ID 0).setReg F.BC_IMG_ID_HI_ID 0

/-! ### INSTALL and REMOVE (R175 to R178) -/

/-- An invocation runs or is issued to run. -/
def State.invocationRuns (s : State) : Bool := s.run.cur.isSome || s.run.nxt.isSome || !s.invq.isEmpty

/-- `n` bytes of the staging area as a number. -/
def State.staged (s : State) (off n : Nat) : Nat := leNat ((SMap.getList 0 s.staging off n).map (·.toNat))

/-- Check 1 (R369, R370). The outcomes of the signatures, the unwrap and the tag are given. -/
def State.containerOk (s : State) (len : Nat) (sigOk unwrapOk tagOk : Bool) (plain : Blob) : Bool :=
  let slot := s.slotOwner (s.staged 6 1)
  let plen := s.staged 0x10 8
  s.staged 0 4 = 0x435A5447 && s.staged 4 2 = 1 && decide (s.staged 6 1 < 4) && decide (1 ≤ s.staged 7 1 ∧ s.staged 7 1 ≤ 15) &&
    s.staged 8 8 = len && decide (plen ≤ 2 ^ 36 - 32) && len = 0x4C0 + plen + 16 + 3373 && s.staged 0x4B4 8 = 0 &&
    s.staged 0x4BC 4 = 0 && plain.len = plen && slot.state = 1 && bitOf slot.roles 1 && s.staged 0x18 8 = s.fuse.devKey &&
    sigOk && unwrapOk && tagOk

/-- The reason of the first installation check that fails, or 0 (R175). LAYERS other than 2 or 4 is refused with 0x04, a reason that
the manual does not state (assumption 47). -/
def State.installCheck (s : State) (m : Img) (container : Bool) : Nat :=
  let used := s.allFields.filter m.uses
  let layers := if s.fuse.variant = 2 then 2 else 4
  let checks : List (Bool × Nat) := [
    (container, 0x01),
    (m.formatOk, 0x02),
    (m.u 0x10 2 = 0x9A00, 0x03),
    ((List.range 48).all (fun f => !m.uses f || s.present f) && (m.layers = 2 || m.layers = 4) && decide (m.layers ≤ layers) &&
      (List.range 6).all (fun p => m.portWidth p = 0 || decide (p < s.nPorts)), 0x04),
    (used.all (fun f => !s.heldOut f && !s.dark f && !s.inReplan f), 0x05),
    (m.layoutOk s.segBytes, 0x06),
    (m.sectionsOk, 0x07),
    (m.fifoOk, 0x08),
    (m.flowsOk, 0x09),
    (m.stackOk, 0x0A),
    (m.refreshOk, 0x0B),
    ((m.dfloor (s.odEff 0x2410 2) (s.odEff 0x2410 1) s.pmin2).isSome, 0x0C),
    (m.ropeOk s.slotSize, 0x0E),
    (decide (m.blob.len ≤ s.copySize), 0x0F)]
  match checks.find? (fun c => !c.1) with
  | some c => c.2
  | none => 0

/-- The state of BC_IMG_STATUS after a refusal: READY where an image stays installed (R175). -/
def State.refuseImage (s : State) (op reason : Nat) : State :=
  let s := if s.image.isSome then s else s.setReg F.BC_IMG_STATUS_STATE 5
  (s.setReg F.BC_IMG_STATUS_REASON reason).cmd F.BC_IMG_CMD_STATUS F.BC_IMG_CMD_OP 2 op

/-- A tenant change that the sessions or the rope forbid (R371, R322). -/
def State.tenantBusy (s : State) : Bool :=
  s.tenant ≠ 0 && s.staged 7 1 ≠ s.tenant && s.ldg.sessions.any (fun e => e.2.state ≠ 0)

/-- INSTALL, check phase (R175): the commit follows with INSTALL_COMMIT. -/
def execInstall (len : BitVec 48) (sigOk unwrapOk tagOk : Bool) (plain : Blob) (s : State) : Res :=
  let m : Img := ⟨plain⟩
  if s.pendingImg.isSome then .next (s.setReg F.BC_IMG_STATUS_REASON 0x10)
  else if s.invocationRuns || s.tenantBusy || !s.ropeIdle then .next (s.refuseImage 1 0x10)
  else
    let s := s.setReg F.BC_IMG_CMD_LENGTH len.toNat
    let container := s.containerOk len.toNat sigOk unwrapOk tagOk plain
    let reason := s.installCheck m container
    if reason ≠ 0 then
      let s := (s.wipeStaging 0 len.toNat).refuseImage 1 reason
      let s := if container then s
        else (s.moduleFault 6 Code.trustContainer 0 0 false).setReg F.BC_TRUST_STATUS_FAIL Code.trustContainer
      .next s
    else .next (({ s with pendingImg := some m }.setReg F.BC_IMG_STATUS_STATE 1).cmd F.BC_IMG_CMD_STATUS F.BC_IMG_CMD_OP 1 1)

/-- The commit of a checked image of a tenant (R177, R371, R373); `len` bytes of the staging area hold its plaintext. A module
whose image has no rope descriptor then forms a rope of one (R271). -/
def State.putInstall (s : State) (m : Img) (tag len : Nat) : State :=
  let same : Bool := decide (s.copy = some m)
  let s := if s.tenant ≠ 0 && tag ≠ s.tenant then s.tenantWipe len else s
  let s := s.unformSolo
  let s := s.commitImage m (BitVec.ofNat 4 tag)
  let s : State := { s.wipeStaging 0 len with
    image := some m
    copy := some m
    pendingImg := none
    tenant := tag
    run := Run.zero
    invq := [] }
  let s : State := if same then s else { s with
    rope := { s.rope with slotA := CkpSlot.zero, slotB := CkpSlot.zero, committed := [], journal := [] }
    ldg := s.ldg.rebuildAll }
  let d := (m.dfloor (s.odEff 0x2410 2) (s.odEff 0x2410 1) s.pmin2).getD 0
  let s := s.imageRegs m d
  if m.hasRope then s else s.formSolo

/-- INSTALL_COMMIT: the commit phase of an INSTALL that passed its checks (R177, R373). -/
def execInstallCommit (s : State) : Res :=
  match s.pendingImg with
  | none => .next s
  | some m => .next ((s.putInstall m (s.staged 7 1) (s.reg F.BC_IMG_CMD_LENGTH)).cmd F.BC_IMG_CMD_STATUS F.BC_IMG_CMD_OP 0 1)

/-- REMOVE (R175, R178): the tenant of the image stays that of the last installed one (R371). -/
def execRemove (s : State) : Res :=
  if s.pendingImg.isSome then .next (s.setReg F.BC_IMG_STATUS_REASON 0x10)
  else if s.invocationRuns || !s.ropeIdle then .next (s.refuseImage 2 0x10)
  else
    let s := { s.unformSolo.clearArray true with image := none, copy := none, run := Run.zero, invq := [] }
    let s := ((s.setReg F.BC_IMG_STATUS_STATE 0).setReg F.BC_IMG_STATUS_DFLOOR 0).setReg F.BC_IMG_STATUS_BUILD 0
    let s := (s.setReg F.BC_IMG_ID_LO_ID 0).setReg F.BC_IMG_ID_HI_ID 0
    .next (s.cmd F.BC_IMG_CMD_STATUS F.BC_IMG_CMD_OP 0 2)

/-! ### Fields held out (R179 to R181) -/

/-- A tile set to HALT with colour 0. -/
def Tile.holdOut (t : Tile) : Tile :=
  { t with seq := { t.seq with state := .halt, cmdArm := false, colour := 0 } }

/-- HOLD_OUT (R179). -/
def execHoldOut (f : Fin 48) (s : State) : Res :=
  let no := s.cmd F.FLD_HOLD_STATUS F.FLD_HOLD_OP 2 1 f.val
  if !s.present f.val then .next s
  else if s.mode f.val ≠ 0 || s.heldOut f.val then .next no
  else .next (((s.mapTiles f.val Tile.holdOut).setReg F.FLD_HOLD_STATE 1 f.val).cmd F.FLD_HOLD_STATUS F.FLD_HOLD_OP 0 1 f.val)

/-- A tile zeroized and scrubbed for a field's return (R70, R180). -/
def Tile.returnWork (t : Tile) : Tile := { t.zeroScratch with scrOp := .none }

/-- RETURN (R180): the field is RETURNING until RETURN_COMPLETE. -/
def execReturn (f : Fin 48) (s : State) : Res :=
  if !s.present f.val then .next s
  else if s.reg F.FLD_HOLD_STATE f.val ≠ 1 then .next (s.cmd F.FLD_HOLD_STATUS F.FLD_HOLD_OP 2 2 f.val)
  else
    let s := if s.compOn f.val then s else { s with pw := { s.pw with wake := insertAsc f.val s.pw.wake } }
    let s := (s.mapTiles f.val Tile.returnWork).bloomField f.val
    .next ((s.setReg F.FLD_HOLD_STATE 2 f.val).cmd F.FLD_HOLD_STATUS F.FLD_HOLD_OP 1 2 f.val)

/-- RETURN_COMPLETE (R180): the zeroize, scrub and bloom have ended and the compute rail is on; the seams reopen. -/
def execReturnComplete (f : Fin 48) (s : State) : Res :=
  if s.reg F.FLD_HOLD_STATE f.val ≠ 2 || !s.compOn f.val then .next s
  else .next (((s.bloomFinish f.val).setReg F.FLD_HOLD_STATE 0 f.val).cmd F.FLD_HOLD_STATUS F.FLD_HOLD_OP 0 2 f.val)

end Sys2Proof.Machine
end

