-- ==== Sys2Proof/Machine/Power.lean ====
section
/-!
DEFINITION. Sys2Proof/Machine/Power.lean: the 48 V input, PWR_EN, coolant, heat, rails, MREF and the divider (spec 01_module R31 to
R41, 15_clocks_power).
-/

namespace Sys2Proof.Machine

/-! ### The 48 V input (R465, R466, R468) -/

/-- BROWN_OUT_WARNING: the 20 µs average `v` in 0.01 V lies below the warning level (R465). PWR_BOR.VMIN takes every average. -/
def execBrownOutWarning (v : BitVec 16) (s : State) : Res :=
  let s := s.setReg F.PWR_BOR_VMIN (min (s.reg F.PWR_BOR_VMIN) v.toNat)
  if s.reg F.PWR_STATUS_BOWARN = 1 || decide (10 * s.od 0x2400 1 ≤ v.toNat) then .next s
  else
    let s := (s.setReg F.PWR_STATUS_BOWARN 1).satReg F.PWR_BOR_WARNS
    .next ((s.moduleFault 5 Code.pwrBrownout 0 v.toNat false).setNeed 1 (min 32 (s.divNow + 2)))

/-- BROWN_OUT_CLEAR (R466). -/
def execBrownOutClear (s : State) : Res :=
  if s.reg F.PWR_STATUS_BOWARN = 0 then .next s
  else .next (((s.setReg F.PWR_STATUS_BOWARN 0).setNeed 1 0).moduleFault 5 Code.pwrBrownoutClear 0 0 false)

/-- PWR_OVER_LIMIT: the 1 s averages of the input and of each field, in watts (R468). -/
def execPwrOverLimit (total : BitVec 32) (fields : List (BitVec 16)) (s : State) : Res :=
  let w := fun (f : Nat) => (fields.getD f 0).toNat
  let lim := s.odEff 0x2410 1
  let fl := s.odEff 0x2410 2
  let s := s.setOd 0x4000 1 total.toNat
  let s := s.allFields.foldl (fun s f => (s.setReg F.FLD_PWR_POWER (w f) f).setReg F.FLD_PWR_OVER (b2n (decide (fl < w f))) f) s
  let high := decide (102 * lim < 100 * total.toNat) || s.allFields.any (fun f => decide (102 * fl < 100 * w f))
  let low := decide (100 * total.toNat < 95 * lim) && s.allFields.all (fun f => decide (100 * w f < 95 * fl))
  let s : State := { s with pw := { s.pw with under := if low then s.pw.under + 1 else 0 } }
  if high then
    let s := if s.pw.excess then s else
      ({ s with pw := { s.pw with excess := true } } : State).moduleFault 5 Code.pwrOverLimit 0 total.toNat false
    let n := s.pw.needs.get 0 3
    .next (s.setNeed 3 (min 32 ((if n = 0 then s.divNow else n) + 1)))
  else if decide (10 ≤ s.pw.under) then .next ({ s with pw := { s.pw with excess := false } }.setNeed 3 0)
  else .next s

/-! ### Standby, trip and leak (R31 to R33, R41, R474) -/

/-- R31: SWR at L3, and the compute, fabric and link rails off; start-up waits in STANDBY, or goes there when stage 2, where the
firmware verifies the parts that follow it, is done. -/
def State.standby (s : State) : State :=
  let lv := if s.pw.boot then s.pw.level else 3
  let s := (s.resetReq 4 1 3 true 0).railsOff
  let s := if s.reg F.BC_BOOT_STAGE = 2 then s else s.setReg F.BC_BOOT_STAGE 3
  { s with pw := { s.pw with boot := true, level := lv, phase := 0, rail := 0, tries := 0 } }

/-- A module trip (R474). -/
def State.trip (s : State) (cause : Nat) : State :=
  if s.reg F.PWR_STATUS_TRIP = 1 then s
  else
    let s := ((s.moduleFault 5 Code.modTrip 0 cause false).setOd 0x2300 8 0).standby
    (s.setReg F.PWR_STATUS_TRIP 1).setReg F.PWR_STATUS_TRIPCAUSE cause

/-- PWR_EN_LOW: PWR_EN has stayed low for 1 ms (R31, R33); before the firmware runs the pin is ignored (R27). -/
def execPwrEnLow (s : State) : Res :=
  let s := { s with pw := { s.pw with pwrEn := false } }
  .next (if s.fwRuns then s.standby else s)

/-- PWR_EN_HIGH (R32): a latched trip clears after PWR_EN low, and a leak response where LEAK_N is high (R41, R474). DESIGN CHOICE
(assumption 40): LEAK_N is looked at when PWR_EN goes high; where it rises only after that, the response stays latched until PWR_EN
has gone low and high again. -/
def execPwrEnHigh (leakLow : Bool) (s : State) : Res :=
  let was := s.pw.pwrEn
  let s := { s with pw := { s.pw with pwrEn := true, leakLow := leakLow, trayWet := s.pw.trayWet && leakLow } }
  if was then .next s
  else
    let s := if leakLow then s else s.setReg F.PWR_STATUS_LEAK 0
    .next (if s.reg F.PWR_STATUS_LEAK = 1 then s else s.clearTrip)

/-- LEAK_RESPONSE (R41): LEAK_N has been low for 10 ms, driven by the sled's sensor or by the module's own tray
sensor: which is a free value (assumption 41). The response is the firmware's: before it runs, the pin is held low and
nothing else happens (R27). -/
def execLeakResponse (s : State) : Res :=
  let own := s.fresh
  let s := own.2
  let s := { s with pw := { s.pw with leakLow := true, trayWet := decide (own.1 % 2 = 1) } }
  if s.reg F.PWR_STATUS_LEAK = 1 || !s.fwRuns then .next s
  else
    .next ((((s.trip 5).setReg F.PWR_STATUS_LEAK 1).moduleFault 5 Code.cltLeak 0 0 false).setOd 0x2300 8 0)

/-- Some compute rail is on. -/
def State.anyComp (s : State) : Bool := s.allFields.any s.compOn

/-- CLT_FLOW_LOW (R40). -/
def execCltFlowLow (s : State) : Res :=
  if !s.anyComp || decide (4000 ≤ s.flow) then .next s
  else .next ((s.warn 0 true).moduleFault 5 Code.cltFlowLow 0 s.flow false)

/-- FLOW_LOW_TRIP (R40). -/
def execFlowLowTrip (s : State) : Res :=
  if !s.anyComp || decide (3000 ≤ s.flow) then .next s else .next (s.trip 4)

/-- FLOW_PDO_TIMEOUT (R40). -/
def execFlowPdoTimeout (s : State) : Res := if !s.anyComp then .next s else .next (s.warn 1 true)

/-- CLT_RATE (R40). -/
def execCltRate (s : State) : Res :=
  if !s.anyComp then .next s
  else .next (({ s with pw := { s.pw with excursions := s.pw.excursions + 1 } }.warn 2 true).moduleFault 5 Code.cltRate 0 0 false)

/-- STANDBY_FLOW_WARNING (R389): start-up waits in stage 3 with PWR_EN high and low flow for 10 s. -/
def execStandbyFlowWarning (s : State) : Res :=
  if s.reg F.BC_BOOT_STAGE ≠ 3 || !s.pw.pwrEn || decide (4000 ≤ s.flow) || s.pw.flowWarned then .next s
  else .next (({ s with pw := { s.pw with flowWarned := true } }.warn 0 true).moduleFault 5 Code.cltFlowLow 0 s.flow false)

/-- CLEAR_TRIP (R474). -/
def execClearTrip (s : State) : Res :=
  let hot := s.allFields.any (fun f => decide (8500 ≤ signedOf 16 (s.reg F.FLD_THM_TMAX f)))
  if s.reg F.PWR_STATUS_LEAK = 1 || hot || decide (s.flow < 4000) then .next (s.cmd F.PWR_CMD_STATUS F.PWR_CMD_OP 2 1)
  else .next (s.clearTrip.cmd F.PWR_CMD_STATUS F.PWR_CMD_OP 0 1)

/-! ### Heat (R471 to R473) -/

/-- A field goes dark (R472). -/
def State.goDark (s : State) (f : Nat) : State :=
  if s.dark f then s
  else
    let cut := s.mode f = 2 && (s.field f).live
    let s := ((s.setReg F.FLD_PWR_DARK 1 f).satReg F.FLD_PWR_DARKS f).setRail f 0 false
    let s := { s with pw := { s.pw with darkAt := s.pw.darkAt.set 0 f (s.ref + 1) } }
    let s := (s.mapTiles f Tile.darken).setReg F.THM_STATUS_DARK (s.fieldMask s.dark)
    if cut then s.fieldFault f Code.fieldDark else s.moduleFault 1 Code.fieldDark f 0 false

/-- A field is dark no more; stage 3 stands while another is (R471, R473). -/
def State.undark (s : State) (f : Nat) : State :=
  let s := { s.setReg F.FLD_PWR_DARK 0 f with pw := { s.pw with darkAt := s.pw.darkAt.set 0 f 0 } }
  (s.setReg F.THM_STATUS_DARK (s.fieldMask s.dark)).setStage 2 (s.allFields.any s.dark)

/-- The index and value of the largest of 16 readings. -/
def hottest (t : Nat → Int) : Nat × Int :=
  (List.range 15).foldl (fun b d => if b.2 < t (d + 1) then (d + 1, t (d + 1)) else b) (0, t 0)

/-- The readings taken into FLD_THM, FLD_TEL_DIODE and THM_TEMP; `t f d` is diode `d` of field `f` in 0.01 °C. With no compute
rail on there is no gradient. -/
def State.takeTemps (s : State) (t : Nat → Nat → Int) : State :=
  let s := s.allFields.foldl (fun s f =>
    let h := hottest (t f)
    let s := (s.setReg F.FLD_THM_TMAX (wrapNat 16 h.2) f).setReg F.FLD_THM_DIODE h.1 f
    (List.range 4).foldl (fun s k => s.setReg F.FLD_TEL_DIODE_TEMP
      (((List.range 4).map (fun j => wrapNat 16 (t f (4 * k + j)) * 2 ^ (16 * j))).foldl (· + ·) 0) f k) s) s
  let lit := s.allFields.filter s.compOn
  match lit with
  | [] => s.setReg F.THM_TEMP_GRAD 0
  | f0 :: _ =>
    let mx := lit.foldl (fun (b : Nat × Int) f => if b.2 < (hottest (t f)).2 then (f, (hottest (t f)).2) else b) (f0, (hottest (t f0)).2)
    let mn := lit.foldl (fun b f => (List.range 16).foldl (fun b d => min b (t f d)) b) (t f0 0)
    let s := ((s.setReg F.THM_TEMP_TMAX (wrapNat 16 mx.2)).setReg F.THM_TEMP_TMAX_FIELD mx.1).setReg
      F.THM_TEMP_TMAX_DIODE (hottest (t mx.1)).1
    (s.setReg F.THM_TEMP_GRAD (wrapNat 16 (mx.2 - mn))).setReg F.THM_TEMP_TMIN (wrapNat 16 mn)

/-- The largest reading of the last sample over every field. -/
def State.tmax (s : State) : Int := s.allFields.foldl (fun b f => max b (signedOf 16 (s.reg F.FLD_THM_TMAX f))) (-32768)

/-- DIODE_SAMPLE (R471): 16 readings of each field, field by field, in 0.01 °C. -/
def execDiodeSample (temps : List (BitVec 16)) (s : State) : Res :=
  let s := s.takeTemps (fun f d => signedOf 16 (temps.getD (16 * f + d) 0).toNat)
  let mx := s.tmax
  let grad := s.reg F.THM_TEMP_GRAD
  let s := if (decide (8500 ≤ mx) || decide (1200 ≤ grad)) && !bitOf (s.reg F.THM_STATUS_STAGES) 0 then
      (s.setStage 0 true).moduleFault 5 Code.thmWarn 0 (wrapNat 16 mx) false else s
  let s := if (decide (8900 ≤ mx) || decide (1350 ≤ grad)) && !bitOf (s.reg F.THM_STATUS_STAGES) 1 then
      ((s.setStage 1 true).moduleFault 5 Code.thmStepdown 0 (wrapNat 16 mx) false).setNeed 2 (min 32 (s.divNow + 2)) else s
  let s := (s.allFields.filter (fun f => s.compOn f && decide (9300 ≤ signedOf 16 (s.reg F.FLD_THM_TMAX f)))).foldl
    (fun s f => s.goDark f) s
  let s := s.setStage 2 (s.allFields.any s.dark)
  let keep := fun (on : Bool) (o : Option Nat) => if on then (match o with
    | some r => some r
    | none => some s.ref) else none
  let s := { s with pw := { s.pw with
    hotSince := keep (decide (9500 ≤ mx)) s.pw.hotSince
    gradSince := keep (decide (1500 ≤ grad)) s.pw.gradSince } }
  let past := fun (o : Option Nat) (n : Nat) => match o with
    | some r => decide (r + n ≤ s.ref)
    | none => false
  let cause := if past s.pw.hotSince 100000 then 1 else if past s.pw.gradSince 100000000 then 2
    else if s.allFields.any (fun f => s.dark f && decide (9300 ≤ signedOf 16 (s.reg F.FLD_THM_TMAX f)) &&
      decide (s.pw.darkAt.get 0 f + 10000000 ≤ s.ref + 1)) then 3 else 0
  .next (if cause = 0 then s else (s.setStage 3 true).trip cause)

/-- STEPDOWN_ESCALATE (R471): another 5 ms in the condition of stage 2. -/
def execStepdownEscalate (s : State) : Res :=
  let cond := decide (8900 ≤ s.tmax) || decide (1350 ≤ s.reg F.THM_TEMP_GRAD)
  if !bitOf (s.reg F.THM_STATUS_STAGES) 1 || !cond then .next s else .next (s.setNeed 2 (min 32 (s.pw.needs.get 0 2 + 2)))

/-- THERMAL_STAGE_LEAVE (R471): stage 1 or 2 on the last sample's readings; stage 3 leaves under R473 and stage 4 is latched. -/
def execThermalStageLeave (stage : Fin 4) (s : State) : Res :=
  let v := s.reg F.THM_STATUS_STAGES
  let g := s.reg F.THM_TEMP_GRAD
  if stage.val = 0 && bitOf v 0 && decide (s.tmax < 8200 ∧ g < 1050) then .next (s.setStage 0 false)
  else if stage.val = 1 && bitOf v 1 && decide (s.tmax < 8500 ∧ g < 1200) then .next ((s.setStage 1 false).setNeed 2 0)
  else if stage.val = 3 && bitOf v 3 && s.reg F.PWR_STATUS_TRIP = 0 then .next (s.setStage 3 false)
  else .next s

/-- FIELD_RETURN (R473), 1,024 refcycles or more after the last field that woke (R470). -/
def execFieldReturn (f : Fin 48) (s : State) : Res :=
  if !s.dark f.val || decide (8500 ≤ signedOf 16 (s.reg F.FLD_THM_TMAX f.val)) || s.reg F.PWR_STATUS_STANDBY = 1 ||
      s.inReplan f.val || !s.wakeFree then .next s
  else
    let s := (s.wakeRail f.val).undark f.val
    let s := ((s.mapTiles f.val Tile.zeroScratch).bloomField f.val).bloomFinish f.val
    let s := (s.log.migrate.filter (fun m => m.1 = f.val)).foldl (fun s m => s.migrateCut m.1 m.2) (s.reloadField f.val)
    .next ((s.catchUp f.val).restoreReturn f.val)

/-! ### Rails (R390, R394, R464, R470) -/

/-- PWR_RAIL_FAIL: a rail that is on loses power-good: 0 VCOMP, 1 VFAB or 2 VDRAM of a field, any other number a rail of the
module. -/
def execPwrRailFail (rail : Fin 8) (f : Fin 48) (s : State) : Res :=
  if rail.val ≤ 2 && (!s.present f.val || !bitOf (s.reg F.FLD_PWR_RAILS f.val) rail.val) then .next s
  else
    let s := s.moduleFault 5 Code.pwrRailFail f.val rail.val false
    if rail.val ≤ 1 then .next (s.replan f.val 6)
    else .next (((if rail.val = 2 then s.setRail f.val 2 false else s)).trip 6)

/-- The failure of start-up (R394). -/
def State.bootFail (s : State) (stage fault : Nat) : State :=
  (((s.setReg F.BC_BOOT_STAGE 11).setReg F.BC_BOOT_FAILSTAGE stage).setReg F.BC_BOOT_FAULT fault).moduleFault 6 fault 0 stage false

/-- The rails of the phase are done: the next phase or stage. After an L3, host-ready follows the module PLL and host port steps of
the release, and start-up waits for them in stage 8 (R395). -/
def State.nextPhase (s : State) : State :=
  let p := s.pw.phase
  let s := { s with pw := { s.pw with phase := p + 1, rail := 0, tries := 0 } }
  if p = 0 then s.setReg F.BC_BOOT_STAGE 5
  else if p = 1 then s
  else if s.pw.level = 4 then s.setReg F.BC_BOOT_STAGE 6
  else if s.linkReset then s.setReg F.BC_BOOT_STAGE 8
  else { s with pw := { s.pw with boot := false } }.setReg F.BC_BOOT_STAGE 9

/-- RAIL_POWER_GOOD; a field in REPLAN status keeps its rails off (R495): the converter of the rail being switched on
reports power-good, or its wait expires (R390, R394). -/
def execRailPowerGood (good : Bool) (s : State) : Res :=
  let p := s.pw
  if s.reg F.BC_BOOT_STAGE ≠ 4 || !p.boot then .next s
  else
    let skip := decide (p.phase ≠ 0) && s.inReplan p.rail
    let s := if skip then s
      else if good then (if p.phase = 0 then { s with pw := { p with caps := p.caps ||| 2 ^ p.rail } }
        else if p.phase = 1 then (s.setRail p.rail 1 true).setLock p.rail true else (s.setRail p.rail 0 true).undark p.rail) else s
    if skip then
      let s : State := { s with pw := { s.pw with rail := p.rail + 1, tries := 0 } }
      .next (if s.nFields ≤ p.rail + 1 then s.nextPhase else s)
    else if !good && decide (p.tries < 2) then .next { s with pw := { s.pw with tries := p.tries + 1 } }
    else if !good && p.phase = 0 then .next (s.bootFail 4 Code.pwrRailFail)
    else
      let s := if good then s else
        ((s.setReg F.BC_BOOT_FAILSTAGE 4).setReg F.BC_BOOT_FAULT Code.pwrRailFail).replan p.rail 6
      let s := { s with pw := { s.pw with rail := p.rail + 1, tries := 0 } }
      .next (if (if p.phase = 0 then 4 else s.nFields) ≤ p.rail + 1 then s.nextPhase else s)

/-- FIELD_WAKE (R470): the next field that waits, 1,024 refcycles or more after the last. -/
def execFieldWake (s : State) : Res :=
  match s.pw.wake with
  | [] => .next s
  | f :: r =>
    if !s.wakeFree then .next s
    else
      let s := { s with pw := { s.pw with wake := r } }
      .next (if s.inReplan f then s else (s.wakeRail f).catchUp f)

/-! ### MREF (R454 to R456) -/

/-- MREF_SWITCH (R455): SRC and PORT as written, and the READY flags as measured; source 0 is always ready (R454). -/
def execMrefSwitch (src : Fin 4) (port : Fin 8) (ready : BitVec 3) (s : State) : Res :=
  let s := ((s.setReg F.CLK_MREF_SRC src.val).setReg F.CLK_MREF_PORT port.val).setReg F.CLK_MREF_READY
    (s.mrefReady ready.toNat port.val)
  let st := s.reg F.BC_ROPE_STATUS_STATE
  let no := src.val = 3 || !bitOf (s.mrefReady ready.toNat port.val) src.val || s.mrefHeld || !(st = 0 || st = 1 || st = 7)
  if no then .next ((s.setReg F.CLK_MREF_REFUSED 1).setReg F.CLK_MREF_STATUS 2)
  else .next ((s.takeMref src.val port.val).setReg F.CLK_MREF_STATUS 0)

/-- MREF_FAIL (R456): the source in use stops; every field PLL has lost lock (R428). -/
def execMrefFail (s : State) : Res :=
  let src := s.reg F.CLK_MREF_CUR_SRC
  let r := s.reg F.CLK_MREF_READY
  let s := s.setReg F.CLK_MREF_READY (if src ≠ 0 && bitOf r src then r - 2 ^ src else r)
  let s := ((s.setReg F.CLK_MREF_CUR_SRC 0).setReg F.CLK_MREF_CUR_PORT 7).setReg F.CLK_PLL_FIELD 0
  .next (s.stopRamp.resetReq 6 8 (s.sourceLevel 6) true 0)

/-! ### The divider (R459 to R461) -/

/-- One half step towards the goal at acycle `a`; at the goal the ramp ends and the target is computed again. -/
def State.halfStep (s : State) (a : Nat) : State :=
  let d := s.divNow
  let g := s.pw.goal
  let d' := if d < g then d + 1 else if g < d then d - 1 else d
  let s := (s.setReg F.CLK_DIV_CURRENT d').setReg F.BC_ROPE_RATIO_CURRENT d'
  let s := { s with pw := { s.pw with nextStep := a + (192512 + 10 * d' - 1) / (10 * d') } }
  if d' = g && s.pw.anns.isEmpty then (s.setReg F.CLK_DIV_RAMPING 0).retarget else s

/-- DIVIDER_STEP (R460): the first step of an announced change at its ratio point, or the next step of a ramp. -/
def execDividerStep (s : State) : Res :=
  match (s.pw.anns.filter (fun p => decide (p.1 ≤ s.acyc))).getLast? with
  | some (p, t) =>
    let s := { s with pw := { s.pw with anns := s.pw.anns.filter (fun q => !decide (q.1 ≤ s.acyc)), goal := t } }
    .next (s.halfStep p)
  | none =>
    if s.reg F.CLK_DIV_RAMPING = 1 && s.divNow ≠ s.pw.goal && decide (s.pw.nextStep ≤ s.acyc) then .next (s.halfStep s.pw.nextStep)
    else .next s

/-- HOSTREQ (R461). -/
def execHostreq (v : BitVec 8) (s : State) : Res :=
  .next ((s.setReg F.CLK_DIV_HOSTREQ v.toNat).setNeed 4 (if v.toNat < 8 then 0 else min 32 v.toNat))

end Sys2Proof.Machine
end

