-- ==== Sys2Proof/Machine/Reset.lean ====
section
/-!
DEFINITION. Sys2Proof/Machine/Reset.lean: reset sources, the reset commands and the steps of a release (spec 14_reset).
-/

namespace Sys2Proof.Machine

/-- Some session is OPEN, ORPHAN or REBUILD. -/
def State.sessionsBusy (s : State) : Bool := s.ldg.sessions.any (fun e => e.2.state ≠ 0)

/-- POR (R428, R440): `latched` says that the input stage's BOR latch still holds. -/
def execPor (latched : Bool) (s : State) : Res :=
  .next (s.coldStart (if latched && s.rst.latch then 1 else 0))

/-- BOR (R440, R465): the input is switched off; nothing runs until the next POR. -/
def execBor (s : State) : Res :=
  let z := s.coldStart 1
  .next { z with rst := { z.rst with latch := true }, pw := { z.pw with boot := false } }

/-- MOD_RESET_N_LOW (R29, R30); ignored until Base Camp firmware runs (R27). -/
def execModResetNLow (s : State) : Res :=
  let s := if 2 ≤ s.reg F.BC_BOOT_STAGE then s.resetReq 2 0 (s.sourceLevel 2) true 0 else s
  .next (s.setReg F.RST_STATE_PINLOW 1)

/-- MOD_RESET_N_HIGH (R30). -/
def execModResetNHigh (s : State) : Res := .next (s.setReg F.RST_STATE_PINLOW 0)

/-- Whether a host request is refused: its level, a live section in scope without FORCE (R429, R436), a HOLD while a rope or a
session stands in its way, a release without a hold (R446). `op` is 1 RESET, 2 HOLD, 3 RELEASE. -/
def State.swrRefused (s : State) (op level : Nat) (force all0 : Bool) (fields : Nat) : Bool :=
  if op = 3 then s.rst.hold.isNone
  else
    decide (op = 0 ∨ 3 < op) || decide (3 < level) || decide (s.sourceLevel 4 < level) ||
      (!force && (s.scope (all0 || decide (2 ≤ level)) fields).any (fun f => s.mode f ≠ 0 && (s.field f).live)) ||
      (op = 2 && (!s.ropeIdle || s.sessionsBusy))

/-- A host request that is not refused. -/
def State.swrDo (s : State) (op level : Nat) (all0 : Bool) (fields : Nat) : State :=
  if op = 3 then ({ s with rst := { s.rst with hold := none } } : State).syncRst
  else
    let s : State := if op = 2 then { s with rst := { s.rst with hold := some level } } else s
    s.resetReq 4 4 level all0 fields

/-- A host request through RST_CMD and RST_SCOPE. -/
def State.rstCmd (s : State) (op level : Nat) (force : Bool) : State :=
  let all0 : Bool := s.reg F.RST_SCOPE_ALL = 1
  let fields := s.reg F.RST_SCOPE_FIELDS
  let no := s.swrRefused op level force all0 fields
  let s := ((s.setReg F.RST_CMD_LEVEL level).setReg F.RST_CMD_FORCE (b2n force)).cmd F.RST_CMD_STATUS F.RST_CMD_OP
    (if no then 2 else 0) op
  if no then s else s.swrDo op level all0 fields

/-- RESET (R435, R436). -/
def execReset (level : BitVec 4) (force : Bool) (s : State) : Res := .next (s.rstCmd 1 level.toNat force)

/-- HOLD (R446). -/
def execHold (level : BitVec 4) (force : Bool) (s : State) : Res := .next (s.rstCmd 2 level.toNat force)

/-- RST_RELEASE (R446). -/
def execRstRelease (s : State) : Res := .next (s.rstCmd 3 0 false)

/-- MIN_HOLD_END (R438): 80 refcycles have passed. A member whose fields have halted in the L1 of an ABORT restores (R280). -/
def execMinHoldEnd (s : State) : Res :=
  if !s.rst.active || s.rst.heldMin then .next s
  else
    let s := { s with rst := { s.rst with heldMin := true } }
    .next (if s.ropeState = 5 && decide (1 ≤ s.rst.level) then s.setRopeState 6 else s)

/-- RELEASE_STEP (R441). -/
def execReleaseStep (ready : BitVec 3) (sel : Fin 4) (s : State) : Res := .next (s.releaseStep ready.toNat sel.val)

/-- FIELD_PLL_UNLOCK (R431): a field whose own release has passed step 5 waits for its PLL again (R443, R451). -/
def execFieldPllUnlock (f : Fin 48) (s : State) : Res :=
  if !s.present f.val || !s.pllLocked f.val then .next s
  else
    let again := s.rst.active && s.inL1 f.val && decide (5 ≤ s.fieldStep f.val)
    let s := (s.setLock f.val false).stopRamp
    let s := if again then (s.setReg F.FLD_RST_STATE 4 f.val).doneStep f.val 0 else s
    .next (s.resetReq 6 7 1 false (2 ^ f.val))

/-- MODULE_PLL_UNLOCK (R431): the reference PLL or the link PLL. -/
def execModulePllUnlock (link : Bool) (s : State) : Res :=
  let k := b2n link
  let m := s.reg F.CLK_PLL_MOD
  if !bitOf m k then .next s
  else .next ((s.setReg F.CLK_PLL_MOD (m - 2 ^ k)).stopRamp.resetReq 6 9 (min 3 (s.fuse.ceilings.getD 6 3)) true 0)

/-- FIELD_PLL_LOCK (R443). -/
def execFieldPllLock (f : Fin 48) (s : State) : Res :=
  if !s.present f.val || !bitOf (s.reg F.FLD_PWR_RAILS f.val) 1 || s.inReplan f.val then .next s
  else .next ((s.setLock f.val true).catchUp f.val)

/-- RST_RELEASE_STALL (R443): three attempts of 1 ms have failed. -/
def execRstReleaseStall (f : Fin 48) (s : State) : Res :=
  if s.reg F.FLD_RST_STATE f.val ≠ 4 || s.inReplan f.val then .next s
  else .next ((s.moduleFault 1 Code.rstReleaseStall f.val 0 false).replan f.val 6)

/-- The firmware in both flashes fails verification: the ROM waits in RECOVERY (R388). -/
def State.recovery (s : State) : State :=
  let s := (s.setReg F.BC_BOOT_STAGE 1).setReg F.BC_BOOT_FAULT Code.trustFwVerify
  (s.setReg F.BC_TRUST_STATUS_FAIL Code.trustFwVerify).moduleFault 6 Code.trustFwVerify 0 0 false

/-- A firmware image passes the signature and version checks (R360, R361). -/
def State.verifies (s : State) (w : Firmware) : Bool :=
  w.sigOk && (List.range s.fuse.minSvn.length).all (fun k =>
    decide (s.fuse.minSvn.getD k 0 ≤ (w.svns.getD k 0).toNat))

/-- The flash that the ROM boots, true for B, with its firmware: the first that verifies (R360, R388, R396). -/
def State.bootFlash (s : State) : Option (Bool × Firmware) :=
  let a := (false, s.pw.flashA)
  let b := (true, s.pw.flashB)
  (if s.pw.firstB then [b, a] else [a, b]).find? (fun x => s.verifies x.2)

/-- The ROM passes control to a flash's firmware, which loads its stored entries and serves (R387, R407, R413). -/
def State.runFirmware (s : State) (b : Bool) (w : Firmware) : State :=
  let s := ((s.setReg F.BC_TRUST_STATUS_BOOTB (b2n b)).setReg F.BC_ID_FWVER w.version.toNat).setReg F.BC_BOOT_STAGE 2
  { s with
    trust := { s.trust with svn := (List.range w.svns.length).foldl (fun m k => SMap.set 0 m k (w.svns.getD k 0).toNat) [] }
    pw := { s.pw with tileFw := if w.partsOk then w.tile else Blob.empty } }

/-- WDT (R433): both pairs restart at the boot ROM, which verifies the firmware whatever the level. The watchdog is suspended
while the TAP halts Base Camp (R521). -/
def execWdt (s : State) : Res :=
  if s.trust.halted then .next s else
  let lv := s.sourceLevel 3
  let s := s.resetReq 3 0 lv true 0
  if lv = 4 then .next s
  else
    let s := ((s.setReg F.BC_PAIRS_P0 0).setReg F.BC_PAIRS_P1 1).setReg F.BC_PAIRS_ACTIVE 0
    .next (if s.bootFlash.isSome then s else s.recovery)

/-- A lock-up reset of a field (R432). -/
def State.lockupReset (s : State) (f qual : Nat) : State := s.resetReq 7 qual (s.sourceLevel 7) false (2 ^ f)

/-- STALL (R428, R432): FLD_SEC.ACYC of a field has not changed for 4,096 refcycles. -/
def execStall (f : Fin 48) (s : State) : Res :=
  if !(s.field f.val).live || !s.pllLocked f.val then .next s else .next (s.lockupReset f.val 10)

/-- SCH_CORE_LOCKUP (R56, R432): a handler or start-up run has passed CC_WDOG.LIMIT. -/
def execSchCoreLockup (a : Addr) (s : State) : Res :=
  match s.locate a.toNat with
  | none => .next s
  | some (f, key) =>
    let t := s.tile f key
    if s.coreReset f || !(t.core.state = .handler || t.core.state = .startup) || t.reg F.CC_WDOG_LIMIT = 0 then .next s
    else .next ((s.absorb f key (TW.start t s.acyc).lockup).lockupReset f 11)

end Sys2Proof.Machine
end

