-- ==== Sys2Proof/Machine/BaseCamp.lean ====
section
/-!
DEFINITION. Sys2Proof/Machine/BaseCamp.lean: the lockstep pairs, start-up, recovery, firmware update, standalone tests and
surveys (spec 12_base_camp).
-/

namespace Sys2Proof.Machine

/-! ### Lockstep pairs (R385, R386, R432) -/

/-- A pair's state: 0 ACTIVE, 1 STANDBY, 2 TESTING, 3 FAILED. -/
def State.pair (s : State) (k : Nat) : Nat := if k = 0 then s.reg F.BC_PAIRS_P0 else s.reg F.BC_PAIRS_P1
def State.setPair (s : State) (k v : Nat) : State := if k = 0 then s.setReg F.BC_PAIRS_P0 v else s.setReg F.BC_PAIRS_P1 v
/-- The pair that is not the active one. -/
def State.otherPair (s : State) : Nat := 1 - s.reg F.BC_PAIRS_ACTIVE

/-- The active pair stops, and its self-test begins. -/
def State.pairStops (s : State) : State :=
  let lost := decide (2 ≤ s.pair s.otherPair)
  (s.setPair (s.reg F.BC_PAIRS_ACTIVE) 2).moduleFault 6 Code.bcPairFail 0 (s.reg F.BC_PAIRS_ACTIVE + 256 * b2n lost) false

/-- The standby pair takes over; at a SWAP the pair before it becomes standby. -/
def State.takeover (s : State) : State :=
  let a := s.reg F.BC_PAIRS_ACTIVE
  let o := s.otherPair
  let s := if s.pair a = 0 then s.setPair a 1 else s
  let s := ((s.setPair o 0).setReg F.BC_PAIRS_ACTIVE o).satReg F.BC_PAIRS_TAKEOVERS
  if s.pw.swap then { s with pw := { s.pw with swap := false } }.setReg F.BC_PAIRS_STATUS 0 else s

/-- PAIR_DISAGREE (R385). -/
def execPairDisagree (s : State) : Res := if s.pair (s.reg F.BC_PAIRS_ACTIVE) ≠ 0 then .next s else .next s.pairStops

/-- BCPAIR (R432): the active pair has stopped committing for 1 ms; the event enters the reset history and applies no level. -/
def execBcpair (s : State) : Res :=
  if s.pair (s.reg F.BC_PAIRS_ACTIVE) ≠ 0 || s.pair s.otherPair ≠ 1 then .next s
  else .next ((s.pushHist ⟨7, 12, 0, false, 0⟩ s.rst.active).pairStops.takeover)

/-- TAKEOVER (R385, R386). -/
def execTakeover (s : State) : Res :=
  if s.pair s.otherPair ≠ 1 || (s.pair (s.reg F.BC_PAIRS_ACTIVE) = 0 && !s.pw.swap) then .next s else .next s.takeover

/-- PAIR_SELF_TEST_DONE: the self-test of a pair ends (R385, R386). -/
def execPairSelfTestDone (k : Fin 2) (pass : Bool) (s : State) : Res :=
  if s.pair k.val ≠ 2 then .next s
  else
    let s := s.setPair k.val (if pass then 1 else 3)
    let asked : Bool := s.reg F.BC_PAIRS_STATUS = 1 && s.reg F.BC_PAIRS_OP = 1
    let s := if asked then s.setReg F.BC_PAIRS_STATUS 0 else s
    .next (if pass && asked then s else s.classReport 6 Code.bcPairFail 0 0 0 k.val (if pass then 1 else 2) 0 false)

/-- TEST_STANDBY (R386). -/
def execTestStandby (s : State) : Res :=
  if s.pair s.otherPair ≠ 1 then .next (s.cmd F.BC_PAIRS_STATUS F.BC_PAIRS_OP 2 1)
  else .next ((s.setPair s.otherPair 2).cmd F.BC_PAIRS_STATUS F.BC_PAIRS_OP 1 1)

/-- SWAP (R386): the takeover comes at the next commit. -/
def execSwap (s : State) : Res :=
  if s.pair s.otherPair ≠ 1 then .next (s.cmd F.BC_PAIRS_STATUS F.BC_PAIRS_OP 2 2)
  else .next ({ s with pw := { s.pw with swap := true } }.cmd F.BC_PAIRS_STATUS F.BC_PAIRS_OP 1 2)

/-! ### The ledger's state (R332, R340, R342, R354) -/

/-- The ledger STATE changes; HP_EVENT of both ports shows HOLD and JFULL. -/
def State.setLedger (s : State) (v : Nat) : State :=
  if s.ldg.state = v then s
  else
    let s := { s with ldg := { s.ldg with state := v } }
    if v = 2 then (s.hpEvent 0 F.HP_EVENT_HOLD).hpEvent 1 F.HP_EVENT_HOLD
    else if v = 3 then (s.hpEvent 0 F.HP_EVENT_JFULL).hpEvent 1 F.HP_EVENT_JFULL
    else s

/-- A port's lease is valid. -/
def State.leaseValid (s : State) (port : Nat) : Bool := decide (s.ref + 1 < s.ldg.lease.get 0 port)

/-- A port's mirror descriptor is enabled. -/
def Ledger.mirrorOn (l : Ledger) (port : Nat) : Bool := l.u (0x700D + 64 * port) 1 % 2 = 1

/-- The ports that take mirror writes (R354). -/
def State.mirrorPorts (s : State) : List Nat := [0, 1].filter (fun p => s.leaseValid p && s.ldg.mirrorOn p)

/-- Whether acceptance is held: field 0 is not ACTIVE, or no port takes mirror writes in mirrored mode (R342, R354). -/
def State.held (s : State) : Bool := s.mode 0 ≠ 2 || (s.od 0x7000 3 = 1 && s.mirrorPorts.isEmpty)

/-- OPEN or HOLD, unless the journal is full. -/
def State.refreshLedger (s : State) : State :=
  if s.held then s.setLedger 2 else if s.ldg.state = 3 then s else s.setLedger 1

/-! ### Start-up (R387 to R395, R494, R495) -/

/-- Start-up failures that leave the stage: a field enters REPLAN status. -/
def State.stageBad (s : State) (stage reason : Nat) (fs : List Nat) : State :=
  fs.foldl (fun s f => if !s.present f then s else
    ((s.setReg F.BC_BOOT_FAILSTAGE stage).setReg F.BC_BOOT_FAULT Code.rprReplan).replan f reason) s

/-- A device key of 64 bytes from a secret, under its own label (R357). -/
def deviceKey (secret : List Nat) (label : Nat) : List Nat := hkdfExpand (hkdfExtract [] secret) (Config.keyLabel label) 64

/-- The boot ROM reads the PUF SRAM, corrects it with the helper data and combines it with the fused seed: the UDS, in SRAM, from
which the DeviceID pair, the image unwrap pair and the storage key come into the seal engine (R357). The reading is noisy; what
it is corrected to is the chip's own, with the same keys at each start-up (their lifetime is that of the module). -/
def State.deriveKeys (s : State) : State :=
  let raw := Config.pufRead s.free
  let uds := bytesLe 32 (Config.deviceSecret (Config.pufCorrected s.fuse.helper) s.fuse.seed)
  let k : DeviceKeys := ⟨deviceKey uds 0, [], deviceKey uds 2, (deviceKey uds 3).take 32⟩
  { s with free := s.free + 1, trust := { s.trust with puf := raw, uds := uds, keys := k } }

/-- The Alias pair, of the DeviceID secret and the SHA-384 of the Base Camp firmware, which block 2 measures; the ROM erases the UDS
before it passes control (R357). -/
def State.passControl (s : State) : State :=
  let k := s.trust.keys
  { s with trust := { s.trust with
    uds := []
    keys := { k with aliasKey := deviceKey (k.deviceId ++ bytesLe 48 (s.trust.meas.get 0 2)) 1 } } }

/-- Stage 2, FIRMWARE, after the ROM has derived the device keys and verified a flash (R357, R360, R387, R407, R413, R495): the
logbook's pending row skips end the REPLAN status of their fields. -/
def State.stageRom (s : State) : State :=
  let s := s.deriveKeys
  match s.bootFlash with
  | none => s.recovery
  | some (b, w) =>
    let s := (((s.remeasure 2).passControl.runFirmware b w).loadStored (fun _ => true)).nodeBoot
    let s := [3, 5, 7, 8, 9].foldl (fun s k => s.remeasure k) s
    s.setReg F.FLT_REPLAN_FIELDS (s.reg F.FLT_REPLAN_FIELDS - s.fieldMask (fun f =>
      s.inReplan f && !(s.log.crev.get Crev.zero f).pending.isEmpty))

/-- Stage 3, STANDBY: the profile pins have been read and the tile, converter and optical-engine firmware verified (R34,
R360). -/
def State.stageFirmware (s : State) (sel : Nat) : State :=
  let s := ({ s with pw := { s.pw with sel := sel } } : State).activate sel 0
  let s := if s.pw.tileFw.len ≠ 0 then s
    else (s.moduleFault 6 Code.trustFwVerify 0 0 false).setReg F.BC_TRUST_STATUS_FAIL Code.trustFwVerify
  (s.setReg F.BC_BOOT_STAGE 3).setReg F.PWR_STATUS_STANDBY 1

/-- Stage 4, RAILS, once PWR_EN is high, the flow is 40 L/min or more, no trip or leak stands and the firmware of every part has
verified (R31, R39, R41, R360, R474). -/
def State.stageStandby (s : State) : State :=
  if !s.pw.pwrEn || decide (s.flow < 4000) || s.reg F.PWR_STATUS_TRIP = 1 || s.reg F.PWR_STATUS_LEAK = 1 || s.pw.tileFw.len = 0 then s
  else
    let s := (s.setReg F.BC_BOOT_STAGE 4).setReg F.PWR_STATUS_STANDBY 0
    { s with pw := { s.pw with phase := 0, rail := 0, tries := 0 } }

/-- Stage 5, CLOCKS: MREF's source is selected and the module PLLs lock; the fabric rails follow. A low MOD_RESET_N holds the
module PLL step (R32, R389). The code of a failure is not stated (assumption 5). -/
def State.stageClocks (s : State) (ready : Nat) (lock : Bool) : State :=
  if s.reg F.RST_STATE_PINLOW = 1 then s else
  let s := s.selectMref ready
  if lock then (s.setReg F.CLK_PLL_MOD 3).setReg F.BC_BOOT_STAGE 4
  else
    let r := s.fresh
    r.2.bootFail 5 (r.1 % 65536)

/-- A seam defect found at start-up (R494): the row or column of the faulty link is skipped in both fields that the seam
joins. -/
def State.seamDefect (s : State) (f : Nat) (north : Bool) (line : Nat) : State :=
  let g := if north then f + 8 else f + 1
  if !s.hasSeam f north then s
  else
    let lines := fun (k : Nat) => if north then (s.crev k).cols else (s.crev k).rows
    if (lines f).contains line && (lines g).contains line then s
    else if [f, g].any (fun k => !(lines k).contains line && decide (4 ≤ (lines k).length)) then (s.replan f 5).replan g 5
    else
      let add := fun (c : Crev) => if north then { c with cols := insertAsc line c.cols } else { c with rows := insertAsc line c.rows }
      { s with log := { s.log with crev := (s.log.crev.upd Crev.zero f add).upd Crev.zero g add } }

/-- The tests of a field's seam wires, recorded in the crevasse map (R129). -/
def State.seamTests (s : State) (ws : List WireTest) (f : Nat) : State :=
  let ls := (ws.filter (fun w => w.f.val = f && s.hasSeam f w.north)).map (fun w =>
    (⟨w.north, w.line.val, w.dir.toNat, w.group0.val, w.group1.val⟩ : SeamLink))
  ({ s with log := { s.log with crev := s.log.crev.upd Crev.zero f (fun c => { c with seams := ls }) } }).seamRegs f

/-- Stage 6, TRAIN (R194, R129, R394): the stack controllers' training, then the test of every seam wire: spares replace failed
wires, and a seam defect goes by the crevasse map. -/
def State.stageTrain (s : State) (io : StageInput) : State :=
  if s.rst.active && decide (s.rst.step < 4) then s
  else
    let s := s.stageBad 6 4 (io.bad.map (·.val))
    let bad := io.wires.filter (fun w => decide (2 < w.group0.val ∨ 2 < w.group1.val))
    let s := bad.foldl (fun s w => s.seamDefect w.f.val w.north w.line.val) s
    let s := s.allFields.foldl (fun s f => s.seamTests io.wires f) s
    let s := if io.wires.isEmpty then s else s.remeasure 5
    s.setReg F.BC_BOOT_STAGE 7

/-- Stage 7, MAP (R391, R493, R197): the reserve map is rebuilt, and pending row skips take effect; a field whose
TILE_ID reads back differently enters REPLAN status, with a REASON that the manual does not state (assumption 5). -/
def State.stageMap (s : State) (bad : List Nat) : State :=
  let pend := s.log.crev.any (fun e => !e.2.pending.isEmpty)
  let crev := s.allFields.foldl (fun m f => SMap.upd Crev.zero m f (fun (c : Crev) =>
    { c with rows := c.pending.foldl (fun r x => insertAsc x r) c.rows, pending := [] })) s.log.crev
  let s := { s with log := { s.log with crev := crev } }
  let s := (if pend then s.remeasure 5 else s).rebuildReserve
  let s := if bad.isEmpty then s
    else
      let r := s.fresh
      r.2.stageBad 7 (r.1 % 256) bad
  s.setReg F.BC_BOOT_STAGE 8

/-- Stage 8, BLOOM, ends when every field is confirmed: HOST_READY, with the ledger initialised (R332, R334, R387). After an L3 it
waits for the link layer alone, and the ledger is kept (R395). -/
def State.stageBloom (s : State) : State :=
  if s.pw.level ≠ 4 then
    (if s.linkReset then s else { s with pw := { s.pw with boot := false } }.setReg F.BC_BOOT_STAGE 9)
  else if s.rst.active && decide (s.rst.step < 6) then s
  else
    let s := s.allFields.foldl (fun s f => s.bloomFinish f) s
    let s := (s.setReg F.BC_BOOT_STAGE 9).setReg F.BC_BOOT_MS (s.ref / 100000)
    let s := { s with pw := { s.pw with boot := false }, ldg := { s.ldg with mem := [], sessions := [] } }
    ((s.hpEvent 0 F.HP_EVENT_BOOTGEN).hpEvent 1 F.HP_EVENT_BOOTGEN).refreshLedger

/-- STARTUP_STAGE (R387): the current stage's condition is met. Stages 4 moves by RAIL_POWER_GOOD. -/
def execStartupStage (io : StageInput) (s : State) : Res :=
  if !s.pw.boot then .next s
  else
    let k := s.reg F.BC_BOOT_STAGE
    .next (if k = 0 then s.stageRom
      else if k = 2 then s.stageFirmware io.sel.val
      else if k = 3 then s.stageStandby
      else if k = 5 then s.stageClocks io.ready.toNat io.lock
      else if k = 6 then s.stageTrain io
      else if k = 7 then s.stageMap (io.bad.map (·.val))
      else if k = 8 then s.stageBloom
      else s)

/-! ### Recovery and firmware update (R388, R396) -/

/-- An MCTP response of the recovery ROM over I3C: message type, vendor ID and command, then the data. -/
def State.romAnswer (s : State) (cmd : Nat) (data : List Nat) : State := s.emit .mctp 2 0x7E ([0x1F, 0xE7, cmd] ++ data)

/-- RECOVERY_STATUS (R388): the content of the answer is not stated (assumption 1). -/
def execRecoveryStatus (s : State) : Res :=
  if s.reg F.BC_BOOT_STAGE ≠ 1 then .next s
  else
    let r := s.fresh
    .next (r.2.romAnswer 1 (bytesLe 4 r.1))

/-- RECOVERY_WRITE (R388): up to 64 bytes into the 4 MiB buffer. -/
def execRecoveryWrite (off : BitVec 32) (data : List (BitVec 8)) (s : State) : Res :=
  if s.reg F.BC_BOOT_STAGE ≠ 1 || decide (64 < data.length) || decide (2 ^ 22 < off.toNat + data.length) then .next s
  else .next ({ s with pw := { s.pw with recovery := SMap.setList 0 s.pw.recovery off.toNat data } }.romAnswer 2 [])

/-- RECOVERY_COMMIT (R388): `w` is the firmware image that the buffer holds. One that fails writes nothing. -/
def execRecoveryCommit (w : Firmware) (s : State) : Res :=
  if s.reg F.BC_BOOT_STAGE ≠ 1 then .next s
  else if !s.verifies w then .next (s.romAnswer 3 [])
  else .next (({ s with pw := { s.pw with flashA := w, boot := true, recovery := [] } }.setReg F.BC_BOOT_STAGE 0).romAnswer 3 [])

/-- BLOOM_CHECK: a tile's check ends; `good` says that its memories hold what was written (R392). -/
def execBloomCheck (a : Addr) (good : Bool) (s : State) : Res :=
  match s.locate a.toNat with
  | none => .next s
  | some (f, key) =>
    let t := s.tile f key
    if !t.bloom then .next s
    else
      let t' := t.bloomEnd good
      let s := s.setTile f key t'
      let s := if t'.reg F.CC_BLOOM_OK = 1 && t.reg F.CC_BLOOM_OK ≠ 1 then s.addReg F.FLD_BLOOM_OKCOUNT f else s
      .next (s.bloomSettle f)

/-- FIRMWARE_UPDATE (R396): `w` is the image staged at the offset written to 0x7100:01. One that fails verification writes
nothing. -/
def execFirmwareUpdate (off : BitVec 32) (w : Firmware) (s : State) : Res :=
  if s.reg F.BC_BOOT_STAGE < 2 then .next s
  else
    let s := s.setOd 0x7100 1 off.toNat
    if !s.verifies w then
      .next (((s.moduleFault 6 Code.trustFwVerify 0 off.toNat false).setReg F.BC_TRUST_STATUS_FAIL Code.trustFwVerify).odCmd
        0x7100 1 2 Abort.state)
    else
      let b := s.reg F.BC_TRUST_STATUS_BOOTB
      let p := s.pw
      let p := if b = 1 then { p with flashA := w, firstB := false } else { p with flashB := w, firstB := true }
      .next (({ s with pw := p } : State).odCmd 0x7100 1 0 0)

/-! ### Standalone operation (R398, R399) -/

/-- A standalone test is refused: a session or an invocation is in the way, or the rope is (R398). -/
def State.soloRefused (s : State) : Bool :=
  s.sessionsBusy || !(s.reg F.BC_ROPE_STATUS_STATE = 0 || s.reg F.BC_ROPE_STATUS_STATE = 7) || s.invocationRuns ||
    s.pendingImg.isSome || s.dict.test.isSome

/-- A stored test image is installed through the installation checks, and its invocation waits to be issued. -/
def State.soloInstall (s : State) (ix : Nat) (ok : Bool) (tenant : Nat) (plain : Blob) (until_ : Option Nat) : State :=
  let m : Img := ⟨plain⟩
  let s := s.setOd 0x2600 1 ix
  let reason := s.installCheck m (ok && decide (ix < 8 ∧ 1 ≤ tenant ∧ tenant ≤ 15))
  if s.soloRefused then s.odCmd 0x2600 1 2 Abort.state
  else if reason ≠ 0 then
    let s := if s.image.isSome then s else s.setReg F.BC_IMG_STATUS_STATE 5
    (s.setReg F.BC_IMG_STATUS_REASON reason).odCmd 0x2600 1 2 Abort.state
  else
    let s := (s.putInstall m tenant 0).odCmd 0x2600 1 1 0
    { s with dict := { s.dict with test := some ⟨ix, until_, false, 0⟩ } }

/-- STANDALONE_TEST (R398): the index written to 0x2600:01, whether that image's container passes its check, its tenant and
its plaintext. -/
def execStandaloneTest (ix : BitVec 8) (ok : Bool) (tenant : Fin 16) (plain : Blob) (s : State) : Res :=
  .next (s.soloInstall ix.toNat ok tenant.val plain none)

/-- BURN_IN (R399): for `secs` seconds at a divider of `d2` half steps; only in Crocus. -/
def execBurnIn (ix : BitVec 8) (secs : BitVec 32) (d2 : BitVec 8) (ok : Bool) (tenant : Fin 16) (plain : Blob) (s : State) : Res :=
  if !s.crocus then .next (s.odCmd 0x2600 1 2 Abort.state)
  else
    let s' := s.soloInstall ix.toNat ok tenant.val plain (some (s.ref + secs.toNat * 100000000))
    .next (if s.dict.test.isNone && s'.dict.test.isSome then s'.setNeed 4 (min 32 (max 8 d2.toNat)) else s')

/-! ### Surveys (R400 to R403) -/

/-- A pass becomes due. -/
def State.svyDue (s : State) (f : Nat) : State :=
  if s.reg F.FLD_SVY_DUE f = 1 then s
  else ((s.setReg F.FLD_SVY_DUE 1 f).setReg F.FLD_SVY_SLICE 0 f).setReg F.FLD_SVY_FAILS 0 f

/-- SURVEY_DUE: PERIOD hours have passed (R401). -/
def execSurveyDue (f : Fin 48) (s : State) : Res :=
  if !s.present f.val || s.reg F.BC_SVY_CFG_PERIOD = 0 then .next s else .next (s.svyDue f.val)

/-- START_PASS (R401). -/
def execStartPass (f : Fin 48) (s : State) : Res :=
  if !s.present f.val then .next s
  else .next ((s.svyDue f.val).cmd F.FLD_SVY_CMD_STATUS F.FLD_SVY_CMD_OP 0 1 f.val)

/-- Tests that failed in a field, and failed again at once: by tile, with the number of the test, whose bits 11:8 name the unit
(R489, R500). -/
def State.svyFails (s : State) (f : Nat) (fails : List (Fin 17424 × BitVec 16)) : State :=
  fails.foldl (fun s x =>
    let k := x.1.val
    let s := s.classReport 0 Code.svyTestFail f (132 * (f % 8) + k % 132) (132 * (f / 8) + k / 132) x.2.toNat 2 0 false
    (s.satReg F.FLD_SVY_FAILS f).permanent f k (2 ^ bits x.2.toNat 8 4)) s

/-- The acycle of the next entry switch that is named, with none to come where nothing is named. -/
def State.nextEntry (s : State) : Option Nat :=
  match s.run.nxt with
  | some (i, _, _) => some i.start
  | none => s.invq.head?.map (·.start)

/-- A survey gap of a field (R400). -/
def State.surveyGap (s : State) (f : Nat) : Bool :=
  !(s.field f).live && s.rope.capture.isNone && s.rope.restore.isNone && !s.inReset f && !s.dark f && s.compOn f &&
    (match s.nextEntry with
      | some a => decide (s.acyc + 7168 ≤ a)
      | none => true)

/-- SURVEY_SLICE (R400): one slice on every tile; `fails` lists the tests that failed twice. -/
def execSurveySlice (f : Fin 48) (fails : List (Fin 17424 × BitVec 16)) (s : State) : Res :=
  if s.reg F.BC_SVY_CFG_EN ≠ 1 || s.reg F.FLD_SVY_DUE f.val ≠ 1 || !s.surveyGap f.val then .next s
  else
    let s := s.svyFails f.val fails
    let k := s.reg F.FLD_SVY_SLICE f.val
    if k < 255 then .next (s.setReg F.FLD_SVY_SLICE (k + 1) f.val)
    else
      let s := ((s.setReg F.FLD_SVY_SLICE 0 f.val).setReg F.FLD_SVY_DUE 0 f.val).setReg F.FLD_SVY_OVERDUE 0 f.val
      .next ((s.setReg F.FLD_SVY_AGE 0 f.val).addReg F.FLD_SVY_PASSES f.val)

/-- SVY_OVERDUE (R402). -/
def execSvyOverdue (f : Fin 48) (s : State) : Res :=
  if s.reg F.FLD_SVY_DUE f.val ≠ 1 || s.reg F.FLD_SVY_OVERDUE f.val = 1 then .next s
  else .next ((s.setReg F.FLD_SVY_OVERDUE 1 f.val).moduleFault 1 Code.svyOverdue f.val 0 false)

/-- Fields with a full survey that runs, not one that waits. -/
def State.fullRunning (s : State) (f : Nat) : Bool := s.reg F.FLD_SVY_FULL f = 1 && !s.pw.fullWait.contains f

/-- FULL (R403): refused unless the field is OUT or no image is installed; at most eight run at once. -/
def execFull (f : Fin 48) (s : State) : Res :=
  if !s.present f.val then .next s
  else if !(s.reg F.FLD_HOLD_STATE f.val = 1 || s.image.isNone) || s.reg F.FLD_SVY_FULL f.val = 1 then
    .next (s.cmd F.FLD_SVY_CMD_STATUS F.FLD_SVY_CMD_OP 2 2 f.val)
  else
    let n := (s.allFields.filter s.fullRunning).length
    let s := if 8 ≤ n then { s with pw := { s.pw with fullWait := s.pw.fullWait ++ [f.val] } } else s
    .next ((s.setReg F.FLD_SVY_FULL 1 f.val).cmd F.FLD_SVY_CMD_STATUS F.FLD_SVY_CMD_OP 1 2 f.val)

/-- 512 open words of a bundle store: store `k` of the free value `v`. -/
def openStore (v k : Nat) : SMap (BitVec 128) :=
  (List.range 512).foldl (fun m i => SMap.set 0 m i (BitVec.ofNat 128 (v / 2 ^ (128 * (512 * k + i))))) []

/-- What a full survey leaves of a tile: scratch zeroized, and bundle stores whose words are open and not valid (R403);
`v` is the free value of the survey. -/
def Tile.surveyed (v : Nat) (t : Tile) : Tile :=
  { t.haltStores.zeroScratch with store0 := openStore v 0, store1 := openStore v 1 }

/-- The field after a full survey: zeroized, and bloomed again; the next waiting field starts. -/
def State.fullEnd (s : State) (f : Nat) : State :=
  let r := s.fresh
  let s := r.2.mapTiles f (Tile.surveyed r.1)
  let s := (s.bloomField f).bloomFinish f
  match s.pw.fullWait with
  | [] => s
  | _ :: rest => { s with pw := { s.pw with fullWait := rest } }

/-- ABANDON_FULL (R403). -/
def execAbandonFull (f : Fin 48) (s : State) : Res :=
  if s.reg F.FLD_SVY_FULL f.val ≠ 1 then .next (s.cmd F.FLD_SVY_CMD_STATUS F.FLD_SVY_CMD_OP 2 3 f.val)
  else
    let run := s.fullRunning f.val
    let rest := s.pw.fullWait.filter (fun k => k ≠ f.val)
    let s := (s.setReg F.FLD_SVY_FULL 0 f.val).cmd F.FLD_SVY_CMD_STATUS F.FLD_SVY_CMD_OP 0 3 f.val
    .next (if run then s.fullEnd f.val else { s with pw := { s.pw with fullWait := rest } })

/-- FULL_SURVEY_DONE (R403): `fails` lists the tests that failed twice. -/
def execFullSurveyDone (f : Fin 48) (fails : List (Fin 17424 × BitVec 16)) (s : State) : Res :=
  if !s.fullRunning f.val then .next s
  else
    let s := (s.setReg F.FLD_SVY_FAILS 0 f.val).svyFails f.val fails
    let s := (s.setReg F.FLD_SVY_FULL (if fails.isEmpty then 2 else 3) f.val).cmd F.FLD_SVY_CMD_STATUS F.FLD_SVY_CMD_OP 0 2 f.val
    .next (s.fullEnd f.val)

end Sys2Proof.Machine
end

