-- ==== Sys2Proof/Machine/Faults.lean ====
section
/-!
DEFINITION. Sys2Proof/Machine/Faults.lean: fault reports and cells, the logbook, retests and repair, the belay, and CPER records
(spec 16_faults).
-/

namespace Sys2Proof.Machine

/-! ### Places -/

/-- Physical coordinates of a place in a field. -/
def physX (f key : Nat) : Nat := 132 * (f % 8) + key % 132
def physY (f key : Nat) : Nat := 132 * (f / 8) + key / 132
/-- The field and place of physical coordinates. -/
def placeOf (px py : Nat) : Nat × Nat := (px / 132 + 8 * (py / 132), px % 132 + 132 * (py % 132))

/-- Refcycles of an hour. -/
def hourRef : Nat := 360000000000

/-! ### Retests (R489, R490) -/

/-- A retest is due. -/
def State.retestDue (s : State) (f key why sampled : Nat) : State :=
  if s.log.retests.any (fun r => r.field = f && r.key = key) then s
  else { s with log := { s.log with retests := s.log.retests ++ [⟨f, key, why, sampled⟩] } }

/-- The tile beside a tile at a logical position, on a mesh port (0 N, 1 E, 2 S, 3 W): the sender that RTR_ECC.UE_PORT names. -/
def State.beside (s : State) (f key p : Nat) : Option (Nat × Nat) :=
  match s.position f key with
  | none => none
  | some (x, y) =>
    let gx := 128 * (f % 8) + x
    let gy := 128 * (f / 8) + y
    let (hx, hy) := if p = 0 then (gx, gy + 1) else if p = 1 then (gx + 1, gy) else if p = 2 then (gx, gy - 1) else (gx - 1, gy)
    if (p = 2 && gy = 0) || (p = 3 && gx = 0) then none else s.locate (pairOf2 hx hy)

/-- The origin of an abort (R480): of the triggers that wait, the lowest in section acycle, field, y and x. -/
def Report.before (a b : Report) : Bool :=
  let y : Report → Nat := fun r => (match r.lpair with
    | some v => v / 1024
    | none => r.py)
  let x : Report → Nat := fun r => (match r.lpair with
    | some v => v % 1024
    | none => r.px)
  decide (a.acyc < b.acyc) || (a.acyc = b.acyc && (decide (a.field < b.field) || (a.field = b.field &&
    (decide (y a < y b) || (y a = y b && decide (x a < x b))))))

/-- A control-core trap or lock-up, which is charged to the image and never to the tile (R489). -/
def chargedToImage (code : Nat) : Bool := code = Code.coreTrap || code = Code.coreLockup

/-- The abort that a tile originates: it and the senders at its error port are retested, and three aborts within 24 h ask for
a retest that classifies it (R489, R490). -/
def State.chargeOrigin (s : State) (r : Report) : State :=
  if r.subject ≠ 0 then s
  else
    let (f, key) := placeOf r.px r.py
    let k := physKey r.px r.py
    let day := (s.log.origins.filter (fun o => o.1 = k && decide (s.ref < o.2 + 24 * hourRef))).length
    let s := if chargedToImage r.code then s else { s with log := { s.log with origins := s.log.origins ++ [(k, s.ref)] } }
    let s := s.retestDue f key (if 2 ≤ day && !chargedToImage r.code then 3 else 0) key
    if r.code ≠ Code.eccHopUe then s
    else match s.beside f key ((s.tile f key).reg F.RTR_ECC_UE_PORT) with
      | some (g, k) => s.retestDue g k 0 k
      | none => s

/-! ### Fault reports (R477 to R480, R489) -/

/-- A seam slip outside a known clock event: CLK_ISLAND; the third within 24 h makes the field permanent (R489). -/
def State.seamSlip (s : State) (f : Nat) : State :=
  if s.reg F.CLK_DIV_RAMPING = 1 || !s.aclk f then s
  else
    let n := (s.log.charges.filter (fun c => c.1 = 2 && c.2.1 = f && decide (s.ref < c.2.2 + 24 * hourRef))).length
    let s := { s with log := { s.log with charges := s.log.charges ++ [(2, f, s.ref)] } }
    let s := s.classReport 2 Code.clkIsland f 0 0 0 (if 2 ≤ n then 2 else 0) 0 false
    if 2 ≤ n then s.replan f 3 else s

/-- FAULT_REPORT: Base Camp takes the oldest report (R478). `persist` says that an uncorrectable word fails when it is read 8
more times (R489). -/
def execFaultReport (persist : Bool) (s : State) : Res :=
  match s.reports with
  | [] => .next s
  | r :: rest =>
    let s := { s with reports := rest }
    let s := if r.tree then s.updField r.field (fun g => { g with queued := g.queued - 1 }) else s
    let s := if !r.trig then s
      else if s.rope.bad.isSome then s.trigger r.code r.rope s.own
      else
        let o := (rest.filter (·.trig)).foldl (fun a b => if b.before a then b else a) r
        ((s.chargeOrigin o).holdLow r.rope).trigger o.code o.rope s.own
    let word : Bool := r.code = Code.eccScrUe || r.code = Code.eccStkUe
    let r := if word && r.subject = 0 then { r with classif := if persist then 2 else 1 } else r
    let (f, key) := placeOf r.px r.py
    let s := s.logReport r
    let s := if !word || r.subject ≠ 0 then s
      else if persist then s.permanent f key (if r.code = Code.eccScrUe then 8 else 512) else s.transient f key
    let s := if r.code = Code.seamSlip then s.seamSlip r.field else s
    .next (if r.code = Code.rprReplan && s.mode r.field ≠ 0 then s.enterReplan 0 else s)

/-- FAULT: a FAULT cell of another member is written to the logbook with SUBJECT 7 (R481). -/
def execFault (s : State) : Res :=
  match s.takeCell (fun c => c.type = 5) with
  | none => .next s
  | some ((_, c), s) =>
    let at_ := fun (o n : Nat) => leAt c.body (o - 4) n
    let phys := at_ 0x18 4
    let lg := at_ 0x1C 4
    let e : LogEntry := {
      seqNo := 0, time := at_ 8 8, bootgen := at_ 0x10 4, code := at_ 0x14 2, subject := 7, classif := at_ 0x17 1
      px := phys % 2048, py := phys / 2048 % 1024, field := phys / 2 ^ 21 % 64
      lpair := if lg / 2 ^ 20 % 2 = 1 then some (lg % 2 ^ 20) else none
      module_ := at_ 0x20 2, action := at_ 0x22 1, count := at_ 0x23 1, tod := at_ 0x24 4, rope := at_ 0x28 8
      detail := at_ 0x30 8, acyc := 0 }
    .next (if 4096 ≤ s.log.buffered then { s with log := { s.log with lost := true } }.satReg F.FLT_STATUS_LOST else s.newEntry e)

/-- LOGBOOK_FLUSH: the buffer has reached both flashes; a loss is then recorded (R479). -/
def execLogbookFlush (s : State) : Res :=
  let lost := s.log.lost
  let s := { s with log := { s.log with buffered := 0, lost := false } }
  .next (if lost then s.logReport ⟨Code.logOverflow, 6, 0, 0, 0, none, 0, s.acyc, 0, false, false, 0, 0⟩ else s)

/-- ECC_CE_RATE: a tile's corrected-error count has risen by more than the threshold in an hour (R489). -/
def execEccCeRate (f : Fin 48) (key : Fin 17424) (rise : BitVec 32) (s : State) : Res :=
  if !s.present f.val || decide (rise.toNat ≤ s.od 0x5100 3) then .next s
  else
    let px := physX f.val key.val
    let py := physY f.val key.val
    let s := { s with log := { s.log with tiles := s.log.tiles.upd TileSum.zero (physKey px py) (fun t =>
      { t with state := max t.state 1, lastHour := s.ref / hourRef }) } }
    .next (s.classReport 0 Code.eccCeRate f.val px py 0 3 0 false)

/-- FLT_CMD's tile and field as written. -/
def State.fltCmd (s : State) (op px py field status : Nat) : State :=
  (((s.setReg F.FLT_CMD_PX px).setReg F.FLT_CMD_PY py).setReg F.FLT_CMD_FIELD field).cmd F.FLT_CMD_STATUS F.FLT_CMD_OP status op

/-- Physical coordinates name a tile of a field of the order code. -/
def State.isTile (s : State) (px py : Nat) : Bool := decide (px < 1056) && s.present (placeOf px py).1

/-- RETEST (R490): refused while the tile's field has a live section. -/
def execRetest (px : BitVec 11) (py : BitVec 10) (s : State) : Res :=
  let (f, key) := placeOf px.toNat py.toNat
  if !s.isTile px.toNat py.toNat || (s.field f).live then .next (s.fltCmd 1 px.toNat py.toNat 0 2)
  else .next ((s.retestDue f key 0 key).fltCmd 1 px.toNat py.toNat 0 1)

/-- RETEST_RESULT: a retest that is due has run on a tile; `fails` is the mask of the units that failed (R489, R490). -/
def execRetestResult (f : Fin 48) (key : Fin 17424) (fails : BitVec 10) (s : State) : Res :=
  match s.log.retests.find? (fun r => r.field = f.val && r.key = key.val) with
  | none => .next s
  | some r =>
    if (s.field f.val).live || (s.ropeState = 6 && decide (16 ≤ s.log.retested)) then .next s
    else
      let rest := s.log.retests.filter (fun x => x ≠ r)
      let mine := fun (x : Retest) => r.why = 2 && x.why = 2 && x.field = r.field && x.sampled = r.sampled
      let s := { s with log := { s.log with retested := s.log.retested + 1, retests := rest } }
      let asked : Bool := s.reg F.FLT_CMD_OP = 1 && s.reg F.FLT_CMD_STATUS = 1 &&
        placeOf (s.reg F.FLT_CMD_PX) (s.reg F.FLT_CMD_PY) = (f.val, key.val)
      let s := if asked then s.setReg F.FLT_CMD_STATUS 0 else s
      if fails ≠ 0 then
        let s := { s with log := { s.log with retests := rest.map (fun x => if mine x then { x with why := 0 } else x) } }
        .next (s.permanent f.val key.val fails.toNat)
      else if r.why = 1 || r.why = 3 || (r.why = 2 && !rest.any mine) then .next (s.transient f.val r.sampled)
      else .next s

/-- MARK_DEAD (R493). -/
def execMarkDead (px : BitVec 11) (py : BitVec 10) (s : State) : Res :=
  let (f, key) := placeOf px.toNat py.toNat
  if !s.isTile px.toNat py.toNat then .next (s.fltCmd 2 px.toNat py.toNat 0 2)
  else .next ((s.permanent f key 0).fltCmd 2 px.toNat py.toNat 0 0)

/-- CLEAR_REPLAN (R495): accepted only for an OUT field whose last full survey passed. -/
def execClearReplan (f : Fin 48) (s : State) : Res :=
  let ok := s.inReplan f.val && s.reg F.FLD_HOLD_STATE f.val = 1 && s.reg F.FLD_SVY_FULL f.val = 2
  if !ok then .next (s.fltCmd 3 (s.reg F.FLT_CMD_PX) (s.reg F.FLT_CMD_PY) f.val 2)
  else .next ((s.setReg F.FLT_REPLAN_FIELDS (s.reg F.FLT_REPLAN_FIELDS - 2 ^ f.val)).fltCmd 3 (s.reg F.FLT_CMD_PX)
    (s.reg F.FLT_CMD_PY) f.val 0)

/-! ### Column migration (R496 to R499) -/

/-- The live extent of a tile's stack segment in bytes (R497). -/
def State.liveExtent (s : State) (t : Tile) (e : TDir) (ly : Nat) : Nat :=
  let hs := t.handles.foldl (fun n h => if h.2.valid && h.2.stackSpace then max n (h.2.base.toNat + h.2.length.toNat) else n) 0
  if ly = 0 then s.segBytes else max hs e.stackBytes

/-- A tile that receives the content of the tile west of it (R497 step 3); `n` is the live extent. -/
def Tile.receive (d t : Tile) (n : Nat) : Tile :=
  let inv := (List.range 4).foldl (fun (x : Tile) i =>
    (x.setReg F.SCH_INVP_PODD (t.reg F.SCH_INVP_PODD i) i).setReg F.SCH_INVP_PEVEN (t.reg F.SCH_INVP_PEVEN i) i) d
  { inv with
    scratch := t.scratch
    store0 := t.store0
    store1 := t.store1
    handles := t.handles
    shadows := t.shadows
    stack := (t.stack.filter (fun c => decide (8 * c.1 < n))).foldr (fun c m => SMap.set CWord.zero m c.1 c.2)
      (d.stack.keep (fun k => decide (n ≤ 8 * k)))
    seq := { d.seq with act := t.seq.act, actValid := t.seq.actValid, stbyValid := t.seq.stbyValid, actCount := t.seq.actCount
                        stbyCount := t.seq.stbyCount } }

/-- The faulty tile's content as it is passed on: its own where scratch, stack port, router and DRAM passed the retest, else
rebuilt from the image copy (R497 step 4). -/
def State.passedOn (s : State) (f key : Nat) (t : Tile) (e : TDir) : Tile :=
  let k := physKey (physX f key) (physY f key)
  if (s.log.tiles.get TileSum.zero k).failed &&& 0x2C8 = 0 then t
  else match s.copy with
    | some m => Tile.putField m e (BitVec.ofNat 4 s.tenant) { t with scratch := [], stack := [] }
    | none => { t with scratch := [], stack := [], handles := [], shadows := [] }

/-- RPR_MIGRATED: the migration of a field completes (R497). -/
def execRprMigrated (f : Fin 48) (s : State) : Res :=
  match s.log.migrate.find? (fun m => m.1 = f.val) with
  | none => .next s
  | some (_, col) =>
    if (s.field f.val).live then .next s
    else
      let c := s.crev f.val
      let rows := (List.range 132).filter (fun y => !c.rows.contains y)
      let cols := (List.range 132).filter (fun x => !c.cols.contains x)
      let dirOf := fun (lx ly : Nat) => (match s.copy with
        | some m => if s.mode f.val ≠ 0 then m.tdir f.val lx ly else ⟨0, 0, 0, 0⟩
        | none => ⟨0, 0, 0, 0⟩)
      let cells := (List.range 128).flatMap (fun ly => (List.range 128).filterMap (fun lx =>
        let x := cols.getD lx 0
        if x < col then none
        else
          let y := rows.getD ly 0
          let src := x + 132 * y
          let t := s.tile f.val src
          let e := dirOf lx ly
          let t := if x = col && c.dead.contains src then s.passedOn f.val src t e else t
          let dst := cols.getD (lx + 1) 0 + 132 * y
          some (dst, (s.tile f.val dst).receive t (s.liveExtent t e ly))))
      let stay := (List.range 128).map (fun ly => (col + 132 * rows.getD ly 0, s.tile f.val (col + 132 * rows.getD ly 0)))
      let lost := (c.dead.filter (fun k => k % 132 = col && (s.position f.val k).isSome &&
        (s.log.tiles.get TileSum.zero (physKey (physX f.val k) (physY f.val k))).failed &&& 0x2C8 ≠ 0)).flatMap (fun k =>
          ((s.tile f.val k).handles.filter (fun h => h.2.valid && h.2.app && decide (0 < s.committedMark f.val k h.1))).map
            (fun h => (k, h.1)))
      let s := { s with log := { s.log with
        crev := s.log.crev.upd Crev.zero f.val (fun c => { c with cols := insertAsc col c.cols })
        migrate := s.log.migrate.filter (fun m => m ≠ (f.val, col)) } }
      let s := (stay ++ cells).foldl (fun s p => s.setTile f.val p.1 p.2) s
      let s := { s with ldg := s.ldg.rebuildSome (fun i => lost.any (fun h => Config.holdsSession f.val h.1 h.2 i)) }
      let s := (s.rebuildReserve.setReg F.BC_ROPE_STATUS_REPLAYS 0).remeasure 5
      .next (s.classReport 1 Code.rprMigrated f.val 0 0 col 0 3 false).beginMigrations

/-! ### The belay (R482 to R487) -/

/-- The belay interval in force (R483, R486). -/
def State.belayInterval (s : State) : Nat := if s.rope.burst then 256 else s.od 0x5100 1

/-- The free spares of a physical row of a field (R482), by place. -/
def State.freeSpares (s : State) (f row : Nat) : List Nat :=
  ((List.range 132).map (fun x => x + 132 * row)).filter (fun k =>
    (s.position f k).isNone && !(s.crev f).dead.contains k)

/-- BELAY_SAMPLE (R483): `found` says that an instance starts within 256 acycles. -/
def execBelaySample (f : Fin 48) (row : Fin 132) (found : Bool) (s : State) : Res :=
  let i := s.belayInterval
  let c := s.crev f.val
  let sp := s.freeSpares f.val row.val
  if i = 0 || s.mode f.val ≠ 2 || !(s.field f.val).live || (s.position f.val (physOf c.cols 0 + 132 * row.val)).isNone ||
      s.acyc % i ≠ 17 * row.val % i || sp.isEmpty || (s.field f.val).belay.any (fun b => b.row = row.val) then .next s
  else
    let k := (s.field f.val).samples.get 0 row.val
    let s := s.updField f.val (fun g => { g with samples := g.samples.set 0 row.val (k + 1) })
    if !found then .next (s.satReg F.FLD_BLY_CNT_IDLE f.val)
    else
      let key := physOf c.cols (k % 128) + 132 * row.val
      let n := sp.length
      let ch := if 2 ≤ n then [sp.getD (2 * k % n) 0, sp.getD ((2 * k + 1) % n) 0] else sp
      let s := s.setTile f.val key ((((s.tile f.val key).setReg F.BLY_TAP_ROLE 1).setReg F.BLY_TAP_PEER
        (physX f.val (ch.getD 0 0))).count 7 1)
      let pair := s.pairAt f.val key
      let s := ch.foldl (fun s x => s.setTile f.val x (((s.tile f.val x).setReg F.BLY_TAP_ROLE 2).setReg F.BLY_TAP_PEER pair)) s
      .next (s.updField f.val (fun g => { g with belay := g.belay ++ [⟨row.val, key, decide (k / 128 % 2 = 1), ch⟩] }))

/-- A fault of the belay on a tile: DETAIL holds the unit and the vote (R488). -/
def State.blyFault (s : State) (f key code : Nat) (vu : Bool) (vote : Nat) (trig : Bool) : State :=
  let s := if trig then s.invalidate else s
  s.classReport 0 code f (physX f key) (physY f key) (b2n vu + 2 * vote) 0 0 trig

/-- Charges of a kind against a place within the repeat window (R489). -/
def State.chargesOf (s : State) (kind k : Nat) : Nat :=
  (s.log.charges.filter (fun c => c.1 = kind && c.2.1 = k && decide (s.ref < c.2.2 + s.od 0x5100 2 * hourRef))).length

/-- A further charge. -/
def State.charge (s : State) (kind k : Nat) : State :=
  { s with log := { s.log with charges := s.log.charges ++ [(kind, k, s.ref)] } }

/-- BELAY_COMPARE (R484, R485): whether the instance was cut short, and the comparisons of the tile with its first and second
checker and of the checkers with each other. -/
def execBelayCompare (f : Fin 48) (row : Fin 132) (cut t1 t2 cc : Bool) (s : State) : Res :=
  match (s.field f.val).belay.find? (fun b => b.row = row.val) with
  | none => .next s
  | some b =>
    let idle := fun (t : Tile) => (t.setReg F.BLY_TAP_ROLE 0).setReg F.BLY_TAP_PEER 0
    let s := s.updField f.val (fun g => { g with belay := g.belay.filter (fun x => x ≠ b) })
    let s := (b.key :: b.checkers).foldl (fun s k => s.setTile f.val k (idle (s.tile f.val k))) s
    if cut || !(s.field f.val).live then .next s
    else
      let s := s.addReg F.FLD_BLY_CNT_COMPARED f.val
      let s := b.checkers.foldl (fun s k => s.setTile f.val k ((s.tile f.val k).count 7 1)) s
      let two := decide (2 ≤ b.checkers.length)
      let unit := if b.vu then 4 else 2
      let phys := fun (k : Nat) => physKey (physX f.val k) (physY f.val k)
      if t1 && (t2 || !two) then .next s
      else if two && cc && !t1 then
        let n := s.chargesOf 0 (phys b.key)
        let s := (s.satReg F.FLD_BLY_CNT_MISMATCH f.val).blyFault f.val b.key Code.blyMismatch b.vu 0 true
        let s := s.charge 0 (phys b.key)
        .next (if 0 < n then s.permanent f.val b.key unit else s.retestDue f.val b.key 1 b.key)
      else if two && (t1 || t2) then
        let x := b.checkers.getD (if t1 then 1 else 0) 0
        let n := s.chargesOf 1 (phys x)
        let s := (s.satReg F.FLD_BLY_CNT_CHECKER f.val).blyFault f.val x Code.blyChecker b.vu 2 false
        let s := s.charge 1 (phys x)
        .next (if 0 < n then s.permanent f.val x unit else s)
      else
        let s := (s.satReg F.FLD_BLY_CNT_MISMATCH f.val).blyFault f.val b.key Code.blyMismatch b.vu 1 true
        .next ((b.key :: b.checkers).foldl (fun s k => s.retestDue f.val k 2 b.key) s)

/-! ### CPER records (R503, R504) -/

/-- ErrorSeverity of an entry. -/
def LogEntry.severity (e : LogEntry) : Nat :=
  if e.action = 4 || e.code = Code.modTrip || (e.code = Code.bcPairFail && decide (256 ≤ e.detail)) then 1
  else if e.action = 1 then 0
  else if e.code = Code.eccCeRate || e.code = Code.blyChecker || e.code = Code.hxLaneSpared then 2
  else 3

/-- Two binary-coded decimal digits. -/
def bcd (n : Nat) : Nat := n / 10 % 10 * 16 + n % 10

/-- The CPER time stamp of a time in seconds since 1970. -/
def cperTime (t : Nat) : List Nat :=
  let z := t / 86400 + 719468
  let era := z / 146097
  let doe := z % 146097
  let yoe := (doe - doe / 1460 + doe / 36524 - doe / 146096) / 365
  let doy := doe - (365 * yoe + yoe / 4 - yoe / 100)
  let mp := (5 * doy + 2) / 153
  let d := doy - (153 * mp + 2) / 5 + 1
  let m := if mp < 10 then mp + 3 else mp - 9
  let y := yoe + 400 * era + (if m ≤ 2 then 1 else 0)
  [bcd (t % 60), bcd (t / 60 % 60), bcd (t / 3600 % 24), 0, bcd d, bcd m, bcd (y % 100), bcd (y / 100)]

/-- A GUID in EFI byte order from its five groups. -/
def guid (a b c : Nat) (d : List Nat) : List Nat := bytesLe 4 a ++ bytesLe 2 b ++ bytesLe 2 c ++ d

/-- The decimal digits of a number in ASCII. -/
def asciiDec (n : Nat) : List Nat := (Nat.toDigits 10 n).map (·.toNat)

/-- FRUText: the module, and the field and logical pair of a fault in a tile. -/
def LogEntry.fru (e : LogEntry) : List Nat :=
  let name := "TS9W".toList.map (·.toNat)
  let fld := if e.subject ≤ 2 then [32, 102] ++ asciiDec e.field else []
  let tile := match e.lpair with
    | some a => [32, 40] ++ asciiDec (a % 1024) ++ [44] ++ asciiDec (a / 1024) ++ [41]
    | none => []
  padTo 20 (name ++ fld ++ tile)

/-- The 264 bytes of an entry's CPER record (R503). -/
def LogEntry.cper (e : LogEntry) : List Nat :=
  "CPER".toList.map (·.toNat) ++ bytesLe 2 Config.cperRevision ++ bytesLe 4 0xFFFFFFFF ++ bytesLe 2 1 ++ bytesLe 4 e.severity ++
    bytesLe 4 (if e.tod = 0 then 0 else 2) ++ bytesLe 4 264 ++ (if e.tod = 0 then bytesLe 8 0 else cperTime e.tod) ++
    List.replicate 32 0 ++
    guid 0x2f7a61c3 0x8d05 0x4e9b [0xb1, 0x34, 0x6a, 0xc9, 0xe0, 0xd2, 0x5f, 0x78] ++
    guid 0x4e1b9d72 0x05c6 0x4a3f [0x8e, 0x27, 0xd1, 0x9b, 0x3f, 0x6a, 0x0c, 0x54] ++
    bytesLe 8 e.seqNo ++ bytesLe 4 (if 1 ≤ e.action ∧ e.action ≤ 3 then 1 else 0) ++ List.replicate 20 0 ++
    bytesLe 4 0xC8 ++ bytesLe 4 64 ++ bytesLe 2 Config.cperSectionRevision ++ [2, 0] ++ bytesLe 4 1 ++
    guid 0x9c0e5a17 0x3b4d 0x4f82 [0xa6, 0xe1, 0x58, 0xd2, 0xb7, 0xc4, 0x0f, 0x39] ++ List.replicate 16 0 ++
    bytesLe 4 e.severity ++ e.fru ++ e.bytes

/-- The logbook entry with a SEQ. -/
def State.entrySeq (s : State) (n : Nat) : Option LogEntry := s.log.entries.find? (fun e => e.seqNo = n)

end Sys2Proof.Machine
end

