-- ==== Sys2Proof/Machine/Hexkel.lean ====
section
/-!
DEFINITION. Sys2Proof/Machine/Hexkel.lean: the commands of a Hexkel port: training, lanes, frames and scheduled records (spec
08_hexkel R223 to R248, R268).
-/

namespace Sys2Proof.Machine

/-! ### Enabling, holding and training (R228, R243, R268) -/

/-- HX_CTRL of a port, and its state after a change of EN: DISABLED, or DOWN where it was DISABLED. -/
def State.portEnable (s : State) (p : Nat) (en : Bool) : State :=
  if !en then ((s.portDown p).setReg F.HX_CTRL_EN 0 p).setReg F.HX_STATUS_STATE 0 p
  else
    let s := s.setReg F.HX_CTRL_EN 1 p
    if s.portState p = 0 then s.setReg F.HX_STATUS_STATE 1 p else s

/-- PORT_ENABLE: a write of HX_CTRL.EN. -/
def execPortEnable (p : Fin 6) (en : Bool) (s : State) : Res :=
  if !s.portLive p.val then .next s else .next (s.portEnable p.val en)

/-- LOOP: a write of HX_CTRL.LOOP; a write of 1 outside Crocus is ignored. The port takes it at its next frame lock. -/
def execLoop (p : Fin 6) (on : Bool) (s : State) : Res :=
  if !decide (p.val < s.nPorts) || (on && !s.crocus) then .next s else .next (s.setReg F.HX_CTRL_LOOP (b2n on) p.val)

/-- HX_CMD's outcome. -/
def State.hxCmd (s : State) (p status op : Nat) : State := s.cmd F.HX_CMD_STATUS F.HX_CMD_OP status op p

/-- TRAIN: HOLD_DOWN is released, and the port trains. -/
def execTrain (p : Fin 6) (s : State) : Res :=
  if !s.portLive p.val then .next s
  else if s.portState p.val = 0 then .next (s.hxCmd p.val 2 1)
  else .next ((s.updPort p.val (fun g => { g with held := false, waiting := false })).hxCmd p.val 0 1)

/-- Whether HOLD_DOWN or RETRAIN of the port is refused: the installed image uses it and an invocation runs (R268). -/
def State.portBusy (s : State) (p : Nat) : Bool := s.portWidth p ≠ 0 && s.run.cur.isSome

/-- HOLD_DOWN. -/
def execHoldDown (p : Fin 6) (s : State) : Res :=
  if !s.portLive p.val then .next s
  else if s.portState p.val = 0 || s.portBusy p.val then .next (s.hxCmd p.val 2 2)
  else .next (((s.portDown p.val).updPort p.val (fun g => { g with held := true })).hxCmd p.val 0 2)

/-- RETRAIN. -/
def execRetrain (p : Fin 6) (s : State) : Res :=
  if !s.portLive p.val then .next s
  else if s.portState p.val = 0 || s.portBusy p.val then .next (s.hxCmd p.val 2 3)
  else .next (((s.portDown p.val).updPort p.val (fun g => { g with waiting := false })).hxCmd p.val 0 3)

/-- A transition of a port from one state, with what it sets. -/
def State.portMove (s : State) (p from_ to_ : Nat) (g : State → State) : State :=
  if s.portLive p && s.portState p = from_ then (g s).setReg F.HX_STATUS_STATE to_ p else s

/-- SIGNAL_DETECT: an enabled port goes from DOWN to TRAIN, unless held down or within the wait after a failure. -/
def execSignalDetect (p : Fin 6) (s : State) : Res :=
  let g := s.port p.val
  if g.held || g.waiting || s.reg F.HX_CTRL_EN p.val = 0 then .next s else .next (s.portMove p.val 1 2 id)

/-- The lanes of a mask, in rising order. -/
def laneList (m : Nat) : List Nat := (List.range 26).filter (fun n => bitOf m n)
/-- The mask of lanes. -/
def laneMask (l : List Nat) : Nat := (l.eraseDups.map (fun n => 2 ^ n)).foldl (· + ·) 0

/-- LANE_QUALIFY: `good` are the lanes that qualified in both directions (R229). A lane whose failure brought the port down is
left out (R233). Each direction starts with the lowest lanes. A width below the contract is recorded (R230, R233). -/
def execLaneQualify (p : Fin 6) (good : BitVec 26) (s : State) : Res :=
  let ls := (laneList good.toNat).filter (fun n => !(s.port p.val).lost.contains n)
  let g := ls.length
  let w := min g 24
  if g = 0 || !s.portLive p.val || s.portState p.val ≠ 2 then .next s
  else
    let s := s.portMove p.val 2 3 (fun s =>
      ((((s.setReg F.HX_LANES_GOOD (laneMask ls) p.val).setReg F.HX_LANES_ACTIVE (laneMask (ls.take w)) p.val).setReg
        F.HX_STATUS_WIDTH w p.val).setReg F.HX_STATUS_SPARES (g - w) p.val).updPort p.val (fun x =>
          { x with txMap := ls.take w, rxMap := ls.take w, lost := [] }))
    .next (if w < s.contract p.val then s.portFault p.val Code.hxPortShort false else s)

/-- TRAIN_TIMEOUT: no lane qualified within 50 ms. -/
def execTrainTimeout (p : Fin 6) (s : State) : Res :=
  .next (s.portMove p.val 2 1 (fun s => s.updPort p.val (fun g => { g with waiting := true })))

/-- TRAIN_RETRY: the wait of 1 s ends. -/
def execTrainRetry (p : Fin 6) (s : State) : Res :=
  if s.portLive p.val then .next (s.updPort p.val (fun g => { g with waiting := false })) else .next s

/-- MAP: the maps are agreed, and the neighbour's port and coordinates known. -/
def execMap (p : Fin 6) (nport : Fin 6) (ncoord : BitVec 15) (s : State) : Res :=
  .next (s.portMove p.val 3 4 (fun s => ((s.setReg F.HX_STATUS_NPORT nport.val p.val).setReg F.HX_STATUS_NCOORD
    ncoord.toNat p.val).setReg F.HX_STATUS_NVALID 1 p.val))

/-- FRAME_LOCK: sequence numbers start from 0 (R234); into KEYING, the requester asks for the session (R239). -/
def execFrameLock (p : Fin 6) (s : State) : Res :=
  let loop := s.reg F.HX_CTRL_LOOP p.val = 1
  .next (s.portMove p.val 4 (if loop then 8 else 5) (fun s =>
    let s := s.updPort p.val (fun g => { g with txSeq := 0, rxSeq := 0, attempts := 0, sent := [], resend := [], spdmIn := [] })
    if loop then s else s.linkAsk p.val))

/-- Refcycles as LCLK cycles of 0.64 ns. -/
def State.lclk (s : State) : Nat := s.ref * 125 / 8

/-- The secrets of the link's session: each direction's own, with its next phase derived (R239, R241). -/
def State.linkKeys (s : State) (p : Nat) : State :=
  let tx := Config.linkSecret s.free (p % 2)
  let rx := Config.linkSecret s.free (1 - p % 2)
  ({ s with free := s.free + 1 } : State).updPort p (fun g =>
    { g with txSecret := tx, rxSecrets := [[], rx, nextSecret rx], rxKph := 0, keyAt := s.acyc, rekey := false, fails := [] })

/-- KEY_SESSION_ESTABLISHED: the SPDM session of the link ends; `session` says that it was established and `accepted` that
the neighbour passed the checks of R366. -/
def execKeySessionEstablished (p : Fin 6) (session accepted : Bool) (s : State) : Res :=
  if !s.portLive p.val || s.portState p.val ≠ 5 then .next s
  else if session && accepted then
    let s := ((s.setReg F.HX_STATUS_KEYED 1 p.val).setReg F.HX_STATUS_KPH 0 p.val).setReg F.HX_STATUS_STATE 6 p.val
    .next ((s.linkKeys p.val).linkCell p.val 0x12 (bytesLe 8 s.lclk ++ bytesLe 8 0))
  else
    let s := if session then s.portFault p.val Code.trustPeerDenied false else s
    let s := (s.portFault p.val Code.hxKeyFail false).portDown p.val
    .next (s.updPort p.val (fun g => { g with waiting := true }))

/-- BASE_LATENCY_AGREED: MEASURE to UP with the values of HX_LAT (R238). -/
def execBaseLatencyAgreed (p : Fin 6) (rtt base fibre : BitVec 16) (s : State) : Res :=
  .next (s.portMove p.val 6 7 (fun s => ((s.setReg F.HX_LAT_RTT rtt.toNat p.val).setReg F.HX_LAT_BASE base.toNat
    p.val).setReg F.HX_LAT_FIBRE fibre.toNat p.val))

/-! ### Loss of the link and of lanes (R232, R233, R267) -/

/-- FRAME_LOCK_LOSS. -/
def execFrameLockLoss (p : Fin 6) (s : State) : Res :=
  if s.portLive p.val && s.portUp p.val then .next (s.portRetrain p.val) else .next s

/-- The lowest good lane that the map of the direction received does not use and no swap of it waits for. -/
def State.spareLane (s : State) (p : Nat) : Option Nat :=
  let g := s.port p
  let pend := (g.swaps.filter (·.rx)).map (·.spare)
  (laneList (s.reg F.HX_LANES_GOOD p)).find? (fun n => !g.rxMap.contains n && !pend.contains n)

/-- LANE_FAIL: a lane of the direction received fails; a LANE cell names a spare and a frame 64 ahead, or the port retrains
without that lane (R232, R233). -/
def execLaneFail (p : Fin 6) (lane : Fin 26) (s : State) : Res :=
  if !s.portLive p.val || !s.portUp p.val || !(s.port p.val).rxMap.contains lane.val then .next s
  else
    match s.spareLane p.val with
    | none => .next ((s.portRetrain p.val).updPort p.val (fun g => { g with lost := lane.val :: g.lost }))
    | some sp =>
      let r := s.fresh
      let s := r.2
      let dir := r.1 % 256
      let sq := (s.port p.val).rxSeq + 64
      let s := s.linkCell p.val 0x11 ([lane.val, sp, dir, 0, 0, 0, 0, 0] ++ bytesLe 6 sq)
      .next (s.updPort p.val (fun g => { g with swaps := g.swaps ++ [⟨lane.val, sp, dir, sq, true⟩] }))

/-- The registers after a change of the maps: a lane is ACTIVE that either map uses, and a spare is a good lane that neither does
(assumption 35). -/
def State.laneRegs (s : State) (p : Nat) : State :=
  let g := s.port p
  let act := laneMask (g.txMap ++ g.rxMap)
  (s.setReg F.HX_LANES_ACTIVE act p).setReg F.HX_STATUS_SPARES
    ((laneList (s.reg F.HX_LANES_GOOD p)).filter (fun n => !bitOf act n)).length p

/-- LANE_SWAP: the named frame is reached, and the direction is striped over the new map (R232). -/
def execLaneSwap (p : Fin 6) (s : State) : Res :=
  let g := s.port p.val
  match g.swaps with
  | [] => .next s
  | w :: r =>
    if !s.portLive p.val || decide ((if w.rx then g.rxSeq else g.txSeq) < w.seqNo) then .next s
    else
      let swap := fun (m : List Nat) => m.map (fun n => if n = w.failed then w.spare else n)
      let s := s.updPort p.val (fun g => { g with swaps := r, txMap := if w.rx then g.txMap else swap g.txMap
                                                  rxMap := if w.rx then swap g.rxMap else g.rxMap })
      let s := s.setReg F.HX_LANES_GOOD (laneMask ((laneList (s.reg F.HX_LANES_GOOD p.val)).filter (fun n => n ≠ w.failed))) p.val
      .next ((s.laneRegs p.val).portFault p.val Code.hxLaneSpared false)

/-! ### Frames (R234 to R244) -/

/-- Takes up to `n` bytes from the items of a queue. -/
def takeUnit : List TxItem → Nat → List Nat × List TxItem
  | [], _ => ([], [])
  | it :: r, n =>
    let left := it.bytes.drop it.gone
    if left.length ≤ n then
      let q := takeUnit r (n - left.length)
      (left ++ q.1, q.2)
    else (left.take n, { it with gone := it.gone + n } :: r)

/-- The channels in the order of R244: scheduled, link-local, VC1, VC0, VN1, VN0. -/
def channelOrder : List Nat := [1, 6, 5, 4, 3, 2]

/-- A channel is held OFF by the neighbour (R234, R252). -/
def heldOff (off ch : Nat) : Bool := decide (2 ≤ ch ∧ ch ≤ 5) && bitOf off (ch - 2)

/-- Fills up to `n` units by priority from the channels allowed. -/
def HxPort.fillUnits (g : HxPort) (off : Nat) (link : Bool) : Nat → HxPort × List (Nat × List Nat)
  | 0 => (g, [])
  | n + 1 =>
    match channelOrder.find? (fun ch => (ch = 6 || !link) && !heldOff off ch && !(g.queue ch).isEmpty) with
    | none => (g, [])
    | some ch =>
      let q := takeUnit (g.queue ch) 64
      let r := HxPort.fillUnits { g with tx := g.tx.set [] ch q.2 } off link n
      (r.1, (ch, q.1) :: r.2)

/-- The 64-byte header of a frame (R234): the additional data of its tag (R240). -/
def Sent.header (f : Sent) (replay : Bool) : List Nat :=
  bytesLe 6 f.seqNo ++ [f.kph % 4 + 4 * b2n replay + 8 * b2n f.clear, f.fc % 16] ++ bytesLe 6 f.ack ++ [b2n f.nak, 0] ++
    (List.range 48).map (fun k =>
      let code := fun (u : Nat) => ((f.units[u]?).map (·.1)).getD 0 % 16
      code (2 * k) + 16 * code (2 * k + 1))

/-- The 6,144 bytes of units: the plaintext of a frame (R240). -/
def Sent.plain (f : Sent) : List Nat := padTo 6144 (f.units.flatMap (fun u => padTo 64 u.2))

/-- A frame's bytes: header and units, these under AES-256-GCM with the direction's key and its IV XORed with SEQ, and the tag,
unless the frame is CLEAR (R239, R240). -/
def Sent.bytes (f : Sent) (replay : Bool) : List Nat :=
  let h := f.header replay
  if f.clear then h ++ f.plain else h ++ gcmSeal (linkKey f.secret) (ivNonce (linkIv f.secret) f.seqNo) h f.plain

/-- A frame leaves, striped over the map in force (R235, R268). -/
def State.emitFrame (s : State) (p : Nat) (f : Sent) (replay : Bool) : State :=
  let map := (s.port p).txMap
  s.emit .link p f.seqNo (map.length :: map ++ f.bytes replay)

/-- The units of a new frame: in LOOP test units, which travel as link-local ones (R236, R243). -/
def State.newUnits (s : State) (p : Nat) : HxPort × List (Nat × List Nat) :=
  let st := s.portState p
  let g := s.port p
  if st = 8 then (g, List.replicate 96 (6, Config.testUnit g.txSeq)) else g.fillUnits (s.reg F.HX_FC_OFF_SEEN p) (st ≠ 7) 96

/-- KPH advances at the first frame started after an epoch boundary (R241). -/
def State.advanceKey (s : State) (p : Nat) : State :=
  if s.keyDue p then (s.setReg F.HX_STATUS_KPH (s.reg F.HX_STATUS_KPH p + 1) p).updPort p (fun g =>
    { g with rekey := false, keyAt := s.acyc, txSecret := nextSecret g.txSecret })
  else s.updPort p (fun g => { g with keyAt := s.acyc })

/-- A port in ALIGN, KEYING or LOOP sends and takes CLEAR frames (R236, R239, R243). -/
def clearState (st : Nat) : Bool := decide (st ≤ 5) || st = 8

/-- FRAME_TRANSMIT: the transmitter starts a frame: a replay where one is due, as it was first sent but for REPLAY, else a new one
(R236, R237, R240, R241, R244). A replay under way leaves a NAK for the next new frame. -/
def execFrameTransmit (p : Fin 6) (s : State) : Res :=
  let st := s.portState p.val
  let g := s.port p.val
  if !s.portLive p.val || st < 4 then .next s
  else
    match g.resend with
    | f :: r =>
      .next (((s.updPort p.val (fun g => { g with resend := r })).satReg F.HX_ERR_RETRY p.val).emitFrame p.val f true)
    | [] =>
      let clear := clearState st
      let s := if clear then s else s.advanceKey p.val
      let r := s.newUnits p.val
      let f : Sent := ⟨g.txSeq, s.reg F.HX_STATUS_KPH p.val, clear, s.reg F.HX_FC_OFF_SENT p.val, (g.rxSeq + 2 ^ 48 - 1) % 2 ^ 48,
        g.nak, r.2, r.1.txSecret⟩
      let g' := { r.1 with
        nak := false
        txSeq := (g.txSeq + 1) % 2 ^ 48
        sent := (g.sent ++ [f]).drop (g.sent.length - 127) }
      .next (((s.updPort p.val (fun _ => g')).emitFrame p.val f false).ringDrain p.val)

/-- A frame is bad: it is discarded, and a replay is asked for (R235, R237, R242). -/
def State.badFrame (s : State) (p : Nat) (f : Frame) (auth : Bool) : State :=
  let s := s.updPort p (fun g =>
    { g with nak := true, attempts := if f.seqNo = g.rxSeq then g.attempts + 1 else g.attempts })
  let s := if auth then
      (s.satReg F.HX_ERR_AUTH p).updPort p (fun g =>
        { g with fails := s.ref :: g.fails.filter (fun t => decide (s.ref < t + 100000000)) }) else s
  let g := s.port p
  if 16 ≤ g.fails.length then
    ((s.portFault p Code.hxKeyFail false).updPort p (fun g => { g with fails := [] })).portRetrain p
  else if 8 ≤ g.attempts then (s.portFault p Code.hxRetryLimit false).portRetrain p
  else s

/-- The units of a good frame join their channels (R234). -/
def State.takeUnits (s : State) (p : Nat) (us : List (BitVec 4 × List (BitVec 8))) : State :=
  us.foldl (fun s u =>
    let ch := u.1.toNat
    if ch = 0 then s
    else if 7 ≤ ch then s.satReg F.HX_ERR_MAP p
    else s.updPort p (fun g => { g with rx := g.rx.set [] ch (g.rx.get [] ch ++ u.2.map (·.toNat)) })) s

/-- The buffers of a port have room for the units of a frame: 1 MiB per dynamic and privileged channel (R252). -/
def HxPort.roomFor (g : HxPort) (us : List (BitVec 4 × List (BitVec 8))) : Bool :=
  [2, 3, 4, 5].all (fun ch => decide ((g.rx.get [] ch).length +
    ((us.filter (fun u => u.1.toNat = ch)).map (fun u => u.2.length)).foldl (· + ·) 0 ≤ 1048576))

/-- A frame may be CLEAR only in some states, and carries nothing but link-local units there (R236). -/
def clearOk (st : Nat) (f : Frame) : Bool :=
  !f.clear || (clearState st && f.units.all (fun u => u.1.toNat = 0 || u.1.toNat = 6 || decide (7 ≤ u.1.toNat)))

/-- The receiver holds the key of a frame's phase: the previous, the current and the next one (R241). -/
def HxPort.holdsKey (g : HxPort) (f : Frame) : Bool := (f.kph.toNat + 4 - g.rxKph) % 4 ≠ 2

/-- A new frame received intact: the phase moves with it, and a NAK asks for a replay from ACK + 1 (R237, R241). -/
def HxPort.takeFrame (g : HxPort) (f : Frame) : HxPort :=
  let next := !f.clear && (f.kph.toNat + 4 - g.rxKph) % 4 = 1
  { g with
    rxSeq := (g.rxSeq + 1) % 2 ^ 48
    attempts := 0
    resend := if f.nak then g.sent.filter (fun x => decide ((x.seqNo + 2 ^ 49 - f.ack - 1) % 2 ^ 48 < 2 ^ 47)) else g.resend
    rxKph := if next then f.kph.toNat else g.rxKph
    rxSecrets := if next then (g.rxSecrets ++ [nextSecret (g.rxSecrets.getD 2 [])]).drop 1 else g.rxSecrets }

/-- The test units of LOOP are checked against what is sent with their SEQ (R243). -/
def HxPort.checkUnits (g : HxPort) (f : Frame) : HxPort :=
  { g with loopBad := g.loopBad + (f.units.filter (fun u => u.1.toNat = 6 && u.2.map (·.toNat) ≠ Config.testUnit f.seqNo)).length }

/-- FRAME_RECEIVE: `corr` symbols corrected, `uncorr` codewords uncorrectable, `tagOk` the outcome of the tag check under the key of
the frame's phase (R235 to R237, R241, R242). A frame for which the buffers have no room is refused as a bad one
(assumption 36). -/
def execFrameReceive (p : Fin 6) (f : Frame) (corr uncorr : Nat) (tagOk : Bool) (s : State) : Res :=
  let st := s.portState p.val
  if !s.portLive p.val || st < 4 then .next s
  else
    let s := (s.satReg F.HX_FEC_CORR p.val corr).satReg F.HX_FEC_UNCORR p.val uncorr
    let g := s.port p.val
    let auth := uncorr = 0 && !f.clear && !(tagOk && s.reg F.HX_STATUS_KEYED p.val = 1 && g.holdsKey f)
    if uncorr ≠ 0 || auth || !clearOk st f || !g.roomFor f.units then .next (s.badFrame p.val f auth)
    else if f.seqNo ≠ g.rxSeq then .next s
    else
      let s := (s.updPort p.val (·.takeFrame f)).setReg F.HX_FC_OFF_SEEN f.fc.toNat p.val
      .next (if st = 8 then s.updPort p.val (·.checkUnits f) else (s.takeUnits p.val f.units).flowControl p.val)

/-! ### Scheduled records (R245 to R248) -/

/-- EPOCH_LOG2 of the descriptor in force. -/
def State.epochLog2 (s : State) : Nat := match s.image with
  | some m => m.rope.epochLog2
  | none => 20

/-- The landing delay L of the rope (R287). -/
def State.landDelay (s : State) : Nat := match s.image with
  | some m => if s.reg F.BC_ROPE_STATUS_STATE = 0 || !m.hasRope then 0 else m.rope.land
  | none => 0

/-- The bytes of a scheduled record (R245). -/
def recordBytes (log2 t : Nat) (ws : List (Nat × Tok)) : List Nat :=
  let colour := match ws with
    | w :: _ => w.2.colour.toNat
    | [] => 0
  let has := fun (i : Nat) => ws.find? (fun w => w.1 = i)
  let present := ((List.range 128).map (fun i => if (has i).isSome then 2 ^ i else 0)).foldl (· + ·) 0
  bytesLe 4 (t / 2 ^ log2) ++ bytesLe 3 (t % 2 ^ log2) ++ [colour + 0x50] ++ bytesLe 16 present ++
    (List.range 128).flatMap (fun i => match has i with
      | some w => bytesLe 8 w.2.data.toNat
      | none => [])

/-- SCHEDULED_RECORD: the words that the landing tiles of a port drove in an acycle become a record (R245). -/
def execScheduledRecord (p : Fin 6) (s : State) : Res :=
  let g := s.port p.val
  if !s.portLive p.val || g.edge.isEmpty then .next s
  else
    let s := s.feedEngines p.val g.edgeAt (fun k => k ≠ 1) (g.edge.map (fun w => (w.1, w.2.data.toNat)))
    let sent := g.edge.filter (fun w => !s.tallied p.val g.edgeAt w.1)
    let s := s.updPort p.val (fun g => { g with edge := [] })
    .next (if sent.isEmpty then s else s.enqueue p.val 1 (recordBytes s.epochLog2 g.edgeAt sent))

/-- HX_SCHED_OVERRATE: part of a record is still queued 16 acycles after its capture (R246). -/
def execHxSchedOverrate (p : Fin 6) (s : State) : Res :=
  let q := (s.port p.val).queue 1
  let hit := fun (it : TxItem) => !it.noted && decide (it.at_ + 16 ≤ s.acyc)
  if !s.portLive p.val || !q.any hit then .next s
  else
    let n := (q.filter hit).length
    let s := s.updPort p.val (fun g => { g with tx := g.tx.set [] 1 (q.map (fun it => if hit it then { it with noted := true } else it)) })
    .next (((s.satReg F.HX_SCHED_OVERRATE p.val n).invalidate).portFault p.val Code.hxSchedOverrate true)

/-- The rope acycle that a record's EPOCH and SLOT name, nearest to now. -/
def State.recordTime (s : State) (lo slot : Nat) : Nat :=
  let e := s.acyc / 2 ^ s.epochLog2
  let b := e / 2 ^ 32 * 2 ^ 32 + lo
  let b := if b + 2 ^ 31 < e then b + 2 ^ 32 else if e + 2 ^ 31 < b ∧ 2 ^ 32 ≤ b then b - 2 ^ 32 else b
  b * 2 ^ s.epochLog2 + slot

/-- Words held in the landing buffer of a port. -/
def HxPort.landingWords (g : HxPort) : Nat := (g.landing.map (fun r => r.words.length)).foldl (· + ·) 0

/-- The rope member is RUNNING; only then are records kept (R316). -/
def State.ropeRuns (s : State) : Bool :=
  s.reg F.BC_ROPE_STATUS_STATE = 4 || s.reg F.BC_ROPE_STATUS_LSTATE = 4

/-- RECORD_ARRIVAL: the next whole record received joins the landing buffer, or is discarded as late or on overflow
(R248); below the release of the stack controllers nothing is kept (R266). -/
def execRecordArrival (p : Fin 6) (s : State) : Res :=
  let b := (s.port p.val).rx.get [] 1
  let present := leAt b 8 16
  let idx := (List.range 128).filter (fun i => bitOf present i)
  let len := 24 + 8 * idx.length
  if !s.portLive p.val || b.length < 24 || b.length < len then .next s
  else
    let t := s.recordTime (leAt b 0 4) (leAt b 4 3)
    let rec_ : Record := ⟨t, BitVec.ofNat 4 (leAt b 7 1),
      (List.range idx.length).map (fun k => (idx.getD k 0, BitVec.ofNat 64 (leAt b (24 + 8 * k) 8)))⟩
    let s := s.takeRx p.val 1 len
    let g := s.port p.val
    if s.stackReset || !s.ropeRuns then .next s
    else if t + 65536 < s.acyc ∨ s.acyc + 65536 < t then .next (s.moduleFault 5 Code.schRopeTime 0 p.val true)
    else if t + s.landDelay < s.acyc + 2 then .next (s.satReg F.HX_SCHED_LATE p.val)
    else if 65536 < g.landingWords + idx.length then
      .next ((s.invalidate).portFault p.val Code.hxLandOverflow true)
    else
      let s := s.updPort p.val (fun g => { g with landing := g.landing ++ [rec_] })
      .next (s.setReg F.HX_SCHED_PEAK (max (s.reg F.HX_SCHED_PEAK p.val) (g.landingWords + idx.length)) p.val)

/-- A record's words go to the landing tiles of its port, `errs` being what each meets on its way to the FIFO (R82); words for tiles
in reset are dropped and counted (R247, R266). A port that the image does not use has no edge ports to land at (R226). -/
def State.landRecord (s : State) (p : Nat) (r : Record) (errs : List (BitVec 80)) : State :=
  if s.portWidth p = 0 then s
  else (r.words.zipIdx).foldl (fun s (w, k) =>
    let q := s.landingTile p w.1
    match s.locate q.1 with
    | none => s
    | some (f, key) =>
      if s.inReset f then s.satReg F.HX_SCHED_DROP p
      else s.absorb f key ((TW.start (s.tile f key) (r.at_ + s.landDelay - 1)).arrive q.2 ⟨w.2, r.colour⟩ (errs.getD k 0))) s

/-- RECORD_LANDING: the oldest record due at t + L − 1 is written into the landing FIFOs (R247). -/
def execRecordLanding (l : Landing) (s : State) : Res :=
  let p := l.port
  match takeFirst (fun (r : Record) => decide (r.at_ + s.landDelay ≤ s.acyc + 1)) (s.port p.val).landing with
  | none => .next s
  | some (r, rest) =>
    let s := s.feedEngines p.val r.at_ (fun k => k = 1) (r.words.map (fun w => (w.1, w.2.toNat)))
    .next ((s.updPort p.val (fun g => { g with landing := rest })).landRecord p.val r l.errs)

/-- SCH_LATE_LANDING: the record that the neighbour captured at acycle `t` is not complete by t + L − 2 (R248). -/
def execSchLateLanding (p : Fin 6) (t : Nat) (s : State) : Res :=
  if !s.portLive p.val || s.portWidth p.val = 0 || decide (s.acyc < t + s.landDelay - 2) ||
      (s.port p.val).landing.any (fun r => r.at_ = t) then .next s
  else .next ((s.invalidate).portFault p.val Code.lateLanding true)

/-! ### Link-local cells (R238, R256) -/

/-- The link-local types (R255). -/
def linkType (t : Nat) : Bool := decide (0x10 ≤ t ∧ t ≤ 0x12)

/-- Cells at the head of the link-local channel that are of a reserved type, or whose CRC fails, are discarded and counted (R250,
R255). -/
def State.pruneLink (p : Nat) : Nat → State → State
  | 0, s => s
  | n + 1, s =>
    let b := ((s.port p).rx.get [] 6).take 64
    if b.length < 64 then s
    else if !cellCrcOk b then State.pruneLink p n ((s.takeRx p 6 64).satReg F.HX_ERR_CRC p)
    else if !linkType (cellOf b).type then State.pruneLink p n ((s.takeRx p 6 64).routeErr p)
    else s

/-- Takes the next link-local cell where it is of a type. -/
def State.takeLink (s : State) (p type : Nat) (g : State → Cell → State) : State :=
  if !s.portLive p then s
  else
    let s := s.pruneLink p (((s.port p).rx.get [] 6).length / 64)
    let b := ((s.port p).rx.get [] 6).take 64
    if b.length < 64 || (cellOf b).type ≠ type then s else g (s.takeRx p 6 64) (cellOf b)

/-- A fragment joins its message: index 0 starts one, and any other must be the next of the same message (R256). -/
def HxPort.fragment (g : HxPort) (b : List Nat) : HxPort :=
  let no := leAt b 0 2
  let k := leAt b 2 1
  if k = 0 then { g with spdm := (b.drop 4).take 48, spdmMsg := no, spdmFrag := 1 }
  else if no = g.spdmMsg && k = g.spdmFrag then { g with spdm := g.spdm ++ (b.drop 4).take 48, spdmFrag := k + 1 }
  else g

/-- A whole message has come: in KEYING the responder answers a request with the response of its code, and the requester sends
its next request (R239). -/
def State.linkMessage (s : State) (p : Nat) : State :=
  let m := (s.port p).spdm
  let s := s.updPort p (fun g => { g with spdmIn := m :: g.spdmIn, spdm := [], spdmFrag := 0 })
  if s.portState p ≠ 5 then s
  else if p % 2 = 0 then s.linkAsk p
  else if 0x80 ≤ leAt m 1 1 then s.linkSpdm p (leAt m 1 1 - 0x80)
  else s

/-- SPDM: one fragment of a link's SPDM message (R256). -/
def execSpdm (p : Fin 6) (s : State) : Res :=
  .next (s.takeLink p.val 0x10 (fun s c =>
    let k := (s.port p.val).spdmFrag
    let s := s.updPort p.val (·.fragment c.body)
    let taken := leAt c.body 2 1 = 0 || (s.port p.val).spdmFrag ≠ k
    if taken && bitOf (leAt c.body 3 1) 0 then s.linkMessage p.val else s))

/-- LANE: the neighbour names a lane swap of the direction that this end sends (R232, R256). -/
def execLane (p : Fin 6) (s : State) : Res :=
  .next (s.takeLink p.val 0x11 (fun s c =>
    s.updPort p.val (fun g => { g with swaps := g.swaps ++
      [⟨leAt c.body 0 1, leAt c.body 1 1, leAt c.body 2 1, leAt c.body 8 6, false⟩] })))

/-- PROBE: a time stamp is echoed, and an echo gives the round trip (R238). -/
def execProbe (p : Fin 6) (s : State) : Res :=
  .next (s.takeLink p.val 0x12 (fun s c =>
    let tx := leAt c.body 0 8
    let echo := leAt c.body 8 8
    if echo = 0 then s.linkCell p.val 0x12 (bytesLe 8 s.lclk ++ bytesLe 8 tx)
    else s.setReg F.HX_LAT_RTT ((s.lclk + 2 ^ 64 - echo) % 2 ^ 64) p.val))

end Sys2Proof.Machine
end

