-- ==== Sys2Proof/Machine/Ring.lean ====
section
/-!
DEFINITION. Sys2Proof/Machine/Ring.lean: dynamic packets and privileged cells at a port input and at Base Camp's stop of the
transit ring (spec 08_hexkel R249 to R260, R263 to R265).
-/

namespace Sys2Proof.Machine

/-- The payload lengths of a dynamic packet: at most 8,172 bytes, in a multiple of 4 (R249). -/
def dynLenOk (n : Nat) : Bool := decide (n ≤ 8172 ∧ n % 4 = 0)

/-- DYNAMIC_PACKET: the next whole packet received on a virtual network of a port: checked, and routed or delivered (R250,
R251, R254). It waits at the port while the ring's stop sends OFF for its channel (R252); a length that R249 does not allow counts as a
CRC failure (assumption 37). -/
def execDynamicPacket (p : Fin 6) (vn : Bool) (s : State) : Res :=
  let ch := if vn then 3 else 2
  let b := (s.port p.val).rx.get [] ch
  let len := 20 + leAt b 4 2
  if !s.portLive p.val || b.length < 20 || b.length < len || s.ringIsOff p.val 0 ch then .next s
  else
    let s := s.takeRx p.val ch len
    let q := b.take len
    if !dynLenOk (leAt b 4 2) || crc32c (q.take (len - 4)) ≠ leAt q (len - 4) 4 then .next (s.satReg F.HX_ERR_CRC p.val)
    else if vn then .next (s.sendReply p.val (dynOf q))
    else .next (s.sendRequest p.val (dynOf q))

/-- Takes the oldest delivered request of an operation. -/
def State.serve (s : State) (op : Nat) (g : State → Dyn → State) : State :=
  match s.takeDyn (fun d => d.op = op && d.vn = 0) with
  | none => s
  | some (d, s) => g s d

/-- RWRITE: a remote write into the staging area; `admitted` says that the trust policy admits the requester (R253). -/
def execRwrite (admitted : Bool) (s : State) : Res :=
  .next (s.serve 2 (fun s d =>
    let a := 64 * d.arg
    if s.stackReset then s.answer d 0x82 2 []
    else if !admitted || decide (s.stagingSize < a + d.payload.length) then s.answer d 0x82 1 []
    else { s with staging := s.staging.setList 0 a (d.payload.map (BitVec.ofNat 8)) }.answer d 0x82 0 []))

/-- RREAD: a remote read from the staging area (R253). -/
def execRread (admitted : Bool) (s : State) : Res :=
  .next (s.serve 3 (fun s d =>
    let a := 64 * d.arg
    let n := leAt d.payload 0 4
    if s.stackReset then s.answer d 0x83 2 []
    else if !admitted || !dynLenOk n || decide (s.stagingSize < a + n) then s.answer d 0x83 1 []
    else s.answer d 0x83 0 ((SMap.getList 0 s.staging a n).map (·.toNat))))

/-- Takes the oldest delivered reply of an operation; its request is no longer outstanding. -/
def State.takeAnswer (s : State) (op : Nat) (g : State → Dyn → State) : State :=
  match s.takeDyn (fun d => d.op = op && d.vn = 1) with
  | none => s
  | some (d, s) =>
    if s.bcl.waiting.any (fun w => w.1 = d.id) then
      g { s with bcl := { s.bcl with waiting := s.bcl.waiting.filter (fun w => w.1 ≠ d.id) } } d
    else s

/-- RWRITE_DONE (R252). -/
def execRwriteDone (s : State) : Res := .next (s.takeAnswer 0x82 (fun s _ => s))
/-- RREAD_DATA (R252): Base Camp keeps the data. -/
def execRreadData (s : State) : Res :=
  .next (s.takeAnswer 0x83 (fun s d => { s with bcl := { s.bcl with data := (d.id, d.status, d.payload) :: s.bcl.data } }))
/-- ERROR (R254): the request is at an end. -/
def execError (s : State) : Res := .next (s.takeAnswer 0x8F (fun s _ => s))
/-- DYNAMIC_REQUEST_TIMEOUT: no reply within 10 ms, so the request with an identifier is lost (R254). -/
def execDynamicRequestTimeout (id : BitVec 32) (s : State) : Res :=
  .next { s with bcl := { s.bcl with waiting := s.bcl.waiting.filter (fun w => w.1 ≠ id.toNat) } }

/-- A unicast cell that arrived at a port: delivered, carried on in its dimension, or started in the next (R257). -/
def State.cellUnicast (s : State) (p : Nat) (c : Cell) : State :=
  if c.dst = s.own then s.deliverCell p c
  else if s.reg F.HX_TOPO_VALID = 0 || !s.inTorus c.dst then (s.routeErr p).ringDrop p
  else
    let k := c.phase
    if coordOf c.dst k = coordOf s.own k then s.cellStart p (k + 1) c
    else if c.hops = 0 then (s.routeErr p).ringDrop p
    else s.cellOut p (p - p % 2 + (1 - p % 2)) { c with hops := c.hops - 1 }

/-- A broadcast cell that arrived at a port: delivered, carried on, and its later phases started (R259). -/
def State.cellBroadcast (s : State) (p : Nat) (c : Cell) : State :=
  let s := s.deliverCell p c
  if s.reg F.HX_TOPO_VALID = 0 then s
  else
    let s := if c.hops = 0 then s else s.cellOut p (p - p % 2 + (1 - p % 2)) { c with hops := c.hops - 1 }
    s.bcastFrom p (c.phase + 1) c

/-- The forwarded privileged types (R255). -/
def forwardType (t : Nat) : Bool := decide (1 ≤ t ∧ t ≤ 6)

/-- PRIVILEGED_CELL: the next cell received on a virtual channel of a port (R255 to R259); it waits while the ring's stop sends OFF for
its channel (R252). -/
def execPrivilegedCell (p : Fin 6) (vc : Bool) (s : State) : Res :=
  let ch := if vc then 5 else 4
  let b := ((s.port p.val).rx.get [] ch).take 64
  if !s.portLive p.val || b.length < 64 || s.ringIsOff p.val 0 ch then .next s
  else
    let s := s.takeRx p.val ch 64
    let c := cellOf b
    if !cellCrcOk b then .next (s.satReg F.HX_ERR_CRC p.val)
    else if !forwardType c.type then .next (s.routeErr p.val)
    else if c.bcast then .next (s.cellBroadcast p.val c)
    else .next (s.cellUnicast p.val c)

end Sys2Proof.Machine
end

