-- ==== Sys2Proof/Machine/Rope.lean ====
section
/-!
DEFINITION. Sys2Proof/Machine/Rope.lean: forming, starting, invoking, reporting, checkpointing and restoring a rope (spec 09_ropes,
12_base_camp R397).
-/

namespace Sys2Proof.Machine

/-! ### Forming (R280 to R282) -/

/-- BC_ROPE_CMD's answer. -/
def State.ropeCmd (s : State) (status op : Nat) : State := s.cmd F.BC_ROPE_CMD_STATUS F.BC_ROPE_CMD_OP status op

/-- FORM (R281). -/
def execForm (aovr : Bool) (anchor : BitVec 15) (s : State) : Res :=
  let st := s.reg F.BC_ROPE_STATUS_STATE
  match s.image with
  | none => .next (s.ropeCmd 2 1)
  | some m =>
    if !m.hasRope || s.reg F.BC_IMG_STATUS_STATE ≠ 2 || !(st = 0 || st = 7) then .next (s.ropeCmd 2 1)
    else
      let d := m.rope
      let a := if aovr then anchor.toNat else d.anchor
      let s := (((s.setReg F.HX_TOPO_COORD d.coord).setReg F.HX_TOPO_NXM1 (d.nx - 1)).setReg F.HX_TOPO_NYM1 (d.ny - 1))
      let s := (s.setReg F.HX_TOPO_NZM1 (d.nz - 1)).setReg F.HX_TOPO_VALID 1
      let s := ((s.setReg F.BC_ROPE_STATUS_STATE 1).setReg F.BC_ROPE_STATUS_REASON 0).setReg F.BC_ROPE_STATUS_ACOORD a
      let s := (s.setReg F.BC_ROPE_STATUS_ANCHOR (b2n (a = d.coord))).setReg F.BC_ROPE_STATUS_MEMBERS 0
      let s := s.setReg F.BC_ROPE_STATUS_TPORT ((d.hop d.coord a).getD 7)
      let s := (s.setReg F.BC_ROPE_CMD_AOVR (b2n aovr)).setReg F.BC_ROPE_CMD_ANCHOR anchor.toNat
      let s : State := { s with rope := { s.rope.again with waitFrom := s.ref, override := if aovr then some anchor.toNat else none } }
      .next ({ s with bcl := { s.bcl with mail := [] } }.ropeCmd 0 1)

/-- STOP: the anchor stops the rope; another member stops itself (R280). -/
def execStop (s : State) : Res :=
  if s.ropeState = 0 then .next (s.ropeCmd 2 2)
  else if s.inRope && s.isAnchor then .next ((s.castEpoch (abortBytes 2 10 none s.own 0)).ropeCmd 0 2)
  else .next ((s.stopRope 10).ropeCmd 0 2)

/-- LEAVE (R272). -/
def execLeave (s : State) : Res :=
  let st := s.reg F.BC_ROPE_STATUS_STATE
  if !(st = 7 || st = 8) then .next (s.ropeCmd 2 3)
  else
    let s := (s.setReg F.BC_ROPE_STATUS_STATE 0).setReg F.BC_ROPE_STATUS_REASON 0
    .next ((if s.solo then s.formSolo else s).ropeCmd 0 3)

/-- PREPARE_DONE (R275, R281, R321): `mref` says that MREF recovered from the time port is ready; the anchor leaves a recovered MREF
for its internal oscillator, and no source is switched while a field is live or the divider ramps (R455). A member waits for its
first TIME cell before it joins. The anchor keeps what other members joined with where it comes back from its own reset, and its own
standing need counts among the requests (R284, R289, R305). -/
def execPrepareDone (mref : Bool) (s : State) : Res :=
  if s.solo || s.reg F.BC_ROPE_STATUS_STATE ≠ 1 || s.rst.active then .next s
  else if !s.ropePortsOk then .next (s.stopRope 3)
  else if !s.ropeLatencyOk then .next (s.stopRope 4)
  else
    let anchor := s.isAnchor
    let right := if anchor then s.reg F.CLK_MREF_CUR_SRC ≠ 2
      else s.reg F.CLK_MREF_CUR_SRC = 2 && s.reg F.CLK_MREF_CUR_PORT = s.reg F.BC_ROPE_STATUS_TPORT
    if !right && ((!anchor && !mref) || s.mrefHeld) then .next (s.stopRope 5)
    else
      let s := if right then s else s.takeMref (if anchor then 0 else 2) (s.reg F.BC_ROPE_STATUS_TPORT)
      if !anchor && s.rope.lastTime = 0 then .next s
      else
        let kids := s.childCoords.map (fun c => (⟨c, s.acyc, 0, 0, none, false, []⟩ : Child))
        let d := s.rdesc
        let me : Member := ⟨s.own, s.reg F.BC_IMG_STATUS_DFLOOR, s.pmin2, (match s.image with
          | some m => m.capGap
          | none => 0), s.ownSlots, d.cairns⟩
        let back := s.rope.rejoin
        let asked := s.rope.requests.filter (fun q => q.coord ≠ s.own)
        let need : RatioReq := ⟨s.own, s.reg F.CLK_DIV_LOCALREQ, s.epochNow⟩
        let s : State := { s with rope := { s.rope with
          children := kids
          members := if anchor then (if back then s.rope.members.filter (fun m => m.coord ≠ s.own) else []) ++ [me] else []
          requests := if anchor && need.d2 ≠ 0 then asked ++ [need] else asked
          waitFrom := s.ref
          rejoin := false } }
        if back then
          let e := if s.rope.restore.isSome then s.rope.restore else
            let es := (s.ownSlots.filter (·.2)).map (·.1)
            if es.isEmpty then none else some (es.foldl max 0)
          .next (match e with
            | some e => { s.setReg F.BC_ROPE_STATUS_STATE 6 with rope := { s.rope with restore := some e } }
            | none => { s.setReg F.BC_ROPE_STATUS_STATE 3 with rope := { s.rope with ready := true } })
        else if anchor then .next { s.setReg F.BC_ROPE_STATUS_STATE 3 with rope := { s.rope with ready := true } }
        else .next (s.setReg F.BC_ROPE_STATUS_STATE 2)

/-- The JOIN digest: the section table, the entry table and the descriptor but COORD and CAIRNS (R282). -/
def Img.joinDigest (m : Img) : List Nat :=
  let part := fun (o n : Nat) => (List.range n).map (fun i => m.u (o + i) 1)
  sha384 (part (m.dirOff 0) (m.dirLen 0) ++ part (m.dirOff 1) (m.dirLen 1) ++ part (m.dirOff 8) 0x10 ++
    part (m.dirOff 8 + 0x12) 0x0C)

/-- The coding of a checkpoint slot in a JOIN: 0 empty, 1 captured, 2 committed. -/
def State.slotCode (s : State) (x : CkpSlot) : Nat := if !s.usable x then 0 else if x.commit = some x.epoch then 2 else 1

/-- The JOIN payload (R282). -/
def State.joinBytes (s : State) (m : Img) : List Nat :=
  let d := m.rope
  let a := s.rope.slotA
  let b := s.rope.slotB
  bytesLe 8 d.idLo ++ bytesLe 8 d.idHi ++ bytesLe 2 d.coord ++ [s.reg F.BC_IMG_STATUS_DFLOOR % 256, s.pmin2 % 256] ++
    bytesLe 4 m.capGap ++ bytesLe 8 a.epoch ++ [s.slotCode a, s.slotCode b] ++ bytesLe 2 d.cairns ++ bytesLe 4 0 ++
    bytesLe 8 b.epoch ++ m.joinDigest ++ List.replicate 8 0

/-- JOIN: 100 ms have passed in JOINING (R282). -/
def execJoin (s : State) : Res :=
  match s.image with
  | some m => if s.solo || s.reg F.BC_ROPE_STATUS_STATE ≠ 2 then .next s else .next (s.request s.acoord 1 1 (s.joinBytes m))
  | none => .next s

/-- The anchor is forming its rope: JOINs are admitted (R282). -/
def State.forming (s : State) : Bool :=
  s.inRope && s.isAnchor && s.reg F.BC_ROPE_STATUS_STATE = 3 && s.rope.start.isNone && s.rope.restore.isNone

/-- The member that a JOIN payload describes. -/
def memberOf (b : List Nat) : Member :=
  let one : Nat → Nat → List (Nat × Bool) := fun e c => if leAt b c 1 = 0 then [] else [(leAt b e 8, decide (leAt b c 1 = 2))]
  ⟨leAt b 16 2, leAt b 18 1, leAt b 19 1, leAt b 20 4, one 24 32 ++ one 40 33, leAt b 34 2⟩

/-- Whether the anchor admits a JOIN: ROPE_ID and digest agree, and no other member has its COORD. -/
def State.joinOk (s : State) (m : Img) (src : Nat) (b : List Nat) : Bool :=
  s.forming && leAt b 0 8 = m.rope.idLo && leAt b 8 8 = m.rope.idHi && (b.drop 48).take 48 = m.joinDigest &&
    leAt b 16 2 = src && m.rope.inside src && !s.rope.members.any (fun x => x.coord = src && x ≠ memberOf b)

/-- MAIL: mailboxes 1 to 3 of the anchor, from members of its rope; any other is DENIED (R252, R397). -/
def execMail (s : State) : Res :=
  .next (s.serve 1 (fun s d =>
    let no := s.answer d 0x81 1 []
    let member := s.inRope && s.isAnchor && s.rdesc.inside d.src
    match s.image with
    | none => no
    | some m =>
      if !member then no
      else
        let box := d.arg % 256
        if box = 1 then
          if s.joinOk m d.src d.payload then
            let x := memberOf d.payload
            let s : State := { s with rope := { s.rope with
              members := s.rope.members.filter (fun y => y.coord ≠ x.coord) ++ [x] } }
            (s.setReg F.BC_ROPE_STATUS_MEMBERS (min 0xFFFF s.rope.members.length)).answer d 0x81 0 []
          else no
        else if box = 2 then
          let rest := s.bcl.mail.filter (fun x => !(x.1 = 2 && x.2.1 = d.src && leAt x.2.2 0 1 = leAt d.payload 0 1))
          { s with bcl := { s.bcl with mail := (2, d.src, d.payload) :: rest } }.answer d 0x81 0 []
        else if box = 3 then
          let c := leAt d.payload 0 2
          let rest := s.rope.gaps.filter (fun g => g.1 ≠ c)
          { s with rope := { s.rope with
            gaps := if leAt d.payload 2 6 = 0 then rest else rest ++ [(c, s.epochNow)] } }.answer d 0x81 0 []
        else no))

/-- MAIL_DONE: in JOINING the anchor's answer to the JOIN (R280, R282). -/
def execMailDone (s : State) : Res :=
  .next (s.takeAnswer 0x81 (fun s d =>
    if s.solo || s.reg F.BC_ROPE_STATUS_STATE ≠ 2 || d.src ≠ s.acoord then s
    else if d.status = 0 then
      { s.setReg F.BC_ROPE_STATUS_STATE 3 with rope := { s.rope with waitFrom := s.ref, ready := true } }
    else if d.status = 1 then s.stopRope 1
    else s))

/-- FORM_TIMEOUT (R280, R282): the anchor lacks a JOIN, or any member has waited FORM_TIMEOUT + 1 s for START. -/
def execFormTimeout (s : State) : Res :=
  let st := s.reg F.BC_ROPE_STATUS_STATE
  let t := s.reg F.BC_ROPE_CFG_FORM_TIMEOUT * 100000000
  if s.solo || !(st = 2 || st = 3) || s.rope.start.isSome then .next s
  else if s.isAnchor && s.forming && decide (s.rope.members.length < s.rdesc.size ∧ s.rope.waitFrom + t ≤ s.ref) then
    .next ((s.bcastCell 0x01 (abortBytes 2 2 none s.own 0)).stopRope 2)
  else if s.rope.waitFrom + t + 100000000 ≤ s.ref then .next (s.stopRope 2)
  else .next s

/-! ### Starting (R283, R317) -/

/-- The rope floor F (R284). -/
def State.ropeFloor (s : State) : Nat :=
  (s.rope.members.map (fun m => max m.dfloor2 m.pmin2)).foldl max
    (max s.rdesc.dmin2 (max (s.reg F.BC_IMG_STATUS_DFLOOR) s.pmin2))

/-- CAP of the rope: the largest capture gap of any member (R305). -/
def State.ropeCap (s : State) : Nat :=
  (s.rope.members.map (·.cap)).foldl max (match s.image with
    | some m => m.capGap
    | none => 0)

/-- The START that the anchor originates: RS at least 10 ms ahead, by `slack` refcycles more (R283). -/
def State.castStart (s : State) (slack : Nat) (e : Option Nat) : State :=
  let k0 := match e with
    | some e => (match s.slotOf e with
      | some x => x.k
      | none => 0)
    | none => 0
  let f := s.ropeFloor
  let sums := decide (0 < s.rdesc.cairns) || s.rope.members.any (fun m => decide (0 < m.cairns))
  s.castEpoch ([2, b2n sums, 0, 0] ++ bytesLe 8 (s.rrc + 1000000 + slack) ++ bytesLe 8 k0 ++ epochBytes e ++
    [max 16 f, f, s.reg F.BC_ROPE_STATUS_REPLAYS % 256])

/-- Every member is ready: all have joined, or have been restored, and all report READY, each with its own ports
(R319); the ports pass their checks again, and no ACTIVE field is dark (R283, R287, R319, R472). -/
def State.allReady (s : State) : Bool :=
  s.ropeState = 3 && s.rope.start.isNone && s.isAnchor && s.rope.ready && !s.darkActive &&
    (if s.solo then s.rope.restore.isSome
     else s.ropePortsOk && s.ropeLatencyOk &&
       s.rope.children.all (·.ready) && (s.rope.restore.isSome || s.rope.members.length = s.rdesc.size))

/-- START: a member takes a START cell; the anchor originates one when every member is ready, and retrains poor ports of its
own (R283, R319). -/
def execStart (slack : BitVec 32) (s : State) : Res :=
  match s.nextEpoch 2 with
  | some (c, s') => .next (s'.takeEpoch c)
  | none =>
    if !s.allReady then
      .next (if s.inRope && s.isAnchor && s.ropeState = 3 && s.rope.ready && s.rope.start.isNone then s.retrainPoor else s)
    else match s.restoreEpoch, s.rope.restore.isSome with
      | none, true => .next (s.castEpoch (abortBytes 2 11 none s.own 0))
      | e, _ => .next (s.castStart slack.toNat e)

/-- ROPE_START: refcycle RS is reached (R156, R283, R317). -/
def execRopeStart (s : State) : Res :=
  match s.rope.start with
  | none => .next s
  | some c =>
    if s.ropeState ≠ 3 || decide (s.rrc < c.rs) then .next s
    else
      let s := match c.restore with
        | some e => if s.rope.ready && s.rope.restore = some e then s else s.restoreSlot e
        | none => s
      let inv := match c.restore with
        | some e => (match s.slotOf e with
          | some x => x.invSeq
          | none => 0)
        | none => 0
      let js := s.rope.journal.filter (fun i => decide (inv ≤ i.seqNo))
      let ended := s.run.ended.filter (fun e => decide (e.1 < inv))
      let cut := fun (l : List Nat) => l.filter (fun q => decide (q < inv))
      let e0 := c.k0 / 2 ^ s.rdesc.epochLog2
      let last := match js.getLast?, s.image with
        | some i, some m => i.start + (m.invLength i.entry i.params).getD 0
        | _, _ => c.k0
      let s := s.restartKeys c.k0
      let s : State := { s with
        acyc := c.k0
        invq := js
        run := { s.run with ended := ended }
        ldg := { s.ldg with fed := cut s.ldg.fed, drained := cut s.ldg.drained }
        rope := { s.rope with
          start := none
          restore := none
          sums := c.sums
          nextSeq := match js.getLast? with
            | some i => i.seqNo + 1
            | none => inv
          lastEnd := last
          coldMin := if c.restore.isSome then c.k0 + s.ropeCap else c.k0
          epoch := e0
          lastMark := c.k0
          bad := none
          low := none
          badSent := false
          noCkp := false
          upAt := c.k0
          upCleared := 0
          clearAt := c.k0
          awaitCommit := false
          startedSince := false
          verified := c.k0 / 16384
          capEpoch := if c.restore.isSome then e0 + 1 else 0
          planEpoch := if c.restore.isSome then e0 + 1 else 0
          children := s.rope.children.map (fun (k : Child) => { k with lastUp := c.k0, cleared := 0, counted := 0, ready := false }) } }
      let s := s.setReg F.BC_ROPE_CLEAR_CLEAR (min (s.reg F.BC_ROPE_CLEAR_CLEAR) c.k0)
      let s := (s.setRopeState 4).setDivider c.d2
      let lead := if s.solo then 16384 else 65536
      .next (if c.floor = c.d2 then s else s.announced (ratioPoint c.k0 lead) c.floor)

/-! ### Time (R276, R279) -/

/-- TIME_SEND: 65,536 refcycles have passed; a parent sends each child TIME (R276). -/
def execTimeSend (s : State) : Res :=
  if !s.inRope then .next s
  else
    let known := s.reg F.TEL_TOD_VALID = 1 && (if s.isAnchor then s.reg F.TEL_PPS_REF ≠ 0 else s.reg F.TEL_TOD_ANCHOR = 1)
    let tod := if known then s.reg F.TEL_TOD_SEC * 1000000000 + 10 * (s.ref - s.pw.todAt) else 0
    .next (s.childCoords.foldl (fun s c => s.sendCell c 0x02 (bytesLe 8 s.rt ++ bytesLe 8 tod)) s)

/-- The anchor's time of day in nanoseconds is taken over; 0 says that it has none (R276, R513). -/
def State.takeTod (s : State) (ns : Nat) : State :=
  if ns = 0 then s
  else
    let s := { s with pw := { s.pw with todAt := s.ref - ns % 1000000000 / 10 } }
    ((s.setReg F.TEL_TOD_SEC (ns / 1000000000)).setReg F.TEL_TOD_ANCHOR 1).setReg F.TEL_TOD_VALID 1

/-- TIME (R276, R279): in PREPARE the rope time is set; otherwise a difference above 64 units is recorded. -/
def execTime (s : State) : Res :=
  match s.takeCell (fun c => c.type = 2) with
  | none => .next s
  | some ((_, c), s) =>
    let want := (leAt c.body 0 8 + s.reg F.HX_LAT_RTT (s.reg F.BC_ROPE_STATUS_TPORT) * 256 / 125) % 2 ^ 64
    let s : State := { s with rope := { s.rope with lastTime := s.ref + 1 } }
    let s := s.takeTod (leAt c.body 8 8)
    if s.solo then .next s
    else if s.reg F.BC_ROPE_STATUS_STATE = 1 then
      .next { s with rope := { s.rope with rtOff := (want + 2 ^ 64 - 64 * s.ref % 2 ^ 64) % 2 ^ 64 } }
    else if !s.inRope then .next s
    else
      let d := (s.rt + 2 ^ 64 - want) % 2 ^ 64
      .next (if d ≤ 64 ∨ 2 ^ 64 ≤ d + 64 then s else s.moduleFault 5 Code.schRopeTime 0 d true)

/-- TIME_MISSING: three TIME intervals have passed with no TIME cell, since the last one or, before the first, since FORM (R279). -/
def execTimeMissing (s : State) : Res :=
  let last := if s.rope.lastTime = 0 then s.rope.waitFrom else s.rope.lastTime - 1
  if !s.inRope || s.isAnchor || decide (s.ref < last + 196608) then .next s
  else .next ({ s with rope := { s.rope with lastTime := s.ref + 1 } }.moduleFault 5 Code.schRopeTime 0 0 true)

/-! ### Epochs and ratios (R285, R289 to R293, R401) -/

/-- EPOCH_BOUNDARY: the rope acycle enters a new epoch (R285, R289, R401). -/
def execEpochBoundary (s : State) : Res :=
  let e := s.epochNow
  if s.ropeState ≠ 4 || decide (e ≤ s.rope.epoch) then .next s
  else
    let s : State := { s with rope := { s.rope with epoch := e, gaps := s.rope.gaps.filter (fun g => decide (e < g.2 + 3)) } }
    let s := if s.isAnchor then
        let s := s.castEpoch ([1, 0, 0, 0] ++ bytesLe 8 e ++ epochBytes s.lastCommitted ++
          [s.divNow % 256, s.reg F.CLK_DIV_TARGET % 256])
        let kept := s.rope.requests.filter (fun (q : RatioReq) => q.coord = s.own || decide (e < q.epoch + 3))
        let s : State := { s with rope := { s.rope with requests := kept } }
        s.retarget
      else if s.reg F.CLK_DIV_LOCALREQ = 0 then s
      else s.sendRatio
    if s.inRope && !s.isAnchor && s.surveying then
      .next (s.request s.acoord 1 3 (bytesLe 2 s.own ++ bytesLe 6 (s.fieldMask (fun f => s.reg F.FLD_SVY_DUE f = 1))))
    else .next s

/-- MARK (R279, R285). -/
def execMark (s : State) : Res := .next (s.serveEpoch 1)
/-- INVOKE (R286). -/
def execInvoke (s : State) : Res := .next (s.serveEpoch 3)
/-- CLEAR (R304). -/
def execClear (s : State) : Res := .next (s.serveEpoch 5)
/-- COMMIT (R311). -/
def execCommit (s : State) : Res := .next (s.serveEpoch 6)
/-- ABORT (R316). -/
def execAbort (s : State) : Res := .next (s.serveEpoch 7)

/-- REQUEST (R289). -/
def execRequest (s : State) : Res :=
  match s.takeCell (fun c => c.type = 3 && leAt c.body 0 1 = 1) with
  | none => .next s
  | some ((_, c), s) => .next (if s.inRope && s.isAnchor then s.takeRequest c.src (leAt c.body 1 1) else s)

/-- ANNOUNCE (R290, R293). -/
def execAnnounce (s : State) : Res :=
  match s.takeCell (fun c => c.type = 3 && leAt c.body 0 1 = 2) with
  | none => .next s
  | some ((_, c), s) =>
    let p := leAt c.body 4 8
    if s.ropeState ≠ 4 then .next s
    else if p < s.acyc then .next (s.moduleFault 5 Code.schRatioLate 0 p true)
    else .next ((s.setReg F.BC_ROPE_RATIO_FLOOR (leAt c.body 2 1)).announced p (leAt c.body 1 1))

/-! ### The invocation stream (R286, R305, R341) -/

/-- What the MAILs of the other members say of an entry: the active requests of each and its largest parameters (R341). -/
def State.peerWork (s : State) (e : Nat) : List (Nat × List Nat) :=
  (s.bcl.mail.filter (fun x => x.1 = 2)).flatMap (fun x =>
    (List.range (leAt x.2.2 1 1)).filterMap (fun j =>
      let b := x.2.2.drop (4 + 32 * j)
      if leAt b 0 1 = e then some (leAt b 4 4, (List.range 6).map (fun k => leAt b (8 + 4 * k) 4)) else none))

/-- The parameters of an invocation: the policy's, or the largest of the batch over all members, and its sequence number (R341); a
standalone test takes the dictionary's P0 to P5 (R398). -/
def State.invParams (s : State) (e q : Nat) : List Nat :=
  let own := fun (k : Nat) =>
    if s.dict.test.isSome then leAt s.dict.params (4 * k) 4
    else if bitOf (s.ldg.pmax e) k then (s.peerWork e).foldl (fun n w => max n (w.2.getD k 0)) (s.ldg.largest e k)
    else s.ldg.pconst e k
  (List.range 6).map own ++ [q % 2 ^ 32, q / 2 ^ 32 % 2 ^ 32]

/-- Some member has work for an entry (R341, R398). -/
def State.entryWanted (s : State) (e : Nat) : Bool :=
  match s.dict.test with
  | some t => e = 0 && !t.issued
  | none => (s.peerWork e).any (fun w => w.1 ≠ 0) || !(s.ldg.wanting e).isEmpty

/-- Whether the anchor may place an invocation at a start acycle, `now` being the acycle at which it originates it:
chained onto the one before, or a cold start late enough after it, after a capture and after a survey's gap (R169,
R286, R305, R401). -/
def State.placeOk (s : State) (m : Img) (e now start : Nat) : Bool :=
  let lead := if s.solo then 4096 else 65536
  let r := s.rope
  let k := decide (r.planEpoch ≤ r.lastEnd / 2 ^ s.rdesc.epochLog2) && r.lastEnd ≠ 0
  let gap := s.surveying || !r.gaps.isEmpty
  let chain := start = r.lastEnd && !k && (match r.journal.getLast? with
    | some i => (match m.lengths i.params (m.sections + 1) (m.entrySec i.entry) with
      | some l => (m.sect (m.entrySec i.entry + l.length - 1)).preload = e
      | none => false)
    | none => false)
  let cold := decide (r.coldMin ≤ start ∧ (r.lastEnd = 0 ∨ r.lastEnd + 4096 ≤ start)) &&
    (!k || decide (r.lastEnd + s.ropeCap + (if gap then 4096 else 0) ≤ start))
  decide (max s.issueNow now + lead ≤ start) && (chain || cold)

/-- INVOCATION_ISSUE: the anchor invokes an entry at a start acycle. A rope of one that has not started starts (R271, R286, R305,
R341). None is issued while a port that the image uses is short (R231). -/
def execInvocationIssue (e : BitVec 8) (start now : BitVec 64) (ups : List (Addr × Upset)) (s : State) : Res :=
  let s := s.upsets ups
  match s.image with
  | none => .next s
  | some m =>
    let fresh := s.solo && s.ropeState = 3 && s.rope.restore.isNone && !s.darkActive
    if !s.isAnchor || s.usedShort || !(s.ropeState = 4 || fresh) || decide (m.entries ≤ e.toNat) || !s.entryWanted e.toNat then .next s
    else
      let was := s
      let s := if fresh && s.rope.start.isNone then s.castStart 0 none else s
      let q := s.rope.nextSeq
      let ps := s.invParams e.toNat q
      match m.invLength e.toNat ps with
      | none => .next (was.setReg F.BC_IMG_STATUS_REASON 0x11)
      | some _ =>
        if !s.placeOk m e.toNat now.toNat start.toNat then .next was
        else
          let r := s.rope
          let k := decide (r.planEpoch ≤ r.lastEnd / 2 ^ s.rdesc.epochLog2) && r.lastEnd ≠ 0
          let s := if k then { s with rope := { r with planEpoch := r.lastEnd / 2 ^ s.rdesc.epochLog2 + 1 } } else s
          let s := match s.dict.test with
            | some t => { s with dict := { s.dict with test := some { t with issued := true, seqNo := q } } }
            | none => s
          .next (s.castEpoch ([3, e.toNat, 0, 0] ++ bytesLe 8 q ++ bytesLe 8 start.toNat ++ ps.flatMap (bytesLe 4)))

/-! ### Captures and commits (R303 to R311) -/

/-- CAPTURE_POINT: the invocation that ends first in an epoch has ended (R305, R306). -/
def execCapturePoint (s : State) : Res :=
  match s.run.ended with
  | [] => .next s
  | (q, k) :: _ =>
    let e := k / 2 ^ s.rdesc.epochLog2
    if s.ropeState ≠ 4 || s.run.cur.isSome || decide (s.acyc < k) || decide (e < s.rope.capEpoch) || !s.rope.startedSince ||
        s.rope.capture.isSome then .next s
    else
      let s : State := { s with rope := { s.rope with capEpoch := e + 1, startedSince := false } }
      if s.rope.awaitCommit then .next s
      else
        let b := if s.reg F.BC_ROPE_CKP_CVALID = 1 then 1 - s.reg F.BC_ROPE_CKP_CSLOT else 0
        let s := s.setSlot b ⟨1, false, e, k, q + 1, s.rdesc.idLo, 0, 0, [], none⟩
        .next ({ s with rope := { s.rope with capture := some (e, k, b) } }.setReg F.BC_ROPE_CKP_CAPTURING 1)

/-- CAPTURE_COMPLETE (R307, R310). -/
def execCaptureComplete (s : State) : Res :=
  match s.rope.capture with
  | none => .next s
  | some (_, _, b) =>
    let x := s.slot b
    let c : SMap FieldCap := s.usedFields.foldl (fun m f => m.set FieldCap.zero f (s.captureField f)) []
    let w := weighFields c s.usedFields
    let s := s.setSlot b { x with state := 2, crcOk := true, length := 8 * w.1, csum := w.2, content := c }
    .next ({ s with rope := { s.rope with capture := none, awaitCommit := true } }.setReg F.BC_ROPE_CKP_CAPTURING 0)

/-- CLEAR_BROADCAST: the anchor computes CLEAR and broadcasts it, with COMMIT where due (R303, R311). -/
def execClearBroadcast (s : State) : Res :=
  if !s.isAnchor || s.ropeState ≠ 4 || decide (s.acyc < s.rope.clearAt + 4096) || s.rope.bad.isSome ||
      decide (s.subtreeCount < s.rdesc.size) then .next s
  else
    let c := s.subtreeCleared
    let c := if s.rope.sums then min c (16384 * s.rope.verified) else c
    let c := max c (s.reg F.BC_ROPE_CLEAR_CLEAR)
    let s : State := { s with rope := { s.rope with clearAt := s.acyc } }
    let s := s.castEpoch ([5, 0, 0, 0] ++ bytesLe 8 c)
    match s.allCaptured with
    | none => .next s
    | some e => (match s.slotOf e with
      | none => .next s
      | some x =>
        if s.rope.committed.contains e || decide (c < x.k) then .next s
        else
          let s : State := { s with rope := { s.rope with
            committed := e :: s.rope.committed
            children := s.rope.children.map (fun (k : Child) => { k with slots := (e, true) :: k.slots.filter (fun y => y.1 ≠ e) }) } }
          .next (s.castEpoch ([6, 0, 0, 0] ++ bytesLe 8 e ++ bytesLe 8 x.k)))

/-! ### Reports (R301, R313, R319, R321) -/

/-- The member itself is ready: its restore or rejoin has ended, its ports pass and no ACTIVE field is dark (R313, R319,
R472). -/
def State.selfReady (s : State) : Bool := s.rope.ready && s.ropePortsOk && s.ropeLatencyOk && !s.darkActive

/-- The code or reason of NOT_READY (R316, R319, R472). -/
def State.notReadyWhy (s : State) : Nat :=
  if s.rope.noCkp then 11
  else if s.darkActive then Code.fieldDark
  else if !s.rope.ready then 0
  else if !s.ropePortsOk then 3
  else if !s.ropeLatencyOk then 4
  else 0

/-- The UP body (R285, R301, R313). -/
def State.upBytes (s : State) (status code acyc origin : Nat) : List Nat :=
  let set := (s.subtreeSlots.mergeSort (fun a b => decide (a.1 ≤ b.1))).take 2
  let at2 := fun (k : Nat) => set.getD k (0, false)
  let slots := decide (2 ≤ status)
  [4, status] ++ bytesLe 2 code ++ bytesLe 8 s.subtreeCleared ++ bytesLe 8 acyc ++ bytesLe 2 origin ++
    [if slots then b2n (decide (1 ≤ set.length)) + 2 * b2n (decide (2 ≤ set.length)) else 0,
     if slots then b2n (at2 0).2 + 2 * b2n (at2 1).2 else 0] ++
    bytesLe 4 s.subtreeCount ++ epochBytes s.subtreeCaptured ++
    (if slots then bytesLe 8 (at2 0).1 ++ bytesLe 8 (at2 1).1 else [])

/-- UP_REPORT (R301). -/
def execUpReport (s : State) : Res :=
  let st := s.reg F.BC_ROPE_STATUS_STATE
  if s.solo || s.isAnchor || st = 0 || s.reg F.BC_ROPE_STATUS_TPORT = 7 || s.trust.halted then .next s
  else
    let parent := s.rdesc.next s.own (s.reg F.BC_ROPE_STATUS_TPORT)
    let send := fun (s : State) (b : List Nat) =>
      { s with rope := { s.rope with upAt := s.acyc, upCleared := s.subtreeCleared } }.sendCell parent 0x01 b
    match s.rope.bad, s.rope.badSent with
    | some (code, acyc, origin), false =>
      .next ({ send s (s.upBytes 1 code acyc origin) with rope := { s.rope with badSent := true, upAt := s.acyc } })
    | _, _ =>
      if st = 3 || st = 6 then
        let ok := st = 3 && s.selfReady && s.rope.children.all (·.ready)
        let b := s.upBytes (if ok then 2 else 3) (if ok then 0 else s.notReadyWhy) 0 0
        .next (send (if st = 3 && s.rope.ready then s.retrainPoor else s) b)
      else if st = 4 && ((decide (s.rope.upCleared < s.subtreeCleared ∧ s.rope.upAt + 4096 ≤ s.acyc)) ||
          decide (s.rope.upAt + 65536 ≤ s.acyc)) then .next (send s (s.upBytes 0 0 0 0))
      else .next s

/-- UP: a parent takes a child's report (R301, R313). -/
def execUp (s : State) : Res :=
  match s.takeCell (fun c => c.type = 1 && leAt c.body 0 1 = 4) with
  | none => .next s
  | some ((_, c), s) =>
    let b := c.body
    if !s.inRope || !s.rope.children.any (fun k => k.coord = c.src) then .next s
    else
      let status := leAt b 1 1
      let flags := leAt b 22 1
      let marks := leAt b 23 1
      let set := (if bitOf flags 0 then [(leAt b 36 8, bitOf marks 0)] else []) ++
        (if bitOf flags 1 then [(leAt b 44 8, bitOf marks 1)] else [])
      let s : State := { s with rope := { s.rope with children := s.rope.children.map (fun (k : Child) =>
        if k.coord ≠ c.src then k
        else { k with
          lastUp := s.acyc
          cleared := leAt b 4 8
          counted := leAt b 24 4
          captured := optEpoch (leAt b 28 8)
          ready := if status = 2 then true else if status = 3 then false else k.ready
          slots := if 2 ≤ status then set else k.slots }) } }
      let s := s.setReg F.BC_ROPE_STATUS_MEMBERS (min 0xFFFF s.subtreeCount)
      .next (if status = 1 then s.trigger (leAt b 2 2) (leAt b 12 8) (leAt b 20 2) else s)

/-- MEMBER_LOST: no UP from a child for 131,072 acycles (R301, R314). -/
def execMemberLost (s : State) : Res :=
  if !s.inRope || s.ropeState ≠ 4 || !s.rope.children.any (fun k => decide (k.lastUp + 131072 ≤ s.acyc)) then .next s
  else .next (s.trigger 7 s.acyc s.own)

/-- RESTORE_COMPLETE: the release has ended and the restore with it; `csum` says that the slot's CSUM holds (R316, R320). -/
def execRestoreComplete (csum : Bool) (s : State) : Res :=
  if s.ropeState ≠ 6 || s.rst.active || !s.log.migrate.isEmpty then .next s
  else match s.rope.restore with
    | none => .next { s.setRopeState 3 with rope := { s.rope with ready := true, journal := [] } }
    | some e =>
      if !csum || !s.csumOk e then
        let s := s.moduleFault 5 Code.eccStkUe 0 e false
        .next (if s.solo then s.stopRope 11 else { s with rope := { s.rope with ready := false, noCkp := true } })
      else
        let s := s.restoreSlot e
        let s := (s.allFields.filter (fun f => s.compOn f && !s.dark f && !s.heldOut f)).foldl
          (fun s f => s.mapTiles f (fun t => { t with core := { t.core with dmem := [] } }.startRun s.acyc)) s
        .next { s.setRopeState 3 with rope := { s.rope with ready := true, noCkp := false, waitFrom := s.ref } }

/-- SHORT_WAIT_EXPIRY: a short or failing port has persisted for SHORT_WAIT (R319). -/
def execShortWaitExpiry (s : State) : Res :=
  if !s.inRope || s.reg F.BC_ROPE_STATUS_STATE ≠ 3 then .next s
  else if !s.ropePortsOk then .next (s.enterReplan 3)
  else if !s.ropeLatencyOk then .next (s.enterReplan 4)
  else .next s

/-- ANCHOR_LOST: no MARK for two epochs, or the time port has not been UP for SHORT_WAIT (R321). -/
def execAnchorLost (s : State) : Res :=
  let st := s.reg F.BC_ROPE_STATUS_STATE
  let marks := st = 4 && decide (s.rope.lastMark + 2 * 2 ^ s.rdesc.epochLog2 ≤ s.acyc)
  if !s.inRope || s.isAnchor || decide (st < 2) || !(marks || !s.portUp (s.reg F.BC_ROPE_STATUS_TPORT)) then .next s
  else .next (s.stopRope 8)

/-! ### Cairns (R296 to R299) -/

/-- A stream of a port and kind with HOP whose end, `late` acycles ago, has passed, and which is not settled. -/
def State.hopDue (s : State) (p kind late : Nat) : Option (Nat × CairnDef × Inst) :=
  ((s.cairnDefs.filter (fun d => d.2.port = p && d.2.kind = kind && bitOf d.2.role 0)).flatMap (fun d =>
    ((s.rope.insts.filter (fun i => i.section_ = d.2.section_ && decide (streamEnd d.2 i + late ≤ s.acyc) &&
      !(s.engine d.1 i.seqNo).done)).reverse).map (fun i => (d.1, d.2, i)))).head?

/-- A cairn mismatch at a port (R296, R298). -/
def State.cairnBad (s : State) (p : Nat) : State :=
  (s.satReg F.CRN_STAT_MISMATCH p).portFault p Code.crnMismatch true

/-- A stream of a port that no hop cairn and no window settles, of an IN stream or of another, ended `late` acycles ago with an odd
word left (R296). -/
def State.oddDue (s : State) (p : Nat) (in_ : Bool) (late : Nat) : Option (Nat × Inst) :=
  ((s.cairnDefs.filter (fun d => d.2.port = p && decide (d.2.kind = 1) = in_ && !bitOf d.2.role 0 &&
      (decide (d.2.role < 2) || !s.rope.sums))).flatMap (fun d =>
    ((s.rope.insts.filter (fun i => i.section_ = d.2.section_ && decide (streamEnd d.2 i + late ≤ s.acyc) &&
      (s.engine d.1 i.seqNo).half.isSome && !(s.engine d.1 i.seqNo).done)).reverse).map (fun i => (d.1, i)))).head?

/-- Such a stream is closed and recorded. -/
def State.closeOdd (s : State) (p : Nat) (in_ : Bool) (late : Nat) : State :=
  match s.oddDue p in_ late with
  | none => s
  | some (n, i) => (s.setEngine { s.engine n i.seqNo with done := true }).cairnBad p

/-- HOP_SEND: the last capture acycle of an OUT stream with HOP has passed (R298). Where none is due, an odd stream without HOP that
has ended is recorded (R296; assumption 45). -/
def execHopSend (p : Fin 6) (s : State) : Res :=
  if s.ropeState ≠ 4 then .next s
  else match s.hopDue p.val 0 0 with
    | none => .next (s.closeOdd p.val false 0)
    | some (n, _, i) =>
      let e := s.engine n i.seqNo
      let s := s.setEngine { e with done := true }
      let s := if e.half.isSome then s.cairnBad p.val else s
      .next (s.sendCell (s.rdesc.next s.own p.val) 0x04 ([1, n, 0, 0] ++ bytesLe 8 i.seqNo ++ bytesLe 16 (e.cairn s.own)))

/-- HOP: the IN engine compares a hop cairn once its stream is complete (R298). -/
def execHop (s : State) : Res :=
  match s.takeCell (fun c => c.type = 4 && leAt c.body 0 1 = 1) with
  | none => .next s
  | some ((_, c), s') =>
    let n := leAt c.body 1 1
    let q := leAt c.body 4 8
    match s.cairnDefs.find? (fun d => d.1 = n), s.rope.insts.find? (fun i => i.seqNo = q &&
        (match s.cairnDefs.find? (fun d => d.1 = n) with
          | some d => d.2.section_ = i.section_
          | none => false)) with
    | some (_, d), some i =>
      if s.acyc < streamEnd d i + s.rdesc.land then .next s
      else
        let s := s'
        let e := s.engine n q
        let v := leAt c.body 12 16
        let s := (s.setReg F.CRN_LAST_LO_CAIRN v d.port).setReg F.CRN_LAST_HI_CAIRN (v / 2 ^ 64) d.port
        let s := (s.addReg F.CRN_STAT_CHECKED d.port).setEngine { e with done := true }
        .next (if v = e.cairn (s.rdesc.next s.own d.port) && e.half.isNone then s else s.cairnBad d.port)
    | _, _ => .next s'

/-- CRN_MISSING: a hop cairn has not come L + 4,096 acycles after its stream (R298). Where none is missing, an odd IN stream without
HOP that has ended is recorded (R296; assumption 45). -/
def execCrnMissing (p : Fin 6) (s : State) : Res :=
  if s.ropeState ≠ 4 then .next s
  else match s.hopDue p.val 1 (s.rdesc.land + 4096) with
    | none => .next (s.closeOdd p.val true s.rdesc.land)
    | some (n, _, i) =>
      let s := s.setEngine { s.engine n i.seqNo with done := true }
      .next ((s.satReg F.CRN_STAT_MISSING p.val).portFault p.val Code.crnMissing true)

/-- What the children have reported of a window. -/
def State.windowKids (s : State) (j : Nat) : List (Nat × Nat × Nat) :=
  match s.rope.windows.find? (fun w => w.j = j) with
  | some w => w.kids
  | none => []

/-- Whether the window's instances have all ended L + 4,096 acycles ago and every child has reported (R299). -/
def State.windowDue (s : State) (j : Nat) : Bool :=
  decide (16384 * (j + 1) ≤ s.acyc) &&
    (s.rope.insts.filter (fun i => i.start / 16384 = j)).all (fun i => decide (i.start + i.len + s.rdesc.land + 4096 ≤ s.acyc)) &&
    s.rope.children.all (fun k => (s.windowKids j).any (fun w => w.1 = k.coord))

/-- The next window is settled: the anchor verifies it, another member sends its subtree's δ (R299). -/
def State.settleWindow (s : State) : State :=
  let j := s.rope.verified
  if s.ropeState ≠ 4 || !s.rope.sums || !s.windowDue j then s
  else
    let kids := s.windowKids j
    let own := s.ownDelta j
    let odd := s.cairnDefs.any (fun d => decide (2 ≤ d.2.role) && s.rope.insts.any (fun i => i.start / 16384 = j &&
      i.section_ = d.2.section_ && (s.engine d.1 i.seqNo).half.isSome))
    let total := kids.foldl (fun t w => (t + w.2.1) % cairnP) own
    let count := kids.foldl (fun t w => t + w.2.2) 1
    let s : State := { s with rope := { s.rope with verified := j + 1, windows := s.rope.windows.filter (fun w => decide (j < w.j)) } }
    let s := if odd then s.moduleFault 5 Code.crnMismatch 0 j true else s
    if s.isAnchor then
      if total = 0 && count = s.rdesc.size then s.setReg F.BC_ROPE_CRN_DELTA own
      else
        ({ s.setReg F.BC_ROPE_CRN_MM 1 with rope := { s.rope with verified := j } }.setReg F.BC_ROPE_CRN_DELTA own).moduleFault 5
          Code.crnMismatch 0 j true
    else
      (s.setReg F.BC_ROPE_CRN_DELTA own).sendCell (s.rdesc.next s.own (s.reg F.BC_ROPE_STATUS_TPORT)) 0x04
        ([2, 0, 0, 0] ++ bytesLe 8 j ++ bytesLe 8 total ++ bytesLe 4 count)

/-- SUM_SEND (R299). -/
def execSumSend (s : State) : Res := .next s.settleWindow

/-- SUM: a child's subtree δ joins its window, which the anchor verifies when it is due (R299). -/
def execSum (s : State) : Res :=
  match s.takeCell (fun c => c.type = 4 && leAt c.body 0 1 = 2) with
  | none => .next s
  | some ((_, c), s) =>
    let j := leAt c.body 4 8
    let w := s.windowKids j
    let new := (c.src, leAt c.body 12 8 % cairnP, leAt c.body 20 4) :: w.filter (fun x => x.1 ≠ c.src)
    let s : State := { s with rope := { s.rope with windows := ⟨j, new⟩ :: s.rope.windows.filter (fun x => x.j ≠ j) } }
    .next (if s.isAnchor then s.settleWindow else s)

end Sys2Proof.Machine
end

