-- ==== Sys2Proof/Machine/SurveyOps.lean ====
section
/-!
DEFINITION. Sys2Proof/Machine/SurveyOps.lean: the survey window's accesses, which the host ports and the dictionary share (spec
17_telemetry R514, R515).
-/

namespace Sys2Proof.Machine

/-- A bit of the open debug scope (R381): 0 IEEE 1687 read, 1 write, 2 Base Camp halt, 3 tile scan. -/
def State.scopeOpen (s : State) (k : Nat) : Bool := bitOf (s.reg F.BC_DBG_CMD_SCOPE) k

/-- The tile that a view selects; view 2 follows entry 0x4020:01 (R514). -/
def State.surveyTarget (s : State) (view : Nat) : Option Nat :=
  if view = 2 then some (s.od 0x4020 1 % 2 ^ 20)
  else if s.reg F.SVY_SEL_EN 0 view = 1 then some (s.reg F.SVY_SEL_TARGET 0 view)
  else none

/-- SVY_STAT of a view after an access: its status, and whether it is counted in ERR, in DENIED or in OPS. -/
def State.svyNote (s : State) (view : Nat) (last : Option Nat) (err denied : Bool) : State :=
  let s := match last with
    | some v => s.setReg F.SVY_STAT_LAST v 0 view
    | none => s
  let s := if err then s.setReg F.SVY_STAT_ERR (satAdd 16 (s.reg F.SVY_STAT_ERR 0 view) 1) 0 view
    else s.setReg F.SVY_STAT_OPS (s.reg F.SVY_STAT_OPS 0 view + 1) 0 view
  if denied then s.setReg F.SVY_STAT_DENIED (satAdd 16 (s.reg F.SVY_STAT_DENIED 0 view) 1) 0 view else s

/-- The 8-byte words of `n` bytes from a tile address, cut into blocks of 64 bytes: first address and count of each (R515). -/
def surveyBlocks (off n : Nat) : List (Nat × Nat) :=
  if n = 0 then []
  else
    let a := off / 8 * 8
    let e := (off + n + 7) / 8 * 8
    (List.range ((e + 63) / 64 - a / 64)).map (fun k =>
      let lo := max a (64 * (a / 64 + k))
      let hi := min e (64 * (a / 64 + k) + 64)
      (lo, (hi - lo) / 8))

/-- READs block by block; none at the first that the tile denies (R219, R515). -/
def TW.surveyRead (w : TW) (p : TPos) : List (Nat × Nat) → TW × Option (List (Nat × Tok))
  | [] => (w, some [])
  | (a, n) :: rest =>
    match w.sysRead p (a + 2 ^ 20 * n) with
    | (w', none) => (w'.upd (·.sysNote 0 2), none)
    | (w', some ws) =>
      match (w'.upd (·.sysNote 0 0)).surveyRead p rest with
      | (w'', none) => (w'', none)
      | (w'', some more) => (w'', some ((List.range n).zipWith (fun k t => (a + 8 * k, t)) ws ++ more))

/-- A survey read of `n` bytes at an offset of a view: the bytes, or none where it ends in Completer Abort. -/
def State.surveyRead (s : State) (view off n : Nat) : State × Option (List Nat) :=
  match s.surveyTarget view with
  | none => (s.svyNote view none true false, none)
  | some a =>
    match s.locate a with
    | none => (s.svyNote view none true false, none)
    | some (f, key) =>
      if s.msgReset f then ((s.satReg F.RST_ISO_MSG).svyNote view (some 3) true false, none)
      else if s.agentAway f then (s.svyNote view (some 3) true false, none)
      else
        let r := (TW.start (s.tile f key) s.acyc).surveyRead (s.tpos f key) (surveyBlocks off n)
        let s := s.absorb f key r.1
        match r.2 with
        | none => (s.svyNote view (some 2) true false, none)
        | some ws =>
          let hide := fun (x : Nat × Tok) => decide (x.1 < 0x10000) && x.2.colour ≠ 0 && !s.scopeOpen 0
          let bs := ws.flatMap (fun x => bytesLe 8 (if hide x then 0 else x.2.data.toNat))
          (s.svyNote view (some 0) false (ws.any hide), some ((bs.drop (off % 8)).take n))

/-- Ranges that a host write may not reach: MSG_FLOW_OUT, MSG_FLOW_IN and MSG_FLOW_RPL (R218) and the bundle stores (R47). The
handle table and its shadow take a write by the tile's own test of its sequencer (R66). -/
def surveyKept (a : Nat) : Bool :=
  decide (0x10280 ≤ a ∧ a < 0x10400) || decide (0x30000 ≤ a ∧ a < 0x34000)

/-- The word that a write of bytes at an offset makes at address `a`: a word covered in part keeps its other bytes; none for a
part of a register with a CMD or W1C field (R14). -/
def Tile.surveyWord (t : Tile) (p : TPos) (off : Nat) (data : List Nat) (a : Nat) : Option (Nat × Tok) :=
  let old := t.readAddr p a
  let bs := (List.range 8).map (fun i =>
    if off ≤ a + i ∧ a + i < off + data.length then data.getD (a + i - off) 0 else bits old.data.toNat (8 * i) 8)
  let whole : Bool := decide (off ≤ a ∧ a + 8 ≤ off + data.length)
  let fixed : Bool := match findReg tileRegTable a with
    | some (r, _) => r.flds.any (fun f => f.acc = .cmd || f.acc = .w1c)
    | none => false
  if !whole && fixed then none else some (a, ⟨BitVec.ofNat 64 (leNat bs), 0⟩)

/-- The scratch words that a write of `n` bytes at an offset covers in part are read first (R71, R82). -/
def TW.surveyMerge (w : TW) (off n : Nat) : TW :=
  let r := ((partialWords off n).filter (fun i => decide (i < 8192))).foldl TW.noteScr w
  { r with inval := w.inval }

/-- The WRITEs of a write: within each block, up to seven words and then the eighth (R515). -/
def Tile.surveyWrites (t : Tile) (p : TPos) (off : Nat) (data : List Nat) : List (Nat × List Tok) :=
  (surveyBlocks off data.length).flatMap (fun b =>
    let ws := (List.range b.2).filterMap (fun k => t.surveyWord p off data (b.1 + 8 * k))
    ([ws.take 7, ws.drop 7].filter (fun l => !l.isEmpty)).map (fun l =>
      ((l.map (·.1)).headD 0, l.map (·.2))))

/-- WRITEs in address order: one that the tile denies stores nothing (R219, R515). Whether all were stored. -/
def TW.surveyWrite (w : TW) (p : TPos) : List (Nat × List Tok) → TW × Bool
  | [] => (w, true)
  | (a, ds) :: rest =>
    match w.t.sysWrite p a ds with
    | none =>
      let r := (w.upd (·.sysNote 1 2)).surveyWrite p rest
      (r.1, false)
    | some t => ({ w with t := t.sysNote 1 0 } : TW).surveyWrite p rest

/-- A survey write of bytes at an offset of a view; whether it was stored. -/
def State.surveyWrite (s : State) (view off : Nat) (data : List Nat) : State × Bool :=
  if !s.scopeOpen 1 || !s.crocus || (surveyBlocks off data.length).any (fun b =>
      (List.range b.2).any (fun k => surveyKept (b.1 + 8 * k))) then
    (s.svyNote view none true true, false)
  else
    match s.surveyTarget view with
    | none => (s.svyNote view none true false, false)
    | some a =>
      match s.locate a with
      | none => (s.svyNote view none true false, false)
      | some (f, key) =>
        if s.msgReset f then ((s.satReg F.RST_ISO_MSG).svyNote view (some 3) true false, false)
        else if s.agentAway f then (s.svyNote view (some 3) true false, false)
        else
          let t := s.tile f key
          let p := s.tpos f key
          let r := ((TW.start t s.acyc).surveyMerge off data.length).surveyWrite p (t.surveyWrites p off data)
          ((s.absorb f key r.1).svyNote view (some (if r.2 then 0 else 2)) (!r.2) false, r.2)

end Sys2Proof.Machine
end

