-- ==== Sys2Proof/Machine/Dictionary.lean ====
section
/-!
DEFINITION. Sys2Proof/Machine/Dictionary.lean: dictionary accesses on every transport, CANopen, the coolant exchange and the
profiles (spec 13_dictionary).
-/

namespace Sys2Proof.Machine

/-! ### Values (R404 to R407, R416, R417, R488, R491) -/

/-- The coolant status byte 0x2300:09 (R417). -/
def State.coolantStatus (s : State) : Nat :=
  s.reg F.PWR_STATUS_LEAK + 2 * s.reg F.PWR_STATUS_TRIP + 4 * b2n (bitOf s.pw.warn 0) + 8 * b2n (bitOf s.pw.warn 2) +
    16 * b2n s.anyComp

/-- The flow demand 0x2300:08 (R416). -/
def State.flowDemand (s : State) : Nat :=
  if s.reg F.PWR_STATUS_TRIP = 1 ∨ s.reg F.PWR_STATUS_LEAK = 1 then 0
  else if s.reg F.THM_STATUS_STAGES ≠ 0 then 6000 else s.od 0x2300 8

/-- The bytes of ASCII text. -/
def asciiBytes (t : String) : List Nat := t.toList.map (·.toNat)

/-- The record of a field's crevasse map: 16 bytes (R491). -/
def State.crevRecord (s : State) (f : Nat) : List Nat :=
  let c := s.crev f
  let four := fun (l : List Nat) => (l ++ [0xFF, 0xFF, 0xFF, 0xFF]).take 4
  four c.cols ++ four c.rows ++ [b2n (!c.pending.isEmpty) + 2 * b2n (s.inReplan f)] ++ List.replicate 7 0

/-- The summary of a tile, which the manual gives no layout: state in bits 1 and 0, failed units in 17 to 8, transients in 39 to
24, hours since the last event from 40 up (R488). -/
def State.tileSummary (s : State) (px py : Nat) : Nat :=
  let t := s.log.tiles.get TileSum.zero (physKey px py)
  let dead := s.isTile px py && (s.crev (placeOf px py).1).dead.contains (placeOf px py).2
  let age := if t = TileSum.zero then 0 else s.ref / hourRef - t.lastHour
  (if dead then 2 else t.state) + 2 ^ 8 * (t.failed % 1024) + 2 ^ 24 * min 65535 t.transients + 2 ^ 40 * min 16777215 age

/-- The value of an entry of fixed size that is not a command. -/
def State.odNumber (s : State) (ix sub : Nat) : Nat :=
  match ix, sub with
  | 0x1018, 3 => s.fuse.stepping
  | 0x1018, 4 => s.fuse.serial
  | 0x2000, 4 => if s.od 0x2000 4 = 0xFF then s.od 0x2000 1 else s.od 0x2000 4
  | 0x2300, 2 => s.flow
  | 0x2300, 8 => s.flowDemand
  | 0x2300, 9 => s.coolantStatus
  | 0x5010, 5 => s.tileSummary (bits (s.od 0x5010 4) 0 11) (bits (s.od 0x5010 4) 11 10)
  | 0x8000, 1 => s.fuse.devKey
  | 0x3010, k + 1 => s.fuse.ceilings.getD k 0
  | _, _ => s.od ix sub

/-- The bytes of an entry of varying size; none where it holds nothing. -/
def State.odBytes (s : State) (ix sub : Nat) : Option (List Nat) :=
  match ix, sub with
  | 0x1008, _ => some (asciiBytes "Syolatas 9W")
  | 0x100A, _ => some (asciiBytes "0x" ++ ((List.range 4).map (fun k =>
      let d := s.reg F.BC_ID_FWVER / 16 ^ (3 - k) % 16
      if d < 10 then 0x30 + d else 0x37 + d)))
  | 0x2600, 2 => some s.dict.params
  | 0x2600, 3 => some s.dict.results
  | 0x5010, 2 => (s.entrySeq (s.od 0x5010 1)).map LogEntry.bytes
  | 0x5010, 3 => (s.entrySeq (s.od 0x5010 1)).map LogEntry.cper
  | 0x5020, k + 1 => if k < s.nFields then some (s.crevRecord k) else some (List.replicate 8 0xFF ++ List.replicate 8 0)
  | _, _ => none

/-- The entry at an address, or the abort code that refuses the address (R409). -/
def odAt (ix sub : Nat) : Ent ⊕ Nat :=
  match odFind (odKey ix sub) with
  | some e => .inl e
  | none => .inr (if odTable.any (fun e => e.key / 256 = ix) then Abort.noSub else Abort.noIndex)

/-- The next existing entry after an address (R419). -/
def odNext (ix sub : Nat) : Option Ent := odTable.find? (fun e => decide (odKey ix sub < e.key))

/-- A dictionary read: the abort code and the value (R406, R409). -/
def State.odRead (s : State) (ix sub : Nat) : State × Nat × List Nat :=
  match odAt ix sub with
  | .inr a => (s, a, [])
  | .inl e =>
    if ix = 0x4020 ∧ sub = 3 then
      match s.surveyRead 2 (s.od 0x4020 2 % 2 ^ 18) 8 with
      | (s, some bs) => (s, 0, bs)
      | (s, none) => (s, Abort.state, [])
    else if e.acc = .cmd then
      let c := s.dict.cmdStatus.get 0 e.key
      (s, 0, bytesLe e.size (s.od ix sub) ++ bytesLe 4 (c % 2 ^ 32) ++ bytesLe 4 (c / 2 ^ 32))
    else if e.size = 0 then
      match s.odBytes ix sub with
      | some bs => (s, 0, bs)
      | none => (s, Abort.state, [])
    else (s, 0, bytesLe e.size (s.odNumber ix sub))

/-! ### Profiles (R423 to R426) -/

/-- "save" and "load" as the two commands' values. -/
def odSave : Nat := 0x65766173
def odLoad : Nat := 0x64616F6C

/-- The slot that a save goes to (R426). -/
def State.saveTarget (s : State) : Nat := s.odNumber 0x2000 4

/-- A save stores every working profile value in its slot; slot 0 is refused (R426). -/
def State.saveProfile (s : State) : State :=
  let s := s.setOd 0x1010 1 odSave
  let n := s.saveTarget
  if n = 0 then s.odCmd 0x1010 1 2 Abort.state
  else
    let sl := profileEnts.foldl (fun m e => SMap.set 0 m (n * 2 ^ 24 + e.key) (s.od (e.key / 256) (e.key % 256) + 1)) s.dict.slots
    (({ s with dict := { s.dict with slots := sl, badSlots := s.dict.badSlots.filter (fun k => k ≠ n) } }) : State).odCmd
      0x1010 1 0 0

/-- A load sets every working profile value to the factory value of the active slot, under R408 (R426). -/
def State.loadFactory (s : State) : State :=
  let s := s.setOd 0x1011 1 odLoad
  let a := s.od 0x2000 1
  let lv := fun (e : Ent) => if odKey 0x3000 1 ≤ e.key ∧ e.key ≤ odKey 0x3000 8 then
    s.fuse.levels.getD (e.key - odKey 0x3000 1) 0 else factory a e
  (profileEnts.foldl (fun s e => s.writeOd e (lv e)) s).odCmd 0x1011 1 0 0

/-- A pending profile switch (R425). -/
def State.switchPending (s : State) (n : Nat) : State := ((s.loadSlot n true).setOd 0x2000 5 n).odCmd 0x2000 2 0 0

/-- The state forbids an immediate switch (R425). -/
def State.switchBusy (s : State) : Bool := s.sessionsBusy || s.run.cur.isSome || !s.ropeIdle

/-- A profile switch as written to 0x2000:02 (R425). -/
def State.switchProfile (s : State) (n : Nat) (now : Bool) : State :=
  let s := s.setOd 0x2000 2 (n + 128 * b2n now)
  if !now then s.switchPending n
  else if s.switchBusy then s.odCmd 0x2000 2 2 Abort.state
  else (s.switchPending n).resetReq 4 3 2 true 0

/-- APPLY: HX_TOPO takes the topology entries, unless a rope is in the way (R269, R411). -/
def State.applyTopology (s : State) : State :=
  let s := s.setOd 0x6010 5 1
  let st := s.reg F.BC_ROPE_STATUS_STATE
  if st ≠ 0 ∧ st ≠ 7 then s.odCmd 0x6010 5 2 Abort.state
  else
    let s := (s.setReg F.HX_TOPO_COORD (s.od 0x6010 1)).setReg F.HX_TOPO_NXM1 (s.od 0x6010 2)
    let s := (s.setReg F.HX_TOPO_NYM1 (s.od 0x6010 3)).setReg F.HX_TOPO_NZM1 (s.od 0x6010 4)
    (s.setReg F.HX_TOPO_VALID 1).odCmd 0x6010 5 0 0

/-- SAVE (R426): 50 ms pass in which other accesses wait. -/
def execSave (s : State) : Res := .next s.saveProfile
/-- LOAD (R426). -/
def execLoad (s : State) : Res := .next s.loadFactory
/-- PROFILE_SWITCH_PENDING (R425). -/
def execProfileSwitchPending (n : Fin 4) (s : State) : Res := .next (s.switchProfile n.val false)
/-- PROFILE_SWITCH_IMMEDIATE (R425). -/
def execProfileSwitchImmediate (n : Fin 4) (s : State) : Res := .next (s.switchProfile n.val true)
/-- APPLY (R269, R411). -/
def execApply (s : State) : Res := .next s.applyTopology

/-! ### Writes (R408 to R410) -/

/-- A command entry is written: its abort code, 0 where it is accepted. A standalone test and a firmware update are accepted
here and made by their own commands. -/
def State.odCommand (s : State) (ix sub v : Nat) : State × Nat :=
  let refuse := fun (a : Nat) => ((s.setOd ix sub v).odCmd ix sub 2 a, a)
  let done := fun (s : State) => (s, s.dict.cmdStatus.get 0 (odKey ix sub) / 2 ^ 32)
  match ix with
  | 0x1010 => if v = odSave then done s.saveProfile else refuse Abort.range
  | 0x1011 => if v = odLoad then done s.loadFactory else refuse Abort.range
  | 0x2000 => if 3 < v % 128 then refuse Abort.range else done (s.switchProfile (v % 128) (decide (128 ≤ v)))
  | 0x3020 =>
    let op := bits v 0 4
    let level := bits v 4 4
    let all0 := bitOf v 9
    let fields := s.od 0x3020 2
    if s.swrRefused op level (bitOf v 8) all0 fields then refuse Abort.state
    else ((((s.setOd ix sub v).odCmd ix sub 0 0)).swrDo op level all0 fields, 0)
  | 0x6010 => if v = 1 then done s.applyTopology else refuse Abort.range
  | 0x2600 =>
    if 8 ≤ v then refuse Abort.range
    else if s.soloRefused then refuse Abort.state else ((s.setOd ix sub v).odCmd ix sub 1 0, 0)
  | _ => ((s.setOd ix sub v).odCmd ix sub 1 0, 0)

/-- The lowest reset level of each source (R429). -/
def lowestLevels : List Nat := [4, 4, 0, 1, 0, 0, 2, 1]

/-- The abort code of a value that the entry's own rule refuses, 0 where it is taken (R354, R411, R412, R429). -/
def State.odSpecial (s : State) (ix sub v : Nat) : Nat :=
  match ix with
  | 0x2020 => if sub = 1 ∧ v = s.od 0x2020 5 then Abort.range else 0
  | 0x2040 => if v % 64 = 0 then Abort.range else 0
  | 0x5100 => if sub = 1 ∧ v ≠ 0 ∧ (v < 256 ∨ 65536 < v) then Abort.range else 0
  | 0x3000 =>
    if v < lowestLevels.getD (sub - 1) 0 ∨ s.fuse.ceilings.getD (sub - 1) 0 < v then Abort.range else 0
  | 0x7000 => if sub = 3 ∧ s.ldg.sessions.any (fun e => e.2.state = 1 || e.2.state = 2) then Abort.state else 0
  | _ =>
    if (ix = 0x1600 ∨ ix = 0x1A00 ∨ ix = 0x1A01) ∧ s.dict.nmt ≠ .preOperational then Abort.state else 0

/-- The effect of an accepted value beside its entry. -/
def State.odEffectOf (s : State) (ix sub v : Nat) : State :=
  if ix = 0x4010 then
    let s : State := { s with pw := { s.pw with todNext := some v } }
    if s.reg F.TEL_TOD_ANCHOR = 1 ∨ s.reg F.TEL_PPS_REF ≠ 0 then s
    else
      let s : State := { s with pw := { s.pw with todAt := s.ref } }
      (s.setReg F.TEL_TOD_SEC v).setReg F.TEL_TOD_VALID 1
  else if ix = 0x2050 ∧ sub = 1 then
    { s with dict := { s.dict with sdo := s.dict.sdo.filter (fun x => x.source = 0) } }
  else if ix = 0x7000 ∧ sub = 3 then s.refreshLedger
  else s

/-- A dictionary write through a transport: the abort code (R409, R410). -/
def State.odWrite (s : State) (transport ix sub : Nat) (data : List Nat) : State × Nat :=
  match odAt ix sub with
  | .inr a => (s, a)
  | .inl e =>
    if e.acc = .const ∨ e.acc = .ro then (s, Abort.readOnly)
    else if !bitOf (s.od 0x2040 1) transport then (s, Abort.transport)
    else if (e.size ≠ 0 ∧ data.length ≠ e.size) ∨ data.isEmpty ∨ 1024 < data.length then (s, Abort.length)
    else if e.size = 0 then ({ s with dict := { s.dict with params := data } }, 0)
    else
      let v := leNat data
      if v < e.lo ∨ e.hi < v then (s, Abort.range)
      else if e.acc = .cmd then s.odCommand ix sub v
      else if ix = 0x4020 ∧ sub = 3 then
        let r := s.surveyWrite 2 (s.od 0x4020 2 % 2 ^ 18) data
        (r.1, if r.2 then 0 else Abort.state)
      else if s.odSpecial ix sub v ≠ 0 then (s, s.odSpecial ix sub v)
      else ((s.writeOd e v).odEffectOf ix sub v, 0)

/-! ### SDO (R412, R420) -/

/-- An SDO abort frame. -/
def sdoAbort (ix sub code : Nat) : List Nat := 0x80 :: bytesLe 2 ix ++ [sub] ++ bytesLe 4 code

/-- The transfer of a source, and the state without it. -/
def State.sdoOf (s : State) (src : Nat) : Option Sdo := s.dict.sdo.find? (fun x => x.source = src)
/-- The transfer of a source set, or ended. -/
def State.setSdo (s : State) (src : Nat) (x : Option Sdo) : State :=
  { s with dict := { s.dict with sdo := s.dict.sdo.filter (fun y => y.source ≠ src) ++ x.toList } }

/-- A download ends: the value is written. -/
def State.sdoStore (s : State) (src transport key : Nat) (data : List Nat) (ok : List Nat) : State × List Nat :=
  let r := (s.setSdo src none).odWrite transport (key / 256) (key % 256) data
  (r.1, if r.2 = 0 then ok else sdoAbort (key / 256) (key % 256) r.2)

/-- An initiate frame of a download: expedited, or segmented with or without its size. -/
def State.sdoDownload (s : State) (src transport : Nat) (fr : List Nat) : State × List Nat :=
  let c := fr.getD 0 0
  let ix := leAt fr 1 2
  let sub := fr.getD 3 0
  let ok := 0x60 :: bytesLe 2 ix ++ [sub, 0, 0, 0, 0]
  if bitOf c 1 then
    let n := if bitOf c 0 then 4 - bits c 2 2 else (match odFind (odKey ix sub) with
      | some e => if e.size = 0 then 4 else min 4 e.size
      | none => 4)
    s.sdoStore src transport (odKey ix sub) ((fr.drop 4).take n) ok
  else match odAt ix sub with
  | .inr a => (s.setSdo src none, sdoAbort ix sub a)
  | .inl _ => (s.setSdo src (some ⟨src, odKey ix sub, true, [], false, if bitOf c 0 then leAt fr 4 4 else 0⟩), ok)

/-- An initiate frame of an upload: expedited up to 4 bytes, segmented above. -/
def State.sdoUpload (s : State) (src : Nat) (fr : List Nat) : State × List Nat :=
  let ix := leAt fr 1 2
  let sub := fr.getD 3 0
  let r := (s.setSdo src none).odRead ix sub
  let bs := r.2.2
  if r.2.1 ≠ 0 then (r.1, sdoAbort ix sub r.2.1)
  else if bs.length ≤ 4 ∧ bs.length ≠ 0 then
    (r.1, (0x43 + 4 * (4 - bs.length)) :: bytesLe 2 ix ++ [sub] ++ padTo 4 bs)
  else
    (r.1.setSdo src (some ⟨src, odKey ix sub, false, bs, false, bs.length⟩),
      0x41 :: bytesLe 2 ix ++ [sub] ++ bytesLe 4 bs.length)

/-- A segment frame, up or down. -/
def State.sdoSegment (s : State) (src transport : Nat) (down : Bool) (fr : List Nat) : State × List Nat :=
  let c := fr.getD 0 0
  match s.sdoOf src with
  | none => (s, sdoAbort 0 0 Abort.specifier)
  | some x =>
    let t := bitOf c 4
    if x.download ≠ down ∨ t ≠ x.toggle then
      (s.setSdo src none, sdoAbort (x.key / 256) (x.key % 256) Abort.specifier)
    else if down then
      let data := x.data ++ (fr.drop 1).take (7 - bits c 1 3)
      let ok := (0x20 + 16 * b2n t) :: List.replicate 7 0
      if bitOf c 0 then
        if x.size ≠ 0 ∧ x.size ≠ data.length then
          (s.setSdo src none, sdoAbort (x.key / 256) (x.key % 256) Abort.length)
        else s.sdoStore src transport x.key data ok
      else (s.setSdo src (some { x with data := data, toggle := !t }), ok)
    else
      let n := min 7 x.data.length
      let last := x.data.length ≤ 7
      (s.setSdo src (if last then none else some { x with data := x.data.drop 7, toggle := !t }),
        (16 * b2n t + 2 * (7 - n) + b2n last) :: padTo 7 (x.data.take 7))

/-- The SDO server takes one 8-byte frame of a source; its answer is empty for an abort frame. -/
def State.sdoServe (s : State) (src transport : Nat) (fr : List Nat) : State × List Nat :=
  match fr.getD 0 0 / 32 with
  | 0 => s.sdoSegment src transport true fr
  | 1 => s.sdoDownload src transport fr
  | 2 => s.sdoUpload src fr
  | 3 => s.sdoSegment src transport false fr
  | 4 => (s.setSdo src none, [])
  | _ => (s.setSdo src none, sdoAbort (leAt fr 1 2) (fr.getD 3 0) Abort.specifier)

/-- The dictionary is served: the firmware runs. -/
def State.odServed (s : State) : Bool := decide (2 ≤ s.reg F.BC_BOOT_STAGE)

/-- SDO_REQUEST: a frame of 8 data bytes on COB-ID 0x600 plus the node ID (R412). A stopped node serves none. -/
def execSdoRequest (frame : List (BitVec 8)) (s : State) : Res :=
  if !s.odServed || s.dict.nmt = .off || s.dict.nmt = .stopped || frame.length ≠ 8 then .next s
  else
    let r := s.sdoServe 0 0 (frame.map (·.toNat))
    .next (if r.2.isEmpty then r.1 else r.1.emit .can 0 (0x580 + s.dict.node) r.2)

/-- The SDO source of a datagram: transfers are kept per source address, the upper 32 bits of source address and port (R420). -/
def udpSource (a : BitVec 48) : Nat := a.toNat / 65536 + 1

/-- SDO_TIMEOUT: 1 s has passed between the segments of a transfer, on CAN or of a UDP source (R412, R420). -/
def execSdoTimeout (udp : Option (BitVec 48)) (s : State) : Res :=
  let src := match udp with
    | some a => udpSource a
    | none => 0
  match s.sdoOf src with
  | none => .next s
  | some x =>
    let fr := sdoAbort (x.key / 256) (x.key % 256) Abort.timeout
    let s := s.setSdo src none
    .next (if src = 0 then s.emit .can 0 (0x580 + s.dict.node) fr else s)

/-- UDP_DATAGRAM: records of a source address and port, served in order and answered with one datagram (R420). -/
def execUdpDatagram (source : BitVec 48) (recs : List (BitVec 16 × List (BitVec 8))) (s : State) : Res :=
  if !s.odServed || recs.isEmpty || decide (16 < recs.length) then .next s
  else
    let r := recs.foldl (fun (r : State × List Nat) x =>
      if x.1.toNat ≠ 0x600 + s.dict.node ∨ x.2.length ≠ 8 then r
      else
        let q := r.1.sdoServe (udpSource source) 3 (x.2.map (·.toNat))
        (q.1, r.2 ++ q.2)) (s, [])
    .next (r.1.emit .udp 0 source.toNat (bytesLe 2 (0x580 + s.dict.node) ++ r.2))

/-! ### MCTP (R419) -/

/-- The transport of an MCTP message: 1 over PCI Express, 2 over I3C. -/
def mctpOf (i3c : Bool) : Nat := if i3c then 2 else 1

/-- A vendor-defined MCTP response. -/
def State.mctpAnswer (s : State) (i3c : Bool) (cmd : Nat) (body : List Nat) : State :=
  s.emit .mctp (mctpOf i3c) 0x7E ([0x1F, 0xE7, cmd] ++ body)

/-- DICT_READ (R419). -/
def execDictRead (i3c : Bool) (ix : BitVec 16) (sub : BitVec 8) (s : State) : Res :=
  if !s.odServed then .next s
  else
    let r := s.odRead ix.toNat sub.toNat
    .next (r.1.mctpAnswer i3c 0x10 (bytesLe 4 r.2.1 ++ r.2.2))
/-- DICT_WRITE (R409, R419). -/
def execDictWrite (i3c : Bool) (ix : BitVec 16) (sub : BitVec 8) (data : List (BitVec 8)) (s : State) : Res :=
  if !s.odServed then .next s
  else
    let r := s.odWrite (mctpOf i3c) ix.toNat sub.toNat (data.map (·.toNat))
    .next (r.1.mctpAnswer i3c 0x11 (bytesLe 4 r.2))
/-- DICT_NEXT (R419). -/
def execDictNext (i3c : Bool) (ix : BitVec 16) (sub : BitVec 8) (s : State) : Res :=
  if !s.odServed then .next s
  else
    .next (match odNext ix.toNat sub.toNat with
      | some e => s.mctpAnswer i3c 0x12 (bytesLe 4 0 ++ bytesLe 2 (e.key / 256) ++ [e.key % 256])
      | none => s.mctpAnswer i3c 0x12 (bytesLe 4 Abort.noIndex))

/-! ### The BAR0 window (R422) -/

/-- OD_CMD, OD_ABORT and OD_INFO of a port's set after a command: 0 done or 2 refused, and the entry accessed. -/
def State.odWindow (s : State) (p op ix sub len abort : Nat) (e : Option Ent) : State :=
  let s := (s.cmd F.OD_CMD_STATUS F.OD_CMD_OP (if abort = 0 then 0 else 2) op p).setReg F.OD_ABORT_CODE abort p
  let s := ((s.setReg F.OD_CMD_INDEX ix p).setReg F.OD_CMD_SUB sub p).setReg F.OD_CMD_LEN len p
  match e with
  | none => s
  | some e =>
    let a := match e.acc with
      | .const => 0
      | .ro => 1
      | .rw => 2
      | .cmd => 3
    let st := match e.store with
      | .volatile => 0
      | .module => 1
      | .profile => 2
    (((s.setReg F.OD_INFO_TYPE e.type p).setReg F.OD_INFO_ACCESS a p).setReg F.OD_INFO_STORE st p).setReg F.OD_INFO_LIVE
      (b2n e.live) p

/-- Bytes put into a port's OD_DATA from byte 0. -/
def State.putOdData (s : State) (p : Nat) (bs : List Nat) : State :=
  (List.range ((bs.length + 7) / 8)).foldl (fun s k => s.setReg F.OD_DATA_DATA (leAt bs (8 * k) 8) p k) s

/-- `n` bytes of a port's OD_DATA. -/
def State.odData (s : State) (p n : Nat) : List Nat :=
  ((List.range ((n + 7) / 8)).flatMap (fun k => bytesLe 8 (s.reg F.OD_DATA_DATA p k))).take n

/-- OD_READ (R422). -/
def execOdRead (port : Fin 2) (ix : BitVec 16) (sub : BitVec 8) (s : State) : Res :=
  if !s.odServed then .next s
  else
    let r := s.odRead ix.toNat sub.toNat
    .next ((r.1.putOdData port.val r.2.2).odWindow port.val 1 ix.toNat sub.toNat r.2.2.length r.2.1
      (odFind (odKey ix.toNat sub.toNat)))
/-- OD_WRITE of `len` bytes of OD_DATA (R422). -/
def execOdWrite (port : Fin 2) (ix : BitVec 16) (sub : BitVec 8) (len : BitVec 12) (s : State) : Res :=
  if !s.odServed then .next s
  else
    let r := s.odWrite 4 ix.toNat sub.toNat (s.odData port.val (min 1025 len.toNat))
    .next (r.1.odWindow port.val 2 ix.toNat sub.toNat len.toNat r.2 (odFind (odKey ix.toNat sub.toNat)))
/-- OD_NEXT (R422). -/
def execOdNext (port : Fin 2) (ix : BitVec 16) (sub : BitVec 8) (s : State) : Res :=
  if !s.odServed then .next s
  else
    .next (match odNext ix.toNat sub.toNat with
      | some e => (s.putOdData port.val (bytesLe 2 (e.key / 256) ++ [e.key % 256])).odWindow port.val 3 ix.toNat sub.toNat 3 0
          (some e)
      | none => s.odWindow port.val 3 ix.toNat sub.toNat 0 Abort.noIndex none)

/-! ### MGMT cells (R421) -/

/-- The body of a RESPONSE. -/
def mgmtBody (id ix sub abort : Nat) (bs : List Nat) : List Nat :=
  [3, 0] ++ bytesLe 2 id ++ bytesLe 2 ix ++ [sub, bs.length] ++ bytesLe 4 abort ++ padTo 32 bs ++ List.replicate 8 0

/-- MGMT: the oldest cell of type 0x06 delivered; a RESPONSE is kept for its requester. -/
def execMgmt (s : State) : Res :=
  match s.takeCell (fun c => c.type = 6) with
  | none => .next s
  | some ((_, c), s) =>
    let op := leAt c.body 0 1
    let id := leAt c.body 2 2
    let ix := leAt c.body 4 2
    let sub := leAt c.body 6 1
    let len := leAt c.body 7 1
    let val := (c.body.drop 12).take len
    if op = 3 then
      .next { s with bcl := { s.bcl with data := s.bcl.data ++ [(id, leAt c.body 8 4, val)] } }
    else if !s.inRope || !s.rdesc.inside c.src || !s.odServed then .next s
    else if op = 1 then
      let r := s.odRead ix sub
      .next (if 32 < r.2.2.length then r.1.sendCell c.src 6 (mgmtBody id ix sub Abort.length [])
        else r.1.sendCell c.src 6 (mgmtBody id ix sub r.2.1 r.2.2))
    else if op = 2 then
      let r := if 32 < len then (s, Abort.length) else s.odWrite 5 ix sub val
      .next (r.1.sendCell c.src 6 (mgmtBody id ix sub r.2 []))
    else .next s

/-! ### NMT and the coolant exchange (R412 to R417) -/

/-- The node enters an NMT state, once it has booted. -/
def State.setNmt (s : State) (n : Nmt) : State :=
  if s.dict.nmt = .off then s else { s with dict := { s.dict with nmt := n } }

/-- NMT_START (R413). -/
def execNmtStart (s : State) : Res := .next (s.setNmt .operational)
/-- NMT_STOP (R413). -/
def execNmtStop (s : State) : Res := .next (s.setNmt .stopped)
/-- ENTER_PRE_OPERATIONAL (R413). -/
def execEnterPreOperational (s : State) : Res := .next (s.setNmt .preOperational)
/-- RESET_NODE (R413). -/
def execResetNode (s : State) : Res := if s.dict.nmt = .off then .next s else .next s.nodeBoot
/-- RESET_COMMUNICATION (R411, R413). -/
def execResetCommunication (s : State) : Res := if s.dict.nmt = .off then .next s else .next s.nodeBoot
/-- NMT_AUTOSTART (R413): 100 ms after boot-up. -/
def execNmtAutostart (s : State) : Res :=
  .next (if s.dict.nmt = .preOperational && s.od 0x2020 6 = 1 then s.setNmt .operational else s)

/-- The mapping entries of a PDO in effect: index, subindex and bytes of each value, in order (R415, R417). -/
def State.pdoMap (s : State) (ix n : Nat) : List (Nat × Nat × Nat) :=
  (List.range n).map (fun k =>
    let m := s.odEff ix (k + 1)
    (m / 65536, m / 256 % 256, m % 256 / 8))

/-- The data of a TPDO: the low bytes of each mapped value (R417). -/
def State.tpdo (s : State) (ix n : Nat) : List Nat :=
  (s.pdoMap ix n).flatMap (fun e => bytesLe e.2.2 (s.odNumber e.1 e.2.1))

/-- The data of an RPDO taken into the mapped entries that exist (R415). -/
def State.rpdo (s : State) : List (Nat × Nat × Nat) → List Nat → State
  | [], _ => s
  | (ix, sub, n) :: rest, b =>
    let s := if (odFind (odKey ix sub)).isSome then s.setOd ix sub (leAt b 0 n) else s
    s.rpdo rest (b.drop n)

/-- RPDO1 (R415): the data bytes of a CDU frame. -/
def execRpdo1 (data : List (BitVec 8)) (s : State) : Res :=
  if s.dict.nmt ≠ .operational || decide (data.length < 5) then .next s
  else
    let b := data.map (·.toNat)
    let s := s.rpdo (s.pdoMap 0x1600 3) b
    let s := s.warn 1 false
    .next (if 4000 ≤ s.flow then
      { s.warn 0 false with pw := { (s.warn 0 false).pw with flowWarned := false } } else s)

/-- TPDO1 (R417): its event timer has expired, or the status byte changes; `outlet` is the carrier sensor's reading. Nothing is
sent within the inhibit time, nor before the event timer expires while the status byte is the same. -/
def execTpdo1 (outlet : BitVec 16) (s : State) : Res :=
  let s := s.setOd 0x2300 3 outlet.toNat
  let wait := if s.coolantStatus = s.dict.sentStatus then max (10000 * s.odEff 0x1800 3) (100000 * s.odEff 0x1800 5)
    else 10000 * s.odEff 0x1800 3
  if s.dict.nmt ≠ .operational || (s.dict.lastTpdo1 ≠ 0 && decide (s.ref + 1 < s.dict.lastTpdo1 + wait)) then .next s
  else
    let st := s.coolantStatus
    let s : State := { s with dict := { s.dict with lastTpdo1 := s.ref + 1, sentStatus := st } }
    .next (s.emit .can 0 (s.odEff 0x1800 1) (s.tpdo 0x1A00 4))

/-- TPDO2 (R417): `volts` and `amps` are the input's 1 s averages, in 0.01 V and 0.1 A. -/
def execTpdo2 (volts amps : BitVec 16) (s : State) : Res :=
  let s := (s.setOd 0x4000 2 volts.toNat).setOd 0x4000 3 amps.toNat
  let s := (s.setReg F.PWR_STATUS_VIN volts.toNat).setReg F.PWR_STATUS_IIN amps.toNat
  if s.dict.nmt ≠ .operational then .next s
  else .next (s.emit .can 0 (s.odEff 0x1801 1) (s.tpdo 0x1A01 3))

/-- PRODUCER_HEARTBEAT (R412). -/
def execProducerHeartbeat (s : State) : Res :=
  let code := match s.dict.nmt with
    | .preOperational => 127
    | .operational => 5
    | _ => 4
  .next (if s.dict.nmt = .off || s.od 0x1017 0 = 0 then s else s.emit .can 0 (0x700 + s.dict.node) [code])

/-- FLOW_DEMAND (R416): `watts` is the average input power of the last second. -/
def execFlowDemand (watts : BitVec 32) (s : State) : Res :=
  let s := s.setOd 0x4000 1 watts.toNat
  let d := s.od 0x2300 7 * s.od 0x2300 6
  let q := if d = 0 then 6000 else (2 * 58800 * watts.toNat + d) / (2 * d)
  .next (s.setOd 0x2300 8 (min 6000 (max 4000 q)))

end Sys2Proof.Machine
end

