-- ==== Sys2Proof/Machine/Ledger.lean ====
section
/-!
DEFINITION. Sys2Proof/Machine/Ledger.lean: the host ports, intake, feeds and drains, completion rings and leases (spec 10_host).
-/

namespace Sys2Proof.Machine

/-! ### The host links (R325 to R328) -/

/-- PERST_N of a port changes: low is a fundamental reset (R328). -/
def execPerstN (port : Fin 2) (low : Bool) (s : State) : Res :=
  let s := { s with ldg := if port.val = 0 then { s.ldg with perstA := low } else { s.ldg with perstB := low } }
  .next (if low then s.hostDown port.val else s)

/-- HOT_RESET (R328). -/
def execHotReset (port : Fin 2) (s : State) : Res := .next (s.hostDown port.val)

/-- FLR (R328). -/
def execFlr (port : Fin 2) (s : State) : Res := .next (s.hostDown port.val)

/-- PERST_N of a port is low. -/
def State.perst (s : State) (port : Nat) : Bool := if port = 0 then s.ldg.perstA else s.ldg.perstB

/-- PCIE_LINK_UP: rate 1 to 6 is `rate` + 1, the width 2 ^ `width` lanes; Flit Mode goes with 64.0 GT/s (R325, R327). -/
def execPcieLinkUp (port : Fin 2) (rate : Fin 6) (width : Fin 4) (s : State) : Res :=
  let p := port.val
  if s.perst p then .next s
  else
    let s := ((s.setReg F.HP_LINK_UP 1 p).setReg F.HP_LINK_RATE (rate.val + 1) p).setReg F.HP_LINK_WIDTH (2 ^ width.val) p
    let s := s.setReg F.HP_LINK_FLIT (b2n (rate.val = 5)) p
    .next (if rate.val = 5 ∧ width.val = 3 then s
      else (s.moduleFault 4 Code.hpLinkDegraded 0 p false).hpEvent p F.HP_EVENT_DEGRADED)

/-- HP_LINK_DOWN: the link is lost; its writes in flight are discarded (R325). -/
def execHpLinkDown (port : Fin 2) (s : State) : Res :=
  let p := port.val
  if s.reg F.HP_LINK_UP p = 0 then .next s
  else
    let s := s.dropFlying p
    let s := ((s.setReg F.HP_LINK_UP 0 p).setReg F.HP_LINK_RATE 0 p).setReg F.HP_LINK_WIDTH 0 p
    .next ((s.setReg F.HP_LINK_FLIT 0 p).moduleFault 4 Code.hpLinkDown 0 p false)

/-- A TLP of a port fails its IDE check: dropped, and recorded (R327). -/
def State.ideFails (s : State) (port : Nat) (bad : Bool) : Bool := bad && s.reg F.HP_LINK_IDE port = 1
def State.ideDrop (s : State) (port : Nat) : State := s.moduleFault 4 Code.hpIdeFail 0 port false

/-! ### Completion rings as the host writes them (R346, R347) -/

/-- Offset of a ring's descriptor. -/
def ringAt (port k : Nat) : Nat := 0x6000 + 0x800 * port + 32 * k

/-- The host has consumed a record: DLV and, at its END, DONESEQ advance; the ACCEPT record of a payload that is not PROMPT is
freed (R340, R347). -/
def Ledger.consumed (l : Ledger) (port k : Nat) (c : Nat × Nat × Nat × Bool) : Ledger :=
  let hit := fun (r : Rec) =>
    r.port = port && r.ring = k && r.place = 2 && r.seqNo = c.2.1 && r.index = c.2.2.1 && r.noToken = c.2.2.2
  match (l.sess c.1).recs.find? hit with
  | none => l
  | some r =>
    let l := if r.isEnd then l.keepJ (fun j => !(j.type = 1 && j.session = c.1 && j.key = r.seqNo && !j.prompt)) else l
    l.upd c.1 (fun x => { x with
      recs := x.recs.filter (fun y => !hit y)
      dlv := max x.dlv (if r.noToken then r.index else r.index + 1)
      doneSeq := if r.isEnd then max x.doneSeq r.seqNo else x.doneSeq
      active := if r.isEnd then x.active.filter (fun q => q.seqNo ≠ r.seqNo) else x.active })

/-- CONS of an enabled ring, as the host has written it, frees the slots that it passes. -/
def Ledger.takeCons (l : Ledger) (port k : Nat) : Ledger :=
  let r := l.ring port k
  let c := l.u (ringAt port k + 0x10) 4
  let n := min ((c + 2 ^ 32 - r.cons) % 2 ^ 32) (r.slots.length - r.flying)
  let gone := r.slots.take n
  let l := l.updRing port k (fun r => { r with slots := r.slots.drop n, cons := c })
  gone.foldl (fun l c => l.consumed port k c) l

/-- A ring's descriptor has been written: a change of EN from 0 to 1 reads its other fields. -/
def Ledger.ringWritten (l : Ledger) (port k : Nat) : Ledger :=
  let d := ringAt port k
  let en := decide (l.u (d + 0x0D) 1 = 1)
  let was := (l.ring port k).en
  let l := l.updRing port k (fun r =>
    if en && !was then
      { r with en := true, base := l.u d 8, entries := l.u (d + 8) 4, vector := l.u (d + 0x0C) 1 % 64, coalesce := l.u (d + 0x0E) 2 }
    else { r with en := en })
  if en then l.takeCons port k else l

/-! ### Writes to BAR2 (R331 to R333) -/

/-- Whether a port may write a byte of BAR2 (R332). -/
def Ledger.writable (l : Ledger) (port off : Nat) : Bool :=
  if off < 0x1000 then false
  else if off < 0x5000 then true
  else if off < 0x5400 then decide ((off - 0x5000) / 0x200 = port)
  else if off < 0x6000 then false
  else if off < 0x7000 then decide ((off - 0x6000) / 0x800 = port)
  else if off < 0x7080 then decide ((off - 0x7000) / 0x40 = port)
  else if off < 0x1000000 ∨ 0x5000000 ≤ off then false
  else
    let x := l.sess ((off - 0x1000000) / 0x4000)
    x.state = 0 || x.owner = port + 1

/-- One byte written to a part that accepts it; a posting map only sets bits (R333). -/
def Ledger.writeByte (l : Ledger) (off b : Nat) : Ledger :=
  if 0x5000 ≤ off ∧ off < 0x5200 then { l with mapA := l.mapA ||| (b * 2 ^ (8 * (off - 0x5000))) }
  else if 0x5200 ≤ off ∧ off < 0x5400 then { l with mapB := l.mapB ||| (b * 2 ^ (8 * (off - 0x5200))) }
  else { l with mem := l.mem.set 0 off (BitVec.ofNat 8 b) }

/-- A write to BAR2 through a port: stored byte by byte where the part accepts it (R332). -/
def Ledger.write (l : Ledger) (port : Nat) : Nat → List Nat → Ledger
  | _, [] => l
  | off, b :: r => (if l.writable port off then l.writeByte off b else l).write port (off + 1) r

/-- The rings of a port whose descriptor a write touches at EN or at CONS. -/
def ringsTouched (port off n : Nat) : List Nat :=
  (List.range 64).filter (fun k =>
    let d := ringAt port k
    decide (off < d + 0x14 ∧ d + 0x0D < off + n ∧ ¬ (d + 0x0D < off ∧ off + n ≤ d + 0x10)))

/-- A BAR2 write of a port: what no part takes is discarded and counted once (R332). -/
def State.bar2Write (s : State) (port off : Nat) (data : List Nat) : State :=
  let bad := (List.range data.length).any (fun k => !s.ldg.writable port (off + k))
  let l := s.ldg.write port off data
  let l := (ringsTouched port off data.length).foldl (fun l k => l.ringWritten port k) l
  let s := { s with ldg := l }
  if bad then s.satReg F.LDG_STAT_IGNORED else s

/-- A BAR2 write while the host ports are in reset is discarded (R331, R445). -/
def State.hostBar2 (s : State) (port off : Nat) (data : List Nat) : State :=
  if s.linkReset then s.satReg F.RST_ISO_HOST else s.bar2Write port off data

/-- POSTING_MAP_WRITE: bytes of a port's own posting map (R333). -/
def execPostingMapWrite (port : Fin 2) (off : Fin 512) (data : List (BitVec 8)) (s : State) : Res :=
  .next (s.hostBar2 port.val (0x5000 + 0x200 * port.val + off.val) ((data.take (512 - off.val)).map (·.toNat)))

/-- BAR2_WRITE (R327, R332). -/
def execBar2Write (port : Fin 2) (off : BitVec 28) (data : List (BitVec 8)) (ideBad : Bool) (s : State) : Res :=
  if s.ideFails port.val ideBad then .next (s.ideDrop port.val)
  else .next (s.hostBar2 port.val off.toNat (data.map (·.toNat)))

/-- RING_ENABLE: the host writes EN of a ring as 1 (R346). -/
def execRingEnable (port : Fin 2) (k : Fin 64) (s : State) : Res :=
  .next (s.hostBar2 port.val (ringAt port.val k.val + 0x0D) [1])

/-- CONS_WRITE: the host writes CONS of a ring (R347). -/
def execConsWrite (port : Fin 2) (k : Fin 64) (v : BitVec 32) (s : State) : Res :=
  .next (s.hostBar2 port.val (ringAt port.val k.val + 0x10) (bytesLe 4 v.toNat))

/-! ### Leases (R349, R350) -/

/-- A port's lease has expired, and nothing has been done about it. -/
def State.leaseDue (s : State) (port : Nat) : Bool :=
  let e := s.ldg.lease.get 0 port
  e ≠ 0 && decide (e ≤ s.ref + 1) && !s.ldg.expired.contains port

/-- The four steps of R349. -/
def State.leaseExpires (s : State) (port : Nat) : State :=
  let l := s.ldg.sessions.foldl (fun (l : Ledger) e =>
    if e.2.state = 1 && e.2.owner = port + 1 then l.upd e.1 (fun x => { x with state := 2 }) else l) s.ldg
  let s : State := { s with ldg := { l with expired := port :: l.expired } }
  ((s.warn 4 true).moduleFault 4 Code.ldgLeaseExpired 0 port false).hpEvent (1 - port) F.HP_EVENT_ORPHANS

/-- LEASE_EXPIRY (R349). -/
def execLeaseExpiry (port : Fin 2) (s : State) : Res :=
  .next (if s.trust.halted || !s.leaseDue port.val then s else s.leaseExpires port.val)

/-- RENEW (R349, R350). -/
def execRenew (port : Fin 2) (s : State) : Res :=
  let p := port.val
  let l := if s.ldg.expired.contains p then
      s.ldg.sessions.foldl (fun (l : Ledger) e =>
        if e.2.state = 2 && e.2.owner = p + 1 then l.upd e.1 (fun x => { x with state := 1 }) else l) s.ldg
    else s.ldg
  let l := { l with
    lease := l.lease.set 0 p (s.ref + 100000 * s.od 0x7000 2 + 1)
    expired := l.expired.filter (fun k => k ≠ p) }
  let s := { s with ldg := l }.cmd F.HP_LEASE_OP_STATUS F.HP_LEASE_OP_OP 0 1 p
  .next (if l.expired.isEmpty then s.warn 4 false else s)

/-- A session taken by a port: its records go to the ring named, and those released before are marked REDELIVERED (R350,
R351). -/
def Session.claim (x : Session) (port ring : Nat) : Session :=
  { x with
    state := 1
    owner := port + 1
    recs := x.recs.map (fun r => { r with
      port := port
      ring := ring
      place := min r.place 1
      redelivered := r.redelivered || decide (1 ≤ r.place) })
    active := x.active.map (fun q => { q with port := port, ring := ring }) }

/-- Every orphaned session of a list goes to a port. -/
def State.claimAll (s : State) (port : Nat) (is : List Nat) : State :=
  { s with ldg := is.foldl (fun l i =>
    if (l.sess i).state = 2 then l.upd i (fun x => x.claim port (s.reg F.HP_LEASE_RINGIX port)) else l) s.ldg }

/-- CLAIM (R350). -/
def execClaim (port : Fin 2) (s : State) : Res :=
  let p := port.val
  .next ((s.claimAll p [s.reg F.HP_LEASE_SESSION p]).cmd F.HP_LEASE_OP_STATUS F.HP_LEASE_OP_OP 0 2 p)

/-- CLAIM_ALL (R350). -/
def execClaimAll (port : Fin 2) (s : State) : Res :=
  let p := port.val
  .next ((s.claimAll p (s.ldg.sessions.map (·.1))).cmd F.HP_LEASE_OP_STATUS F.HP_LEASE_OP_OP 0 3 p)

/-! ### Intake (R336 to R341, R378, R380) -/

/-- Offset in BAR2 of the slot of a sequence number (R335). -/
def slotAt (i seq : Nat) : Nat := 0x1000000 + 0x4000 * i + 256 * (seq % 64)

/-- The 256 bytes of a slot. -/
def Ledger.slot (l : Ledger) (i seq : Nat) : List Nat := (SMap.getList 0 l.mem (slotAt i seq) 256).map (·.toNat)

/-- DSTAMP written in a slot. -/
def Ledger.stamp (l : Ledger) (i seq : Nat) : Ledger :=
  { l with mem := SMap.setList 0 l.mem (slotAt i seq + 0xF8) ((bytesLe 4 0x50434341).map (BitVec.ofNat 8)) }

/-- A duplicate counted, and stamped in the slot of `seq`, where it stands. -/
def Ledger.dup (l : Ledger) (i seq : Nat) : Ledger := (l.stamp i seq).upd i (fun x => { x with dups := satAdd 32 x.dups 1 })

/-- The request that a descriptor spells (R335). -/
def reqOf (d : List Nat) (port : Nat) (payload : List Nat) (rejected : Option Nat) : Req :=
  { seqNo := leAt d 0 8, kind := leAt d 8 1, entry := leAt d 9 1, flags := leAt d 10 1, port := port, ring := leAt d 11 1
    maxtok := leAt d 12 4, params := (List.range 6).map (fun k => leAt d (16 + 4 * k) 4), seed := leAt d 0x28 8
    rentry := leAt d 0x34 1, tag := leAt d 0x40 8, desc := d, payload := payload, rejected := rejected, fed := 0, made := 0
    order := 0 }

/-- The limits of R337; `free` says that the session is FREE. -/
def State.badRequest (s : State) (port : Nat) (free : Bool) (d : List Nat) : Bool :=
  let kind := leAt d 8 1
  let plen := leAt d 0x30 4
  let stage := leAt d 0x38 8
  let noEntry := match s.image with
    | some m => decide (m.entries ≤ leAt d 9 1)
    | none => true
  (kind = 0 || decide (4 < kind)) ||
  (kind = 1 && (s.ldg.batch (leAt d 9 1) = 0 || noEntry)) ||
  (if bitOf (leAt d 10 1) 2 then decide (262144 < plen ∨ s.stagingSize < stage + plen ∨ stage % 64 ≠ 0) else decide (168 < plen)) ||
  (decide (64 ≤ leAt d 11 1) || !(s.ldg.ring port (leAt d 11 1)).en) ||
  (free && kind = 2)

/-- Whether a request breaks the rules of sealing: a sealed session's without SEALED or with a failing tag, or SEALED in an
unsealed session (R378). -/
def sealBroken (x : Session) (d payload : List Nat) : Bool :=
  if x.key = [] then bitOf (leAt d 10 1) 1 else !bitOf (leAt d 10 1) 1 || !(unsealPayload x.key d payload).2

/-- The payload that a descriptor names: of the staging area, or INLINE. -/
def State.payloadOf (s : State) (d : List Nat) : List Nat :=
  let plen := leAt d 0x30 4
  if bitOf (leAt d 10 1) 2 then (SMap.getList 0 s.staging (leAt d 0x38 8) (min plen 262144)).map (·.toNat)
  else (d.drop 0x50).take (min plen 168)

/-- STATUS of a rejected request, and none for one to be accepted (R337, R354, R378 to R380). -/
def State.verdict (s : State) (i port : Nat) (free : Bool) (d : List Nat) : Option Nat :=
  let x := s.ldg.sess i
  if x.wasSealed && bitOf (leAt d 10 1) 1 && leAt d 8 1 ≠ 4 then some 4
  else if s.badRequest port free d || sealBroken x d (s.payloadOf d) then some 2
  else if x.key ≠ [] && decide (2 ^ 32 ≤ x.sealedRecs) then some 4
  else none

/-- The journal is full: a record does not fit (R340). -/
def State.journalFull (s : State) : State :=
  if s.ldg.state = 3 then s
  else (({ s with ldg := { s.ldg with fullAt := s.ldg.units } } : State).setLedger 3).moduleFault 4 Code.ldgJournalFull 0 0 false

/-- Units of an ACCEPT record. -/
def Req.units (r : Req) : Nat := 1 + (256 + r.payload.length + 63) / 64
/-- Units of the ACCEPT records under way. -/
def Ledger.underway (l : Ledger) : Nat := (l.accepting.map (fun a => a.req.units)).foldl (· + ·) 0

/-- The bytes of an ACCEPT record: its header and its body. -/
def acceptBytes (i jseq : Nat) (r : Req) : List Nat :=
  let body := padTo (64 * (r.units - 1)) (r.desc ++ r.payload)
  let h := bytesLe 4 0x4C4E524A ++ [1, 0] ++ bytesLe 2 i ++ bytesLe 4 r.units ++ bytesLe 4 0 ++ bytesLe 8 jseq ++
    bytesLe 8 r.seqNo ++ List.replicate 28 0
  h ++ bytesLe 4 (crc32c (h ++ bytesLe 4 0 ++ body)) ++ body

/-- The mirror copies of an ACCEPT record leave, in the unit of each mirror ring that comes next (R354). -/
def State.mirrorWrite (s : State) (i : Nat) (r : Req) : State :=
  let bytes := acceptBytes i (s.ldg.jseq + s.ldg.accepting.length) r
  s.mirrorPorts.foldl (fun s p =>
    let d := 0x7000 + 64 * p
    let n := max 1 (s.ldg.u (d + 8) 4)
    let prod := (s.ldg.ring 2 p).prod
    let s := (List.range r.units).foldl (fun s k =>
      s.emit .hostWrite p (s.ldg.u d 8 + 64 * ((prod + k) % n)) ((bytes.drop (64 * k)).take 64)) s
    { s with ldg := s.ldg.updRing 2 p (fun g => { g with prod := (prod + r.units) % 2 ^ 32 }) }) s

/-- One request of a session is taken at step 5 of R336: its acceptance begins, or the journal is full. -/
def State.takeRequestOf (s : State) (i port : Nat) (free : Bool) (d : List Nat) : State × Bool :=
  let x := s.ldg.sess i
  let broken := sealBroken x d (s.payloadOf d)
  let v := s.verdict i port free d
  let payload := if bitOf (leAt d 10 1) 2 && v.isSome then [] else s.payloadOf d
  let r := reqOf d port payload v
  if !s.ldg.fits s.ldg.underway r.units then (s.journalFull, false)
  else
    let s := if !broken then s
      else
        let s := { s with ldg := s.ldg.upd i (fun x => { x with
          lastErr := Code.trustSealAuth
          wasSealed := x.wasSealed || (x.key = [] && leAt d 8 1 = 4) }) }
        (s.setReg F.BC_TRUST_STATUS_FAIL Code.trustSealAuth).moduleFault 6 Code.trustSealAuth 0 i false
    let s := if v.isSome then s.satReg F.LDG_STAT_REJECTED else s
    let mir := s.od 0x7000 3 = 1
    let s := if mir then s.mirrorWrite i r else s
    ({ s with ldg := { s.ldg with accepting := s.ldg.accepting ++ [⟨i, port, r, mir⟩] } }, true)

/-- Steps 1 to 5 of R336 from sequence number `seq` on, at most `n` requests. The second result says that the journal was
full. -/
def State.serveSlots (s : State) (i port : Nat) : Nat → Nat → Bool → State × Bool
  | 0, _, _ => (s, false)
  | n + 1, seq, free =>
    let d := s.ldg.slot i seq
    let got := leAt d 0 8
    let upd := fun (g : Session → Session) => ({ s with ldg := s.ldg.upd i g } : State)
    if crc32c (d.take 0xF8) ≠ leAt d 0xFC 4 then (upd (fun x => { x with badCrc := satAdd 32 x.badCrc 1 }), false)
    else if seq < got then (upd (fun x => { x with gaps := satAdd 32 x.gaps 1 }), false)
    else if got < seq then
      (if leAt d 0xF8 4 = 0 then { s with ldg := s.ldg.dup i seq } else s, false)
    else
      let r := s.takeRequestOf i port free d
      if !r.2 then (r.1, true)
      else
        let opens := match r.1.ldg.accepting.getLast? with
          | some a => a.req.rejected.isNone
          | none => false
        r.1.serveSlots i port n (seq + 1) (free && !opens)

/-- A posted session is served through a port (R336). -/
def State.serveSession (s : State) (i port : Nat) : State × Bool :=
  let x := s.ldg.sess i
  let d := s.ldg.slot i (x.nextSeq - 1)
  let s := if 1 < x.nextSeq ∧ leAt d 0 8 = x.nextSeq - 1 ∧ leAt d 0xF8 4 = 0 then
    { s with ldg := s.ldg.dup i (x.nextSeq - 1) } else s
  s.serveSlots i port 64 x.nextSeq (x.state = 0)

/-- One posted session of the maps taken: a posting of a port that does not own it is counted; a FREE session posted through
both ports is served as posted through port A. Once the journal is full the bits go back. -/
def State.servePosted (a b : Nat) (w : State × Bool) (i : Nat) : State × Bool :=
  let s := w.1
  let pa := bitOf a i
  let pb := bitOf b i
  let back := fun (s : State) => ({ s with ldg := { s.ldg with
    mapA := if pa then s.ldg.mapA ||| 2 ^ i else s.ldg.mapA
    mapB := if pb then s.ldg.mapB ||| 2 ^ i else s.ldg.mapB } } : State)
  if !pa && !pb then w
  else if w.2 then (back s, true)
  else
    let x := s.ldg.sess i
    if x.state = 0 then
      let r := s.serveSession i (if pa then 0 else 1)
      if r.2 then (back r.1, true) else r
    else
      let own := if x.owner = 1 then pa else pb
      let other := if x.owner = 1 then pb else pa
      let s := if other then s.satReg F.LDG_STAT_FOREIGN else s
      if !own then (s, false)
      else
        let r := s.serveSession i (x.owner - 1)
        if r.2 then (back r.1, true) else r

/-- The summary of one group of 64 entries that a member sends to the anchor: for each entry with active requests its index,
their number and their largest parameters (R341). -/
def Ledger.summary (l : Ledger) (g : Nat) : List Nat :=
  let es := (List.range 64).map (· + 64 * g)
  let es := es.filter (fun e => !(l.wanting e).isEmpty)
  [g, es.length, 0, 0] ++ es.flatMap (fun e =>
    [e, 0, 0, 0] ++ bytesLe 4 (l.wanting e).length ++ (List.range 6).flatMap (fun k => bytesLe 4 (l.largest e k)))

/-- The MAILs to mailbox 2 of the anchor for what has changed (R341). -/
def State.tellAnchor (s : State) : State :=
  if !s.inRope || s.isAnchor || s.ldg.sessions.isEmpty && s.ldg.told.isEmpty then s
  else
    (List.range 4).foldl (fun s g =>
      let b := s.ldg.summary g
      if b = s.ldg.told.get [g, 0, 0, 0] g then s
      else ({ s with ldg := { s.ldg with told := s.ldg.told.set [g, 0, 0, 0] g b } } : State).request s.acoord 1 2 b) s

/-- Space has been freed since the journal became full (R340). -/
def State.journalRoom (s : State) : State :=
  if s.ldg.state = 3 && decide (s.ldg.units < s.ldg.fullAt) then s.setLedger 1 else s

/-- INTAKE_TICK (R336, R339 to R341, R349). While acceptances are under way, the maps are left for the next tick. -/
def execIntakeTick (ups : List (Addr × Upset)) (s : State) : Res :=
  if s.ldg.state = 0 || s.trust.halted then .next s
  else
    let s := [0, 1].foldl (fun (s : State) p => if s.leaseDue p then s.leaseExpires p else s) (s.upsets ups)
    let s := s.journalRoom.refreshLedger
    let s :=
      if s.ldg.state ≠ 1 || s.stackReset || !s.ldg.accepting.isEmpty then s
      else
        let a := s.ldg.mapA
        let b := s.ldg.mapB
        let s := { s with ldg := { s.ldg with mapA := 0, mapB := 0 } }
        if a = 0 ∧ b = 0 then s
        else ((List.range 4096).foldl (fun w i =>
          State.servePosted a b w i) (s, false)).1
    .next s.tellAnchor

/-- RESTORE: NEXTSEQ is the number that P0 and P1 carry, DLV the number of tokens in its payload, which become the token log;
the session is re-prefilled (R354, assumption 21). -/
def Ledger.restoreReq (l : Ledger) (i : Nat) (r : Req) : Ledger :=
  let n := r.payload.length / 4
  let toks := (List.range n).map (fun k => leAt r.payload (4 * k) 4 + 1)
  let l := l.upd i (fun x => { x with
    nextSeq := r.params.getD 0 0 + 2 ^ 32 * r.params.getD 1 0
    rel := n
    dlv := n
    tokens := SMap.setList 0 x.tokens 0 toks })
  if r.rentry = 0xFF then l else l.rebuild i

/-- Steps 4 to 6 of R338, and what becomes of the request then. -/
def State.acceptNow (s : State) (a : Accepting) : State :=
  let i := a.session
  let x := s.ldg.sess i
  let r : Req := { a.req with order := s.ldg.jseq }
  let ok : Bool := r.rejected.isNone
  let opens := ok && x.state = 0
  let prompt := bitOf r.flags 0 && ok
  let l := s.ldg.append 1 i r.seqNo prompt (r.desc ++ r.payload)
  let l := if r.kind = 2 && ok then l.append 5 i r.seqNo false [] else l
  let l := l.stamp i r.seqNo
  let l := l.upd i (fun x => { x with
    state := if opens then 1 else x.state
    owner := if opens then a.port + 1 else x.owner
    rentry := if opens then r.rentry else x.rentry
    tenant := if opens then s.tenant else x.tenant
    nextSeq := r.seqNo + 1
    active := x.active ++ [r] })
  let l : Ledger := if ok then { l with accepted := l.accepted + 1 } else l
  let l := if ok && r.kind = 4 && x.state = 0 then l.restoreReq i r else l
  { s with ldg := l.settle i }

/-- The field whose stack controller the next journal record goes to: that of the Journal area's next unit (R197; assumption 31). -/
def State.journalField (s : State) : Nat :=
  let gib := if s.fuse.variant = 1 then 192 else if s.fuse.variant = 2 then 112 else 224
  s.reserveField (gib * 2 ^ 30 + 64 * s.ldg.units)

/-- ACCEPTANCE: the ACCEPT record of the oldest request is complete, and its mirror copies have been read back (R338). The record's
beats wait for admission as Base Camp's (R75, R185, R339). -/
def execAcceptance (s : State) : Res :=
  match s.ldg.accepting with
  | [] => .next s
  | a :: rest =>
    if a.mirror || s.stackReset || !s.admits s.journalField 1 then .next s
    else .next ((({ s with ldg := { s.ldg with accepting := rest } } : State).acceptNow a).served s.journalField a.req.units)

/-- MIRROR_READBACK: the readback of every copy returns, or a mirror write fails and the request is not accepted, nor any
request of its session behind it (R354). -/
def execMirrorReadback (ok : Bool) (s : State) : Res :=
  match s.ldg.accepting.find? (fun a => a.mirror) with
  | none => .next s
  | some a =>
    let hit : Accepting → Bool := fun b => b.session = a.session && b.req.seqNo = a.req.seqNo
    let behind : Accepting → Bool := fun b => b.session = a.session && decide (a.req.seqNo ≤ b.req.seqNo)
    let read := s.ldg.accepting.map (fun b => if hit b then { b with mirror := false } else b)
    let left := s.ldg.accepting.filter (fun b => !behind b)
    if ok = true then .next { s with ldg := { s.ldg with accepting := read } }
    else .next (({ s with ldg := { s.ldg with accepting := left } } : State).moduleFault 4 Code.ldgMirrorFail 0 a.session false)

/-! ### Feeds (R342 to R344) -/

/-- TOP, from which the feed and drain ranges are counted (R342). -/
def State.ldgTop (s : State) : Nat := s.segBytes

/-- The invocations issued and not ended. -/
def State.issued (s : State) : List Invocation :=
  s.run.cur.toList ++ (s.run.nxt.map (·.1)).toList ++ s.invq

/-- A half is written: tile (x, 0) takes bytes 2,048 x on. -/
def State.putHalf (s : State) (base : Nat) (tag : Nat) (b : List Nat) : State :=
  (List.range ((b.length + 2047) / 2048)).foldl (fun s x =>
    match s.locate (x % 128) with
    | some (f, key) =>
      let ws := (b.drop (2048 * x)).take 2048
      let t := (List.range ((ws.length + 7) / 8)).foldl (fun (t : Tile) k =>
        t.setStkWord ((base + 8 * k) / 8) (BitVec.ofNat 64 (leAt ws (8 * k) 8)) (BitVec.ofNat 4 tag)) (s.tile f key)
      (s.setTile f key t).served f ((ws.length + 63) / 64)
    | none => s) s

/-- A request's payload as the image sees it (R378). -/
def Req.plain (r : Req) (okm : List Nat) : List Nat := openPayload okm r.desc r.payload

/-- One entry of a feed: session, kind, flags, SEQ, first token index, SEED, parameters, payload piece. -/
structure Piece where
  session : Nat
  kind : Nat
  flags : Nat
  seqNo : Nat
  first : Nat
  seed : Nat
  params : List Nat
  pos : Nat
  data : List Nat
  deriving DecidableEq, Repr

/-- A list of sessions in the order in which their requests were accepted. -/
def insertBy (key : Nat → Nat) (i : Nat) : List Nat → List Nat
  | [] => [i]
  | j :: r => if key i < key j then i :: j :: r else j :: insertBy key i r

/-- The sessions of a feed, at most BATCH, in acceptance order (R343). -/
def Ledger.batchOf (l : Ledger) (e : Nat) : List Nat :=
  let order := fun (i : Nat) => match (l.sess i).running with
    | some r => r.order
    | none => 0
  ((l.wanting e).foldl (fun acc i => insertBy order i acc) []).take (l.batch e)

/-- The piece that a session places at `pos`, where there is room for it (R343). -/
def Ledger.pieceOf (l : Ledger) (i pos : Nat) : Option Piece :=
  let x := l.sess i
  let mk := fun (kind seq first seed : Nat) (ps rest : List Nat) (done : Nat) =>
    let n := min rest.length ((0x40000 - pos) / 64 * 64)
    if rest ≠ [] ∧ n = 0 then none
    else some (⟨i, kind, b2n (decide (n < rest.length)) + 2 * b2n (done ≠ 0 && rest ≠ []), seq, first, seed, ps, pos, rest.take n⟩ : Piece)
  match x.refill with
  | some b => mk 2 0 x.rel 0 (List.replicate 6 0) b x.refed
  | none => (match x.running with
    | some r => mk 1 r.seqNo x.nextIndex r.seed r.params ((r.plain x.key).drop r.fed) r.fed
    | none => none)

/-- The pieces of a feed, one after another from `pos`. -/
def Ledger.pieces (l : Ledger) : Nat → List Nat → List Piece
  | _, [] => []
  | pos, i :: r => match l.pieceOf i pos with
    | some p => p :: l.pieces (pos + (p.data.length + 63) / 64 * 64) r
    | none => l.pieces pos r

/-- The bytes of a feed half up to its last payload byte (R342). -/
def feedBytes (q : Nat) (ps : List Piece) : List Nat :=
  let table := ps.flatMap (fun p =>
    bytesLe 2 p.session ++ [p.kind, p.flags] ++ bytesLe 8 p.seqNo ++ bytesLe 8 p.first ++ bytesLe 8 p.seed ++
      p.params.flatMap (bytesLe 4) ++ bytesLe 4 p.pos ++ bytesLe 4 p.data.length ++ bytesLe 4 0)
  let head := padTo 64 (bytesLe 4 0x44454546 ++ bytesLe 2 ps.length ++ [0, 0] ++ bytesLe 8 q) ++ table
  ps.foldl (fun b p => padTo p.pos b ++ p.data) head

/-- A session's progress after a piece of it has been fed. -/
def Session.fedPiece (x : Session) (p : Piece) : Session :=
  if p.kind = 2 then
    match x.refill with
    | some b =>
      let rest := b.drop p.data.length
      { x with refill := if bitOf p.flags 0 then some rest else none, refed := x.refed + p.data.length }
    | none => x
  else { x with active := x.active.map (fun r => if r.seqNo = p.seqNo then { r with fed := r.fed + p.data.length } else r) }

/-- The invocation whose feed comes next: the oldest issued one whose half is free and not yet written. -/
def State.feedNext (s : State) : Option Invocation :=
  match s.issued.find? (fun i => !s.ldg.fed.contains i.seqNo) with
  | some i => if s.issued.any (fun j => decide (j.seqNo < i.seqNo) && j.seqNo % 2 = i.seqNo % 2) then none else some i
  | none => none

/-- FEED_WRITE: the feed half of the next invocation is written and journalled; a replay writes the feed that the journal
holds (R341 to R344, R353). -/
def execFeedWrite (s : State) : Res :=
  match s.feedNext with
  | none => .next s
  | some i =>
    if s.dict.test.isSome || s.stackReset || s.trust.halted || !s.admits 0 0 then .next s
    else
      let q := i.seqNo
      let base := s.ldgTop - 0x2000 + 0x800 * (q % 2)
      let put := fun (s : State) (b : List Nat) =>
        ({ s with ldg := { s.ldg with fed := q :: s.ldg.fed } } : State).putHalf base s.tenant (padTo 0x40000 b)
      match s.ldg.feedRec q with
      | some r => .next (put s r.body)
      | none =>
        let is := s.ldg.batchOf i.entry
        let ps := s.ldg.pieces (0x40 + 64 * is.length) is
        let b := feedBytes q ps
        if !s.ldg.fits s.ldg.underway 4097 then .next s.journalFull
        else
          let l := ps.foldl (fun l p => l.upd p.session (fun x => x.fedPiece p)) s.ldg
          .next (put { s with ldg := l.append 3 0xFFFF q false b } b)

/-! ### Drains (R342, R343) -/

/-- `n` bytes of a half; an uncorrectable word reads as zero. -/
def State.getHalf (s : State) (base off n : Nat) : List Nat :=
  (List.range n).map (fun k =>
    match s.locate ((off + k) / 2048 % 128) with
    | some (f, key) => ((s.tile f key).stackBytes (base + (off + k) % 2048) 1).getD 0 0
    | none => 0)

/-- The words of the first `n` bytes of a half are read: their outcomes are noted (R192, R193). -/
def State.noteHalf (s : State) (base n : Nat) : State :=
  (List.range ((n + 2047) / 2048)).foldl (fun s x => match s.locate (x % 128) with
    | some (f, key) => s.noteStack f key base (min 2048 (n - 2048 * x))
    | none => s) s

/-- A token record of a drain joins its session: `seq` is the sequence number that the feed gave it (R343, R347, R348). -/
def Session.drained (x : Session) (i seq endAcyc : Nat) (d : List Nat) : Session :=
  let idx := leAt d 8 8
  let isEnd := bitOf (leAt d 2 1) 0
  let mk := fun (r : Req) (e : Bool) (st : Nat) =>
    ({ session := i, seqNo := seq, index := idx, token := leAt d 4 4, isEnd := e, noToken := false, status := st
       redelivered := false, aux := r.tag, endAcyc := endAcyc, place := 0, close := false
       port := r.port, ring := r.ring, key := x.key } : Rec)
  if idx < x.rel then
    { x with recs := x.recs ++ [mk (reqOf [] 0 [] none) isEnd (leAt d 3 1)] }
  else match x.active.find? (fun r => r.seqNo = seq) with
    | none => x
    | some r =>
      if x.over seq || r.maxtok = 0 then x
      else
        let full := decide (r.maxtok ≤ r.made + 1)
        let e := isEnd || full
        let st := if isEnd then leAt d 3 1 else if full then 1 else leAt d 3 1
        { x with
          recs := x.recs ++ [mk r e st]
          active := x.active.map (fun y => if y.seqNo = seq then { y with made := y.made + 1 } else y) }

/-- A request that may produce no token ends once its whole payload has been fed and the invocation has run. -/
def Session.noTokens (x : Session) (i seq endAcyc : Nat) : Session :=
  match x.active.find? (fun r => r.seqNo = seq) with
  | some r => if r.maxtok = 0 && !x.over seq then
      { x with recs := x.recs ++ [{ x.endRec i r 1 with endAcyc := endAcyc }] } else x
  | none => x

/-- The session goes on after its re-prefill: OPEN, or ORPHAN where its owner's lease has expired (R353). -/
def Ledger.refilled (l : Ledger) (i : Nat) : Ledger :=
  l.upd i (fun x => if x.state = 3 && x.refill.isNone then
    { x with state := if l.expired.contains (x.owner - 1) then 2 else 1 } else x)

/-- The drain of one entry of a feed: `e` is its table entry. -/
def Ledger.drainEntry (l : Ledger) (endAcyc : Nat) (recs : List (List Nat)) (e : List Nat) : Ledger :=
  let i := leAt e 0 2
  let more := bitOf (leAt e 3 1) 0
  let seq := leAt e 4 8
  if more then l
  else if leAt e 2 1 = 2 then l.refilled i
  else
    let l := (recs.filter (fun d => leAt d 0 2 = i)).foldl (fun l d => l.upd i (fun x => x.drained i seq endAcyc d)) l
    (l.upd i (fun x => x.noTokens i seq endAcyc)).settle i

/-- DRAIN_READ: the drain half of the oldest ended invocation that has not been read (R342, R343, R347). -/
def execDrainRead (s : State) : Res :=
  match s.run.ended.reverse.find? (fun e => !s.ldg.drained.contains e.1) with
  | none => .next s
  | some (q, k) =>
    if s.dict.test.isSome || s.stackReset || s.trust.halted || !s.admits 0 0 then .next s
    else
      let base := s.ldgTop - 0x1000 + 0x800 * (q % 2)
      let h := s.getHalf base 0 16
      let m := if leAt h 0 4 = 0x4E415244 && leAt h 8 8 = q then min (leAt h 4 2) 16380 else 0
      let recs := (List.range m).map (fun j => s.getHalf base (0x40 + 16 * j) 16)
      let feed := match s.ldg.feedRec q with
        | some r => (List.range (leAt r.body 4 2)).map (fun j => (r.body.drop (0x40 + 64 * j)).take 64)
        | none => []
      let l := feed.foldl (fun l e => l.drainEntry k recs e) s.ldg
      .next ((({ s with ldg := { l with drained := q :: l.drained } } : State).noteHalf base (64 + 16 * m)).served 0
        (1 + (16 * m + 63) / 64))

/-- LDG_FEED_LATE: a feed is missing 4,096 acycles before its start, or a drain at the start of the second invocation after
(R344). -/
def execLdgFeedLate (s : State) : Res :=
  let l := s.ldg
  let begun := (s.run.cur.toList.map (·.seqNo)) ++ s.run.ended.map (·.1)
  let late := (s.issued.find? (fun i => !l.fed.contains i.seqNo && decide (i.start < s.acyc + 4096))).map (·.seqNo)
  let undrained := (s.run.ended.find? (fun e => !l.drained.contains e.1 && begun.contains (e.1 + 2))).map (·.1)
  match late.or undrained with
  | none => .next s
  | some q => if s.dict.test.isSome then .next s else .next ((s.invalidate).moduleFault 4 Code.ldgFeedLate 0 q true)

/-! ### Completion records (R346 to R348, R351, R379) -/

/-- The ciphertext and the tag of a sealed record's token: its 4 bytes, or zeros with NOTOKEN, under KD, with PHASE and
REDELIVERED taken as 0 (R379). -/
def Rec.sealed (r : Rec) : List Nat :=
  let flags := 2 * b2n r.isEnd + 4 * b2n r.noToken + 8
  gcmSeal (sealKD r.key) (ivNonce (sealIVD r.key) r.index)
    (bytesLe 2 r.session ++ [flags, r.status % 256] ++ bytesLe 8 r.seqNo ++ bytesLe 8 r.index)
    (bytesLe 4 (if r.noToken then 0 else r.token))

/-- The 32 bytes of a record (R346, R379). -/
def Rec.bytes (r : Rec) (phase : Bool) : List Nat :=
  let flags := b2n phase + 2 * b2n r.isEnd + 4 * b2n r.noToken + 8 * b2n (r.key ≠ []) + 16 * b2n r.redelivered
  bytesLe 2 r.session ++ [flags, r.status % 256] ++ (if r.key = [] then bytesLe 4 r.token else r.sealed.take 4) ++
    bytesLe 8 r.seqNo ++ bytesLe 8 r.index ++ (if r.key = [] then bytesLe 8 r.aux else (r.sealed.drop 4).take 8)

/-- The record whose discarded write a ring still owes first: it takes the first free slot, and any other waits (R328). -/
def Ledger.owed (l : Ledger) (port k : Nat) : Option (Nat × Nat × Nat × Bool) :=
  (l.ring port k).redo.find? (fun c => (l.sess c.1).recs.any (fun r => r.port = port && r.ring = k && r.place = 1 &&
    r.seqNo = c.2.1 && r.index = c.2.2.1 && r.noToken = c.2.2.2))

/-- A session's first released record goes to its ring, where the ring takes it (R328, R347, R349). -/
def State.writeRecord (s : State) (i : Nat) : State :=
  match (s.ldg.sess i).recs.find? (fun r => decide (r.place ≤ 1)) with
  | none => s
  | some r =>
    let g := s.ldg.ring r.port r.ring
    let me := (i, r.seqNo, r.index, r.noToken)
    let used := (g.prod + g.flying + 2 ^ 32 - g.cons) % 2 ^ 32
    if r.place = 0 || decide (64 ≤ r.ring) || !g.en || decide (g.entries ≤ used) || s.ldg.expired.contains r.port ||
        s.reg F.HP_LINK_UP r.port = 0 || decide ((s.ldg.owed r.port r.ring).getD me ≠ me) then s
    else
      let n := (g.prod + g.flying) % 2 ^ 32
      let s := s.emit .hostWrite r.port (g.base + 32 * (n % g.entries)) (r.bytes (n / g.entries % 2 = 0))
      let l := s.ldg.updRing r.port r.ring (fun g =>
        { g with slots := g.slots ++ [me], flying := g.flying + 1, redo := g.redo.filter (fun c => c ≠ me) })
      { s with ldg := l.upd i (fun x => { x with recs := x.recs.map (fun y => if y = r then { y with place := 2 } else y) }) }

/-- `n` bytes of a half from a 64-byte boundary are zeroized, in whole 64-byte units, with tag 0 (R372). -/
def State.zeroHalf (s : State) (base off n : Nat) : State :=
  (List.range ((n + 63) / 64 * 8)).foldl (fun s k =>
    let o := off + 8 * k
    match s.locate (o / 2048 % 128) with
    | some (f, key) => s.setTile f key ((s.tile f key).setStkWord ((base + o % 2048) / 8) 0 0)
    | none => s) s

/-- A session's entries in both feed halves, with their payload pieces, are zeroized (R372). -/
def State.wipeFeed (s : State) (i : Nat) : State :=
  [0, 1].foldl (fun (s : State) h =>
    let base := s.ldgTop - 0x2000 + 0x800 * h
    let head := s.getHalf base 0 8
    if leAt head 0 4 ≠ 0x44454546 then s
    else
      (List.range (min (leAt head 4 2) 4095)).foldl (fun s j =>
        let e := s.getHalf base (0x40 + 64 * j) 64
        if leAt e 0 2 ≠ i || leAt e 2 1 = 0 then s
        else
          let p := leAt e 0x34 4
          let n := min (leAt e 0x38 4) (0x40000 - p)
          (s.zeroHalf base p n).zeroHalf base (0x40 + 64 * j) 64) s) s

/-- The rope stops because a replayed token differs from the log (R348). -/
def State.diverge (s : State) (i : Nat) : State :=
  let s := s.moduleFault 4 Code.ldgReplayDiverge 0 i false
  if s.inRope && s.isAnchor then s.castEpoch (abortBytes 2 6 none s.own 0) else s.stopRope 6

/-- A session's first record that is not released is released, once CLEAR has reached its invocation's end; a replayed one is
compared with the token log and suppressed (R304, R348, R372, R379). -/
def State.releaseRecord (s : State) (i : Nat) : State :=
  let x := s.ldg.sess i
  match x.recs.find? (fun r => r.place = 0) with
  | none => s
  | some r =>
    if s.reg F.BC_ROPE_CLEAR_CLEAR < r.endAcyc then s
    else
      let without := fun (x : Session) => { x with recs := x.recs.filter (fun y => y ≠ r) }
      if !r.noToken && decide (r.index < x.rel) then
        let old := x.tokens.get 0 r.index
        let s := { s with ldg := s.ldg.upd i without }
        if old ≠ 0 ∧ old ≠ r.token + 1 then s.diverge i else s.satReg F.LDG_STAT_SUPPRESSED
      else if !r.noToken && !s.ldg.fits s.ldg.underway 2 then s.journalFull
      else
        let l := s.ldg.upd i (fun x => { x with
          recs := x.recs.map (fun y => if y = r then { y with place := 1 } else y)
          rel := if r.noToken then max x.rel r.index else r.index + 1
          tokens := if r.noToken then x.tokens else x.tokens.set 0 r.index (r.token + 1)
          sealedRecs := if x.key = [] then 0 else x.sealedRecs + 1 })
        let l := if r.noToken then l else l.append 4 i r.index false (bytesLe 4 r.token)
        let l := { l with released := l.released + 1 }
        if r.close then ({ s with ldg := l.close i r.seqNo } : State).wipeFeed i else { s with ldg := l }

/-- COMPLETION_WRITE: a record of a session is released, or suppressed, and the first released one is written to its ring
(R304, R347, R348). -/
def execCompletionWrite (i : Fin 4096) (s : State) : Res :=
  if s.trust.halted then .next s else .next ((s.releaseRecord i.val).writeRecord i.val)

/-- COMPLETION_WRITE_DONE: the oldest write in flight of a ring completes (R328). -/
def execCompletionWriteDone (port : Fin 2) (k : Fin 64) (s : State) : Res :=
  let g := s.ldg.ring port.val k.val
  if g.flying = 0 then .next s
  else .next { s with ldg := s.ldg.updRing port.val k.val (fun g =>
    { g with flying := g.flying - 1, prod := (g.prod + 1) % 2 ^ 32, due := true }) }

/-- MSIX_COALESCE (R346). -/
def execMsixCoalesce (port : Fin 2) (k : Fin 64) (s : State) : Res :=
  let g := s.ldg.ring port.val k.val
  if !g.due then .next s
  else .next (({ s with ldg := s.ldg.updRing port.val k.val (fun g => { g with due := false }) } : State).signal port.val g.vector)

end Sys2Proof.Machine
end

