-- ==== Sys2Proof/Machine/Telemetry.lean ====
section
/-!
DEFINITION. Sys2Proof/Machine/Telemetry.lean: histograms, the current history, time, the survey window and the test access port
(spec 17_telemetry).
-/

namespace Sys2Proof.Machine

/-! ### Histograms (R506 to R510) -/

/-- Bin of a landing FIFO that holds `n` words: scheme A. -/
def binA (n : Nat) : Nat :=
  if n = 0 then 0 else if n = 1 then 1 else if n < 4 then 2 else if n < 6 then 3 else if n < 8 then 4 else if n < 12 then 5
  else if n < 16 then 6 else 7
/-- Bin of a queue of up to eight entries: scheme B. -/
def binB (n : Nat) : Nat := min n 7
/-- Bin of a Hexkel buffer that holds `n` of `cap`: scheme C. -/
def binC (n cap : Nat) : Nat := min 7 (8 * n / cap)

/-- One sample of histogram `h` of a tile. -/
def Tile.addBin (t : Tile) (h b : Nat) : Tile :=
  let f := if b % 2 = 0 then F.TEL_OCC_BIN_EVEN else F.TEL_OCC_BIN_ODD
  let j := 4 * h + b / 2
  t.setReg f (satAdd 32 (t.reg f j) 1) j

/-- One sample of every histogram of a tile (R508); `mesh` is what its request-mesh input buffers hold. -/
def Tile.sample (mesh : Nat → Nat) (t : Tile) : Tile :=
  let t := (List.range 8).foldl (fun t h => t.addBin h (binA (t.rtr.fifo h).length)) t
  let t := (List.range 4).foldl (fun t k => t.addBin (8 + k) (binB (mesh k))) t
  let t := t.addBin 12 (binB t.msg.requests)
  let t := t.addBin 13 (binB ((List.range 8).filter (fun k => (t.msg.slot k).reserved)).length)
  let t := t.addBin 14 (binB t.seq.evq.length)
  t.addBin 15 (binB ((List.range 8).filter (fun k => (t.rtr.hold.get none k).isSome)).length)

/-- The router input that a packet at a pair came in by from the router before, 4 for its own tile (R204, R205). -/
def inputOf (prev at_ : Nat) : Nat :=
  let a := routeTarget prev
  if prev = bcPair then 2
  else if pairY at_ = pairY a then (if pairX a < pairX at_ then 3 else if pairX at_ < pairX a then 1 else 4)
  else if pairY a < pairY at_ then 2 else 0

/-- Flits that the request mesh holds at input `k` of the router of a pair. -/
def State.meshFlits (s : State) (a k : Nat) : Nat :=
  min 8 (((s.pkts.filter (fun (x : Flight) => !x.pkt.reply && x.at_ = a && inputOf x.prev a = k)).map
    (fun (x : Flight) => 1 + x.pkt.words.length)).foldl (· + ·) 0)

/-- HISTOGRAM_SAMPLE (R506). -/
def execHistogramSample (f : Fin 48) (s : State) : Res :=
  let f := f.val
  if !s.present f || s.reg F.FLD_TEL_CFG_EN f = 0 || s.reg F.FLD_TEL_CFG_FREEZE f = 1 || !s.aclk f ||
      s.acyc % 2 ^ s.reg F.FLD_TEL_CFG_K f ≠ 0 then .next s
  else
    let s := s.clearsDue s.acyc
    let busy := ((s.pkts.filter (fun (x : Flight) => !x.pkt.reply)).filterMap (fun (x : Flight) =>
      match s.locate x.at_ with
      | some (g, key) => if g = f then some (x.at_, key) else none
      | none => none)).eraseDups
    let olds := busy.map (fun b => (b.2, (s.tile f b.2).sample (fun k => s.meshFlits b.1 k)))
    let s' := s.mapTiles f (Tile.sample (fun _ => 0))
    .next ((olds.foldl (fun s o => s.setTile f o.1 o.2) s').satReg F.FLD_TEL_CFG_SAMPLES f)

/-- One sample of histogram `h` of a port. -/
def State.addHxBin (s : State) (p h b : Nat) : State :=
  let f := if b % 2 = 0 then F.HX_HIST_BIN_EVEN else F.HX_HIST_BIN_ODD
  let j := 4 * h + b / 2
  s.setReg f (satAdd 32 (s.reg f p j) 1) p j

/-- One sample of a port's five buffers (R509). -/
def State.sampleHx (s : State) (p : Nat) : State :=
  let g := s.port p
  let s := (s.addHxBin p 0 (binC (g.rx.get [] 2).length 1048576)).addHxBin p 1 (binC (g.rx.get [] 3).length 1048576)
  let s := (s.addHxBin p 2 (binC ((g.rx.get [] 4).length / 64) 64)).addHxBin p 3 (binC ((g.rx.get [] 5).length / 64) 64)
  s.addHxBin p 4 (binC g.landingWords 65536)

/-- HX_HISTOGRAM_SAMPLE (R509). -/
def execHxHistogramSample (s : State) : Res :=
  if s.reg F.TEL_CFG_EN = 0 || s.acyc % 2 ^ s.reg F.TEL_CFG_K ≠ 0 then .next s
  else .next (((List.range s.nPorts).filter s.portUp).foldl State.sampleHx s)

/-- TEL_CLEAR (R510): takes effect 64 acycles after it is accepted. -/
def execTelClear (f : Fin 48) (s : State) : Res :=
  if !s.present f.val then .next s
  else .next ((s.updField f.val (fun g => { g with clearAt := some (s.acyc + 64) })).cmd F.FLD_TEL_CFG_STATUS F.FLD_TEL_CFG_OP
    1 1 f.val)

/-! ### Currents and energy (R511, R512) -/

/-- CURRENT_HISTORY_ADVANCE (R511, R512): the averages of the last millisecond, three a field in units of 0.1 A, and the energy of
each field in it, in mJ. -/
def execCurrentHistoryAdvance (amps : List (BitVec 16)) (mj : List (BitVec 32)) (s : State) : Res :=
  .next (s.allFields.foldl (fun s f =>
    let a := fun (r : Nat) => (amps.getD (3 * f + r) 0).toNat
    let s := ((s.setReg F.FLD_TEL_I_VCOMP (a 0) f).setReg F.FLD_TEL_I_VFAB (a 1) f).setReg F.FLD_TEL_I_VDRAM (a 2) f
    let s := s.addReg F.FLD_TEL_ENERGY_MJ f (mj.getD f 0).toNat
    let h := (List.range 3).foldl (fun (m : SMap (List Nat)) r => m.upd [] (3 * f + r) (fun l => (a r :: l).take 64)) s.pw.hist
    { s with pw := { s.pw with hist := h } }) s)

/-- The history that TEL_HIST_SEL selects. -/
def State.histSelected (s : State) : List Nat :=
  let r := s.reg F.TEL_HIST_SEL_RAIL
  if r = 3 then [] else s.pw.hist.get [] (3 * s.reg F.TEL_HIST_SEL_FIELD + r)

/-- TEL_HIST_SEL (R512): selects one rail history and latches it for 1 ms. -/
def execTelHistSel (rail : Fin 4) (f : Fin 64) (s : State) : Res :=
  let s := (s.setReg F.TEL_HIST_SEL_RAIL rail.val).setReg F.TEL_HIST_SEL_FIELD f.val
  .next { s with pw := { s.pw with latch := s.histSelected, latchAt := s.ref + 1 } }

/-- The history that TEL_HIST_0 to TEL_HIST_15 show: the latched one for 1 ms after the write, and then the one in force. -/
def State.histShown (s : State) : List Nat :=
  if 0 < s.pw.latchAt ∧ s.ref + 1 < s.pw.latchAt + 100000 then s.pw.latch else s.histSelected

/-! ### Time (R513) -/

/-- PPS_EDGE (R513): TEL_PPS latches TEL_TIME; the time of day takes the value written, or adds 1. -/
def execPpsEdge (s : State) : Res :=
  let s' := s.setReg F.TEL_PPS_REF s.ref
  let s' := { s' with pw := { s'.pw with todNext := none, todAt := s.ref } }
  match s.pw.todNext with
  | some v => .next (if s.reg F.TEL_TOD_ANCHOR = 1 then s'.addReg F.TEL_TOD_SEC
      else (s'.setReg F.TEL_TOD_SEC v).setReg F.TEL_TOD_VALID 1)
  | none => .next (if s.reg F.TEL_TOD_VALID = 1 then s'.addReg F.TEL_TOD_SEC else s')

/-! ### The survey window (R514, R515) -/

/-- SURVEY_READ: `n` bytes at an offset of a view, read by a port; `ups` are the memory upsets that come about. -/
def execSurveyRead (port : Fin 2) (view : Fin 3) (off : BitVec 18) (n : Fin 4097) (ups : List (Addr × Upset)) (s : State) : Res :=
  let r := (s.upsets ups).surveyRead view.val off.toNat n.val
  .next (match r.2 with
    | some bs => r.1.emit .hostCpl port.val 0 bs
    | none => r.1.emit .hostCpl port.val 4 [])

/-- SURVEY_WRITE: bytes at an offset of a view. -/
def execSurveyWrite (view : Fin 3) (off : BitVec 18) (data : List (BitVec 8)) (s : State) : Res :=
  .next (s.surveyWrite view.val off.toNat (data.map (·.toNat))).1

/-- SURVEY_TIMEOUT (R515): no reply within 1 ms. -/
def execSurveyTimeout (port : Fin 2) (view : Fin 3) (write : Bool) (s : State) : Res :=
  let s := s.svyNote view.val (some 6) true false
  .next (if write then s else s.emit .hostCpl port.val 4 [])

/-! ### The test access port (R520, R521) -/

/-- The identification code: stepping, part number and manufacturer (R520). -/
def State.idcode (s : State) : Nat := s.fuse.stepping % 16 * 2 ^ 28 + 0x9A00797

/-- An instruction of the TAP is loaded; one whose scope is closed answers as BYPASS (R520). -/
def State.tapIr (s : State) (ir : TapIr) : State := { s with trust := { s.trust with tap := ir } }

/-- IDCODE (R520). -/
def execIdcode (s : State) : Res := .next ((s.tapIr .idcode).emit .tap 0 1 (bytesLe 4 s.idcode))
/-- BYPASS (R520). -/
def execBypass (s : State) : Res := .next ((s.tapIr .bypass).emit .tap 0 0xFF [0])

/-- The debug network is gated off: it reads as zeros and ignores writes (R462). -/
def State.netGated (s : State) : Bool := bits (s.reg F.CLK_GATE_MODE) 2 2 = 2

/-- IJTAG_READ: captures an instrument of the network. What it holds the manual leaves to Tsuham's description of the network,
but for a value that an update has set (assumption 1). -/
def execIjtagRead (ix : BitVec 32) (s : State) : Res :=
  if !s.scopeOpen 0 then execBypass s
  else
    let s := s.tapIr .read
    .next (if s.netGated then s.emit .tap 0 0x20 (bytesLe 8 0) else match s.trust.ijtag.get 0 ix.toNat with
      | v + 1 => s.emit .tap 0 0x20 (bytesLe 8 v)
      | 0 =>
        let r := s.fresh
        r.2.emit .tap 0 0x20 (bytesLe 8 (r.1 % 2 ^ 64)))

/-- Base Camp realigns a field whose ACLK runs again: its array acycle counter equals the others' (R156, R521). -/
def State.realign (s : State) (f : Nat) : State :=
  let s := s.updField f (fun g => { g with stopped := false })
  s.alignSeams f

/-- A stop of a field's ACLK; with a live section its crossings record SCH_SEAM_SLIP and the section is invalid (R521). -/
def State.stopAclk (s : State) (f : Nat) : State :=
  let s := (s.updField f (fun g => { g with stopped := true, stopAcyc := s.acyc }))
  if !(s.field f).live then s
  else
    let slip := fun (s : State) (g : Nat) (north : Bool) =>
      if !s.hasSeam g north then s else s.satReg (if north then F.FLD_SEAM_N_SLIP else F.FLD_SEAM_E_SLIP) g
    let s := slip (slip s f false) f true
    let s := if f % 8 = 0 then s else slip s (f - 1) false
    let s := if f < 8 then s else slip s (f - 8) true
    s.fieldFault f Code.seamSlip

/-- IJTAG_RW: an update of the network (R428, R520, R521). -/
def execIjtagRw (u : IjtagUpdate) (s : State) : Res :=
  if !s.scopeOpen 1 then execBypass s
  else
    let s := s.tapIr .write
    .next (if s.netGated then s else match u with
      | .set ix v => { s with trust := { s.trust with ijtag := s.trust.ijtag.set 0 ix.toNat (v.toNat + 1) } }
      | .stop f => if s.present f.val && s.aclk f.val then s.stopAclk f.val else s
      | .resume f => if s.present f.val && (s.field f.val).stopped && !s.trust.scanning.contains f.val then s.realign f.val else s
      | .reset => s.resetReq 5 6 (s.sourceLevel 5) true 0)

/-- The Base Camp cores stop: intake ticks, lease timers and UP cells stop with them (R521). -/
def execBcHalt (s : State) : Res :=
  if !s.scopeOpen 2 then execBypass s
  else
    let s := s.tapIr .halt
    .next (if s.trust.halted then s else { s with trust := { s.trust with halted := true, haltAt := s.ref } })

/-- TILE_SCAN: accepted for a field with no live section; its ACLK stops. What the chains give the manual leaves open
(assumption 1). -/
def execTileScan (f : Fin 48) (s : State) : Res :=
  if !s.scopeOpen 3 then execBypass s
  else if !s.present f.val || (s.field f.val).live || s.trust.scanning.contains f.val then .next (s.tapIr .scan)
  else
    let r := (s.tapIr .scan).fresh
    let s := r.2.updField f.val (fun g => { g with stopped := true, stopAcyc := s.acyc })
    .next ({ s with trust := { s.trust with scanning := insertAsc f.val s.trust.scanning } }.emit .tap f.val 0x30
      (bytesLe 8 (r.1 % 2 ^ 64)))

/-- A field's tile scan ends. -/
def State.scanEnd (s : State) (f : Nat) : State :=
  { s with trust := { s.trust with scanning := s.trust.scanning.filter (fun g => g ≠ f) } }.realign f

/-- TILE_SCAN_END (R521). -/
def execTileScanEnd (f : Fin 48) (s : State) : Res :=
  if !s.trust.scanning.contains f.val then .next s else .next (s.scanEnd f.val)

/-- Every scope closes: a halted Base Camp resumes, fields whose clocks the network stopped run again, and a field with an
open scan is zeroized and bloomed (R382, R521). -/
def State.relock (s : State) : State :=
  let s := { s.bcResume.setReg F.BC_DBG_CMD_SCOPE 0 with trust := { s.bcResume.trust with unlockEnd := none, tap := .bypass } }
  let scans := s.trust.scanning
  let s := ((s.fields.filter (fun e => e.2.stopped && !scans.contains e.1)).map (·.1)).foldl State.realign s
  let s := scans.foldl (fun s f => (((s.scanEnd f).mapTiles f Tile.zeroScratch).bloomField f).bloomFinish f) s
  (s.setReg F.BC_TRUST_STATUS_DEBUG 0).remeasure 8

end Sys2Proof.Machine
end

