-- ==== Sys2Proof/Machine/Trust.lean ====
section
/-!
DEFINITION. Sys2Proof/Machine/Trust.lean: attestation, owner commands, sealed sessions and debug access (spec 11_trust).
-/

namespace Sys2Proof.Machine

/-! ### The SPDM responder (R362 to R364) -/

/-- A connection, and a change of it. -/
def State.conn (s : State) (c : Nat) : SpdmConn := s.trust.conns.get SpdmConn.zero c
def State.setConn (s : State) (c : Nat) (x : SpdmConn) : State :=
  { s with trust := { s.trust with conns := s.trust.conns.set SpdmConn.zero c x } }

/-- A response leaves; one above the requester's largest transfer is kept for CHUNK_GET (R362). -/
def State.spdmSend (s : State) (c : Nat) (b : List Nat) : State :=
  let k := s.conn c
  if 42 ≤ k.xfer ∧ k.xfer < b.length then
    (s.setConn c { k with chunkOut := b, handle := (k.handle + 1) % 256 }).emit .spdm c 0x7F
      (spdmHdr 0x7F 0x0F 0 ++ [(k.handle + 1) % 256])
  else s.emit .spdm c (b.getD 1 0) b

/-- ERROR with a code. -/
def State.spdmError (s : State) (c code : Nat) : State := s.spdmSend c (spdmHdr 0x7F code 0)

/-- `n` free bytes. -/
def State.freshBytes (s : State) (n : Nat) : State × List Nat :=
  let r := s.fresh
  (r.2, bytesLe n r.1)

/-- A signed response: `head`, the Ed25519 signature, and the ML-DSA-65 signature kept for GET_PQ_SIG (R363). -/
def State.spdmSigned (s : State) (c : Nat) (head : List Nat) : State :=
  let sig := s.freshBytes 64
  let s := sig.1.setConn c { sig.1.conn c with pqSig := some sig.1.free }
  ({ s with free := s.free + 1 } : State).spdmSend c (head ++ sig.2)

/-- The DMTF value types of measurement blocks 1 to 9 (R364). -/
def measType (k : Nat) : Nat := [0x00, 0x01, 0x01, 0x03, 0x02, 0x04, 0x03, 0x05, 0x07].getD (k - 1) 0

/-- The digest of a measurement block; block 6 is that of the installed image's plaintext, or 48 zero bytes with no image (R364). -/
def State.measDigest (s : State) (k : Nat) : List Nat :=
  if k = 6 then (match s.image with
    | none => List.replicate 48 0
    | some m => sha384 ((List.range m.blob.len).map m.blob.byte))
  else bytesLe 48 (s.trust.meas.get 0 k)

/-- A measurement block in the DMTF format. -/
def State.measBlock (s : State) (k : Nat) : List Nat :=
  [k, 1] ++ bytesLe 2 51 ++ [measType k] ++ bytesLe 2 48 ++ s.measDigest k

/-- Chain 0 or 1 as it stands. -/
def State.chain (s : State) (k : Nat) : List Nat :=
  let fw := s.trust.meas.get 0 2
  (List.range (Config.chainLen k fw)).map (fun i => Config.chainByte k fw i % 256)

/-- VENDOR_DEFINED_RESPONSE of the vendor (R363). -/
def vendorResponse (payload : List Nat) : List Nat :=
  spdmHdr 0x7E 0 0 ++ bytesLe 2 3 ++ [2] ++ bytesLe 2 0x1FE7 ++ bytesLe 2 payload.length ++ payload

/-- The responder's answer to a request on a connection (R362 to R364). -/
def State.spdmServe (s : State) (c : Nat) (q : SpdmReq) : State :=
  let k := s.conn c
  match q with
  | .version =>
    (s.setConn c { SpdmConn.zero with stage := 1, pqSig := k.pqSig }).spdmSend c ([0x10, 0x04, 0, 0, 0, 1] ++ bytesLe 2 0x1300)
  | .capabilities limit =>
    if k.stage = 0 then s.spdmError c 4
    else
      let r := s.freshBytes 9
      let flags := 2 + 4 + 2 * 8 + 64 + 128 + 512 + 2 ^ 13 + 2 ^ 14 + 2 ^ 17
      (r.1.setConn c { k with stage := max 2 k.stage, xfer := limit.toNat }).spdmSend c
        (spdmHdr 0x61 0 0 ++ [0] ++ r.2.take 1 ++ [0, 0] ++ bytesLe 4 flags ++ r.2.drop 1)
  | .algorithms ok =>
    if k.stage < 2 then s.spdmError c 4
    else if !ok then s.spdmError c 1
    else
      (s.setConn c { k with stage := 3 }).spdmSend c
        (spdmHdr 0x63 2 0 ++ bytesLe 2 52 ++ [1, 0] ++ bytesLe 4 2 ++ bytesLe 4 0x200 ++ bytesLe 4 2 ++ List.replicate 16 0 ++
          [2, 0x20] ++ bytesLe 2 0x10 ++ [3, 0x20] ++ bytesLe 2 2)
  | .heartbeat => if k.session = 2 then s.spdmSend c (spdmHdr 0x68 0 0) else s.spdmError c 4
  | .endSession =>
    if k.session = 2 then (s.setConn c { k with session := 0, updates := 0 }).spdmSend c (spdmHdr 0x6C 0 0) else s.spdmError c 4
  | .keyUpdate op =>
    if k.session ≠ 2 then s.spdmError c 4
    else if op = 0 ∨ 3 < op.toNat then s.spdmError c 1
    else (s.setConn c { k with updates := if op = 3 then k.updates else k.updates + 1 }).spdmSend c (spdmHdr 0x69 op.toNat 0)
  | .finish ok =>
    if k.session ≠ 1 then s.spdmError c 4
    else if ok then (s.setConn c { k with session := 2 }).spdmSend c (spdmHdr 0x65 0 0)
    else (s.setConn c { k with session := 0 }).spdmError c 6
  | .other => s.spdmError c 7
  | .digests =>
    if k.stage < 3 then s.spdmError c 4
    else s.spdmSend c (spdmHdr 0x01 0 1 ++ bytesLe 48 (Config.chainDigest 0 (s.trust.meas.get 0 2)))
  | .certificate slot off len =>
    if k.stage < 3 then s.spdmError c 4
    else
      let all := s.chain 0
      if slot ≠ 0 ∨ all.length ≤ off.toNat then s.spdmError c 1
      else
        let part := (all.drop off.toNat).take len.toNat
        s.spdmSend c (spdmHdr 0x02 0 0 ++ bytesLe 2 part.length ++ bytesLe 2 (all.length - off.toNat - part.length) ++ part)
  | .challenge slot =>
    if k.stage < 3 then s.spdmError c 4
    else if slot ≠ 0 then s.spdmError c 1
    else
      let r := s.freshBytes 32
      r.1.spdmSigned c (spdmHdr 0x03 0 1 ++ bytesLe 48 (Config.chainDigest 0 (s.trust.meas.get 0 2)) ++ r.2 ++
        (List.range 9).flatMap (fun i => s.measDigest (i + 1)) ++ bytesLe 2 0)
  | .measurements index sign =>
    let i := index.toNat
    if k.stage < 3 then s.spdmError c 4
    else if 9 < i ∧ i ≠ 0xFF then s.spdmError c 1
    else
      let ks := if i = 0 then [] else if i = 0xFF then (List.range 9).map (· + 1) else [i]
      let blocks := ks.flatMap s.measBlock
      let r := s.freshBytes 32
      let b := spdmHdr 0x60 (if i = 0 then 9 else 0) 0 ++ [ks.length] ++ bytesLe 3 blocks.length ++ blocks ++ r.2 ++ bytesLe 2 0
      if sign then r.1.spdmSigned c b else r.1.spdmSend c b
  | .keyExchange slot =>
    if k.stage < 3 then s.spdmError c 4
    else if slot ≠ 0 then s.spdmError c 1
    else
      let r := s.freshBytes 130
      (r.1.setConn c { r.1.conn c with session := 1, updates := 0 }).spdmSigned c (spdmHdr 0x64 0 0 ++ r.2)
  | .pqCert off len =>
    if k.stage < 3 then s.spdmError c 4
    else s.spdmSend c (vendorResponse (((s.chain 1).drop off.toNat).take len.toNat))
  | .pqSig => match k.pqSig with
    | none => s.spdmError c 4
    | some n => s.spdmSend c (vendorResponse (bytesLe 3309 (Config.free n)))

/-- The responder runs: the firmware does, and the cores are not halted. -/
def State.spdmUp (s : State) : Bool := s.odServed && !s.trust.halted

def execGetVersion (c : Fin 5) (s : State) : Res := if s.spdmUp then .next (s.spdmServe c.val .version) else .next s
def execGetCapabilities (c : Fin 5) (limit : BitVec 32) (s : State) : Res :=
  if s.spdmUp then .next (s.spdmServe c.val (.capabilities limit)) else .next s
def execNegotiateAlgorithms (c : Fin 5) (ok : Bool) (s : State) : Res :=
  if s.spdmUp then .next (s.spdmServe c.val (.algorithms ok)) else .next s
def execGetDigests (c : Fin 5) (s : State) : Res := if s.spdmUp then .next (s.spdmServe c.val .digests) else .next s
def execGetCertificate (c : Fin 5) (slot : BitVec 8) (off len : BitVec 16) (s : State) : Res :=
  if s.spdmUp then .next (s.spdmServe c.val (.certificate slot off len)) else .next s
def execChallenge (c : Fin 5) (slot : BitVec 8) (s : State) : Res :=
  if s.spdmUp then .next (s.spdmServe c.val (.challenge slot)) else .next s
def execGetMeasurements (c : Fin 5) (index : BitVec 8) (sign : Bool) (s : State) : Res :=
  if s.spdmUp then .next (s.spdmServe c.val (.measurements index sign)) else .next s
def execKeyExchange (c : Fin 5) (slot : BitVec 8) (s : State) : Res :=
  if s.spdmUp then .next (s.spdmServe c.val (.keyExchange slot)) else .next s
def execFinish (c : Fin 5) (ok : Bool) (s : State) : Res := if s.spdmUp then .next (s.spdmServe c.val (.finish ok)) else .next s
def execKeyUpdate (c : Fin 5) (op : BitVec 8) (s : State) : Res :=
  if s.spdmUp then .next (s.spdmServe c.val (.keyUpdate op)) else .next s
def execHeartbeat (c : Fin 5) (s : State) : Res := if s.spdmUp then .next (s.spdmServe c.val .heartbeat) else .next s
def execEndSession (c : Fin 5) (s : State) : Res := if s.spdmUp then .next (s.spdmServe c.val .endSession) else .next s
def execGetPqCert (c : Fin 5) (off : BitVec 32) (len : BitVec 16) (s : State) : Res :=
  if s.spdmUp then .next (s.spdmServe c.val (.pqCert off len)) else .next s
def execGetPqSig (c : Fin 5) (s : State) : Res := if s.spdmUp then .next (s.spdmServe c.val .pqSig) else .next s

/-- CHUNK_SEND: a chunk of a large request; behind the last one the request that they make up, `q`, is answered (R362). -/
def execChunkSend (c : Fin 5) (data : List (BitVec 8)) (last : Bool) (q : SpdmReq) (s : State) : Res :=
  if !s.spdmUp then .next s
  else
    let k := s.conn c.val
    let s := (s.setConn c.val { k with chunkIn := if last then [] else k.chunkIn ++ data.map (·.toNat) }).emit .spdm c.val 0x05
      (spdmHdr 0x05 0 0)
    .next (if last then s.spdmServe c.val q else s)

/-- CHUNK_GET: the next chunk of a large response (R362). -/
def execChunkGet (c : Fin 5) (s : State) : Res :=
  if !s.spdmUp then .next s
  else
    let k := s.conn c.val
    if k.chunkOut.isEmpty then .next (s.spdmError c.val 4)
    else
      let n := k.xfer - 16
      let last := decide (k.chunkOut.length ≤ n)
      .next ((s.setConn c.val { k with chunkOut := k.chunkOut.drop n }).emit .spdm c.val 0x06
        (spdmHdr 0x06 (b2n last) k.handle ++ bytesLe 4 (min n k.chunkOut.length) ++ k.chunkOut.take n))

/-! ### IDE keys (R325, R365) -/

/-- IDE_KM on the DOE mailbox of a port, inside its secured session (R365). -/
def execIdeKm (port : Fin 2) (m : IdeKm) (s : State) : Res :=
  let p := port.val
  if !s.spdmUp || (s.conn (3 + p)).session ≠ 2 then .next s
  else
    let set := fun (i v : Nat) => ({ s with trust := { s.trust with ide := s.trust.ide.set 0 (3 * p + i) v } } : State)
    let flag := fun (s : State) => s.setReg F.HP_LINK_IDE (b2n ((List.range 3).any (fun i => s.trust.ide.get 0 (3 * p + i) = 2))) p
    .next (match m with
      | .query => s.emit .spdm (3 + p) 1 [p, 3]
      | .keyProg i => (flag (set i.val (max 1 (s.trust.ide.get 0 (3 * p + i.val))))).emit .spdm (3 + p) 3 [i.val, 0]
      | .setGo i => if s.trust.ide.get 0 (3 * p + i.val) = 0 then s.emit .spdm (3 + p) 6 [i.val]
        else (flag (set i.val 2)).emit .spdm (3 + p) 6 [i.val]
      | .setStop i => (flag (set i.val (min 1 (s.trust.ide.get 0 (3 * p + i.val))))).emit .spdm (3 + p) 6 [i.val])

/-! ### Owner commands (R361, R367, R368) -/

/-- The slot is ACTIVE and has a role. -/
def State.hasRole (s : State) (k role : Nat) : Bool := (s.slotOwner k).state = 1 && bitOf (s.slotOwner k).roles role
/-- Every slot is EMPTY. -/
def State.unowned (s : State) : Bool := (List.range 4).all (fun k => (s.slotOwner k).state = 0)

/-- The command is for this module and is no replay. -/
def State.ownerFresh (s : State) (a : OwnerAuth) : Bool :=
  a.sigOk && decide (a.devKey.toNat = s.fuse.devKey) && decide (a.ctr.toNat = s.trust.ctr)
/-- The command is signed by an ACTIVE slot with OWNER. -/
def State.ownerOk (s : State) (a : OwnerAuth) : Bool := s.ownerFresh a && s.hasRole a.signer.val 0

/-- BC_OWNER_CMD shows a command. -/
def State.ownerCmd (s : State) (a : OwnerAuth) (status op : Nat) : State :=
  (s.cmd F.BC_OWNER_CMD_STATUS F.BC_OWNER_CMD_OP status op).setReg F.BC_OWNER_CMD_STAGE a.stage.toNat

/-- The command is refused. -/
def State.ownerDenied (s : State) (a : OwnerAuth) (op : Nat) : State :=
  ((s.ownerCmd a 2 op).setReg F.BC_TRUST_STATUS_FAIL Code.trustOwnerDenied).moduleFault 6 Code.trustOwnerDenied 0 op false

/-- The command is accepted: the counter increases, and block 7 changes (R364, R368). -/
def State.ownerDone (s : State) (a : OwnerAuth) (op : Nat) : State :=
  ({ s with trust := { s.trust with ctr := (s.trust.ctr + 1) % 2 ^ 64 } } : State).ownerCmd a 0 op |>.remeasure 7

/-- A slot changed: its record is written to flash with a new MAC (R367). -/
def State.setOwner (s : State) (k : Nat) (x : OwnerSlot) : State :=
  { s with trust := { s.trust with
    slots := s.trust.slots.set OwnerSlot.zero k x
    badSlots := s.trust.badSlots.filter (fun j => j ≠ k) } }

/-- TAKE; `keys` is the digest of the public keys that it carries (R368). -/
def execTake (a : OwnerAuth) (keys : BitVec 384) (s : State) : Res :=
  if s.unowned && s.crocus && s.ownerFresh a then .next ((s.setOwner 0 ⟨1, keys.toNat, 7⟩).ownerDone a 1)
  else .next (s.ownerDenied a 1)

/-- SET_SLOT (R368). -/
def execSetSlot (a : OwnerAuth) (k : Fin 4) (keys : BitVec 384) (roles : BitVec 3) (s : State) : Res :=
  let lastOwner := s.hasRole k.val 0 && !(List.range 4).any (fun j => j ≠ k.val && s.hasRole j 0)
  if !s.ownerOk a || (lastOwner && !bitOf roles.toNat 0) then .next (s.ownerDenied a 2)
  else .next ((s.setOwner k.val ⟨1, keys.toNat, roles.toNat⟩).ownerDone a 2)

/-- REVOKE (R368). -/
def execRevoke (a : OwnerAuth) (k : Fin 4) (s : State) : Res :=
  if !s.ownerOk a then .next (s.ownerDenied a 3)
  else .next ((s.setOwner k.val { s.slotOwner k.val with state := 2 }).ownerDone a 3)

/-- ADVANCE_SVN: each component's fused minimum rises to the SVN that runs (R361). -/
def execAdvanceSvn (a : OwnerAuth) (s : State) : Res :=
  if !s.ownerOk a then .next (s.ownerDenied a 4)
  else
    let n := s.trust.svn.foldl (fun n e => max n (e.1 + 1)) s.fuse.minSvn.length
    let mins := (List.range n).map (fun k => max (s.fuse.minSvn.getD k 0) (s.trust.svn.get 0 k))
    .next (({ s with fuse := { s.fuse with minSvn := mins } } : State).ownerDone a 4)

/-- RELEASE: everything is zeroized, with the logbook's tenant records, and every slot becomes EMPTY (R368, R372). -/
def execRelease (a : OwnerAuth) (s : State) : Res :=
  if !s.ownerOk a then .next (s.ownerDenied a 5)
  else
    let s := s.debugWipe
    .next (({ s with tenant := 0, trust := { s.trust with slots := [], badSlots := [] } } : State).ownerDone a 5)

/-! ### Sealed sessions (R375 to R377) -/

/-- BC_SEAL_CMD shows a command. -/
def State.sealCmd (s : State) (status op i : Nat) (stage : Nat) : State :=
  ((s.cmd F.BC_SEAL_CMD_STATUS F.BC_SEAL_CMD_OP status op).setReg F.BC_SEAL_CMD_SESSION i).setReg F.BC_SEAL_CMD_STAGE stage

/-- A session's offer that has not expired. -/
def State.offerOf (s : State) (i : Nat) : Option Nat :=
  match (s.ldg.sess i).offer with
  | some o => if s.ref < o.ends then some o.id else none
  | none => none

/-- The measurement digest of an offer: SHA-384 of blocks 1 to 9 in index order (R375). -/
def State.measAll (s : State) : List Nat := sha384 ((List.range 9).flatMap (fun i => s.measBlock (i + 1)))

/-- Bytes 0x000 to 0x51F of an offer (R375). -/
def State.offerHead (s : State) (i id nonce xpriv kem : Nat) : List Nat :=
  bytesLe 4 0x52464F53 ++ bytesLe 2 i ++ [s.tenant % 256, 0] ++ bytesLe 8 id ++ bytesLe 32 nonce ++ s.measAll ++
    bytesLe 32 (Config.xPublic xpriv) ++ bytesLe 1184 (Config.kemPublic kem)

/-- Bytes written to the staging area. -/
def State.stageBytes (s : State) (b : Nat) (l : List Nat) : State :=
  { s with staging := SMap.setList 0 s.staging b (l.map (BitVec.ofNat 8)) }

/-- OFFER: the 4,688 bytes of R375 at a staging offset. NONCE, the ephemeral private keys and the two signatures are free
(assumption 3). -/
def execOffer (i : Fin 4096) (stage : BitVec 30) (s : State) : Res :=
  let b := 64 * stage.toNat
  let x := s.ldg.sess i.val
  if x.state ≠ 0 || (s.offerOf i.val).isSome || decide (s.stagingSize < b + 4688) || s.stackReset then
    .next (s.sealCmd 2 1 i.val stage.toNat)
  else
    let id := s.trust.offerId
    let nonce := s.fresh
    let xpriv := nonce.2.fresh
    let kem := xpriv.2.fresh
    let sig := kem.2.freshBytes 3373
    let head := s.offerHead i.val id nonce.1 xpriv.1 kem.1
    let s := sig.1.stageBytes b (head ++ sig.2 ++ [0, 0, 0])
    .next (({ s with
      trust := { s.trust with offerId := id + 1 }
      ldg := s.ldg.upd i.val (fun x => { x with offer := some ⟨id, s.ref + 6000000000, head, xpriv.1, kem.1⟩ }) } : State).sealCmd
        0 1 i.val stage.toNat)

/-- The keys that an open agrees on with its offer, and the open's confirm bytes: the module's and as sent (R375, R376). -/
def Offer.agree (o : Offer) (open_ : List Nat) : List Nat × Bool :=
  let ss := bytesLe 32 (Config.xShared o.xpriv ((open_.drop 0x10).take 32)) ++
    bytesLe 32 (Config.kemShared o.kem ((open_.drop 0x30).take 1088))
  let th := sealTH o.head open_
  let okm := sealOkm ss ((o.head.drop 0x10).take 32) th
  (okm, hmac384 (sealKC okm) (sealClient ++ th) = (open_.drop 0x470).take 48)

/-- The 64 bytes of the acknowledgement (R375). -/
def Offer.ack (o : Offer) (open_ okm : List Nat) : List Nat :=
  bytesLe 4 0x4B434153 ++ bytesLe 4 0 ++ bytesLe 8 o.id ++ hmac384 (sealKC okm) (sealDevice ++ sealTH o.head open_)

/-- The open that the staging area holds. -/
def State.openAt (s : State) (b : Nat) : List Nat := (SMap.getList 0 s.staging b 1184).map (·.toNat)

/-- The keys of an open that is accepted: its OFFER_ID is that of the pending offer, which has not expired, the session is still
FREE, and the client confirm verifies (R377). -/
def State.openKeys (s : State) (i b : Nat) : Option (Offer × List Nat) :=
  match (s.ldg.sess i).offer with
  | none => none
  | some o =>
    let a := o.agree (s.openAt b)
    if (s.offerOf i).isSome && leAt (s.openAt b) 8 8 = o.id && (s.ldg.sess i).state = 0 && decide (b + 1184 ≤ s.stagingSize) &&
      !s.stackReset && a.2 then some (o, a.1) else none

/-- OPEN (R377): the session is sealed, or the offer is erased. -/
def execOpen (i : Fin 4096) (stage : BitVec 30) (ups : List (Addr × Upset)) (s : State) : Res :=
  let b := 64 * stage.toNat
  let s := s.upsets ups
  match s.openKeys i.val b with
  | some (o, okm) =>
    let s := s.stageBytes b (o.ack (s.openAt b) okm)
    .next (({ s with
      ldg := s.ldg.upd i.val (fun x => { x with offer := none, key := okm, sealedRecs := 0, wasSealed := false }) } : State).sealCmd
        0 2 i.val stage.toNat)
  | none =>
    let s := { s with ldg := s.ldg.upd i.val (fun x => { x with offer := none, lastErr := Code.trustSealAuth }) }
    .next (((s.sealCmd 2 2 i.val stage.toNat).setReg F.BC_TRUST_STATUS_FAIL Code.trustSealAuth).moduleFault 6 Code.trustSealAuth 0
      i.val false)

/-- ABANDON (R377). -/
def execAbandon (i : Fin 4096) (s : State) : Res :=
  .next (({ s with ldg := s.ldg.upd i.val (fun x => { x with offer := none }) } : State).sealCmd 0 3 i.val 0)

/-- OFFER_EXPIRY (R377). -/
def execOfferExpiry (i : Fin 4096) (s : State) : Res :=
  if (s.offerOf i.val).isSome then .next s
  else .next { s with ldg := s.ldg.upd i.val (fun x => { x with offer := none }) }

/-! ### Debug (R381, R382) -/

/-- BC_DBG_CMD shows a command. -/
def State.dbgCmd (s : State) (status op stage : Nat) : State :=
  (s.cmd F.BC_DBG_CMD_STATUS F.BC_DBG_CMD_OP status op).setReg F.BC_DBG_CMD_STAGE stage

/-- The nonce of BC_DBG_CHAL. -/
def State.setNonce (s : State) (v : Nat) : State :=
  (List.range 4).foldl (fun s k => s.setReg F.BC_DBG_CHAL_NONCE (v / 2 ^ (64 * k) % 2 ^ 64) 0 k) s
def State.nonce (s : State) : Nat :=
  (List.range 4).foldl (fun n k => n + s.reg F.BC_DBG_CHAL_NONCE 0 k * 2 ^ (64 * k)) 0

/-- DEBUG_CHALLENGE: a random nonce (R381). -/
def execDebugChallenge (s : State) : Res :=
  let r := s.fresh
  .next ((({ r.2 with trust := { r.2.trust with nonceEnd := some (s.ref + 30000000000) } } : State).setNonce (r.1 % 2 ^ 256)).dbgCmd 0 1 0)

/-- The nonce is used up or expires. -/
def State.dropNonce (s : State) : State := ({ s with trust := { s.trust with nonceEnd := none } } : State).setNonce 0

/-- Whether a token authorises an unlock (R381). -/
def State.tokenOk (s : State) (t : DebugToken) : Bool :=
  let live := match s.trust.nonceEnd with
    | some e => decide (s.ref < e)
    | none => false
  let signed := match t.signer with
    | some k => s.hasRole k.val 2
    | none => s.unowned
  !s.trust.locked && live && t.sigOk && signed && decide (t.nonce.toNat = s.nonce) && decide (t.devKey.toNat = s.fuse.devKey) &&
    decide (1 ≤ t.life.toNat ∧ t.life.toNat ≤ 86400)

/-- The failed UNLOCKs of the last hour. -/
def State.recentFails (s : State) : List Nat := s.trust.fails.filter (fun t => decide (s.ref < t + 360000000000))

/-- UNLOCK: on success zeroization, block 8 and the DBG reset come before any scope opens (R381, R382). -/
def execUnlock (t : DebugToken) (s : State) : Res :=
  let ok := s.tokenOk t
  let s := s.dropNonce
  if ok then
    let s := (s.debugWipe.remeasure 8).resetReq 5 5 (s.sourceLevel 5) true 0
    let s := { s with trust := { s.trust with unlockEnd := some (s.ref + 100000000 * t.life.toNat) } }
    .next (((s.setReg F.BC_DBG_CMD_SCOPE t.scope.toNat).setReg F.BC_TRUST_STATUS_DEBUG 1).dbgCmd 0 2 t.stage.toNat)
  else
    let fails := s.ref :: s.recentFails
    let s := { s with trust := { s.trust with fails := fails, locked := s.trust.locked || decide (5 ≤ fails.length) } }
    .next (((s.dbgCmd 2 2 t.stage.toNat).setReg F.BC_TRUST_STATUS_FAIL Code.trustDebugDenied).moduleFault 6 Code.trustDebugDenied 0 0
      false)

/-- RELOCK (R382). -/
def execRelock (s : State) : Res :=
  .next ((if s.reg F.BC_TRUST_STATUS_DEBUG = 1 then s.relock else s).dbgCmd 0 3 0)

/-- UNLOCK_EXPIRY (R382). -/
def execUnlockExpiry (s : State) : Res :=
  match s.trust.unlockEnd with
  | some e => if e ≤ s.ref then .next s.relock else .next s
  | none => .next s

/-- DEBUG_NONCE_EXPIRY (R381). -/
def execDebugNonceExpiry (s : State) : Res :=
  match s.trust.nonceEnd with
  | some e => if e ≤ s.ref then .next s.dropNonce else .next s
  | none => .next s

end Sys2Proof.Machine
end

