-- ==== Sys2Proof/Machine/Registers.lean ====
section
/-!
DEFINITION. Sys2Proof/Machine/Registers.lean: what the registers and the ledger read as, and the writes that have no row of their
own (spec 00_scope R10 to R15, 10_host R329 to R332, 14_reset R444, R445).
-/

namespace Sys2Proof.Machine

/-! ### Registers that show other state -/

/-- The mode in force of the seal engine and of the debug network (R462, R463). -/
def State.moduleGate (s : State) : Nat :=
  let m := s.reg F.CLK_GATE_MODE
  let on := fun (k : Nat) => if bits m (2 * k) 2 = 3 then 0 else bits m (2 * k) 2
  let sealing := s.pendingImg.isSome || s.ldg.sessions.any (fun e => e.2.key ≠ [])
  (if on 0 = 2 ∧ sealing = true then 0 else on 0) + 4 * on 1

/-- Skipped rows or columns, one byte each, 0xFF unused (R491). -/
def skipBytes (l : List Nat) : Nat := leNat ((l ++ [0xFF, 0xFF, 0xFF, 0xFF]).take 4)

/-- Logical rows of a field by the number of their free spares, as a test says (R482). -/
def State.rowsWith (s : State) (f : Nat) (p : Nat → Bool) : Nat :=
  ((List.range 128).filter (fun ly => p (s.freeSpares f (physOf (s.crev f).rows ly)).length)).length

/-- The module applies spread spectrum (R457). -/
def State.spreads (s : State) : Bool := (!s.inRope || s.isAnchor) && s.odEff 0x2110 1 ≠ 0

/-- The entry that FLT_CPER_SEL selects, as a record (R503). -/
def State.cperShown (s : State) : List Nat :=
  match s.entrySeq (s.reg F.FLT_CPER_SEL_SEQ) with
  | some e => e.cper
  | none => []

/-- A field of BAR0 as it reads through a port: the stored value, or what other state shows. -/
def State.barField (s : State) (f : Fld) (i j : Nat) : Nat :=
  let mask := fun (st : Nat) => (List.range 4).foldl (fun n k => n + if (s.slotOwner k).state = st then 2 ^ k else 0) 0
  if f = F.FLD_SEC_MODE then s.mode i
  else if f = F.FLD_SEC_ACYC then (if (s.field i).live then
      (if (s.field i).stopped then (s.field i).stopAcyc else s.acyc) - (s.field i).secStart else 0)
  else if f = F.HX_STATUS_CONTRACT then s.contract i
  else if f = F.HX_STATUS_SHORT then b2n (s.short i)
  else if f = F.BC_ROPE_ACYC_ACYC then s.acyc
  else if f = F.HP_LEASE_REMAIN then
    (let e := s.ldg.lease.get 0 i
     if e ≤ s.ref + 1 then 0 else min (2 ^ 30 - 1) ((e - 1 - s.ref + 99999) / 100000))
  else if f = F.LDG_STATUS_ACTIVE then
    (s.ldg.sessions.map (fun e => (e.2.active.filter (fun r => !e.2.over r.seqNo)).length)).foldl (· + ·) 0
  else if f = F.LDG_STATUS_OPEN then (s.ldg.sessions.filter (fun e => e.2.state ≠ 0)).length
  else if f = F.LDG_STATUS_MODE then s.od 0x7000 3 % 2
  else if f = F.LDG_STATUS_STATE then s.ldg.state
  else if f = F.LDG_JRNL_FREE then (2 * journalSize - 2 * s.ldg.units) / 16384
  else if f = F.LDG_JRNL_JSEQ then s.ldg.jseq
  else if f = F.BC_TRUST_STATUS_SLOTS then mask 1
  else if f = F.BC_TRUST_STATUS_REVOKED then mask 2
  else if f = F.BC_TRUST_STATUS_TENANT then s.tenant
  else if f = F.BC_TRUST_STATUS_PROV then b2n s.fuse.provisioned
  else if f = F.BC_TRUST_ID_DEVKEY then s.fuse.devKey
  else if f = F.BC_OWNER_CTR_COUNT then s.trust.ctr
  else if f = F.BC_DBG_CMD_REMAIN then (match s.trust.unlockEnd with
    | some e => (e - s.ref + 99999999) / 100000000
    | none => 0)
  else if f = F.BC_DBG_CMD_FAILS then min 7 s.recentFails.length
  else if f = F.BC_ID_STEPPING then s.fuse.stepping
  else if f = F.BC_ID_VARIANT then s.fuse.variant
  else if f = F.RST_LEVELS_CEIL then (List.range 8).foldl (fun n k => n + s.fuse.ceilings.getD k 0 % 8 * 8 ^ k) 0
  else if f = F.RST_LEVELS_LEVEL then (List.range 8).foldl (fun n k => n + s.sourceLevel k % 8 * 8 ^ k) 0
  else if f = F.CLK_DIV_FLOOR then s.divFloor
  else if f = F.CLK_SSC_FREQ then s.odEff 0x2110 2
  else if f = F.CLK_SSC_ACTIVE then b2n s.spreads
  else if f = F.CLK_SSC_DEPTH then (if s.spreads then s.odEff 0x2110 1 else 0)
  else if f = F.CLK_GATE_EFF then s.moduleGate
  else if f = F.FLD_GATE_EFF then s.gateEff i 0 + 4 * s.gateEff i 1 + 16 * s.gateEff i 2
  else if f = F.PWR_BOR_LEVEL then 10 * s.odEff 0x2400 1
  else if f = F.FLT_CPER_SEL_VALID then b2n (s.entrySeq (s.reg F.FLT_CPER_SEL_SEQ)).isSome
  else if f = F.FLT_CPER_DATA then leAt s.cperShown (8 * j) 8
  else if f = F.FLD_BLY_ROWS2 then s.rowsWith i (fun n => decide (2 ≤ n))
  else if f = F.FLD_BLY_ROWS1 then s.rowsWith i (fun n => n = 1)
  else if f = F.FLD_BLY_ROWS0 then s.rowsWith i (fun n => n = 0)
  else if f = F.FLD_BLY_INTERVAL then s.belayInterval
  else if f = F.FLD_CREV_ROWS then skipBytes (s.crev i).rows
  else if f = F.FLD_CREV_COLS then skipBytes (s.crev i).cols
  else if f = F.TEL_HIST_I then
    (List.range 4).foldl (fun n k => n + s.histShown.getD (4 * j + k) 0 % 65536 * 65536 ^ k) 0
  else if f = F.TEL_TIME_REF then s.ref
  else if f = F.SVY_SEL_EN && j = 2 then 1
  else if f = F.SVY_SEL_TARGET && j = 2 then s.od 0x4020 1
  else s.reg f i j

/-! ### Where a BAR0 offset leads -/

/-- The register at an offset, as a port reaches it; fields and ports that the module lacks hold none (R225, R329). -/
def State.findBar (s : State) (port off : Nat) : Option (RegDef × Nat × Nat) :=
  let a := off / 8 * 8
  let a := if a / 0x1000 = 0x80 then a + 0x10000000 * port else a
  match findReg bar0RegTable a with
  | none => none
  | some (r, i, j) =>
    if 0x100000 ≤ r.base ∧ r.base < 0x200000 then (if s.present i then some (r, i, j) else none)
    else if 0xC0000 ≤ r.base ∧ r.base < 0xD8000 then (if i < s.nPorts then some (r, i, j) else none)
    else some (r, i, j)

/-- A register is in reset: the level in force for its block, or its field, is at or above its domain (R444). -/
def State.regInReset (s : State) (r : RegDef) (i : Nat) : Bool :=
  if 0x100000 ≤ r.base ∧ r.base < 0x200000 then s.inReset i && decide (r.dom ≤ s.fieldLevel i)
  else s.rst.active && s.rst.all && decide (r.dom ≤ s.rst.level ∧ s.rst.step < firstStep r.dom)

/-- The registers of the 4 KiB page of an offset, each with its first index. -/
def pageRegs (off : Nat) : List (RegDef × Nat) :=
  (List.range 512).filterMap (fun k => (findReg bar0RegTable (off / 4096 * 4096 + 8 * k)).map (fun x => (x.1, x.2.1)))

/-- An offset that holds no register lies in a block held in reset: every register of its 4 KiB page is in reset (R15, R445;
assumption 68). -/
def State.holeInReset (s : State) (off : Nat) : Bool :=
  let l := pageRegs off
  !l.isEmpty && l.all (fun x => s.regInReset x.1 x.2)

/-- The 64 bits that a register shows, or that the MSI-X structures of the port hold there (R11, R12, R15, R330). -/
def State.barWord (s : State) (port off : Nat) : Word :=
  if 0xA0000 ≤ off ∧ off < 0xA0400 then BitVec.ofNat 64 (leNat ((List.range 8).map (fun k => s.msixByte port (off - 0xA0000 + k))))
  else if 0xA8000 ≤ off ∧ off < 0xA8008 then
    BitVec.ofNat 64 (leNat ((List.range 8).map (fun k => s.msixByte port (1024 + off - 0xA8000 + k))))
  else match s.findBar port off with
  | none => 0
  | some (r, i, j) => r.assemble (fun f => s.barField f i j)

/-- A read of BAR0: Completer Abort, counted, from a block held in reset, and the value otherwise (R15, R444, R445). -/
def State.barRead (s : State) (port off : Nat) : State × Option Word :=
  let shut := match s.findBar port off with
    | some (r, i, _) => s.regInReset r i
    | none => s.holeInReset off
  if shut then (s.satReg F.RST_ISO_HOST, none) else (s, some (s.barWord port off))

/-- The identity words of a port's configuration header, by offset (R326; the offsets are those of PCI Express, assumption 50):
device and vendor ID, class code and revision, subsystem and subsystem vendor ID. -/
def State.configWord (s : State) (off : Nat) : Nat :=
  if off = 0 then 0x9A00 * 65536 + 0x1FE7
  else if off = 8 then 0x120000 * 256 + s.fuse.stepping % 256
  else if off = 0x2C then s.ldg.subDevice * 65536 + s.ldg.subVendor
  else 0

/-! ### The ledger as BAR2 shows it (R332 to R334, R346) -/

/-- The ledger header. -/
def State.ledgerHeader (s : State) : List Nat :=
  if s.ldg.state = 0 then []
  else bytesLe 4 0x5247444C ++ bytesLe 2 1 ++ bytesLe 2 4096 ++ bytesLe 8 s.log.bootgen ++ bytesLe 4 (s.od 0x7000 1) ++
    bytesLe 4 (s.od 0x7000 2) ++ [s.od 0x7000 3 % 2, s.ldg.state] ++ List.replicate 6 0 ++ bytesLe 8 s.ldg.accepted ++
    bytesLe 8 s.ldg.released

/-- A session block. -/
def Session.block (x : Session) : List Nat :=
  [x.state, x.owner, x.rentry, x.tenant] ++ bytesLe 4 x.dups ++ bytesLe 8 x.nextSeq ++ bytesLe 8 x.doneSeq ++ bytesLe 8 x.rel ++
    bytesLe 8 x.dlv ++ bytesLe 4 x.gaps ++ bytesLe 4 x.badCrc ++ bytesLe 2 x.lastErr ++ List.replicate 14 0

/-- A byte of BAR2. -/
def State.bar2Byte (s : State) (off : Nat) : Nat :=
  if off < 0x1000 then s.ledgerHeader.getD off 0
  else if 0x5000 ≤ off ∧ off < 0x5200 then bits s.ldg.mapA (8 * (off - 0x5000)) 8
  else if 0x5200 ≤ off ∧ off < 0x5400 then bits s.ldg.mapB (8 * (off - 0x5200)) 8
  else if 0x6000 ≤ off ∧ off < 0x7000 ∧ 0x14 ≤ off % 32 ∧ off % 32 < 0x18 then
    bits (s.ldg.ring ((off - 0x6000) / 0x800) (off % 0x800 / 32)).prod (8 * (off % 32 - 0x14)) 8
  else if 0x7000 ≤ off ∧ off < 0x7080 ∧ 0x14 ≤ off % 64 ∧ off % 64 < 0x18 then
    bits (s.ldg.ring 2 ((off - 0x7000) / 64)).prod (8 * (off % 64 - 0x14)) 8
  else if 0x100000 ≤ off ∧ off < 0x140000 then (s.ldg.sess ((off - 0x100000) / 64)).block.getD (off % 64) 0
  else if (0x1000 ≤ off ∧ off < 0x7080) ∨ (0x1000000 ≤ off ∧ off < 0x5000000) then (s.ldg.mem.get 0 off).toNat
  else 0

/-! ### Writes -/

/-- The state that a command leaves. -/
def State.after (s : State) (r : Res) : State := match r with
  | .next t => t
  | _ => s

/-- An index as an operand. -/
def fin48 (i : Nat) : Fin 48 := ⟨i % 48, Nat.mod_lt _ (by decide)⟩
def fin6 (i : Nat) : Fin 6 := ⟨i % 6, Nat.mod_lt _ (by decide)⟩
def fin2 (i : Nat) : Fin 2 := ⟨i % 2, Nat.mod_lt _ (by decide)⟩

/-- An owner command written to BC_OWNER_CMD. The layout of the signed command in the staging area is not stated, and whether its
signatures verify is not the register's: both are free (assumption 68). -/
def State.ownerWrite (s : State) (op v : Nat) : Res :=
  let a : OwnerAuth := { Config.ownerAuth s.free with stage := BitVec.ofNat 30 (v / 2 ^ 4) }
  let keys := s.fresh
  let slot := keys.2.fresh
  let k : Fin 4 := ⟨slot.1 % 4, Nat.mod_lt _ (by decide)⟩
  match op with
  | 1 => execTake a (BitVec.ofNat 384 keys.1) slot.2
  | 2 => execSetSlot a k (BitVec.ofNat 384 keys.1) (BitVec.ofNat 3 (slot.1 / 4)) slot.2
  | 3 => execRevoke a k slot.2
  | 4 => execAdvanceSvn a slot.2
  | _ => execRelease a slot.2

/-- INSTALL written to BC_IMG_CMD: whether the container verifies and unwraps, and its plaintext, are free (assumption 68). -/
def State.installWrite (s : State) (v : Nat) : Res :=
  let r := s.fresh
  execInstall (BitVec.ofNat 48 (v / 2 ^ 8)) (bitOf r.1 0) (bitOf r.1 1) (bitOf r.1 2) (Config.plaintext s.free) r.2

/-- UNLOCK written to BC_DBG_CMD: the layout of the token is not stated, and what it holds is free (assumption 68). -/
def State.unlockWrite (s : State) (v : Nat) : Res :=
  execUnlock { Config.debugToken s.free with stage := BitVec.ofNat 28 (v / 2 ^ 4) } s.fresh.2

/-- An OP of a command register: the command of its row, with what no register holds free. -/
def State.opWrite (s : State) (base port i v : Nat) : Res :=
  let f := fin48 i
  let p := fin6 i
  let h := fin2 port
  match base, v % 16 with
  | 0x218, 1 => s.installWrite v
  | 0x218, 2 => execRemove s
  | 0x300, 1 => execForm (bitOf v 31) (BitVec.ofNat 15 (v / 2 ^ 16)) s
  | 0x300, 2 => execStop s
  | 0x300, 3 => execLeave s
  | 0x410, 1 => execOffer ⟨v / 2 ^ 46 % 4096, Nat.mod_lt _ (by decide)⟩ (BitVec.ofNat 30 (v / 2 ^ 16)) s
  | 0x410, 2 => execOpen ⟨v / 2 ^ 46 % 4096, Nat.mod_lt _ (by decide)⟩ (BitVec.ofNat 30 (v / 2 ^ 16)) [] s
  | 0x410, 3 => execAbandon ⟨v / 2 ^ 46 % 4096, Nat.mod_lt _ (by decide)⟩ s
  | 0x418, op => s.ownerWrite op v
  | 0x428, 1 => execDebugChallenge s
  | 0x428, 2 => s.unlockWrite v
  | 0x428, 3 => execRelock s
  | 0x10, 1 => execTestStandby s
  | 0x10, 2 => execSwap s
  | 0x10010, 1 => execReset (BitVec.ofNat 4 (v / 2 ^ 48)) (bitOf v 55) s
  | 0x10010, 2 => execHold (BitVec.ofNat 4 (v / 2 ^ 48)) (bitOf v 55) s
  | 0x10010, 3 => execRstRelease s
  | 0x30010, 1 => execClearTrip s
  | 0x40020, 1 => execRetest (BitVec.ofNat 11 (v / 2 ^ 37)) (BitVec.ofNat 10 (v / 2 ^ 27)) s
  | 0x40020, 2 => execMarkDead (BitVec.ofNat 11 (v / 2 ^ 37)) (BitVec.ofNat 10 (v / 2 ^ 27)) s
  | 0x40020, 3 => execClearReplan (fin48 (v / 2 ^ 48 % 64)) s
  | 0x60000, 1 => execOdRead h (BitVec.ofNat 16 (v / 2 ^ 32)) (BitVec.ofNat 8 (v / 2 ^ 24)) s
  | 0x60000, 2 => execOdWrite h (BitVec.ofNat 16 (v / 2 ^ 32)) (BitVec.ofNat 8 (v / 2 ^ 24)) (BitVec.ofNat 12 (v / 2 ^ 12)) s
  | 0x60000, 3 => execOdNext h (BitVec.ofNat 16 (v / 2 ^ 32)) (BitVec.ofNat 8 (v / 2 ^ 24)) s
  | 0x80010, 1 => execRenew h s
  | 0x80010, 2 => execClaim h s
  | 0x80010, 3 => execClaimAll h s
  | 0xC0008, 1 => execTrain p s
  | 0xC0008, 2 => execHoldDown p s
  | 0xC0008, 3 => execRetrain p s
  | 0x100010, 1 => execHoldOut f s
  | 0x100010, 2 => execReturn f s
  | 0x100308, 1 => execStartPass f s
  | 0x100308, 2 => execFull f s
  | 0x100308, 3 => execAbandonFull f s
  | 0x100800, 1 => execTelClear f s
  | _, _ => .next s

/-- The highest OP of a command register that a rule gives a meaning. -/
def lastOp (base : Nat) : Nat :=
  if base = 0x30010 ∨ base = 0x100800 then 1
  else if base = 0x218 ∨ base = 0x10 ∨ base = 0x100010 then 2
  else if base = 0x418 then 5 else 3

/-- The STATUS and OP fields of a command register. -/
def RegDef.cmdFields (r : RegDef) : Option (Fld × Fld) :=
  match r.flds.find? (fun f => f.acc = .cmd && f.lo = 62), r.flds.find? (fun f => f.acc = .cmd && f.lo = 0 && f.w = 4) with
  | some a, some b => some (a, b)
  | _, _ => none

/-- The fields of a command register read as last written, but for its status (R11). -/
def State.recordCmd (s : State) (r : RegDef) (i v : Nat) : State :=
  (r.flds.filter (fun f => f.acc = .cmd && f.lo < 62)).foldl (fun s f => s.setReg f (bits v f.lo f.w) i) s

/-- A write of an OP: 0 names no command, a reserved code is refused, any other is its row's command (R11). -/
def State.opTaken (s : State) (r : RegDef) (port i v : Nat) : State :=
  match r.cmdFields with
  | none => s
  | some (st, op) =>
    if v % 16 = 0 then (s.recordCmd r i v).cmd st op 0 0 i
    else if lastOp r.base < v % 16 then (s.recordCmd r i v).cmd st op 2 (v % 16) i
    else s.after (s.opWrite r.base port i v)

/-- A write of `n` bits from bit `lo` of a register, `v` holding them in place (R11, R12, R14). -/
def State.regWrite (s : State) (port : Nat) (r : RegDef) (i j v lo n : Nat) : State :=
  let plain := fun (s : State) => ({ s with regs := s.regs.writeFields r.flds i j (BitVec.ofNat 64 v) lo n } : State)
  let kBad := decide (v / 256 % 32 < 8 ∨ 20 < v / 256 % 32)
  if r.base = 0x2C0000 then (if j = port then plain s else s)
  else if 0x60000 ≤ r.base ∧ r.base < 0x61000 ∧ i ≠ port then s
  else if r.base = 0xC0000 then
    (if lo + n = 64 then
      (let s := s.after (execPortEnable (fin6 i) (bitOf v 63) s)
       s.after (execLoop (fin6 i) (bitOf v 62) s)) else s)
  else if r.base = 0x20000 then
    (let s := plain s
     s.after (execMrefSwitch ⟨v % 4, Nat.mod_lt _ (by decide)⟩ ⟨v / 2 ^ 4 % 8, Nat.mod_lt _ (by decide)⟩
       (BitVec.ofNat 3 (s.reg F.CLK_MREF_READY)) s))
  else if r.base = 0x20008 then (if lo + n = 64 then s.after (execHostreq (BitVec.ofNat 8 (v / 2 ^ 48)) s) else s)
  else if r.base = 0x50000 then
    (if lo = 0 then s.after (execTelHistSel ⟨v / 64 % 4, Nat.mod_lt _ (by decide)⟩ ⟨v % 64, Nat.mod_lt _ (by decide)⟩ s) else s)
  else if r.base = 0x50118 && lo = 0 && kBad then s.setReg F.TEL_CFG_EN (v % 2)
  else if r.base = 0x100800 && kBad then s.cmd F.FLD_TEL_CFG_STATUS F.FLD_TEL_CFG_OP 2 (v % 16) i
  else (plain s).opTaken r port i v

/-- A write to a port's MSI-X table: a vector that waits and is no longer masked is sent (R330). -/
def State.msixWrite (s : State) (port o : Nat) (b : List Nat) : State :=
  let data := b.zipIdx.map (fun x => BitVec.ofNat 8 x.1 ^^^ msixReset (o + x.2))
  let s : State := { s with ldg := { s.ldg with msix := SMap.setList 0 s.ldg.msix (2048 * port + o) data } }
  let v := o / 16
  let w := 2048 * port + 1024 + v / 8
  if bitOf (s.ldg.msix.get 0 w).toNat (v % 8) && s.msixByte port (16 * v + 12) % 2 = 0 then
    let old := (s.ldg.msix.get 0 w).toNat
    ({ s with ldg := { s.ldg with msix := s.ldg.msix.set 0 w (BitVec.ofNat 8 (old - 2 ^ (v % 8))) } } : State).signal port v
  else s

/-- A write of 8 or 4 aligned bytes to BAR0 (R10 to R15, R329, R330, R445). -/
def State.barWrite (s : State) (port o : Nat) (data : Nat) (wide : Bool) : State :=
  let n := if wide then 64 else 32
  let lo := if wide then 0 else 8 * (o % 8)
  let b := bytesLe (n / 8) data
  if o % (n / 8) ≠ 0 then s
  else if 0x200000 ≤ o ∧ o < 0x2C0000 then (s.surveyWrite ((o - 0x200000) / 0x40000) (o % 0x40000) b).1
  else if 0xA0000 ≤ o ∧ o < 0xA0400 then s.msixWrite port (o - 0xA0000) b
  else match s.findBar port o with
    | none => if s.holeInReset o then s.satReg F.RST_ISO_HOST else s
    | some (r, i, j) =>
      if s.regInReset r i then s.satReg F.RST_ISO_HOST
      else if !wide && r.flds.any (fun f => f.acc = .cmd || f.acc = .w1c) then s
      else s.regWrite port r i j (data % 2 ^ n * 2 ^ lo) lo n

/-- REGISTER_WRITE (R11 to R15). -/
def execRegisterWrite (port : Fin 2) (off : BitVec 25) (data : BitVec 64) (wide ideBad : Bool) (s : State) : Res :=
  if s.ideFails port.val ideBad then .next (s.ideDrop port.val)
  else .next (s.barWrite port.val off.toNat data.toNat wide)

end Sys2Proof.Machine
end

