-- ==== Sys2Proof/Machine/Dispatch.lean ====
section
/-!
DEFINITION. Sys2Proof/Machine/Dispatch.lean: one arm per command.
-/

namespace Sys2Proof.Machine

/-- The effect of a command on everything but the queue. -/
def exec (i : Instr) (s : State) : Host.Outcome State Fault Refusal :=
  match i with
  | .por latched => Sys2Proof.Machine.execPor latched s
  | .bor => Sys2Proof.Machine.execBor s
  | .brownOutWarning v => Sys2Proof.Machine.execBrownOutWarning v s
  | .brownOutClear => Sys2Proof.Machine.execBrownOutClear s
  | .pwrOverLimit total fields => Sys2Proof.Machine.execPwrOverLimit total fields s
  | .modResetNLow => Sys2Proof.Machine.execModResetNLow s
  | .modResetNHigh => Sys2Proof.Machine.execModResetNHigh s
  | .pwrEnLow => Sys2Proof.Machine.execPwrEnLow s
  | .pwrEnHigh leakLow => Sys2Proof.Machine.execPwrEnHigh leakLow s
  | .leakResponse => Sys2Proof.Machine.execLeakResponse s
  | .cltFlowLow => Sys2Proof.Machine.execCltFlowLow s
  | .flowLowTrip => Sys2Proof.Machine.execFlowLowTrip s
  | .flowPdoTimeout => Sys2Proof.Machine.execFlowPdoTimeout s
  | .cltRate => Sys2Proof.Machine.execCltRate s
  | .diodeSample temps => Sys2Proof.Machine.execDiodeSample temps s
  | .stepdownEscalate => Sys2Proof.Machine.execStepdownEscalate s
  | .thermalStageLeave stage => Sys2Proof.Machine.execThermalStageLeave stage s
  | .fieldReturn f => Sys2Proof.Machine.execFieldReturn f s
  | .clearTrip => Sys2Proof.Machine.execClearTrip s
  | .pwrRailFail rail f => Sys2Proof.Machine.execPwrRailFail rail f s
  | .railPowerGood good => Sys2Proof.Machine.execRailPowerGood good s
  | .fieldWake => Sys2Proof.Machine.execFieldWake s
  | .mrefSwitch src port ready => Sys2Proof.Machine.execMrefSwitch src port ready s
  | .mrefFail => Sys2Proof.Machine.execMrefFail s
  | .fieldPllUnlock f => Sys2Proof.Machine.execFieldPllUnlock f s
  | .modulePllUnlock link => Sys2Proof.Machine.execModulePllUnlock link s
  | .fieldPllLock f => Sys2Proof.Machine.execFieldPllLock f s
  | .rstReleaseStall f => Sys2Proof.Machine.execRstReleaseStall f s
  | .dividerStep => Sys2Proof.Machine.execDividerStep s
  | .hostreq v => Sys2Proof.Machine.execHostreq v s
  | .wdt => Sys2Proof.Machine.execWdt s
  | .stall f => Sys2Proof.Machine.execStall f s
  | .pairDisagree => Sys2Proof.Machine.execPairDisagree s
  | .bcpair => Sys2Proof.Machine.execBcpair s
  | .takeover => Sys2Proof.Machine.execTakeover s
  | .pairSelfTestDone k pass => Sys2Proof.Machine.execPairSelfTestDone k pass s
  | .testStandby => Sys2Proof.Machine.execTestStandby s
  | .swap => Sys2Proof.Machine.execSwap s
  | .reset level force => Sys2Proof.Machine.execReset level force s
  | .hold level force => Sys2Proof.Machine.execHold level force s
  | .rstRelease => Sys2Proof.Machine.execRstRelease s
  | .minHoldEnd => Sys2Proof.Machine.execMinHoldEnd s
  | .releaseStep ready sel => Sys2Proof.Machine.execReleaseStep ready sel s
  | .startupStage io => Sys2Proof.Machine.execStartupStage io s
  | .recoveryStatus => Sys2Proof.Machine.execRecoveryStatus s
  | .recoveryWrite off data => Sys2Proof.Machine.execRecoveryWrite off data s
  | .recoveryCommit w => Sys2Proof.Machine.execRecoveryCommit w s
  | .bloomCheck a good => Sys2Proof.Machine.execBloomCheck a good s
  | .firmwareUpdate off w => Sys2Proof.Machine.execFirmwareUpdate off w s
  | .sdoRequest frame => Sys2Proof.Machine.execSdoRequest frame s
  | .sdoTimeout udp => Sys2Proof.Machine.execSdoTimeout udp s
  | .udpDatagram source recs => Sys2Proof.Machine.execUdpDatagram source recs s
  | .dictRead i3c ix sub => Sys2Proof.Machine.execDictRead i3c ix sub s
  | .dictWrite i3c ix sub data => Sys2Proof.Machine.execDictWrite i3c ix sub data s
  | .dictNext i3c ix sub => Sys2Proof.Machine.execDictNext i3c ix sub s
  | .odRead port ix sub => Sys2Proof.Machine.execOdRead port ix sub s
  | .odWrite port ix sub len => Sys2Proof.Machine.execOdWrite port ix sub len s
  | .odNext port ix sub => Sys2Proof.Machine.execOdNext port ix sub s
  | .mgmt => Sys2Proof.Machine.execMgmt s
  | .nmtStart => Sys2Proof.Machine.execNmtStart s
  | .nmtStop => Sys2Proof.Machine.execNmtStop s
  | .enterPreOperational => Sys2Proof.Machine.execEnterPreOperational s
  | .resetNode => Sys2Proof.Machine.execResetNode s
  | .resetCommunication => Sys2Proof.Machine.execResetCommunication s
  | .nmtAutostart => Sys2Proof.Machine.execNmtAutostart s
  | .rpdo1 data => Sys2Proof.Machine.execRpdo1 data s
  | .tpdo1 outlet => Sys2Proof.Machine.execTpdo1 outlet s
  | .tpdo2 volts amps => Sys2Proof.Machine.execTpdo2 volts amps s
  | .producerHeartbeat => Sys2Proof.Machine.execProducerHeartbeat s
  | .flowDemand watts => Sys2Proof.Machine.execFlowDemand watts s
  | .save => Sys2Proof.Machine.execSave s
  | .load => Sys2Proof.Machine.execLoad s
  | .profileSwitchPending n => Sys2Proof.Machine.execProfileSwitchPending n s
  | .profileSwitchImmediate n => Sys2Proof.Machine.execProfileSwitchImmediate n s
  | .apply => Sys2Proof.Machine.execApply s
  | .standaloneTest ix ok tenant plain => Sys2Proof.Machine.execStandaloneTest ix ok tenant plain s
  | .burnIn ix secs d2 ok tenant plain => Sys2Proof.Machine.execBurnIn ix secs d2 ok tenant plain s
  | .install len sigOk unwrapOk tagOk plain => Sys2Proof.Machine.execInstall len sigOk unwrapOk tagOk plain s
  | .installCommit => Sys2Proof.Machine.execInstallCommit s
  | .remove => Sys2Proof.Machine.execRemove s
  | .holdOut f => Sys2Proof.Machine.execHoldOut f s
  | .return_ f => Sys2Proof.Machine.execReturn f s
  | .returnComplete f => Sys2Proof.Machine.execReturnComplete f s
  | .invocationIssue e start now ups => Sys2Proof.Machine.execInvocationIssue e start now ups s
  | .invocationStart streams => Sys2Proof.Machine.execInvocationStart streams s
  | .sectionSwitch => Sys2Proof.Machine.execSectionSwitch s
  | .armedStart a => Sys2Proof.Machine.execArmedStart a s
  | .bundleIssue a ups => Sys2Proof.Machine.execBundleIssue a ups s
  | .nextBufferWrite a => Sys2Proof.Machine.execNextBufferWrite a s
  | .vuResultLanding a => Sys2Proof.Machine.execVuResultLanding a s
  | .injectAvailable a => Sys2Proof.Machine.execInjectAvailable a s
  | .srdLanding a => Sys2Proof.Machine.execSrdLanding a s
  | .sldLanding a => Sys2Proof.Machine.execSldLanding a s
  | .wordArrival a port hop late => Sys2Proof.Machine.execWordArrival a port hop late s
  | .arm a => Sys2Proof.Machine.execArm a s
  | .halt a => Sys2Proof.Machine.execHalt a s
  | .scrub a => Sys2Proof.Machine.execScrub a s
  | .zeroize a => Sys2Proof.Machine.execZeroize a s
  | .scrubDone a ups => Sys2Proof.Machine.execScrubDone a ups s
  | .run a => Sys2Proof.Machine.execRun a s
  | .ccHalt a => Sys2Proof.Machine.execCcHalt a s
  | .restart a => Sys2Proof.Machine.execRestart a s
  | .ccDispatch a => Sys2Proof.Machine.execCcDispatch a s
  | .coreInstruction a => Sys2Proof.Machine.execCoreInstruction a s
  | .schCoreLockup a => Sys2Proof.Machine.execSchCoreLockup a s
  | .tsSend a => Sys2Proof.Machine.execTsSend a s
  | .tsReply a stuck => Sys2Proof.Machine.execTsReply a stuck s
  | .tsYield a => Sys2Proof.Machine.execTsYield a s
  | .tsCppost a => Sys2Proof.Machine.execTsCppost a s
  | .tsHget a => Sys2Proof.Machine.execTsHget a s
  | .tsHset a => Sys2Proof.Machine.execTsHset a s
  | .tsHld a ups => Sys2Proof.Machine.execTsHld a ups s
  | .tsHst a ups => Sys2Proof.Machine.execTsHst a ups s
  | .packetHop k errs => Sys2Proof.Machine.execPacketHop k errs s
  | .unicast k => Sys2Proof.Machine.execUnicast k s
  | .ack k => Sys2Proof.Machine.execAck k s
  | .busy k => Sys2Proof.Machine.execBusy k s
  | .busyBackoff a => Sys2Proof.Machine.execBusyBackoff a s
  | .reply k => Sys2Proof.Machine.execReply k s
  | .msgSendTimeout a => Sys2Proof.Machine.execMsgSendTimeout a s
  | .msgReplyTimeout a slot => Sys2Proof.Machine.execMsgReplyTimeout a slot s
  | .slotQuarantineEnd a slot => Sys2Proof.Machine.execSlotQuarantineEnd a slot s
  | .read a addr n => Sys2Proof.Machine.execRead a addr n s
  | .write a addr data => Sys2Proof.Machine.execWrite a addr data s
  | .test a number => Sys2Proof.Machine.execTest a number s
  | .rect a b test addr data => Sys2Proof.Machine.execRect a b test addr data s
  | .refreshWindow f ups => Sys2Proof.Machine.execRefreshWindow f ups s
  | .autonomousRefresh f ups => Sys2Proof.Machine.execAutonomousRefresh f ups s
  | .forcedRefresh f => Sys2Proof.Machine.execForcedRefresh f s
  | .nonscheduledBeat f cls => Sys2Proof.Machine.execNonscheduledBeat f cls s
  | .apertureRead port off n ups => Sys2Proof.Machine.execApertureRead port off n ups s
  | .apertureWrite port off data => Sys2Proof.Machine.execApertureWrite port off data s
  | .apertureTimeout port write => Sys2Proof.Machine.execApertureTimeout port write s
  | .portEnable p en => Sys2Proof.Machine.execPortEnable p en s
  | .loop p on => Sys2Proof.Machine.execLoop p on s
  | .train p => Sys2Proof.Machine.execTrain p s
  | .holdDown p => Sys2Proof.Machine.execHoldDown p s
  | .retrain p => Sys2Proof.Machine.execRetrain p s
  | .signalDetect p => Sys2Proof.Machine.execSignalDetect p s
  | .laneQualify p good => Sys2Proof.Machine.execLaneQualify p good s
  | .trainTimeout p => Sys2Proof.Machine.execTrainTimeout p s
  | .trainRetry p => Sys2Proof.Machine.execTrainRetry p s
  | .map p nport ncoord => Sys2Proof.Machine.execMap p nport ncoord s
  | .frameLock p => Sys2Proof.Machine.execFrameLock p s
  | .keySessionEstablished p session accepted => Sys2Proof.Machine.execKeySessionEstablished p session accepted s
  | .baseLatencyAgreed p rtt base fibre => Sys2Proof.Machine.execBaseLatencyAgreed p rtt base fibre s
  | .frameLockLoss p => Sys2Proof.Machine.execFrameLockLoss p s
  | .laneFail p lane => Sys2Proof.Machine.execLaneFail p lane s
  | .lane p => Sys2Proof.Machine.execLane p s
  | .laneSwap p => Sys2Proof.Machine.execLaneSwap p s
  | .frameReceive p f corr uncorr tagOk => Sys2Proof.Machine.execFrameReceive p f corr uncorr tagOk s
  | .frameTransmit p => Sys2Proof.Machine.execFrameTransmit p s
  | .scheduledRecord p => Sys2Proof.Machine.execScheduledRecord p s
  | .hxSchedOverrate p => Sys2Proof.Machine.execHxSchedOverrate p s
  | .recordArrival p => Sys2Proof.Machine.execRecordArrival p s
  | .recordLanding p => Sys2Proof.Machine.execRecordLanding p s
  | .schLateLanding p t => Sys2Proof.Machine.execSchLateLanding p t s
  | .dynamicPacket p vn => Sys2Proof.Machine.execDynamicPacket p vn s
  | .mail => Sys2Proof.Machine.execMail s
  | .rwrite admitted => Sys2Proof.Machine.execRwrite admitted s
  | .rread admitted => Sys2Proof.Machine.execRread admitted s
  | .mailDone => Sys2Proof.Machine.execMailDone s
  | .rwriteDone => Sys2Proof.Machine.execRwriteDone s
  | .rreadData => Sys2Proof.Machine.execRreadData s
  | .error => Sys2Proof.Machine.execError s
  | .dynamicRequestTimeout id => Sys2Proof.Machine.execDynamicRequestTimeout id s
  | .privilegedCell p vc => Sys2Proof.Machine.execPrivilegedCell p vc s
  | .spdm p => Sys2Proof.Machine.execSpdm p s
  | .probe p => Sys2Proof.Machine.execProbe p s
  | .form aovr anchor => Sys2Proof.Machine.execForm aovr anchor s
  | .stop => Sys2Proof.Machine.execStop s
  | .leave => Sys2Proof.Machine.execLeave s
  | .prepareDone mref => Sys2Proof.Machine.execPrepareDone mref s
  | .join => Sys2Proof.Machine.execJoin s
  | .formTimeout => Sys2Proof.Machine.execFormTimeout s
  | .start slack => Sys2Proof.Machine.execStart slack s
  | .ropeStart => Sys2Proof.Machine.execRopeStart s
  | .timeSend => Sys2Proof.Machine.execTimeSend s
  | .time => Sys2Proof.Machine.execTime s
  | .timeMissing => Sys2Proof.Machine.execTimeMissing s
  | .epochBoundary => Sys2Proof.Machine.execEpochBoundary s
  | .mark => Sys2Proof.Machine.execMark s
  | .invoke => Sys2Proof.Machine.execInvoke s
  | .request => Sys2Proof.Machine.execRequest s
  | .announce => Sys2Proof.Machine.execAnnounce s
  | .capturePoint => Sys2Proof.Machine.execCapturePoint s
  | .captureComplete => Sys2Proof.Machine.execCaptureComplete s
  | .commit => Sys2Proof.Machine.execCommit s
  | .upReport => Sys2Proof.Machine.execUpReport s
  | .up => Sys2Proof.Machine.execUp s
  | .memberLost => Sys2Proof.Machine.execMemberLost s
  | .clearBroadcast => Sys2Proof.Machine.execClearBroadcast s
  | .clear => Sys2Proof.Machine.execClear s
  | .abort => Sys2Proof.Machine.execAbort s
  | .rprMigrated f => Sys2Proof.Machine.execRprMigrated f s
  | .restoreComplete csum => Sys2Proof.Machine.execRestoreComplete csum s
  | .hopSend p => Sys2Proof.Machine.execHopSend p s
  | .hop => Sys2Proof.Machine.execHop s
  | .crnMissing p => Sys2Proof.Machine.execCrnMissing p s
  | .sumSend => Sys2Proof.Machine.execSumSend s
  | .sum => Sys2Proof.Machine.execSum s
  | .fault => Sys2Proof.Machine.execFault s
  | .shortWaitExpiry => Sys2Proof.Machine.execShortWaitExpiry s
  | .anchorLost => Sys2Proof.Machine.execAnchorLost s
  | .belaySample f row found => Sys2Proof.Machine.execBelaySample f row found s
  | .belayCompare f row cut t1 t2 cc => Sys2Proof.Machine.execBelayCompare f row cut t1 t2 cc s
  | .perstN port low => Sys2Proof.Machine.execPerstN port low s
  | .hotReset port => Sys2Proof.Machine.execHotReset port s
  | .flr port => Sys2Proof.Machine.execFlr port s
  | .pcieLinkUp port rate width => Sys2Proof.Machine.execPcieLinkUp port rate width s
  | .hpLinkDown port => Sys2Proof.Machine.execHpLinkDown port s
  | .postingMapWrite port off data => Sys2Proof.Machine.execPostingMapWrite port off data s
  | .bar2Write port off data ideBad => Sys2Proof.Machine.execBar2Write port off data ideBad s
  | .ringEnable port k => Sys2Proof.Machine.execRingEnable port k s
  | .consWrite port k v => Sys2Proof.Machine.execConsWrite port k v s
  | .intakeTick ups => Sys2Proof.Machine.execIntakeTick ups s
  | .leaseExpiry port => Sys2Proof.Machine.execLeaseExpiry port s
  | .acceptance => Sys2Proof.Machine.execAcceptance s
  | .mirrorReadback ok => Sys2Proof.Machine.execMirrorReadback ok s
  | .feedWrite => Sys2Proof.Machine.execFeedWrite s
  | .drainRead => Sys2Proof.Machine.execDrainRead s
  | .ldgFeedLate => Sys2Proof.Machine.execLdgFeedLate s
  | .completionWrite n => Sys2Proof.Machine.execCompletionWrite n s
  | .completionWriteDone port k => Sys2Proof.Machine.execCompletionWriteDone port k s
  | .msixCoalesce port k => Sys2Proof.Machine.execMsixCoalesce port k s
  | .renew port => Sys2Proof.Machine.execRenew port s
  | .claim port => Sys2Proof.Machine.execClaim port s
  | .claimAll port => Sys2Proof.Machine.execClaimAll port s
  | .getVersion c => Sys2Proof.Machine.execGetVersion c s
  | .getCapabilities c limit => Sys2Proof.Machine.execGetCapabilities c limit s
  | .negotiateAlgorithms c ok => Sys2Proof.Machine.execNegotiateAlgorithms c ok s
  | .getDigests c => Sys2Proof.Machine.execGetDigests c s
  | .getCertificate c slot off len => Sys2Proof.Machine.execGetCertificate c slot off len s
  | .challenge c slot => Sys2Proof.Machine.execChallenge c slot s
  | .getMeasurements c index sign => Sys2Proof.Machine.execGetMeasurements c index sign s
  | .keyExchange c slot => Sys2Proof.Machine.execKeyExchange c slot s
  | .finish c ok => Sys2Proof.Machine.execFinish c ok s
  | .keyUpdate c op => Sys2Proof.Machine.execKeyUpdate c op s
  | .heartbeat c => Sys2Proof.Machine.execHeartbeat c s
  | .endSession c => Sys2Proof.Machine.execEndSession c s
  | .chunkSend c data last q => Sys2Proof.Machine.execChunkSend c data last q s
  | .chunkGet c => Sys2Proof.Machine.execChunkGet c s
  | .getPqCert c off len => Sys2Proof.Machine.execGetPqCert c off len s
  | .getPqSig c => Sys2Proof.Machine.execGetPqSig c s
  | .ideKm port m => Sys2Proof.Machine.execIdeKm port m s
  | .take a keys => Sys2Proof.Machine.execTake a keys s
  | .setSlot a k keys roles => Sys2Proof.Machine.execSetSlot a k keys roles s
  | .revoke a k => Sys2Proof.Machine.execRevoke a k s
  | .advanceSvn a => Sys2Proof.Machine.execAdvanceSvn a s
  | .release a => Sys2Proof.Machine.execRelease a s
  | .offer n stage => Sys2Proof.Machine.execOffer n stage s
  | .open_ n stage ups => Sys2Proof.Machine.execOpen n stage ups s
  | .abandon n => Sys2Proof.Machine.execAbandon n s
  | .offerExpiry n => Sys2Proof.Machine.execOfferExpiry n s
  | .debugChallenge => Sys2Proof.Machine.execDebugChallenge s
  | .unlock t => Sys2Proof.Machine.execUnlock t s
  | .relock => Sys2Proof.Machine.execRelock s
  | .unlockExpiry => Sys2Proof.Machine.execUnlockExpiry s
  | .faultReport persist => Sys2Proof.Machine.execFaultReport persist s
  | .logbookFlush => Sys2Proof.Machine.execLogbookFlush s
  | .eccCeRate f key rise => Sys2Proof.Machine.execEccCeRate f key rise s
  | .retest px py => Sys2Proof.Machine.execRetest px py s
  | .retestResult f key fails => Sys2Proof.Machine.execRetestResult f key fails s
  | .markDead px py => Sys2Proof.Machine.execMarkDead px py s
  | .clearReplan f => Sys2Proof.Machine.execClearReplan f s
  | .surveyDue f => Sys2Proof.Machine.execSurveyDue f s
  | .startPass f => Sys2Proof.Machine.execStartPass f s
  | .surveySlice f fails => Sys2Proof.Machine.execSurveySlice f fails s
  | .svyOverdue f => Sys2Proof.Machine.execSvyOverdue f s
  | .full f => Sys2Proof.Machine.execFull f s
  | .abandonFull f => Sys2Proof.Machine.execAbandonFull f s
  | .fullSurveyDone f fails => Sys2Proof.Machine.execFullSurveyDone f fails s
  | .histogramSample f => Sys2Proof.Machine.execHistogramSample f s
  | .hxHistogramSample => Sys2Proof.Machine.execHxHistogramSample s
  | .telClear f => Sys2Proof.Machine.execTelClear f s
  | .currentHistoryAdvance amps mj => Sys2Proof.Machine.execCurrentHistoryAdvance amps mj s
  | .telHistSel rail f => Sys2Proof.Machine.execTelHistSel rail f s
  | .ppsEdge => Sys2Proof.Machine.execPpsEdge s
  | .surveyRead port view off n ups => Sys2Proof.Machine.execSurveyRead port view off n ups s
  | .surveyWrite view off data => Sys2Proof.Machine.execSurveyWrite view off data s
  | .surveyTimeout port view write => Sys2Proof.Machine.execSurveyTimeout port view write s
  | .idcode => Sys2Proof.Machine.execIdcode s
  | .bypass => Sys2Proof.Machine.execBypass s
  | .ijtagRead ix => Sys2Proof.Machine.execIjtagRead ix s
  | .ijtagRw u => Sys2Proof.Machine.execIjtagRw u s
  | .bcHalt => Sys2Proof.Machine.execBcHalt s
  | .tileScan f => Sys2Proof.Machine.execTileScan f s
  | .tileScanEnd f => Sys2Proof.Machine.execTileScanEnd f s
  | .registerWrite port off data wide ideBad => Sys2Proof.Machine.execRegisterWrite port off data wide ideBad s
  | .invocationEnd => Sys2Proof.Machine.execInvocationEnd s
  | .debugNonceExpiry => Sys2Proof.Machine.execDebugNonceExpiry s
  | .standbyFlowWarning => Sys2Proof.Machine.execStandbyFlowWarning s

end Sys2Proof.Machine
end

