-- ==== Sys2Proof/Safety.lean ====
section
/-!
DEFINITION. Sys2Proof/Safety.lean: what the claims call a well-kept memory, legal owners, and the part of the state that only
owner commands reach.
-/

namespace Sys2Proof.Machine

/-- The canonical form of a tile's scratch and stack segment. -/
def Tile.memWf (t : Tile) : Bool := SMap.wf CWord.zero t.scratch && SMap.wf CWord.zero t.stack

/-- The canonical form of the memories that the block addresses by byte or word: the staging area, the ledger memory, and every
tile's scratch and stack segment. -/
def State.memWf (s : State) : Bool :=
  SMap.wf 0 s.staging && SMap.wf 0 s.ldg.mem &&
    s.fields.all (fun e => e.2.logical.memWf && e.2.tiles.all (fun p => p.2.memWf))

/-- The owner slots are as R367 and R368 allow: four slots in the canonical form, each EMPTY, ACTIVE or REVOKED, with a role mask
of three bits. -/
def State.ownersLegal (s : State) : Bool :=
  SMap.wf OwnerSlot.zero s.trust.slots &&
    s.trust.slots.all (fun e => decide (e.1 < 4) && decide (e.2.state ≤ 2) && decide (e.2.roles < 8))

/-- What only owner commands may change: the fuse block, the owner slots and the command counter (R361, R367, R368). -/
def State.custody (s : State) : Fuses × SMap OwnerSlot × Nat := (s.fuse, s.trust.slots, s.trust.ctr)

/-- From `s` to `t` nothing changes but register fields whose key is listed. -/
def State.onlyRegs (s t : State) (keys : List Nat) : Prop :=
  ({ t with regs := s.regs } : State) = s ∧ ∀ (f : Fld) (i j : Nat), Fld.key f i j ∉ keys → t.reg f i j = s.reg f i j

/-- From `s` to `t` one report with this code joins the fault path, behind those that wait there. -/
def State.reports1 (s t : State) (code : Nat) : Prop := ∃ r : Report, t.reports = s.reports ++ [r] ∧ r.code = code

/-- The last report of the fault path has this code. -/
def State.lastReport (t : State) (code : Nat) : Prop := ∃ (l : List Report) (r : Report), t.reports = l ++ [r] ∧ r.code = code

/-- Every tile of field `f`, listed or not, passes a test. -/
def State.everyTile (s : State) (f : Nat) (p : Tile → Prop) : Prop :=
  p (s.field f).logical ∧ p (s.field f).spare ∧ ∀ e, e ∈ (s.field f).tiles → p e.2

/-- The compute side of field `f` takes commands: past release step 6, not dark, and with its compute rail on (R441, R443, R472). -/
def State.coreServes (s : State) (f : Nat) : Bool := !s.coreReset f && !s.dark f && s.compOn f

/-! ### Parts of the state, and which of them each command may change -/

/-- The parts of the state, as the frames name them: each field of State but the queue, the owner slots with their counter apart
from the rest of `trust`. -/
inductive Part where
  | fuse | ref | acyc | regs | fields | links | pkts | image | copy
  | pendingImg | tenant | staging | run | invq | reports | log | rope | ports
  | bcl | pw | rst | dict | ldg | trust | out | free | owners
  deriving DecidableEq, Repr

/-- A part is the same in two states. -/
def Part.same : Part → State → State → Prop
  | .fuse, s, t => t.fuse = s.fuse
  | .ref, s, t => t.ref = s.ref
  | .acyc, s, t => t.acyc = s.acyc
  | .regs, s, t => t.regs = s.regs
  | .fields, s, t => t.fields = s.fields
  | .links, s, t => t.links = s.links
  | .pkts, s, t => t.pkts = s.pkts
  | .image, s, t => t.image = s.image
  | .copy, s, t => t.copy = s.copy
  | .pendingImg, s, t => t.pendingImg = s.pendingImg
  | .tenant, s, t => t.tenant = s.tenant
  | .staging, s, t => t.staging = s.staging
  | .run, s, t => t.run = s.run
  | .invq, s, t => t.invq = s.invq
  | .reports, s, t => t.reports = s.reports
  | .log, s, t => t.log = s.log
  | .rope, s, t => t.rope = s.rope
  | .ports, s, t => t.ports = s.ports
  | .bcl, s, t => t.bcl = s.bcl
  | .pw, s, t => t.pw = s.pw
  | .rst, s, t => t.rst = s.rst
  | .dict, s, t => t.dict = s.dict
  | .ldg, s, t => t.ldg = s.ldg
  | .trust, s, t => ({ t.trust with slots := s.trust.slots, ctr := s.trust.ctr } : Trust) = s.trust
  | .out, s, t => t.out = s.out
  | .free, s, t => t.free = s.free
  | .owners, s, t => t.trust.slots = s.trust.slots ∧ t.trust.ctr = s.trust.ctr

/-- From `s` to `t` only the listed parts may change. -/
def State.onlyParts (s t : State) (l : List Part) : Prop := ∀ p, p ∉ l → p.same s t

/-- What work of a tile may change: the tile, its links and packets, its field's counters, reports, the edge words of a port, and
sessions to rebuild for lost stack words. -/
def Part.tile : List Part :=
  [.regs, .fields, .links, .pkts, .run, .reports, .ports, .ldg]

/-- What a reset request may change. -/
def Part.reset : List Part :=
  [.ref, .acyc, .regs, .fields, .links, .pkts, .image, .copy, .pendingImg, .tenant, .staging, .run, .invq, .reports,
    .log, .rope, .ports, .bcl, .pw, .rst, .dict, .ldg, .trust, .out, .free]

end Sys2Proof.Machine

namespace Sys2Proof

open Machine

/-- The owner commands, and a write of BC_OWNER_CMD, which may be one (R368, assumption 68). -/
def Instr.isOwner : Instr → Bool
  | .take _ _ | .setSlot _ _ _ _ | .revoke _ _ | .advanceSvn _ | .release _ => true
  | .registerWrite _ off _ _ _ => decide (off.toNat = 0x418)
  | _ => false

/-- The parts that a command may change. -/
def Instr.parts : Instr → List Part
  | .por _ | .bor =>
    [.ref, .acyc, .regs, .fields, .links, .pkts, .image, .copy, .pendingImg, .tenant, .staging, .run, .invq, .reports,
      .log, .rope, .ports, .bcl, .pw, .rst, .dict, .ldg, .trust, .free]
  | .brownOutWarning _ | .brownOutClear =>
    [.regs, .fields, .reports, .rope, .ports, .bcl, .pw, .free]
  | .pwrOverLimit _ _ =>
    [.regs, .fields, .reports, .rope, .ports, .bcl, .pw, .dict, .free]
  | .modResetNLow | .pwrEnLow | .leakResponse | .flowLowTrip | .diodeSample _ | .pwrRailFail _ _ | .mrefFail |
    .fieldPllUnlock _ | .modulePllUnlock _ | .wdt | .stall _ | .reset _ _ | .hold _ _ | .rstRelease | .sdoRequest _ |
    .udpDatagram _ _ | .dictWrite _ _ _ _ | .odWrite _ _ _ _ | .mgmt | .profileSwitchPending _ | .profileSwitchImmediate _
    | .invocationIssue _ _ _ _ | .schCoreLockup _ | .stop | .start _ | .epochBoundary | .mark | .invoke | .commit | .up |
    .memberLost | .clearBroadcast | .clear | .abort | .completionWrite _ | .unlock _ | .faultReport _ | .ijtagRw _ =>
    Part.reset
  | .modResetNHigh | .clearTrip | .mrefSwitch _ _ _ | .testStandby | .odNext _ _ _ | .loop _ _ | .signalDetect _ | .map _
    _ _ | .baseLatencyAgreed _ _ _ _ | .clearReplan _ | .surveyDue _ | .startPass _ | .hxHistogramSample =>
    [.regs]
  | .pwrEnHigh _ | .takeover | .swap | .full _ | .currentHistoryAdvance _ _ | .telHistSel _ _ | .ppsEdge =>
    [.regs, .pw]
  | .cltFlowLow | .cltRate | .railPowerGood _ | .bcpair | .standbyFlowWarning =>
    [.regs, .fields, .reports, .pw]
  | .flowPdoTimeout =>
    [.pw]
  | .stepdownEscalate | .thermalStageLeave _ | .dividerStep | .hostreq _ | .request =>
    [.regs, .rope, .ports, .bcl, .pw, .free]
  | .fieldReturn _ =>
    [.regs, .fields, .copy, .staging, .reports, .log, .rope, .pw, .rst, .ldg, .trust, .free]
  | .fieldWake =>
    [.regs, .fields, .pw, .rst]
  | .fieldPllLock _ =>
    [.regs, .fields, .rst]
  | .rstReleaseStall _ | .pairDisagree | .pairSelfTestDone _ _ | .svyOverdue _ =>
    [.regs, .fields, .reports]
  | .minHoldEnd =>
    [.regs, .rst]
  | .releaseStep _ _ =>
    [.regs, .fields, .image, .copy, .staging, .reports, .log, .rope, .ports, .bcl, .pw, .rst, .dict, .ldg, .trust,
      .free]
  | .startupStage _ =>
    [.regs, .fields, .copy, .staging, .reports, .log, .rope, .pw, .dict, .ldg, .trust, .out, .free]
  | .recoveryStatus =>
    [.regs, .out, .free]
  | .recoveryWrite _ _ | .recoveryCommit _ =>
    [.regs, .fields, .reports, .pw, .out]
  | .bloomCheck _ _ | .returnComplete _ | .retestResult _ _ _ | .markDead _ _ | .surveySlice _ _ =>
    [.regs, .fields, .copy, .staging, .reports, .log, .rope]
  | .firmwareUpdate _ _ =>
    [.regs, .fields, .reports, .pw, .dict]
  | .sdoTimeout _ | .resetNode | .resetCommunication | .tpdo1 _ =>
    [.dict, .out]
  | .dictRead _ _ _ | .packetHop _ _ | .surveyRead _ _ _ _ _ =>
    [.regs, .fields, .links, .pkts, .run, .reports, .ports, .ldg, .out]
  | .dictNext _ _ _ | .surveyTimeout _ _ _ =>
    [.regs, .out]
  | .odRead _ _ _ | .armedStart _ | .nextBufferWrite _ | .vuResultLanding _ | .injectAvailable _ | .srdLanding _ |
    .sldLanding _ | .wordArrival _ _ _ _ | .arm _ | .halt _ | .scrub _ | .zeroize _ | .scrubDone _ _ | .run _ | .ccHalt _
    | .restart _ | .ccDispatch _ | .coreInstruction _ | .tsSend _ | .tsReply _ _ | .tsYield _ | .tsCppost _ | .tsHget _ |
    .tsHset _ | .tsHld _ _ | .tsHst _ _ | .unicast _ | .ack _ | .busy _ | .busyBackoff _ | .reply _ | .msgSendTimeout _ |
    .msgReplyTimeout _ _ | .slotQuarantineEnd _ _ | .read _ _ _ | .write _ _ _ | .test _ _ | .rect _ _ _ _ _ |
    .forcedRefresh _ | .surveyWrite _ _ _ =>
    Part.tile
  | .nmtStart | .nmtStop | .enterPreOperational | .nmtAutostart | .flowDemand _ | .save | .load =>
    [.dict]
  | .rpdo1 _ =>
    [.pw, .dict]
  | .tpdo2 _ _ =>
    [.regs, .dict, .out]
  | .producerHeartbeat =>
    [.out]
  | .apply =>
    [.regs, .dict]
  | .standaloneTest _ _ _ _ =>
    [.regs, .fields, .image, .copy, .pendingImg, .tenant, .staging, .run, .invq, .rope, .dict, .ldg, .trust, .free]
  | .burnIn _ _ _ _ _ _ =>
    [.regs, .fields, .image, .copy, .pendingImg, .tenant, .staging, .run, .invq, .rope, .ports, .bcl, .pw, .dict, .ldg,
      .trust, .free]
  | .install _ _ _ _ _ =>
    [.regs, .fields, .pendingImg, .staging, .reports]
  | .installCommit =>
    [.regs, .fields, .image, .copy, .pendingImg, .tenant, .staging, .run, .invq, .rope, .ldg, .trust, .free]
  | .remove =>
    [.regs, .fields, .image, .copy, .run, .invq, .rope, .trust, .free]
  | .holdOut _ | .belaySample _ _ _ | .histogramSample _ | .telClear _ =>
    [.regs, .fields]
  | .return_ _ =>
    [.regs, .fields, .pw]
  | .invocationStart _ =>
    [.regs, .fields, .run, .invq, .reports, .rope, .ldg]
  | .sectionSwitch =>
    [.acyc, .regs, .fields, .links, .pkts, .run, .reports, .rope, .ports, .ldg]
  | .bundleIssue _ _ =>
    [.acyc, .regs, .fields, .links, .pkts, .run, .reports, .ports, .ldg]
  | .refreshWindow _ _ | .autonomousRefresh _ _ | .hpLinkDown _ | .bar2Write _ _ _ _ | .mirrorReadback _ | .drainRead =>
    [.regs, .fields, .reports, .ldg]
  | .nonscheduledBeat _ _ | .apertureRead _ _ _ _ | .apertureWrite _ _ _ =>
    [.regs, .fields, .staging, .reports, .ldg, .out]
  | .apertureTimeout _ _ =>
    [.regs, .ldg, .out]
  | .portEnable _ _ | .holdDown _ | .retrain _ | .keySessionEstablished _ _ _ | .frameLockLoss _ | .laneFail _ _ |
    .frameReceive _ _ _ _ _ =>
    [.regs, .fields, .reports, .ports, .bcl, .free]
  | .train _ | .trainTimeout _ | .lane _ =>
    [.regs, .ports]
  | .laneQualify _ _ | .laneSwap _ =>
    [.regs, .fields, .reports, .ports]
  | .trainRetry _ =>
    [.ports]
  | .frameLock _ | .dynamicPacket _ _ | .rread _ | .privilegedCell _ _ | .spdm _ | .join | .timeSend =>
    [.regs, .ports, .bcl, .free]
  | .frameTransmit _ =>
    [.regs, .ports, .bcl, .out, .free]
  | .scheduledRecord _ =>
    [.rope, .ports]
  | .hxSchedOverrate _ | .recordArrival _ =>
    [.regs, .fields, .run, .reports, .ports]
  | .recordLanding _ =>
    [.regs, .fields, .links, .pkts, .run, .reports, .rope, .ports, .ldg]
  | .schLateLanding _ _ | .ldgFeedLate =>
    [.regs, .fields, .run, .reports]
  | .mail =>
    [.regs, .rope, .ports, .bcl, .free]
  | .rwrite _ =>
    [.regs, .staging, .ports, .bcl, .free]
  | .mailDone =>
    [.regs, .fields, .run, .invq, .rope, .ports, .bcl, .pw, .ldg]
  | .rwriteDone | .rreadData | .error | .dynamicRequestTimeout _ =>
    [.bcl]
  | .probe _ =>
    [.regs, .ports, .bcl]
  | .form _ _ =>
    [.regs, .rope, .bcl]
  | .leave | .capturePoint | .captureComplete =>
    [.regs, .rope]
  | .prepareDone _ | .anchorLost =>
    [.regs, .fields, .run, .invq, .rope, .ports, .pw, .ldg]
  | .formTimeout | .shortWaitExpiry =>
    [.regs, .fields, .run, .invq, .rope, .ports, .bcl, .pw, .ldg, .free]
  | .ropeStart =>
    [.acyc, .regs, .fields, .run, .invq, .rope, .ports, .pw, .ldg]
  | .time =>
    [.regs, .fields, .reports, .rope, .bcl, .pw]
  | .timeMissing | .crnMissing _ =>
    [.regs, .fields, .reports, .rope]
  | .announce =>
    [.regs, .fields, .reports, .bcl, .pw]
  | .upReport | .hopSend _ | .sumSend | .sum =>
    [.regs, .fields, .reports, .rope, .ports, .bcl, .free]
  | .rprMigrated _ =>
    [.regs, .fields, .reports, .log, .ldg, .trust, .free]
  | .restoreComplete _ =>
    [.regs, .fields, .run, .invq, .reports, .rope, .ports, .pw, .ldg]
  | .hop =>
    [.regs, .fields, .reports, .rope, .bcl]
  | .fault =>
    [.regs, .log, .ports, .bcl, .ldg, .out, .free]
  | .belayCompare _ _ _ _ _ _ =>
    [.regs, .fields, .copy, .staging, .run, .reports, .log, .rope]
  | .perstN _ _ | .hotReset _ | .flr _ =>
    [.regs, .ldg, .trust]
  | .pcieLinkUp _ _ _ | .feedWrite =>
    [.regs, .fields, .reports, .ldg, .out]
  | .postingMapWrite _ _ _ | .ringEnable _ _ | .consWrite _ _ _ | .claim _ | .claimAll _ | .abandon _ =>
    [.regs, .ldg]
  | .intakeTick _ =>
    [.regs, .fields, .reports, .ports, .bcl, .pw, .ldg, .out, .free]
  | .leaseExpiry _ =>
    [.regs, .fields, .reports, .pw, .ldg, .out]
  | .acceptance =>
    [.fields, .ldg]
  | .completionWriteDone _ _ | .offerExpiry _ =>
    [.ldg]
  | .msixCoalesce _ _ =>
    [.ldg, .out]
  | .renew _ =>
    [.regs, .pw, .ldg]
  | .getVersion _ | .getCapabilities _ _ | .negotiateAlgorithms _ _ | .getDigests _ | .getCertificate _ _ _ _ | .challenge
    _ _ | .getMeasurements _ _ _ | .keyExchange _ _ | .finish _ _ | .keyUpdate _ _ | .heartbeat _ | .endSession _ |
    .chunkSend _ _ _ _ | .getPqCert _ _ _ | .getPqSig _ | .ijtagRead _ =>
    [.trust, .out, .free]
  | .chunkGet _ | .idcode | .bypass | .bcHalt =>
    [.trust, .out]
  | .ideKm _ _ =>
    [.regs, .trust, .out]
  | .take _ _ | .setSlot _ _ _ _ | .revoke _ _ =>
    [.regs, .fields, .reports, .trust, .free, .owners]
  | .advanceSvn _ =>
    [.fuse, .regs, .fields, .reports, .trust, .free, .owners]
  | .release _ =>
    [.regs, .fields, .image, .copy, .pendingImg, .tenant, .staging, .run, .invq, .reports, .rope, .ldg, .trust, .free,
      .owners]
  | .offer _ _ =>
    [.regs, .staging, .ldg, .trust, .free]
  | .open_ _ _ _ =>
    [.regs, .fields, .staging, .reports, .ldg]
  | .debugChallenge =>
    [.regs, .trust, .free]
  | .relock | .unlockExpiry =>
    [.regs, .fields, .copy, .staging, .reports, .log, .rope, .ldg, .trust, .free]
  | .logbookFlush =>
    [.regs, .fields, .log, .ports, .bcl, .dict, .ldg, .out, .free]
  | .eccCeRate _ _ _ =>
    [.regs, .fields, .reports, .log]
  | .retest _ _ =>
    [.regs, .log]
  | .abandonFull _ =>
    [.regs, .fields, .copy, .staging, .run, .reports, .log, .rope, .pw, .free]
  | .fullSurveyDone _ _ =>
    [.regs, .fields, .copy, .staging, .reports, .log, .rope, .pw, .free]
  | .tileScan _ =>
    [.fields, .trust, .out, .free]
  | .tileScanEnd _ =>
    [.regs, .fields, .trust]
  | .registerWrite _ _ _ _ _ =>
    [.fuse, .ref, .acyc, .regs, .fields, .links, .pkts, .image, .copy, .pendingImg, .tenant, .staging, .run, .invq,
      .reports, .log, .rope, .ports, .bcl, .pw, .rst, .dict, .ldg, .trust, .out, .free, .owners]
  | .invocationEnd =>
    [.acyc, .regs, .fields, .links, .pkts, .run, .invq, .reports, .ports, .dict, .ldg]
  | .debugNonceExpiry =>
    [.regs, .trust]
end Sys2Proof
end

