-- ==== Sys2Proof/WellFormed.lean ====
section
/-!
DEFINITION. Sys2Proof/WellFormed.lean: the shape that the outside must give a command's operands. A bounded operand has a type
of its own; only the lists need a check.
-/

namespace Sys2Proof

/-- A command whose lists have the sizes that the rules give them: an SDO frame has eight bytes (R412), an RPDO1 the
five that are mapped at least (R415), a UDP datagram one to sixteen records of an eight-byte frame (R420), the diodes sixteen
readings of each of 40 or 48 fields (R471), a current history three rails of each field (R512), a recovery write up to 64 bytes
(R388), a system WRITE one to sixteen words (R220), an aperture write 1 to 4,096 bytes (R200), a write of a posting map at least
one byte inside the map (R333); a structural test names one of ten units (R500). -/
def Instr.wellFormed : Instr → Bool
  | .sdoRequest frame => frame.length = 8
  | .rpdo1 data => decide (5 ≤ data.length ∧ data.length ≤ 64)
  | .udpDatagram _ recs => decide (1 ≤ recs.length ∧ recs.length ≤ 16) && recs.all (fun r => r.2.length = 8)
  | .pwrOverLimit _ fields => fields.length = 40 || fields.length = 48
  | .diodeSample temps => temps.length = 640 || temps.length = 768
  | .currentHistoryAdvance amps _ => amps.length = 120 || amps.length = 144
  | .recoveryWrite _ data => decide (data.length ≤ 64)
  | .write _ _ data => decide (1 ≤ data.val.length ∧ data.val.length ≤ 16)
  | .rect _ _ _ _ data => decide (data.val.length ≤ 16)
  | .apertureWrite _ _ data => decide (1 ≤ data.length ∧ data.length ≤ 4096)
  | .postingMapWrite _ off data => decide (1 ≤ data.length ∧ off.val + data.length ≤ 512)
  | .bar2Write _ _ data _ => decide (1 ≤ data.length ∧ data.length ≤ 4096)
  | .surveySlice _ fails | .fullSurveyDone _ fails => fails.all (fun x => decide (x.2.toNat / 256 % 16 ≤ 9))
  | _ => true

end Sys2Proof
end

