-- ==== Sys2Proof/Certificates/Slice0/Obligations.lean ====
section
/-!
DEFINITION. Sys2Proof/Certificates/Slice0/Obligations.lean: the statements for the provers.
-/

open Sys2Proof Sys2Proof.Machine

/-- For every command c and state s whose queue is c followed by rest, a step is exec of c on s with the queue rest. With an
empty queue a step adds one to the refcycle counter and changes nothing else (the model's choice, assumption 2). -/
def Obligations.StepRunsTheFrontCommand : Prop :=
  (∀ (s : State) (c : Instr) (rest : List Instr), s.pending = c :: rest → step s = exec c { s with pending := rest }) ∧
  (∀ s : State, s.pending = [] → step s = .next { s with ref := s.ref + 1 })

/-- For every command and every state, exec answers a next state, and the queue of waiting commands in it is the queue
before. Where the rules leave a choice, this states the model's: assumption 13. -/
def Obligations.EveryCommandRunsAndLeavesTheQueue : Prop :=
  ∀ (c : Instr) (s : State), ∃ t, exec c s = .next t ∧ t.pending = s.pending

/-- For every command c and every state s, if exec answers a next state t, then every part of the state that Instr.parts
does not list for c is the same in t as in s. The parts are the fields of State, with the owner slots and their counter
apart from the rest of the trust state. So no command but ADVANCE_SVN changes the fuses, none but the five owner
commands changes the owner slots, and so on through the 292 commands. -/
def Obligations.EveryCommandChangesOnlyItsParts : Prop :=
  ∀ (c : Instr) (s t : State), exec c s = .next t → s.onlyParts t c.parts

/-- If the owner slots are legal in s (listed in the canonical form, four of them, each EMPTY, ACTIVE or REVOKED, with a
role mask of three bits) and a step from s answers the next state t, then they are legal in t. -/
def Obligations.OwnerSlotsStayLegalInEveryStep : Prop :=
  ∀ s t : State, s.ownersLegal = true → step s = .next t → t.ownersLegal = true

/-- If c is none of TAKE, SET_SLOT, REVOKE, ADVANCE_SVN and RELEASE, and exec of c on s answers t, then the fuse block, the
owner slots and the owner command counter are the same in t as in s. -/
def Obligations.OnlyOwnerCommandsChangeCustody : Prop :=
  ∀ (c : Instr) (s t : State), c.isOwner = false → exec c s = .next t → t.custody = s.custody

/-- In State.reset every register field of the block reads its reset value; no command waits; every session is FREE with
NEXTSEQ 1 and every other field 0; the posting maps, the journal, the staging area, the links, the packets and the fault
path are empty; no image is installed; the owner slots are legal, and the staging area and the ledger memory are in the
canonical form. Values that the spec gives no reset value for are not named here. Where the rules leave a choice, this
states the model's: assumptions 8, 9 and 10. -/
def Obligations.ResetLeavesEveryPartAtItsStartValue : Prop :=
  ((∀ (f : Fld) (i j : Nat), State.reset.reg f i j = f.rst)) ∧
  (∀ i, State.reset.ldg.sess i = Session.zero ∧ (State.reset.ldg.sess i).state = 0 ∧ (State.reset.ldg.sess i).nextSeq = 1 ∧
    (State.reset.ldg.sess i).owner = 0 ∧ (State.reset.ldg.sess i).rel = 0) ∧
  (State.reset.pending = [] ∧ State.reset.reports = [] ∧ State.reset.pkts = [] ∧ State.reset.links = [] ∧ State.reset.fields = [] ∧
    State.reset.image = none ∧ State.reset.staging = [] ∧ State.reset.ldg.mapA = 0 ∧ State.reset.ldg.mapB = 0 ∧
    State.reset.ldg.journal = [] ∧ State.reset.unowned = true ∧ State.reset.ownersLegal = true ∧ State.reset.memWf = true)

/-- If in s the staging area and the host-written ledger memory list their bytes under strictly rising addresses, none at
what an unlisted byte reads as, and a step from s answers the next state t, then they are in that form in t. So equal
contents are equal data, and a byte has one entry at most. -/
def Obligations.StagingAndLedgerMemoryStayCanonical : Prop :=
  ∀ s t : State, (SMap.wf 0 s.staging && SMap.wf 0 s.ldg.mem) = true → step s = .next t →
    (SMap.wf 0 t.staging && SMap.wf 0 t.ldg.mem) = true

/-- Each command answers a next state. POR and BOR leave the whole module in an L4 reset with no image, no ledger memory,
and the fuses and owner slots as they were; BOR also sets the carrier's latch. A brown-out warning sets BOWARN, records
PWR_BROWNOUT and raises need 1 to the divider in force plus 2, at most 32; its clearing withdraws both and records
PWR_BROWNOUT_CLEAR. MOD_RESET_N low sets PINLOW, and before the firmware runs nothing else; high clears it and nothing
else. PWR_EN low past start-up stage 2 leaves STANDBY set with start-up in stage 3; PWR_EN high, coming from low with
LEAK_N high, clears the latched leak response and trip and touches no field. Past stage 2, where the firmware runs, a
leak response sets LEAK, leaves the module tripped with cause 5 if no trip stood, and records CLT_LEAK; before the
firmware runs it holds LEAK_N low and changes no register. Where the rules leave a choice, this states the model's:
assumptions 11, 12, 40 and 41. -/
def Obligations.PowerInputAndPinCommandsComplete : Prop :=
  (∀ (s : State) (l : Bool), ∃ t, exec (.por l) s = .next t ∧ t.rst.active = true ∧ t.rst.level = 4 ∧ t.rst.all = true ∧
    t.image = none ∧ t.ldg.mem = [] ∧ t.fuse = s.fuse ∧ t.trust.slots = s.trust.slots ∧ t.log.bootgen = s.log.bootgen + 1) ∧
  (∀ s : State, ∃ t, exec .bor s = .next t ∧ t.rst.latch = true ∧ t.rst.level = 4 ∧ t.rst.all = true ∧ t.pw.boot = false ∧
    t.image = none ∧ t.ldg.mem = [] ∧ t.fuse = s.fuse ∧ t.trust.slots = s.trust.slots) ∧
  (∀ (s : State) (v : BitVec 16), s.reg F.PWR_STATUS_BOWARN = 0 → v.toNat < 10 * s.od 0x2400 1 →
    ∃ t, exec (.brownOutWarning v) s = .next t ∧ t.reg F.PWR_STATUS_BOWARN = 1 ∧
      t.pw.needs.get 0 1 = min 32 (s.divNow + 2) ∧ s.reports1 t Code.pwrBrownout) ∧
  (∀ s : State, s.reg F.PWR_STATUS_BOWARN = 1 → ∃ t, exec .brownOutClear s = .next t ∧ t.reg F.PWR_STATUS_BOWARN = 0 ∧
    t.pw.needs.get 0 1 = 0 ∧ s.reports1 t Code.pwrBrownoutClear) ∧
  (∀ s : State, s.reg F.BC_BOOT_STAGE < 2 → ∃ t, exec .modResetNLow s = .next t ∧ t.reg F.RST_STATE_PINLOW = 1 ∧
    s.onlyRegs t [F.RST_STATE_PINLOW.key 0 0]) ∧
  (∀ s : State, ∃ t, exec .modResetNHigh s = .next t ∧ t.reg F.RST_STATE_PINLOW = 0 ∧
    s.onlyRegs t [F.RST_STATE_PINLOW.key 0 0]) ∧
  (∀ s : State, 2 < s.reg F.BC_BOOT_STAGE → ∃ t, exec .pwrEnLow s = .next t ∧ t.reg F.PWR_STATUS_STANDBY = 1 ∧
    t.reg F.BC_BOOT_STAGE = 3 ∧ t.pw.boot = true ∧ t.pw.caps = 0) ∧
  (∀ s : State, s.pw.pwrEn = false → ∃ t, exec (.pwrEnHigh false) s = .next t ∧ t.pw.pwrEn = true ∧ t.pw.leakLow = false ∧
    t.reg F.PWR_STATUS_LEAK = 0 ∧ t.reg F.PWR_STATUS_TRIP = 0 ∧ t.reg F.PWR_STATUS_TRIPCAUSE = 0 ∧ t.fields = s.fields) ∧
  (∀ s : State, 2 < s.reg F.BC_BOOT_STAGE → s.reg F.PWR_STATUS_LEAK = 0 → s.reg F.PWR_STATUS_TRIP = 0 →
    ∃ t, exec .leakResponse s = .next t ∧ t.pw.leakLow = true ∧ t.reg F.PWR_STATUS_LEAK = 1 ∧ t.reg F.PWR_STATUS_TRIP = 1 ∧ t.reg F.PWR_STATUS_TRIPCAUSE = 5 ∧ t.od 0x2300 8 = 0 ∧
    t.reg F.BC_BOOT_STAGE = 3 ∧ t.lastReport Code.cltLeak) ∧
  (∀ s : State, s.reg F.BC_BOOT_STAGE < 2 → ∃ t, exec .leakResponse s = .next t ∧ t.pw.leakLow = true ∧ t.regs = s.regs ∧
    t.fields = s.fields ∧ t.reports = s.reports)

/-- Each command answers a next state where its condition holds. While some compute rail is on: flow below 40 L/min raises
warning 0 and records CLT_FLOW_LOW; below 30 L/min it trips the module with cause 4, in stage 3 and standby; the missing
flow PDO raises warning 1 alone; the inlet rate raises warning 2, counts one excursion and records CLT_RATE. The standby
flow warning raises warning 0 once and records CLT_FLOW_LOW. A diode sample puts the largest reading of each field's 16
into FLD_THM.TMAX where no reading asks for a response. Escalation raises need 2 by 2, at most 32. Stage 1 leaves below
its lower thresholds, and stage 2 with its need. A field return clears DARK. CLEAR_TRIP, with no leak, no field at 85 °C
and flow of at least 40 L/min, clears the trip, its cause, thermal stage 4 and the command's STATUS. Where the rules
leave a choice, this states the model's: assumptions 11, 12 and 42. -/
def Obligations.CoolantAndHeatCommandsComplete : Prop :=
  (∀ s : State, s.anyComp = true → s.flow < 4000 → ∃ t, exec .cltFlowLow s = .next t ∧ bitOf t.pw.warn 0 = true ∧
    s.reports1 t Code.cltFlowLow ∧ t.regs = s.regs ∧ t.fields = s.fields) ∧
  (∀ s : State, s.anyComp = true → s.flow < 3000 → s.reg F.PWR_STATUS_TRIP = 0 → ∃ t, exec .flowLowTrip s = .next t ∧
    t.reg F.PWR_STATUS_TRIP = 1 ∧ t.reg F.PWR_STATUS_TRIPCAUSE = 4 ∧ t.reg F.BC_BOOT_STAGE = 3 ∧ t.reg F.PWR_STATUS_STANDBY = 1) ∧
  (∀ s : State, s.anyComp = true → ∃ t, exec .flowPdoTimeout s = .next t ∧ bitOf t.pw.warn 1 = true ∧
    ({ t with pw := s.pw } : State) = s) ∧
  (∀ s : State, s.anyComp = true → ∃ t, exec .cltRate s = .next t ∧ bitOf t.pw.warn 2 = true ∧
    t.pw.excursions = s.pw.excursions + 1 ∧ s.reports1 t Code.cltRate ∧ t.regs = s.regs ∧ t.fields = s.fields) ∧
  (∀ s : State, s.reg F.BC_BOOT_STAGE = 3 → s.pw.pwrEn = true → s.flow < 4000 → s.pw.flowWarned = false →
    ∃ t, exec .standbyFlowWarning s = .next t ∧ t.pw.flowWarned = true ∧ bitOf t.pw.warn 0 = true ∧
      s.reports1 t Code.cltFlowLow ∧ t.regs = s.regs) ∧
  (∀ (s : State) (temps : List (BitVec 16)), (∀ i, (temps.getD i 0).toNat < 8000) → (∀ f, f < s.nFields → s.compOn f = false) →
    (∀ f, f < s.nFields → s.dark f = false) → s.reg F.THM_TEMP_GRAD < 1000 →
    ∃ t, exec (.diodeSample temps) s = .next t ∧ t.reports = s.reports ∧
      ∀ f, f < s.nFields → ∃ d, d < 16 ∧ t.reg F.FLD_THM_TMAX f = (temps.getD (16 * f + d) 0).toNat ∧
        ∀ e, e < 16 → (temps.getD (16 * f + e) 0).toNat ≤ t.reg F.FLD_THM_TMAX f) ∧
  (∀ s : State, bitOf (s.reg F.THM_STATUS_STAGES) 1 = true → (8900 ≤ s.tmax ∨ 1350 ≤ s.reg F.THM_TEMP_GRAD) →
    ∃ t, exec .stepdownEscalate s = .next t ∧
    t.pw.needs.get 0 2 = min 32 (s.pw.needs.get 0 2 + 2) ∧ t.reports = s.reports ∧ t.fields = s.fields) ∧
  (∀ s : State, bitOf (s.reg F.THM_STATUS_STAGES) 0 = true → s.tmax < 8200 → s.reg F.THM_TEMP_GRAD < 1050 →
    ∃ t, exec (.thermalStageLeave 0) s = .next t ∧ bitOf (t.reg F.THM_STATUS_STAGES) 0 = false ∧
      s.onlyRegs t [F.THM_STATUS_STAGES.key 0 0]) ∧
  (∀ s : State, bitOf (s.reg F.THM_STATUS_STAGES) 1 = true → s.tmax < 8500 → s.reg F.THM_TEMP_GRAD < 1200 →
    ∃ t, exec (.thermalStageLeave 1) s = .next t ∧ t.pw.needs.get 0 2 = 0) ∧
  (∀ (s : State) (f : Fin 48), s.dark f.val = true → signedOf 16 (s.reg F.FLD_THM_TMAX f.val) < 8500 →
    s.reg F.PWR_STATUS_STANDBY = 0 → s.wakeFree = true → s.inReplan f.val = false → s.inReset f.val = false → s.log.migrate = [] → s.copy = none →
    ∃ t, exec (.fieldReturn f) s = .next t ∧ t.dark f.val = false) ∧
  (∀ s : State, s.reg F.PWR_STATUS_LEAK = 0 → (∀ f, f < s.nFields → signedOf 16 (s.reg F.FLD_THM_TMAX f) < 8500) →
    4000 ≤ s.flow → ∃ t, exec .clearTrip s = .next t ∧ t.reg F.PWR_STATUS_TRIP = 0 ∧ t.reg F.PWR_STATUS_TRIPCAUSE = 0 ∧
      t.reg F.PWR_CMD_STATUS = 0 ∧ t.reg F.PWR_CMD_OP = 1 ∧ bitOf (t.reg F.THM_STATUS_STAGES) 3 = false ∧
      s.onlyRegs t [F.THM_STATUS_STAGES.key 0 0, F.PWR_STATUS_TRIP.key 0 0, F.PWR_STATUS_TRIPCAUSE.key 0 0, F.PWR_CMD_STATUS.key 0 0, F.PWR_CMD_OP.key 0 0])

/-- Each command answers a next state. The power averages go into 0x4000:01 and FLD_PWR.POWER of every field. A VCOMP or
VFAB rail that fails while on puts a field not in REPLAN status there, with reason 6 and PWR_RAIL_FAIL recorded first.
Power-good of the last cap rail sets its bit and moves start-up to stage 5; of a fabric rail in sequence it switches the
rail on and locks the PLL. The first waiting field of the wake list gets its compute rail. An accepted MREF switch shows
its source and port with STATUS done, and a refused one REFUSED with STATUS 2, and nothing else changes but the
registers written. MREF failing shows source 0. A divider step of a ramp under way moves the divider one half step
towards its goal. HOSTREQ is kept, and need 4 is its value, 0 below 8, at most 32. A PLL lock sets the field's lock bit
outside a reset. A stalled release records RST_RELEASE_STALL and puts the field into REPLAN status. A brown-out warning
takes its average into PWR_BOR.VMIN and counts in WARNS; its clearing counts nothing. Where the rules leave a choice,
this states the model's: assumptions 11, 12, 41 and 42. -/
def Obligations.RailClockAndDividerCommandsComplete : Prop :=
  (∀ (s : State) (total : BitVec 32) (fields : List (BitVec 16)), ∃ t, exec (.pwrOverLimit total fields) s = .next t ∧
    t.od 0x4000 1 = total.toNat ∧ ∀ f, f < s.nFields → t.reg F.FLD_PWR_POWER f = (fields.getD f 0).toNat) ∧
  (∀ (s : State) (rail : Fin 8) (f : Fin 48), rail.val ≤ 1 → s.present f.val = true →
    bitOf (s.reg F.FLD_PWR_RAILS f.val) rail.val = true → s.inReplan f.val = false →
    ∃ t, exec (.pwrRailFail rail f) s = .next t ∧ t.reg F.FLT_REPLAN_REASON = 6 ∧
      t.reg F.FLT_REPLAN_FIELDS = (s.reg F.FLT_REPLAN_FIELDS + 2 ^ f.val) % 2 ^ 48 ∧
      ∃ r q : Report, t.reports = s.reports ++ [r, q] ∧ r.code = Code.pwrRailFail ∧ q.code = Code.rprReplan) ∧
  (∀ s : State, s.reg F.BC_BOOT_STAGE = 4 → s.pw.boot = true → s.pw.phase = 0 → s.pw.rail = 3 →
    ∃ t, exec (.railPowerGood true) s = .next t ∧ t.pw.caps = s.pw.caps ||| 8 ∧ t.reg F.BC_BOOT_STAGE = 5 ∧ t.pw.phase = 1 ∧
      t.pw.rail = 0) ∧
  (∀ s : State, s.reg F.BC_BOOT_STAGE = 4 → s.pw.boot = true → s.pw.phase = 1 → s.pw.rail + 1 < s.nFields →
    s.inReplan s.pw.rail = false → ∃ t, exec (.railPowerGood true) s = .next t ∧
      bitOf (t.reg F.FLD_PWR_RAILS s.pw.rail) 1 = true ∧ t.pllLocked s.pw.rail = true ∧ t.pw.rail = s.pw.rail + 1) ∧
  (∀ (s : State) (f : Nat) (r : List Nat), s.pw.wake = f :: r → s.wakeFree = true → f < 48 → s.inReplan f = false → s.inReset f = false →
    ∃ t, exec .fieldWake s = .next t ∧ t.pw.wake = r ∧ t.compOn f = true) ∧
  (∀ (s : State) (src : Fin 4) (port : Fin 8) (ready : BitVec 3), src.val ≠ 3 →
    bitOf (s.mrefReady ready.toNat port.val) src.val = true → (∀ f, f < s.nFields → (s.field f).live = false) →
    s.reg F.CLK_DIV_RAMPING = 0 →
    (s.reg F.BC_ROPE_STATUS_STATE = 0 ∨ s.reg F.BC_ROPE_STATUS_STATE = 1 ∨ s.reg F.BC_ROPE_STATUS_STATE = 7) →
    ∃ t, exec (.mrefSwitch src port ready) s = .next t ∧ t.reg F.CLK_MREF_CUR_SRC = src.val ∧
      t.reg F.CLK_MREF_CUR_PORT = (if src.val = 2 then port.val else 7) ∧ t.reg F.CLK_MREF_STATUS = 0 ∧
      t.reg F.CLK_MREF_READY = s.mrefReady ready.toNat port.val ∧ ({ t with regs := s.regs } : State) = s) ∧
  (∀ (s : State) (src : Fin 4) (port : Fin 8) (ready : BitVec 3), (src.val = 3 ∨
      bitOf (s.mrefReady ready.toNat port.val) src.val = false) →
    ∃ t, exec (.mrefSwitch src port ready) s = .next t ∧ t.reg F.CLK_MREF_REFUSED = 1 ∧ t.reg F.CLK_MREF_STATUS = 2 ∧
      t.reg F.CLK_MREF_CUR_SRC = s.reg F.CLK_MREF_CUR_SRC ∧ ({ t with regs := s.regs } : State) = s) ∧
  (∀ s : State, s.rst.active = false → s.sourceLevel 6 < 4 → ∃ t, exec .mrefFail s = .next t ∧ t.rst.active = true ∧
    t.rst.level = s.sourceLevel 6 ∧ t.rst.all = true ∧ t.rst.heldMin = false) ∧
  (∀ s : State, s.reg F.CLK_DIV_RAMPING = 1 → s.pw.anns = [] → s.divNow < s.pw.goal → s.pw.goal < 64 → s.pw.nextStep ≤ s.acyc →
    s.divNow + 1 ≠ s.pw.goal → ∃ t, exec .dividerStep s = .next t ∧ t.divNow = s.divNow + 1 ∧
      t.reg F.BC_ROPE_RATIO_CURRENT = s.divNow + 1 ∧ t.fields = s.fields ∧ t.reports = s.reports) ∧
  (∀ (s : State) (v : BitVec 8), ∃ t, exec (.hostreq v) s = .next t ∧ t.reg F.CLK_DIV_HOSTREQ = v.toNat ∧
    t.pw.needs.get 0 4 = (if v.toNat < 8 then 0 else min 32 v.toNat) ∧ t.fields = s.fields ∧ t.reports = s.reports) ∧
  (∀ (s : State) (f : Fin 48), s.present f.val = true → bitOf (s.reg F.FLD_PWR_RAILS f.val) 1 = true → s.inReplan f.val = false →
    s.inReset f.val = false → ∃ t, exec (.fieldPllLock f) s = .next t ∧ t.pllLocked f.val = true ∧
      s.onlyRegs t [F.CLK_PLL_FIELD.key 0 0]) ∧
  (∀ (s : State) (f : Fin 48), s.reg F.FLD_RST_STATE f.val = 4 → s.inReplan f.val = false →
    ∃ t, exec (.rstReleaseStall f) s = .next t ∧ t.reg F.FLT_REPLAN_REASON = 6 ∧
      ∃ r q : Report, t.reports = s.reports ++ [r, q] ∧ r.code = Code.rstReleaseStall ∧ q.code = Code.rprReplan) ∧
  (∀ (s : State) (v : BitVec 16), s.reg F.PWR_STATUS_BOWARN = 0 → v.toNat < 10 * s.od 0x2400 1 → v.toNat < s.reg F.PWR_BOR_VMIN →
    s.reg F.PWR_BOR_WARNS < 65535 → ∃ t, exec (.brownOutWarning v) s = .next t ∧ t.reg F.PWR_BOR_VMIN = v.toNat ∧
      t.reg F.PWR_BOR_WARNS = s.reg F.PWR_BOR_WARNS + 1) ∧
  (∀ s : State, s.reg F.PWR_STATUS_BOWARN = 1 → ∃ t, exec .brownOutClear s = .next t ∧ t.reg F.PWR_STATUS_BOWARN = 0 ∧
    t.fields = s.fields ∧ t.reg F.PWR_BOR_WARNS = s.reg F.PWR_BOR_WARNS)

/-- With no reset in progress and a level below L4, each of these answers a next state in which a reset of that level is
active, in its minimum hold, and covers the whole module from L2 up and the named fields below: RESET and HOLD that are
not refused (HOLD also keeps its level), MOD_RESET_N low while the firmware runs, the watchdog, a field's stall, a core
lock-up, a field PLL's and a module PLL's loss of lock. RST_RELEASE with a hold ends the hold and shows STATUS done. A
refused RESET shows STATUS 2 and leaves the reset controller as it is. The end of the minimum hold sets heldMin and,
outside an abort, changes nothing else. A release step with the firmware running does step 1. POR and BOR show source
POR or BOR; MOD_RESET_N high leaves the reset controller as it is; PWR_EN low and a leak response, where the firmware
runs, are a reset at L3 of the whole module; PWR_EN high clears a trip where no leak response stands. Where the rules
leave a choice, this states the model's: assumptions 40 and 43. -/
def Obligations.ResetRequestsTakeEffect : Prop :=
  (∀ (s : State) (level : BitVec 4) (force : Bool), s.rst.active = false → level.toNat < 4 →
    s.swrRefused 1 level.toNat force (s.reg F.RST_SCOPE_ALL = 1) (s.reg F.RST_SCOPE_FIELDS) = false →
    ∃ t, exec (.reset level force) s = .next t ∧ t.rst.active = true ∧ t.rst.level = level.toNat ∧ t.rst.heldMin = false ∧
      t.rst.all = (decide (s.reg F.RST_SCOPE_ALL = 1) || decide (2 ≤ level.toNat)) ∧ t.rst.hold = s.rst.hold) ∧
  (∀ (s : State) (level : BitVec 4) (force : Bool),
    s.swrRefused 1 level.toNat force (s.reg F.RST_SCOPE_ALL = 1) (s.reg F.RST_SCOPE_FIELDS) = true →
    ∃ t, exec (.reset level force) s = .next t ∧ t.rst = s.rst ∧ t.reg F.RST_CMD_STATUS = 2 ∧ t.reg F.RST_CMD_OP = 1 ∧
      ({ t with regs := s.regs } : State) = s) ∧
  (∀ (s : State) (level : BitVec 4) (force : Bool), s.rst.active = false → level.toNat < 4 →
    s.swrRefused 2 level.toNat force (s.reg F.RST_SCOPE_ALL = 1) (s.reg F.RST_SCOPE_FIELDS) = false →
    ∃ t, exec (.hold level force) s = .next t ∧ t.rst.active = true ∧ t.rst.level = level.toNat ∧
      t.rst.hold = some level.toNat ∧ t.rst.heldMin = false) ∧
  (∀ (s : State) (h : Nat), s.rst.hold = some h → ∃ t, exec .rstRelease s = .next t ∧ t.rst.hold = none ∧
    t.reg F.RST_CMD_STATUS = 0 ∧ t.reg F.RST_CMD_OP = 3 ∧ t.fields = s.fields ∧ t.reports = s.reports) ∧
  (∀ s : State, 2 ≤ s.reg F.BC_BOOT_STAGE → s.rst.active = false → s.sourceLevel 2 < 4 → ∃ t, exec .modResetNLow s = .next t ∧
    t.reg F.RST_STATE_PINLOW = 1 ∧ t.rst.active = true ∧ t.rst.level = s.sourceLevel 2 ∧ t.rst.all = true) ∧
  (∀ s : State, s.trust.halted = false → s.rst.active = false → s.sourceLevel 3 < 4 → s.bootFlash.isSome = true →
    ∃ t, exec .wdt s = .next t ∧ t.rst.active = true ∧ t.rst.level = s.sourceLevel 3 ∧ t.rst.all = true ∧
      t.reg F.BC_PAIRS_P0 = 0 ∧ t.reg F.BC_PAIRS_P1 = 1) ∧
  (∀ (s : State) (f : Fin 48), (s.field f.val).live = true → s.pllLocked f.val = true → s.rst.active = false →
    s.sourceLevel 7 < 2 → f.val < s.nFields → ∃ t, exec (.stall f) s = .next t ∧ t.rst.active = true ∧
      t.rst.level = s.sourceLevel 7 ∧ t.rst.all = false ∧ t.rst.fields = 2 ^ f.val) ∧
  (∀ (s : State) (a : Addr) (f key : Nat), s.locate a.toNat = some (f, key) → s.coreReset f = false →
    (s.tile f key).core.state = .handler → (s.tile f key).reg F.CC_WDOG_LIMIT ≠ 0 → s.rst.active = false → s.sourceLevel 7 < 4 →
    ∃ t, exec (.schCoreLockup a) s = .next t ∧ t.rst.active = true ∧ t.rst.level = s.sourceLevel 7 ∧ t.rst.heldMin = false) ∧
  (∀ (s : State) (f : Fin 48), s.present f.val = true → s.pllLocked f.val = true → s.rst.active = false →
    ∃ t, exec (.fieldPllUnlock f) s = .next t ∧ t.rst.active = true ∧ t.rst.level = 1 ∧ t.rst.all = false ∧
      t.rst.fields = 2 ^ f.val) ∧
  (∀ (s : State) (link : Bool), bitOf (s.reg F.CLK_PLL_MOD) (b2n link) = true → s.rst.active = false →
    ∃ t, exec (.modulePllUnlock link) s = .next t ∧ t.rst.active = true ∧ t.rst.all = true ∧
      t.rst.level = min 3 (s.fuse.ceilings.getD 6 3)) ∧
  (∀ s : State, s.rst.active = true → s.rst.heldMin = false → s.ropeState ≠ 5 → ∃ t, exec .minHoldEnd s = .next t ∧
    t.rst.heldMin = true ∧ ({ t with rst := s.rst } : State) = s) ∧
  (∀ (s : State) (ready : BitVec 3) (sel : Fin 4), s.rst.active = true → s.rst.heldMin = true → s.rst.hold = none → s.rst.step = 0 →
    2 ≤ s.reg F.BC_BOOT_STAGE → ∃ t, exec (.releaseStep ready sel) s = .next t ∧ t.rst.step = 1 ∧ t.reg F.RST_STATE_STEP = 1 ∧
      t.rst.active = true ∧ t.fields = s.fields) ∧
  (∀ (s : State) (l : Bool), ∃ t, exec (.por l) s = .next t ∧ t.reg F.RST_CAUSE_SOURCE = b2n (l && s.rst.latch) ∧
    t.rst.heldMin = false ∧ t.pw.boot = true) ∧
  (∀ s : State, ∃ t, exec .bor s = .next t ∧ t.reg F.RST_CAUSE_SOURCE = 1 ∧ t.rst.latch = true ∧ t.pw.boot = false) ∧
  (∀ s : State, ∃ t, exec .modResetNHigh s = .next t ∧ t.reg F.RST_STATE_PINLOW = 0 ∧ t.rst = s.rst ∧ t.fields = s.fields) ∧
  (∀ s : State, 2 ≤ s.reg F.BC_BOOT_STAGE → s.rst.active = false → ∃ t, exec .pwrEnLow s = .next t ∧ t.pw.pwrEn = false ∧
    t.rst.active = true ∧ t.rst.level = 3 ∧ t.rst.all = true) ∧
  (∀ s : State, s.pw.pwrEn = false → s.reg F.PWR_STATUS_LEAK = 0 → ∃ t, exec (.pwrEnHigh true) s = .next t ∧
    t.pw.pwrEn = true ∧ t.reg F.PWR_STATUS_TRIP = 0 ∧ t.rst = s.rst) ∧
  (∀ s : State, 2 ≤ s.reg F.BC_BOOT_STAGE → s.rst.active = false → s.reg F.PWR_STATUS_LEAK = 0 → s.reg F.PWR_STATUS_TRIP = 0 →
    ∃ t, exec .leakResponse s = .next t ∧ t.rst.active = true ∧ t.rst.level = 3 ∧ t.rst.all = true ∧ t.reg F.PWR_STATUS_LEAK = 1)

/-- Each command answers a next state where its condition holds. PAIR_DISAGREE on an ACTIVE pair puts it to TESTING and
records BC_PAIR_FAIL; on another it changes nothing. BCPAIR, with a pair in standby, makes that pair the active one,
raises TAKEOVERS by one (saturating), leaves the stopped pair TESTING and applies no reset. TAKEOVER after a stop makes
the standby pair active. A self-test that ends leaves the pair STANDBY or FAILED, and records BC_PAIR_FAIL where no
TEST_STANDBY asked for it. TEST_STANDBY puts the standby pair to TESTING with STATUS busy, and is refused with STATUS 2
where no pair stands by. SWAP waits for the next commit with STATUS busy, and is refused likewise. Where the rules leave
a choice, this states the model's: assumptions 1, 11 and 52. -/
def Obligations.LockstepPairCommandsComplete : Prop :=
  (∀ s : State, s.pair (s.reg F.BC_PAIRS_ACTIVE) = 0 → ∃ t, exec .pairDisagree s = .next t ∧
    t.pair (s.reg F.BC_PAIRS_ACTIVE) = 2 ∧ s.reports1 t Code.bcPairFail ∧ t.reg F.BC_PAIRS_ACTIVE = s.reg F.BC_PAIRS_ACTIVE) ∧
  (∀ s : State, s.pair (s.reg F.BC_PAIRS_ACTIVE) ≠ 0 → exec .pairDisagree s = .next s) ∧
  (∀ s : State, s.pair (s.reg F.BC_PAIRS_ACTIVE) = 0 → s.pair s.otherPair = 1 → ∃ t, exec .bcpair s = .next t ∧
    t.reg F.BC_PAIRS_ACTIVE = s.otherPair ∧ t.pair s.otherPair = 0 ∧ t.pair (s.reg F.BC_PAIRS_ACTIVE) = 2 ∧
    t.reg F.BC_PAIRS_TAKEOVERS = min (s.reg F.BC_PAIRS_TAKEOVERS + 1) 65535 ∧ t.rst = s.rst ∧ t.lastReport Code.bcPairFail) ∧
  (∀ s : State, s.pair (s.reg F.BC_PAIRS_ACTIVE) ≠ 0 → s.pair s.otherPair = 1 → ∃ t, exec .takeover s = .next t ∧
    t.reg F.BC_PAIRS_ACTIVE = s.otherPair ∧ t.pair s.otherPair = 0 ∧ t.pw.swap = false ∧ t.reports = s.reports) ∧
  (∀ (s : State) (k : Fin 2) (pass : Bool), s.pair k.val = 2 → s.reg F.BC_PAIRS_STATUS ≠ 1 →
    ∃ t, exec (.pairSelfTestDone k pass) s = .next t ∧ t.pair k.val = (if pass then 1 else 3) ∧ s.reports1 t Code.bcPairFail) ∧
  (∀ (s : State) (k : Fin 2), s.pair k.val = 2 → s.reg F.BC_PAIRS_STATUS = 1 → s.reg F.BC_PAIRS_OP = 1 →
    ∃ t, exec (.pairSelfTestDone k true) s = .next t ∧ t.pair k.val = 1 ∧ t.reg F.BC_PAIRS_STATUS = 0 ∧ t.reports = s.reports) ∧
  (∀ s : State, s.pair s.otherPair = 1 → ∃ t, exec .testStandby s = .next t ∧ t.pair s.otherPair = 2 ∧
    t.reg F.BC_PAIRS_STATUS = 1 ∧ t.reg F.BC_PAIRS_OP = 1 ∧ t.reg F.BC_PAIRS_ACTIVE = s.reg F.BC_PAIRS_ACTIVE) ∧
  (∀ s : State, s.pair s.otherPair ≠ 1 → ∃ t, exec .testStandby s = .next t ∧ t.reg F.BC_PAIRS_STATUS = 2 ∧
    s.onlyRegs t [F.BC_PAIRS_STATUS.key 0 0, F.BC_PAIRS_OP.key 0 0]) ∧
  (∀ s : State, s.pair s.otherPair = 1 → ∃ t, exec .swap s = .next t ∧ t.pw.swap = true ∧ t.reg F.BC_PAIRS_STATUS = 1 ∧
    t.reg F.BC_PAIRS_OP = 2 ∧ t.reg F.BC_PAIRS_ACTIVE = s.reg F.BC_PAIRS_ACTIVE)

/-- With start-up in progress STARTUP_STAGE answers a next state. In stage 0, with no flash that verifies, the module enters
recovery, stage 1, with the fault TRUST_FW_VERIFY recorded; with one that verifies, stage 2 follows and the firmware's
flash and version are shown. From stage 2 the module reaches stage 3 in standby with the profile pins as read. From
stage 3, with PWR_EN high, flow of 40 L/min, no trip, no leak and verified parts, stage 4 begins with the rails, out of
standby. From stage 5 with MOD_RESET_N high and locked module PLLs, both lock bits are set and the fabric rails follow.
From stage 6 to 7, from 7 to 8 with pending row skips in force and none left, and from 8 to HOST_READY (9) with an empty
ledger memory after an L4, and with the ledger kept after an L3 whose link layer is out of reset. A low MOD_RESET_N
holds stage 5. In HOST_READY, or with no start-up in progress, nothing changes. Where the rules leave a choice, this
states the model's: assumptions 5, 11 and 39. -/
def Obligations.StartupStagesComplete : Prop :=
  (∀ (s : State) (io : StageInput), s.pw.boot = true → s.reg F.BC_BOOT_STAGE = 0 → s.bootFlash = none →
    ∃ t, exec (.startupStage io) s = .next t ∧ t.reg F.BC_BOOT_STAGE = 1 ∧ t.reg F.BC_BOOT_FAULT = Code.trustFwVerify ∧
      t.reg F.BC_TRUST_STATUS_FAIL = Code.trustFwVerify ∧ s.reports1 t Code.trustFwVerify) ∧
  (∀ (s : State) (io : StageInput) (b : Bool) (w : Firmware), s.pw.boot = true → s.reg F.BC_BOOT_STAGE = 0 →
    s.bootFlash = some (b, w) → ∃ t, exec (.startupStage io) s = .next t ∧ t.reg F.BC_BOOT_STAGE = 2 ∧
      t.reg F.BC_TRUST_STATUS_BOOTB = b2n b ∧ t.reg F.BC_ID_FWVER = w.version.toNat ∧ t.dict.nmt = .preOperational) ∧
  (∀ (s : State) (io : StageInput), s.pw.boot = true → s.reg F.BC_BOOT_STAGE = 2 → ∃ t, exec (.startupStage io) s = .next t ∧
    t.reg F.BC_BOOT_STAGE = 3 ∧ t.reg F.PWR_STATUS_STANDBY = 1 ∧ t.pw.sel = io.sel.val) ∧
  (∀ (s : State) (io : StageInput), s.pw.boot = true → s.reg F.BC_BOOT_STAGE = 3 → s.pw.pwrEn = true → 4000 ≤ s.flow →
    s.reg F.PWR_STATUS_TRIP = 0 → s.reg F.PWR_STATUS_LEAK = 0 → s.pw.tileFw.len ≠ 0 →
    ∃ t, exec (.startupStage io) s = .next t ∧ t.reg F.BC_BOOT_STAGE = 4 ∧ t.reg F.PWR_STATUS_STANDBY = 0 ∧ t.pw.phase = 0 ∧
      t.pw.rail = 0 ∧ t.pw.tries = 0 ∧ s.onlyRegs { t with pw := s.pw } [F.BC_BOOT_STAGE.key 0 0, F.PWR_STATUS_STANDBY.key 0 0]) ∧
  (∀ (s : State) (io : StageInput), s.pw.boot = true → s.reg F.BC_BOOT_STAGE = 3 → s.pw.pwrEn = false →
    exec (.startupStage io) s = .next s) ∧
  (∀ (s : State) (io : StageInput), s.pw.boot = true → s.reg F.BC_BOOT_STAGE = 5 → s.reg F.RST_STATE_PINLOW = 0 → io.lock = true →
    ∃ t, exec (.startupStage io) s = .next t ∧ t.reg F.CLK_PLL_MOD = 3 ∧ t.reg F.BC_BOOT_STAGE = 4 ∧ t.fields = s.fields ∧
      t.reports = s.reports) ∧
  (∀ (s : State) (io : StageInput), s.pw.boot = true → s.reg F.BC_BOOT_STAGE = 6 → s.rst.active = false →
    ∃ t, exec (.startupStage io) s = .next t ∧ t.reg F.BC_BOOT_STAGE = 7) ∧
  (∀ (s : State) (io : StageInput), s.pw.boot = true → s.reg F.BC_BOOT_STAGE = 7 → ∃ t, exec (.startupStage io) s = .next t ∧
    t.reg F.BC_BOOT_STAGE = 8 ∧ ∀ f, f < s.nFields → (t.log.crev.get Crev.zero f).pending = []) ∧
  (∀ (s : State) (io : StageInput), s.pw.boot = true → s.reg F.BC_BOOT_STAGE = 8 → s.pw.level = 4 → s.rst.active = false →
    ∃ t, exec (.startupStage io) s = .next t ∧ t.reg F.BC_BOOT_STAGE = 9 ∧ t.pw.boot = false ∧ t.ldg.mem = [] ∧
      t.ldg.sessions = []) ∧
  (∀ (s : State) (io : StageInput), s.pw.boot = true → s.reg F.BC_BOOT_STAGE = 8 → s.pw.level ≠ 4 → s.linkReset = false →
    ∃ t, exec (.startupStage io) s = .next t ∧ t.reg F.BC_BOOT_STAGE = 9 ∧ t.pw.boot = false ∧ t.ldg = s.ldg) ∧
  (∀ (s : State) (io : StageInput), s.pw.boot = true → s.reg F.BC_BOOT_STAGE = 5 → s.reg F.RST_STATE_PINLOW = 1 →
    exec (.startupStage io) s = .next s) ∧
  (∀ (s : State) (io : StageInput), (s.pw.boot = false ∨ s.reg F.BC_BOOT_STAGE = 9) → exec (.startupStage io) s = .next s)

/-- In recovery (stage 1) RECOVERY_STATUS is answered over I3C; a RECOVERY_WRITE of at most 64 bytes inside 4 MiB puts each
byte at its offset and leaves the others; a RECOVERY_COMMIT of firmware that verifies writes flash A and restarts start-
up at stage 0, and one that does not verify writes nothing. Outside recovery none of the three changes anything. A bloom
check that ends is shown in the tile's CC_BLOOM.OK, and a good one raises the field's OKCOUNT; then the field is
settled. FIRMWARE_UPDATE with the firmware running writes verified firmware into the flash that was not booted, which
boots first from then on; firmware that fails leaves both flashes and records TRUST_FW_VERIFY. Where the rules leave a
choice, this states the model's: assumptions 1, 4, 11 and 39. -/
def Obligations.RecoveryBloomAndUpdateComplete : Prop :=
  (∀ s : State, s.reg F.BC_BOOT_STAGE = 1 → ∃ t, exec .recoveryStatus s = .next t ∧
    (∃ o : Out, t.out = o :: s.out ∧ o.chan = .mctp ∧ o.port = 2 ∧ o.body.take 3 = [0x1F, 0xE7, 1]) ∧ t.regs = s.regs ∧ t.pw = s.pw) ∧
  (∀ (s : State) (off : BitVec 32) (data : List (BitVec 8)), s.reg F.BC_BOOT_STAGE = 1 → data.length ≤ 64 →
    off.toNat + data.length ≤ 2 ^ 22 → ∃ t, exec (.recoveryWrite off data) s = .next t ∧
      (∀ k, k < data.length → t.pw.recovery.get 0 (off.toNat + k) = data.getD k 0) ∧
      (∀ a, a < off.toNat ∨ off.toNat + data.length ≤ a → t.pw.recovery.get 0 a = s.pw.recovery.get 0 a) ∧
      t.regs = s.regs ∧ t.pw.flashA = s.pw.flashA ∧ t.pw.flashB = s.pw.flashB) ∧
  (∀ (s : State) (w : Firmware), s.reg F.BC_BOOT_STAGE = 1 → s.verifies w = true → ∃ t, exec (.recoveryCommit w) s = .next t ∧
    t.pw.flashA = w ∧ t.pw.flashB = s.pw.flashB ∧ t.reg F.BC_BOOT_STAGE = 0 ∧ t.pw.boot = true ∧ t.pw.recovery = []) ∧
  (∀ (s : State) (w : Firmware), s.reg F.BC_BOOT_STAGE = 1 → s.verifies w = false → ∃ t, exec (.recoveryCommit w) s = .next t ∧
    t.pw = s.pw ∧ t.regs = s.regs) ∧
  (∀ (s : State) (w : Firmware) (off : BitVec 32) (data : List (BitVec 8)), s.reg F.BC_BOOT_STAGE ≠ 1 →
    exec .recoveryStatus s = .next s ∧ exec (.recoveryWrite off data) s = .next s ∧ exec (.recoveryCommit w) s = .next s) ∧
  (∀ (s : State) (a : Addr) (f key : Nat), s.locate a.toNat = some (f, key) → (s.tile f key).bloom = true →
    ∃ u : State, exec (.bloomCheck a false) s = .next (u.bloomSettle f) ∧ (u.tile f key).bloom = false ∧
      (u.tile f key).reg F.CC_BLOOM_OK = 0 ∧ u.regs = s.regs ∧ u.reports = s.reports) ∧
  (∀ (s : State) (a : Addr) (f key : Nat), s.locate a.toNat = some (f, key) → (s.tile f key).bloom = true →
    (s.tile f key).reg F.CC_BLOOM_OK = 0 → crc32c (s.tile f key).core.bloomBytes = (s.tile f key).reg F.CC_BLOOM_CRC →
    ∃ u : State, exec (.bloomCheck a true) s = .next (u.bloomSettle f) ∧ (u.tile f key).bloom = false ∧
      (u.tile f key).reg F.CC_BLOOM_OK = 1 ∧
      u.reg F.FLD_BLOOM_OKCOUNT f = (s.reg F.FLD_BLOOM_OKCOUNT f + 1) % 2 ^ F.FLD_BLOOM_OKCOUNT.w) ∧
  (∀ (s : State) (off : BitVec 32) (w : Firmware), 2 ≤ s.reg F.BC_BOOT_STAGE → s.verifies w = true →
    ∃ t, exec (.firmwareUpdate off w) s = .next t ∧ t.regs = s.regs ∧ t.reports = s.reports ∧
      (s.reg F.BC_TRUST_STATUS_BOOTB = 1 → t.pw.flashA = w ∧ t.pw.flashB = s.pw.flashB ∧ t.pw.firstB = false) ∧
      (s.reg F.BC_TRUST_STATUS_BOOTB ≠ 1 → t.pw.flashB = w ∧ t.pw.flashA = s.pw.flashA ∧ t.pw.firstB = true)) ∧
  (∀ (s : State) (off : BitVec 32) (w : Firmware), 2 ≤ s.reg F.BC_BOOT_STAGE → s.verifies w = false →
    ∃ t, exec (.firmwareUpdate off w) s = .next t ∧ t.pw = s.pw ∧ s.reports1 t Code.trustFwVerify ∧
      t.reg F.BC_TRUST_STATUS_FAIL = Code.trustFwVerify)

/-- With the firmware running, for an entry of fixed size that is neither a command nor the survey window 0x4020: DICT_READ
answers a next state whose newest output carries abort code 0 and the value's bytes, little-endian, and OD_READ leaves
them in the port's OD_DATA with STATUS done and the length; an SDO upload of at most 4 bytes on CAN, from a node that is
not stopped, is answered with an expedited frame that holds the value. A read of an index without an entry is answered
with 0x06020000 and changes nothing else. A UDP datagram of one record is answered with one datagram to its source that
holds the COB-ID and the server's frame. A MGMT read cell from a member of the rope is answered with a RESPONSE of the
value, and a RESPONSE is kept for its requester. Where the rules leave a choice, this states the model's: assumptions 57
and 58. -/
def Obligations.DictionaryTransportsAnswerReads : Prop :=
  (∀ (s : State) (i3c : Bool) (ix : BitVec 16) (sub : BitVec 8) (e : Ent), 2 ≤ s.reg F.BC_BOOT_STAGE →
    odAt ix.toNat sub.toNat = .inl e → e.acc ≠ .cmd → e.size ≠ 0 → ix.toNat ≠ 0x4020 →
    ∃ t, exec (.dictRead i3c ix sub) s = .next t ∧ ({ t with out := s.out } : State) = s ∧
      t.out = ⟨.mctp, mctpOf i3c, 0x7E, [0x1F, 0xE7, 0x10, 0, 0, 0, 0] ++ bytesLe e.size (s.odNumber ix.toNat sub.toNat)⟩ :: s.out) ∧
  (∀ (s : State) (i3c : Bool) (ix : BitVec 16) (sub : BitVec 8), 2 ≤ s.reg F.BC_BOOT_STAGE →
    (∀ e, e ∈ odTable → e.key / 256 ≠ ix.toNat) → ∃ t, exec (.dictRead i3c ix sub) s = .next t ∧
      ({ t with out := s.out } : State) = s ∧
      t.out = ⟨.mctp, mctpOf i3c, 0x7E, [0x1F, 0xE7, 0x10] ++ bytesLe 4 0x06020000⟩ :: s.out) ∧
  (∀ (s : State) (port : Fin 2) (ix : BitVec 16) (sub : BitVec 8) (e : Ent), 2 ≤ s.reg F.BC_BOOT_STAGE →
    odAt ix.toNat sub.toNat = .inl e → e.acc ≠ .cmd → e.size ≠ 0 → ix.toNat ≠ 0x4020 →
    ∃ t, exec (.odRead port ix sub) s = .next t ∧ t.reg F.OD_CMD_STATUS port.val = 0 ∧ t.reg F.OD_ABORT_CODE port.val = 0 ∧
      t.reg F.OD_CMD_LEN port.val = e.size ∧ t.reg F.OD_DATA_DATA port.val = leNat (bytesLe e.size (s.odNumber ix.toNat sub.toNat)) ∧
      ({ t with regs := s.regs } : State) = s) ∧
  (∀ (s : State) (frame : List (BitVec 8)) (ix sub : Nat) (e : Ent), 2 ≤ s.reg F.BC_BOOT_STAGE →
    (s.dict.nmt = .preOperational ∨ s.dict.nmt = .operational) → ix < 65536 → sub < 256 →
    frame.map (·.toNat) = [0x40, ix % 256, ix / 256, sub, 0, 0, 0, 0] → odAt ix sub = .inl e → e.acc ≠ .cmd → e.size ≠ 0 →
    e.size ≤ 4 → ix ≠ 0x4020 → ∃ t, exec (.sdoRequest frame) s = .next t ∧ t.regs = s.regs ∧ t.dict.work = s.dict.work ∧
      t.out = ⟨.can, 0, 0x580 + s.dict.node, (0x43 + 4 * (4 - e.size)) :: bytesLe 2 ix ++ [sub] ++
        padTo 4 (bytesLe e.size (s.odNumber ix sub))⟩ :: s.out) ∧
  (∀ (s : State) (source : BitVec 48) (cob : BitVec 16) (fr : List (BitVec 8)), 2 ≤ s.reg F.BC_BOOT_STAGE →
    cob.toNat = 0x600 + s.dict.node → fr.length = 8 → ∃ t, exec (.udpDatagram source [(cob, fr)]) s = .next t ∧
      ∃ l, t.out = ⟨.udp, 0, source.toNat, bytesLe 2 (0x580 + s.dict.node) ++
        (s.sdoServe (udpSource source) 3 (fr.map (·.toNat))).2⟩ :: l) ∧
  (∀ (s u : State) (stop : Nat) (c : Cell) (e : Ent), s.takeCell (fun c => c.type = 6) = some ((stop, c), u) →
    leAt c.body 0 1 = 1 → u.inRope = true → u.rdesc.inside c.src = true → 2 ≤ u.reg F.BC_BOOT_STAGE →
    odAt (leAt c.body 4 2) (leAt c.body 6 1) = .inl e → e.acc ≠ .cmd → e.size ≠ 0 → leAt c.body 4 2 ≠ 0x4020 →
    exec .mgmt s = .next (u.sendCell c.src 6 (mgmtBody (leAt c.body 2 2) (leAt c.body 4 2) (leAt c.body 6 1) 0
      (bytesLe e.size (u.odNumber (leAt c.body 4 2) (leAt c.body 6 1)))))) ∧
  (∀ (s u : State) (stop : Nat) (c : Cell), s.takeCell (fun c => c.type = 6) = some ((stop, c), u) → leAt c.body 0 1 = 3 →
    ∃ t, exec .mgmt s = .next t ∧ t.bcl.data = u.bcl.data ++ [(leAt c.body 2 2, leAt c.body 8 4, (c.body.drop 12).take (leAt c.body 7 1))] ∧
      t.regs = s.regs ∧ t.dict = s.dict)

/-- With the firmware running, DICT_WRITE and OD_WRITE of an RW entry of fixed size, with the right length, a value in range
that no rule of the entry refuses, and the transport enabled in 0x2040:01, answer a next state in which the entry reads
as the value written and abort code 0 is answered. An RO or CONST entry answers 0x06010002, a masked transport
0x08000020, a wrong length 0x06070010 and a value out of range 0x06090030, each with the working values unchanged.
DICT_NEXT and OD_NEXT answer the first entry above the address, in order of index and subindex, or 0x06020000 with none.
A segment timeout ends its transfer and sends the SDO abort 0x05040000 on CAN. Where the rules leave a choice, this
states the model's: assumptions 57 and 58. -/
def Obligations.DictionaryTransportsWriteEntries : Prop :=
  (∀ (s : State) (i3c : Bool) (ix : BitVec 16) (sub : BitVec 8) (data : List (BitVec 8)) (e : Ent),
    2 ≤ s.reg F.BC_BOOT_STAGE → odAt ix.toNat sub.toNat = .inl e → e.acc = .rw → e.size ≠ 0 → data.length = e.size →
    bitOf (s.od 0x2040 1) (mctpOf i3c) = true → e.lo ≤ leNat (data.map (·.toNat)) → leNat (data.map (·.toNat)) ≤ e.hi →
    s.odSpecial ix.toNat sub.toNat (leNat (data.map (·.toNat))) = 0 → ix.toNat ≠ 0x4020 →
    ∃ t, exec (.dictWrite i3c ix sub data) s = .next t ∧ t.od ix.toNat sub.toNat = leNat (data.map (·.toNat)) ∧
      ∃ l, t.out = ⟨.mctp, mctpOf i3c, 0x7E, [0x1F, 0xE7, 0x11, 0, 0, 0, 0]⟩ :: l) ∧
  (∀ (s : State) (i3c : Bool) (ix : BitVec 16) (sub : BitVec 8) (data : List (BitVec 8)) (e : Ent),
    2 ≤ s.reg F.BC_BOOT_STAGE → odAt ix.toNat sub.toNat = .inl e → (e.acc = .ro ∨ e.acc = .const) →
    ∃ t, exec (.dictWrite i3c ix sub data) s = .next t ∧ t.dict = s.dict ∧ t.regs = s.regs ∧
      t.out = ⟨.mctp, mctpOf i3c, 0x7E, [0x1F, 0xE7, 0x11] ++ bytesLe 4 0x06010002⟩ :: s.out) ∧
  (∀ (s : State) (i3c : Bool) (ix : BitVec 16) (sub : BitVec 8) (data : List (BitVec 8)) (e : Ent),
    2 ≤ s.reg F.BC_BOOT_STAGE → odAt ix.toNat sub.toNat = .inl e → (e.acc = .rw ∨ e.acc = .cmd) →
    bitOf (s.od 0x2040 1) (mctpOf i3c) = false → ∃ t, exec (.dictWrite i3c ix sub data) s = .next t ∧ t.dict = s.dict ∧
      t.out = ⟨.mctp, mctpOf i3c, 0x7E, [0x1F, 0xE7, 0x11] ++ bytesLe 4 0x08000020⟩ :: s.out) ∧
  (∀ (s : State) (port : Fin 2) (ix : BitVec 16) (sub : BitVec 8) (len : BitVec 12) (e : Ent),
    2 ≤ s.reg F.BC_BOOT_STAGE → odAt ix.toNat sub.toNat = .inl e → e.acc = .rw → e.size ≠ 0 → len.toNat = e.size →
    bitOf (s.od 0x2040 1) 4 = true → e.lo ≤ leNat (s.odData port.val e.size) → leNat (s.odData port.val e.size) ≤ e.hi →
    s.odSpecial ix.toNat sub.toNat (leNat (s.odData port.val e.size)) = 0 → ix.toNat ≠ 0x4020 →
    ∃ t, exec (.odWrite port ix sub len) s = .next t ∧ t.od ix.toNat sub.toNat = leNat (s.odData port.val e.size) ∧
      t.reg F.OD_CMD_STATUS port.val = 0 ∧ t.reg F.OD_ABORT_CODE port.val = 0) ∧
  (∀ (s : State) (port : Fin 2) (ix : BitVec 16) (sub : BitVec 8) (len : BitVec 12) (e : Ent),
    2 ≤ s.reg F.BC_BOOT_STAGE → odAt ix.toNat sub.toNat = .inl e → e.acc = .rw → e.size ≠ 0 → len.toNat ≠ e.size →
    len.toNat ≤ 1024 → bitOf (s.od 0x2040 1) 4 = true → ∃ t, exec (.odWrite port ix sub len) s = .next t ∧ t.dict = s.dict ∧
      t.reg F.OD_CMD_STATUS port.val = 2 ∧ t.reg F.OD_ABORT_CODE port.val = 0x06070010) ∧
  (∀ (s : State) (port : Fin 2) (ix : BitVec 16) (sub : BitVec 8) (len : BitVec 12) (e : Ent),
    2 ≤ s.reg F.BC_BOOT_STAGE → odAt ix.toNat sub.toNat = .inl e → e.acc = .rw → e.size ≠ 0 → len.toNat = e.size →
    bitOf (s.od 0x2040 1) 4 = true → (leNat (s.odData port.val e.size) < e.lo ∨ e.hi < leNat (s.odData port.val e.size)) →
    ∃ t, exec (.odWrite port ix sub len) s = .next t ∧ t.dict = s.dict ∧ t.reg F.OD_CMD_STATUS port.val = 2 ∧
      t.reg F.OD_ABORT_CODE port.val = 0x06090030) ∧
  (∀ (s : State) (i3c : Bool) (ix : BitVec 16) (sub : BitVec 8) (e : Ent), 2 ≤ s.reg F.BC_BOOT_STAGE →
    odNext ix.toNat sub.toNat = some e → odKey ix.toNat sub.toNat < e.key ∧ e ∈ odTable ∧
      (∀ x, x ∈ odTable → odKey ix.toNat sub.toNat < x.key → e.key ≤ x.key) ∧
      ∃ t, exec (.dictNext i3c ix sub) s = .next t ∧ ({ t with out := s.out } : State) = s ∧
        t.out = ⟨.mctp, mctpOf i3c, 0x7E, [0x1F, 0xE7, 0x12, 0, 0, 0, 0] ++ bytesLe 2 (e.key / 256) ++ [e.key % 256]⟩ :: s.out) ∧
  (∀ (s : State) (port : Fin 2) (ix : BitVec 16) (sub : BitVec 8) (e : Ent), 2 ≤ s.reg F.BC_BOOT_STAGE →
    odNext ix.toNat sub.toNat = some e → ∃ t, exec (.odNext port ix sub) s = .next t ∧ t.reg F.OD_CMD_STATUS port.val = 0 ∧
      t.reg F.OD_CMD_OP port.val = 3 ∧ t.reg F.OD_DATA_DATA port.val = e.key / 256 + 65536 * (e.key % 256) ∧
      ({ t with regs := s.regs } : State) = s) ∧
  (∀ (s : State) (port : Fin 2) (ix : BitVec 16) (sub : BitVec 8), 2 ≤ s.reg F.BC_BOOT_STAGE → odNext ix.toNat sub.toNat = none →
    ∃ t, exec (.odNext port ix sub) s = .next t ∧ t.reg F.OD_CMD_STATUS port.val = 2 ∧
      t.reg F.OD_ABORT_CODE port.val = 0x06020000) ∧
  (∀ (s : State) (x : Sdo), s.sdoOf 0 = some x → ∃ t, exec (.sdoTimeout none) s = .next t ∧ t.sdoOf 0 = none ∧
    t.out = ⟨.can, 0, 0x580 + s.dict.node, sdoAbort (x.key / 256) (x.key % 256) 0x05040000⟩ :: s.out ∧ t.dict.work = s.dict.work)

/-- Each command answers a next state. With the node booted, the three NMT state commands set its state and nothing else;
RESET_NODE and RESET_COMMUNICATION send the boot-up message with the node ID in force and leave it Pre-operational.
NMT_AUTOSTART starts a Pre-operational node where 0x2020:06 is 1. With the PDO mappings at their defaults, an RPDO1 of
at least five bytes, in Operational, sets inlet temperature, flow and CDU status from bytes 1:0, 3:2 and 4, little-
endian, and withdraws the missing-PDO warning. TPDO1, the first since start-up, goes out with flow demand, outlet
temperature, power and status byte on the COB-ID of 0x1800:01 in Operational. TPDO2 sets the input voltage and current
and sends them with 0x5000:01. PRODUCER_HEARTBEAT sends 127 in Pre-operational and 5 in Operational where the period is
not 0. FLOW_DEMAND sets 0x2300:08 to a value from 40 to 60 L/min, the quotient of R416 within them. Where the rules
leave a choice, this states the model's: assumptions 42, 57 and 58. -/
def Obligations.NodeAndCoolantExchangeComplete : Prop :=
  (∀ s : State, s.dict.nmt ≠ .off → ∃ t, exec .nmtStart s = .next t ∧ t.dict.nmt = .operational ∧
    ({ t with dict := { t.dict with nmt := s.dict.nmt } } : State) = s) ∧
  (∀ s : State, s.dict.nmt ≠ .off → ∃ t, exec .nmtStop s = .next t ∧ t.dict.nmt = .stopped ∧
    ({ t with dict := { t.dict with nmt := s.dict.nmt } } : State) = s) ∧
  (∀ s : State, s.dict.nmt ≠ .off → ∃ t, exec .enterPreOperational s = .next t ∧ t.dict.nmt = .preOperational ∧
    ({ t with dict := { t.dict with nmt := s.dict.nmt } } : State) = s) ∧
  (∀ s : State, s.dict.nmt ≠ .off → ∃ t, exec .resetNode s = .next t ∧ t.dict.nmt = .preOperational ∧ t.regs = s.regs ∧
    t.out = ⟨.can, 0, 0x700 + t.dict.node, [0]⟩ :: s.out) ∧
  (∀ s : State, s.dict.nmt ≠ .off → ∃ t, exec .resetCommunication s = .next t ∧ t.dict.nmt = .preOperational ∧ t.regs = s.regs ∧
    t.out = ⟨.can, 0, 0x700 + t.dict.node, [0]⟩ :: s.out) ∧
  (∀ s : State, s.dict.nmt = .preOperational → s.od 0x2020 6 = 1 → ∃ t, exec .nmtAutostart s = .next t ∧
    t.dict.nmt = .operational ∧ ({ t with dict := { t.dict with nmt := s.dict.nmt } } : State) = s) ∧
  (∀ (s : State) (a b c d e : BitVec 8) (l : List (BitVec 8)), s.dict.nmt = .operational →
    s.pdoMap 0x1600 3 = [(0x2300, 1, 2), (0x2300, 2, 2), (0x2300, 10, 1)] →
    ∃ t, exec (.rpdo1 (a :: b :: c :: d :: e :: l)) s = .next t ∧ t.od 0x2300 1 = a.toNat + 256 * b.toNat ∧
      t.od 0x2300 2 = c.toNat + 256 * d.toNat ∧ t.od 0x2300 10 = e.toNat ∧ bitOf t.pw.warn 1 = false ∧ t.regs = s.regs ∧
      t.out = s.out ∧ (4000 ≤ t.flow → bitOf t.pw.warn 0 = false)) ∧
  (∀ (s : State) (outlet : BitVec 16), s.dict.nmt = .operational → s.dict.lastTpdo1 = 0 →
    s.pdoMap 0x1A00 4 = [(0x2300, 8, 2), (0x2300, 3, 2), (0x4000, 1, 2), (0x2300, 9, 1)] →
    ∃ t, exec (.tpdo1 outlet) s = .next t ∧ t.od 0x2300 3 = outlet.toNat ∧ t.regs = s.regs ∧
      t.out = ⟨.can, 0, s.odEff 0x1800 1, bytesLe 2 s.flowDemand ++ bytesLe 2 outlet.toNat ++ bytesLe 2 (s.od 0x4000 1) ++
        [s.coolantStatus]⟩ :: s.out) ∧
  (∀ (s : State) (volts amps : BitVec 16), s.dict.nmt = .operational →
    s.pdoMap 0x1A01 3 = [(0x4000, 2, 2), (0x4000, 3, 2), (0x5000, 1, 2)] → ∃ t, exec (.tpdo2 volts amps) s = .next t ∧
    t.od 0x4000 2 = volts.toNat ∧ t.od 0x4000 3 = amps.toNat ∧ t.reg F.PWR_STATUS_VIN = volts.toNat ∧
    t.reg F.PWR_STATUS_IIN = amps.toNat ∧ t.out = ⟨.can, 0, s.odEff 0x1801 1,
      bytesLe 2 volts.toNat ++ bytesLe 2 amps.toNat ++ bytesLe 2 (s.od 0x5000 1)⟩ :: s.out) ∧
  (∀ s : State, s.dict.nmt = .preOperational ∨ s.dict.nmt = .operational → s.od 0x1017 0 ≠ 0 →
    ∃ t, exec .producerHeartbeat s = .next t ∧ ({ t with out := s.out } : State) = s ∧
      t.out = ⟨.can, 0, 0x700 + s.dict.node, [if s.dict.nmt = .operational then 5 else 127]⟩ :: s.out) ∧
  (∀ (s : State) (watts : BitVec 32), s.od 0x2300 7 * s.od 0x2300 6 ≠ 0 → ∃ t, exec (.flowDemand watts) s = .next t ∧
    t.od 0x4000 1 = watts.toNat ∧ 4000 ≤ t.od 0x2300 8 ∧ t.od 0x2300 8 ≤ 6000 ∧ t.regs = s.regs ∧
    t.od 0x2300 8 = min 6000 (max 4000 ((2 * 58800 * watts.toNat + s.od 0x2300 7 * s.od 0x2300 6) /
      (2 * (s.od 0x2300 7 * s.od 0x2300 6)))))

/-- SAVE with a slot from 1 up stores the working value of every profile-stored entry in that slot, with the command's
status done; a save to slot 0 is refused with 0x08000022 and stores nothing. LOAD sets every profile-stored entry to the
factory value of the active slot, or to the fuses' level for a reset source. A pending profile switch loads the live
entries of the slot at once and shows it in 0x2000:05. An immediate switch is refused with 0x08000022 while a session is
begun, an invocation runs or a rope is in the way, and otherwise, with no reset in progress, puts the whole module into
an L2 reset by software. APPLY copies the topology entries to HX_TOPO with VALID set, and is refused with 0x08000022 in
a rope. Where the rules leave a choice, this states the model's: assumptions 41 and 58. -/
def Obligations.ProfileAndTopologyCommandsComplete : Prop :=
  (∀ s : State, s.saveTarget ≠ 0 → ∃ t, exec .save s = .next t ∧ t.dict.cmdStatus.get 0 (odKey 0x1010 1) = 0 ∧
    t.regs = s.regs ∧ ∀ e, e ∈ profileEnts → t.slotValue s.saveTarget e = s.od (e.key / 256) (e.key % 256)) ∧
  (∀ s : State, s.saveTarget = 0 → ∃ t, exec .save s = .next t ∧ t.dict.slots = s.dict.slots ∧
    t.dict.cmdStatus.get 0 (odKey 0x1010 1) = 2 + 2 ^ 32 * 0x08000022) ∧
  (∀ s : State, ∃ t, exec .load s = .next t ∧ t.dict.cmdStatus.get 0 (odKey 0x1011 1) = 0 ∧ t.regs = s.regs ∧
    ∀ e, e ∈ profileEnts → t.od (e.key / 256) (e.key % 256) =
      (if odKey 0x3000 1 ≤ e.key ∧ e.key ≤ odKey 0x3000 8 then s.fuse.levels.getD (e.key - odKey 0x3000 1) 0
        else factory (s.od 0x2000 1) e)) ∧
  (∀ (s : State) (n : Fin 4), ∃ t, exec (.profileSwitchPending n) s = .next t ∧ t.od 0x2000 5 = n.val ∧ t.regs = s.regs ∧
    (∀ e, e ∈ profileEnts → e.live = true → t.od (e.key / 256) (e.key % 256) = s.slotValue n.val e) ∧
    t.dict.effect = s.dict.effect ∧ t.dict.slots = s.dict.slots) ∧
  (∀ (s : State) (n : Fin 4), s.switchBusy = true → ∃ t, exec (.profileSwitchImmediate n) s = .next t ∧ t.regs = s.regs ∧
    t.dict.cmdStatus.get 0 (odKey 0x2000 2) = 2 + 2 ^ 32 * 0x08000022 ∧ t.rst = s.rst ∧ t.dict.slots = s.dict.slots) ∧
  (∀ (s : State) (n : Fin 4), s.switchBusy = false → s.rst.active = false → ∃ t, exec (.profileSwitchImmediate n) s = .next t ∧
    t.rst.active = true ∧ t.rst.level = 2 ∧ t.rst.all = true ∧ t.rst.heldMin = false) ∧
  (∀ s : State, s.reg F.BC_ROPE_STATUS_STATE = 0 ∨ s.reg F.BC_ROPE_STATUS_STATE = 7 → ∃ t, exec .apply s = .next t ∧
    t.reg F.HX_TOPO_COORD = s.od 0x6010 1 % 2 ^ F.HX_TOPO_COORD.w ∧ t.reg F.HX_TOPO_NXM1 = s.od 0x6010 2 % 2 ^ F.HX_TOPO_NXM1.w ∧
    t.reg F.HX_TOPO_NYM1 = s.od 0x6010 3 % 2 ^ F.HX_TOPO_NYM1.w ∧ t.reg F.HX_TOPO_NZM1 = s.od 0x6010 4 % 2 ^ F.HX_TOPO_NZM1.w ∧
    t.reg F.HX_TOPO_VALID = 1 ∧ t.dict.cmdStatus.get 0 (odKey 0x6010 5) = 0) ∧
  (∀ s : State, s.reg F.BC_ROPE_STATUS_STATE ≠ 0 → s.reg F.BC_ROPE_STATUS_STATE ≠ 7 → ∃ t, exec .apply s = .next t ∧
    t.regs = s.regs ∧ t.dict.cmdStatus.get 0 (odKey 0x6010 5) = 2 + 2 ^ 32 * 0x08000022)

/-- STANDALONE_TEST with nothing in the way and an image that passes every installation check installs it under its tenant
and leaves the test waiting for its invocation, with the command's status busy; with a session, an invocation or a rope
in the way it is refused with 0x08000022 and the image stays. BURN_IN does the same in Crocus with its end time kept,
and is refused in another profile. INSTALL while an invocation runs, on a busy tenant change or in a rope is refused
with reason BUSY; one that fails check k is refused with its reason, the staged container reads zero, and the image and
its copy stay; one that passes is COMMITTING with STATUS busy. Its commit makes the image and its copy the checked one,
of the staged tenant, READY, with STATUS done. REMOVE leaves no image and no copy, and keeps the tenant. Where the rules
leave a choice, this states the model's: assumption 47. -/
def Obligations.TestAndInstallCommandsComplete : Prop :=
  (∀ (s : State) (ix : BitVec 8) (ok : Bool) (tenant : Fin 16) (plain : Blob), s.soloRefused = false →
    (s.setOd 0x2600 1 ix.toNat).installCheck ⟨plain⟩ (ok && decide (ix.toNat < 8 ∧ 1 ≤ tenant.val ∧ tenant.val ≤ 15)) = 0 →
    ∃ t, exec (.standaloneTest ix ok tenant plain) s = .next t ∧ t.image = some ⟨plain⟩ ∧ t.copy = some ⟨plain⟩ ∧
      t.tenant = tenant.val ∧ t.dict.test = some ⟨ix.toNat, none, false, 0⟩ ∧ t.dict.cmdStatus.get 0 (odKey 0x2600 1) = 1) ∧
  (∀ (s : State) (ix : BitVec 8) (ok : Bool) (tenant : Fin 16) (plain : Blob), s.soloRefused = true →
    ∃ t, exec (.standaloneTest ix ok tenant plain) s = .next t ∧ t.image = s.image ∧ t.dict.test = s.dict.test ∧
      t.dict.cmdStatus.get 0 (odKey 0x2600 1) = 2 + 2 ^ 32 * 0x08000022) ∧
  (∀ (s : State) (ix : BitVec 8) (secs : BitVec 32) (d2 : BitVec 8) (ok : Bool) (tenant : Fin 16) (plain : Blob),
    s.crocus = true → s.soloRefused = false → s.dict.test = none →
    (s.setOd 0x2600 1 ix.toNat).installCheck ⟨plain⟩ (ok && decide (ix.toNat < 8 ∧ 1 ≤ tenant.val ∧ tenant.val ≤ 15)) = 0 →
    ∃ t, exec (.burnIn ix secs d2 ok tenant plain) s = .next t ∧ t.image = some ⟨plain⟩ ∧ t.tenant = tenant.val ∧
      t.dict.test = some ⟨ix.toNat, some (s.ref + secs.toNat * 100000000), false, 0⟩ ∧
      t.pw.needs.get 0 4 = min 32 (max 8 d2.toNat)) ∧
  (∀ (s : State) (ix : BitVec 8) (secs : BitVec 32) (d2 : BitVec 8) (ok : Bool) (tenant : Fin 16) (plain : Blob),
    s.crocus = false → ∃ t, exec (.burnIn ix secs d2 ok tenant plain) s = .next t ∧ t.image = s.image ∧
      t.dict.test = s.dict.test ∧ t.dict.cmdStatus.get 0 (odKey 0x2600 1) = 2 + 2 ^ 32 * 0x08000022 ∧ t.regs = s.regs) ∧
  (∀ (s : State) (len : BitVec 48) (a b c : Bool) (plain : Blob), s.pendingImg = none →
    (s.invocationRuns = true ∨ s.tenantBusy = true ∨ s.ropeIdle = false) → ∃ t, exec (.install len a b c plain) s = .next t ∧
      t.reg F.BC_IMG_STATUS_REASON = 0x10 ∧ t.reg F.BC_IMG_CMD_STATUS = 2 ∧ t.reg F.BC_IMG_CMD_OP = 1 ∧
      ({ t with regs := s.regs } : State) = s) ∧
  (∀ (s : State) (len : BitVec 48) (a b c : Bool) (plain : Blob) (k : Nat), s.pendingImg = none → s.invocationRuns = false →
    s.tenantBusy = false → s.ropeIdle = true → k ≠ 0 → k < 256 →
    (s.setReg F.BC_IMG_CMD_LENGTH len.toNat).installCheck ⟨plain⟩ (s.containerOk len.toNat a b c plain) = k →
    ∃ t, exec (.install len a b c plain) s = .next t ∧ t.reg F.BC_IMG_STATUS_REASON = k ∧ t.reg F.BC_IMG_CMD_STATUS = 2 ∧
      t.image = s.image ∧ t.copy = s.copy ∧ t.pendingImg = none ∧ ∀ i, i < len.toNat → t.staging.get 0 i = 0) ∧
  (∀ (s : State) (len : BitVec 48) (a b c : Bool) (plain : Blob), s.pendingImg = none → s.invocationRuns = false →
    s.tenantBusy = false → s.ropeIdle = true →
    (s.setReg F.BC_IMG_CMD_LENGTH len.toNat).installCheck ⟨plain⟩ (s.containerOk len.toNat a b c plain) = 0 →
    ∃ t, exec (.install len a b c plain) s = .next t ∧ t.pendingImg = some ⟨plain⟩ ∧ t.reg F.BC_IMG_STATUS_STATE = 1 ∧
      t.reg F.BC_IMG_CMD_STATUS = 1 ∧ t.reg F.BC_IMG_CMD_OP = 1 ∧ t.image = s.image ∧ t.copy = s.copy ∧ t.fields = s.fields) ∧
  (∀ (s : State) (m : Img), s.pendingImg = some m → ∃ t, exec .installCommit s = .next t ∧ t.image = some m ∧ t.copy = some m ∧
    t.pendingImg = none ∧ t.tenant = s.staged 7 1 ∧ t.run = Run.zero ∧ t.invq = [] ∧ t.reg F.BC_IMG_STATUS_STATE = 2 ∧
    t.reg F.BC_IMG_CMD_STATUS = 0 ∧ t.reg F.BC_IMG_CMD_OP = 1 ∧ ∀ i, i < s.reg F.BC_IMG_CMD_LENGTH → t.staging.get 0 i = 0) ∧
  (∀ s : State, s.pendingImg = none → s.invocationRuns = false → s.ropeIdle = true → ∃ t, exec .remove s = .next t ∧
    t.image = none ∧ t.copy = none ∧ t.run = Run.zero ∧ t.tenant = s.tenant ∧ t.reg F.BC_IMG_STATUS_STATE = 0 ∧
    t.reg F.BC_IMG_CMD_STATUS = 0 ∧ t.reg F.BC_IMG_CMD_OP = 2 ∧ t.staging = s.staging) ∧
  (∀ s : State, s.pendingImg = none → (s.invocationRuns = true ∨ s.ropeIdle = false) → ∃ t, exec .remove s = .next t ∧
    t.reg F.BC_IMG_STATUS_REASON = 0x10 ∧ t.reg F.BC_IMG_CMD_STATUS = 2 ∧ ({ t with regs := s.regs } : State) = s)

/-- HOLD_OUT of a present field that the installed image does not use and that is not held out leaves the field OUT with
STATUS done and every tile in HALT with colour 0; in use, or held out already, it is refused with STATUS 2 and nothing
else changes. RETURN of an OUT field leaves it RETURNING with STATUS busy, every scratch word of its tiles zero with tag
0, its bloom begun, and its compute rail asked for where it is off; of another field it is refused. With the compute
rail on, the completion leaves it IN with STATUS done, and without it a RETURNING field stays as it is. Where the rules
leave a choice, this states the model's: assumption 43. -/
def Obligations.HeldOutFieldCommandsComplete : Prop :=
  (∀ (s : State) (f : Fin 48), s.present f.val = true → s.mode f.val = 0 → s.heldOut f.val = false →
    ∃ t, exec (.holdOut f) s = .next t ∧ t.reg F.FLD_HOLD_STATE f.val = 1 ∧ t.reg F.FLD_HOLD_STATUS f.val = 0 ∧
      t.everyTile f.val (fun x => x.seq.state = .halt ∧ x.seq.colour = 0) ∧ t.reports = s.reports) ∧
  (∀ (s : State) (f : Fin 48), s.present f.val = true → (s.mode f.val ≠ 0 ∨ s.heldOut f.val = true) →
    ∃ t, exec (.holdOut f) s = .next t ∧ t.reg F.FLD_HOLD_STATUS f.val = 2 ∧ t.reg F.FLD_HOLD_OP f.val = 1 ∧
      s.onlyRegs t [F.FLD_HOLD_STATUS.key f.val 0, F.FLD_HOLD_OP.key f.val 0]) ∧
  (∀ (s : State) (f : Fin 48), s.present f.val = true → s.reg F.FLD_HOLD_STATE f.val = 1 → ∃ t, exec (.return_ f) s = .next t ∧
    t.reg F.FLD_HOLD_STATE f.val = 2 ∧ t.reg F.FLD_HOLD_STATUS f.val = 1 ∧ t.reg F.FLD_BLOOM_DONE f.val = 0 ∧
    t.reg F.FLD_BLOOM_ATTEMPTS f.val = 1 ∧ (s.compOn f.val = false → f.val ∈ t.pw.wake) ∧
    t.everyTile f.val (fun x => ∀ i, i < 8192 → x.scrWord i = CWord.zero)) ∧
  (∀ (s : State) (f : Fin 48), s.present f.val = true → s.reg F.FLD_HOLD_STATE f.val ≠ 1 → ∃ t, exec (.return_ f) s = .next t ∧
    t.reg F.FLD_HOLD_STATUS f.val = 2 ∧ t.reg F.FLD_HOLD_OP f.val = 2 ∧
    s.onlyRegs t [F.FLD_HOLD_STATUS.key f.val 0, F.FLD_HOLD_OP.key f.val 0]) ∧
  (∀ (s : State) (f : Fin 48), s.reg F.FLD_HOLD_STATE f.val = 2 → s.compOn f.val = true →
    ∃ t, exec (.returnComplete f) s = .next t ∧ t.reg F.FLD_HOLD_STATE f.val = 0 ∧ t.reg F.FLD_HOLD_STATUS f.val = 0 ∧
      t.reg F.FLD_HOLD_OP f.val = 2) ∧
  (∀ (s : State) (f : Fin 48), s.reg F.FLD_HOLD_STATE f.val = 2 → s.compOn f.val = false → exec (.returnComplete f) s = .next s)

/-- INVOCATION_ISSUE of a wanted entry by a running rope of one whose used ports are all up, placed where the anchor may,
appends the invocation with the next sequence number to those that wait; with a used port short, or for an entry no one
wants, nothing but the upsets it carries happens. INVOCATION_START of the oldest waiting one names it as a cold start
where none runs and its start has not passed, with BC_IMG_STATUS RUNNING, or chained where it may chain; it drops one
that R167 refuses, with reason INV_LENGTH, and one that finds a used port short. SECTION_SWITCH, where a switch comes
next and no tile scan holds it, moves the array to the switch acycle and runs the next section from there for its
length; an entry switch makes the named invocation the running one, its section valid, and waits while a scan of a used
field is in progress. INVOCATION_END of the LAST section with none chained leaves nothing running, at the end acycle,
with the image READY. Where the rules leave a choice, this states the model's: assumptions 28, 29, 30 and 45. -/
def Obligations.InvocationCommandsComplete : Prop :=
  (∀ (s u : State) (m : Img) (e : BitVec 8) (start now : BitVec 64) (ups : List (Addr × Upset)) (n : Nat),
    u = s.upsets ups → u.image = some m → u.solo = true → u.ropeState = 4 → u.usedShort = false → e.toNat < m.entries →
    u.entryWanted e.toNat = true → m.invLength e.toNat (u.invParams e.toNat u.rope.nextSeq) = some n →
    u.placeOk m e.toNat now.toNat start.toNat = true → u.rope.nextSeq < 2 ^ 64 →
    (∀ p, p ∈ u.invParams e.toNat u.rope.nextSeq → p < 2 ^ 32) →
    ∃ t, exec (.invocationIssue e start now ups) s = .next t ∧
      t.invq = u.invq ++ [⟨u.rope.nextSeq, e.toNat, start.toNat, u.invParams e.toNat u.rope.nextSeq⟩] ∧
      t.rope.nextSeq = u.rope.nextSeq + 1 ∧ t.run = u.run ∧ t.image = u.image) ∧
  (∀ (s u : State) (m : Img) (e : BitVec 8) (start now : BitVec 64) (ups : List (Addr × Upset)), u = s.upsets ups →
    u.image = some m → (u.usedShort = true ∨ u.entryWanted e.toNat = false) →
    exec (.invocationIssue e start now ups) s = .next u) ∧
  (∀ (s : State) (m : Img) (i : Invocation) (rest : List Invocation) (ls : List Nat) (streams : List (Addr × BitVec 23)),
    s.image = some m → s.invq = i :: rest → s.usedShort = false → s.run.nxt = none → s.run.cur = none → s.acyc ≤ i.start →
    m.lengths i.params (m.sections + 1) (m.entrySec i.entry) = some ls → ∃ t, exec (.invocationStart streams) s = .next t ∧
      t.invq = rest ∧ t.run.nxt = some (i, true, ls) ∧ t.reg F.BC_IMG_STATUS_STATE = 3) ∧
  (∀ (s : State) (m : Img) (i : Invocation) (rest : List Invocation) (ls : List Nat) (streams : List (Addr × BitVec 23)),
    s.image = some m → s.invq = i :: rest → s.usedShort = false → s.run.nxt = none → s.chains m i = true →
    m.lengths i.params (m.sections + 1) (m.entrySec i.entry) = some ls → ∃ t, exec (.invocationStart streams) s = .next t ∧
      t.invq = rest ∧ t.run.nxt = some (i, false, ls) ∧ t.regs = s.regs ∧ t.fields = s.fields) ∧
  (∀ (s : State) (m : Img) (i : Invocation) (rest : List Invocation) (streams : List (Addr × BitVec 23)),
    s.image = some m → s.invq = i :: rest → s.usedShort = true → s.run.nxt = none →
    exec (.invocationStart streams) s = .next { s with invq := rest }) ∧
  (∀ (s : State) (m : Img) (i : Invocation) (rest : List Invocation) (streams : List (Addr × BitVec 23)),
    s.image = some m → s.invq = i :: rest → s.usedShort = false → s.run.nxt = none →
    m.lengths i.params (m.sections + 1) (m.entrySec i.entry) = none → ∃ t, exec (.invocationStart streams) s = .next t ∧
      t.invq = rest ∧ t.run = s.run ∧ t.reg F.BC_IMG_STATUS_REASON = 0x11) ∧
  (∀ (s : State) (m : Img) (d : SwitchTo), s.image = some m → s.switchNext = some d → d.entry = none →
    ∃ t, exec .sectionSwitch s = .next t ∧ t.acyc = d.w ∧ t.run.section_ = d.section_ ∧ t.run.len = d.len ∧
      t.run.next = d.w + d.len ∧ t.run.last = (m.sect d.section_).last) ∧
  (∀ (s : State) (m : Img) (d : SwitchTo) (i : Invocation) (cold : Bool), s.image = some m → s.switchNext = some d →
    d.entry = some (i, cold) → (∀ f, f ∈ s.usedFields → s.trust.scanning.contains f = false) →
    ∃ t, exec .sectionSwitch s = .next t ∧
      t.acyc = d.w ∧ t.run.cur = some i ∧ t.run.nxt = none ∧ t.run.invalid = false ∧ t.run.next = d.w + d.len) ∧
  (∀ (s : State) (m : Img) (d : SwitchTo) (e : Invocation × Bool) (f : Nat), s.image = some m → s.switchNext = some d →
    d.entry = some e → f ∈ s.usedFields → s.trust.scanning.contains f = true → exec .sectionSwitch s = .next s) ∧
  (∀ (s : State) (i : Invocation), s.run.cur = some i → s.run.nxt = none → s.run.last = true →
    ∃ t, exec .invocationEnd s = .next t ∧ t.run.cur = none ∧ t.run.last = false ∧ t.acyc = s.run.next ∧
      (∃ l, t.run.ended = (i.seqNo, s.run.next) :: l) ∧ t.reg F.BC_IMG_STATUS_STATE = 2)

/-- For the tile that the pair names, with one item in flight that is due by the current acycle, each command answers a next
state in which it has landed: an MXU load is in its next buffer, a VU result of all lanes in its register, an injected
word in PA or PB, an SRD beat of a tile that neither runs nor waits to run in the eight scratch words from its address,
each with its own tag, and an SLD beat in the standby store, whose count rises by four and which becomes valid with an
END bundle. A sequencer armed by the switch runs from its start acycle on. Where the rules leave a choice, this states
the model's: assumptions 17, 18 and 28. -/
def Obligations.LandingCommandsComplete : Prop :=
  (∀ (s : State) (a : Addr) (f key : Nat) (d : Nat) (data : Row), s.locate a.toNat = some (f, key) →
    (s.tile f key).mxu.loads = [⟨d, .w, data⟩] → d ≤ s.acyc → ∃ t, exec (.nextBufferWrite a) s = .next t ∧
      (t.tile f key).mxu.wnxt = data ∧ (t.tile f key).mxu.loads = [] ∧ (t.tile f key).mxu.xnxt = (s.tile f key).mxu.xnxt) ∧
  (∀ (s : State) (a : Addr) (f key : Nat) (d i r : Nat) (mem : Bool) (v : Row), s.locate a.toNat = some (f, key) →
    (s.tile f key).vu.pending = [⟨d, i, mem, r, BitVec.allOnes 16, v⟩] → d ≤ s.acyc →
    ∃ t, exec (.vuResultLanding a) s = .next t ∧ (t.tile f key).vu.reg r = v ∧ (t.tile f key).vu.pending = [] ∧
      ∀ q, q ≠ r → (t.tile f key).vu.reg q = (s.tile f key).vu.reg q) ∧
  (∀ (s : State) (a : Addr) (f key : Nat) (d : Nat) (b : Bool) (tok : Tok), s.locate a.toNat = some (f, key) →
    (s.tile f key).rtr.injects = [⟨d, b, tok⟩] → d ≤ s.acyc → ∃ t, exec (.injectAvailable a) s = .next t ∧
      (t.tile f key).rtr.pa = (if b then (s.tile f key).rtr.pa else some tok) ∧
      (t.tile f key).rtr.pb = (if b then some tok else (s.tile f key).rtr.pb) ∧ (t.tile f key).rtr.injects = []) ∧
  (∀ (s : State) (a : Addr) (f key : Nat) (d dest : Nat) (ws : List CWord), s.locate a.toNat = some (f, key) →
    (s.tile f key).seq.state ≠ .run → (s.tile f key).seq.state ≠ .armed → ws.length = 8 →
    (s.tile f key).beats = [⟨d, false, dest, (s.tile f key).seq.secStart, ws⟩] → d ≤ s.acyc →
    ∃ t, exec (.srdLanding a) s = .next t ∧ (t.tile f key).beats = [] ∧
      (∀ j, j < 8 → (t.tile f key).scrWord (dest / 8 + j) =
        ⟨(ws.getD j CWord.zero).data, (ws.getD j CWord.zero).tag, 0⟩) ∧
      (∀ i, (∀ j, j < 8 → i % 8192 ≠ (dest / 8 + j) % 8192) → (t.tile f key).scrWord i = (s.tile f key).scrWord i)) ∧
  (∀ (s : State) (a : Addr) (f key : Nat) (d dest : Nat) (ws : List CWord), s.locate a.toNat = some (f, key) →
    (s.tile f key).seq.stbyCount + 4 ≤ 512 →
    (s.tile f key).beats = [⟨d, true, dest, (s.tile f key).seq.secStart, ws⟩] → d ≤ s.acyc →
    ∃ t, exec (.sldLanding a) s = .next t ∧ (t.tile f key).beats = [] ∧
      (t.tile f key).seq.stbyCount = (s.tile f key).seq.stbyCount + 4 ∧
      ((s.tile f key).seq.stbyValid = true → (t.tile f key).seq.stbyValid = true) ∧
      (t.tile f key).scratch = (s.tile f key).scratch) ∧
  (∀ (s : State) (a : Addr) (f key : Nat), s.locate a.toNat = some (f, key) → (s.tile f key).seq.state = .armed →
    (s.tile f key).seq.cmdArm = false → (s.tile f key).seq.startAt ≤ s.acyc → ∃ t, exec (.armedStart a) s = .next t ∧
      (t.tile f key).seq.state = .run ∧ t.reports = s.reports ∧ t.links = s.links)

/-- ARM of a sequencer in HALT, or in IDLE with a valid active store, with no scrub or zeroize under way and its field
released, leaves it ARMED by command with STATUS done; HALT of one in RUN, DONE or ARMED leaves it in HALT; each is
refused with STATUS 2 in another state. SCRUB and ZEROIZE of an IDLE or HALT tile with neither under way are busy, and
after ZEROIZE every scratch word has data 0 and tag 0. The end of a zeroize shows STATUS done; the end of a scrub that
meets no uncorrectable word leaves every word's data and tag and corrects it. RUN of a held or waiting core, and RESTART
of one in TRAP or LOCKUP, start it at 0x2_0000 with STATUS done; CC_CMD HALT holds it from any state. The compute side's
commands need their field powered, not dark and past step 6. Where the rules leave a choice, this states the model's:
assumptions 22 and 23. -/
def Obligations.TileCommandRegistersComplete : Prop :=
  (∀ (s : State) (a : Addr) (f key : Nat), s.locate a.toNat = some (f, key) → s.inReset f = false →
    (s.rst.active && (s.rst.all || bitOf s.rst.fields f)) = false → (s.tile f key).scrOp = .none →
    ((s.tile f key).seq.state = .halt ∨ (s.tile f key).seq.state = .idle ∧ (s.tile f key).seq.actValid = true) →
    ∃ t, exec (.arm a) s = .next t ∧ (t.tile f key).seq = { (s.tile f key).seq with state := .armed, cmdArm := true } ∧
      (t.tile f key).reg F.SCH_CMD_STATUS = 0 ∧ (t.tile f key).reg F.SCH_CMD_OP = 1) ∧
  (∀ (s : State) (a : Addr) (f key : Nat), s.locate a.toNat = some (f, key) → s.inReset f = false →
    ((s.tile f key).seq.state = .run ∨ (s.tile f key).seq.state = .done ∨ (s.tile f key).seq.state = .armed) →
    ∃ t, exec (.arm a) s = .next t ∧ (t.tile f key).seq = (s.tile f key).seq ∧ (t.tile f key).reg F.SCH_CMD_STATUS = 2) ∧
  (∀ (s : State) (a : Addr) (f key : Nat), s.locate a.toNat = some (f, key) → s.inReset f = false →
    ((s.tile f key).seq.state = .run ∨ (s.tile f key).seq.state = .done ∨ (s.tile f key).seq.state = .armed) →
    ∃ t, exec (.halt a) s = .next t ∧ (t.tile f key).seq = { (s.tile f key).seq with state := .halt, cmdArm := false } ∧
      (t.tile f key).reg F.SCH_CMD_STATUS = 0 ∧ (t.tile f key).reg F.SCH_CMD_OP = 2) ∧
  (∀ (s : State) (a : Addr) (f key : Nat), s.locate a.toNat = some (f, key) → s.coreServes f = true →
    ((s.tile f key).seq.state = .idle ∨ (s.tile f key).seq.state = .halt) → (s.tile f key).scrOp = .none →
    ∃ t, exec (.scrub a) s = .next t ∧ (t.tile f key).scrOp = .scrub ∧ (t.tile f key).reg F.SCR_CMD_STATUS = 1 ∧
      (t.tile f key).scratch = (s.tile f key).scratch) ∧
  (∀ (s : State) (a : Addr) (f key : Nat), s.locate a.toNat = some (f, key) → s.coreServes f = true →
    ((s.tile f key).seq.state = .idle ∨ (s.tile f key).seq.state = .halt) → (s.tile f key).scrOp = .none →
    ∃ t, exec (.zeroize a) s = .next t ∧ (t.tile f key).scrOp = .zeroize ∧ (t.tile f key).reg F.SCR_CMD_STATUS = 1 ∧
      ∀ i, (t.tile f key).scrWord i = CWord.zero) ∧
  (∀ (s : State) (a : Addr) (f key : Nat), s.locate a.toNat = some (f, key) → s.coreServes f = true →
    (s.tile f key).scrOp = .zeroize → ∃ t, exec (.scrubDone a []) s = .next t ∧ (t.tile f key).scrOp = .none ∧
      (t.tile f key).reg F.SCR_CMD_STATUS = 0 ∧ (t.tile f key).scratch = (s.tile f key).scratch) ∧
  (∀ (s : State) (a : Addr) (f key : Nat), s.locate a.toNat = some (f, key) → s.coreServes f = true →
    (s.tile f key).scrOp = .scrub → SMap.wf CWord.zero (s.tile f key).scratch = true →
    (∀ e, e ∈ (s.tile f key).scratch → e.2.ecc ≠ .multi) → ∃ t, exec (.scrubDone a []) s = .next t ∧
      (t.tile f key).scrOp = .none ∧ (t.tile f key).reg F.SCR_CMD_STATUS = 0 ∧
      ∀ i, (t.tile f key).scrWord i = { (s.tile f key).scrWord i with err := 0 }) ∧
  (∀ (s : State) (a : Addr) (f key : Nat), s.locate a.toNat = some (f, key) → s.coreServes f = true →
    ((s.tile f key).core.state = .held ∨ (s.tile f key).core.state = .waiting) → ∃ t, exec (.run a) s = .next t ∧
      (t.tile f key).core.state = .startup ∧ (t.tile f key).core.pc = 0x20000 ∧ (t.tile f key).reg F.CC_CMD_STATUS = 0) ∧
  (∀ (s : State) (a : Addr) (f key : Nat), s.locate a.toNat = some (f, key) → s.coreServes f = true →
    ∃ t, exec (.ccHalt a) s = .next t ∧ (t.tile f key).core = { (s.tile f key).core with state := .held } ∧
      (t.tile f key).reg F.CC_CMD_STATUS = 0 ∧ (t.tile f key).reg F.CC_CMD_OP = 2) ∧
  (∀ (s : State) (a : Addr) (f key : Nat), s.locate a.toNat = some (f, key) → s.coreServes f = true →
    ((s.tile f key).core.state = .trap ∨ (s.tile f key).core.state = .lockup) → ∃ t, exec (.restart a) s = .next t ∧
      (t.tile f key).core.state = .startup ∧ (t.tile f key).core.pc = 0x20000 ∧ (t.tile f key).reg F.CC_CMD_STATUS = 0)

/-- If the next word on a link is due at its tile's input port, its hop brought no uncorrectable outcome, its colour is the
tile's, its field is in no reset, and the landing FIFO of the port holds 16 words or more, WORD_ARRIVAL answers a next
state in which the word is off the link, every landing FIFO is as before, TILE_FAULT records the code 0x0203 if it held
no fault, or MULTI if it did, the fault path has a report of the code behind those that wait there (with fewer than 64
of the field's on their way), and the running section is invalid. -/
def Obligations.FullLandingFifoOverflows : Prop :=
  ∀ (s : State) (a : Addr) (port : Fin 8) (hop : BitVec 80) (f key : Nat) (l : LinkWord) (r : List LinkWord),
    errOutcome hop ≠ .multi → s.locate a.toNat = some (f, key) → l.dest = a.toNat → l.port = port.val → s.inReset f = false → s.heldOut f = false →
    takeFirst (fun l => l.dest = a.toNat && l.port = port.val && s.mayArrive l) s.links = some (l, r) →
    l.tok.colour = (s.tile f key).seq.colour → 16 ≤ ((s.tile f key).rtr.fifo port.val).length → (s.field f).queued < 64 →
    ∃ t, exec (.wordArrival a port hop false) s = .next t ∧ t.links = r ∧ (t.tile f key).rtr = (s.tile f key).rtr ∧
      t.run.invalid = true ∧ s.reports1 t 0x0203 ∧
      ((s.tile f key).reg F.TILE_FAULT_VALID = 0 → (t.tile f key).reg F.TILE_FAULT_CODE = 0x0203 ∧
        (t.tile f key).reg F.TILE_FAULT_VALID = 1) ∧
      ((s.tile f key).reg F.TILE_FAULT_VALID ≠ 0 → (t.tile f key).reg F.TILE_FAULT_CODE = (s.tile f key).reg F.TILE_FAULT_CODE ∧
        (t.tile f key).reg F.TILE_FAULT_MULTI = 1)

/-- A due word of the tile's colour, whose hop brought no uncorrectable outcome, joins the end of its port's landing FIFO
where fewer than 16 words are there, and changes no other FIFO. A tile in DONE issues nothing and nothing changes. A
tile in RUN in an ACTIVE field whose next bundle is all zeros, with no loop open, no word and no beat in flight and the
next switch not reached, issues it: the pc shows its index, the next index is one more, its counter of acycles moves on,
and its landing FIFOs and hold registers stay. Where the rules leave a choice, this states the model's: assumptions 22,
28 and 30. -/
def Obligations.WordsArriveAndBundlesIssue : Prop :=
  (∀ (s : State) (a : Addr) (port : Fin 8) (hop : BitVec 80) (f key : Nat) (l : LinkWord) (r : List LinkWord),
    errOutcome hop ≠ .multi → s.locate a.toNat = some (f, key) → l.dest = a.toNat → l.port = port.val → s.inReset f = false → s.heldOut f = false →
    takeFirst (fun l => l.dest = a.toNat && l.port = port.val && s.mayArrive l) s.links = some (l, r) →
    l.tok.colour = (s.tile f key).seq.colour → ((s.tile f key).rtr.fifo port.val).length < 16 →
    ∃ t, exec (.wordArrival a port hop false) s = .next t ∧ t.links = r ∧
      (t.tile f key).rtr.fifo port.val = (s.tile f key).rtr.fifo port.val ++ [l.tok] ∧
      (∀ q, q ≠ port.val → (t.tile f key).rtr.fifo q = (s.tile f key).rtr.fifo q) ∧ t.reports = s.reports ∧ t.run = s.run) ∧
  (∀ (s : State) (a : Addr) (f key : Nat) (ups : List Upset), s.locate a.toNat = some (f, key) →
    (s.tile f key).seq.state = .done → s.links = [] → exec (.bundleIssue a ups) s = .next s) ∧
  (∀ (s : State) (a : Addr) (f key : Nat), s.locate a.toNat = some (f, key) → s.inReset f = false →
    (s.field f).stopped = false → s.dark f = false → s.mode f = 2 → s.links = [] →
    (s.tile f key).seq.state = .run → (s.tile f key).seq.loops = [] → (s.tile f key).beats = [] →
    (s.tile f key).mxu.loads = [] → (s.tile f key).vu.pending = [] → (s.tile f key).vu.flagsOpen = [] →
    (s.tile f key).rtr.injects = [] → (s.tile f key).seq.nextPc.toNat < 511 →
    (s.tile f key).activeBundle (s.tile f key).seq.nextPc.toNat = 0 → s.beforeSwitch (s.issueAt (s.tile f key)) = true →
    (∀ e, e ∈ s.fields → e.2.clearAt = none) → ∃ t, exec (.bundleIssue a []) s = .next t ∧
      (t.tile f key).seq.state = .run ∧ (t.tile f key).seq.pc = (s.tile f key).seq.nextPc ∧
      (t.tile f key).seq.nextPc.toNat = (s.tile f key).seq.nextPc.toNat + 1 ∧
      (t.tile f key).seq.next = s.issueAt (s.tile f key) + 1 ∧ (t.tile f key).rtr = (s.tile f key).rtr ∧
      (t.tile f key).scratch = (s.tile f key).scratch ∧ (t.tile f key).stack = (s.tile f key).stack)

/-- If the control core of a tile serves and waits, its event queue holds an event, and tag 0x3FF has VALID = 0, CC_DISPATCH
answers a next state in which the queue is without its oldest event and the tile is otherwise as it was (its TILE_FAULT
and its core included), and no report has joined the fault path. -/
def Obligations.UnboundControlPointEventsAreDiscarded : Prop :=
  ∀ (s : State) (a : Addr) (f key : Nat) (ev : Byte) (rest : List Byte), s.locate a.toNat = some (f, key) →
    s.coreServes f = true → s.coreGated f = false → (s.tile f key).core.state = .waiting →
    (s.tile f key).seq.evq = ev :: rest → ((s.tile f key).core.tags.get TagEntry.zero 0x3FF).valid = false →
    ∃ t, exec (.ccDispatch a) s = .next t ∧
      t.tile f key = { s.tile f key with seq := { (s.tile f key).seq with evq := rest } } ∧ t.reports = s.reports ∧
      t.run = s.run ∧ t.pkts = s.pkts

/-- For a tile whose control core serves, each command answers a next state. A waiting core enters the handler of tag 0x3FF
with the oldest event in a1, or with no event that of the oldest request, which it then has in hand. An instruction that
runs leaves its effect and retires; one that raises an exception stops the core in TRAP with its cause. TS.SEND that its
tests refuse, or of a spare tile, returns 1 and sends nothing; one that passes, or has passed and waited, with a free
slot sends one packet and waits for the answer. TS.REPLY to a request that wants one sends it and returns 0. TS.YIELD
leaves the core waiting. TS.CPPOST puts identifier and value into the mailbox and returns whether it was full. TS.HGET
field 0 returns BASE. TS.HSET of BASE in range writes the shadow only. TS.HLD that passes the handle's checks, its stack
beat admitted, returns the 32 bits, over one word or two, and TS.HST writes them, with the handle's tag, and no other
word; while R185 admits no beat, neither does anything to its tile. Where the rules leave a choice, this states the
model's: assumptions 19, 24 and 25. -/
def Obligations.ControlCoreCommandsComplete : Prop :=
  (∀ (s : State) (a : Addr) (f key : Nat) (ev : Byte) (rest : List Byte), s.locate a.toNat = some (f, key) →
    s.coreServes f = true → s.coreGated f = false → (s.tile f key).core.state = .waiting →
    (s.tile f key).seq.evq = ev :: rest → ((s.tile f key).core.tags.get TagEntry.zero 0x3FF).valid = true →
    ∃ t, exec (.ccDispatch a) s = .next t ∧ (t.tile f key).core.state = .handler ∧ (t.tile f key).seq.evq = rest ∧
      (t.tile f key).core.get 10 = 0x3FF ∧ (t.tile f key).core.get 11 = BitVec.ofNat 32 ev.toNat ∧
      (t.tile f key).core.pc = BitVec.ofNat 32 (0x20000 + ((s.tile f key).core.tags.get TagEntry.zero 0x3FF).handler.toNat)) ∧
  (∀ (s : State) (a : Addr) (f key : Nat) (p : Packet) (rest : List Landed), s.locate a.toNat = some (f, key) →
    s.coreServes f = true → s.coreGated f = false → (s.tile f key).core.state = .waiting → (s.tile f key).seq.evq = [] →
    (s.tile f key).msg.landed = .request p :: rest → ((s.tile f key).core.tags.get TagEntry.zero p.tag.toNat).valid = true →
    ∃ t, exec (.ccDispatch a) s = .next t ∧ (t.tile f key).core.state = .handler ∧ (t.tile f key).msg.landed = rest ∧
      (t.tile f key).core.inHand = some p ∧ (t.tile f key).core.get 10 = BitVec.ofNat 32 p.tag.toNat ∧
      (t.tile f key).core.get 11 = BitVec.ofNat 32 p.src.toNat) ∧
  (∀ (s : State) (a : Addr) (f key : Nat) (u : Tile) (next : Nat), s.locate a.toNat = some (f, key) → s.coreServes f = true →
    s.coreGated f = false → (s.tile f key).coreActive = true → (s.tile f key).coreRun (s.tpos f key) = .ok u next →
    ∃ t, exec (.coreInstruction a) s = .next t ∧ t.tile f key = u.retire next ∧ t.reports = s.reports ∧ t.pkts = s.pkts) ∧
  (∀ (s : State) (a : Addr) (f key : Nat) (cause : Nat), s.locate a.toNat = some (f, key) → s.coreServes f = true →
    s.coreGated f = false → (s.tile f key).coreActive = true → (s.tile f key).coreRun (s.tpos f key) = .trap cause →
    (s.field f).queued < 64 → ∃ t, exec (.coreInstruction a) s = .next t ∧ (t.tile f key).core.state = .trap ∧
      (t.tile f key).core.mcause = BitVec.ofNat 4 cause ∧ s.reports1 t Code.coreTrap ∧ t.run = s.run) ∧
  (∀ (s : State) (a : Addr) (f key i : Nat), s.locate a.toNat = some (f, key) → s.coreServes f = true → s.coreGated f = false →
    (s.tile f key).tsAt 0 = some i → (s.tile f key).msg.send = .idle → ((s.position f key).isNone = true ∨
      (s.tile f key).sendOk s.rows ((s.tile f key).tsArgs i).2.1 ((s.tile f key).tsArgs i).2.2 = false) → bits i 7 5 ≠ 0 →
    ∃ t, exec (.tsSend a) s = .next t ∧ t.pkts = s.pkts ∧ (t.tile f key).core.get (bits i 7 5) = 1 ∧
      (t.tile f key).msg.send = .idle) ∧
  (∀ (s : State) (a : Addr) (f key i k : Nat), s.locate a.toNat = some (f, key) → s.coreServes f = true → s.coreGated f = false →
    (s.tile f key).sendWord = some i → ((s.tile f key).msg.send = .awaitSlot ∨ (s.position f key).isSome = true ∧
      (s.tile f key).sendOk s.rows ((s.tile f key).tsArgs i).2.1 ((s.tile f key).tsArgs i).2.2 = true) →
    (s.tile f key).msg.freeSlot = some k → ∃ t p, exec (.tsSend a) s = .next t ∧
      t.pkts = s.pkts ++ [⟨s.pairAt f key, s.pairAt f key, p⟩] ∧
      p.reply = false ∧ p.slot = BitVec.ofNat 3 k ∧ p.dst = BitVec.ofNat 20 ((s.tile f key).tsArgs i).2.1 ∧
      p.tag = BitVec.ofNat 10 (bits ((s.tile f key).tsArgs i).2.2 0 10) ∧
      p.words.length = bits ((s.tile f key).tsArgs i).2.2 10 4 ∧ (t.tile f key).msg.send = .awaitAnswer) ∧
  (∀ (s : State) (a : Addr) (f key i : Nat) (q : Packet), s.locate a.toNat = some (f, key) → s.coreServes f = true →
    s.coreGated f = false → (s.tile f key).tsAt 1 = some i → (s.tile f key).core.inHand = some q →
    (s.tile f key).core.state = .handler → (s.tile f key).rpl q.tag.toNat = true → (s.tile f key).core.replied = false →
    bits ((s.tile f key).tsArgs i).2.2 0 4 ≤ 8 → ∃ t, exec (.tsReply a false) s = .next t ∧
      t.pkts = s.pkts ++ [⟨s.pairAt f key, s.pairAt f key,
        q.answer 0 0 ((s.tile f key).core.sendWords (bits ((s.tile f key).tsArgs i).2.2 0 4))⟩] ∧
      (t.tile f key).core.replied = true ∧ (t.tile f key).core.get (bits i 7 5) = 0) ∧
  (∀ (s : State) (a : Addr) (f key i : Nat), s.locate a.toNat = some (f, key) → s.coreServes f = true → s.coreGated f = false →
    (s.tile f key).tsAt 2 = some i → ∃ t, exec (.tsYield a) s = .next t ∧ (t.tile f key).core.state = .waiting ∧
      (t.tile f key).core.inHand = none ∧ ((s.tile f key).core.inHand = none → t.pkts = s.pkts)) ∧
  (∀ (s : State) (a : Addr) (f key i : Nat), s.locate a.toNat = some (f, key) → s.coreServes f = true → s.coreGated f = false →
    (s.tile f key).tsAt 3 = some i → ∃ t, exec (.tsCppost a) s = .next t ∧ (t.tile f key).core.mboxReady = true ∧
      (t.tile f key).core.mboxId = BitVec.ofNat 8 ((s.tile f key).tsArgs i).2.1 ∧
      (t.tile f key).core.mboxValue = BitVec.ofNat 32 ((s.tile f key).tsArgs i).2.2 ∧
      (t.tile f key).core.get (bits i 7 5) =
        (if bits i 7 5 = 0 then 0 else BitVec.ofNat 32 (b2n (s.tile f key).core.mboxReady))) ∧
  (∀ (s : State) (a : Addr) (f key i : Nat), s.locate a.toNat = some (f, key) → s.coreServes f = true → s.coreGated f = false →
    (s.tile f key).tsAt 4 = some i → bits i 25 7 = 0 → ∃ t, exec (.tsHget a) s = .next t ∧
      (t.tile f key).handles = (s.tile f key).handles ∧ (t.tile f key).core.get (bits i 7 5) =
        (if bits i 7 5 = 0 then 0 else BitVec.ofNat 32 ((s.tile f key).handle (((s.tile f key).tsArgs i).2.1 % 64)).base.toNat)) ∧
  (∀ (s : State) (a : Addr) (f key i : Nat), s.locate a.toNat = some (f, key) → s.coreServes f = true → s.coreGated f = false →
    (s.tile f key).tsAt 5 = some i → bits i 25 7 = 0 → ((s.tile f key).tsArgs i).2.2 < 2 ^ 23 →
    (s.tile f key).boundOk (s.tpos f key) (((s.tile f key).tsArgs i).2.1 % 64) ((s.tile f key).tsArgs i).2.2
      ((s.tile f key).nextBounds (((s.tile f key).tsArgs i).2.1 % 64)).2 = true →
    ∃ t, exec (.tsHset a) s = .next t ∧ (t.tile f key).handles = (s.tile f key).handles ∧
      (t.tile f key).shadow (((s.tile f key).tsArgs i).2.1 % 64) =
        { (s.tile f key).shadow (((s.tile f key).tsArgs i).2.1 % 64) with
          base := BitVec.ofNat 23 ((s.tile f key).tsArgs i).2.2, pBase := true }) ∧
  (∀ (s : State) (a : Addr) (f key i n addr : Nat) (ws : List CWord), s.locate a.toNat = some (f, key) → s.coreServes f = true →
    s.coreGated f = false → (s.tile f key).tsAt 6 = some i →
    (s.tile f key).coreHandle ((s.tile f key).tsArgs i).2.1 false = (n, addr, none) →
    ((s.tile f key).coreBeats 6 1 = 0 ∨ s.admits f 2 = true) →
    ws = (List.range (wordSpan addr 4).2).map (fun j =>
      (s.tile f key).spaceWord ((s.tile f key).handle n).stackSpace (addr / 8 + j)) → (∀ w, w ∈ ws → w.ecc ≠ .multi) →
    ∃ t, exec (.tsHld a []) s = .next t ∧ (t.tile f key).scratch = (s.tile f key).scratch ∧
      (t.tile f key).stack = (s.tile f key).stack ∧ (t.tile f key).core.get (bits i 7 5) =
        (if bits i 7 5 = 0 then 0 else BitVec.ofNat 32 (leBytes ws (8 * (addr / 8)) addr 4))) ∧
  (∀ (s : State) (a : Addr) (f key i n addr : Nat) (ws : List CWord), s.locate a.toNat = some (f, key) → s.coreServes f = true →
    s.coreGated f = false → (s.tile f key).tsAt 7 = some i →
    (s.tile f key).coreHandle ((s.tile f key).tsArgs i).2.1 true = (n, addr, none) →
    ((s.tile f key).coreBeats 7 2 = 0 ∨ s.admits f 2 = true) →
    ws = (List.range (wordSpan addr 4).2).map (fun j =>
      (s.tile f key).spaceWord ((s.tile f key).handle n).stackSpace (addr / 8 + j)) → (∀ w, w ∈ ws → w.ecc ≠ .multi) →
    ∃ t, exec (.tsHst a []) s = .next t ∧
      (∀ j, j < (wordSpan addr 4).2 → (t.tile f key).spaceWord ((s.tile f key).handle n).stackSpace (addr / 8 + j) =
        ⟨(putBytes (ws.map (·.data)) (8 * (addr / 8)) addr ((s.tile f key).tsArgs i).2.2 4).getD j 0,
          ((s.tile f key).handle n).ten, 0⟩) ∧
      (∀ j, (j < addr / 8 ∨ addr / 8 + (wordSpan addr 4).2 ≤ j) → (t.tile f key).stkWord j = (s.tile f key).stkWord j) ∧
      (∀ j, (∀ q, q < (wordSpan addr 4).2 → j % 8192 ≠ (addr / 8 + q) % 8192) →
        (t.tile f key).scrWord j = (s.tile f key).scrWord j)) ∧
  (∀ (s : State) (a : Addr) (f key : Nat), s.locate a.toNat = some (f, key) → s.coreServes f = true → s.coreGated f = false →
    (s.tile f key).coreBeats 6 1 ≠ 0 → s.admits f 2 = false → ∃ t, exec (.tsHld a []) s = .next t ∧ t.tile f key = s.tile f key) ∧
  (∀ (s : State) (a : Addr) (f key : Nat), s.locate a.toNat = some (f, key) → s.coreServes f = true → s.coreGated f = false →
    (s.tile f key).coreBeats 7 2 ≠ 0 → s.admits f 2 = false → ∃ t, exec (.tsHst a []) s = .next t ∧ t.tile f key = s.tile f key)

/-- For the landings, the sequencer, scratch and control-core commands, the TS instructions, the message timers and the
system agent's READ, WRITE and TEST with no flit in error, each naming one tile by its message pair: if exec answers a
next state, every tile but the named one is unchanged in it, with all its registers, memories and queues. Where the pair
names no tile, no tile changes. -/
def Obligations.TileCommandsTouchOneTile : Prop :=
∀ (s t : State) (a : Addr) (c : Instr) (ups : List Upset) (stuck : Bool) (slot : Fin 8) (addr : BitVec 20) (n : Fin 16)
    (data : List (BitVec 64 × BitVec 4)) (number : BitVec 16) (f key : Nat), c ∈ [Instr.nextBufferWrite a,
      .vuResultLanding a, .injectAvailable a, .srdLanding a, .sldLanding a, .armedStart a, .arm a, .halt a, .scrub a,
      .zeroize a, .scrubDone a ups, .run a, .ccHalt a, .restart a, .ccDispatch a, .coreInstruction a, .tsSend a,
      .tsReply a stuck, .tsYield a, .tsCppost a, .tsHget a, .tsHset a, .tsHld a ups, .tsHst a ups, .busyBackoff a,
      .msgSendTimeout a, .msgReplyTimeout a slot, .slotQuarantineEnd a slot, .read a addr ⟨n, []⟩,
      .write a addr ⟨data, []⟩, .test a ⟨number, []⟩] →
    exec c s = .next t → s.locate a.toNat ≠ some (f, key) → t.tile f key = s.tile f key

/-- The first packet of a router input that is not a broadcast moves to the next router of its dimension order, unchanged,
behind the others there, where that input signals ON; where it signals OFF, or where an earlier packet of its input
waits, it stays. An uncorrectable flit discards it with its code reported. One whose next hop is Base Camp leaves the
mesh, with its source, status and words sent out of the block. At its destination a request that passes the tests joins
the landed requests behind the others and is answered ACK; with eight requests landed it is answered BUSY and lands
nowhere; a tile with no entry for its tag answers NO_HANDLER (1), one whose flow mask lacks it DENIED (2), one that is
held out, dark or held UNAVAILABLE (3), one in TRAP or LOCKUP TRAPPED (4), and nothing lands. The packet leaves the mesh
and the answer joins it at the tile. Where the rules leave a choice, this states the model's: assumption 27. -/
def Obligations.PacketsHopAndRequestsAreTested : Prop :=
  (∀ (s : State) (k : Nat) (x : Flight) (b : Nat), s.pkts[k]? = some x → s.atHead k = true → x.pkt.cls ≠ 3 →
    nextHop x.at_ x.pkt.dst.toNat = some b → b ≠ bcPair → s.msgReset (pairField b) = false →
    s.inputOn x.pkt.reply x.at_ b = true →
    exec (.packetHop k []) s = .next { s with pkts := s.pkts.eraseIdx k ++ [⟨b, x.at_, x.pkt⟩] }) ∧
  (∀ (s : State) (k : Nat) (errs : List (BitVec 80)) (x : Flight) (b f key : Nat), s.pkts[k]? = some x → s.atHead k = true →
    x.pkt.cls ≠ 3 → nextHop x.at_ x.pkt.dst.toNat = some b → b ≠ bcPair → s.msgReset (pairField b) = false →
    s.inputOn x.pkt.reply x.at_ b = true → s.locate b = some (f, key) → (s.field f).queued < 64 →
    (∃ e, e ∈ errs ∧ errOutcome e = .multi) → ∃ t, exec (.packetHop k errs) s = .next t ∧ t.pkts = s.pkts.eraseIdx k ∧
      s.reports1 t Code.eccMsgUe) ∧
  (∀ (s : State) (k : Nat) (errs : List (BitVec 80)) (x : Flight) (b : Nat), s.pkts[k]? = some x → s.atHead k = true →
    nextHop x.at_ x.pkt.dst.toNat = some b → b ≠ bcPair → s.msgReset (pairField b) = false → x.pkt.cls ≠ 3 →
    s.inputOn x.pkt.reply x.at_ b = false → exec (.packetHop k errs) s = .next s) ∧
  (∀ (s : State) (k : Nat) (errs : List (BitVec 80)), s.atHead k = false → exec (.packetHop k errs) s = .next s) ∧
  (∀ (s : State) (k : Nat) (errs : List (BitVec 80)) (x : Flight), s.pkts[k]? = some x → s.atHead k = true → x.pkt.cls ≠ 3 →
    nextHop x.at_ x.pkt.dst.toNat = some bcPair → exec (.packetHop k errs) s = .next { s with
      pkts := s.pkts.eraseIdx k
      out := ⟨.bcReply, x.pkt.src.toNat, x.pkt.status.toNat, x.pkt.words.map (fun w => w.data.toNat)⟩ :: s.out }) ∧
  (∀ (s : State) (k : Nat) (x : Flight) (f key : Nat), s.pkts[k]? = some x → s.atHead k = true → x.at_ = x.pkt.dst.toNat →
    x.pkt.reply = false → x.pkt.cls = 0 → s.msgReset (pairField x.at_) = false → s.locate x.at_ = some (f, key) →
    s.away f = false → s.coreGated f = false → (s.tile f key).core.state ≠ .held → (s.tile f key).core.state ≠ .trap →
    (s.tile f key).core.state ≠ .lockup → (s.tile f key).flowBit F.MSG_FLOW_IN_MASK x.pkt.tag.toNat = true →
    ((s.tile f key).core.tags.get TagEntry.zero x.pkt.tag.toNat).valid = true → (s.tile f key).msg.requests < 8 →
    ∃ t, exec (.unicast k) s = .next t ∧
      (t.tile f key).msg = { (s.tile f key).msg with landed := (s.tile f key).msg.landed ++ [.request x.pkt], reqAt := s.acyc + 1 } ∧
      t.pkts = s.pkts.eraseIdx k ++ [⟨s.pairAt f key, s.pairAt f key, x.pkt.answer 1 0 []⟩]) ∧
  (∀ (s : State) (k : Nat) (x : Flight) (f key : Nat), s.pkts[k]? = some x → s.atHead k = true → x.at_ = x.pkt.dst.toNat →
    x.pkt.reply = false → x.pkt.cls = 0 → s.msgReset (pairField x.at_) = false → s.locate x.at_ = some (f, key) →
    s.away f = false → s.coreGated f = false → (s.tile f key).core.state ≠ .held → (s.tile f key).core.state ≠ .trap →
    (s.tile f key).core.state ≠ .lockup → (s.tile f key).flowBit F.MSG_FLOW_IN_MASK x.pkt.tag.toNat = true →
    ((s.tile f key).core.tags.get TagEntry.zero x.pkt.tag.toNat).valid = true → 8 ≤ (s.tile f key).msg.requests →
    ∃ t, exec (.unicast k) s = .next t ∧ t.tile f key = s.tile f key ∧
      t.pkts = s.pkts.eraseIdx k ++ [⟨s.pairAt f key, s.pairAt f key, x.pkt.answer 2 0 []⟩]) ∧
  (∀ (s : State) (k : Nat) (x : Flight) (f key : Nat), s.pkts[k]? = some x → s.atHead k = true → x.at_ = x.pkt.dst.toNat →
    x.pkt.reply = false → x.pkt.cls = 0 → s.msgReset (pairField x.at_) = false → s.locate x.at_ = some (f, key) →
    s.away f = false → s.coreGated f = false → (s.tile f key).core.state = .waiting →
    (s.tile f key).flowBit F.MSG_FLOW_IN_MASK x.pkt.tag.toNat = true →
    ((s.tile f key).core.tags.get TagEntry.zero x.pkt.tag.toNat).valid = false →
    ∃ t, exec (.unicast k) s = .next t ∧ (t.tile f key).msg = (s.tile f key).msg ∧
      t.pkts = s.pkts.eraseIdx k ++ [⟨s.pairAt f key, s.pairAt f key, x.pkt.answer 0 1 []⟩]) ∧
  (∀ (s : State) (k : Nat) (x : Flight) (f key : Nat), s.pkts[k]? = some x → s.atHead k = true → x.at_ = x.pkt.dst.toNat →
    x.pkt.reply = false → x.pkt.cls = 0 → s.msgReset (pairField x.at_) = false → s.locate x.at_ = some (f, key) →
    s.away f = false → s.coreGated f = false → (s.tile f key).core.state = .waiting →
    (s.tile f key).flowBit F.MSG_FLOW_IN_MASK x.pkt.tag.toNat = false →
    ∃ t, exec (.unicast k) s = .next t ∧ (t.tile f key).msg = (s.tile f key).msg ∧
      t.pkts = s.pkts.eraseIdx k ++ [⟨s.pairAt f key, s.pairAt f key, x.pkt.answer 0 2 []⟩]) ∧
  (∀ (s : State) (k : Nat) (x : Flight) (f key : Nat), s.pkts[k]? = some x → s.atHead k = true → x.at_ = x.pkt.dst.toNat →
    x.pkt.reply = false → x.pkt.cls = 0 → s.msgReset (pairField x.at_) = false → s.locate x.at_ = some (f, key) →
    (s.away f = true ∨ (s.tile f key).core.state = .held) → ∃ t, exec (.unicast k) s = .next t ∧
      (t.tile f key).msg = (s.tile f key).msg ∧
      t.pkts = s.pkts.eraseIdx k ++ [⟨s.pairAt f key, s.pairAt f key, x.pkt.answer 0 3 []⟩]) ∧
  (∀ (s : State) (k : Nat) (x : Flight) (f key : Nat), s.pkts[k]? = some x → s.atHead k = true → x.at_ = x.pkt.dst.toNat →
    x.pkt.reply = false → x.pkt.cls = 0 → s.msgReset (pairField x.at_) = false → s.locate x.at_ = some (f, key) →
    s.away f = false → s.coreGated f = false →
    ((s.tile f key).core.state = .trap ∨ (s.tile f key).core.state = .lockup) → ∃ t, exec (.unicast k) s = .next t ∧
      (t.tile f key).msg = (s.tile f key).msg ∧
      t.pkts = s.pkts.eraseIdx k ++ [⟨s.pairAt f key, s.pairAt f key, x.pkt.answer 0 4 []⟩])

/-- An answer that matches a reserved slot and the incarnation of the interface and is awaited: ACK ends TS.SEND with rd =
0, and with no reply required frees the slot; BUSY starts the back-off, and its end sends the same request again. A
REPLY lands in its slot, which holds it, behind what has landed, but, in a run, before a request that has landed in the
same acycle. An answer that matches no reserved slot only counts in MSG_CNT.LATE. SEND_TIMEOUT abandons the slot, ends
TS.SEND with rd = 2 and reports its code; REPLY_TIMEOUT of an acknowledged slot delivers a reply of status 6, to the
tile itself, from the interface, makes the slot unusable and reports its code; the end of the quarantine makes the slot
usable. The core's field is powered, not dark and out of reset for the timers. Where the rules leave a choice, this
states the model's: assumption 27. -/
def Obligations.AnswersAndTimersOfTheMessageInterface : Prop :=
  (∀ (s : State) (k : Nat) (x : Flight) (f key : Nat), s.pkts[k]? = some x → s.atHead k = true → x.at_ = x.pkt.dst.toNat →
    x.pkt.reply = true → x.pkt.cls = 1 → s.msgReset (pairField x.at_) = false → s.locate x.at_ = some (f, key) →
    (s.tile f key).answerMatches x.pkt = true → (s.tile f key).awaits x.pkt = true →
    ∃ t, exec (.ack k) s = .next t ∧ (t.tile f key).msg.send = .idle ∧
      (t.tile f key).core.get (s.tile f key).msg.txRd = 0 ∧ t.pkts = s.pkts.eraseIdx k ∧
      ((t.tile f key).msg.slot x.pkt.slot.toNat).reserved = (s.tile f key).rpl x.pkt.tag.toNat) ∧
  (∀ (s : State) (k : Nat) (x : Flight) (f key : Nat), s.pkts[k]? = some x → s.atHead k = true → x.at_ = x.pkt.dst.toNat →
    x.pkt.reply = true → x.pkt.cls = 2 → s.msgReset (pairField x.at_) = false → s.locate x.at_ = some (f, key) →
    (s.tile f key).answerMatches x.pkt = true → (s.tile f key).awaits x.pkt = true →
    ∃ t, exec (.busy k) s = .next t ∧
      (t.tile f key).msg = { (s.tile f key).msg with send := .backoff, backoffAt := s.acyc } ∧
      (t.tile f key).core = (s.tile f key).core ∧ t.pkts = s.pkts.eraseIdx k) ∧
  (∀ (s : State) (a : Addr) (f key : Nat) (p : Packet), s.locate a.toNat = some (f, key) → s.coreServes f = true →
    (s.tile f key).msg.send = .backoff → (s.tile f key).msg.txPkt = some p → ∃ t, exec (.busyBackoff a) s = .next t ∧
      (t.tile f key).msg = { (s.tile f key).msg with send := .awaitAnswer } ∧ t.pkts = s.pkts ++ [⟨s.pairAt f key, s.pairAt f key, p⟩]) ∧
  (∀ (s : State) (k : Nat) (x : Flight) (f key : Nat), s.pkts[k]? = some x → s.atHead k = true → x.at_ = x.pkt.dst.toNat →
    x.pkt.reply = true → x.pkt.cls = 0 → s.msgReset (pairField x.at_) = false → s.locate x.at_ = some (f, key) →
    (s.tile f key).answerMatches x.pkt = true → (s.tile f key).awaits x.pkt = false →
    ((s.tile f key).msg.slot x.pkt.slot.toNat).held = none → ∃ t, exec (.reply k) s = .next t ∧
      ((t.tile f key).msg.slot x.pkt.slot.toNat).held = some x.pkt ∧
      ((s.run.cur = none ∨ (s.tile f key).msg.reqAt ≠ s.acyc + 1) →
        (t.tile f key).msg.landed = (s.tile f key).msg.landed ++ [.reply x.pkt.slot.toNat]) ∧
      (∀ q, s.run.cur ≠ none → (s.tile f key).msg.reqAt = s.acyc + 1 → (s.tile f key).msg.landed.getLast? = some (.request q) →
        (t.tile f key).msg.landed = (s.tile f key).msg.landed.dropLast ++ [.reply x.pkt.slot.toNat, .request q]) ∧
      (t.tile f key).core = (s.tile f key).core ∧ t.pkts = s.pkts.eraseIdx k) ∧
  (∀ (s : State) (k : Nat) (x : Flight) (f key : Nat), s.pkts[k]? = some x → s.atHead k = true → x.at_ = x.pkt.dst.toNat →
    x.pkt.reply = true → x.pkt.cls = 1 → s.msgReset (pairField x.at_) = false → s.locate x.at_ = some (f, key) →
    ((s.tile f key).msg.slot x.pkt.slot.toNat).reserved = false → ∃ t, exec (.ack k) s = .next t ∧
      t.pkts = s.pkts.eraseIdx k ∧ (t.tile f key).msg = (s.tile f key).msg ∧
      (t.tile f key).reg F.MSG_CNT_LATE = satAdd 16 ((s.tile f key).reg F.MSG_CNT_LATE) 1) ∧
  (∀ (s : State) (k : Nat) (x : Flight) (f key : Nat), s.pkts[k]? = some x → s.atHead k = true → x.at_ = x.pkt.dst.toNat →
    x.pkt.reply = true → x.pkt.cls = 2 → s.msgReset (pairField x.at_) = false → s.locate x.at_ = some (f, key) →
    ((s.tile f key).msg.slot x.pkt.slot.toNat).reserved = false → ∃ t, exec (.busy k) s = .next t ∧
      t.pkts = s.pkts.eraseIdx k ∧ (t.tile f key).msg = (s.tile f key).msg ∧
      (t.tile f key).reg F.MSG_CNT_LATE = satAdd 16 ((s.tile f key).reg F.MSG_CNT_LATE) 1) ∧
  (∀ (s : State) (k : Nat) (x : Flight) (f key : Nat), s.pkts[k]? = some x → s.atHead k = true → x.at_ = x.pkt.dst.toNat →
    x.pkt.reply = true → x.pkt.cls = 0 → s.msgReset (pairField x.at_) = false → s.locate x.at_ = some (f, key) →
    ((s.tile f key).msg.slot x.pkt.slot.toNat).reserved = false → ∃ t, exec (.reply k) s = .next t ∧
      t.pkts = s.pkts.eraseIdx k ∧ (t.tile f key).msg = (s.tile f key).msg ∧
      (t.tile f key).reg F.MSG_CNT_LATE = satAdd 16 ((s.tile f key).reg F.MSG_CNT_LATE) 1) ∧
  (∀ (s : State) (a : Addr) (f key : Nat) (p : Packet), s.locate a.toNat = some (f, key) → s.coreServes f = true →
    (s.tile f key).msg.send = .awaitAnswer → (s.tile f key).msg.txPkt = some p →
    (s.tile f key).reg F.MSG_CFG_SEND_TIMEOUT ≠ 0 → (s.field f).queued < 64 → (s.tile f key).msg.txRd ≠ 0 →
    ∃ t, exec (.msgSendTimeout a) s = .next t ∧ (t.tile f key).msg.send = .idle ∧
      (t.tile f key).core.get (s.tile f key).msg.txRd = 2 ∧ ((t.tile f key).msg.slot p.slot.toNat).abandoned = true ∧
      ((t.tile f key).msg.slot p.slot.toNat).reserved = false ∧ s.reports1 t Code.msgSendTimeout ∧ t.run = s.run) ∧
  (∀ (s : State) (a : Addr) (slot : Fin 8) (f key n : Nat), s.locate a.toNat = some (f, key) → s.coreServes f = true →
    ((s.tile f key).msg.slot slot.val).reserved = true → ((s.tile f key).msg.slot slot.val).ackAt = some n →
    ((s.tile f key).msg.slot slot.val).held = none → (s.tile f key).reg F.MSG_CFG_REPLY_TIMEOUT ≠ 0 →
    (s.field f).queued < 64 → ∃ t p, exec (.msgReplyTimeout a slot) s = .next t ∧
      ((t.tile f key).msg.slot slot.val).held = some p ∧ p.status = 6 ∧ p.dst = BitVec.ofNat 20 (pairOf2 (s.tpos f key).lx (s.tpos f key).ly) ∧ p.tag = ((s.tile f key).msg.slot slot.val).tag ∧
      ((t.tile f key).msg.slot slot.val).abandoned = true ∧
      ((s.run.cur = none ∨ (s.tile f key).msg.reqAt ≠ s.acyc + 1) →
        (t.tile f key).msg.landed = (s.tile f key).msg.landed ++ [.reply slot.val]) ∧ s.reports1 t Code.msgReplyTimeout ∧
      t.run = s.run) ∧
  (∀ (s : State) (a : Addr) (slot : Fin 8) (f key : Nat), s.locate a.toNat = some (f, key) → s.coreServes f = true →
    ∃ t, exec (.slotQuarantineEnd a slot) s = .next t ∧
      (t.tile f key).msg.slot slot.val = { (s.tile f key).msg.slot slot.val with abandoned := false } ∧
      ∀ j, j ≠ slot.val → (t.tile f key).msg.slot j = (s.tile f key).msg.slot j)

/-- At a tile that answers system packets, with no router of the way from Base Camp in reset and no flit in error: READ of 1
to 8 words at an aligned address inside the tile map replies, with status 0, the words that the tile holds there, each
scratch word with its own tag, and leaves scratch; a READ that breaks those bounds replies DENIED (2) and no word. WRITE
of 1 to 7 words into scratch stores each word with the tag of its flit, with no error, at consecutive words from the
address, and no other word of the scratch changes. TEST gives the tile its test. A RECT whose rectangle is legal does
the WRITE at every one of its tiles that answers; an illegal one changes nothing. A packet whose own field's message
fabric is in reset is answered UNAVAILABLE at the seam, counted in RST_ISO.MSG, and the field keeps its state; one that
only passes through such a field waits before the seam. Where the rules leave a choice, this states the model's:
assumption 27. -/
def Obligations.SystemAgentServesBaseCamp : Prop :=
  (∀ (s : State) (a : Addr) (addr : BitVec 20) (n : Fin 16) (f key : Nat), s.locate a.toNat = some (f, key) →
    (∀ b, b ∈ bcRoute a.toNat → s.msgReset (pairField b) = false) → s.agentAway f = false → addr.toNat % 8 = 0 → 0 < n.val →
    n.val ≤ 8 → (∀ k, k < n.val → inTileMap (addr.toNat + 8 * k) = true) → ∃ t p, exec (.read a addr ⟨n, []⟩) s = .next t ∧
      t.pkts = s.pkts ++ [⟨s.pairAt f key, s.pairAt f key, p⟩] ∧ p.reply = true ∧ p.status = 0 ∧
      p.dst = BitVec.ofNat 20 bcPair ∧
      p.words = (List.range n.val).map (fun k => (s.tile f key).readAddr (s.tpos f key) (addr.toNat + 8 * k)) ∧
      (t.tile f key).scratch = (s.tile f key).scratch ∧ t.run = s.run) ∧
  (∀ (s : State) (a : Addr) (addr : BitVec 20) (n : Fin 16) (f key : Nat), s.locate a.toNat = some (f, key) →
    (∀ b, b ∈ bcRoute a.toNat → s.msgReset (pairField b) = false) → s.agentAway f = false →
    (addr.toNat % 8 ≠ 0 ∨ n.val = 0 ∨ 8 < n.val ∨ ∃ k, k < n.val ∧ inTileMap (addr.toNat + 8 * k) = false) →
    ∃ t p, exec (.read a addr ⟨n, []⟩) s = .next t ∧ t.pkts = s.pkts ++ [⟨s.pairAt f key, s.pairAt f key, p⟩] ∧
      p.status = 2 ∧ p.words = [] ∧ (t.tile f key).reg F.MSG_SYS_ERR = 1) ∧
  (∀ (s : State) (a : Addr) (addr : BitVec 20) (data : List (BitVec 64 × BitVec 4)) (f key : Nat),
    s.locate a.toNat = some (f, key) → (∀ b, b ∈ bcRoute a.toNat → s.msgReset (pairField b) = false) → s.agentAway f = false →
    addr.toNat % 8 = 0 → 0 < data.length → data.length ≤ 7 → addr.toNat + 8 * data.length ≤ 0x10000 →
    ∃ t p, exec (.write a addr ⟨data, []⟩) s = .next t ∧ t.pkts = s.pkts ++ [⟨s.pairAt f key, s.pairAt f key, p⟩] ∧
      p.status = 0 ∧ (∀ j, j < data.length → (t.tile f key).scrWord (addr.toNat / 8 + j) =
        ⟨(data.getD j (0, 0)).1, (data.getD j (0, 0)).2, 0⟩) ∧
      (∀ i, i < 8192 → (i < addr.toNat / 8 ∨ addr.toNat / 8 + data.length ≤ i) →
        (t.tile f key).scrWord i = (s.tile f key).scrWord i) ∧ (t.tile f key).stack = (s.tile f key).stack) ∧
  (∀ (s : State) (a : Addr) (number : BitVec 16) (f key : Nat), s.locate a.toNat = some (f, key) →
    (∀ b, b ∈ bcRoute a.toNat → s.msgReset (pairField b) = false) → s.agentAway f = false → ∃ t p, exec (.test a ⟨number, []⟩) s = .next t ∧
      (t.tile f key).test = some number.toNat ∧ t.pkts = s.pkts ++ [⟨s.pairAt f key, s.pairAt f key, p⟩] ∧ p.status = 0) ∧
  (∀ (s : State) (a b : Addr) (addr : BitVec 20) (data : List (BitVec 64 × BitVec 4)), rectOk s.rows a.toNat b.toNat = true →
    (∀ q r, q ∈ rectPairs a.toNat b.toNat → r ∈ rectRoute a.toNat q → s.msgReset (pairField r) = false) →
    addr.toNat % 8 = 0 → 0 < data.length → data.length ≤ 7 → addr.toNat + 8 * data.length ≤ 0x10000 →
    ∃ t, exec (.rect a b false addr ⟨data, []⟩) s = .next t ∧ t.pkts = s.pkts ∧
      ∀ q f key, q ∈ rectPairs a.toNat b.toNat → s.locate q = some (f, key) → s.agentAway f = false →
        ∀ j, j < data.length → (t.tile f key).scrWord (addr.toNat / 8 + j) =
          ⟨(data.getD j (0, 0)).1, (data.getD j (0, 0)).2, 0⟩) ∧
  (∀ (s : State) (a b : Addr) (test : Bool) (addr : BitVec 20) (data : List (BitVec 64 × BitVec 4)),
    rectOk s.rows a.toNat b.toNat = false → exec (.rect a b test addr ⟨data, []⟩) s = .next s) ∧
  (∀ (s : State) (a : Addr) (addr : BitVec 20) (data : List (BitVec 64 × BitVec 4)) (f key z b : Nat),
    s.locate a.toNat = some (f, key) → State.pass [] (bcRoute a.toNat) bcPair s = (s, .held z b) →
    pairField a.toNat = pairField b → ∃ t p, exec (.write a addr ⟨data, []⟩) s = .next t ∧ t.pkts = s.pkts ++ [⟨z, z, p⟩] ∧
      p.status = 3 ∧ t.fields = s.fields ∧ t.reg F.RST_ISO_MSG = satAdd F.RST_ISO_MSG.w (s.reg F.RST_ISO_MSG) 1) ∧
  (∀ (s : State) (a : Addr) (number : BitVec 16) (f key z b : Nat),
    s.locate a.toNat = some (f, key) → State.pass [] (bcRoute a.toNat) bcPair s = (s, .held z b) →
    pairField a.toNat ≠ pairField b → exec (.test a ⟨number, []⟩) s = .next { s with
      pkts := s.pkts ++ [⟨z, z, sysPacket a.toNat 2 [⟨word64 [(0, number.toNat)], 0⟩]⟩] })

/-- A declared refresh window of a live field that has opened is served once: it is marked served; outside a live section
the autonomous refresh steps too. Each step moves FLD_STK_REF.ROW on by one modulo 160, notes the refcycle of the step,
and moves FLD_STK_SCRUB.NEXT on by 16 beats modulo 81,920. A forced step moves the row on and counts in FORCED, makes
the running section invalid, discards of every listed tile the stack beats that are still to land and the posted writes,
and reports its code. A waiting non-scheduled beat of a class that the rules admit now is taken off the waiting ones and
counted among the admitted, and a waiting access of the aperture is made; while the rules admit none, nothing changes.
Where the rules leave a choice, this states the model's: assumptions 31 and 32. -/
def Obligations.RefreshAndWaitingBeats : Prop :=
  (∀ (s : State) (f : Fin 48) (m : Img) (a : Nat), s.image = some m → (s.field f.val).live = true →
    (s.field f.val).stopped = false → m.period s.run.section_ ≠ 0 →
    m.phase s.run.section_ ≤ s.acyc - (s.field f.val).secStart →
    a = m.phase s.run.section_ + (s.acyc - (s.field f.val).secStart - m.phase s.run.section_) / m.period s.run.section_ *
      m.period s.run.section_ → a + 320 ≤ s.run.len → (s.field f.val).window ≠ some ((s.field f.val).secStart + a) →
    ∃ t, exec (.refreshWindow f []) s = .next t ∧ (t.field f.val).window = some ((s.field f.val).secStart + a) ∧
      (t.field f.val).lastStep = s.ref ∧ t.reg F.FLD_STK_REF_ROW f.val = (s.reg F.FLD_STK_REF_ROW f.val + 1) % 160 ∧
      t.reg F.FLD_STK_SCRUB_NEXT f.val = (s.reg F.FLD_STK_SCRUB_NEXT f.val + 16) % 81920) ∧
  (∀ (s : State) (f : Fin 48), s.present f.val = true → (s.field f.val).live = false →
    s.reg F.FLD_STK_REF_MODE f.val = 1 → ∃ t, exec (.autonomousRefresh f []) s = .next t ∧
      (t.field f.val).lastStep = s.ref ∧ t.reg F.FLD_STK_REF_ROW f.val = (s.reg F.FLD_STK_REF_ROW f.val + 1) % 160 ∧
      t.reg F.FLD_STK_SCRUB_NEXT f.val = (s.reg F.FLD_STK_SCRUB_NEXT f.val + 16) % 81920) ∧
  (∀ (s : State) (f : Fin 48), s.present f.val = true → s.reg F.FLD_STK_REF_MODE f.val ≠ 0 →
    ∃ t, exec (.forcedRefresh f) s = .next t ∧ t.reg F.FLD_STK_REF_ROW f.val = (s.reg F.FLD_STK_REF_ROW f.val + 1) % 160 ∧
      t.reg F.FLD_STK_REF_FORCED f.val = satAdd 16 (s.reg F.FLD_STK_REF_FORCED f.val) 1 ∧ t.run.invalid = true ∧
      (t.field f.val).forced = some s.acyc ∧ t.lastReport Code.refreshForced ∧
      ∀ key, key ∈ (s.field f.val).tiles.map (·.1) → (t.tile f.val key).posted = [] ∧
        ∀ b, b ∈ (t.tile f.val key).beats → b ∈ (s.tile f.val key).beats ∧ b.due ≤ s.acyc) ∧
  (∀ (s : State) (f : Fin 48) (cls : Fin 5) (n : Nat), cls.val < 4 → (s.field f.val).waiting.getD cls.val 0 = n + 1 →
    s.reg F.FLD_STK_REF_MODE f.val ≠ 0 → s.admits f.val cls.val = true →
    ∃ t, exec (.nonscheduledBeat f cls) s = .next t ∧
      t.field f.val = { s.field f.val with
        waiting := (s.field f.val).waiting.set cls.val n
        others := logBeats (s.field f.val).others s.acyc 1 } ∧ t.regs = s.regs ∧ ∀ q, q ≠ f.val → t.field q = s.field q) ∧
  (∀ (s : State) (f : Fin 48) (x : ApAccess), s.ldg.apWait = [x] → s.apField x = some f.val →
    s.reg F.FLD_STK_REF_MODE f.val ≠ 0 → s.admits f.val 4 = true →
    exec (.nonscheduledBeat f 4) s = .next (({ s with ldg := { s.ldg with apWait := [] } } : State).apServe x)) ∧
  (∀ (s : State) (f : Fin 48) (cls : Fin 5), s.admits f.val cls.val = false →
    exec (.nonscheduledBeat f cls) s = .next s)

/-- With no earlier access of its port waiting: an access of a window not enabled, or a write through a write-protected one,
is denied: a read completes with zeros, STAT.DENIED counts it, and no memory changes. An admitted read through a window
of the staging area completes with the bytes there and changes no memory; a write stores each byte at its place, every
other byte of the staging area stays, and the canonical form is kept. An admitted read through a segment window
completes with the segment's bytes; a write (with no section running) makes each byte read back, and no other byte of
the segment changes. Behind a waiting access of its port an access waits. One that is not admitted in time counts in
STAT.TIMEOUT and is given up, a read completing with Completer Abort; with the stack controllers in reset it counts in
RST_ISO.HOST. Where the rules leave a choice, this states the model's: assumptions 11, 14 and 31. -/
def Obligations.ApertureAccesses : Prop :=
  (∀ (s : State) (port : Fin 2) (off : BitVec 36) (n : Fin 4097) (data : List (BitVec 8)), s.stackReset = false →
    s.ldg.apWait.any (fun y => y.port = port.val) = false → s.reg F.HP_APW_EN port.val (off.toNat / 2 ^ 33) = 0 →
    (∃ t, exec (.apertureRead port off n []) s = .next t ∧ t.out = ⟨.hostCpl, port.val, 0, List.replicate n.val 0⟩ :: s.out ∧
      t.reg F.HP_APW_STAT_DENIED port.val = satAdd 32 (s.reg F.HP_APW_STAT_DENIED port.val) 1 ∧ t.fields = s.fields ∧
      t.staging = s.staging) ∧
    ∃ t, exec (.apertureWrite port off data) s = .next t ∧ t.out = s.out ∧
      t.reg F.HP_APW_STAT_DENIED port.val = satAdd 32 (s.reg F.HP_APW_STAT_DENIED port.val) 1 ∧ t.fields = s.fields ∧
      t.staging = s.staging) ∧
  (∀ (s : State) (port : Fin 2) (off : BitVec 36) (data : List (BitVec 8)), s.stackReset = false → s.ldg.apWait.any (fun y => y.port = port.val) = false →
    s.reg F.HP_APW_WP port.val (off.toNat / 2 ^ 33) = 1 → ∃ t, exec (.apertureWrite port off data) s = .next t ∧
      t.reg F.HP_APW_STAT_DENIED port.val = satAdd 32 (s.reg F.HP_APW_STAT_DENIED port.val) 1 ∧ t.fields = s.fields ∧
      t.staging = s.staging) ∧
  (∀ (s : State) (port : Fin 2) (off : BitVec 36) (n : Fin 4097) (b : Nat), s.stackReset = false → s.ldg.apWait.any (fun y => y.port = port.val) = false →
    s.reg F.HP_APW_EN port.val (off.toNat / 2 ^ 33) ≠ 0 → s.reg F.HP_APW_TYPE port.val (off.toNat / 2 ^ 33) = 1 →
    b = s.reg F.HP_APW_SEL port.val (off.toNat / 2 ^ 33) * 2 ^ 30 + off.toNat % 2 ^ 33 → b + n.val ≤ s.stagingSize →
    s.stagedRange ≤ b → s.admits (s.reserveField b) 4 = true → ∃ t, exec (.apertureRead port off n []) s = .next t ∧
      t.out = ⟨.hostCpl, port.val, 0, (List.range n.val).map (fun k => (SMap.get 0 s.staging (b + k)).toNat)⟩ :: s.out ∧
      t.staging = s.staging ∧ t.regs = s.regs ∧ ∀ f key, t.tile f key = s.tile f key) ∧
  (∀ (s : State) (port : Fin 2) (off : BitVec 36) (data : List (BitVec 8)) (b : Nat), s.stackReset = false → s.ldg.apWait.any (fun y => y.port = port.val) = false →
    s.reg F.HP_APW_EN port.val (off.toNat / 2 ^ 33) ≠ 0 → s.reg F.HP_APW_WP port.val (off.toNat / 2 ^ 33) ≠ 1 →
    s.reg F.HP_APW_TYPE port.val (off.toNat / 2 ^ 33) = 1 →
    b = s.reg F.HP_APW_SEL port.val (off.toNat / 2 ^ 33) * 2 ^ 30 + off.toNat % 2 ^ 33 → b + data.length ≤ s.stagingSize →
    s.stagedRange ≤ b → s.admits (s.reserveField b) 4 = true → ∃ t, exec (.apertureWrite port off data) s = .next t ∧
      t.regs = s.regs ∧ (∀ f key, t.tile f key = s.tile f key) ∧
      (∀ k, k < data.length → SMap.get 0 t.staging (b + k) = data.getD k 0) ∧
      (∀ a, (a < b ∨ b + data.length ≤ a) → SMap.get 0 t.staging a = SMap.get 0 s.staging a) ∧
      (SMap.wf 0 s.staging = true → SMap.wf 0 t.staging = true)) ∧
  (∀ (s : State) (port : Fin 2) (off : BitVec 36) (n : Fin 4097) (a f key : Nat), s.stackReset = false → s.ldg.apWait.any (fun y => y.port = port.val) = false →
    s.reg F.HP_APW_EN port.val (off.toNat / 2 ^ 33) ≠ 0 → s.reg F.HP_APW_TYPE port.val (off.toNat / 2 ^ 33) = 0 →
    s.reg F.HP_APW_SEL port.val (off.toNat / 2 ^ 33) < s.rows → a = off.toNat % 2 ^ 33 % 2 ^ 23 →
    a + n.val ≤ s.segBytes → s.locate (pairOf2 (off.toNat % 2 ^ 33 / 2 ^ 23)
      (s.reg F.HP_APW_SEL port.val (off.toNat / 2 ^ 33))) = some (f, key) →
    s.admits f 4 = true → (s.tile f key).stackTagged a n.val = false →
    ∃ t, exec (.apertureRead port off n []) s = .next t ∧
      t.out = ⟨.hostCpl, port.val, 0, (s.tile f key).stackBytes a n.val⟩ :: s.out ∧ t.staging = s.staging) ∧
  (∀ (s : State) (port : Fin 2) (off : BitVec 36) (data : List (BitVec 8)) (a f key : Nat), s.stackReset = false → s.ldg.apWait.any (fun y => y.port = port.val) = false →
    s.reg F.HP_APW_EN port.val (off.toNat / 2 ^ 33) ≠ 0 → s.reg F.HP_APW_WP port.val (off.toNat / 2 ^ 33) ≠ 1 →
    s.reg F.HP_APW_TYPE port.val (off.toNat / 2 ^ 33) = 0 →
    s.reg F.HP_APW_SEL port.val (off.toNat / 2 ^ 33) < s.rows → a = off.toNat % 2 ^ 33 % 2 ^ 23 →
    a + data.length ≤ s.segBytes → s.run.cur = none → s.locate (pairOf2 (off.toNat % 2 ^ 33 / 2 ^ 23)
      (s.reg F.HP_APW_SEL port.val (off.toNat / 2 ^ 33))) = some (f, key) →
    s.admits f 4 = true → (s.tile f key).stackTagged a data.length = false →
    (∀ i, i ∈ partialWords a data.length → ((s.tile f key).stkWord i).ecc ≠ .multi) →
    ∃ t, exec (.apertureWrite port off data) s = .next t ∧
      (∀ k, k < data.length → (t.tile f key).stackBytes (a + k) 1 = [(data.getD k 0).toNat]) ∧
      (∀ b, b < s.segBytes → (b < a ∨ a + data.length ≤ b) →
        bits ((t.tile f key).stkWord (b / 8)).data.toNat (8 * (b % 8)) 8 =
          bits ((s.tile f key).stkWord (b / 8)).data.toNat (8 * (b % 8)) 8) ∧
      (t.tile f key).scratch = (s.tile f key).scratch ∧
      ((∀ i, i ∈ partialWords a data.length → ((s.tile f key).stkWord i).ecc = .good) → t.regs = s.regs)) ∧
  (∀ (s : State) (port : Fin 2) (off : BitVec 36) (n : Fin 4097) (data : List (BitVec 8)), s.stackReset = false →
    s.ldg.apWait.any (fun y => y.port = port.val) = true →
    (exec (.apertureRead port off n []) s = .next { s with
      ldg := { s.ldg with apWait := s.ldg.apWait ++ [⟨port.val, off.toNat, false, n.val, []⟩] } }) ∧
    exec (.apertureWrite port off data) s = .next { s with
      ldg := { s.ldg with apWait := s.ldg.apWait ++ [⟨port.val, off.toNat, true, data.length, data⟩] } }) ∧
  (∀ (s : State) (port : Fin 2) (x : ApAccess), s.ldg.apWait.find? (fun y => y.port = port.val && y.write = x.write) = some x →
    ∃ t, exec (.apertureTimeout port x.write) s = .next t ∧ t.ldg.apWait = s.ldg.apWait.erase x ∧ t.staging = s.staging ∧
      t.fields = s.fields) ∧
  (∀ (s : State) (port : Fin 2), (∃ t, exec (.apertureTimeout port true) s = .next t ∧
      t.reg F.HP_APW_STAT_TIMEOUT port.val = satAdd 16 (s.reg F.HP_APW_STAT_TIMEOUT port.val) 1 ∧ t.out = s.out) ∧
    ∃ t, exec (.apertureTimeout port false) s = .next t ∧
      t.reg F.HP_APW_STAT_TIMEOUT port.val = satAdd 16 (s.reg F.HP_APW_STAT_TIMEOUT port.val) 1 ∧
      t.out = ⟨.hostCpl, port.val, 4, []⟩ :: s.out) ∧
  (∀ (s : State) (port : Fin 2) (off : BitVec 36) (n : Fin 4097) (data : List (BitVec 8)), s.stackReset = true →
    ∃ t u, exec (.apertureRead port off n []) s = .next t ∧ exec (.apertureWrite port off data) s = .next u ∧
      t.out = ⟨.hostCpl, port.val, 4, []⟩ :: s.out ∧ t.reg F.RST_ISO_HOST = satAdd F.RST_ISO_HOST.w (s.reg F.RST_ISO_HOST) 1 ∧
      t.fields = s.fields ∧ u.fields = s.fields ∧ u.staging = s.staging)

/-- On a port whose link layer is out of reset: enabling a DISABLED port makes it DOWN, disabling makes it DISABLED with
empty queues; TRAIN ends HOLD_DOWN, HOLD_DOWN and RETRAIN of an idle port make it DOWN, and each is refused with STATUS
2 where the port is DISABLED or in use; LOOP is written in Crocus and ignored as a 1 elsewhere. A DOWN port that is
enabled and neither held nor waiting trains at signal detect; the lanes qualified, but for a lane whose failure brought
it down, give ALIGN with width, spares, mask and the map of each direction, reported as HX_PORT_SHORT below the
contract; a training that times out waits; the agreed maps, the frame lock (LOOP or KEYING, sequence numbers 0), the key
session (MEASURE, KEYED, key phase 0; a failed one is reported and waits) and the agreed base latency (UP, HX_LAT) lead
on, each only from the state before it. Where the rules leave a choice, this states the model's: assumptions 12, 35 and
36. -/
def Obligations.PortTrainsStepByStep : Prop :=
  (∀ (s : State) (p : Fin 6), s.portLive p.val = true →
    (s.portState p.val = 0 → ∃ t, exec (.portEnable p true) s = .next t ∧ t.portState p.val = 1 ∧
      t.reg F.HX_CTRL_EN p.val = 1 ∧ t.ports = s.ports) ∧
    ∃ t, exec (.portEnable p false) s = .next t ∧ t.portState p.val = 0 ∧ t.reg F.HX_CTRL_EN p.val = 0 ∧
      t.reg F.HX_STATUS_KEYED p.val = 0 ∧ (t.port p.val).tx = [] ∧ (t.port p.val).rx = []) ∧
  (∀ (s : State) (p : Fin 6) (on : Bool), p.val < s.nPorts →
    ((on = false ∨ s.crocus = true) → ∃ t, exec (.loop p on) s = .next t ∧ t.reg F.HX_CTRL_LOOP p.val = b2n on ∧
      s.onlyRegs t [Fld.key F.HX_CTRL_LOOP p.val 0]) ∧
    (on = true → s.crocus = false → exec (.loop p on) s = .next s)) ∧
  (∀ (s : State) (p : Fin 6), s.portLive p.val = true →
    (s.portState p.val ≠ 0 → ∃ t, exec (.train p) s = .next t ∧ (t.port p.val).held = false ∧
      (t.port p.val).waiting = false ∧ t.reg F.HX_CMD_STATUS p.val = 0 ∧ t.portState p.val = s.portState p.val) ∧
    (s.portState p.val = 0 → ∃ t, exec (.train p) s = .next t ∧ t.reg F.HX_CMD_STATUS p.val = 2 ∧ t.ports = s.ports)) ∧
  (∀ (s : State) (p : Fin 6), s.portLive p.val = true → s.portState p.val ≠ 0 → s.portBusy p.val = false →
    (∃ t, exec (.holdDown p) s = .next t ∧ t.portState p.val = 1 ∧ (t.port p.val).held = true ∧
      t.reg F.HX_CMD_STATUS p.val = 0 ∧ (t.port p.val).tx = []) ∧
    ∃ t, exec (.retrain p) s = .next t ∧ t.portState p.val = 1 ∧ (t.port p.val).waiting = false ∧
      t.reg F.HX_CMD_STATUS p.val = 0 ∧ (t.port p.val).tx = []) ∧
  (∀ (s : State) (p : Fin 6), s.portLive p.val = true → (s.portState p.val = 0 ∨ s.portBusy p.val = true) →
    ∃ t u, exec (.holdDown p) s = .next t ∧ exec (.retrain p) s = .next u ∧ t.reg F.HX_CMD_STATUS p.val = 2 ∧
      u.reg F.HX_CMD_STATUS p.val = 2 ∧ t.ports = s.ports ∧ u.ports = s.ports ∧ t.portState p.val = s.portState p.val ∧
      u.portState p.val = s.portState p.val) ∧
  (∀ (s : State) (p : Fin 6), s.portLive p.val = true → s.portState p.val = 1 →
    ((s.port p.val).held = false → (s.port p.val).waiting = false → s.reg F.HX_CTRL_EN p.val = 1 →
      ∃ t, exec (.signalDetect p) s = .next t ∧ t.portState p.val = 2 ∧
        s.onlyRegs t [Fld.key F.HX_STATUS_STATE p.val 0]) ∧
    (((s.port p.val).held = true ∨ (s.port p.val).waiting = true ∨ s.reg F.HX_CTRL_EN p.val = 0) →
      exec (.signalDetect p) s = .next s)) ∧
  (∀ (s : State) (p : Fin 6) (good : BitVec 26) (ls : List Nat) (w : Nat), s.portLive p.val = true → s.portState p.val = 2 →
    ls = (laneList good.toNat).filter (fun n => !(s.port p.val).lost.contains n) → ls ≠ [] → w = min ls.length 24 →
    ∃ t, exec (.laneQualify p good) s = .next t ∧ t.portState p.val = 3 ∧ t.reg F.HX_LANES_GOOD p.val = laneMask ls ∧
      t.reg F.HX_STATUS_WIDTH p.val = w ∧ t.reg F.HX_STATUS_SPARES p.val = ls.length - w ∧
      t.reg F.HX_LANES_ACTIVE p.val = laneMask (ls.take w) ∧ (t.port p.val).txMap = ls.take w ∧
      (t.port p.val).rxMap = ls.take w ∧ (t.port p.val).lost = [] ∧
      (w < s.contract p.val → s.reports1 t Code.hxPortShort) ∧ (s.contract p.val ≤ w → t.reports = s.reports)) ∧
  (∀ (s : State) (p : Fin 6), s.portLive p.val = true →
    (s.portState p.val = 2 → ∃ t, exec (.trainTimeout p) s = .next t ∧ t.portState p.val = 1 ∧
      (t.port p.val).waiting = true) ∧
    ∃ t, exec (.trainRetry p) s = .next t ∧ (t.port p.val).waiting = false ∧ t.regs = s.regs) ∧
  (∀ (s : State) (p nport : Fin 6) (ncoord : BitVec 15), s.portLive p.val = true → s.portState p.val = 3 →
    ∃ t, exec (.map p nport ncoord) s = .next t ∧ t.portState p.val = 4 ∧ t.reg F.HX_STATUS_NPORT p.val = nport.val ∧
      t.reg F.HX_STATUS_NCOORD p.val = ncoord.toNat ∧ t.reg F.HX_STATUS_NVALID p.val = 1 ∧ t.ports = s.ports) ∧
  (∀ (s : State) (p : Fin 6), s.portLive p.val = true → s.portState p.val = 4 → ∃ t, exec (.frameLock p) s = .next t ∧
      t.portState p.val = (if s.reg F.HX_CTRL_LOOP p.val = 1 then 8 else 5) ∧ (t.port p.val).txSeq = 0 ∧
      (t.port p.val).rxSeq = 0 ∧ (t.port p.val).sent = [] ∧ (t.port p.val).resend = []) ∧
  (∀ (s : State) (p : Fin 6) (accepted : Bool), s.portLive p.val = true → s.portState p.val = 5 →
    (∃ t, exec (.keySessionEstablished p true true) s = .next t ∧ t.portState p.val = 6 ∧
      t.reg F.HX_STATUS_KEYED p.val = 1 ∧ t.reg F.HX_STATUS_KPH p.val = 0 ∧ t.reports = s.reports) ∧
    ∃ t, exec (.keySessionEstablished p false accepted) s = .next t ∧ t.portState p.val = 1 ∧
      t.reg F.HX_STATUS_KEYED p.val = 0 ∧ (t.port p.val).waiting = true ∧ s.reports1 t Code.hxKeyFail) ∧
  (∀ (s : State) (p : Fin 6) (rtt base fibre : BitVec 16), s.portLive p.val = true → s.portState p.val = 6 →
    ∃ t, exec (.baseLatencyAgreed p rtt base fibre) s = .next t ∧ t.portState p.val = 7 ∧
      t.reg F.HX_LAT_RTT p.val = rtt.toNat ∧ t.reg F.HX_LAT_BASE p.val = base.toNat ∧
      t.reg F.HX_LAT_FIBRE p.val = fibre.toNat ∧ t.ports = s.ports)

/-- On an UP port: loss of frame lock takes it DOWN, with its queues emptied, its session ended and HX_LINK_DOWN reported,
and it trains at once. A failed lane of the direction received with no spare free retrains the port, which then leaves
that lane out; with one, a swap of the lane for the spare is agreed for the frame 64 after the last received, and the
port stays UP with no report. A LANE cell adds the neighbour's swap of the other direction. When its frame is reached,
the swap puts the spare in the failed lane's place in the map of its own direction and leaves the other direction's map,
the failed lane is no longer good, a lane is active that either map uses, and HX_LANE_SPARED is reported; before that
frame nothing changes. Where the rules leave a choice, this states the model's: assumptions 11, 35 and 36. -/
def Obligations.LanesFailAndTheLinkIsLost : Prop :=
  (∀ (s : State) (p : Fin 6), s.portLive p.val = true → s.portState p.val = 7 → ∃ t, exec (.frameLockLoss p) s = .next t ∧
      t.portState p.val = 2 ∧ t.reg F.HX_STATUS_KEYED p.val = 0 ∧ (t.port p.val).tx = [] ∧ (t.port p.val).rx = [] ∧
      s.reports1 t Code.hxLinkDown) ∧
  (∀ (s : State) (p : Fin 6) (lane : Fin 26), s.portLive p.val = true → s.portState p.val = 7 →
    (s.port p.val).rxMap.contains lane.val = true → s.spareLane p.val = none → ∃ t, exec (.laneFail p lane) s = .next t ∧
      t.portState p.val = 2 ∧ (t.port p.val).lost = lane.val :: (s.port p.val).lost ∧ s.reports1 t Code.hxLinkDown) ∧
  (∀ (s : State) (p : Fin 6) (lane : Fin 26) (sp : Nat), s.portLive p.val = true → s.portState p.val = 7 →
    (s.port p.val).rxMap.contains lane.val = true → s.spareLane p.val = some sp →
    ∃ t w, exec (.laneFail p lane) s = .next t ∧ t.portState p.val = 7 ∧ t.reports = s.reports ∧
      (t.port p.val).swaps = (s.port p.val).swaps ++ [w] ∧ w.failed = lane.val ∧ w.spare = sp ∧
      w.seqNo = (s.port p.val).rxSeq + 64 ∧ w.rx = true ∧
      ((t.port p.val).queue 6).length = ((s.port p.val).queue 6).length + 1) ∧
  (∀ (s : State) (p : Fin 6) (b : List Nat), s.portLive p.val = true → b = ((s.port p.val).rx.get [] 6).take 64 →
    b.length = 64 → cellCrcOk b = true → (cellOf b).type = 0x11 →
    ∃ t w, exec (.lane p) s = .next t ∧ (t.port p.val).swaps = (s.port p.val).swaps ++ [w] ∧ w.rx = false ∧
      w.failed = leAt (cellOf b).body 0 1 ∧ w.spare = leAt (cellOf b).body 1 1 ∧ w.seqNo = leAt (cellOf b).body 8 6 ∧
      (t.port p.val).rx.get [] 6 = ((s.port p.val).rx.get [] 6).drop 64) ∧
  (∀ (s : State) (p : Fin 6) (w : Swap) (r : List Swap) (swap : List Nat → List Nat), s.portLive p.val = true →
    (s.port p.val).swaps = w :: r → w.seqNo ≤ (if w.rx then (s.port p.val).rxSeq else (s.port p.val).txSeq) →
    swap = (fun m => m.map (fun n => if n = w.failed then w.spare else n)) →
    ∃ t, exec (.laneSwap p) s = .next t ∧ (t.port p.val).swaps = r ∧
      (t.port p.val).rxMap = (if w.rx then swap (s.port p.val).rxMap else (s.port p.val).rxMap) ∧
      (t.port p.val).txMap = (if w.rx then (s.port p.val).txMap else swap (s.port p.val).txMap) ∧
      (∀ n, n < 26 → bitOf (t.reg F.HX_LANES_ACTIVE p.val) n =
        ((t.port p.val).txMap ++ (t.port p.val).rxMap).contains n) ∧
      (∀ n, n < 26 → bitOf (t.reg F.HX_LANES_GOOD p.val) n =
        (bitOf (s.reg F.HX_LANES_GOOD p.val) n && decide (n ≠ w.failed))) ∧
      t.portState p.val = s.portState p.val ∧ s.reports1 t Code.hxLaneSpared) ∧
  (∀ (s : State) (p : Fin 6) (w : Swap) (r : List Swap), (s.port p.val).swaps = w :: r →
    (if w.rx then (s.port p.val).rxSeq else (s.port p.val).txSeq) < w.seqNo → exec (.laneSwap p) s = .next s)

/-- An UP port with nothing to resend sends a frame with the next sequence number, that of the last frame received intact as
its ACK and a NAK where one is due, keeps it among the last 128 sent, and advances the key phase by one modulo 4, with
the next secret, exactly where an epoch boundary has passed; one with a frame to resend sends that again, as it was but
for REPLAY, over the map in force, and counts a retry. A good frame with the expected sequence number, under a key held
and with room in the buffers, makes the next one expected, takes the neighbour's flow control and joins its unit to the
channel; a frame with an uncorrectable codeword or a failed tag joins nothing, keeps the expected number, and asks for a
replay (a failed tag counts in HX_ERR.AUTH); the eighth bad attempt of a frame is reported as HX_RETRY_LIMIT and
retrains the port. Where the rules leave a choice, this states the model's: assumptions 34 and 36. -/
def Obligations.FramesAreSentReceivedAndReplayed : Prop :=
  (∀ (s : State) (p : Fin 6), s.portLive p.val = true → s.portState p.val = 7 → (s.port p.val).resend = [] →
    ∃ t body f, exec (.frameTransmit p) s = .next t ∧ t.out = ⟨.link, p.val, (s.port p.val).txSeq, body⟩ :: s.out ∧
      (t.port p.val).txSeq = ((s.port p.val).txSeq + 1) % 2 ^ 48 ∧ (t.port p.val).sent.getLast? = some f ∧
      f.seqNo = (s.port p.val).txSeq ∧ f.ack = ((s.port p.val).rxSeq + 2 ^ 48 - 1) % 2 ^ 48 ∧
      f.nak = (s.port p.val).nak ∧ f.clear = false ∧ (t.port p.val).nak = false ∧ t.portState p.val = 7 ∧
      (s.keyDue p.val = false → t.reg F.HX_STATUS_KPH p.val = s.reg F.HX_STATUS_KPH p.val) ∧
      (s.keyDue p.val = true → t.reg F.HX_STATUS_KPH p.val = (s.reg F.HX_STATUS_KPH p.val + 1) % 4 ∧
        f.secret = nextSecret (s.port p.val).txSecret)) ∧
  (∀ (s : State) (p : Fin 6) (f : Sent) (r : List Sent), s.portLive p.val = true → 4 ≤ s.portState p.val →
    (s.port p.val).resend = f :: r → ∃ t, exec (.frameTransmit p) s = .next t ∧
      t.out = ⟨.link, p.val, f.seqNo, (s.port p.val).txMap.length :: (s.port p.val).txMap ++ f.bytes true⟩ :: s.out ∧
      (t.port p.val).resend = r ∧
      (t.port p.val).txSeq = (s.port p.val).txSeq ∧
      t.reg F.HX_ERR_RETRY p.val = satAdd 12 (s.reg F.HX_ERR_RETRY p.val) 1) ∧
  (∀ (s : State) (p : Fin 6) (f : Frame) (corr : Nat) (ch : BitVec 4) (bs : List (BitVec 8)), s.portLive p.val = true →
    s.portState p.val = 7 → s.reg F.HX_STATUS_KEYED p.val = 1 → f.clear = false → f.seqNo = (s.port p.val).rxSeq →
    (s.port p.val).holdsKey f = true → (s.port p.val).roomFor f.units = true → f.units = [(ch, bs)] → 1 ≤ ch.toNat → ch.toNat ≤ 6 → ∃ t, exec (.frameReceive p f corr 0 true) s = .next t ∧
      (t.port p.val).rxSeq = ((s.port p.val).rxSeq + 1) % 2 ^ 48 ∧ (t.port p.val).attempts = 0 ∧
      (t.port p.val).rx.get [] ch.toNat = (s.port p.val).rx.get [] ch.toNat ++ bs.map (·.toNat) ∧
      (∀ c, c ≠ ch.toNat → (t.port p.val).rx.get [] c = (s.port p.val).rx.get [] c) ∧
      t.reg F.HX_FC_OFF_SEEN p.val = f.fc.toNat ∧ t.reports = s.reports) ∧
  (∀ (s : State) (p : Fin 6) (f : Frame) (corr uncorr : Nat) (ok : Bool), s.portLive p.val = true →
    s.portState p.val = 7 → f.clear = false → uncorr ≠ 0 → (s.port p.val).fails.length < 16 →
    (s.port p.val).attempts < 7 → ∃ t, exec (.frameReceive p f corr uncorr ok) s = .next t ∧
      (t.port p.val).nak = true ∧ (t.port p.val).rxSeq = (s.port p.val).rxSeq ∧ (t.port p.val).rx = (s.port p.val).rx ∧
      t.reports = s.reports ∧ t.portState p.val = 7 ∧
      (f.seqNo = (s.port p.val).rxSeq → (t.port p.val).attempts = (s.port p.val).attempts + 1)) ∧
  (∀ (s : State) (p : Fin 6) (f : Frame) (corr : Nat), s.portLive p.val = true → s.portState p.val = 7 → f.clear = false →
    (s.port p.val).fails.length < 15 → (s.port p.val).attempts < 7 →
    ∃ t, exec (.frameReceive p f corr 0 false) s = .next t ∧ (t.port p.val).nak = true ∧
      (t.port p.val).rx = (s.port p.val).rx ∧ (t.port p.val).rxSeq = (s.port p.val).rxSeq ∧
      t.reg F.HX_ERR_AUTH p.val = satAdd 12 (s.reg F.HX_ERR_AUTH p.val) 1 ∧ t.reports = s.reports) ∧
  (∀ (s : State) (p : Fin 6) (f : Frame) (corr uncorr : Nat) (ok : Bool), s.portLive p.val = true →
    s.portState p.val = 7 → f.clear = false → uncorr ≠ 0 → (s.port p.val).fails.length < 16 →
    f.seqNo = (s.port p.val).rxSeq → 7 ≤ (s.port p.val).attempts →
    ∃ t, exec (.frameReceive p f corr uncorr ok) s = .next t ∧ t.portState p.val = 2 ∧
      t.reports.map (·.code) = s.reports.map (·.code) ++ [Code.hxRetryLimit, Code.hxLinkDown])

/-- The words that landing tiles drove in an acycle, with none tallied, become one record behind those queued on the
scheduled channel. A record still queued 16 acycles after its capture, and one not complete in time, makes the section
invalid and is reported. A whole record received in time by a member that runs joins the landing buffer with the rope
acycle it names; one that comes later than its landing allows only counts as LATE. The oldest due record leaves the
landing buffer, and its word, met by no uncorrectable error, joins the landing FIFO of its tile where colour and room
allow; on a port that the image does not use it joins none. An SPDM cell's 48 bytes start a message at index 0, join it
at the next index of the same message, and complete it at LAST; a time stamp is echoed, and an echo gives the round trip
in HX_LAT. Where the rules leave a choice, this states the model's: assumptions 34, 35 and 37. -/
def Obligations.ScheduledRecordsCrossTheLink : Prop :=
  (∀ (s : State) (p : Fin 6), s.portLive p.val = true → (s.port p.val).edge ≠ [] →
    (∀ w, w ∈ (s.port p.val).edge → s.tallied p.val (s.port p.val).edgeAt w.1 = false) →
    ∃ t, exec (.scheduledRecord p) s = .next t ∧ (t.port p.val).edge = [] ∧
      (t.port p.val).queue 1 = (s.port p.val).queue 1 ++
        [⟨recordBytes s.epochLog2 (s.port p.val).edgeAt (s.port p.val).edge, 0, s.acyc, false, false⟩]) ∧
  (∀ (s : State) (p : Fin 6) (it : TxItem) (r : List TxItem), s.portLive p.val = true →
    (s.port p.val).queue 1 = it :: r → it.noted = false → it.at_ + 16 ≤ s.acyc →
    ∃ t, exec (.hxSchedOverrate p) s = .next t ∧ t.run.invalid = true ∧ s.reports1 t Code.hxSchedOverrate ∧
      ((t.port p.val).queue 1).length = ((s.port p.val).queue 1).length ∧
      ((t.port p.val).queue 1).head? = some { it with noted := true }) ∧
  (∀ (s : State) (p : Fin 6) (b : List Nat) (n : Nat), s.portLive p.val = true → b = (s.port p.val).rx.get [] 1 →
    n = ((List.range 128).filter (fun i => bitOf (leAt b 8 16) i)).length → 24 + 8 * n ≤ b.length →
    s.stackReset = false → s.ropeRuns = true → s.recordTime (leAt b 0 4) (leAt b 4 3) ≤ s.acyc + 65536 →
    s.acyc ≤ s.recordTime (leAt b 0 4) (leAt b 4 3) + 65536 →
    s.acyc + 2 ≤ s.recordTime (leAt b 0 4) (leAt b 4 3) + s.landDelay → (s.port p.val).landingWords + n ≤ 65536 →
    ∃ t rec_, exec (.recordArrival p) s = .next t ∧ (t.port p.val).landing = (s.port p.val).landing ++ [rec_] ∧
      rec_.at_ = s.recordTime (leAt b 0 4) (leAt b 4 3) ∧ rec_.words.length = n ∧
      (t.port p.val).rx.get [] 1 = b.drop (24 + 8 * n) ∧ t.reports = s.reports) ∧
  (∀ (s : State) (p : Fin 6) (b : List Nat) (n : Nat), s.portLive p.val = true → b = (s.port p.val).rx.get [] 1 →
    n = ((List.range 128).filter (fun i => bitOf (leAt b 8 16) i)).length → 24 + 8 * n ≤ b.length →
    s.stackReset = false → s.ropeRuns = true → s.recordTime (leAt b 0 4) (leAt b 4 3) ≤ s.acyc + 65536 →
    s.acyc ≤ s.recordTime (leAt b 0 4) (leAt b 4 3) + 65536 →
    s.recordTime (leAt b 0 4) (leAt b 4 3) + s.landDelay < s.acyc + 2 →
    ∃ t, exec (.recordArrival p) s = .next t ∧ (t.port p.val).landing = (s.port p.val).landing ∧
      t.reg F.HX_SCHED_LATE p.val = satAdd 12 (s.reg F.HX_SCHED_LATE p.val) 1) ∧
  (∀ (s : State) (p : Fin 6) (errs : List (BitVec 80)) (r : Record) (rest : List Record) (i f key : Nat) (w : Word),
    s.portWidth p.val ≠ 0 → errOutcome (errs.getD 0 0) ≠ .multi →
    takeFirst (fun (r : Record) => decide (r.at_ + s.landDelay ≤ s.acyc + 1)) (s.port p.val).landing = some (r, rest) →
    r.words = [(i, w)] → s.locate (s.landingTile p.val i).1 = some (f, key) → s.inReset f = false →
    r.colour = (s.tile f key).seq.colour → ((s.tile f key).rtr.fifo (s.landingTile p.val i).2).length < 16 →
    ∃ t, exec (.recordLanding ⟨p, errs⟩) s = .next t ∧ (t.port p.val).landing = rest ∧
      (t.tile f key).rtr.fifo (s.landingTile p.val i).2 =
        (s.tile f key).rtr.fifo (s.landingTile p.val i).2 ++ [⟨w, r.colour⟩] ∧ t.reports = s.reports) ∧
  (∀ (s : State) (p : Fin 6) (at_ : Nat), s.portLive p.val = true → s.portWidth p.val ≠ 0 →
    at_ + s.landDelay - 2 ≤ s.acyc → (∀ r, r ∈ (s.port p.val).landing → r.at_ ≠ at_) →
    ∃ t, exec (.schLateLanding p at_) s = .next t ∧ t.run.invalid = true ∧ s.reports1 t Code.lateLanding ∧
      t.ports = s.ports) ∧
  (∀ (s : State) (p : Fin 6) (b m : List Nat), s.portLive p.val = true → b = ((s.port p.val).rx.get [] 6).take 64 →
    b.length = 64 → cellCrcOk b = true → (cellOf b).type = 0x10 → m = ((cellOf b).body.drop 4).take 48 →
    (bitOf (leAt (cellOf b).body 3 1) 0 = false → ∃ t, exec (.spdm p) s = .next t ∧ (t.port p.val).spdm =
      (if leAt (cellOf b).body 2 1 = 0 then m
        else if leAt (cellOf b).body 0 2 = (s.port p.val).spdmMsg ∧ leAt (cellOf b).body 2 1 = (s.port p.val).spdmFrag then
          (s.port p.val).spdm ++ m else (s.port p.val).spdm)) ∧
    (bitOf (leAt (cellOf b).body 3 1) 0 = true → leAt (cellOf b).body 2 1 = 0 → s.portState p.val ≠ 5 →
      ∃ t, exec (.spdm p) s = .next t ∧ (t.port p.val).spdm = [] ∧ (t.port p.val).spdmIn = m :: (s.port p.val).spdmIn)) ∧
  (∀ (s : State) (p : Fin 6) (b : List Nat), s.portLive p.val = true → b = ((s.port p.val).rx.get [] 6).take 64 →
    b.length = 64 → cellCrcOk b = true → (cellOf b).type = 0x12 →
    (leAt (cellOf b).body 8 8 = 0 → ∃ t it, exec (.probe p) s = .next t ∧
      (t.port p.val).queue 6 = (s.port p.val).queue 6 ++ [it] ∧ it.bytes = Cell.bytes ⟨false,
        s.reg F.HX_STATUS_NCOORD p.val, s.own, 0x12, 0, 0, 0, s.bcl.nextCell,
        bytesLe 8 s.lclk ++ bytesLe 8 (leAt (cellOf b).body 0 8)⟩) ∧
    (leAt (cellOf b).body 8 8 ≠ 0 → leAt (cellOf b).body 8 8 ≤ s.lclk → s.lclk < 2 ^ 64 →
      ∃ t, exec (.probe p) s = .next t ∧
        t.reg F.HX_LAT_RTT p.val = (s.lclk - leAt (cellOf b).body 8 8) % 2 ^ 16)) ∧
  (∀ (s : State) (p : Fin 6) (errs : List (BitVec 80)) (r : Record) (rest : List Record), s.portWidth p.val = 0 →
    takeFirst (fun (r : Record) => decide (r.at_ + s.landDelay ≤ s.acyc + 1)) (s.port p.val).landing = some (r, rest) →
    ∃ t, exec (.recordLanding ⟨p, errs⟩) s = .next t ∧ (t.port p.val).landing = rest ∧ t.fields = s.fields)

/-- With the transit ring empty and no buffer OFF: a whole dynamic packet with a good CRC and an allowed length, or a
privileged cell with a good CRC, addressed to the module leaves the port and is delivered to Base Camp over the ring;
one with a bad CRC or length only counts in HX_ERR.CRC. While the ring's stop sends OFF for its channel it waits at the
port. The oldest remote write that the trust policy admits, inside the staging area, stores its bytes, changes no other
byte of it and is answered, through the port of the way back, with status 0; one that is not admitted stores nothing and
is answered DENIED (1). An admitted remote read of a length that is allowed is answered with the bytes, another with
DENIED. The replies: each ends its outstanding request, and the data of a read is kept. A request that times out is no
longer outstanding, and nothing else changes. Where the rules leave a choice, this states the model's: assumption 37. -/
def Obligations.RemoteRequestsAndCellsAreServed : Prop :=
  (∀ (s : State) (p : Fin 6) (vn : Bool) (b : List Nat) (n : Nat), s.portLive p.val = true → s.bcl.ring = [] → (∀ k, s.bcl.ringOff.get false k = false) →
    b = (s.port p.val).rx.get [] (if vn then 3 else 2) → n = 20 + leAt b 4 2 → n ≤ b.length →
    (dynLenOk (leAt b 4 2) = true → crc32c ((b.take n).take (n - 4)) = leAt (b.take n) (n - 4) 4 →
      s.reg F.HX_TOPO_VALID = 1 → (dynOf (b.take n)).dst = s.own →
      ∃ t, exec (.dynamicPacket p vn) s = .next t ∧ t.bcl.dyns = s.bcl.dyns ++ [dynOf (b.take n)] ∧ t.bcl.ring = [] ∧
        (t.port p.val).rx.get [] (if vn then 3 else 2) = b.drop n) ∧
    ((dynLenOk (leAt b 4 2) = false ∨ crc32c ((b.take n).take (n - 4)) ≠ leAt (b.take n) (n - 4) 4) →
      ∃ t, exec (.dynamicPacket p vn) s = .next t ∧ t.bcl = s.bcl ∧
        (t.port p.val).rx.get [] (if vn then 3 else 2) = b.drop n ∧
        t.reg F.HX_ERR_CRC p.val = satAdd 12 (s.reg F.HX_ERR_CRC p.val) 1)) ∧
  (∀ (s : State) (p : Fin 6) (vc : Bool) (b : List Nat), s.portLive p.val = true → s.bcl.ring = [] → (∀ k, s.bcl.ringOff.get false k = false) →
    b = (s.port p.val).rx.get [] (if vc then 5 else 4) → 64 ≤ b.length →
    (cellCrcOk (b.take 64) = true → forwardType (cellOf (b.take 64)).type = true → (cellOf (b.take 64)).bcast = false →
      (cellOf (b.take 64)).dst = s.own → ∃ t, exec (.privilegedCell p vc) s = .next t ∧
        t.bcl.cells = s.bcl.cells ++ [(p.val, cellOf (b.take 64))] ∧ t.bcl.ring = []) ∧
    (cellCrcOk (b.take 64) = false → ∃ t, exec (.privilegedCell p vc) s = .next t ∧ t.bcl = s.bcl ∧
      t.reg F.HX_ERR_CRC p.val = satAdd 12 (s.reg F.HX_ERR_CRC p.val) 1)) ∧
  (∀ (s : State) (p : Fin 6) (v : Bool), (s.ringIsOff p.val 0 (if v then 3 else 2) = true → exec (.dynamicPacket p v) s = .next s) ∧
    (s.ringIsOff p.val 0 (if v then 5 else 4) = true → exec (.privilegedCell p v) s = .next s)) ∧
  (∀ (s : State) (d : Dyn) (r : List Dyn) (q : Nat), s.bcl.dyns = d :: r → d.op = 2 → d.vn = 0 → s.stackReset = false → s.bcl.ring = [] → (∀ k, s.bcl.ringOff.get false k = false) →
    64 * d.arg + d.payload.length ≤ s.stagingSize → s.dynNext d.src = .out q → s.portUp q = true →
    (∃ t it x, exec (.rwrite true) s = .next t ∧ t.bcl.dyns = r ∧
      (∀ k, k < d.payload.length → SMap.get 0 t.staging (64 * d.arg + k) = BitVec.ofNat 8 (d.payload.getD k 0)) ∧
      (∀ a, (a < 64 * d.arg ∨ 64 * d.arg + d.payload.length ≤ a) → SMap.get 0 t.staging a = SMap.get 0 s.staging a) ∧
      (t.port q).queue 3 = (s.port q).queue 3 ++ [it] ∧ it.bytes = Dyn.bytes ⟨d.src, 1, s.own, 0x82, 0, d.id, x, []⟩) ∧
    ∃ t it x, exec (.rwrite false) s = .next t ∧ t.bcl.dyns = r ∧ t.staging = s.staging ∧
      (t.port q).queue 3 = (s.port q).queue 3 ++ [it] ∧ it.bytes = Dyn.bytes ⟨d.src, 1, s.own, 0x82, 1, d.id, x, []⟩) ∧
  (∀ (s : State) (d : Dyn) (r : List Dyn) (q n : Nat), s.bcl.dyns = d :: r → d.op = 3 → d.vn = 0 → s.stackReset = false → s.bcl.ring = [] → (∀ k, s.bcl.ringOff.get false k = false) →
    n = leAt d.payload 0 4 → s.dynNext d.src = .out q → s.portUp q = true →
    (n ≤ 8172 → n % 4 = 0 → 64 * d.arg + n ≤ s.stagingSize → ∃ t it x, exec (.rread true) s = .next t ∧ t.bcl.dyns = r ∧
      t.staging = s.staging ∧ (t.port q).queue 3 = (s.port q).queue 3 ++ [it] ∧
      it.bytes = Dyn.bytes ⟨d.src, 1, s.own, 0x83, 0, d.id, x,
        (List.range n).map (fun k => (SMap.get 0 s.staging (64 * d.arg + k)).toNat)⟩) ∧
    ((8172 < n ∨ n % 4 ≠ 0 ∨ s.stagingSize < 64 * d.arg + n) → ∃ t it x, exec (.rread true) s = .next t ∧ t.bcl.dyns = r ∧
      t.staging = s.staging ∧ (t.port q).queue 3 = (s.port q).queue 3 ++ [it] ∧
      it.bytes = Dyn.bytes ⟨d.src, 1, s.own, 0x83, 1, d.id, x, []⟩)) ∧
  (∀ (s : State) (d : Dyn) (r : List Dyn), s.bcl.dyns = d :: r → d.vn = 1 →
    (∃ w, w ∈ s.bcl.waiting ∧ w.1 = d.id) →
    (d.op = 0x82 → exec .rwriteDone s = .next { s with bcl := { s.bcl with
      dyns := r, waiting := s.bcl.waiting.filter (fun w => w.1 ≠ d.id) } }) ∧
    (d.op = 0x83 → exec .rreadData s = .next { s with bcl := { s.bcl with
      dyns := r, waiting := s.bcl.waiting.filter (fun w => w.1 ≠ d.id),
      data := (d.id, d.status, d.payload) :: s.bcl.data } }) ∧
    (d.op = 0x8F → exec .error s = .next { s with bcl := { s.bcl with
      dyns := r, waiting := s.bcl.waiting.filter (fun w => w.1 ≠ d.id) } })) ∧
  (∀ (s : State) (id : BitVec 32), exec (.dynamicRequestTimeout id) s = .next { s with bcl := { s.bcl with
      waiting := s.bcl.waiting.filter (fun w => w.1 ≠ id.toNat) } })

/-- FORM with an image whose header has a rope, STATE READY, and the member in NONE or STOPPED moves it to PREPARE with its
coordinates and the anchor's, and is refused with STATUS 2 otherwise. PREPARE ends in READY at the anchor, which is then
its first member, which is on no recovered MREF, in JOINING at another member that has rope time, which is then on its
time port's MREF, and in STOPPED with reason SHORT_PORT where a needed port fails, or MREF where the recovered one is
not ready. Every 100 ms a joining member sends its JOIN; the anchor admits one that agrees, counts it, and leaves the
rest of its rope alone for one that does not; the answer makes the member READY or STOPPED. The forming time-out, a lost
time port, STOP at a member, and LEAVE end with the states and reasons of the rules; a port that stays short leads to
REPLAN. Where the rules leave a choice, this states the model's: assumptions 44, 45 and 46. -/
def Obligations.RopeFormsJoinsAndStops : Prop :=
  (∀ (s : State) (m : Img) (anchor : BitVec 15), s.image = some m → m.hasRope = true →
    s.reg F.BC_IMG_STATUS_STATE = 2 → (s.reg F.BC_ROPE_STATUS_STATE = 0 ∨ s.reg F.BC_ROPE_STATUS_STATE = 7) →
    (∃ t, exec (.form true anchor) s = .next t ∧ t.reg F.BC_ROPE_STATUS_STATE = 1 ∧ t.reg F.BC_ROPE_STATUS_REASON = 0 ∧
      t.reg F.BC_ROPE_STATUS_ACOORD = anchor.toNat ∧ t.reg F.BC_ROPE_STATUS_ANCHOR = b2n (anchor.toNat = m.rope.coord) ∧
      t.reg F.HX_TOPO_VALID = 1 ∧ t.reg F.BC_ROPE_CMD_STATUS = 0 ∧ t.rope.slotA = s.rope.slotA ∧ t.rope.start = none) ∧
    ∃ t, exec (.form false anchor) s = .next t ∧ t.reg F.BC_ROPE_STATUS_STATE = 1 ∧
      t.reg F.BC_ROPE_STATUS_ACOORD = m.rope.anchor % 2 ^ 15 ∧
      t.reg F.BC_ROPE_STATUS_ANCHOR = b2n (m.rope.anchor = m.rope.coord)) ∧
  (∀ (s : State) (aovr : Bool) (anchor : BitVec 15), (s.image = none ∨
      (s.reg F.BC_ROPE_STATUS_STATE ≠ 0 ∧ s.reg F.BC_ROPE_STATUS_STATE ≠ 7) ∨ s.reg F.BC_IMG_STATUS_STATE ≠ 2) →
    ∃ t, exec (.form aovr anchor) s = .next t ∧ t.reg F.BC_ROPE_CMD_STATUS = 2 ∧ t.rope = s.rope ∧
      t.reg F.BC_ROPE_STATUS_STATE = s.reg F.BC_ROPE_STATUS_STATE) ∧
  (∀ (s : State) (mref : Bool), s.solo = false → s.reg F.BC_ROPE_STATUS_STATE = 1 → s.rst.active = false →
    (s.ropePortsOk = false → ∃ t, exec (.prepareDone mref) s = .next t ∧ t.reg F.BC_ROPE_STATUS_STATE = 7 ∧
      t.reg F.BC_ROPE_STATUS_REASON = 3) ∧
    (s.ropePortsOk = true → s.ropeLatencyOk = true → s.rope.rejoin = false → s.isAnchor = true →
      (s.reg F.CLK_MREF_CUR_SRC ≠ 2 ∨ s.mrefHeld = false) →
      ∃ t, exec (.prepareDone mref) s = .next t ∧ t.reg F.BC_ROPE_STATUS_STATE = 3 ∧ t.rope.ready = true ∧
        t.rope.members.map (·.coord) = [s.own] ∧ t.rope.waitFrom = s.ref ∧ t.reg F.CLK_MREF_CUR_SRC ≠ 2) ∧
    (s.ropePortsOk = true → s.ropeLatencyOk = true → s.rope.rejoin = false → s.isAnchor = false → s.rope.lastTime ≠ 0 →
      s.mrefHeld = false →
      ∃ t, exec (.prepareDone true) s = .next t ∧ t.reg F.BC_ROPE_STATUS_STATE = 2 ∧ t.reg F.CLK_MREF_CUR_SRC = 2 ∧
        t.reg F.CLK_MREF_CUR_PORT = s.reg F.BC_ROPE_STATUS_TPORT ∧ t.rope.members = [] ∧ t.rope.waitFrom = s.ref) ∧
    (s.ropePortsOk = true → s.ropeLatencyOk = true → s.isAnchor = false → s.reg F.CLK_MREF_CUR_SRC ≠ 2 →
      ∃ t, exec (.prepareDone false) s = .next t ∧ t.reg F.BC_ROPE_STATUS_STATE = 7 ∧ t.reg F.BC_ROPE_STATUS_REASON = 5)) ∧
  (∀ (s : State) (m : Img), s.image = some m → s.solo = false → s.reg F.BC_ROPE_STATUS_STATE = 2 →
    s.bcl.waiting.length < 64 → ∃ t, exec .join s = .next t ∧
      t.bcl.waiting = s.bcl.waiting ++ [(s.bcl.nextId, s.acoord, 1, s.ref)] ∧ t.rope = s.rope) ∧
  (∀ (s : State) (m : Img) (d : Dyn) (r : List Dyn), s.image = some m → s.bcl.dyns = d :: r → d.op = 1 → d.vn = 0 →
    s.inRope = true → s.isAnchor = true → s.rdesc.inside d.src = true → d.arg % 256 = 1 →
    (s.joinOk m d.src d.payload = true → ∃ t, exec .mail s = .next t ∧
      t.rope.members = s.rope.members.filter (fun y => y.coord ≠ (memberOf d.payload).coord) ++ [memberOf d.payload] ∧
      ({ t.rope with members := s.rope.members } : Rope) = s.rope ∧
      t.reg F.BC_ROPE_STATUS_MEMBERS = min 0xFFFF t.rope.members.length) ∧
    (s.joinOk m d.src d.payload = false → ∃ t, exec .mail s = .next t ∧ t.rope = s.rope)) ∧
  (∀ (s : State) (d : Dyn) (r : List Dyn), s.bcl.dyns = d :: r → d.op = 0x81 → d.vn = 1 →
    (∃ w, w ∈ s.bcl.waiting ∧ w.1 = d.id) → s.solo = false → s.reg F.BC_ROPE_STATUS_STATE = 2 → d.src = s.acoord →
    (d.status = 0 → ∃ t, exec .mailDone s = .next t ∧ t.reg F.BC_ROPE_STATUS_STATE = 3 ∧ t.rope.ready = true ∧
      t.rope.waitFrom = s.ref) ∧
    (d.status = 1 → ∃ t, exec .mailDone s = .next t ∧ t.reg F.BC_ROPE_STATUS_STATE = 7 ∧
      t.reg F.BC_ROPE_STATUS_REASON = 1)) ∧
  (∀ s : State, s.solo = false → s.rope.start = none →
    (s.isAnchor = true → s.forming = true → s.rope.members.length < s.rdesc.size →
      s.rope.waitFrom + s.reg F.BC_ROPE_CFG_FORM_TIMEOUT * 100000000 ≤ s.ref → ∃ t, exec .formTimeout s = .next t ∧
      t.reg F.BC_ROPE_STATUS_STATE = 7 ∧ t.reg F.BC_ROPE_STATUS_REASON = 2) ∧
    (s.isAnchor = false → (s.reg F.BC_ROPE_STATUS_STATE = 2 ∨ s.reg F.BC_ROPE_STATUS_STATE = 3) → s.rope.restore = none →
      s.rope.waitFrom + s.reg F.BC_ROPE_CFG_FORM_TIMEOUT * 100000000 + 100000000 ≤ s.ref →
      ∃ t, exec .formTimeout s = .next t ∧ t.reg F.BC_ROPE_STATUS_STATE = 7 ∧ t.reg F.BC_ROPE_STATUS_REASON = 2)) ∧
  (∀ s : State, (s.ropeState = 0 → ∃ t, exec .stop s = .next t ∧ t.reg F.BC_ROPE_CMD_STATUS = 2 ∧ t.rope = s.rope) ∧
    (s.ropeState ≠ 0 → (s.inRope = false ∨ s.isAnchor = false) → ∃ t, exec .stop s = .next t ∧
      t.reg F.BC_ROPE_STATUS_STATE = 7 ∧ t.reg F.BC_ROPE_STATUS_REASON = 10 ∧ t.reg F.BC_ROPE_CMD_STATUS = 0 ∧
      t.run.cur = none ∧ t.invq = [])) ∧
  (∀ s : State, (s.solo = false → (s.reg F.BC_ROPE_STATUS_STATE = 7 ∨ s.reg F.BC_ROPE_STATUS_STATE = 8) →
      ∃ t, exec .leave s = .next t ∧ t.reg F.BC_ROPE_STATUS_STATE = 0 ∧ t.reg F.BC_ROPE_CMD_STATUS = 0 ∧
        t.rope = s.rope) ∧
    (s.reg F.BC_ROPE_STATUS_STATE ≠ 7 → s.reg F.BC_ROPE_STATUS_STATE ≠ 8 → ∃ t, exec .leave s = .next t ∧
      t.reg F.BC_ROPE_CMD_STATUS = 2 ∧ t.rope = s.rope ∧
      t.reg F.BC_ROPE_STATUS_STATE = s.reg F.BC_ROPE_STATUS_STATE)) ∧
  (∀ s : State, s.inRope = true → (s.isAnchor = false → 2 ≤ s.reg F.BC_ROPE_STATUS_STATE →
      s.portUp (s.reg F.BC_ROPE_STATUS_TPORT) = false → ∃ t, exec .anchorLost s = .next t ∧
      t.reg F.BC_ROPE_STATUS_STATE = 7 ∧ t.reg F.BC_ROPE_STATUS_REASON = 8) ∧
    (s.reg F.BC_ROPE_STATUS_STATE = 3 → s.ropePortsOk = false → ∃ t, exec .shortWaitExpiry s = .next t ∧
      t.reg F.BC_ROPE_STATUS_STATE = 8 ∧ t.reg F.BC_ROPE_STATUS_REASON = 3))

/-- A READY member takes START, and at its refcycle a member without a restore begins rope acycle K0 RUNNING, at the divider
that START names, with its journal queued. TIME sets the rope time in PREPARE; at a member of a rope later, a difference
of more than one refcycle, and three missing TIMEs, before the first as well, report SCH_ROPE_TIME; a parent sends TIME
to its child. MARK is noted, and reported where it names another epoch; INVOKE is journalled and queued, or reported
where it comes late; CLEAR gives BC_ROPE_CLEAR; COMMIT commits the slot that holds its epoch; ANNOUNCE is kept for its
ratio point, or reported where that has passed; ABORT with reason STOP stops a member in any state but NONE; another
stops a member before STOPPED with its reason, or, where no reset of L2 or above is being released, empties what runs
and leaves it ABORTING with the restore epoch, and does nothing from STOPPED on; a new epoch is marked once. Where the
rules leave a choice, this states the model's: assumptions 44 and 45. -/
def Obligations.RopeStartsKeepsTimeAndInvokes : Prop :=
  (∀ (s : State) (slack : BitVec 32) (p : Nat) (c : Cell) (r : List (Nat × Cell)), s.bcl.cells = (p, c) :: r → c.type = 1 →
    leAt c.body 0 1 = 2 → s.ropeState = 3 → ∃ t, exec (.start slack) s = .next t ∧ t.rope.start = some
      ⟨leAt c.body 4 8, leAt c.body 12 8, optEpoch (leAt c.body 20 8), leAt c.body 28 1, leAt c.body 29 1,
        bitOf (leAt c.body 1 1) 0, leAt c.body 30 1⟩ ∧ t.bcl.cells = r) ∧
  (∀ (s : State) (c : StartCell), s.rope.start = some c → s.ropeState = 3 →
    (s.solo = true → s.reg F.BC_ROPE_STATUS_STATE = 0) →
    (s.rrc < c.rs → exec .ropeStart s = .next s) ∧
    (c.rs ≤ s.rrc → c.restore = none → c.d2 < 64 → ∃ t, exec .ropeStart s = .next t ∧ t.acyc = c.k0 ∧ t.ropeState = 4 ∧
      t.rope.start = none ∧ t.invq = s.rope.journal ∧ t.reg F.CLK_DIV_CURRENT = c.d2 ∧
      t.reg F.BC_ROPE_CLEAR_CLEAR ≤ c.k0 ∧ t.rope.bad = none)) ∧
  (∀ (s : State) (p : Nat) (c : Cell) (r : List (Nat × Cell)) (want : Nat), s.bcl.cells = (p, c) :: r → c.type = 2 →
    s.solo = false →
    want = (leAt c.body 0 8 + s.reg F.HX_LAT_RTT (s.reg F.BC_ROPE_STATUS_TPORT) * 256 / 125) % 2 ^ 64 →
    (s.reg F.BC_ROPE_STATUS_STATE = 1 → ∃ t, exec .time s = .next t ∧ t.rt = want ∧ t.rope.lastTime = s.ref + 1) ∧
    (s.reg F.BC_ROPE_STATUS_STATE ≠ 1 → ∃ t, exec .time s = .next t ∧ t.rt = s.rt ∧ t.rope.lastTime = s.ref + 1 ∧
      (s.inRope = false → t.reports = s.reports) ∧
      (s.inRope = true → 64 < (s.rt + 2 ^ 64 - want) % 2 ^ 64 ∧ (s.rt + 2 ^ 64 - want) % 2 ^ 64 + 64 < 2 ^ 64 →
        s.reports1 t Code.schRopeTime) ∧
      ((s.rt + 2 ^ 64 - want) % 2 ^ 64 ≤ 64 → t.reports = s.reports))) ∧
  (∀ s : State, s.inRope = true → s.isAnchor = false →
    (s.rope.lastTime ≠ 0 ∧ s.rope.lastTime + 196608 ≤ s.ref + 1 ∨
      s.rope.lastTime = 0 ∧ s.rope.waitFrom + 196608 ≤ s.ref) →
    ∃ t, exec .timeMissing s = .next t ∧ s.reports1 t Code.schRopeTime ∧ t.rope.lastTime = s.ref + 1) ∧
  (∀ (s : State) (c n : Nat), (s.inRope = false → exec .timeSend s = .next s) ∧
    (s.inRope = true → s.bcl.ring = [] → (∀ k, s.bcl.ringOff.get false k = false) → s.childCoords = [c] → s.reg F.HX_TOPO_VALID = 1 → s.inTorus c = true → c ≠ s.own →
      coordOf c 0 ≠ coordOf s.own 0 → n = s.ringSize 0 →
      (coordOf c 0 + n - coordOf s.own 0) % n ≤ n - (coordOf c 0 + n - coordOf s.own 0) % n → coordOf s.own 0 + 1 ≠ n →
      s.portUp 0 = true → s.reg F.TEL_TOD_VALID = 0 → ∃ t it, exec .timeSend s = .next t ∧
        (t.port 0).queue 4 = (s.port 0).queue 4 ++ [it] ∧ it.bytes = Cell.bytes ⟨false, c, s.own, 2, 0, 0,
          (coordOf c 0 + n - coordOf s.own 0) % n - 1, s.bcl.nextCell, bytesLe 8 s.rt ++ bytesLe 8 0⟩)) ∧
  (∀ (s : State) (p : Nat) (c : Cell) (r : List (Nat × Cell)), s.bcl.cells = (p, c) :: r → c.type = 1 →
    (leAt c.body 0 1 = 1 → ∃ t, exec .mark s = .next t ∧ t.rope.lastMark = s.acyc ∧
      (leAt c.body 4 8 = s.epochNow → t.reports = s.reports) ∧
      (leAt c.body 4 8 ≠ s.epochNow → s.reports1 t Code.schRopeTime)) ∧
    (leAt c.body 0 1 = 5 → ∃ t, exec .clear s = .next t ∧ t.reg F.BC_ROPE_CLEAR_CLEAR = leAt c.body 4 8 % 2 ^ 64 ∧
      t.rope = s.rope ∧ t.bcl.cells = r)) ∧
  (∀ (s : State) (p : Nat) (c : Cell) (r : List (Nat × Cell)), s.bcl.cells = (p, c) :: r → c.type = 1 →
    leAt c.body 0 1 = 3 → s.ropeState = 4 → ∃ t, exec .invoke s = .next t ∧
      t.rope.journal = s.rope.journal ++ [⟨leAt c.body 4 8, leAt c.body 1 1, leAt c.body 12 8,
        (List.range 8).map (fun k => leAt c.body (20 + 4 * k) 4)⟩] ∧ t.rope.nextSeq = leAt c.body 4 8 + 1 ∧
      (s.acyc + 4096 ≤ leAt c.body 12 8 → t.reports = s.reports ∧ t.invq = s.invq ++
        [⟨leAt c.body 4 8, leAt c.body 1 1, leAt c.body 12 8, (List.range 8).map (fun k => leAt c.body (20 + 4 * k) 4)⟩]) ∧
      (leAt c.body 12 8 < s.acyc + 4096 → t.invq = s.invq ∧ s.reports1 t Code.schInvokeLate)) ∧
  (∀ (s : State) (p k : Nat) (c : Cell) (r : List (Nat × Cell)), s.bcl.cells = (p, c) :: r → c.type = 1 →
    leAt c.body 0 1 = 6 → k < 2 → s.usable (s.slot k) = true → (s.slot k).epoch = leAt c.body 4 8 →
    (k = 0 ∨ (s.slot 0).epoch ≠ leAt c.body 4 8) → leAt c.body 4 8 < 2 ^ 32 → ∃ t, exec .commit s = .next t ∧
      (t.slot k).commit = some (leAt c.body 4 8) ∧ (t.slot k).content = (s.slot k).content ∧
      t.reg F.BC_ROPE_CKP_COMMITTED = leAt c.body 4 8 ∧ t.reg F.BC_ROPE_CKP_CVALID = 1 ∧ t.reg F.BC_ROPE_CKP_CSLOT = k ∧
      t.rope.journal = s.rope.journal.filter (fun i => decide ((s.slot k).invSeq ≤ i.seqNo))) ∧
  (∀ (s : State) (p : Nat) (c : Cell) (r : List (Nat × Cell)), s.bcl.cells = (p, c) :: r → c.type = 1 →
    leAt c.body 0 1 = 7 → s.ropeState ≠ 0 → (s.solo = true → s.reg F.BC_ROPE_STATUS_STATE = 0) →
    (leAt c.body 1 1 = 2 → ∃ t, exec .abort s = .next t ∧ t.reg F.BC_ROPE_STATUS_STATE = 7 ∧
      t.reg F.BC_ROPE_STATUS_REASON = leAt c.body 2 2 % 256 ∧ t.run.cur = none ∧ t.invq = []) ∧
    (leAt c.body 1 1 ≠ 2 → 7 ≤ s.ropeState → ∃ t, exec .abort s = .next t ∧ t.bcl.cells = r ∧ t.regs = s.regs ∧
      t.rope = s.rope) ∧
    (leAt c.body 1 1 = 3 → s.ropeState < 7 → ∃ t, exec .abort s = .next t ∧ t.reg F.BC_ROPE_STATUS_STATE = 7 ∧
      t.reg F.BC_ROPE_STATUS_REASON = 9) ∧
    (leAt c.body 1 1 ≤ 1 → s.ropeState < 7 → s.rope.rejoin = false → (s.rst.active = true → s.rst.level ≤ 1) → ∃ t,
      exec .abort s = .next t ∧ t.ropeState = 5 ∧
      t.rope.restore = optEpoch (leAt c.body 4 8) ∧ t.rope.ready = false ∧ t.rope.bad = none ∧ t.run.cur = none ∧
      t.invq = [] ∧ t.rst.active = true)) ∧
  (∀ (s : State) (p : Nat) (c : Cell) (r : List (Nat × Cell)), s.bcl.cells = (p, c) :: r → c.type = 3 →
    leAt c.body 0 1 = 2 → s.ropeState = 4 →
    (s.acyc ≤ leAt c.body 4 8 → ∃ t, exec .announce s = .next t ∧
      t.pw.anns = s.pw.anns ++ [(leAt c.body 4 8, leAt c.body 1 1)] ∧ t.reports = s.reports) ∧
    (leAt c.body 4 8 < s.acyc → ∃ t, exec .announce s = .next t ∧ t.pw = s.pw ∧ s.reports1 t Code.schRatioLate)) ∧
  (∀ s : State, s.ropeState = 4 → (s.epochNow ≤ s.rope.epoch → exec .epochBoundary s = .next s) ∧
    (s.rope.epoch < s.epochNow → ∃ t, exec .epochBoundary s = .next t ∧ t.rope.epoch = s.epochNow))

/-- At the end of the first invocation that ends in an epoch, a RUNNING member with none under way begins the capture of
that epoch into the slot other than the committed one, which is marked as capturing. When it completes, the slot is
captured and valid, holds for every used field the captured handles and checkpoint words of its tiles, and carries the
LENGTH and CSUM of that content. A rope of one clears up to its own cleared acycle, and BC_ROPE_CLEAR never falls. A
restore that ends, with no reset and no migration under way, leaves the member READY; one whose slot fails its CSUM
stops a rope of one with NO_CHECKPOINT. Where the rules leave a choice, this states the model's: assumptions 44, 46 and
75. -/
def Obligations.CheckpointsAreCapturedAndRestored : Prop :=
  (∀ (s : State) (q k : Nat) (l : List (Nat × Nat)), s.run.ended = (q, k) :: l → s.ropeState = 4 → s.run.cur = none →
    k ≤ s.acyc → s.rope.capEpoch ≤ k / 2 ^ s.rdesc.epochLog2 → s.rope.startedSince = true → s.rope.capture = none →
    s.rope.awaitCommit = false → ∃ t b, exec .capturePoint s = .next t ∧
      b = (if s.reg F.BC_ROPE_CKP_CVALID = 1 then 1 - s.reg F.BC_ROPE_CKP_CSLOT else 0) ∧
      t.rope.capture = some (k / 2 ^ s.rdesc.epochLog2, k, b) ∧ (t.slot b).state = 1 ∧
      (t.slot b).epoch = k / 2 ^ s.rdesc.epochLog2 ∧ (t.slot b).k = k ∧ (t.slot b).invSeq = q + 1 ∧
      t.reg F.BC_ROPE_CKP_CAPTURING = 1 ∧ t.rope.capEpoch = k / 2 ^ s.rdesc.epochLog2 + 1 ∧ t.fields = s.fields) ∧
  (∀ (s : State) (e k b : Nat), s.rope.capture = some (e, k, b) → ∃ t, exec .captureComplete s = .next t ∧
      (t.slot b).state = 2 ∧ (t.slot b).crcOk = true ∧ (t.slot b).epoch = (s.slot b).epoch ∧
      (∀ f, f ∈ s.usedFields → SMap.get FieldCap.zero (t.slot b).content f = s.captureField f) ∧
      (t.slot b).csum = (weighFields (t.slot b).content s.usedFields).2 ∧
      (t.slot b).length = 8 * (weighFields (t.slot b).content s.usedFields).1 ∧
      t.rope.capture = none ∧ t.rope.awaitCommit = true ∧ t.reg F.BC_ROPE_CKP_CAPTURING = 0 ∧ t.fields = s.fields) ∧
  (∀ (s : State), s.solo = true → s.ropeState = 4 → s.rope.clearAt + 4096 ≤ s.acyc → s.rope.bad = none →
    s.rdesc.size ≤ s.subtreeCount → s.rope.sums = false → s.subtreeCleared < 2 ^ 64 →
    s.reg F.BC_ROPE_CLEAR_CLEAR < 2 ^ 64 → ∃ t, exec .clearBroadcast s = .next t ∧
      t.reg F.BC_ROPE_CLEAR_CLEAR = max s.subtreeCleared (s.reg F.BC_ROPE_CLEAR_CLEAR) ∧ t.rope.clearAt = s.acyc) ∧
  (∀ (s : State) (csum : Bool), s.ropeState = 6 → (s.solo = true → s.reg F.BC_ROPE_STATUS_STATE = 0) →
    s.rst.active = false → s.log.migrate = [] →
    (s.rope.restore = none → ∃ t, exec (.restoreComplete csum) s = .next t ∧ t.ropeState = 3 ∧ t.rope.ready = true ∧
      t.rope.journal = [] ∧ t.fields = s.fields) ∧
    (∀ e, s.rope.restore = some e → s.csumOk e = true → ∃ t, exec (.restoreComplete true) s = .next t ∧
      t.ropeState = 3 ∧ t.rope.ready = true ∧ t.rope.restore = some e ∧ t.reports = s.reports) ∧
    (∀ e, s.rope.restore = some e → s.solo = true → (csum = false ∨ s.csumOk e = false) →
      ∃ t, exec (.restoreComplete csum) s = .next t ∧
      t.reg F.BC_ROPE_STATUS_STATE = 7 ∧ t.reg F.BC_ROPE_STATUS_REASON = 11))

/-- A member whose first abort trigger is not yet reported sends BAD to its parent once; a RUNNING member whose subtree's
cleared acycle has risen reports again from 4,096 acycles on. A parent notes a child's report: its cleared acycle and
its time. A child that does not report for 131,072 acycles is a trigger with code 7 at its parent. The cairn of a
finished outgoing stream is sent once; an equal incoming cairn of a finished stream counts as checked with no report, a
different one is reported as CRN_MISMATCH, one that does not come as CRN_MISSING and counted. A child's sum joins its
window at its parent; a window that sums to zero over all members is verified at the anchor, one that does not is
reported and not. Where the rules leave a choice, this states the model's: assumptions 45 and 46. -/
def Obligations.ReportsAndCairnsOfARope : Prop :=
  (∀ (s : State) (code acyc origin : Nat), s.solo = false → s.isAnchor = false → s.reg F.BC_ROPE_STATUS_STATE ≠ 0 →
    s.reg F.BC_ROPE_STATUS_TPORT ≠ 7 → s.trust.halted = false → s.rope.bad = some (code, acyc, origin) →
    s.rope.badSent = false → ∃ t, exec .upReport s = .next t ∧ t.rope.badSent = true ∧ t.rope.bad = s.rope.bad ∧
      t.bcl.nextCell = (s.bcl.nextCell + 1) % 2 ^ 16) ∧
  (∀ s : State, s.solo = false → s.isAnchor = false → s.reg F.BC_ROPE_STATUS_STATE = 4 →
    s.reg F.BC_ROPE_STATUS_TPORT ≠ 7 → s.trust.halted = false → s.rope.bad = none →
    s.rope.upCleared < s.subtreeCleared → s.rope.upAt + 4096 ≤ s.acyc → ∃ t, exec .upReport s = .next t ∧
      t.rope.upAt = s.acyc ∧ t.rope.upCleared = s.subtreeCleared ∧ t.bcl.nextCell = (s.bcl.nextCell + 1) % 2 ^ 16) ∧
  (∀ (s : State) (p : Nat) (c : Cell) (r : List (Nat × Cell)) (k : Child), s.bcl.cells = (p, c) :: r → c.type = 1 →
    leAt c.body 0 1 = 4 → s.inRope = true → k ∈ s.rope.children → k.coord = c.src → leAt c.body 1 1 ≠ 1 →
    ∃ t k', exec .up s = .next t ∧ k' ∈ t.rope.children ∧ k'.coord = c.src ∧ k'.lastUp = s.acyc ∧
      k'.cleared = leAt c.body 4 8 ∧ k'.counted = leAt c.body 24 4 ∧ t.rope.children.length = s.rope.children.length ∧
      t.rope.bad = s.rope.bad) ∧
  (∀ (s : State) (k : Child), s.inRope = true → s.ropeState = 4 → s.isAnchor = false → k ∈ s.rope.children →
    k.lastUp + 131072 ≤ s.acyc → s.rope.bad = none → ∃ t, exec .memberLost s = .next t ∧
      t.rope.bad = some (7, s.acyc, s.own) ∧ t.rope.badSent = false) ∧
  (∀ (s : State) (p : Fin 6) (n : Nat) (d : CairnDef) (i : Inst), s.ropeState = 4 → s.hopDue p.val 0 0 = some (n, d, i) →
    ∃ t, exec (.hopSend p) s = .next t ∧ (t.engine n i.seqNo).done = true ∧
      (t.engine n i.seqNo).lsum = (s.engine n i.seqNo).lsum ∧ t.bcl.nextCell = (s.bcl.nextCell + 1) % 2 ^ 16) ∧
  (∀ (s : State) (p : Nat) (c : Cell) (r : List (Nat × Cell)) (d : CairnDef) (i : Inst), s.bcl.cells = (p, c) :: r →
    c.type = 4 → leAt c.body 0 1 = 1 → s.cairnDefs.find? (fun x => x.1 = leAt c.body 1 1) = some (leAt c.body 1 1, d) →
    s.rope.insts = [i] → i.seqNo = leAt c.body 4 8 → d.section_ = i.section_ → streamEnd d i + s.rdesc.land ≤ s.acyc →
    (s.engine (leAt c.body 1 1) i.seqNo).half = none →
    ∃ t, exec .hop s = .next t ∧ (t.engine (leAt c.body 1 1) i.seqNo).done = true ∧
      (leAt c.body 12 16 = (s.engine (leAt c.body 1 1) i.seqNo).cairn (s.rdesc.next s.own d.port) → t.reports = s.reports) ∧
      (leAt c.body 12 16 ≠ (s.engine (leAt c.body 1 1) i.seqNo).cairn (s.rdesc.next s.own d.port) →
        s.reports1 t Code.crnMismatch)) ∧
  (∀ (s : State) (p : Fin 6) (n : Nat) (d : CairnDef) (i : Inst), s.ropeState = 4 →
    s.hopDue p.val 1 (s.rdesc.land + 4096) = some (n, d, i) → ∃ t, exec (.crnMissing p) s = .next t ∧
      (t.engine n i.seqNo).done = true ∧ s.reports1 t Code.crnMissing ∧
      t.reg F.CRN_STAT_MISSING p.val = satAdd 16 (s.reg F.CRN_STAT_MISSING p.val) 1) ∧
  (∀ s : State, s.isAnchor = true → s.ropeState = 4 → s.rope.sums = true → s.windowDue s.rope.verified = true →
    s.cairnDefs = [] → ((s.windowKids s.rope.verified).foldl (fun n w => n + w.2.2) 1) = s.rdesc.size →
    (((s.windowKids s.rope.verified).foldl (fun a w => (a + w.2.1) % cairnP) 0) = 0 → ∃ t, exec .sumSend s = .next t ∧
      t.rope.verified = s.rope.verified + 1 ∧ t.reports = s.reports) ∧
    (((s.windowKids s.rope.verified).foldl (fun a w => (a + w.2.1) % cairnP) 0) ≠ 0 → ∃ t, exec .sumSend s = .next t ∧
      t.rope.verified = s.rope.verified ∧ t.reg F.BC_ROPE_CRN_MM = 1 ∧ s.reports1 t Code.crnMismatch)) ∧
  (∀ (s : State) (p : Nat) (c : Cell) (r : List (Nat × Cell)), s.bcl.cells = (p, c) :: r → c.type = 4 →
    leAt c.body 0 1 = 2 → s.isAnchor = false → ∃ t, exec .sum s = .next t ∧
      (c.src, leAt c.body 12 8 % cairnP, leAt c.body 20 4) ∈ t.windowKids (leAt c.body 4 8) ∧
      (∀ j, j ≠ leAt c.body 4 8 → t.windowKids j = s.windowKids j) ∧ t.reports = s.reports)

/-- Base Camp takes the oldest report. One that triggers nothing and repeats no entry becomes a new entry with the next SEQ,
its code, subject and place, the time of now and COUNT 1; the buffer grows by one, FLT_STATUS.LAST shows the code and
the fault queue's PROD moves on by one; the logbook keeps the last 262,144 entries. One that repeats an entry of the
same boot within 1 ms adds to that entry's COUNT only. With no report nothing changes. A FAULT cell of another member
becomes an entry with SUBJECT 7 and the code it carries. A flush empties the buffer; after a loss it records
LOG_OVERFLOW. Where the rules leave a choice, this states the model's: assumptions 51 and 52. -/
def Obligations.FaultsReachTheLogbook : Prop :=
  (∀ (s : State) (r : Report) (rest : List Report) (p : Bool), s.reports = r :: rest → r.trig = false →
    r.code ≠ Code.eccScrUe → r.code ≠ Code.eccStkUe → r.code ≠ Code.seamSlip → r.code ≠ Code.rprReplan → r.subject ≠ 0 →
    (∀ e, e ∈ s.log.entries → e.sameSubject r = false) → s.log.buffered < 4096 → s.log.lost = false →
    ∃ t e, exec (.faultReport p) s = .next t ∧ t.reports = rest ∧ t.log.entries = (e :: s.log.entries).take 262144 ∧
      e.seqNo = s.log.nextSeq ∧ e.code = r.code ∧ e.subject = r.subject ∧ e.field = r.field ∧ e.time = s.ref ∧
      e.count = 1 ∧ e.detail = r.detail ∧ t.log.nextSeq = s.log.nextSeq + 1 ∧ t.log.buffered = s.log.buffered + 1 ∧
      t.reg F.FLT_STATUS_LAST = r.code % 2 ^ 16 ∧ t.reg F.FLT_QPTR_PROD = (s.reg F.FLT_QPTR_PROD + 1) % 2 ^ 32 ∧
      t.rope = s.rope) ∧
  (∀ (s : State) (r : Report) (rest : List Report) (p : Bool) (e : LogEntry) (l : List LogEntry), s.reports = r :: rest →
    r.trig = false → r.code ≠ Code.eccScrUe → r.code ≠ Code.eccStkUe → r.code ≠ Code.seamSlip → r.code ≠ Code.rprReplan →
    s.log.entries = e :: l → e.sameSubject r = true → e.bootgen = s.log.bootgen % 2 ^ 32 → s.ref < e.time + 100000 →
    ∃ t, exec (.faultReport p) s = .next t ∧ t.reports = rest ∧ t.log.entries.length = s.log.entries.length ∧
      t.log.entries.head? = some { e with count := min 255 (e.count + 1) } ∧ t.log.nextSeq = s.log.nextSeq ∧
      t.log.buffered = s.log.buffered) ∧
  (∀ (s : State) (p : Bool), s.reports = [] → exec (.faultReport p) s = .next s) ∧
  (∀ (s : State) (p : Nat) (c : Cell) (r : List (Nat × Cell)), s.bcl.cells = (p, c) :: r → c.type = 5 →
    s.log.buffered < 4096 → ∃ t e, exec .fault s = .next t ∧ t.log.entries = (e :: s.log.entries).take 262144 ∧ e.subject = 7 ∧
      e.code = leAt c.body 0x10 2 ∧ e.seqNo = s.log.nextSeq ∧ t.log.buffered = s.log.buffered + 1 ∧ t.bcl.cells = r) ∧
  (∀ s : State, (s.log.lost = false → exec .logbookFlush s = .next { s with log := { s.log with buffered := 0, lost := false } }) ∧
    (s.log.lost = true → (∀ e, e ∈ s.log.entries → e.code ≠ Code.logOverflow) → ∃ t e, exec .logbookFlush s = .next t ∧
      t.log.entries = (e :: s.log.entries).take 262144 ∧ e.code = Code.logOverflow ∧ e.subject = 6 ∧ t.log.lost = false))

/-- A corrected-error rate above the threshold makes a tile suspect and reports ECC_CE_RATE; one at or below it changes
nothing. RETEST of a tile of a field without a live section makes a retest due, and is refused with STATUS 2 otherwise.
A retest that passes leaves the tile as it is; one that fails, and MARK_DEAD, make the tile dead in the crevasse map.
CLEAR_REPLAN takes an OUT field whose full survey passed out of REPLAN status, and is refused for any other. A migration
that completes, with nothing else due, adds its column to the skipped ones of the field, is no longer under way, clears
the replay count and is recorded; without one nothing changes. Where the rules leave a choice, this states the model's:
assumptions 49 and 52. -/
def Obligations.RetestsRepairAndMigration : Prop :=
  (∀ (s : State) (f : Fin 48) (key : Fin 17424) (rise : BitVec 32), s.present f.val = true →
    (s.od 0x5100 3 < rise.toNat → ∃ t, exec (.eccCeRate f key rise) s = .next t ∧ s.reports1 t Code.eccCeRate ∧
      1 ≤ (t.log.tiles.get TileSum.zero (physKey (physX f.val key.val) (physY f.val key.val))).state ∧
      t.log.crev = s.log.crev) ∧
    (rise.toNat ≤ s.od 0x5100 3 → exec (.eccCeRate f key rise) s = .next s)) ∧
  (∀ (s : State) (px : BitVec 11) (py : BitVec 10) (f key : Nat), placeOf px.toNat py.toNat = (f, key) →
    (s.isTile px.toNat py.toNat = true → (s.field f).live = false → ∃ t r, exec (.retest px py) s = .next t ∧
      t.reg F.FLT_CMD_STATUS = 1 ∧ r ∈ t.log.retests ∧ r.field = f ∧ r.key = key ∧ t.reports = s.reports) ∧
    ((s.isTile px.toNat py.toNat = false ∨ (s.field f).live = true) → ∃ t, exec (.retest px py) s = .next t ∧
      t.reg F.FLT_CMD_STATUS = 2 ∧ t.log = s.log)) ∧
  (∀ (s : State) (f : Fin 48) (key : Fin 17424) (r : Retest) (l : List Retest), s.log.retests = r :: l → r.field = f.val →
    r.key = key.val → (s.field f.val).live = false → s.ropeState ≠ 6 →
    (r.why = 0 → ∃ t, exec (.retestResult f key 0) s = .next t ∧ t.log.retests = (r :: l).filter (fun x => x ≠ r) ∧
      t.log.tiles = s.log.tiles ∧ t.log.crev = s.log.crev ∧ t.reports = s.reports) ∧
    (∀ fails : BitVec 10, fails ≠ 0 → ∃ t, exec (.retestResult f key fails) s = .next t ∧
      key.val ∈ (t.crev f.val).dead)) ∧
  (∀ (s : State) (px : BitVec 11) (py : BitVec 10) (f key : Nat), placeOf px.toNat py.toNat = (f, key) →
    (s.isTile px.toNat py.toNat = true → ∃ t, exec (.markDead px py) s = .next t ∧ t.reg F.FLT_CMD_STATUS = 0 ∧
      key ∈ (t.crev f).dead) ∧
    (s.isTile px.toNat py.toNat = false → ∃ t, exec (.markDead px py) s = .next t ∧ t.reg F.FLT_CMD_STATUS = 2 ∧
      t.log = s.log ∧ t.reports = s.reports)) ∧
  (∀ (s : State) (f : Fin 48),
    (s.inReplan f.val = true → s.reg F.FLD_HOLD_STATE f.val = 1 → s.reg F.FLD_SVY_FULL f.val = 2 →
      ∃ t, exec (.clearReplan f) s = .next t ∧ t.inReplan f.val = false ∧ t.reg F.FLT_CMD_STATUS = 0 ∧ t.log = s.log) ∧
    ((s.inReplan f.val = false ∨ s.reg F.FLD_HOLD_STATE f.val ≠ 1 ∨ s.reg F.FLD_SVY_FULL f.val ≠ 2) →
      ∃ t, exec (.clearReplan f) s = .next t ∧ t.reg F.FLT_CMD_STATUS = 2 ∧
        t.reg F.FLT_REPLAN_FIELDS = s.reg F.FLT_REPLAN_FIELDS)) ∧
  (∀ (s : State) (f : Fin 48) (col : Nat), (s.field f.val).live = false →
    (s.log.migrate = [(f.val, col)] → s.log.due = [] → ∃ t, exec (.rprMigrated f) s = .next t ∧ t.log.migrate = [] ∧
      col ∈ (t.crev f.val).cols ∧ t.reg F.BC_ROPE_STATUS_REPLAYS = 0 ∧ t.lastReport Code.rprMigrated) ∧
    (s.log.migrate = [] → exec (.rprMigrated f) s = .next s))

/-- At a sample acycle of a row of a live ACTIVE field with free spares: with no instance the sample counts as idle; with
one, the tile at the next sample's logical column becomes a source and free spares its checkers, and the sample is under
way. A comparison ends the sample and idles the taps. Cut short it records nothing; agreeing, it counts as compared
only; where two checkers agree against the tile, BLY_MISMATCH is reported, the section is invalid and the tile is
retested; where the tile agrees with one of two checkers, BLY_CHECKER is reported and the section stays valid; where no
two of the three agree, BLY_MISMATCH is reported and the section is invalid. Where the rules leave a choice, this states
the model's: assumption 49. -/
def Obligations.BelaySamplesAreCompared : Prop :=
  (∀ (s : State) (f : Fin 48) (row : Fin 132) (found : Bool) (k key : Nat), s.belayInterval ≠ 0 → s.mode f.val = 2 →
    (s.field f.val).live = true → (s.crev f.val).rows.contains row.val = false →
    s.acyc % s.belayInterval = 17 * row.val % s.belayInterval → s.freeSpares f.val row.val ≠ [] →
    (∀ b, b ∈ (s.field f.val).belay → b.row ≠ row.val) → k = (s.field f.val).samples.get 0 row.val →
    key = physOf (s.crev f.val).cols (k % 128) + 132 * row.val → (s.position f.val key).isSome = true →
    (s.position f.val (physOf (s.crev f.val).cols 0 + 132 * row.val)).isSome = true →
    (found = false → ∃ t, exec (.belaySample f row found) s = .next t ∧ (t.field f.val).samples.get 0 row.val = k + 1 ∧
      t.reg F.FLD_BLY_CNT_IDLE f.val = satAdd 16 (s.reg F.FLD_BLY_CNT_IDLE f.val) 1 ∧
      (t.field f.val).belay = (s.field f.val).belay) ∧
    (found = true → ∃ t b, exec (.belaySample f row found) s = .next t ∧ (t.field f.val).samples.get 0 row.val = k + 1 ∧
      (t.field f.val).belay = (s.field f.val).belay ++ [b] ∧ b.row = row.val ∧ b.key = key ∧
      b.vu = decide (k / 128 % 2 = 1) ∧ b.checkers ≠ [] ∧ b.checkers.length ≤ 2 ∧
      (∀ x, x ∈ b.checkers → x ∈ s.freeSpares f.val row.val ∧ (t.tile f.val x).reg F.BLY_TAP_ROLE = 2) ∧
      (t.tile f.val key).reg F.BLY_TAP_ROLE = 1)) ∧
  (∀ (s : State) (f : Fin 48) (row : Fin 132) (cut t1 t2 cc : Bool) (b : Sample), (s.field f.val).belay = [b] →
    b.row = row.val → b.checkers.length = 2 → s.log.charges = [] →
    ∃ t, exec (.belayCompare f row cut t1 t2 cc) s = .next t ∧ (t.field f.val).belay = [] ∧
      (∀ x, x ∈ b.key :: b.checkers → (t.tile f.val x).reg F.BLY_TAP_ROLE = 0) ∧
      (cut = true → t.reports = s.reports ∧ t.run = s.run) ∧
      (cut = false → (s.field f.val).live = true →
        t.reg F.FLD_BLY_CNT_COMPARED f.val = (s.reg F.FLD_BLY_CNT_COMPARED f.val + 1) % 2 ^ 32 ∧
        (t1 = true → t2 = true → t.reports = s.reports ∧ t.run = s.run ∧ t.log = s.log) ∧
        (t1 = false → cc = true → s.reports1 t Code.blyMismatch ∧ t.run.invalid = true ∧
          ∃ r, r ∈ t.log.retests ∧ r.field = f.val ∧ r.key = b.key) ∧
        (t1 ≠ t2 → cc = false → s.reports1 t Code.blyChecker ∧ t.run = s.run) ∧
        (t1 = false → t2 = false → cc = false → s.reports1 t Code.blyMismatch ∧ t.run.invalid = true)))

/-- A pass that falls due, or is started by command, begins at slice 0 with no failures. In a survey gap of a due field a
slice without failures moves the slice on by one; the 256th ends the pass: nothing is due or overdue, and the passes
count one more. An overdue pass is recorded once and reported as SVY_OVERDUE, and changes nothing that runs. FULL is
accepted for a present field that is OUT, or with no image, and not under one already, and refused with STATUS 2
otherwise; the ninth waits. It ends as PASSED without failures; ABANDON_FULL ends it with STATUS done and is refused
with STATUS 2 where none runs or waits. Where the rules leave a choice, this states the model's: assumptions 11 and 48. -/
def Obligations.SurveysOfFields : Prop :=
  (∀ (s : State) (f : Fin 48), s.present f.val = true → s.reg F.FLD_SVY_DUE f.val ≠ 1 →
    (s.reg F.BC_SVY_CFG_PERIOD ≠ 0 → ∃ t, exec (.surveyDue f) s = .next t ∧ t.reg F.FLD_SVY_DUE f.val = 1 ∧
      t.reg F.FLD_SVY_SLICE f.val = 0 ∧ t.reg F.FLD_SVY_FAILS f.val = 0 ∧ t.fields = s.fields) ∧
    ∃ t, exec (.startPass f) s = .next t ∧ t.reg F.FLD_SVY_DUE f.val = 1 ∧ t.reg F.FLD_SVY_SLICE f.val = 0 ∧
      t.reg F.FLD_SVY_FAILS f.val = 0 ∧ t.reg F.FLD_SVY_CMD_STATUS f.val = 0 ∧ t.fields = s.fields) ∧
  (∀ (s : State) (f : Fin 48), s.reg F.BC_SVY_CFG_EN = 1 → s.reg F.FLD_SVY_DUE f.val = 1 → s.surveyGap f.val = true →
    (s.reg F.FLD_SVY_SLICE f.val < 255 → ∃ t, exec (.surveySlice f []) s = .next t ∧
      t.reg F.FLD_SVY_SLICE f.val = s.reg F.FLD_SVY_SLICE f.val + 1 ∧
      s.onlyRegs t [Fld.key F.FLD_SVY_SLICE f.val 0]) ∧
    (255 ≤ s.reg F.FLD_SVY_SLICE f.val → ∃ t, exec (.surveySlice f []) s = .next t ∧ t.reg F.FLD_SVY_SLICE f.val = 0 ∧
      t.reg F.FLD_SVY_DUE f.val = 0 ∧ t.reg F.FLD_SVY_OVERDUE f.val = 0 ∧ t.reg F.FLD_SVY_AGE f.val = 0 ∧
      t.reg F.FLD_SVY_PASSES f.val = (s.reg F.FLD_SVY_PASSES f.val + 1) % 2 ^ 16 ∧ t.fields = s.fields)) ∧
  (∀ (s : State) (f : Fin 48), s.reg F.FLD_SVY_DUE f.val = 1 →
    (s.reg F.FLD_SVY_OVERDUE f.val ≠ 1 → ∃ t, exec (.svyOverdue f) s = .next t ∧ t.reg F.FLD_SVY_OVERDUE f.val = 1 ∧
      s.reports1 t Code.svyOverdue ∧ t.run = s.run ∧ t.fields = s.fields) ∧
    (s.reg F.FLD_SVY_OVERDUE f.val = 1 → exec (.svyOverdue f) s = .next s)) ∧
  (∀ (s : State) (f : Fin 48), s.present f.val = true →
    ((s.reg F.FLD_HOLD_STATE f.val = 1 ∨ s.image = none) → s.reg F.FLD_SVY_FULL f.val ≠ 1 →
      ∃ t, exec (.full f) s = .next t ∧ t.reg F.FLD_SVY_FULL f.val = 1 ∧ t.reg F.FLD_SVY_CMD_STATUS f.val = 1 ∧
        t.fields = s.fields ∧ t.pw.fullWait = (if (s.allFields.filter s.fullRunning).length < 8 then s.pw.fullWait
          else s.pw.fullWait ++ [f.val])) ∧
    ((s.reg F.FLD_HOLD_STATE f.val ≠ 1 ∧ s.image ≠ none ∨ s.reg F.FLD_SVY_FULL f.val = 1) →
      ∃ t, exec (.full f) s = .next t ∧ t.reg F.FLD_SVY_CMD_STATUS f.val = 2 ∧ t.pw = s.pw ∧
        t.reg F.FLD_SVY_FULL f.val = s.reg F.FLD_SVY_FULL f.val)) ∧
  (∀ (s : State) (f : Fin 48),
    (s.reg F.FLD_SVY_FULL f.val = 1 → ∃ t, exec (.abandonFull f) s = .next t ∧ t.reg F.FLD_SVY_FULL f.val = 0 ∧
      t.reg F.FLD_SVY_CMD_STATUS f.val = 0) ∧
    (s.reg F.FLD_SVY_FULL f.val ≠ 1 → ∃ t, exec (.abandonFull f) s = .next t ∧ t.reg F.FLD_SVY_CMD_STATUS f.val = 2 ∧
      t.fields = s.fields ∧ t.pw = s.pw)) ∧
  (∀ (s : State) (f : Fin 48), s.fullRunning f.val = true → ∃ t, exec (.fullSurveyDone f []) s = .next t ∧
      t.reg F.FLD_SVY_FULL f.val = 2 ∧ t.reg F.FLD_SVY_CMD_STATUS f.val = 0 ∧ t.reg F.FLD_SVY_FAILS f.val = 0)

/-- At a sample acycle of an enabled, unfrozen field whose clock runs, with no packet under way and no clear pending, each
tile takes a sample (an empty landing FIFO counts in bin 0 of its histogram) and SAMPLES counts it; a frozen field is
not sampled. A Hexkel port that is UP counts an empty VN0 buffer in bin 0. CLEAR is busy and takes effect 64 acycles
later. Each millisecond the averages go into FLD_TEL_I and to the front of the histories of the last 64, and the energy
is added. TEL_HIST_SEL latches the selected history. A PPS edge latches TEL_TIME and takes the time of day that was
written, or adds one second to a valid one. Where the rules leave a choice, this states the model's: assumptions 53 and
55. -/
def Obligations.HistogramsHistoriesAndTime : Prop :=
  (∀ (s : State) (f : Fin 48) (key : Nat), s.present f.val = true → s.reg F.FLD_TEL_CFG_EN f.val = 1 →
    s.aclk f.val = true → s.acyc % 2 ^ s.reg F.FLD_TEL_CFG_K f.val = 0 → s.pkts = [] →
    (∀ e, e ∈ s.fields → e.2.clearAt = none) → (s.field f.val).tiles = [] → (s.tile f.val key).rtr.fifo 0 = [] →
    (s.reg F.FLD_TEL_CFG_FREEZE f.val = 0 → ∃ t, exec (.histogramSample f) s = .next t ∧
      t.reg F.FLD_TEL_CFG_SAMPLES f.val = satAdd 32 (s.reg F.FLD_TEL_CFG_SAMPLES f.val) 1 ∧
      (t.tile f.val key).reg F.TEL_OCC_BIN_EVEN 0 = satAdd 32 ((s.tile f.val key).reg F.TEL_OCC_BIN_EVEN 0) 1) ∧
    (s.reg F.FLD_TEL_CFG_FREEZE f.val = 1 → exec (.histogramSample f) s = .next s)) ∧
  (∀ (s : State) (p : Nat), s.reg F.TEL_CFG_EN = 1 → s.acyc % 2 ^ s.reg F.TEL_CFG_K = 0 → p < 6 →
    (p < s.nPorts → s.portUp p = true → (s.port p).rx.get [] 2 = [] → ∃ t, exec .hxHistogramSample s = .next t ∧
      t.reg F.HX_HIST_BIN_EVEN p 0 = satAdd 32 (s.reg F.HX_HIST_BIN_EVEN p 0) 1) ∧
    (s.portUp p = false → ∃ t, exec .hxHistogramSample s = .next t ∧ ∀ j, j < 20 →
      t.reg F.HX_HIST_BIN_EVEN p j = s.reg F.HX_HIST_BIN_EVEN p j ∧
      t.reg F.HX_HIST_BIN_ODD p j = s.reg F.HX_HIST_BIN_ODD p j)) ∧
  (∀ (s : State) (f : Fin 48), s.present f.val = true → ∃ t, exec (.telClear f) s = .next t ∧
      (t.field f.val).clearAt = some (s.acyc + 64) ∧ t.reg F.FLD_TEL_CFG_STATUS f.val = 1 ∧
      t.reg F.FLD_TEL_CFG_SAMPLES f.val = s.reg F.FLD_TEL_CFG_SAMPLES f.val) ∧
  (∀ (s : State) (amps : List (BitVec 16)) (mj : List (BitVec 32)) (f r : Nat), f < s.nFields → r < 3 →
    ∃ t, exec (.currentHistoryAdvance amps mj) s = .next t ∧
      t.reg F.FLD_TEL_I_VCOMP f = (amps.getD (3 * f) 0).toNat ∧ t.reg F.FLD_TEL_I_VFAB f = (amps.getD (3 * f + 1) 0).toNat ∧
      t.reg F.FLD_TEL_I_VDRAM f = (amps.getD (3 * f + 2) 0).toNat ∧
      t.reg F.FLD_TEL_ENERGY_MJ f = (s.reg F.FLD_TEL_ENERGY_MJ f + (mj.getD f 0).toNat) % 2 ^ 64 ∧
      t.pw.hist.get [] (3 * f + r) = ((amps.getD (3 * f + r) 0).toNat :: s.pw.hist.get [] (3 * f + r)).take 64) ∧
  (∀ (s : State) (rail : Fin 4) (f : Fin 64), rail.val < 3 → ∃ t, exec (.telHistSel rail f) s = .next t ∧
      t.reg F.TEL_HIST_SEL_RAIL = rail.val ∧ t.reg F.TEL_HIST_SEL_FIELD = f.val ∧
      t.pw.latch = s.pw.hist.get [] (3 * f.val + rail.val) ∧ t.histShown = t.pw.latch) ∧
  (∀ (s : State) (v : Nat), (s.pw.todNext = some v → s.reg F.TEL_TOD_ANCHOR ≠ 1 → ∃ t, exec .ppsEdge s = .next t ∧
      t.reg F.TEL_PPS_REF = s.ref % 2 ^ 64 ∧ t.reg F.TEL_TOD_SEC = v % 2 ^ 62 ∧ t.reg F.TEL_TOD_VALID = 1 ∧
      t.pw.todNext = none) ∧
    (s.pw.todNext = none → s.reg F.TEL_TOD_VALID = 1 → ∃ t, exec .ppsEdge s = .next t ∧
      t.reg F.TEL_PPS_REF = s.ref % 2 ^ 64 ∧ t.reg F.TEL_TOD_SEC = (s.reg F.TEL_TOD_SEC + 1) % 2 ^ 62))

/-- Through an enabled view of a tile that answers, an aligned read of one good scratch word completes with its bytes where
its tag is 0 or the read scope is open, and with zeros, counted in DENIED, otherwise; SVY_STAT.LAST is 0 and OPS counts
it. A view with no target completes with Completer Abort and counts in ERR. A write of one word, with the write scope
open and Crocus active, stores it with tag 0 and no error; with the scope closed or another profile no tile changes and
it is counted in DENIED and ERR. An access with no reply in time sets LAST to TIMEOUT and counts in ERR, a read
completing with Completer Abort. Where the rules leave a choice, this states the model's: assumptions 14 and 54. -/
def Obligations.SurveyWindowReadsAndWrites : Prop :=
  (∀ (s : State) (port : Fin 2) (view : Fin 3) (off : BitVec 18) (f key : Nat), view.val < 2 →
    s.reg F.SVY_SEL_EN 0 view.val = 1 → s.locate (s.reg F.SVY_SEL_TARGET 0 view.val) = some (f, key) →
    s.msgReset f = false → s.agentAway f = false → off.toNat % 8 = 0 → off.toNat < 0x10000 →
    ((s.tile f key).scrWord (off.toNat / 8)).ecc = .good →
    (((s.tile f key).scrWord (off.toNat / 8)).tag = 0 ∨ s.scopeOpen 0 = true → ∃ t,
      exec (.surveyRead port view off 8 []) s = .next t ∧ t.out =
        ⟨.hostCpl, port.val, 0, bytesLe 8 ((s.tile f key).scrWord (off.toNat / 8)).data.toNat⟩ :: s.out ∧
      t.reg F.SVY_STAT_LAST 0 view.val = 0 ∧
      t.reg F.SVY_STAT_OPS 0 view.val = (s.reg F.SVY_STAT_OPS 0 view.val + 1) % 2 ^ 16) ∧
    (((s.tile f key).scrWord (off.toNat / 8)).tag ≠ 0 → s.scopeOpen 0 = false → ∃ t,
      exec (.surveyRead port view off 8 []) s = .next t ∧
      t.out = ⟨.hostCpl, port.val, 0, List.replicate 8 0⟩ :: s.out ∧
      t.reg F.SVY_STAT_DENIED 0 view.val = satAdd 16 (s.reg F.SVY_STAT_DENIED 0 view.val) 1)) ∧
  (∀ (s : State) (port : Fin 2) (view : Fin 3) (off : BitVec 18) (n : Fin 4097), view.val < 2 →
    s.reg F.SVY_SEL_EN 0 view.val = 0 → ∃ t, exec (.surveyRead port view off n []) s = .next t ∧
      t.out = ⟨.hostCpl, port.val, 4, []⟩ :: s.out ∧ t.fields = s.fields ∧
      t.reg F.SVY_STAT_ERR 0 view.val = satAdd 16 (s.reg F.SVY_STAT_ERR 0 view.val) 1) ∧
  (∀ (s : State) (view : Fin 3) (off : BitVec 18) (data : List (BitVec 8)) (f key : Nat), view.val < 2 →
    s.scopeOpen 1 = true → s.crocus = true → s.reg F.SVY_SEL_EN 0 view.val = 1 →
    s.locate (s.reg F.SVY_SEL_TARGET 0 view.val) = some (f, key) → s.msgReset f = false → s.agentAway f = false →
    off.toNat % 8 = 0 → off.toNat < 0x10000 → data.length = 8 → ∃ t, exec (.surveyWrite view off data) s = .next t ∧
      (t.tile f key).scrWord (off.toNat / 8) = ⟨BitVec.ofNat 64 (leNat (data.map (·.toNat))), 0, 0⟩ ∧
      (∀ i, i < 8192 → i ≠ off.toNat / 8 → (t.tile f key).scrWord i = (s.tile f key).scrWord i) ∧
      t.reg F.SVY_STAT_LAST 0 view.val = 0) ∧
  (∀ (s : State) (view : Fin 3) (off : BitVec 18) (data : List (BitVec 8)), (s.scopeOpen 1 = false ∨ s.crocus = false) →
    ∃ t, exec (.surveyWrite view off data) s = .next t ∧ t.fields = s.fields ∧ t.pkts = s.pkts ∧
      t.reg F.SVY_STAT_DENIED 0 view.val = satAdd 16 (s.reg F.SVY_STAT_DENIED 0 view.val) 1 ∧
      t.reg F.SVY_STAT_ERR 0 view.val = satAdd 16 (s.reg F.SVY_STAT_ERR 0 view.val) 1) ∧
  (∀ (s : State) (port : Fin 2) (view : Fin 3), ∃ t u, exec (.surveyTimeout port view false) s = .next t ∧
      exec (.surveyTimeout port view true) s = .next u ∧ t.out = ⟨.hostCpl, port.val, 4, []⟩ :: s.out ∧ u.out = s.out ∧
      t.reg F.SVY_STAT_LAST 0 view.val = 6 ∧ u.reg F.SVY_STAT_LAST 0 view.val = 6 ∧
      t.reg F.SVY_STAT_ERR 0 view.val = satAdd 16 (s.reg F.SVY_STAT_ERR 0 view.val) 1 ∧ t.fields = s.fields)

/-- IDCODE shifts out the stepping, part number and manufacturer, BYPASS one zero bit, and neither changes anything else but
the loaded instruction. IJTAG read and write, halt and tile scan whose scope is closed answer as BYPASS. With the scope
open: an instrument that an update set reads back its value; a read of a gated network gives zeros; halt stops the Base
Camp cores and notes when; a tile scan of a field with no live section stops the field's clock, marks it as scanned and
leaves its tiles' state, and its end starts the clock again, the seams the field has aligned. Where the rules leave a
choice, this states the model's: assumption 56. -/
def Obligations.TestAccessPort : Prop :=
  (∀ s : State, exec .idcode s = .next { s with
      trust := { s.trust with tap := .idcode }
      out := ⟨.tap, 0, 1, bytesLe 4 (s.fuse.stepping % 16 * 2 ^ 28 + 0x9A00797)⟩ :: s.out } ∧
    exec .bypass s = .next { s with trust := { s.trust with tap := .bypass }, out := ⟨.tap, 0, 0xFF, [0]⟩ :: s.out }) ∧
  (∀ (s : State) (ix : BitVec 32) (u : IjtagUpdate) (f : Fin 48),
    (s.scopeOpen 0 = false → exec (.ijtagRead ix) s = exec .bypass s) ∧
    (s.scopeOpen 1 = false → exec (.ijtagRw u) s = exec .bypass s) ∧
    (s.scopeOpen 2 = false → exec .bcHalt s = exec .bypass s) ∧
    (s.scopeOpen 3 = false → exec (.tileScan f) s = exec .bypass s)) ∧
  (∀ (s : State) (ix : BitVec 32) (v : BitVec 64), s.scopeOpen 1 = true → s.netGated = false →
    ∃ t, exec (.ijtagRw (.set ix v)) s = .next t ∧ t.trust.tap = .write ∧ t.trust.ijtag.get 0 ix.toNat = v.toNat + 1 ∧
      (∀ j, j ≠ ix.toNat → t.trust.ijtag.get 0 j = s.trust.ijtag.get 0 j) ∧ t.fields = s.fields ∧ t.regs = s.regs) ∧
  (∀ (s : State) (ix : BitVec 32) (v : Nat), s.scopeOpen 0 = true →
    (s.netGated = false → s.trust.ijtag.get 0 ix.toNat = v + 1 → ∃ t, exec (.ijtagRead ix) s = .next t ∧
      t.out = ⟨.tap, 0, 0x20, bytesLe 8 v⟩ :: s.out ∧ t.trust.ijtag = s.trust.ijtag) ∧
    (s.netGated = true → ∃ t, exec (.ijtagRead ix) s = .next t ∧ t.out = ⟨.tap, 0, 0x20, bytesLe 8 0⟩ :: s.out)) ∧
  (∀ s : State, s.scopeOpen 2 = true → s.trust.halted = false → exec .bcHalt s = .next { s with
      trust := { s.trust with tap := .halt, halted := true, haltAt := s.ref } }) ∧
  (∀ (s : State) (f : Fin 48), s.scopeOpen 3 = true → s.present f.val = true → (s.field f.val).live = false →
    s.trust.scanning.contains f.val = false → ∃ t, exec (.tileScan f) s = .next t ∧ (t.field f.val).stopped = true ∧
      t.trust.scanning.contains f.val = true ∧ (t.field f.val).tiles = (s.field f.val).tiles ∧
      (t.field f.val).logical = (s.field f.val).logical ∧ ∀ q, q ≠ f.val → t.field q = s.field q) ∧
  (∀ (s : State) (f : Fin 48), s.trust.scanning.contains f.val = true → ∃ t, exec (.tileScanEnd f) s = .next t ∧
      (t.field f.val).stopped = false ∧ t.trust.scanning.contains f.val = false ∧
      (t.field f.val).tiles = (s.field f.val).tiles ∧ (s.hasSeam f.val false = true → t.reg F.FLD_SEAM_E_ALIGNED f.val = 1))

/-- With PERST_N high, a link that trains to 64.0 GT/s and x8 shows its rate, width, Flit Mode and UP, and nothing else
changes; one below that records HP_LINK_DEGRADED and sets HP_EVENT.DEGRADED. A lost link shows down and records
HP_LINK_DOWN. PERST_N going low, a hot reset and an FLR clear that port's MSI-X table, its SPDM connections and its
registers of reset domain L3, put back the records of writes in flight, and leave the other port, HP_LEASE, the leases,
the journal, the posting maps and the written ledger bytes unchanged. PERST_N going high changes only the pin. Where the
rules leave a choice, this states the model's: assumptions 50 and 59. -/
def Obligations.HostLinksComeAndGo : Prop :=
  (∀ (s : State) (p : Fin 2), s.perst p.val = false → ∃ t, exec (.pcieLinkUp p 5 3) s = .next t ∧
      t.reg F.HP_LINK_UP p.val = 1 ∧ t.reg F.HP_LINK_RATE p.val = 6 ∧ t.reg F.HP_LINK_WIDTH p.val = 8 ∧
      t.reg F.HP_LINK_FLIT p.val = 1 ∧ s.onlyRegs t [Fld.key F.HP_LINK_UP p.val 0, Fld.key F.HP_LINK_RATE p.val 0,
        Fld.key F.HP_LINK_WIDTH p.val 0, Fld.key F.HP_LINK_FLIT p.val 0]) ∧
  (∀ (s : State) (p : Fin 2) (rate : Fin 6) (width : Fin 4), s.perst p.val = false → (rate.val < 5 ∨ width.val < 3) →
    ∃ t, exec (.pcieLinkUp p rate width) s = .next t ∧ t.reg F.HP_LINK_UP p.val = 1 ∧
      t.reg F.HP_LINK_RATE p.val = rate.val + 1 ∧ t.reg F.HP_LINK_WIDTH p.val = 2 ^ width.val ∧
      t.reg F.HP_LINK_FLIT p.val = b2n (rate.val = 5) ∧ t.reg F.HP_EVENT_DEGRADED p.val = 1 ∧
      s.reports1 t Code.hpLinkDegraded ∧ t.run = s.run ∧ t.acyc = s.acyc) ∧
  (∀ (s : State) (p : Fin 2), s.reg F.HP_LINK_UP p.val = 1 → ∃ t, exec (.hpLinkDown p) s = .next t ∧
      t.reg F.HP_LINK_UP p.val = 0 ∧ t.reg F.HP_LINK_RATE p.val = 0 ∧ t.reg F.HP_LINK_WIDTH p.val = 0 ∧
      s.reports1 t Code.hpLinkDown ∧ t.ldg.journal = s.ldg.journal ∧ t.ldg.lease = s.ldg.lease) ∧
  (∀ (s : State) (p : Fin 2) (c : Instr), c ∈ [Instr.perstN p true, .hotReset p, .flr p] → ∃ t, exec c s = .next t ∧
      t.conn p.val = SpdmConn.zero ∧ t.conn (p.val + 3) = SpdmConn.zero ∧ t.conn 2 = s.conn 2 ∧
      (∀ o, o < 2048 → t.msixByte p.val o = (msixReset o).toNat ∧ t.msixByte (1 - p.val) o = s.msixByte (1 - p.val) o) ∧
      t.reg F.HP_LINK_UP p.val = 0 ∧ t.reg F.HP_EVENT_FAULT p.val = 0 ∧ t.reg F.HP_LEASE_OP_STATUS p.val = 0 ∧
      t.reg F.HP_LEASE_SESSION p.val = s.reg F.HP_LEASE_SESSION p.val ∧
      t.reg F.HP_LINK_UP (1 - p.val) = s.reg F.HP_LINK_UP (1 - p.val) ∧ t.ldg.lease = s.ldg.lease ∧
      t.ldg.journal = s.ldg.journal ∧ t.ldg.mem = s.ldg.mem ∧ t.ldg.mapA = s.ldg.mapA ∧ t.ldg.mapB = s.ldg.mapB ∧
      t.reports = s.reports ∧ t.fields = s.fields) ∧
  (∀ (s : State) (p : Fin 2) (k : Nat) (r : Ring), k < 64 → s.ldg.rings = [(64 * p.val + k, r)] →
    ∃ t, exec (.hotReset p) s = .next t ∧ (t.ldg.ring p.val k).flying = 0 ∧ (t.ldg.ring p.val k).prod = r.prod ∧
      (t.ldg.ring p.val k).slots = r.slots.take (r.slots.length - r.flying)) ∧
  (∀ s : State, exec (.perstN 0 false) s = .next { s with ldg := { s.ldg with perstA := false } } ∧
    exec (.perstN 1 false) s = .next { s with ldg := { s.ldg with perstB := false } })

/-- With the link layer out of reset: a byte written to a port's posting map sets the bits that it holds as 1 and leaves the
others. A write inside the entry policy table stores its bytes and no other byte changes. A write to the ledger header,
and one to the request ring of a session that the other port owns, is discarded and counted once in LDG_STAT.IGNORED. A
write whose TLP fails its IDE check is dropped and recorded as HP_IDE_FAIL. Enabling a ring reads its other fields. CONS
passing a record frees its slot and moves DLV, and at an END record DONESEQ. Where the rules leave a choice, this states
the model's: assumption 61. -/
def Obligations.HostWritesReachTheLedger : Prop :=
  (∀ (s : State) (off : Fin 512) (b : BitVec 8), s.linkReset = false →
    exec (.postingMapWrite 0 off [b]) s =
      .next { s with ldg := { s.ldg with mapA := s.ldg.mapA ||| (b.toNat * 2 ^ (8 * off.val)) } } ∧
    exec (.postingMapWrite 1 off [b]) s =
      .next { s with ldg := { s.ldg with mapB := s.ldg.mapB ||| (b.toNat * 2 ^ (8 * off.val)) } }) ∧
  (∀ (s : State) (p : Fin 2) (off : BitVec 28) (data : List (BitVec 8)), 0x1000 ≤ off.toNat →
    off.toNat + data.length ≤ 0x5000 → s.linkReset = false → ∃ t, exec (.bar2Write p off data false) s = .next t ∧
      (∀ k, k < data.length → t.ldg.mem.get 0 (off.toNat + k) = data.getD k 0) ∧
      (∀ a, (a < off.toNat ∨ off.toNat + data.length ≤ a) → t.ldg.mem.get 0 a = s.ldg.mem.get 0 a) ∧
      t.ldg.sessions = s.ldg.sessions ∧ t.ldg.rings = s.ldg.rings ∧ t.regs = s.regs) ∧
  (∀ (s : State) (p : Fin 2) (off : BitVec 28) (data : List (BitVec 8)) (i : Nat), data ≠ [] →
    s.linkReset = false → (off.toNat + data.length ≤ 0x1000 ∨ (i < 4096 ∧ 0x1000000 + 0x4000 * i ≤ off.toNat ∧
      off.toNat + data.length ≤ 0x1000000 + 0x4000 * (i + 1) ∧ (s.ldg.sess i).state ≠ 0 ∧
      (s.ldg.sess i).owner ≠ p.val + 1)) →
    ∃ t, exec (.bar2Write p off data false) s = .next t ∧
      t.reg F.LDG_STAT_IGNORED = satAdd 16 (s.reg F.LDG_STAT_IGNORED) 1 ∧
      s.onlyRegs t [Fld.key F.LDG_STAT_IGNORED 0 0]) ∧
  (∀ (s : State) (p : Fin 2) (off : BitVec 28) (data : List (BitVec 8)), s.reg F.HP_LINK_IDE p.val = 1 →
    ∃ t, exec (.bar2Write p off data true) s = .next t ∧ s.reports1 t Code.hpIdeFail ∧ t.ldg = s.ldg ∧ t.regs = s.regs) ∧
  (∀ (s : State) (p : Fin 2) (k : Fin 64) (r : Ring), s.linkReset = false → s.ldg.ring p.val k.val = r → r.en = false → r.slots = [] →
    ∃ t, exec (.ringEnable p k) s = .next t ∧ t.ldg.ring p.val k.val = { r with
      en := true, base := s.ldg.u (ringAt p.val k.val) 8, entries := s.ldg.u (ringAt p.val k.val + 8) 4
      vector := s.ldg.u (ringAt p.val k.val + 12) 1 % 64, coalesce := s.ldg.u (ringAt p.val k.val + 14) 2
      cons := s.ldg.u (ringAt p.val k.val + 16) 4 } ∧ t.ldg.sessions = s.ldg.sessions ∧ t.regs = s.regs) ∧
  (∀ (s : State) (p : Fin 2) (k : Fin 64) (v : BitVec 32) (g : Ring) (i : Nat) (r : Rec), s.linkReset = false → s.ldg.ring p.val k.val = g →
    g.en = true → s.ldg.u (ringAt p.val k.val + 13) 1 = 1 → g.cons < 2 ^ 32 → v.toNat = (g.cons + 1) % 2 ^ 32 →
    g.slots = [(i, r.seqNo, r.index, false)] → g.flying = 0 → (s.ldg.sess i).recs = [r] → r.noToken = false →
    r.port = p.val → r.ring = k.val → r.place = 2 → ∃ t, exec (.consWrite p k v) s = .next t ∧
      (t.ldg.ring p.val k.val).slots = [] ∧ (t.ldg.ring p.val k.val).cons = v.toNat ∧ (t.ldg.sess i).recs = [] ∧
      (t.ldg.sess i).dlv = max (s.ldg.sess i).dlv (r.index + 1) ∧ (t.ldg.sess i).rel = (s.ldg.sess i).rel ∧
      (t.ldg.sess i).doneSeq = (if r.isEnd then max (s.ldg.sess i).doneSeq r.seqNo else (s.ldg.sess i).doneSeq))

/-- With the link layer out of reset (BAR2 is served through L2), for a write of one byte at offset o of a port's own
posting map: bit i of the map is 1 afterwards exactly if it was 1 before or i lies in byte o and bit i mod 8 of the data
is 1, and the other port's map is unchanged. The byte that BAR2 shows at offset o of map A or B holds bits 8 o to 8 o +
7 of the map. An intake tick of an open ledger that is not held and has no acceptance under way, with no bit set but
those of sessions that the posting port does not own, leaves both maps without a bit. -/
def Obligations.PostingMapsGainBitsUntilIntakeTakesThem : Prop :=
  (∀ (s : State) (p : Fin 2) (o : Fin 512) (b : BitVec 8), s.linkReset = false → ∃ t, exec (.postingMapWrite p o [b]) s = .next t ∧
    (p = 0 → t.ldg.mapB = s.ldg.mapB ∧ ∀ i, bitOf t.ldg.mapA i =
      (bitOf s.ldg.mapA i || (decide (i / 8 = o.val) && bitOf b.toNat (i % 8)))) ∧
    (p = 1 → t.ldg.mapA = s.ldg.mapA ∧ ∀ i, bitOf t.ldg.mapB i =
      (bitOf s.ldg.mapB i || (decide (i / 8 = o.val) && bitOf b.toNat (i % 8))))) ∧
  (∀ (s : State) (o k : Nat), o < 512 → k < 8 → bitOf (s.bar2Byte (0x5000 + o)) k = bitOf s.ldg.mapA (8 * o + k) ∧
    bitOf (s.bar2Byte (0x5200 + o)) k = bitOf s.ldg.mapB (8 * o + k)) ∧
  (∀ (s : State) (ups : List (Addr × Upset)), (s.upsets ups).ldg.state = 1 → (s.upsets ups).trust.halted = false →
    (s.upsets ups).held = false → (s.upsets ups).stackReset = false → (s.upsets ups).ldg.accepting = [] →
    (∀ p, (s.upsets ups).leaseDue p = false) → (s.upsets ups).ldg.mapB = 0 →
    (∀ i, bitOf (s.upsets ups).ldg.mapA i = true →
      ((s.upsets ups).ldg.sess i).state ≠ 0 ∧ ((s.upsets ups).ldg.sess i).owner = 2) →
    ∃ t, exec (.intakeTick ups) s = .next t ∧ t.ldg.mapA = 0 ∧ t.ldg.mapB = 0 ∧
      ∀ o, o < 512 → t.bar2Byte (0x5000 + o) = 0 ∧ t.bar2Byte (0x5200 + o) = 0)

/-- An intake tick of an open ledger takes and clears both maps. The descriptor of a posted session whose CRC fails counts
BADCRC, one with a later sequence number counts GAPS, and a posting of a session that the port does not own counts
FOREIGN; nothing is taken. With a descriptor of the expected number that passes the checks, its acceptance begins.
Acceptance of a RUN writes its ACCEPT record, makes a FREE session OPEN with the posting port as owner, takes the number
and counts ACCEPTED; a rejected request takes its number and ends with one END record of its STATUS. While R185 admits
no beat of the journal's field, and while the readback of a mirror copy is awaited, nothing is accepted; a failed one
drops the request and is recorded. Where the rules leave a choice, this states the model's: assumptions 60 and 61. -/
def Obligations.RequestsAreTakenAndAccepted : Prop :=
  (∀ (s u : State) (ups : List (Addr × Upset)) (i : Fin 4096), u = s.upsets ups → u.ldg.state = 1 → u.trust.halted = false →
    u.held = false → u.stackReset = false → u.ldg.accepting = [] → (∀ p, u.leaseDue p = false) →
    u.ldg.mapA = 2 ^ i.val → u.ldg.mapB = 0 → (u.ldg.sess i.val).state = 1 → (u.ldg.sess i.val).nextSeq = 1 →
    u.inRope = false →
    ((u.ldg.sess i.val).owner = 2 → ∃ t, exec (.intakeTick ups) s = .next t ∧ t.ldg.mapA = 0 ∧ t.ldg.accepting = [] ∧
      t.reg F.LDG_STAT_FOREIGN = satAdd 16 (u.reg F.LDG_STAT_FOREIGN) 1 ∧ t.ldg.sessions = u.ldg.sessions) ∧
    ((u.ldg.sess i.val).owner = 1 → crc32c ((u.ldg.slot i.val 1).take 0xF8) ≠ leAt (u.ldg.slot i.val 1) 0xFC 4 →
      ∃ t, exec (.intakeTick ups) s = .next t ∧ t.ldg.mapA = 0 ∧ t.ldg.accepting = [] ∧
        t.ldg.sess i.val = { u.ldg.sess i.val with badCrc := satAdd 32 (u.ldg.sess i.val).badCrc 1 }) ∧
    ((u.ldg.sess i.val).owner = 1 → crc32c ((u.ldg.slot i.val 1).take 0xF8) = leAt (u.ldg.slot i.val 1) 0xFC 4 →
      1 < leAt (u.ldg.slot i.val 1) 0 8 → ∃ t, exec (.intakeTick ups) s = .next t ∧ t.ldg.mapA = 0 ∧
        t.ldg.accepting = [] ∧
        t.ldg.sess i.val = { u.ldg.sess i.val with gaps := satAdd 32 (u.ldg.sess i.val).gaps 1 }) ∧
    ((u.ldg.sess i.val).owner = 1 → crc32c ((u.ldg.slot i.val 1).take 0xF8) = leAt (u.ldg.slot i.val 1) 0xFC 4 →
      leAt (u.ldg.slot i.val 1) 0 8 = 1 → bitOf (leAt (u.ldg.slot i.val 1) 10 1) 2 = false →
      u.ldg.journal = [] → (u.ldg.sess i.val).key = [] → bitOf (leAt (u.ldg.slot i.val 1) 10 1) 1 = false →
      crc32c ((u.ldg.slot i.val 2).take 0xF8) ≠ leAt (u.ldg.slot i.val 2) 0xFC 4 → u.od 0x7000 3 = 0 →
      ∃ t a, exec (.intakeTick ups) s = .next t ∧ t.ldg.mapA = 0 ∧ t.ldg.accepting = [a] ∧ a.session = i.val ∧
        a.port = 0 ∧ a.mirror = false ∧ a.req.seqNo = 1 ∧ a.req.desc = u.ldg.slot i.val 1 ∧
        a.req.rejected = (if u.badRequest 0 false (u.ldg.slot i.val 1) then some 2 else none))) ∧
  (∀ (s : State) (a : Accepting) (l : List Accepting) (x : Session), s.ldg.accepting = a :: l → a.mirror = false →
    s.stackReset = false → s.admits s.journalField 1 = true → s.ldg.sess a.session = x → x.active = [] → x.recs = [] →
    (a.req.kind = 1 → a.req.rejected = none → x.state = 0 → ∃ t, exec .acceptance s = .next t ∧ t.ldg.accepting = l ∧
      (t.ldg.sess a.session).state = 1 ∧ (t.ldg.sess a.session).owner = a.port + 1 ∧
      (t.ldg.sess a.session).nextSeq = a.req.seqNo + 1 ∧ (t.ldg.sess a.session).recs = [] ∧
      t.ldg.accepted = s.ldg.accepted + 1 ∧ t.ldg.jseq = s.ldg.jseq + 1 ∧ leAt (t.ldg.slot a.session a.req.seqNo) 0xF8 4 =
        0x50434341 ∧ t.ldg.journal = s.ldg.journal ++ [⟨1, a.session, a.req.seqNo, s.ldg.jseq, bitOf a.req.flags 0,
          a.req.desc ++ a.req.payload⟩]) ∧
    (∀ v, a.req.rejected = some v → ∃ t r, exec .acceptance s = .next t ∧ t.ldg.accepting = l ∧
      (t.ldg.sess a.session).state = x.state ∧ (t.ldg.sess a.session).nextSeq = a.req.seqNo + 1 ∧
      (t.ldg.sess a.session).recs = [r] ∧ r.isEnd = true ∧ r.noToken = true ∧ r.status = v ∧ r.index = x.rel ∧
      r.seqNo = a.req.seqNo ∧ t.ldg.accepted = s.ldg.accepted)) ∧
  (∀ (s : State), s.admits s.journalField 1 = false → exec .acceptance s = .next s) ∧
  (∀ (s : State) (a : Accepting) (l : List Accepting), s.ldg.accepting = a :: l → a.mirror = true →
    exec .acceptance s = .next s ∧
    (∃ t, exec (.mirrorReadback true) s = .next t ∧ t.ldg.accepting.head? = some { a with mirror := false } ∧
      t.ldg.sessions = s.ldg.sessions ∧ t.ldg.journal = s.ldg.journal) ∧
    (∃ t, exec (.mirrorReadback false) s = .next t ∧ (∀ b, b ∈ t.ldg.accepting → b.session = a.session →
      b.req.seqNo < a.req.seqNo) ∧ t.ldg.sessions = s.ldg.sessions ∧ t.ldg.journal = s.ldg.journal ∧
      s.reports1 t Code.ldgMirrorFail))

/-- When a port's lease has expired its OPEN sessions become ORPHAN, the expiry is recorded as LDG_LEASE_EXPIRED,
HP_EVENT.ORPHANS is set on the other port and the lease-expiry warning stands; a lease that has not expired is left
alone. RENEW sets the expiry to LEASE_MS from now and ends with STATUS done; behind an expiry it makes the port's ORPHAN
sessions OPEN again. CLAIM makes an ORPHAN session OPEN with the claiming port as owner and moves its records to the
ring named, those already released marked REDELIVERED; a session that is not ORPHAN is not changed. CLAIM_ALL does so
for every ORPHAN session. Where the rules leave a choice, this states the model's: assumption 63. -/
def Obligations.LeasesAndTakeover : Prop :=
  (∀ (s : State) (p : Fin 2) (i : Nat) (x : Session), s.trust.halted = false → s.ldg.sessions = [(i, x)] →
    (s.leaseDue p.val = true → ∃ t, exec (.leaseExpiry p) s = .next t ∧ (t.ldg.sess i).state =
        (if x.state = 1 ∧ x.owner = p.val + 1 then 2 else x.state) ∧ (t.ldg.sess i).active = x.active ∧
      (t.ldg.sess i).recs = x.recs ∧ s.reports1 t Code.ldgLeaseExpired ∧ t.reg F.HP_EVENT_ORPHANS (1 - p.val) = 1 ∧
      bitOf t.pw.warn 4 = true ∧ t.leaseDue p.val = false) ∧
    (s.leaseDue p.val = false → exec (.leaseExpiry p) s = .next s)) ∧
  (∀ (s : State) (p : Fin 2) (i : Nat) (x : Session), s.ldg.sessions = [(i, x)] → ∃ t, exec (.renew p) s = .next t ∧
      t.ldg.lease.get 0 p.val = s.ref + 100000 * s.od 0x7000 2 + 1 ∧ t.reg F.HP_LEASE_OP_STATUS p.val = 0 ∧
      t.ldg.lease.get 0 (1 - p.val) = s.ldg.lease.get 0 (1 - p.val) ∧ (t.ldg.sess i).state =
        (if p.val ∈ s.ldg.expired ∧ x.state = 2 ∧ x.owner = p.val + 1 then 1 else x.state) ∧
      (t.ldg.sess i).owner = x.owner ∧ t.ldg.expired.contains p.val = false ∧ t.reports = s.reports) ∧
  (∀ (s : State) (p : Fin 2) (i : Nat) (c : Instr), i = s.reg F.HP_LEASE_SESSION p.val → (c = .claim p ∨
      (c = .claimAll p ∧ s.ldg.sessions = [(i, s.ldg.sess i)])) →
    ∃ t, exec c s = .next t ∧ t.reg F.HP_LEASE_OP_STATUS p.val = 0 ∧ t.ldg.journal = s.ldg.journal ∧
      t.ldg.lease = s.ldg.lease ∧
      ((s.ldg.sess i).state ≠ 2 → t.ldg.sess i = s.ldg.sess i) ∧
      ((s.ldg.sess i).state = 2 → (t.ldg.sess i).state = 1 ∧ (t.ldg.sess i).owner = p.val + 1 ∧
        (t.ldg.sess i).recs.length = (s.ldg.sess i).recs.length ∧ (t.ldg.sess i).rel = (s.ldg.sess i).rel ∧
        (t.ldg.sess i).nextSeq = (s.ldg.sess i).nextSeq ∧
        (∀ r, r ∈ (t.ldg.sess i).recs → r.port = p.val ∧ r.ring = s.reg F.HP_LEASE_RINGIX p.val ∧ r.place ≤ 1 ∧
          (r.place = 1 → r.redelivered = true))))

/-- The feed of the oldest issued invocation whose half is free is journalled as a FEED record and counts as written; one
that the journal holds is written again and journalled no more. The drain of an ended invocation is read once; both wait
for admission of their beats. A feed missing 4,096 acycles before its start is recorded as LDG_FEED_LATE and makes the
section invalid. A record below CLEAR's reach is held; a token record past it is released: REL, the token log and
RELEASED follow, and a TOKENS record is journalled. A replayed record that agrees with the log is suppressed. A released
record goes to the next slot of its enabled ring that has room; PROD advances when its write completes, and its
interrupt goes to the ring's vector. Where the rules leave a choice, this states the model's: assumptions 61, 62 and 64. -/
def Obligations.FeedsDrainsAndCompletions : Prop :=
  (∀ (s : State) (v : Invocation), s.feedNext = some v → s.dict.test = none → s.stackReset = false →
    s.trust.halted = false → s.admits 0 0 = true →
    (s.ldg.feedRec v.seqNo = none → s.ldg.fits s.ldg.underway 4097 = true → ∃ t j, exec .feedWrite s = .next t ∧
      v.seqNo ∈ t.ldg.fed ∧ t.ldg.journal = s.ldg.journal ++ [j] ∧ j.type = 3 ∧ j.key = v.seqNo ∧ j.jseq = s.ldg.jseq ∧
      leAt j.body 0 4 = 0x44454546 ∧ t.ldg.jseq = s.ldg.jseq + 1 ∧ t.reports = s.reports) ∧
    (∀ r, s.ldg.feedRec v.seqNo = some r → ∃ t, exec .feedWrite s = .next t ∧ v.seqNo ∈ t.ldg.fed ∧
      t.ldg.journal = s.ldg.journal ∧ t.ldg.sessions = s.ldg.sessions ∧ t.reports = s.reports)) ∧
  (∀ (s : State) (q k : Nat), s.run.ended = [(q, k)] → s.dict.test = none → s.stackReset = false →
    s.trust.halted = false → (q ∉ s.ldg.drained → s.admits 0 0 = true → ∃ t, exec .drainRead s = .next t ∧
      q ∈ t.ldg.drained ∧ t.ldg.fed = s.ldg.fed ∧
      ((∀ f key k, ((s.tile f key).stkWord k).ecc = .good) → t.reports = s.reports ∧ t.regs = s.regs)) ∧
    (s.admits 0 0 = false → exec .drainRead s = .next s) ∧
    (q ∈ s.ldg.drained → exec .drainRead s = .next s)) ∧
  (∀ (s : State) (v : Invocation), s.issued = [v] → s.dict.test = none → v.start < s.acyc + 4096 → v.seqNo ∉ s.ldg.fed →
    ∃ t, exec .ldgFeedLate s = .next t ∧ s.reports1 t Code.ldgFeedLate ∧ t.run = { s.run with invalid := true } ∧
      t.ldg = s.ldg) ∧
  (∀ (s : State) (i : Fin 4096) (x : Session) (r : Rec), s.trust.halted = false → s.ldg.sess i.val = x → x.recs = [r] →
    r.place = 0 → r.close = false →
    (s.reg F.BC_ROPE_CLEAR_CLEAR < r.endAcyc → exec (.completionWrite i) s = .next s) ∧
    (r.endAcyc ≤ s.reg F.BC_ROPE_CLEAR_CLEAR → r.noToken = false → r.index < x.rel →
      x.tokens.get 0 r.index = r.token + 1 → ∃ t, exec (.completionWrite i) s = .next t ∧ (t.ldg.sess i.val).recs = [] ∧
        (t.ldg.sess i.val).rel = x.rel ∧ t.reg F.LDG_STAT_SUPPRESSED = satAdd 16 (s.reg F.LDG_STAT_SUPPRESSED) 1 ∧
        t.out = s.out ∧ t.reports = s.reports) ∧
    (r.endAcyc ≤ s.reg F.BC_ROPE_CLEAR_CLEAR → r.noToken = false → x.rel ≤ r.index → s.ldg.fits s.ldg.underway 2 = true →
      s.reg F.HP_LINK_UP r.port = 0 → ∃ t, exec (.completionWrite i) s = .next t ∧
        (t.ldg.sess i.val).recs = [{ r with place := 1 }] ∧ (t.ldg.sess i.val).rel = r.index + 1 ∧
        (t.ldg.sess i.val).tokens.get 0 r.index = r.token + 1 ∧ t.ldg.released = s.ldg.released + 1 ∧
        t.ldg.journal = s.ldg.journal ++ [⟨4, i.val, r.index, s.ldg.jseq, false, bytesLe 4 r.token⟩] ∧ t.out = s.out)) ∧
  (∀ (s : State) (i : Fin 4096) (x : Session) (r : Rec) (g : Ring), s.trust.halted = false → s.ldg.sess i.val = x →
    x.recs = [r] → r.place = 1 → r.ring < 64 → s.ldg.ring r.port r.ring = g → g.en = true → g.prod < 2 ^ 32 →
    g.cons = g.prod → g.flying = 0 → g.redo = [] → 0 < g.entries → r.port ∉ s.ldg.expired → s.reg F.HP_LINK_UP r.port ≠ 0 →
    ∃ t o, exec (.completionWrite i) s = .next t ∧ t.out = o :: s.out ∧ o.chan = .hostWrite ∧ o.port = r.port ∧
      o.tag = g.base + 32 * (g.prod % g.entries) ∧ o.body = r.bytes (decide (g.prod / g.entries % 2 = 0)) ∧
      (t.ldg.sess i.val).recs = [{ r with place := 2 }] ∧ (t.ldg.ring r.port r.ring).flying = 1 ∧
      (t.ldg.ring r.port r.ring).prod = g.prod ∧
      (t.ldg.ring r.port r.ring).slots = g.slots ++ [(i.val, r.seqNo, r.index, r.noToken)]) ∧
  (∀ (s : State) (p : Fin 2) (k : Fin 64) (g : Ring), s.ldg.ring p.val k.val = g →
    (g.flying ≠ 0 → ∃ t, exec (.completionWriteDone p k) s = .next t ∧ t.ldg.ring p.val k.val =
      { g with flying := g.flying - 1, prod := (g.prod + 1) % 2 ^ 32, due := true } ∧ t.out = s.out) ∧
    (g.due = true → s.msixByte p.val (16 * g.vector + 12) % 2 = 0 → ∃ t o, exec (.msixCoalesce p k) s = .next t ∧
      t.ldg.ring p.val k.val = { g with due := false } ∧ t.out = o :: s.out ∧ o.chan = .msix ∧ o.port = p.val ∧
      o.tag = g.vector))

/-- With the responder running and the requester's transfers unlimited: GET_VERSION begins anew, GET_CAPABILITIES and
NEGOTIATE_ALGORITHMS move on, a request out of turn is answered with an ERROR of code 4; GET_DIGESTS, GET_CERTIFICATE,
CHALLENGE, GET_MEASUREMENTS, KEY_EXCHANGE, GET_PQ_CERT and GET_PQ_SIG answer with what R362 to R364 name, and a signed
answer keeps its ML-DSA-65 signature; FINISH, KEY_UPDATE, HEARTBEAT and END_SESSION act on the session. CHUNK_SEND
collects, CHUNK_GET gives the rest of a large answer. IDE_KM in the port's secured session programs keys and starts and
stops streams, and HP_LINK.IDE shows whether one runs. A responder that is not running changes nothing. Message layouts
and error codes are the model's choice (PRESUMED DSP0274). Where the rules leave a choice, this states the model's:
assumptions 3 and 65. -/
def Obligations.SpdmResponderAnswers : Prop :=
  (∀ (s : State) (c : Fin 5) (limit : BitVec 32) (ok : Bool), s.spdmUp = true → (s.conn c.val).xfer = 0 →
    (∃ t, exec (.getVersion c) s = .next t ∧ t.conn c.val = { SpdmConn.zero with stage := 1, pqSig := (s.conn c.val).pqSig } ∧
      t.out = ⟨.spdm, c.val, 4, [0x10, 4, 0, 0, 0, 1, 0, 0x13]⟩ :: s.out) ∧
    ((s.conn c.val).stage = 0 → ∃ t, exec (.getCapabilities c limit) s = .next t ∧ t.conn c.val = s.conn c.val ∧
      t.out = ⟨.spdm, c.val, 0x7F, [0x13, 0x7F, 4, 0]⟩ :: s.out) ∧
    (1 ≤ (s.conn c.val).stage → ∃ t o, exec (.getCapabilities c limit) s = .next t ∧
      (t.conn c.val).stage = max 2 (s.conn c.val).stage ∧
      (t.conn c.val).xfer = limit.toNat ∧ t.out = o :: s.out ∧ o.chan = .spdm ∧ o.port = c.val ∧ o.tag = 0x61) ∧
    ((s.conn c.val).stage < 2 → exec (.negotiateAlgorithms c ok) s = .next (s.emit .spdm c.val 0x7F [0x13, 0x7F, 4, 0])) ∧
    (2 ≤ (s.conn c.val).stage → ok = true → ∃ t o, exec (.negotiateAlgorithms c ok) s = .next t ∧
      t.conn c.val = { s.conn c.val with stage := 3 } ∧ t.out = o :: s.out ∧ o.chan = .spdm ∧ o.port = c.val ∧ o.tag = 0x63) ∧
    (2 ≤ (s.conn c.val).stage → ok = false → ∃ t, exec (.negotiateAlgorithms c ok) s = .next t ∧
      t.conn c.val = s.conn c.val ∧ t.out = ⟨.spdm, c.val, 0x7F, [0x13, 0x7F, 1, 0]⟩ :: s.out)) ∧
  (∀ (s : State) (c : Fin 5) (slot index : BitVec 8) (off len : BitVec 16) (o32 : BitVec 32) (sign : Bool) (i : Instr),
    s.spdmUp = true → (s.conn c.val).xfer = 0 → (s.conn c.val).stage < 3 → i ∈ [Instr.getDigests c,
      .getCertificate c slot off len, .challenge c slot, .getMeasurements c index sign, .keyExchange c slot,
      .getPqCert c o32 len] →
    ∃ t, exec i s = .next t ∧ t.conn c.val = s.conn c.val ∧ t.free = s.free ∧
      t.out = ⟨.spdm, c.val, 0x7F, [0x13, 0x7F, 4, 0]⟩ :: s.out) ∧
  (∀ (s : State) (c : Fin 5) (off len : BitVec 16) (o32 : BitVec 32), s.spdmUp = true → (s.conn c.val).xfer = 0 →
    3 ≤ (s.conn c.val).stage →
    exec (.getDigests c) s = .next (s.emit .spdm c.val 1 ([0x13, 1, 0, 1] ++
      bytesLe 48 (Config.chainDigest 0 (s.trust.meas.get 0 2)))) ∧
    (∃ t, exec (.getCertificate c 0 off len) s = .next t ∧ t.conn c.val = s.conn c.val ∧
      t.out = (if (s.chain 0).length ≤ off.toNat then ⟨.spdm, c.val, 0x7F, [0x13, 0x7F, 1, 0]⟩
        else ⟨.spdm, c.val, 2, [0x13, 2, 0, 0] ++ bytesLe 2 (((s.chain 0).drop off.toNat).take len.toNat).length ++
          bytesLe 2 ((s.chain 0).length - off.toNat - (((s.chain 0).drop off.toNat).take len.toNat).length) ++
          ((s.chain 0).drop off.toNat).take len.toNat⟩) :: s.out) ∧
    ∃ t b, exec (.getPqCert c o32 len) s = .next t ∧ t.out = ⟨.spdm, c.val, 0x7E, b⟩ :: s.out ∧
      b = vendorResponse (((s.chain 1).drop o32.toNat).take len.toNat) ∧ t.conn c.val = s.conn c.val) ∧
  (∀ (s : State) (c : Fin 5) (index : BitVec 8) (sign : Bool), s.spdmUp = true → (s.conn c.val).xfer = 0 →
    3 ≤ (s.conn c.val).stage →
    (∃ t b n, exec (.challenge c 0) s = .next t ∧ t.out = ⟨.spdm, c.val, 3, b⟩ :: s.out ∧
      (t.conn c.val) = { s.conn c.val with pqSig := some n } ∧
      (b.drop 84).take 432 = (List.range 9).flatMap (fun i => s.measDigest (i + 1))) ∧
    (∃ t b n, exec (.keyExchange c 0) s = .next t ∧ t.out = ⟨.spdm, c.val, 0x64, b⟩ :: s.out ∧
      t.conn c.val = { s.conn c.val with session := 1, updates := 0, pqSig := some n }) ∧
    (1 ≤ index.toNat → index.toNat ≤ 9 → ∃ t b, exec (.getMeasurements c index sign) s = .next t ∧
      t.out = ⟨.spdm, c.val, 0x60, b⟩ :: s.out ∧ b.getD 4 0 = 1 ∧ (b.drop 8).take 55 = s.measBlock index.toNat ∧
      (sign = false → t.conn c.val = s.conn c.val) ∧ (sign = true → (t.conn c.val).pqSig ≠ none)) ∧
    (9 < index.toNat → index ≠ 0xFF → ∃ t, exec (.getMeasurements c index sign) s = .next t ∧
      t.out = ⟨.spdm, c.val, 0x7F, [0x13, 0x7F, 1, 0]⟩ :: s.out)) ∧
  (∀ (s : State) (c : Fin 5), s.spdmUp = true → (s.conn c.val).xfer = 0 →
    ((s.conn c.val).pqSig = none → exec (.getPqSig c) s = .next (s.emit .spdm c.val 0x7F [0x13, 0x7F, 4, 0])) ∧
    (∀ n, (s.conn c.val).pqSig = some n →
      exec (.getPqSig c) s = .next (s.emit .spdm c.val 0x7E (vendorResponse (bytesLe 3309 (Config.free n)))))) ∧
  (∀ (s : State) (c : Fin 5) (op : BitVec 8) (ok : Bool), s.spdmUp = true → (s.conn c.val).xfer = 0 →
    ((s.conn c.val).session = 1 → ∃ t, exec (.finish c ok) s = .next t ∧
      (t.conn c.val).session = (if ok then 2 else 0) ∧
      t.out = ⟨.spdm, c.val, if ok then 0x65 else 0x7F, if ok then [0x13, 0x65, 0, 0] else [0x13, 0x7F, 6, 0]⟩ :: s.out) ∧
    ((s.conn c.val).session = 2 → (∃ t, exec (.heartbeat c) s = .next t ∧ t.conn c.val = s.conn c.val ∧
        t.out = ⟨.spdm, c.val, 0x68, [0x13, 0x68, 0, 0]⟩ :: s.out) ∧
      (∃ t, exec (.endSession c) s = .next t ∧ t.conn c.val = { s.conn c.val with session := 0, updates := 0 } ∧
        t.out = ⟨.spdm, c.val, 0x6C, [0x13, 0x6C, 0, 0]⟩ :: s.out) ∧
      (1 ≤ op.toNat → op.toNat ≤ 2 → ∃ t, exec (.keyUpdate c op) s = .next t ∧
        (t.conn c.val).updates = (s.conn c.val).updates + 1 ∧
        t.out = ⟨.spdm, c.val, 0x69, [0x13, 0x69, op.toNat, 0]⟩ :: s.out)) ∧
    ((s.conn c.val).session = 0 → ∀ i, i ∈ [Instr.finish c ok, .heartbeat c, .endSession c, .keyUpdate c op] →
      ∃ t, exec i s = .next t ∧ t.conn c.val = s.conn c.val ∧ t.out = ⟨.spdm, c.val, 0x7F, [0x13, 0x7F, 4, 0]⟩ :: s.out)) ∧
  (∀ (s : State) (c : Fin 5) (data : List (BitVec 8)) (q : SpdmReq), s.spdmUp = true →
    (∃ t, exec (.chunkSend c data false q) s = .next t ∧
      (t.conn c.val).chunkIn = (s.conn c.val).chunkIn ++ data.map (·.toNat) ∧
      t.out = ⟨.spdm, c.val, 5, [0x13, 5, 0, 0]⟩ :: s.out) ∧
    ((s.conn c.val).chunkOut ≠ [] → ∃ t o, exec (.chunkGet c) s = .next t ∧
      (t.conn c.val).chunkOut = (s.conn c.val).chunkOut.drop ((s.conn c.val).xfer - 16) ∧ t.out = o :: s.out ∧
      o.tag = 6 ∧ o.body.drop 8 = (s.conn c.val).chunkOut.take ((s.conn c.val).xfer - 16)) ∧
    ((s.conn c.val).xfer = 42 → 3 ≤ (s.conn c.val).stage → ∃ t o, exec (.getDigests c) s = .next t ∧
      (t.conn c.val).chunkOut = [0x13, 1, 0, 1] ++ bytesLe 48 (Config.chainDigest 0 (s.trust.meas.get 0 2)) ∧
      t.out = o :: s.out ∧ o.tag = 0x7F)) ∧
  (∀ (s : State) (p : Fin 2) (i : Fin 3), s.spdmUp = true → (s.conn (3 + p.val)).session = 2 →
    (∃ t o, exec (.ideKm p .query) s = .next t ∧ t = { s with out := o :: s.out }) ∧
    (∃ t, exec (.ideKm p (.keyProg i)) s = .next t ∧ 1 ≤ t.trust.ide.get 0 (3 * p.val + i.val) ∧
      t.trust.conns = s.trust.conns) ∧
    (s.trust.ide.get 0 (3 * p.val + i.val) ≠ 0 → ∃ t, exec (.ideKm p (.setGo i)) s = .next t ∧
      t.trust.ide.get 0 (3 * p.val + i.val) = 2 ∧ t.reg F.HP_LINK_IDE p.val = 1) ∧
    ((∀ j : Fin 3, j ≠ i → s.trust.ide.get 0 (3 * p.val + j.val) ≠ 2) → ∃ t, exec (.ideKm p (.setStop i)) s = .next t ∧
      t.trust.ide.get 0 (3 * p.val + i.val) ≤ 1 ∧ t.reg F.HP_LINK_IDE p.val = 0)) ∧
  (∀ (s : State) (c : Fin 5) (p : Fin 2) (m : IdeKm), s.spdmUp = false → exec (.getVersion c) s = .next s ∧
    exec (.chunkGet c) s = .next s ∧ exec (.ideKm p m) s = .next s)

/-- TAKE of a module without owners in profile Crocus, signed by its own keys, makes slot 0 ACTIVE with all roles. Signed by
an ACTIVE slot with OWNER, SET_SLOT sets a slot's keys and roles, REVOKE makes it REVOKED, ADVANCE_SVN raises each fused
minimum to the SVN that runs and lowers none, and RELEASE makes every slot EMPTY and zeroizes the staging area, the
journal and the image. Each raises the command counter by one and ends with STATUS done. A command with a failing
signature, another key identifier or another counter, one signed without OWNER, and a SET_SLOT that takes OWNER from the
last OWNER slot change no owner state and no fuse, end with STATUS 2 and record TRUST_OWNER_DENIED. Where the rules
leave a choice, this states the model's: assumptions 11 and 66. -/
def Obligations.OwnerCommandsActOrAreDenied : Prop :=
  (∀ (s : State) (a : OwnerAuth) (keys : BitVec 384), s.unowned = true → s.crocus = true → s.ownerFresh a = true →
    ∃ t, exec (.take a keys) s = .next t ∧ t.slotOwner 0 = ⟨1, keys.toNat, 7⟩ ∧
      (∀ k, k ≠ 0 → t.slotOwner k = s.slotOwner k) ∧ t.trust.ctr = (s.trust.ctr + 1) % 2 ^ 64 ∧ t.fuse = s.fuse ∧
      t.reg F.BC_OWNER_CMD_STATUS = 0 ∧ t.reports = s.reports) ∧
  (∀ (s : State) (a : OwnerAuth) (k : Fin 4) (keys : BitVec 384) (roles : BitVec 3), s.ownerOk a = true →
    (bitOf roles.toNat 0 = true ∨ s.hasRole k.val 0 = false ∨ ∃ j, j < 4 ∧ j ≠ k.val ∧ s.hasRole j 0 = true) →
    ∃ t, exec (.setSlot a k keys roles) s = .next t ∧ t.slotOwner k.val = ⟨1, keys.toNat, roles.toNat⟩ ∧
      (∀ j, j ≠ k.val → t.slotOwner j = s.slotOwner j) ∧ t.trust.ctr = (s.trust.ctr + 1) % 2 ^ 64 ∧ t.fuse = s.fuse ∧
      t.reg F.BC_OWNER_CMD_STATUS = 0 ∧ t.reports = s.reports) ∧
  (∀ (s : State) (a : OwnerAuth) (k : Fin 4), s.ownerOk a = true →
    ∃ t, exec (.revoke a k) s = .next t ∧ t.slotOwner k.val = { s.slotOwner k.val with state := 2 } ∧
      (∀ j, j ≠ k.val → t.slotOwner j = s.slotOwner j) ∧ t.trust.ctr = (s.trust.ctr + 1) % 2 ^ 64 ∧ t.fuse = s.fuse ∧
      t.reg F.BC_OWNER_CMD_STATUS = 0 ∧ t.reports = s.reports) ∧
  (∀ (s : State) (a : OwnerAuth), s.ownerOk a = true →
    (∃ t, exec (.advanceSvn a) s = .next t ∧ (∀ k, t.fuse.minSvn.getD k 0 =
        max (s.fuse.minSvn.getD k 0) (s.trust.svn.get 0 k)) ∧ t.fuse.devKey = s.fuse.devKey ∧
      t.trust.slots = s.trust.slots ∧ t.trust.ctr = (s.trust.ctr + 1) % 2 ^ 64 ∧ t.reg F.BC_OWNER_CMD_STATUS = 0) ∧
    (∃ t, exec (.release a) s = .next t ∧ (∀ k, t.slotOwner k = OwnerSlot.zero) ∧ t.staging = [] ∧ t.copy = none ∧
      t.image = none ∧ t.tenant = 0 ∧ t.ldg.journal = [] ∧ t.fuse = s.fuse ∧
      t.trust.ctr = (s.trust.ctr + 1) % 2 ^ 64 ∧ t.reg F.BC_OWNER_CMD_STATUS = 0)) ∧
  (∀ (s : State) (a : OwnerAuth) (k : Fin 4) (keys : BitVec 384) (roles : BitVec 3) (c : Instr),
    ((c = .take a keys ∧ (s.unowned = false ∨ s.crocus = false ∨ s.ownerFresh a = false)) ∨
      (c ∈ [Instr.setSlot a k keys roles, .revoke a k, .advanceSvn a, .release a] ∧ s.ownerOk a = false) ∨
      (c = .setSlot a k keys roles ∧ bitOf roles.toNat 0 = false ∧ s.hasRole k.val 0 = true ∧
        ∀ j, j < 4 → j ≠ k.val → s.hasRole j 0 = false)) →
    ∃ t, exec c s = .next t ∧ t.custody = s.custody ∧ t.reg F.BC_OWNER_CMD_STATUS = 2 ∧
      t.reg F.BC_TRUST_STATUS_FAIL = Code.trustOwnerDenied ∧ s.reports1 t Code.trustOwnerDenied)

/-- OFFER for a FREE session without a pending offer, in a staging area that has room, writes an offer with the next
OFFER_ID at the staging offset, counts the identifier on and ends with STATUS done; for a session that is not FREE it
changes nothing and is refused. OPEN of a FREE session whose pending offer has the identifier that the staged open
names, with a client confirm that verifies under the keys that the two agree on, writes the acknowledgement over the
first 64 bytes of the open, ends the offer and seals the session with those keys. An OPEN that fails ends the offer,
records TRUST_SEAL_AUTH and is refused. ABANDON and the expiry end an offer; one that has not expired stays. Where the
rules leave a choice, this states the model's: assumptions 3 and 66. -/
def Obligations.SealedSessionsAreOfferedAndOpened : Prop :=
  (∀ (s : State) (i : Fin 4096) (stage : BitVec 30), s.stackReset = false → 64 * stage.toNat + 4688 ≤ s.stagingSize →
    ((s.ldg.sess i.val).state = 0 → s.offerOf i.val = none → ∃ t, exec (.offer i stage) s = .next t ∧
      t.offerOf i.val = some s.trust.offerId ∧ t.trust.offerId = s.trust.offerId + 1 ∧
      t.staged (64 * stage.toNat) 4 = 0x52464F53 ∧ t.staged (64 * stage.toNat + 8) 8 = s.trust.offerId % 2 ^ 64 ∧
      (t.ldg.sess i.val).state = 0 ∧ (t.ldg.sess i.val).key = (s.ldg.sess i.val).key ∧ t.reg F.BC_SEAL_CMD_STATUS = 0 ∧
      t.reports = s.reports) ∧
    ((s.ldg.sess i.val).state ≠ 0 → ∃ t, exec (.offer i stage) s = .next t ∧ t.ldg = s.ldg ∧ t.staging = s.staging ∧
      t.reg F.BC_SEAL_CMD_STATUS = 2)) ∧
  (∀ (s u : State) (i : Fin 4096) (stage : BitVec 30) (ups : List (Addr × Upset)), u = s.upsets ups →
    (∀ o okm, u.openKeys i.val (64 * stage.toNat) = some (o, okm) → ∃ t, exec (.open_ i stage ups) s = .next t ∧
      (t.ldg.sess i.val).key = okm ∧ (t.ldg.sess i.val).state = (u.ldg.sess i.val).state ∧ t.offerOf i.val = none ∧
      t.openAt (64 * stage.toNat) =
        (o.ack (u.openAt (64 * stage.toNat)) okm ++ (u.openAt (64 * stage.toNat)).drop 64) ∧
      t.reg F.BC_SEAL_CMD_STATUS = 0 ∧ t.reports = u.reports) ∧
    (u.openKeys i.val (64 * stage.toNat) = none → ∃ t, exec (.open_ i stage ups) s = .next t ∧
      (t.ldg.sess i.val).key = (u.ldg.sess i.val).key ∧ t.offerOf i.val = none ∧
      (t.ldg.sess i.val).lastErr = Code.trustSealAuth ∧ t.staging = u.staging ∧ t.reg F.BC_SEAL_CMD_STATUS = 2 ∧
      t.reg F.BC_TRUST_STATUS_FAIL = Code.trustSealAuth ∧ u.reports1 t Code.trustSealAuth)) ∧
  (∀ (u : State) (i b : Nat) (o : Offer) (okm : List Nat), u.openKeys i b = some (o, okm) ↔
    ((u.ldg.sess i).offer = some o ∧ u.ref < o.ends ∧ leAt (u.openAt b) 8 8 = o.id ∧ (u.ldg.sess i).state = 0 ∧
      b + 1184 ≤ u.stagingSize ∧ u.stackReset = false ∧ o.agree (u.openAt b) = (okm, true))) ∧
  (∀ (s : State) (i : Fin 4096), (∃ t, exec (.abandon i) s = .next t ∧ (t.ldg.sess i.val) =
      { s.ldg.sess i.val with offer := none } ∧ t.reg F.BC_SEAL_CMD_STATUS = 0 ∧ t.reports = s.reports) ∧
    (∀ o, (s.ldg.sess i.val).offer = some o → (s.ref < o.ends → exec (.offerExpiry i) s = .next s) ∧
      (o.ends ≤ s.ref → ∃ t, exec (.offerExpiry i) s = .next t ∧
        t.ldg.sess i.val = { s.ldg.sess i.val with offer := none } ∧ t.regs = s.regs)))

/-- CHALLENGE sets a pending nonce that expires after 300 s. UNLOCK with a token that holds, at a DBG level below L4, uses
the nonce up, opens the token's scopes and shows debug unlocked, with its end a lifetime from now. A failed UNLOCK uses
the nonce up, opens nothing, counts a failure, locks UNLOCK at the fifth of the hour, is refused and records
TRUST_DEBUG_DENIED. RELOCK and the end of the lifetime close every scope, with no tile scan under way; RELOCK of a
locked module changes nothing but its command register, and an unlock whose end has not come stays. The nonce is dropped
when it expires, not before. Where the rules leave a choice, this states the model's: assumptions 1 and 67. -/
def Obligations.DebugIsUnlockedAndClosed : Prop :=
  (∀ s : State, ∃ t, exec .debugChallenge s = .next t ∧ t.trust.nonceEnd = some (s.ref + 30000000000) ∧
      t.nonce = Config.free s.free % 2 ^ 256 ∧ t.trust.unlockEnd = s.trust.unlockEnd ∧ t.reg F.BC_DBG_CMD_STATUS = 0 ∧
      t.reg F.BC_DBG_CMD_SCOPE = s.reg F.BC_DBG_CMD_SCOPE) ∧
  (∀ (s : State) (k : DebugToken), (s.tokenOk k = true → s.sourceLevel 5 < 4 → ∃ t, exec (.unlock k) s = .next t ∧
      t.reg F.BC_DBG_CMD_SCOPE = k.scope.toNat ∧ t.reg F.BC_TRUST_STATUS_DEBUG = 1 ∧ t.reg F.BC_DBG_CMD_STATUS = 0 ∧
      t.trust.unlockEnd = some (s.ref + 100000000 * k.life.toNat) ∧ t.trust.nonceEnd = none) ∧
    (s.tokenOk k = false → ∃ t, exec (.unlock k) s = .next t ∧ t.trust.nonceEnd = none ∧ t.nonce = 0 ∧
      t.reg F.BC_DBG_CMD_STATUS = 2 ∧ t.reg F.BC_TRUST_STATUS_FAIL = Code.trustDebugDenied ∧
      s.reports1 t Code.trustDebugDenied ∧ t.trust.unlockEnd = s.trust.unlockEnd ∧
      t.reg F.BC_DBG_CMD_SCOPE = s.reg F.BC_DBG_CMD_SCOPE ∧
      t.reg F.BC_TRUST_STATUS_DEBUG = s.reg F.BC_TRUST_STATUS_DEBUG ∧
      t.recentFails.length = s.recentFails.length + 1 ∧ (4 ≤ s.recentFails.length → t.trust.locked = true) ∧
      t.fields = s.fields ∧ t.image = s.image)) ∧
  (∀ s : State, s.trust.scanning = [] → (s.reg F.BC_TRUST_STATUS_DEBUG = 1 → ∃ t, exec .relock s = .next t ∧
      t.reg F.BC_DBG_CMD_SCOPE = 0 ∧ t.reg F.BC_TRUST_STATUS_DEBUG = 0 ∧ t.trust.unlockEnd = none ∧
      t.trust.tap = .bypass ∧ t.reg F.BC_DBG_CMD_STATUS = 0) ∧
    (∀ e, s.trust.unlockEnd = some e → (s.ref < e → exec .unlockExpiry s = .next s) ∧
      (e ≤ s.ref → ∃ t, exec .unlockExpiry s = .next t ∧ t.reg F.BC_DBG_CMD_SCOPE = 0 ∧
        t.reg F.BC_TRUST_STATUS_DEBUG = 0 ∧ t.trust.unlockEnd = none))) ∧
  (∀ s : State, s.reg F.BC_TRUST_STATUS_DEBUG = 0 → ∃ t, exec .relock s = .next t ∧ t.reg F.BC_DBG_CMD_STATUS = 0 ∧
      s.onlyRegs t [Fld.key F.BC_DBG_CMD_STATUS 0 0, Fld.key F.BC_DBG_CMD_OP 0 0, Fld.key F.BC_DBG_CMD_STAGE 0 0]) ∧
  (∀ (s : State) (e : Nat), s.trust.nonceEnd = some e → (s.ref < e → exec .debugNonceExpiry s = .next s) ∧
    (e ≤ s.ref → ∃ t, exec .debugNonceExpiry s = .next t ∧ t.trust.nonceEnd = none ∧ t.nonce = 0 ∧
      t.trust.unlockEnd = s.trust.unlockEnd ∧ t.reports = s.reports))

/-- A 64-bit write of HP_LEASE sets SESSION and RINGIX of the port that it comes through and changes no other field. A write
of HP_LINK, all RO, changes nothing. A write of HP_EVENT clears the fields whose bit is 1 and no other. A write of
RENEW, CLAIM or CLAIM_ALL to HP_LEASE_OP is that command; a reserved OP is refused with STATUS 2. A write that is not
aligned, or of one of three BAR0 offsets that hold no register, changes nothing. A write of a register in reset is
discarded and counted in RST_ISO.HOST. Where the rules leave a choice, this states the model's: assumption 68. -/
def Obligations.RegisterWritesFollowTheirAccessCodes : Prop :=
  (∀ (s : State) (p : Fin 2) (data : BitVec 64), s.rst.active = false →
    (∃ t, exec (.registerWrite p 0x80008 data true false) s = .next t ∧
      t.reg F.HP_LEASE_SESSION p.val = data.toNat / 2 ^ 8 % 2 ^ 12 ∧ t.reg F.HP_LEASE_RINGIX p.val = data.toNat % 2 ^ 6 ∧
      s.onlyRegs t [Fld.key F.HP_LEASE_SESSION p.val 0, Fld.key F.HP_LEASE_RINGIX p.val 0]) ∧
    exec (.registerWrite p 0x80000 data true false) s = .next s ∧
    (∃ t, exec (.registerWrite p 0x80018 data true false) s = .next t ∧
      t.reg F.HP_EVENT_FAULT p.val = (if bitOf data.toNat 0 then 0 else s.reg F.HP_EVENT_FAULT p.val % 2) ∧
      t.reg F.HP_EVENT_BOOTGEN p.val = (if bitOf data.toNat 5 then 0 else s.reg F.HP_EVENT_BOOTGEN p.val % 2) ∧
      t.reg F.HP_EVENT_FAULT (1 - p.val) = s.reg F.HP_EVENT_FAULT (1 - p.val) ∧ t.reports = s.reports)) ∧
  (∀ (s : State) (p : Fin 2), s.rst.active = false →
    exec (.registerWrite p 0x80010 1 true false) s = exec (.renew p) s ∧
    exec (.registerWrite p 0x80010 2 true false) s = exec (.claim p) s ∧
    exec (.registerWrite p 0x80010 3 true false) s = exec (.claimAll p) s ∧
    (∃ t, exec (.registerWrite p 0x80010 7 true false) s = .next t ∧ t.reg F.HP_LEASE_OP_STATUS p.val = 2 ∧
      s.onlyRegs t [Fld.key F.HP_LEASE_OP_STATUS p.val 0, Fld.key F.HP_LEASE_OP_OP p.val 0])) ∧
  (∀ (s : State) (p : Fin 2) (off : BitVec 25) (data : BitVec 64), (off.toNat % 8 ≠ 0 ∨
      off ∈ [0x2D0000, 0x1000000, 0x1FFFFF8]) →
    exec (.registerWrite p off data true false) s = .next s) ∧
  (∀ (s : State) (p : Fin 2) (data : BitVec 64), s.rst.active = true → s.rst.all = true → 3 ≤ s.rst.level →
    s.rst.step < firstStep 3 → ∃ t, exec (.registerWrite p 0x80010 data true false) s = .next t ∧
      t.reg F.RST_ISO_HOST = satAdd F.RST_ISO_HOST.w (s.reg F.RST_ISO_HOST) 1 ∧
      s.onlyRegs t [Fld.key F.RST_ISO_HOST 0 0])
end

