-- ==== Sys2Proof/Laws/Parts.lean ====
section
/-!
SUPPORT. Sys2Proof/Laws/Parts.lean: which parts of the state an operation may change, as a mask, and how masks compose.
-/

set_option Elab.async false

namespace Sys2Proof.Machine

/-- The state with the parts whose bit a mask has blanked: two states with the same masked state differ in those parts only. Bit k
is the k-th field of State, and bit 26 the owner slots and their counter. -/
def State.mask (m : Nat) (s : State) : State where
  fuse := if m / 2 ^ 0 % 2 = 1 then Fuses.zero else s.fuse
  ref := if m / 2 ^ 1 % 2 = 1 then 0 else s.ref
  acyc := if m / 2 ^ 2 % 2 = 1 then 0 else s.acyc
  regs := if m / 2 ^ 3 % 2 = 1 then [] else s.regs
  fields := if m / 2 ^ 4 % 2 = 1 then [] else s.fields
  links := if m / 2 ^ 5 % 2 = 1 then [] else s.links
  pkts := if m / 2 ^ 6 % 2 = 1 then [] else s.pkts
  image := if m / 2 ^ 7 % 2 = 1 then none else s.image
  copy := if m / 2 ^ 8 % 2 = 1 then none else s.copy
  pendingImg := if m / 2 ^ 9 % 2 = 1 then none else s.pendingImg
  tenant := if m / 2 ^ 10 % 2 = 1 then 0 else s.tenant
  staging := if m / 2 ^ 11 % 2 = 1 then [] else s.staging
  run := if m / 2 ^ 12 % 2 = 1 then Run.zero else s.run
  invq := if m / 2 ^ 13 % 2 = 1 then [] else s.invq
  reports := if m / 2 ^ 14 % 2 = 1 then [] else s.reports
  log := if m / 2 ^ 15 % 2 = 1 then Log.zero else s.log
  rope := if m / 2 ^ 16 % 2 = 1 then Rope.zero else s.rope
  ports := if m / 2 ^ 17 % 2 = 1 then [] else s.ports
  bcl := if m / 2 ^ 18 % 2 = 1 then BcLink.zero else s.bcl
  pw := if m / 2 ^ 19 % 2 = 1 then Pw.zero else s.pw
  rst := if m / 2 ^ 20 % 2 = 1 then Rst.zero else s.rst
  dict := if m / 2 ^ 21 % 2 = 1 then DictSt.zero else s.dict
  ldg := if m / 2 ^ 22 % 2 = 1 then Ledger.zero else s.ldg
  trust := { (if m / 2 ^ 23 % 2 = 1 then Trust.zero else s.trust) with
    slots := if m / 2 ^ 26 % 2 = 1 then [] else s.trust.slots
    ctr := if m / 2 ^ 26 % 2 = 1 then 0 else s.trust.ctr }
  out := if m / 2 ^ 24 % 2 = 1 then [] else s.out
  free := if m / 2 ^ 25 % 2 = 1 then 0 else s.free
  pending := s.pending

theorem mask_upd (m : Nat) (a : State) (x0 : Fuses) (x1 : Nat) (x2 : Nat) (x3 : RegFile) (x4 : SMap FieldSt) (x5 : List LinkWord) (x6 : List Flight) (x7 : Option Img) (x8 : Option Img) (x9 : Option Img) (x10 : Nat) (x11 : SMap Byte) (x12 : Run) (x13 : List Invocation) (x14 : List Report) (x15 : Log) (x16 : Rope) (x17 : SMap HxPort) (x18 : BcLink) (x19 : Pw) (x20 : Rst) (x21 : DictSt) (x22 : Ledger) (x23 : Trust) (x24 : List Out) (x25 : Nat)
    (h0 : m / 2 ^ 0 % 2 = 1 ∨ x0 = a.fuse := by first | exact Or.inl (by decide) | exact Or.inr (by with_reducible rfl) | exact Or.inr rfl | exact Or.inr ⟨rfl, rfl⟩)
    (h1 : m / 2 ^ 1 % 2 = 1 ∨ x1 = a.ref := by first | exact Or.inl (by decide) | exact Or.inr (by with_reducible rfl) | exact Or.inr rfl | exact Or.inr ⟨rfl, rfl⟩)
    (h2 : m / 2 ^ 2 % 2 = 1 ∨ x2 = a.acyc := by first | exact Or.inl (by decide) | exact Or.inr (by with_reducible rfl) | exact Or.inr rfl | exact Or.inr ⟨rfl, rfl⟩)
    (h3 : m / 2 ^ 3 % 2 = 1 ∨ x3 = a.regs := by first | exact Or.inl (by decide) | exact Or.inr (by with_reducible rfl) | exact Or.inr rfl | exact Or.inr ⟨rfl, rfl⟩)
    (h4 : m / 2 ^ 4 % 2 = 1 ∨ x4 = a.fields := by first | exact Or.inl (by decide) | exact Or.inr (by with_reducible rfl) | exact Or.inr rfl | exact Or.inr ⟨rfl, rfl⟩)
    (h5 : m / 2 ^ 5 % 2 = 1 ∨ x5 = a.links := by first | exact Or.inl (by decide) | exact Or.inr (by with_reducible rfl) | exact Or.inr rfl | exact Or.inr ⟨rfl, rfl⟩)
    (h6 : m / 2 ^ 6 % 2 = 1 ∨ x6 = a.pkts := by first | exact Or.inl (by decide) | exact Or.inr (by with_reducible rfl) | exact Or.inr rfl | exact Or.inr ⟨rfl, rfl⟩)
    (h7 : m / 2 ^ 7 % 2 = 1 ∨ x7 = a.image := by first | exact Or.inl (by decide) | exact Or.inr (by with_reducible rfl) | exact Or.inr rfl | exact Or.inr ⟨rfl, rfl⟩)
    (h8 : m / 2 ^ 8 % 2 = 1 ∨ x8 = a.copy := by first | exact Or.inl (by decide) | exact Or.inr (by with_reducible rfl) | exact Or.inr rfl | exact Or.inr ⟨rfl, rfl⟩)
    (h9 : m / 2 ^ 9 % 2 = 1 ∨ x9 = a.pendingImg := by first | exact Or.inl (by decide) | exact Or.inr (by with_reducible rfl) | exact Or.inr rfl | exact Or.inr ⟨rfl, rfl⟩)
    (h10 : m / 2 ^ 10 % 2 = 1 ∨ x10 = a.tenant := by first | exact Or.inl (by decide) | exact Or.inr (by with_reducible rfl) | exact Or.inr rfl | exact Or.inr ⟨rfl, rfl⟩)
    (h11 : m / 2 ^ 11 % 2 = 1 ∨ x11 = a.staging := by first | exact Or.inl (by decide) | exact Or.inr (by with_reducible rfl) | exact Or.inr rfl | exact Or.inr ⟨rfl, rfl⟩)
    (h12 : m / 2 ^ 12 % 2 = 1 ∨ x12 = a.run := by first | exact Or.inl (by decide) | exact Or.inr (by with_reducible rfl) | exact Or.inr rfl | exact Or.inr ⟨rfl, rfl⟩)
    (h13 : m / 2 ^ 13 % 2 = 1 ∨ x13 = a.invq := by first | exact Or.inl (by decide) | exact Or.inr (by with_reducible rfl) | exact Or.inr rfl | exact Or.inr ⟨rfl, rfl⟩)
    (h14 : m / 2 ^ 14 % 2 = 1 ∨ x14 = a.reports := by first | exact Or.inl (by decide) | exact Or.inr (by with_reducible rfl) | exact Or.inr rfl | exact Or.inr ⟨rfl, rfl⟩)
    (h15 : m / 2 ^ 15 % 2 = 1 ∨ x15 = a.log := by first | exact Or.inl (by decide) | exact Or.inr (by with_reducible rfl) | exact Or.inr rfl | exact Or.inr ⟨rfl, rfl⟩)
    (h16 : m / 2 ^ 16 % 2 = 1 ∨ x16 = a.rope := by first | exact Or.inl (by decide) | exact Or.inr (by with_reducible rfl) | exact Or.inr rfl | exact Or.inr ⟨rfl, rfl⟩)
    (h17 : m / 2 ^ 17 % 2 = 1 ∨ x17 = a.ports := by first | exact Or.inl (by decide) | exact Or.inr (by with_reducible rfl) | exact Or.inr rfl | exact Or.inr ⟨rfl, rfl⟩)
    (h18 : m / 2 ^ 18 % 2 = 1 ∨ x18 = a.bcl := by first | exact Or.inl (by decide) | exact Or.inr (by with_reducible rfl) | exact Or.inr rfl | exact Or.inr ⟨rfl, rfl⟩)
    (h19 : m / 2 ^ 19 % 2 = 1 ∨ x19 = a.pw := by first | exact Or.inl (by decide) | exact Or.inr (by with_reducible rfl) | exact Or.inr rfl | exact Or.inr ⟨rfl, rfl⟩)
    (h20 : m / 2 ^ 20 % 2 = 1 ∨ x20 = a.rst := by first | exact Or.inl (by decide) | exact Or.inr (by with_reducible rfl) | exact Or.inr rfl | exact Or.inr ⟨rfl, rfl⟩)
    (h21 : m / 2 ^ 21 % 2 = 1 ∨ x21 = a.dict := by first | exact Or.inl (by decide) | exact Or.inr (by with_reducible rfl) | exact Or.inr rfl | exact Or.inr ⟨rfl, rfl⟩)
    (h22 : m / 2 ^ 22 % 2 = 1 ∨ x22 = a.ldg := by first | exact Or.inl (by decide) | exact Or.inr (by with_reducible rfl) | exact Or.inr rfl | exact Or.inr ⟨rfl, rfl⟩)
    (h23 : m / 2 ^ 23 % 2 = 1 ∨ { x23 with slots := a.trust.slots, ctr := a.trust.ctr } = a.trust := by first | exact Or.inl (by decide) | exact Or.inr (by with_reducible rfl) | exact Or.inr rfl | exact Or.inr ⟨rfl, rfl⟩)
    (h24 : m / 2 ^ 24 % 2 = 1 ∨ x24 = a.out := by first | exact Or.inl (by decide) | exact Or.inr (by with_reducible rfl) | exact Or.inr rfl | exact Or.inr ⟨rfl, rfl⟩)
    (h25 : m / 2 ^ 25 % 2 = 1 ∨ x25 = a.free := by first | exact Or.inl (by decide) | exact Or.inr (by with_reducible rfl) | exact Or.inr rfl | exact Or.inr ⟨rfl, rfl⟩)
    (h26 : m / 2 ^ 26 % 2 = 1 ∨ x23.slots = a.trust.slots ∧ x23.ctr = a.trust.ctr := by first | exact Or.inl (by decide) | exact Or.inr (by with_reducible rfl) | exact Or.inr rfl | exact Or.inr ⟨rfl, rfl⟩) :
    State.mask m ⟨x0, x1, x2, x3, x4, x5, x6, x7, x8, x9, x10, x11, x12, x13, x14, x15, x16, x17, x18, x19, x20, x21, x22, x23, x24, x25, a.pending⟩ = a.mask m := by
  unfold State.mask
  congr 1
  case e_trust =>
    rcases h26 with h26 | h26 <;> rcases h23 with h23 | h23
    · simp only [if_pos h26, if_pos h23]
    · by_cases h : m / 2 ^ 23 % 2 = 1
      · simp only [if_pos h26, if_pos h]
      · simp only [if_pos h26, if_neg h]
        rw [← h23]
    · simp only [if_pos h23, h26.1, h26.2]
    · by_cases h : m / 2 ^ 23 % 2 = 1
      · simp only [h26.1, h26.2, if_pos h]
      · simp only [h26.1, h26.2, if_neg h]
        rw [← h23]
  all_goals (split <;> first | rfl | simp_all)

theorem mask_bit (m M k : Nat) (h : M &&& m = m) (hk : m / 2 ^ k % 2 = 1) : M / 2 ^ k % 2 = 1 := by
  have h1 : m.testBit k = true := by rw [Nat.testBit_eq_decide_div_mod_eq]; exact decide_eq_true hk
  have h2 : (M &&& m).testBit k = true := by rw [h]; exact h1
  rw [Nat.testBit_land, Bool.and_eq_true] at h2
  have h3 := h2.1
  rw [Nat.testBit_eq_decide_div_mod_eq] at h3
  exact of_decide_eq_true h3

theorem mask_mask (m M : Nat) (h : M &&& m = m) (s : State) : (s.mask m).mask M = s.mask M := by
  have hb := fun k => mask_bit m M k h
  unfold State.mask
  congr 1
  case e_trust =>
    by_cases h1 : M / 2 ^ 26 % 2 = 1 <;> by_cases h2 : M / 2 ^ 23 % 2 = 1
    · simp only [if_pos h1, if_pos h2]
    · simp only [if_pos h1, if_neg h2, if_neg (fun hm => h2 (hb 23 hm))]
    · simp only [if_pos h2, if_neg h1, if_neg (fun hm => h1 (hb 26 hm))]
    · simp only [if_neg h2, if_neg h1, if_neg (fun hm => h1 (hb 26 hm)), if_neg (fun hm => h2 (hb 23 hm))]
  all_goals (split <;> first | rfl | (rename_i h1; exact if_neg (fun hm => h1 (hb _ hm))))

theorem mask_mono {m M : Nat} {s t : State} (h : t.mask m = s.mask m) (hm : M &&& m = m) : t.mask M = s.mask M := by
  rw [← mask_mask m M hm t, h, mask_mask m M hm s]

theorem and_sub {M m k : Nat} (h : M &&& m = m) (h2 : m &&& k = k) : M &&& k = k := by
  rw [← h2, ← Nat.land_assoc, h]

/-- A command that answers a next state, which differs from `s` in the parts of a mask only. -/
def Keeps (m : Nat) (s : State) (r : Res) : Prop := ∃ t, r = .next t ∧ t.mask m = s.mask m

theorem keeps_next (m : Nat) (s t : State) : Keeps m s (.next t) ↔ t.mask m = s.mask m := by simp [Keeps]
theorem keeps_trans {m : Nat} {s s' : State} {r : Res} (h : Keeps m s' r) (e : s'.mask m = s.mask m) : Keeps m s r := by
  obtain ⟨t, ht, hc⟩ := h
  exact ⟨t, ht, hc.trans e⟩
theorem keeps_mono {m M : Nat} {s : State} {r : Res} (h : Keeps m s r) (hm : M &&& m = m) : Keeps M s r := by
  obtain ⟨t, ht, hc⟩ := h
  exact ⟨t, ht, mask_mono hc hm⟩
theorem keeps_ite (m : Nat) (s : State) (c : Prop) [Decidable c] (a b : Res) :
    Keeps m s (if c then a else b) ↔ (c → Keeps m s a) ∧ (¬ c → Keeps m s b) := by split <;> simp_all
theorem mask_ite (m : Nat) (c : Prop) [Decidable c] (a b : State) :
    (if c then a else b).mask m = if c then a.mask m else b.mask m := by split <;> rfl
theorem mask_ite1 {β : Type} (m : Nat) (c : Prop) [Decidable c] (a b : State × β) :
    (if c then a else b).1.mask m = if c then a.1.mask m else b.1.mask m := by split <;> rfl
theorem mask_foldl {α : Type} (m : Nat) (g : State → α → State) (h : ∀ s x, (g s x).mask m = s.mask m) (l : List α) (s : State) :
    (l.foldl g s).mask m = s.mask m := by
  induction l generalizing s with
  | nil => rfl
  | cons a r ih => simp only [List.foldl_cons]; rw [ih, h]
theorem mask_foldl1 {α β : Type} (m : Nat) (g : State × β → α → State × β) (h : ∀ s x, (g s x).1.mask m = s.1.mask m) (l : List α)
    (s : State × β) : (l.foldl g s).1.mask m = s.1.mask m := by
  induction l generalizing s with
  | nil => rfl
  | cons a r ih => simp only [List.foldl_cons]; rw [ih, h]
theorem mask_foldl2 {α β : Type} (m : Nat) (g : β × State → α → β × State) (h : ∀ s x, (g s x).2.mask m = s.2.mask m) (l : List α)
    (s : β × State) : (l.foldl g s).2.mask m = s.2.mask m := by
  induction l generalizing s with
  | nil => rfl
  | cons a r ih => simp only [List.foldl_cons]; rw [ih, h]

/-- Every part. -/
def Part.every : List Part :=
  [.fuse, .ref, .acyc, .regs, .fields, .links, .pkts, .image, .copy, .pendingImg, .tenant, .staging, .run, .invq, .reports, .log, .rope, .ports, .bcl, .pw, .rst, .dict, .ldg, .trust, .out, .free, .owners]

/-- The bit of a part in a mask. -/
def Part.bit : Part → Nat
  | .fuse => 0
  | .ref => 1
  | .acyc => 2
  | .regs => 3
  | .fields => 4
  | .links => 5
  | .pkts => 6
  | .image => 7
  | .copy => 8
  | .pendingImg => 9
  | .tenant => 10
  | .staging => 11
  | .run => 12
  | .invq => 13
  | .reports => 14
  | .log => 15
  | .rope => 16
  | .ports => 17
  | .bcl => 18
  | .pw => 19
  | .rst => 20
  | .dict => 21
  | .ldg => 22
  | .trust => 23
  | .out => 24
  | .free => 25
  | .owners => 26

/-- Parts whose bit a mask does not have are the same where the masked states are. -/
theorem onlyParts_of_mask (m : Nat) (l : List Part) (s t : State) (h : t.mask m = s.mask m)
    (hl : Part.every.all (fun p => l.contains p || m / 2 ^ p.bit % 2 == 0) = true) : s.onlyParts t l := by
  intro p hp
  have hb : m / 2 ^ p.bit % 2 = 0 := by
    have hm : p ∈ Part.every := by cases p <;> decide
    have h1 := List.all_eq_true.1 hl p hm
    rw [Bool.or_eq_true] at h1
    rcases h1 with h1 | h1
    · exact absurd (List.contains_iff_mem.1 h1) hp
    · exact beq_iff_eq.1 h1
  cases p

  case fuse =>
    have hb : m / 2 ^ 0 % 2 = 0 := hb
    have := congrArg State.fuse h
    simp only [State.mask] at this
    rw [if_neg (fun hh => by rw [hb] at hh; cases hh), if_neg (fun hh => by rw [hb] at hh; cases hh)] at this
    exact this
  case ref =>
    have hb : m / 2 ^ 1 % 2 = 0 := hb
    have := congrArg State.ref h
    simp only [State.mask] at this
    rw [if_neg (fun hh => by rw [hb] at hh; cases hh), if_neg (fun hh => by rw [hb] at hh; cases hh)] at this
    exact this
  case acyc =>
    have hb : m / 2 ^ 2 % 2 = 0 := hb
    have := congrArg State.acyc h
    simp only [State.mask] at this
    rw [if_neg (fun hh => by rw [hb] at hh; cases hh), if_neg (fun hh => by rw [hb] at hh; cases hh)] at this
    exact this
  case regs =>
    have hb : m / 2 ^ 3 % 2 = 0 := hb
    have := congrArg State.regs h
    simp only [State.mask] at this
    rw [if_neg (fun hh => by rw [hb] at hh; cases hh), if_neg (fun hh => by rw [hb] at hh; cases hh)] at this
    exact this
  case fields =>
    have hb : m / 2 ^ 4 % 2 = 0 := hb
    have := congrArg State.fields h
    simp only [State.mask] at this
    rw [if_neg (fun hh => by rw [hb] at hh; cases hh), if_neg (fun hh => by rw [hb] at hh; cases hh)] at this
    exact this
  case links =>
    have hb : m / 2 ^ 5 % 2 = 0 := hb
    have := congrArg State.links h
    simp only [State.mask] at this
    rw [if_neg (fun hh => by rw [hb] at hh; cases hh), if_neg (fun hh => by rw [hb] at hh; cases hh)] at this
    exact this
  case pkts =>
    have hb : m / 2 ^ 6 % 2 = 0 := hb
    have := congrArg State.pkts h
    simp only [State.mask] at this
    rw [if_neg (fun hh => by rw [hb] at hh; cases hh), if_neg (fun hh => by rw [hb] at hh; cases hh)] at this
    exact this
  case image =>
    have hb : m / 2 ^ 7 % 2 = 0 := hb
    have := congrArg State.image h
    simp only [State.mask] at this
    rw [if_neg (fun hh => by rw [hb] at hh; cases hh), if_neg (fun hh => by rw [hb] at hh; cases hh)] at this
    exact this
  case copy =>
    have hb : m / 2 ^ 8 % 2 = 0 := hb
    have := congrArg State.copy h
    simp only [State.mask] at this
    rw [if_neg (fun hh => by rw [hb] at hh; cases hh), if_neg (fun hh => by rw [hb] at hh; cases hh)] at this
    exact this
  case pendingImg =>
    have hb : m / 2 ^ 9 % 2 = 0 := hb
    have := congrArg State.pendingImg h
    simp only [State.mask] at this
    rw [if_neg (fun hh => by rw [hb] at hh; cases hh), if_neg (fun hh => by rw [hb] at hh; cases hh)] at this
    exact this
  case tenant =>
    have hb : m / 2 ^ 10 % 2 = 0 := hb
    have := congrArg State.tenant h
    simp only [State.mask] at this
    rw [if_neg (fun hh => by rw [hb] at hh; cases hh), if_neg (fun hh => by rw [hb] at hh; cases hh)] at this
    exact this
  case staging =>
    have hb : m / 2 ^ 11 % 2 = 0 := hb
    have := congrArg State.staging h
    simp only [State.mask] at this
    rw [if_neg (fun hh => by rw [hb] at hh; cases hh), if_neg (fun hh => by rw [hb] at hh; cases hh)] at this
    exact this
  case run =>
    have hb : m / 2 ^ 12 % 2 = 0 := hb
    have := congrArg State.run h
    simp only [State.mask] at this
    rw [if_neg (fun hh => by rw [hb] at hh; cases hh), if_neg (fun hh => by rw [hb] at hh; cases hh)] at this
    exact this
  case invq =>
    have hb : m / 2 ^ 13 % 2 = 0 := hb
    have := congrArg State.invq h
    simp only [State.mask] at this
    rw [if_neg (fun hh => by rw [hb] at hh; cases hh), if_neg (fun hh => by rw [hb] at hh; cases hh)] at this
    exact this
  case reports =>
    have hb : m / 2 ^ 14 % 2 = 0 := hb
    have := congrArg State.reports h
    simp only [State.mask] at this
    rw [if_neg (fun hh => by rw [hb] at hh; cases hh), if_neg (fun hh => by rw [hb] at hh; cases hh)] at this
    exact this
  case log =>
    have hb : m / 2 ^ 15 % 2 = 0 := hb
    have := congrArg State.log h
    simp only [State.mask] at this
    rw [if_neg (fun hh => by rw [hb] at hh; cases hh), if_neg (fun hh => by rw [hb] at hh; cases hh)] at this
    exact this
  case rope =>
    have hb : m / 2 ^ 16 % 2 = 0 := hb
    have := congrArg State.rope h
    simp only [State.mask] at this
    rw [if_neg (fun hh => by rw [hb] at hh; cases hh), if_neg (fun hh => by rw [hb] at hh; cases hh)] at this
    exact this
  case ports =>
    have hb : m / 2 ^ 17 % 2 = 0 := hb
    have := congrArg State.ports h
    simp only [State.mask] at this
    rw [if_neg (fun hh => by rw [hb] at hh; cases hh), if_neg (fun hh => by rw [hb] at hh; cases hh)] at this
    exact this
  case bcl =>
    have hb : m / 2 ^ 18 % 2 = 0 := hb
    have := congrArg State.bcl h
    simp only [State.mask] at this
    rw [if_neg (fun hh => by rw [hb] at hh; cases hh), if_neg (fun hh => by rw [hb] at hh; cases hh)] at this
    exact this
  case pw =>
    have hb : m / 2 ^ 19 % 2 = 0 := hb
    have := congrArg State.pw h
    simp only [State.mask] at this
    rw [if_neg (fun hh => by rw [hb] at hh; cases hh), if_neg (fun hh => by rw [hb] at hh; cases hh)] at this
    exact this
  case rst =>
    have hb : m / 2 ^ 20 % 2 = 0 := hb
    have := congrArg State.rst h
    simp only [State.mask] at this
    rw [if_neg (fun hh => by rw [hb] at hh; cases hh), if_neg (fun hh => by rw [hb] at hh; cases hh)] at this
    exact this
  case dict =>
    have hb : m / 2 ^ 21 % 2 = 0 := hb
    have := congrArg State.dict h
    simp only [State.mask] at this
    rw [if_neg (fun hh => by rw [hb] at hh; cases hh), if_neg (fun hh => by rw [hb] at hh; cases hh)] at this
    exact this
  case ldg =>
    have hb : m / 2 ^ 22 % 2 = 0 := hb
    have := congrArg State.ldg h
    simp only [State.mask] at this
    rw [if_neg (fun hh => by rw [hb] at hh; cases hh), if_neg (fun hh => by rw [hb] at hh; cases hh)] at this
    exact this
  case out =>
    have hb : m / 2 ^ 24 % 2 = 0 := hb
    have := congrArg State.out h
    simp only [State.mask] at this
    rw [if_neg (fun hh => by rw [hb] at hh; cases hh), if_neg (fun hh => by rw [hb] at hh; cases hh)] at this
    exact this
  case free =>
    have hb : m / 2 ^ 25 % 2 = 0 := hb
    have := congrArg State.free h
    simp only [State.mask] at this
    rw [if_neg (fun hh => by rw [hb] at hh; cases hh), if_neg (fun hh => by rw [hb] at hh; cases hh)] at this
    exact this
  case trust =>
    have hb : m / 2 ^ 23 % 2 = 0 := hb
    have e := congrArg State.trust h
    simp only [State.mask, if_neg (show ¬ m / 2 ^ 23 % 2 = 1 by omega)] at e
    have e2 := congrArg (fun x : Trust => ({ x with slots := s.trust.slots, ctr := s.trust.ctr } : Trust)) e
    exact e2
  case owners =>
    have hb : m / 2 ^ 26 % 2 = 0 := hb
    have e := congrArg State.trust h
    simp only [State.mask, if_neg (show ¬ m / 2 ^ 26 % 2 = 1 by omega)] at e
    have h1 := congrArg Trust.slots e
    have h2 := congrArg Trust.ctr e
    exact ⟨h1, h2⟩

end Sys2Proof.Machine
end

