-- ==== Sys2Proof/Laws/PartsArray.lean ====
section
/-!
SUPPORT. Sys2Proof/Laws/PartsArray.lean: the parts of the state that each operation and each meaning may change: tiles, both fabrics and sections.
-/

set_option Elab.async false

namespace Sys2Proof.Machine

theorem State.setReg_parts {M : Nat} (s : State) (f : Fld) (v : Nat) (i : Nat) (j : Nat) (hM : M &&& 8 = 8 := by decide) :
    (State.setReg s f v i j).mask M = s.mask M := by
  refine mask_mono (m := 8) ?_ hM
  simp only [State.setReg, mask_upd, and_self, true_or, or_true, Nat.reducePow, Nat.reduceDiv, Nat.reduceMod]

theorem State.satReg_parts {M : Nat} (s : State) (f : Fld) (i : Nat) (n : Nat) (hM : M &&& 8 = 8 := by decide) :
    (State.satReg s f i n).mask M = s.mask M := by
  refine mask_mono (m := 8) ?_ hM
  simp only [State.satReg, State.setReg_parts, Nat.reduceAnd]

theorem State.addReg_parts {M : Nat} (s : State) (f : Fld) (i : Nat) (n : Nat) (hM : M &&& 8 = 8 := by decide) :
    (State.addReg s f i n).mask M = s.mask M := by
  refine mask_mono (m := 8) ?_ hM
  simp only [State.addReg, State.setReg_parts, Nat.reduceAnd]

theorem State.emit_parts {M : Nat} (s : State) (c : Chan) (port tag : Nat) (body : List Nat) (hM : M &&& 16777216 = 16777216 := by decide) :
    (State.emit s c port tag body).mask M = s.mask M := by
  refine mask_mono (m := 16777216) ?_ hM
  simp only [State.emit, mask_upd, and_self, true_or, or_true, Nat.reducePow, Nat.reduceDiv, Nat.reduceMod]

theorem State.tick_parts {M : Nat} (s : State) (hM : M &&& 2 = 2 := by decide) :
    (State.tick s).mask M = s.mask M := by
  refine mask_mono (m := 2) ?_ hM
  simp only [State.tick, mask_upd, and_self, true_or, or_true, Nat.reducePow, Nat.reduceDiv, Nat.reduceMod]

theorem State.fresh_parts {M : Nat} (s : State) (hM : M &&& 33554432 = 33554432 := by decide) :
    (State.fresh s).2.mask M = s.mask M := by
  refine mask_mono (m := 33554432) ?_ hM
  simp only [State.fresh, mask_upd, and_self, true_or, or_true, Nat.reducePow, Nat.reduceDiv, Nat.reduceMod]

theorem State.cmd_parts {M : Nat} (s : State) (st op : Fld) (status code : Nat) (i : Nat) (hM : M &&& 8 = 8 := by decide) :
    (State.cmd s st op status code i).mask M = s.mask M := by
  refine mask_mono (m := 8) ?_ hM
  simp only [State.cmd, State.setReg_parts, Nat.reduceAnd]

theorem State.setOd_parts {M : Nat} (s : State) (ix sub v : Nat) (hM : M &&& 2097152 = 2097152 := by decide) :
    (State.setOd s ix sub v).mask M = s.mask M := by
  refine mask_mono (m := 2097152) ?_ hM
  simp only [State.setOd, mask_upd, and_self, true_or, or_true, Nat.reducePow, Nat.reduceDiv, Nat.reduceMod]

theorem State.updField_parts {M : Nat} (s : State) (f : Nat) (g : FieldSt → FieldSt) (hM : M &&& 16 = 16 := by decide) :
    (State.updField s f g).mask M = s.mask M := by
  refine mask_mono (m := 16) ?_ hM
  simp only [State.updField, mask_upd, and_self, true_or, or_true, Nat.reducePow, Nat.reduceDiv, Nat.reduceMod]

theorem State.setTile_parts {M : Nat} (s : State) (f key : Nat) (t : Tile) (hM : M &&& 16 = 16 := by decide) :
    (State.setTile s f key t).mask M = s.mask M := by
  refine mask_mono (m := 16) ?_ hM
  simp only [State.setTile, State.updField_parts, Nat.reduceAnd]

theorem State.mapTiles_parts {M : Nat} (s : State) (f : Nat) (g : Tile → Tile) (hM : M &&& 16 = 16 := by decide) :
    (State.mapTiles s f g).mask M = s.mask M := by
  refine mask_mono (m := 16) ?_ hM
  simp only [State.mapTiles, State.updField_parts, Nat.reduceAnd]

theorem State.mapFields_parts {M : Nat} (s : State) (fs : List Nat) (g : Tile → Tile) (hM : M &&& 16 = 16 := by decide) :
    (State.mapFields s fs g).mask M = s.mask M := by
  refine mask_mono (m := 16) ?_ hM
  simp only [State.mapFields, State.mapTiles_parts, mask_foldl, implies_true, Nat.reduceAnd]

theorem State.seamRegs_parts {M : Nat} (s : State) (f : Nat) (hM : M &&& 8 = 8 := by decide) :
    (State.seamRegs s f).mask M = s.mask M := by
  refine mask_mono (m := 8) ?_ hM
  simp only [State.seamRegs, State.setReg_parts, Nat.reduceAnd]

theorem State.alignSeams_parts {M : Nat} (s : State) (f : Nat) (hM : M &&& 8 = 8 := by decide) :
    (State.alignSeams s f).mask M = s.mask M := by
  refine mask_mono (m := 8) ?_ hM
  simp only [State.alignSeams, State.seamRegs_parts, State.setReg_parts, mask_ite, ite_self, Nat.reduceAnd]

theorem State.clearTel_parts {M : Nat} (s : State) (f : Nat) (hM : M &&& 24 = 24 := by decide) :
    (State.clearTel s f).mask M = s.mask M := by
  refine mask_mono (m := 24) ?_ hM
  simp only [State.clearTel, State.mapTiles_parts, State.setReg_parts, State.updField_parts, Nat.reduceAnd]

theorem State.clearsDue_parts {M : Nat} (s : State) (t : Nat) (hM : M &&& 24 = 24 := by decide) :
    (State.clearsDue s t).mask M = s.mask M := by
  refine mask_mono (m := 24) ?_ hM
  simp only [State.clearsDue, State.clearTel_parts, mask_foldl, implies_true, Nat.reduceAnd]

theorem State.advance_parts {M : Nat} (s : State) (t : Nat) (hM : M &&& 28 = 28 := by decide) :
    (State.advance s t).mask M = s.mask M := by
  refine mask_mono (m := 28) ?_ hM
  simp only [State.advance, State.addReg_parts, State.clearsDue_parts, mask_upd, mask_ite, ite_self, mask_foldl, implies_true, and_self, true_or, or_true, Nat.reducePow, Nat.reduceDiv, Nat.reduceMod, Nat.reduceAnd]

theorem State.report_parts {M : Nat} (s : State) (r : Report) (hM : M &&& 16408 = 16408 := by decide) :
    (State.report s r).mask M = s.mask M := by
  refine mask_mono (m := 16408) ?_ hM
  simp only [State.report, State.satReg_parts, State.updField_parts, mask_upd, mask_ite, ite_self, and_self, true_or, or_true, Nat.reducePow, Nat.reduceDiv, Nat.reduceMod, Nat.reduceAnd]

theorem State.collect_parts {M : Nat} (s : State) (f code lxy : Nat) (hM : M &&& 8 = 8 := by decide) :
    (State.collect s f code lxy).mask M = s.mask M := by
  refine mask_mono (m := 8) ?_ hM
  simp only [State.collect, State.satReg_parts, State.setReg_parts, mask_ite, ite_self, Nat.reduceAnd]

theorem State.invalidate_parts {M : Nat} (s : State) (hM : M &&& 4096 = 4096 := by decide) :
    (State.invalidate s).mask M = s.mask M := by
  refine mask_mono (m := 4096) ?_ hM
  simp only [State.invalidate, mask_upd, and_self, true_or, or_true, Nat.reducePow, Nat.reduceDiv, Nat.reduceMod]

theorem State.moduleFault_parts {M : Nat} (s : State) (subject code field detail : Nat) (trig : Bool) (hM : M &&& 16408 = 16408 := by decide) :
    (State.moduleFault s subject code field detail trig).mask M = s.mask M := by
  refine mask_mono (m := 16408) ?_ hM
  simp only [State.moduleFault, State.report_parts, Nat.reduceAnd]

theorem State.fieldFault_parts {M : Nat} (s : State) (f code : Nat) (hM : M &&& 20504 = 20504 := by decide) :
    (State.fieldFault s f code).mask M = s.mask M := by
  refine mask_mono (m := 20504) ?_ hM
  simp only [State.fieldFault, State.invalidate_parts, State.moduleFault_parts, Nat.reduceAnd]

theorem State.tileReport_parts {M : Nat} (s : State) (f key code acyc : Nat) (trig : Bool) (hM : M &&& 16408 = 16408 := by decide) :
    (State.tileReport s f key code acyc trig).mask M = s.mask M := by
  refine mask_mono (m := 16408) ?_ hM
  simp only [State.tileReport, State.collect_parts, State.report_parts, Nat.reduceAnd]

theorem State.stackUe_parts {M : Nat} (s : State) (f key a : Nat) (sched : Bool) (hM : M &&& 4194328 = 4194328 := by decide) :
    (State.stackUe s f key a sched).1.mask M = s.mask M := by
  refine mask_mono (m := 4194328) ?_ hM
  simp only [State.stackUe, State.satReg_parts, State.setReg_parts, State.setTile_parts, mask_upd, mask_ite, ite_self, and_self, true_or, or_true, Nat.reducePow, Nat.reduceDiv, Nat.reduceMod, Nat.reduceAnd]

theorem State.foundUe_parts {M : Nat} (s : State) (f key a : Nat) (hM : M &&& 4210712 = 4210712 := by decide) :
    (State.foundUe s f key a).mask M = s.mask M := by
  refine mask_mono (m := 4210712) ?_ hM
  unfold State.foundUe
  exact (State.tileReport_parts ..).trans ((State.stackUe_parts ..).trans (State.setTile_parts ..))

theorem State.noteStack_parts {M : Nat} (s : State) (f key a n : Nat) (hM : M &&& 4210712 = 4210712 := by decide) :
    (State.noteStack s f key a n).mask M = s.mask M := by
  refine mask_mono (m := 4210712) ?_ hM
  simp only [State.noteStack, State.foundUe_parts, State.satReg_parts, State.setTile_parts, mask_ite, ite_self, mask_foldl, implies_true, Nat.reduceAnd]

theorem State.reloadLost_parts {M : Nat} (s : State) (f key : Nat) (lost : List Nat) (hM : M &&& 16 = 16 := by decide) :
    (State.reloadLost s f key lost).mask M = s.mask M := by
  refine mask_mono (m := 16) ?_ hM
  unfold State.reloadLost; (repeat' split) <;> simp only [State.setTile_parts, Nat.reduceAnd]

theorem State.drive_parts {M : Nat} (s : State) (x y now : Nat) (o : Nat) (tok : Tok) (hM : M &&& 131104 = 131104 := by decide) :
    (State.drive s x y now o tok).mask M = s.mask M := by
  refine mask_mono (m := 131104) ?_ hM
  unfold State.drive; (repeat' split) <;> simp only [mask_upd, and_self, true_or, or_true, Nat.reducePow, Nat.reduceDiv, Nat.reduceMod]

theorem State.countBeats_parts {M : Nat} (s : State) (f now n : Nat) (hM : M &&& 20504 = 20504 := by decide) :
    (State.countBeats s f now n).mask M = s.mask M := by
  refine mask_mono (m := 20504) ?_ hM
  simp only [State.countBeats, State.fieldFault_parts, State.satReg_parts, State.setReg_parts, State.updField_parts, mask_ite, ite_self, Nat.reduceAnd]

theorem State.refreshStep_parts {M : Nat} (s : State) (f : Nat) (hM : M &&& 24 = 24 := by decide) :
    (State.refreshStep s f).mask M = s.mask M := by
  refine mask_mono (m := 24) ?_ hM
  simp only [State.refreshStep, State.setReg_parts, State.updField_parts, Nat.reduceAnd]

theorem State.stopLive_parts {M : Nat} (s : State) (f : Nat) (hM : M &&& 24 = 24 := by decide) :
    (State.stopLive s f).mask M = s.mask M := by
  refine mask_mono (m := 24) ?_ hM
  simp only [State.stopLive, State.refreshStep_parts, State.setReg_parts, State.updField_parts, mask_ite, ite_self, Nat.reduceAnd]

theorem State.absorb_parts {M : Nat} (s : State) (f key : Nat) (w : TW) (hM : M &&& 4345976 = 4345976 := by decide) :
    (State.absorb s f key w).mask M = s.mask M := by
  refine mask_mono (m := 4345976) ?_ hM
  simp only [State.absorb, State.countBeats_parts, State.drive_parts, State.invalidate_parts, State.satReg_parts, State.setTile_parts, State.stackUe_parts, State.tileReport_parts, mask_upd, mask_ite, ite_self, mask_foldl, mask_foldl1, implies_true, and_self, true_or, or_true, Nat.reducePow, Nat.reduceDiv, Nat.reduceMod, Nat.reduceAnd]

theorem State.atTile_parts {M : Nat} (s : State) (a : Nat) (g : State → Nat → Nat → TPos → Tile → TW) (hM : M &&& 4345976 = 4345976 := by decide) :
    (State.atTile s a g).mask M = s.mask M := by
  refine mask_mono (m := 4345976) ?_ hM
  unfold State.atTile; (repeat' split) <;> simp only [State.absorb_parts, Nat.reduceAnd]

theorem State.atTile'_parts {M : Nat} (s : State) (a : Nat) (g : TPos → Tile → Tile) (hM : M &&& 4345976 = 4345976 := by decide) :
    (State.atTile' s a g).mask M = s.mask M := by
  refine mask_mono (m := 4345976) ?_ hM
  simp only [State.atTile', State.atTile_parts, Nat.reduceAnd]

theorem State.land_parts {M : Nat} (s : State) (a : Nat) (hM : M &&& 4345976 = 4345976 := by decide) :
    (State.land s a).mask M = s.mask M := by
  refine mask_mono (m := 4345976) ?_ hM
  simp only [State.land, State.atTile'_parts, Nat.reduceAnd]

theorem execNextBufferWrite_parts {M : Nat} (a : Addr) (s : State) (hM : M &&& 4345976 = 4345976 := by decide) :
    Keeps M s (execNextBufferWrite a s) := by
  refine keeps_mono (m := 4345976) ?_ hM
  simp only [execNextBufferWrite, keeps_next, State.land_parts, Nat.reduceAnd]

theorem execVuResultLanding_parts {M : Nat} (a : Addr) (s : State) (hM : M &&& 4345976 = 4345976 := by decide) :
    Keeps M s (execVuResultLanding a s) := by
  refine keeps_mono (m := 4345976) ?_ hM
  simp only [execVuResultLanding, keeps_next, State.land_parts, Nat.reduceAnd]

theorem execInjectAvailable_parts {M : Nat} (a : Addr) (s : State) (hM : M &&& 4345976 = 4345976 := by decide) :
    Keeps M s (execInjectAvailable a s) := by
  refine keeps_mono (m := 4345976) ?_ hM
  simp only [execInjectAvailable, keeps_next, State.land_parts, Nat.reduceAnd]

theorem execSrdLanding_parts {M : Nat} (a : Addr) (s : State) (hM : M &&& 4345976 = 4345976 := by decide) :
    Keeps M s (execSrdLanding a s) := by
  refine keeps_mono (m := 4345976) ?_ hM
  simp only [execSrdLanding, keeps_next, State.land_parts, Nat.reduceAnd]

theorem execSldLanding_parts {M : Nat} (a : Addr) (s : State) (hM : M &&& 4345976 = 4345976 := by decide) :
    Keeps M s (execSldLanding a s) := by
  refine keeps_mono (m := 4345976) ?_ hM
  simp only [execSldLanding, keeps_next, State.land_parts, Nat.reduceAnd]

theorem execArmedStart_parts {M : Nat} (a : Addr) (s : State) (hM : M &&& 4345976 = 4345976 := by decide) :
    Keeps M s (execArmedStart a s) := by
  refine keeps_mono (m := 4345976) ?_ hM
  simp only [execArmedStart, keeps_next, State.land_parts, Nat.reduceAnd]

theorem State.intrude_parts {M : Nat} (s : State) (f a : Nat) (hM : M &&& 20504 = 20504 := by decide) :
    (State.intrude s f a).mask M = s.mask M := by
  refine mask_mono (m := 20504) ?_ hM
  simp only [State.intrude, State.collect_parts, State.invalidate_parts, State.report_parts, State.satReg_parts, mask_ite, ite_self, Nat.reduceAnd]

theorem State.arriveWord_parts {M : Nat} (s : State) (l : LinkWord) (hop : BitVec 80) (late : Bool) (hM : M &&& 4345976 = 4345976 := by decide) :
    (State.arriveWord s l hop late).mask M = s.mask M := by
  refine mask_mono (m := 4345976) ?_ hM
  unfold State.arriveWord
  cases s.locate l.dest with
  | none => rfl
  | some e =>
    dsimp only
    split
    · exact State.intrude_parts ..
    · split
      · rfl
      · split
        · refine (State.absorb_parts ..).trans ?_
          split <;> exact State.satReg_parts ..
        · exact State.absorb_parts ..

theorem State.arriveDue_parts {M : Nat} (s : State) (a now : Nat) (hM : M &&& 4345976 = 4345976 := by decide) :
    (State.arriveDue s a now).mask M = s.mask M := by
  refine mask_mono (m := 4345976) ?_ hM
  simp only [State.arriveDue, State.arriveWord_parts, mask_upd, mask_foldl, implies_true, and_self, true_or, or_true, Nat.reducePow, Nat.reduceDiv, Nat.reduceMod, Nat.reduceAnd]

theorem execWordArrival_parts {M : Nat} (a : Addr) (port : Fin 8) (hop : BitVec 80) (late : Bool) (s : State) (hM : M &&& 4345976 = 4345976 := by decide) :
    Keeps M s (execWordArrival a port hop late s) := by
  refine keeps_mono (m := 4345976) ?_ hM
  unfold execWordArrival
  cases takeFirst (fun l => l.dest = a.toNat && l.port = port.val && s.mayArrive l) s.links with
  | none => exact (keeps_next _ _ _).2 rfl
  | some e => exact (keeps_next _ _ _).2 (State.arriveWord_parts ..)

theorem execBundleIssue_parts {M : Nat} (a : Addr) (ups : List Upset) (s : State) (hM : M &&& 4345980 = 4345980 := by decide) :
    Keeps M s (execBundleIssue a ups s) := by
  refine keeps_mono (m := 4345980) ?_ hM
  unfold execBundleIssue; (repeat' split) <;> simp only [keeps_next, keeps_ite, State.absorb_parts, State.advance_parts, State.arriveDue_parts, implies_true, and_self, Nat.reduceAnd]

theorem State.seqCmd_parts {M : Nat} (s : State) (a : Nat) (g : Tile → Tile) (hM : M &&& 4345976 = 4345976 := by decide) :
    (State.seqCmd s a g).mask M = s.mask M := by
  refine mask_mono (m := 4345976) ?_ hM
  simp only [State.seqCmd, State.atTile_parts, Nat.reduceAnd]

theorem State.coreWork_parts {M : Nat} (s : State) (a : Nat) (g : State → Nat → TPos → TW → TW) (hM : M &&& 4345976 = 4345976 := by decide) :
    (State.coreWork s a g).mask M = s.mask M := by
  refine mask_mono (m := 4345976) ?_ hM
  simp only [State.coreWork, State.atTile_parts, Nat.reduceAnd]

theorem execArm_parts {M : Nat} (a : Addr) (s : State) (hM : M &&& 4345976 = 4345976 := by decide) :
    Keeps M s (execArm a s) := by
  refine keeps_mono (m := 4345976) ?_ hM
  simp only [execArm, keeps_next, State.atTile_parts, Nat.reduceAnd]

theorem execHalt_parts {M : Nat} (a : Addr) (s : State) (hM : M &&& 4345976 = 4345976 := by decide) :
    Keeps M s (execHalt a s) := by
  refine keeps_mono (m := 4345976) ?_ hM
  simp only [execHalt, keeps_next, State.seqCmd_parts, Nat.reduceAnd]

theorem execScrub_parts {M : Nat} (a : Addr) (s : State) (hM : M &&& 4345976 = 4345976 := by decide) :
    Keeps M s (execScrub a s) := by
  refine keeps_mono (m := 4345976) ?_ hM
  simp only [execScrub, keeps_next, State.coreWork_parts, Nat.reduceAnd]

theorem execZeroize_parts {M : Nat} (a : Addr) (s : State) (hM : M &&& 4345976 = 4345976 := by decide) :
    Keeps M s (execZeroize a s) := by
  refine keeps_mono (m := 4345976) ?_ hM
  simp only [execZeroize, keeps_next, State.coreWork_parts, Nat.reduceAnd]

theorem execScrubDone_parts {M : Nat} (a : Addr) (ups : List Upset) (s : State) (hM : M &&& 4345976 = 4345976 := by decide) :
    Keeps M s (execScrubDone a ups s) := by
  refine keeps_mono (m := 4345976) ?_ hM
  unfold execScrubDone; (repeat' split) <;> simp only [keeps_next, State.coreWork_parts, State.reloadLost_parts, mask_ite, ite_self, Nat.reduceAnd]

theorem execRun_parts {M : Nat} (a : Addr) (s : State) (hM : M &&& 4345976 = 4345976 := by decide) :
    Keeps M s (execRun a s) := by
  refine keeps_mono (m := 4345976) ?_ hM
  simp only [execRun, keeps_next, State.coreWork_parts, Nat.reduceAnd]

theorem execCcHalt_parts {M : Nat} (a : Addr) (s : State) (hM : M &&& 4345976 = 4345976 := by decide) :
    Keeps M s (execCcHalt a s) := by
  refine keeps_mono (m := 4345976) ?_ hM
  simp only [execCcHalt, keeps_next, State.coreWork_parts, Nat.reduceAnd]

theorem execRestart_parts {M : Nat} (a : Addr) (s : State) (hM : M &&& 4345976 = 4345976 := by decide) :
    Keeps M s (execRestart a s) := by
  refine keeps_mono (m := 4345976) ?_ hM
  simp only [execRestart, keeps_next, State.coreWork_parts, Nat.reduceAnd]

theorem execCcDispatch_parts {M : Nat} (a : Addr) (s : State) (hM : M &&& 4345976 = 4345976 := by decide) :
    Keeps M s (execCcDispatch a s) := by
  refine keeps_mono (m := 4345976) ?_ hM
  simp only [execCcDispatch, keeps_next, State.coreWork_parts, Nat.reduceAnd]

theorem execCoreInstruction_parts {M : Nat} (a : Addr) (s : State) (hM : M &&& 4345976 = 4345976 := by decide) :
    Keeps M s (execCoreInstruction a s) := by
  refine keeps_mono (m := 4345976) ?_ hM
  simp only [execCoreInstruction, keeps_next, State.coreWork_parts, Nat.reduceAnd]

theorem execTsSend_parts {M : Nat} (a : Addr) (s : State) (hM : M &&& 4345976 = 4345976 := by decide) :
    Keeps M s (execTsSend a s) := by
  refine keeps_mono (m := 4345976) ?_ hM
  simp only [execTsSend, keeps_next, State.coreWork_parts, Nat.reduceAnd]

theorem execTsReply_parts {M : Nat} (a : Addr) (stuck : Bool) (s : State) (hM : M &&& 4345976 = 4345976 := by decide) :
    Keeps M s (execTsReply a stuck s) := by
  refine keeps_mono (m := 4345976) ?_ hM
  simp only [execTsReply, keeps_next, State.coreWork_parts, Nat.reduceAnd]

theorem execTsYield_parts {M : Nat} (a : Addr) (s : State) (hM : M &&& 4345976 = 4345976 := by decide) :
    Keeps M s (execTsYield a s) := by
  refine keeps_mono (m := 4345976) ?_ hM
  simp only [execTsYield, keeps_next, State.coreWork_parts, Nat.reduceAnd]

theorem execTsCppost_parts {M : Nat} (a : Addr) (s : State) (hM : M &&& 4345976 = 4345976 := by decide) :
    Keeps M s (execTsCppost a s) := by
  refine keeps_mono (m := 4345976) ?_ hM
  simp only [execTsCppost, keeps_next, State.coreWork_parts, Nat.reduceAnd]

theorem execTsHget_parts {M : Nat} (a : Addr) (s : State) (hM : M &&& 4345976 = 4345976 := by decide) :
    Keeps M s (execTsHget a s) := by
  refine keeps_mono (m := 4345976) ?_ hM
  simp only [execTsHget, keeps_next, State.coreWork_parts, Nat.reduceAnd]

theorem execTsHset_parts {M : Nat} (a : Addr) (s : State) (hM : M &&& 4345976 = 4345976 := by decide) :
    Keeps M s (execTsHset a s) := by
  refine keeps_mono (m := 4345976) ?_ hM
  simp only [execTsHset, keeps_next, State.coreWork_parts, Nat.reduceAnd]

theorem State.served_parts {M : Nat} (s : State) (f n : Nat) (hM : M &&& 16 = 16 := by decide) :
    (State.served s f n).mask M = s.mask M := by
  refine mask_mono (m := 16) ?_ hM
  simp only [State.served, State.updField_parts, Nat.reduceAnd]

theorem State.coreAccess_parts {M : Nat} (s : State) (a f3 n : Nat) (g : TW → TW) (hM : M &&& 4345976 = 4345976 := by decide) :
    (State.coreAccess s a f3 n g).mask M = s.mask M := by
  refine mask_mono (m := 4345976) ?_ hM
  unfold State.coreAccess; (repeat' split) <;> simp only [State.coreWork_parts, State.served_parts, State.updField_parts, mask_ite, ite_self, Nat.reduceAnd]

theorem execTsHld_parts {M : Nat} (a : Addr) (ups : List Upset) (s : State) (hM : M &&& 4345976 = 4345976 := by decide) :
    Keeps M s (execTsHld a ups s) := by
  refine keeps_mono (m := 4345976) ?_ hM
  simp only [execTsHld, keeps_next, State.coreAccess_parts, Nat.reduceAnd]

theorem execTsHst_parts {M : Nat} (a : Addr) (ups : List Upset) (s : State) (hM : M &&& 4345976 = 4345976 := by decide) :
    Keeps M s (execTsHst a ups s) := by
  refine keeps_mono (m := 4345976) ?_ hM
  simp only [execTsHst, keeps_next, State.coreAccess_parts, Nat.reduceAnd]

theorem State.toBaseCamp_parts {M : Nat} (s : State) (p : Packet) (hM : M &&& 16777216 = 16777216 := by decide) :
    (State.toBaseCamp s p).mask M = s.mask M := by
  refine mask_mono (m := 16777216) ?_ hM
  simp only [State.toBaseCamp, State.emit_parts, Nat.reduceAnd]

theorem State.wrapperAnswer_parts {M : Nat} (s : State) (at_ : Nat) (p : Packet) (hM : M &&& 4345976 = 4345976 := by decide) :
    (State.wrapperAnswer s at_ p).mask M = s.mask M := by
  refine mask_mono (m := 4345976) ?_ hM
  simp only [State.wrapperAnswer, State.atTile'_parts, State.satReg_parts, mask_upd, mask_ite, ite_self, and_self, true_or, or_true, Nat.reducePow, Nat.reduceDiv, Nat.reduceMod, Nat.reduceAnd]

theorem State.decodeAt_parts {M : Nat} (s : State) (b : Nat) (errs : List (BitVec 80)) (hM : M &&& 4345976 = 4345976 := by decide) :
    (State.decodeAt s b errs).1.mask M = s.mask M := by
  refine mask_mono (m := 4345976) ?_ hM
  simp only [State.decodeAt, State.atTile_parts, mask_ite1, ite_self, Nat.reduceAnd]

theorem State.serveAgent_parts {M : Nat} (s : State) (p : Packet) (hM : M &&& 4345976 = 4345976 := by decide) :
    (State.serveAgent s p).mask M = s.mask M := by
  refine mask_mono (m := 4345976) ?_ hM
  simp only [State.serveAgent, State.atTile_parts, Nat.reduceAnd]

theorem State.hop_parts {M : Nat} (s : State) (x : Flight) (k : Nat) (errs : List (BitVec 80)) (hM : M &&& 21123192 = 21123192 := by decide) :
    (State.hop s x k errs).mask M = s.mask M := by
  refine mask_mono (m := 21123192) ?_ hM
  unfold State.hop; (repeat' split) <;> simp only [State.decodeAt_parts, State.serveAgent_parts, State.toBaseCamp_parts, State.wrapperAnswer_parts, mask_upd, mask_ite, ite_self, and_self, true_or, or_true, Nat.reducePow, Nat.reduceDiv, Nat.reduceMod, Nat.reduceAnd]

theorem execPacketHop_parts {M : Nat} (k : Nat) (errs : List (BitVec 80)) (s : State) (hM : M &&& 21123192 = 21123192 := by decide) :
    Keeps M s (execPacketHop k errs s) := by
  refine keeps_mono (m := 21123192) ?_ hM
  unfold execPacketHop; (repeat' split) <;> simp only [keeps_next, State.hop_parts, Nat.reduceAnd]

theorem takePkt_parts {s s' : State} {k : Nat} {x : Flight} {M : Nat} (h : s.takePkt k = some (x, s')) (hM : M &&& 64 = 64 := by decide) : s'.mask M = s.mask M := by
  unfold State.takePkt at h
  refine mask_mono (m := 64) ?_ hM
  split at h
  · cases h
  · split at h
    · cases h; exact mask_upd ..
    · cases h

theorem State.deliver_parts {M : Nat} (s : State) (k : Nat) (ok : Packet → Bool) (g : State → Nat → Packet → TW → TW) (hM : M &&& 4345976 = 4345976 := by decide) :
    (State.deliver s k ok g).mask M = s.mask M := by
  refine mask_mono (m := 4345976) ?_ hM
  unfold State.deliver
  cases h : s.takePkt k with
  | none => rfl
  | some e =>
    have h' := takePkt_parts (M := 4345976) (x := e.1) (s' := e.2) h
    dsimp only
    split
    · rfl
    · split
      · exact (State.wrapperAnswer_parts ..).trans h'
      · exact (State.atTile_parts ..).trans h'

theorem execUnicast_parts {M : Nat} (k : Nat) (s : State) (hM : M &&& 4345976 = 4345976 := by decide) :
    Keeps M s (execUnicast k s) := by
  refine keeps_mono (m := 4345976) ?_ hM
  exact (keeps_next _ _ _).2 (State.deliver_parts ..)

theorem execAck_parts {M : Nat} (k : Nat) (s : State) (hM : M &&& 4345976 = 4345976 := by decide) :
    Keeps M s (execAck k s) := by
  refine keeps_mono (m := 4345976) ?_ hM
  simp only [execAck, keeps_next, State.deliver_parts, Nat.reduceAnd]

theorem execBusy_parts {M : Nat} (k : Nat) (s : State) (hM : M &&& 4345976 = 4345976 := by decide) :
    Keeps M s (execBusy k s) := by
  refine keeps_mono (m := 4345976) ?_ hM
  simp only [execBusy, keeps_next, State.deliver_parts, Nat.reduceAnd]

theorem execReply_parts {M : Nat} (k : Nat) (s : State) (hM : M &&& 4345976 = 4345976 := by decide) :
    Keeps M s (execReply k s) := by
  refine keeps_mono (m := 4345976) ?_ hM
  simp only [execReply, keeps_next, State.deliver_parts, Nat.reduceAnd]

theorem execBusyBackoff_parts {M : Nat} (a : Addr) (s : State) (hM : M &&& 4345976 = 4345976 := by decide) :
    Keeps M s (execBusyBackoff a s) := by
  refine keeps_mono (m := 4345976) ?_ hM
  simp only [execBusyBackoff, keeps_next, State.coreWork_parts, Nat.reduceAnd]

theorem execMsgSendTimeout_parts {M : Nat} (a : Addr) (s : State) (hM : M &&& 4345976 = 4345976 := by decide) :
    Keeps M s (execMsgSendTimeout a s) := by
  refine keeps_mono (m := 4345976) ?_ hM
  simp only [execMsgSendTimeout, keeps_next, State.coreWork_parts, Nat.reduceAnd]

theorem execMsgReplyTimeout_parts {M : Nat} (a : Addr) (slot : Fin 8) (s : State) (hM : M &&& 4345976 = 4345976 := by decide) :
    Keeps M s (execMsgReplyTimeout a slot s) := by
  refine keeps_mono (m := 4345976) ?_ hM
  simp only [execMsgReplyTimeout, keeps_next, State.coreWork_parts, Nat.reduceAnd]

theorem execSlotQuarantineEnd_parts {M : Nat} (a : Addr) (slot : Fin 8) (s : State) (hM : M &&& 4345976 = 4345976 := by decide) :
    Keeps M s (execSlotQuarantineEnd a slot s) := by
  refine keeps_mono (m := 4345976) ?_ hM
  simp only [execSlotQuarantineEnd, keeps_next, State.coreWork_parts, Nat.reduceAnd]

theorem State.pass_parts (hops : List (Addr × List (BitVec 80))) (l : List Nat) (a : Nat) (s : State) {M : Nat} (hM : M &&& 4345976 = 4345976 := by decide) :
    (State.pass hops l a s).1.mask M = s.mask M := by
  induction l generalizing a s with
  | nil => rfl
  | cons b r ih =>
    unfold State.pass
    split
    · rfl
    · dsimp only
      split
      · exact State.decodeAt_parts (hM := hM) ..
      · exact (ih ..).trans (State.decodeAt_parts (hM := hM) ..)

theorem State.sysOp_parts {M : Nat} (s : State) (a op : Nat) (ws : List Tok) (hops : List (Addr × List (BitVec 80))) (hM : M &&& 4345976 = 4345976 := by decide) :
    (State.sysOp s a op ws hops).mask M = s.mask M := by
  refine mask_mono (m := 4345976) ?_ hM
  unfold State.sysOp
  dsimp only
  split
  · rfl
  · split
    · rename_i e; exact (State.serveAgent_parts ..).trans (by have h := State.pass_parts (M := 4345976) hops (bcRoute a) bcPair s; rwa [e] at h)
    · rename_i e; have h := State.pass_parts (M := 4345976) hops (bcRoute a) bcPair s; rwa [e] at h
    · rename_i e
      have h := State.pass_parts (M := 4345976) hops (bcRoute a) bcPair s
      rw [e] at h
      split
      · exact (State.wrapperAnswer_parts ..).trans h
      · exact (mask_upd ..).trans h

theorem execRead_parts {M : Nat} (a : Addr) (addr : BitVec 20) (n : Carried (Fin 16)) (s : State) (hM : M &&& 4345976 = 4345976 := by decide) :
    Keeps M s (execRead a addr n s) := by
  refine keeps_mono (m := 4345976) ?_ hM
  simp only [execRead, keeps_next, State.sysOp_parts, Nat.reduceAnd]

theorem execWrite_parts {M : Nat} (a : Addr) (addr : BitVec 20) (data : Carried (List (BitVec 64 × BitVec 4))) (s : State) (hM : M &&& 4345976 = 4345976 := by decide) :
    Keeps M s (execWrite a addr data s) := by
  refine keeps_mono (m := 4345976) ?_ hM
  simp only [execWrite, keeps_next, State.sysOp_parts, Nat.reduceAnd]

theorem execTest_parts {M : Nat} (a : Addr) (number : Carried (BitVec 16)) (s : State) (hM : M &&& 4345976 = 4345976 := by decide) :
    Keeps M s (execTest a number s) := by
  refine keeps_mono (m := 4345976) ?_ hM
  simp only [execTest, keeps_next, State.sysOp_parts, Nat.reduceAnd]

theorem State.rectCopy_parts {M : Nat} (s : State) (lost : List Nat) (a q : Nat) (p : Packet) (hM : M &&& 4345976 = 4345976 := by decide) :
    (State.rectCopy s lost a q p).mask M = s.mask M := by
  refine mask_mono (m := 4345976) ?_ hM
  unfold State.rectCopy; (repeat' split) <;> simp only [State.serveAgent_parts, mask_upd, and_self, true_or, or_true, Nat.reducePow, Nat.reduceDiv, Nat.reduceMod, Nat.reduceAnd]

theorem execRect_parts {M : Nat} (a b : Addr) (test : Bool) (addr : BitVec 20) (data : Carried (List (BitVec 64 × BitVec 4))) (s : State) (hM : M &&& 4345976 = 4345976 := by decide) :
    Keeps M s (execRect a b test addr data s) := by
  refine keeps_mono (m := 4345976) ?_ hM
  simp only [execRect, keeps_next, keeps_ite, State.decodeAt_parts, State.rectCopy_parts, mask_foldl, mask_foldl1, implies_true, and_self, Nat.reduceAnd]

theorem State.scrubField_parts {M : Nat} (s : State) (f n : Nat) (hM : M &&& 4210712 = 4210712 := by decide) :
    (State.scrubField s f n).mask M = s.mask M := by
  refine mask_mono (m := 4210712) ?_ hM
  simp only [State.scrubField, State.addReg_parts, State.foundUe_parts, State.mapTiles_parts, State.satReg_parts, State.setReg_parts, mask_ite, ite_self, mask_foldl, implies_true, Nat.reduceAnd]

theorem State.upsets_parts {M : Nat} (s : State) (ups : List (Addr × Upset)) (hM : M &&& 16 = 16 := by decide) :
    (State.upsets s ups).mask M = s.mask M := by
  refine mask_mono (m := 16) ?_ hM
  exact mask_foldl _ _ (fun s u => by
    cases s.locate u.1.toNat with
    | none => rfl
    | some e => exact State.setTile_parts ..) _ _

theorem execRefreshWindow_parts {M : Nat} (f : Fin 48) (ups : List (Addr × Upset)) (s : State) (hM : M &&& 4210712 = 4210712 := by decide) :
    Keeps M s (execRefreshWindow f ups s) := by
  refine keeps_mono (m := 4210712) ?_ hM
  unfold execRefreshWindow; (repeat' split) <;> simp only [keeps_next, keeps_ite, State.refreshStep_parts, State.scrubField_parts, State.updField_parts, State.upsets_parts, implies_true, and_self, Nat.reduceAnd]

theorem execAutonomousRefresh_parts {M : Nat} (f : Fin 48) (ups : List (Addr × Upset)) (s : State) (hM : M &&& 4210712 = 4210712 := by decide) :
    Keeps M s (execAutonomousRefresh f ups s) := by
  refine keeps_mono (m := 4210712) ?_ hM
  simp only [execAutonomousRefresh, keeps_next, keeps_ite, State.refreshStep_parts, State.scrubField_parts, State.upsets_parts, implies_true, and_self, Nat.reduceAnd]

theorem execForcedRefresh_parts {M : Nat} (f : Fin 48) (s : State) (hM : M &&& 4345976 = 4345976 := by decide) :
    Keeps M s (execForcedRefresh f s) := by
  refine keeps_mono (m := 4345976) ?_ hM
  simp only [execForcedRefresh, keeps_next, keeps_ite, State.absorb_parts, State.fieldFault_parts, State.refreshStep_parts, State.satReg_parts, State.updField_parts, mask_ite, ite_self, mask_foldl, implies_true, and_self, Nat.reduceAnd]

theorem State.isoRead_parts {M : Nat} (s : State) (port : Nat) (hM : M &&& 16777224 = 16777224 := by decide) :
    (State.isoRead s port).mask M = s.mask M := by
  refine mask_mono (m := 16777224) ?_ hM
  simp only [State.isoRead, State.emit_parts, State.satReg_parts, Nat.reduceAnd]

theorem State.apServe_parts {M : Nat} (s : State) (x : ApAccess) (hM : M &&& 20989976 = 20989976 := by decide) :
    (State.apServe s x).mask M = s.mask M := by
  refine mask_mono (m := 20989976) ?_ hM
  simp only [State.apServe]; (repeat' split) <;> simp only [State.emit_parts, State.noteStack_parts, State.satReg_parts, State.served_parts, State.setTile_parts, mask_upd, mask_foldl, implies_true, and_self, true_or, or_true, Nat.reducePow, Nat.reduceDiv, Nat.reduceMod, Nat.reduceAnd]

theorem State.apArrive_parts {M : Nat} (s : State) (x : ApAccess) (hM : M &&& 20989976 = 20989976 := by decide) :
    (State.apArrive s x).mask M = s.mask M := by
  refine mask_mono (m := 20989976) ?_ hM
  simp only [State.apArrive, State.apServe_parts, mask_upd, mask_ite, ite_self, and_self, true_or, or_true, Nat.reducePow, Nat.reduceDiv, Nat.reduceMod, Nat.reduceAnd]

theorem execApertureRead_parts {M : Nat} (port : Fin 2) (off : BitVec 36) (n : Fin 4097) (ups : List (Addr × Upset)) (s : State) (hM : M &&& 20989976 = 20989976 := by decide) :
    Keeps M s (execApertureRead port off n ups s) := by
  refine keeps_mono (m := 20989976) ?_ hM
  simp only [execApertureRead, keeps_next, keeps_ite, State.apArrive_parts, State.isoRead_parts, State.upsets_parts, implies_true, and_self, Nat.reduceAnd]

theorem execApertureWrite_parts {M : Nat} (port : Fin 2) (off : BitVec 36) (data : List (BitVec 8)) (s : State) (hM : M &&& 20989976 = 20989976 := by decide) :
    Keeps M s (execApertureWrite port off data s) := by
  refine keeps_mono (m := 20989976) ?_ hM
  simp only [execApertureWrite, keeps_next, keeps_ite, State.apArrive_parts, State.satReg_parts, implies_true, and_self, Nat.reduceAnd]

theorem State.apDrain_parts (f n : Nat) (s : State) {M : Nat} (hM : M &&& 20989976 = 20989976 := by decide) :
    (State.apDrain f n s).mask M = s.mask M := by
  refine mask_mono (m := 20989976) ?_ hM
  clear hM
  induction n generalizing s with
  | zero => rfl
  | succ n ih =>
    unfold State.apDrain
    dsimp only
    split
    · rfl
    · exact (ih ..).trans ((State.apServe_parts ..).trans (mask_upd ..))

theorem execNonscheduledBeat_parts {M : Nat} (f : Fin 48) (cls : Fin 5) (s : State) (hM : M &&& 20989976 = 20989976 := by decide) :
    Keeps M s (execNonscheduledBeat f cls s) := by
  refine keeps_mono (m := 20989976) ?_ hM
  unfold execNonscheduledBeat
  dsimp only
  repeat' split
  · exact (keeps_next _ _ _).2 rfl
  · exact (keeps_next _ _ _).2 (State.apDrain_parts ..)
  · exact (keeps_next _ _ _).2 rfl
  · exact (keeps_next _ _ _).2 (State.updField_parts ..)

theorem State.apAbort_parts {M : Nat} (s : State) (hM : M &&& 20971528 = 20971528 := by decide) :
    (State.apAbort s).mask M = s.mask M := by
  refine mask_mono (m := 20971528) ?_ hM
  simp only [State.apAbort, State.isoRead_parts, State.satReg_parts, mask_upd, mask_ite, ite_self, mask_foldl, implies_true, and_self, true_or, or_true, Nat.reducePow, Nat.reduceDiv, Nat.reduceMod, Nat.reduceAnd]

theorem execApertureTimeout_parts {M : Nat} (port : Fin 2) (write : Bool) (s : State) (hM : M &&& 20971528 = 20971528 := by decide) :
    Keeps M s (execApertureTimeout port write s) := by
  refine keeps_mono (m := 20971528) ?_ hM
  simp only [execApertureTimeout, keeps_next, State.emit_parts, mask_ite, ite_self, Nat.reduceAnd]; (repeat' split) <;> simp only [State.satReg_parts, mask_upd, and_self, true_or, or_true, Nat.reducePow, Nat.reduceDiv, Nat.reduceMod, Nat.reduceAnd]

end Sys2Proof.Machine
end

