-- ==== Sys2Proof/Laws/PartsLinks.lean ====
section
/-!
SUPPORT. Sys2Proof/Laws/PartsLinks.lean: the parts of the state that each operation and each meaning may change: Hexkel links and the transit ring.
-/

set_option Elab.async false

namespace Sys2Proof.Machine

theorem State.updPort_parts {M : Nat} (s : State) (p : Nat) (g : HxPort → HxPort) (hM : M &&& 131072 = 131072 := by decide) :
    (State.updPort s p g).mask M = s.mask M := by
  refine mask_mono (m := 131072) ?_ hM
  simp only [State.updPort, mask_upd, and_self, true_or, or_true, Nat.reducePow, Nat.reduceDiv, Nat.reduceMod]

theorem State.portFault_parts {M : Nat} (s : State) (p code : Nat) (trig : Bool) (hM : M &&& 16408 = 16408 := by decide) :
    (State.portFault s p code trig).mask M = s.mask M := by
  refine mask_mono (m := 16408) ?_ hM
  simp only [State.portFault, State.moduleFault_parts, Nat.reduceAnd]

theorem State.enqueue_parts {M : Nat} (s : State) (p ch : Nat) (bs : List Nat) (transit : Bool) (hM : M &&& 131072 = 131072 := by decide) :
    (State.enqueue s p ch bs transit).mask M = s.mask M := by
  refine mask_mono (m := 131072) ?_ hM
  simp only [State.enqueue, State.updPort_parts, Nat.reduceAnd]

theorem State.routeErr_parts {M : Nat} (s : State) (p : Nat) (hM : M &&& 8 = 8 := by decide) :
    (State.routeErr s p).mask M = s.mask M := by
  refine mask_mono (m := 8) ?_ hM
  simp only [State.routeErr, State.satReg_parts, Nat.reduceAnd]

theorem State.passed_parts {M : Nat} (s : State) (stop : Nat) (hM : M &&& 8 = 8 := by decide) :
    (State.passed s stop).mask M = s.mask M := by
  refine mask_mono (m := 8) ?_ hM
  simp only [State.passed, State.addReg_parts, mask_ite, ite_self, Nat.reduceAnd]

theorem State.ringDrop_parts {M : Nat} (s : State) (stop : Nat) (hM : M &&& 8 = 8 := by decide) :
    (State.ringDrop s stop).mask M = s.mask M := by
  refine mask_mono (m := 8) ?_ hM
  simp only [State.ringDrop, State.satReg_parts, mask_ite, ite_self, Nat.reduceAnd]

theorem State.ringFlow_parts {M : Nat} (s : State) (stop ch : Nat) (hM : M &&& 262144 = 262144 := by decide) :
    (State.ringFlow s stop ch).mask M = s.mask M := by
  refine mask_mono (m := 262144) ?_ hM
  simp only [State.ringFlow, mask_upd, mask_foldl, implies_true, and_self, true_or, or_true, Nat.reducePow, Nat.reduceDiv, Nat.reduceMod]

theorem State.ringPut_parts {M : Nat} (s : State) (stop to_ : Nat) (l : Load) (hM : M &&& 262144 = 262144 := by decide) :
    (State.ringPut s stop to_ l).mask M = s.mask M := by
  refine mask_mono (m := 262144) ?_ hM
  simp only [State.ringPut, State.ringFlow_parts, mask_upd, and_self, true_or, or_true, Nat.reducePow, Nat.reduceDiv, Nat.reduceMod, Nat.reduceAnd]

theorem State.replyPut_parts {M : Nat} (s : State) (stop : Nat) (d : Dyn) (hM : M &&& 262152 = 262152 := by decide) :
    (State.replyPut s stop d).mask M = s.mask M := by
  refine mask_mono (m := 262152) ?_ hM
  unfold State.replyPut; (repeat' split) <;> simp only [State.ringDrop_parts, State.ringPut_parts, State.routeErr_parts, Nat.reduceAnd]

theorem State.answerPut_parts {M : Nat} (s : State) (d : Dyn) (op status : Nat) (payload : List Nat) (hM : M &&& 33816584 = 33816584 := by decide) :
    (State.answerPut s d op status payload).mask M = s.mask M := by
  refine mask_mono (m := 33816584) ?_ hM
  simp only [State.answerPut, State.fresh_parts, State.replyPut_parts, Nat.reducePow, Nat.reduceAnd]

theorem State.ringLeave_parts {M : Nat} (s : State) (x : RingItem) (hM : M &&& 33947656 = 33947656 := by decide) :
    (State.ringLeave s x).mask M = s.mask M := by
  refine mask_mono (m := 33947656) ?_ hM
  unfold State.ringLeave; (repeat' split) <;> simp only [State.answerPut_parts, State.enqueue_parts, State.passed_parts, State.ringDrop_parts, State.routeErr_parts, mask_upd, and_self, true_or, or_true, Nat.reducePow, Nat.reduceDiv, Nat.reduceMod, Nat.reduceAnd]

theorem State.ringMove_parts {M : Nat} (s : State) (x : RingItem) (rest : List RingItem) (hM : M &&& 33947656 = 33947656 := by decide) :
    (State.ringMove s x rest).mask M = s.mask M := by
  refine mask_mono (m := 33947656) ?_ hM
  simp only [State.ringMove, State.ringFlow_parts, State.ringLeave_parts, mask_upd, mask_ite, ite_self, and_self, true_or, or_true, Nat.reducePow, Nat.reduceDiv, Nat.reduceMod, Nat.reduceAnd]

theorem State.ringRun_parts (n : Nat) (s : State) {M : Nat} (hM : M &&& 33947656 = 33947656 := by decide) :
    (State.ringRun n s).mask M = s.mask M := by
  induction n generalizing s with
  | zero => rfl
  | succ n ih =>
    unfold State.ringRun
    split
    · rfl
    · exact (ih ..).trans (State.ringMove_parts (hM := hM) ..)

theorem State.ringGo_parts {M : Nat} (s : State) (hM : M &&& 33947656 = 33947656 := by decide) :
    (State.ringGo s).mask M = s.mask M := by
  refine mask_mono (m := 33947656) ?_ hM
  exact State.ringRun_parts ..

theorem State.ringDrain_parts {M : Nat} (s : State) (p : Nat) (hM : M &&& 33947656 = 33947656 := by decide) :
    (State.ringDrain s p).mask M = s.mask M := by
  refine mask_mono (m := 33947656) ?_ hM
  simp only [State.ringDrain, State.ringFlow_parts, State.ringGo_parts, mask_foldl, implies_true, Nat.reduceAnd]

theorem State.sendReply_parts {M : Nat} (s : State) (stop : Nat) (d : Dyn) (hM : M &&& 33947656 = 33947656 := by decide) :
    (State.sendReply s stop d).mask M = s.mask M := by
  refine mask_mono (m := 33947656) ?_ hM
  simp only [State.sendReply, State.replyPut_parts, State.ringGo_parts, Nat.reduceAnd]

theorem State.answer_parts {M : Nat} (s : State) (d : Dyn) (op status : Nat) (payload : List Nat) (hM : M &&& 33947656 = 33947656 := by decide) :
    (State.answer s d op status payload).mask M = s.mask M := by
  refine mask_mono (m := 33947656) ?_ hM
  simp only [State.answer, State.answerPut_parts, State.ringGo_parts, Nat.reduceAnd]

theorem State.sendRequest_parts {M : Nat} (s : State) (stop : Nat) (d : Dyn) (hM : M &&& 33947656 = 33947656 := by decide) :
    (State.sendRequest s stop d).mask M = s.mask M := by
  refine mask_mono (m := 33947656) ?_ hM
  unfold State.sendRequest; (repeat' split) <;> simp only [State.answer_parts, State.ringGo_parts, State.ringPut_parts, State.routeErr_parts, Nat.reduceAnd]

theorem State.request_parts {M : Nat} (s : State) (dst op arg : Nat) (payload : List Nat) (hM : M &&& 33947656 = 33947656 := by decide) :
    (State.request s dst op arg payload).mask M = s.mask M := by
  refine mask_mono (m := 33947656) ?_ hM
  simp only [State.request, State.sendRequest_parts, mask_upd, mask_ite, ite_self, and_self, true_or, or_true, Nat.reducePow, Nat.reduceDiv, Nat.reduceMod, Nat.reduceAnd]

theorem State.cellOut_parts {M : Nat} (s : State) (stop p : Nat) (c : Cell) (hM : M &&& 33947656 = 33947656 := by decide) :
    (State.cellOut s stop p c).mask M = s.mask M := by
  refine mask_mono (m := 33947656) ?_ hM
  simp only [State.cellOut, State.ringGo_parts, State.ringPut_parts, Nat.reduceAnd]

theorem State.deliverCell_parts {M : Nat} (s : State) (stop : Nat) (c : Cell) (hM : M &&& 33947656 = 33947656 := by decide) :
    (State.deliverCell s stop c).mask M = s.mask M := by
  refine mask_mono (m := 33947656) ?_ hM
  simp only [State.deliverCell, State.ringGo_parts, State.ringPut_parts, Nat.reduceAnd]

theorem State.cellStart_parts {M : Nat} (s : State) (stop i : Nat) (c : Cell) (hM : M &&& 33947656 = 33947656 := by decide) :
    (State.cellStart s stop i c).mask M = s.mask M := by
  refine mask_mono (m := 33947656) ?_ hM
  unfold State.cellStart; (repeat' split) <;> simp only [State.cellOut_parts, State.deliverCell_parts, mask_ite, ite_self, Nat.reduceAnd]

theorem State.bcastFrom_parts {M : Nat} (s : State) (stop i : Nat) (c : Cell) (hM : M &&& 33947656 = 33947656 := by decide) :
    (State.bcastFrom s stop i c).mask M = s.mask M := by
  refine mask_mono (m := 33947656) ?_ hM
  simp only [State.bcastFrom, State.cellOut_parts, mask_ite, ite_self, mask_foldl, implies_true, Nat.reduceAnd]

theorem State.sendCell_parts {M : Nat} (s : State) (dst type : Nat) (body : List Nat) (hM : M &&& 33947656 = 33947656 := by decide) :
    (State.sendCell s dst type body).mask M = s.mask M := by
  refine mask_mono (m := 33947656) ?_ hM
  simp only [State.sendCell, State.cellStart_parts, State.deliverCell_parts, State.routeErr_parts, mask_upd, mask_ite, ite_self, and_self, true_or, or_true, Nat.reducePow, Nat.reduceDiv, Nat.reduceMod, Nat.reduceAnd]

theorem State.bcastCell_parts {M : Nat} (s : State) (type : Nat) (body : List Nat) (hM : M &&& 33947656 = 33947656 := by decide) :
    (State.bcastCell s type body).mask M = s.mask M := by
  refine mask_mono (m := 33947656) ?_ hM
  simp only [State.bcastCell, State.bcastFrom_parts, State.deliverCell_parts, mask_upd, mask_ite, ite_self, and_self, true_or, or_true, Nat.reducePow, Nat.reduceDiv, Nat.reduceMod, Nat.reduceAnd]

theorem State.flowControl_parts {M : Nat} (s : State) (p : Nat) (hM : M &&& 8 = 8 := by decide) :
    (State.flowControl s p).mask M = s.mask M := by
  refine mask_mono (m := 8) ?_ hM
  simp only [State.flowControl, State.setReg_parts, Nat.reduceAnd]

theorem takeCell_parts {s s' : State} {p : Cell → Bool} {x : Nat × Cell} {M : Nat} (h : s.takeCell p = some (x, s')) (hM : M &&& 262144 = 262144 := by decide) : s'.mask M = s.mask M := by
  unfold State.takeCell at h
  simp only [Option.map_eq_some_iff] at h
  obtain ⟨q, _, hq⟩ := h
  cases hq
  exact mask_mono (m := 262144) (mask_upd ..) hM

theorem takeDyn_parts {s s' : State} {p : Dyn → Bool} {x : Dyn} {M : Nat} (h : s.takeDyn p = some (x, s')) (hM : M &&& 262144 = 262144 := by decide) : s'.mask M = s.mask M := by
  unfold State.takeDyn at h
  simp only [Option.map_eq_some_iff] at h
  obtain ⟨q, _, hq⟩ := h
  cases hq
  exact mask_mono (m := 262144) (mask_upd ..) hM

theorem State.takeRx_parts {M : Nat} (s : State) (p ch n : Nat) (hM : M &&& 131080 = 131080 := by decide) :
    (State.takeRx s p ch n).mask M = s.mask M := by
  refine mask_mono (m := 131080) ?_ hM
  exact (State.flowControl_parts ..).trans (State.updPort_parts ..)

theorem State.linkCell_parts {M : Nat} (s : State) (p type : Nat) (body : List Nat) (hM : M &&& 393216 = 393216 := by decide) :
    (State.linkCell s p type body).mask M = s.mask M := by
  refine mask_mono (m := 393216) ?_ hM
  simp only [State.linkCell, State.enqueue_parts, mask_upd, and_self, true_or, or_true, Nat.reducePow, Nat.reduceDiv, Nat.reduceMod, Nat.reduceAnd]

theorem State.linkSpdm_parts {M : Nat} (s : State) (p code : Nat) (hM : M &&& 33947648 = 33947648 := by decide) :
    (State.linkSpdm s p code).mask M = s.mask M := by
  refine mask_mono (m := 33947648) ?_ hM
  exact (mask_foldl _ _ (fun _ _ => State.linkCell_parts ..) _ _).trans ((State.updPort_parts ..).trans (mask_upd ..))

theorem State.linkAsk_parts {M : Nat} (s : State) (p : Nat) (hM : M &&& 33947648 = 33947648 := by decide) :
    (State.linkAsk s p).mask M = s.mask M := by
  refine mask_mono (m := 33947648) ?_ hM
  unfold State.linkAsk
  split
  · split
    · exact State.linkSpdm_parts ..
    · rfl
  · rfl

theorem State.restartKeys_parts {M : Nat} (s : State) (t : Nat) (hM : M &&& 131072 = 131072 := by decide) :
    (State.restartKeys s t).mask M = s.mask M := by
  refine mask_mono (m := 131072) ?_ hM
  simp only [State.restartKeys, State.updPort_parts, mask_foldl, implies_true, Nat.reduceAnd]

theorem State.portDown_parts {M : Nat} (s : State) (p : Nat) (hM : M &&& 33964056 = 33964056 := by decide) :
    (State.portDown s p).mask M = s.mask M := by
  refine mask_mono (m := 33964056) ?_ hM
  simp only [State.portDown, State.answer_parts, State.flowControl_parts, State.portFault_parts, State.ringDrain_parts, State.routeErr_parts, State.satReg_parts, State.setReg_parts, State.updPort_parts, mask_ite, ite_self, mask_foldl, implies_true, Nat.reduceAnd]

theorem State.portRetrain_parts {M : Nat} (s : State) (p : Nat) (hM : M &&& 33964056 = 33964056 := by decide) :
    (State.portRetrain s p).mask M = s.mask M := by
  refine mask_mono (m := 33964056) ?_ hM
  simp only [State.portRetrain, State.portDown_parts, State.setReg_parts, Nat.reduceAnd]

theorem State.coldLoad_parts {M : Nat} (s : State) (streams : List (Addr × BitVec 23)) (hM : M &&& 4210712 = 4210712 := by decide) :
    (State.coldLoad s streams).mask M = s.mask M := by
  refine mask_mono (m := 4210712) ?_ hM
  refine (mask_foldl _ _ (fun s u => ?_) _ _).trans (State.mapFields_parts ..)
  cases s.locate u.1.toNat with
  | none => rfl
  | some e =>
    dsimp only
    split
    · rfl
    · exact (State.setTile_parts ..).trans (State.noteStack_parts ..)

theorem execInvocationStart_parts {M : Nat} (streams : List (Addr × BitVec 23)) (s : State) (hM : M &&& 4288536 = 4288536 := by decide) :
    Keeps M s (execInvocationStart streams s) := by
  refine keeps_mono (m := 4288536) ?_ hM
  unfold execInvocationStart; (repeat' split) <;> simp only [keeps_next, State.coldLoad_parts, State.setReg_parts, mask_upd, and_self, true_or, or_true, Nat.reducePow, Nat.reduceDiv, Nat.reduceMod, Nat.reduceAnd]

theorem State.baseFaults_parts {M : Nat} (s : State) (f : Nat) (codes : List Nat) (acyc : Nat) (hM : M &&& 16408 = 16408 := by decide) :
    (State.baseFaults s f codes acyc).mask M = s.mask M := by
  refine mask_mono (m := 16408) ?_ hM
  unfold State.baseFaults
  split
  · rfl
  · refine (State.satReg_parts ..).trans ?_
    exact mask_foldl _ _ (fun s k => mask_foldl _ _ (fun s c => State.tileReport_parts ..) _ _) _ _

theorem State.switchField_parts {M : Nat} (s : State) (f : Nat) (d : SwitchTo) (e : Sect) (ending : Bool) (hM : M &&& 4345976 = 4345976 := by decide) :
    (State.switchField s f d e ending).mask M = s.mask M := by
  refine mask_mono (m := 4345976) ?_ hM
  simp only [State.switchField, State.absorb_parts, State.baseFaults_parts, State.invalidate_parts, State.setReg_parts, State.updField_parts, mask_ite, ite_self, mask_foldl, implies_true, Nat.reducePow, Nat.reduceAnd]

theorem State.arriveAll_parts {M : Nat} (s : State) (now : Nat) (hM : M &&& 4345976 = 4345976 := by decide) :
    (State.arriveAll s now).mask M = s.mask M := by
  refine mask_mono (m := 4345976) ?_ hM
  simp only [State.arriveAll, State.arriveWord_parts, mask_upd, mask_foldl, implies_true, and_self, true_or, or_true, Nat.reducePow, Nat.reduceDiv, Nat.reduceMod, Nat.reduceAnd]

theorem State.settle_parts {M : Nat} (s : State) (f now : Nat) (hM : M &&& 16 = 16 := by decide) :
    (State.settle s f now).mask M = s.mask M := by
  refine mask_mono (m := 16) ?_ hM
  simp only [State.settle, State.mapTiles_parts, Nat.reduceAnd]

theorem State.coldRefresh_parts {M : Nat} (s : State) (hM : M &&& 24 = 24 := by decide) :
    (State.coldRefresh s).mask M = s.mask M := by
  refine mask_mono (m := 24) ?_ hM
  simp only [State.coldRefresh, State.refreshStep_parts, mask_ite, ite_self, mask_foldl, implies_true, Nat.reduceAnd]

theorem State.missSwitch_parts {M : Nat} (s : State) (hM : M &&& 16 = 16 := by decide) :
    (State.missSwitch s).mask M = s.mask M := by
  refine mask_mono (m := 16) ?_ hM
  simp only [State.missSwitch, State.updField_parts, mask_ite, ite_self, mask_foldl, implies_true, Nat.reduceAnd]

theorem execSectionSwitch_parts {M : Nat} (s : State) (hM : M &&& 4411516 = 4411516 := by decide) :
    Keeps M s (execSectionSwitch s) := by
  refine keeps_mono (m := 4411516) ?_ hM
  unfold execSectionSwitch; (repeat' split) <;> simp only [keeps_next, State.advance_parts, State.arriveAll_parts, State.coldRefresh_parts, State.missSwitch_parts, State.setReg_parts, State.settle_parts, State.switchField_parts, mask_upd, mask_ite, ite_self, mask_foldl, implies_true, and_self, true_or, or_true, Nat.reducePow, Nat.reduceDiv, Nat.reduceMod, Nat.reduceAnd]

theorem State.endTest_parts {M : Nat} (s : State) (q : Nat) (hM : M &&& 2097152 = 2097152 := by decide) :
    (State.endTest s q).mask M = s.mask M := by
  refine mask_mono (m := 2097152) ?_ hM
  unfold State.endTest; (repeat' split) <;> simp only [mask_upd, mask_ite, ite_self, and_self, true_or, or_true, Nat.reducePow, Nat.reduceDiv, Nat.reduceMod]

theorem execInvocationEnd_parts {M : Nat} (s : State) (hM : M &&& 6451324 = 6451324 := by decide) :
    Keeps M s (execInvocationEnd s) := by
  refine keeps_mono (m := 6451324) ?_ hM
  unfold execInvocationEnd; (repeat' split) <;> simp only [keeps_next, State.advance_parts, State.arriveAll_parts, State.endTest_parts, State.mapFields_parts, State.setReg_parts, State.stopLive_parts, mask_upd, mask_foldl, implies_true, and_self, true_or, or_true, Nat.reducePow, Nat.reduceDiv, Nat.reduceMod, Nat.reduceAnd]

theorem State.setEngine_parts {M : Nat} (s : State) (e : Engine) (hM : M &&& 65536 = 65536 := by decide) :
    (State.setEngine s e).mask M = s.mask M := by
  refine mask_mono (m := 65536) ?_ hM
  simp only [State.setEngine, mask_upd, and_self, true_or, or_true, Nat.reducePow, Nat.reduceDiv, Nat.reduceMod]

theorem State.feedEngines_parts {M : Nat} (s : State) (p t : Nat) (kinds : Nat → Bool) (ws : List (Nat × Nat)) (hM : M &&& 65536 = 65536 := by decide) :
    (State.feedEngines s p t kinds ws).mask M = s.mask M := by
  refine mask_mono (m := 65536) ?_ hM
  refine mask_foldl _ _ (fun s d => ?_) _ _
  dsimp only
  cases s.instAt d.2 t with
  | none => rfl
  | some e =>
    dsimp only
    split
    · rfl
    · exact State.setEngine_parts ..

theorem State.portEnable_parts {M : Nat} (s : State) (p : Nat) (en : Bool) (hM : M &&& 33964056 = 33964056 := by decide) :
    (State.portEnable s p en).mask M = s.mask M := by
  refine mask_mono (m := 33964056) ?_ hM
  simp only [State.portEnable, State.portDown_parts, State.setReg_parts, mask_ite, ite_self, Nat.reduceAnd]

theorem execPortEnable_parts {M : Nat} (p : Fin 6) (en : Bool) (s : State) (hM : M &&& 33964056 = 33964056 := by decide) :
    Keeps M s (execPortEnable p en s) := by
  refine keeps_mono (m := 33964056) ?_ hM
  simp only [execPortEnable, keeps_next, keeps_ite, State.portEnable_parts, implies_true, and_self, Nat.reduceAnd]

theorem execLoop_parts {M : Nat} (p : Fin 6) (on : Bool) (s : State) (hM : M &&& 8 = 8 := by decide) :
    Keeps M s (execLoop p on s) := by
  refine keeps_mono (m := 8) ?_ hM
  simp only [execLoop, keeps_next, keeps_ite, State.setReg_parts, implies_true, and_self, Nat.reduceAnd]

theorem State.hxCmd_parts {M : Nat} (s : State) (p status op : Nat) (hM : M &&& 8 = 8 := by decide) :
    (State.hxCmd s p status op).mask M = s.mask M := by
  refine mask_mono (m := 8) ?_ hM
  simp only [State.hxCmd, State.cmd_parts, Nat.reduceAnd]

theorem execTrain_parts {M : Nat} (p : Fin 6) (s : State) (hM : M &&& 131080 = 131080 := by decide) :
    Keeps M s (execTrain p s) := by
  refine keeps_mono (m := 131080) ?_ hM
  simp only [execTrain, keeps_next, keeps_ite, State.hxCmd_parts, State.updPort_parts, implies_true, and_self, Nat.reduceAnd]

theorem execHoldDown_parts {M : Nat} (p : Fin 6) (s : State) (hM : M &&& 33964056 = 33964056 := by decide) :
    Keeps M s (execHoldDown p s) := by
  refine keeps_mono (m := 33964056) ?_ hM
  simp only [execHoldDown, keeps_next, keeps_ite, State.hxCmd_parts, State.portDown_parts, State.updPort_parts, implies_true, and_self, Nat.reduceAnd]

theorem execRetrain_parts {M : Nat} (p : Fin 6) (s : State) (hM : M &&& 33964056 = 33964056 := by decide) :
    Keeps M s (execRetrain p s) := by
  refine keeps_mono (m := 33964056) ?_ hM
  simp only [execRetrain, keeps_next, keeps_ite, State.hxCmd_parts, State.portDown_parts, State.updPort_parts, implies_true, and_self, Nat.reduceAnd]

theorem State.portMove_parts (s : State) (p from_ to_ : Nat) (g : State → State) {M : Nat} (hg : ∀ s, (g s).mask M = s.mask M) (hM : M &&& 8 = 8 := by decide) :
    (s.portMove p from_ to_ g).mask M = s.mask M := by
  unfold State.portMove
  split
  · exact (State.setReg_parts _ _ _ _ _ hM).trans (hg s)
  · rfl

theorem execSignalDetect_parts {M : Nat} (p : Fin 6) (s : State) (hM : M &&& 8 = 8 := by decide) :
    Keeps M s (execSignalDetect p s) := by
  refine keeps_mono (m := 8) ?_ hM
  unfold execSignalDetect
  dsimp only
  split
  · exact (keeps_next _ _ _).2 rfl
  · exact (keeps_next _ _ _).2 (State.portMove_parts _ _ _ _ id (fun _ => rfl))

theorem execLaneQualify_parts {M : Nat} (p : Fin 6) (good : BitVec 26) (s : State) (hM : M &&& 147480 = 147480 := by decide) :
    Keeps M s (execLaneQualify p good s) := by
  refine keeps_mono (m := 147480) ?_ hM
  simp only [execLaneQualify, keeps_next, keeps_ite, State.portFault_parts, State.portMove_parts, State.setReg_parts, State.updPort_parts, mask_ite, ite_self, implies_true, and_self, Nat.reduceAnd]

theorem execTrainTimeout_parts {M : Nat} (p : Fin 6) (s : State) (hM : M &&& 131080 = 131080 := by decide) :
    Keeps M s (execTrainTimeout p s) := by
  refine keeps_mono (m := 131080) ?_ hM
  simp only [execTrainTimeout, keeps_next, State.portMove_parts, State.updPort_parts, implies_true, Nat.reduceAnd]

theorem execTrainRetry_parts {M : Nat} (p : Fin 6) (s : State) (hM : M &&& 131072 = 131072 := by decide) :
    Keeps M s (execTrainRetry p s) := by
  refine keeps_mono (m := 131072) ?_ hM
  simp only [execTrainRetry, keeps_next, keeps_ite, State.updPort_parts, implies_true, and_self, Nat.reduceAnd]

theorem execMap_parts {M : Nat} (p : Fin 6) (nport : Fin 6) (ncoord : BitVec 15) (s : State) (hM : M &&& 8 = 8 := by decide) :
    Keeps M s (execMap p nport ncoord s) := by
  refine keeps_mono (m := 8) ?_ hM
  simp only [execMap, keeps_next, State.portMove_parts, State.setReg_parts, implies_true, Nat.reduceAnd]

theorem execFrameLock_parts {M : Nat} (p : Fin 6) (s : State) (hM : M &&& 33947656 = 33947656 := by decide) :
    Keeps M s (execFrameLock p s) := by
  refine keeps_mono (m := 33947656) ?_ hM
  simp only [execFrameLock, keeps_next, State.linkAsk_parts, State.portMove_parts, State.updPort_parts, mask_ite, ite_self, implies_true, Nat.reduceAnd]

theorem State.linkKeys_parts {M : Nat} (s : State) (p : Nat) (hM : M &&& 33685504 = 33685504 := by decide) :
    (State.linkKeys s p).mask M = s.mask M := by
  refine mask_mono (m := 33685504) ?_ hM
  simp only [State.linkKeys, State.updPort_parts, mask_upd, and_self, true_or, or_true, Nat.reducePow, Nat.reduceDiv, Nat.reduceMod, Nat.reduceAnd]

theorem execKeySessionEstablished_parts {M : Nat} (p : Fin 6) (session accepted : Bool) (s : State) (hM : M &&& 33964056 = 33964056 := by decide) :
    Keeps M s (execKeySessionEstablished p session accepted s) := by
  refine keeps_mono (m := 33964056) ?_ hM
  simp only [execKeySessionEstablished, keeps_next, keeps_ite, State.linkCell_parts, State.linkKeys_parts, State.portDown_parts, State.portFault_parts, State.setReg_parts, State.updPort_parts, mask_ite, ite_self, implies_true, and_self, Nat.reduceAnd]

theorem execBaseLatencyAgreed_parts {M : Nat} (p : Fin 6) (rtt base fibre : BitVec 16) (s : State) (hM : M &&& 8 = 8 := by decide) :
    Keeps M s (execBaseLatencyAgreed p rtt base fibre s) := by
  refine keeps_mono (m := 8) ?_ hM
  simp only [execBaseLatencyAgreed, keeps_next, State.portMove_parts, State.setReg_parts, implies_true, Nat.reduceAnd]

theorem execFrameLockLoss_parts {M : Nat} (p : Fin 6) (s : State) (hM : M &&& 33964056 = 33964056 := by decide) :
    Keeps M s (execFrameLockLoss p s) := by
  refine keeps_mono (m := 33964056) ?_ hM
  simp only [execFrameLockLoss, keeps_next, keeps_ite, State.portRetrain_parts, implies_true, and_self, Nat.reduceAnd]

theorem execLaneFail_parts {M : Nat} (p : Fin 6) (lane : Fin 26) (s : State) (hM : M &&& 33964056 = 33964056 := by decide) :
    Keeps M s (execLaneFail p lane s) := by
  refine keeps_mono (m := 33964056) ?_ hM
  unfold execLaneFail; (repeat' split) <;> simp only [keeps_next, State.fresh_parts, State.linkCell_parts, State.portRetrain_parts, State.updPort_parts, Nat.reduceAnd]

theorem State.laneRegs_parts {M : Nat} (s : State) (p : Nat) (hM : M &&& 8 = 8 := by decide) :
    (State.laneRegs s p).mask M = s.mask M := by
  refine mask_mono (m := 8) ?_ hM
  simp only [State.laneRegs, State.setReg_parts, Nat.reduceAnd]

theorem execLaneSwap_parts {M : Nat} (p : Fin 6) (s : State) (hM : M &&& 147480 = 147480 := by decide) :
    Keeps M s (execLaneSwap p s) := by
  refine keeps_mono (m := 147480) ?_ hM
  simp only [execLaneSwap]; (repeat' split) <;> simp only [keeps_next, State.laneRegs_parts, State.portFault_parts, State.setReg_parts, State.updPort_parts, Nat.reduceAnd]

theorem State.emitFrame_parts {M : Nat} (s : State) (p : Nat) (f : Sent) (replay : Bool) (hM : M &&& 16777216 = 16777216 := by decide) :
    (State.emitFrame s p f replay).mask M = s.mask M := by
  refine mask_mono (m := 16777216) ?_ hM
  simp only [State.emitFrame, State.emit_parts, Nat.reduceAnd]

theorem State.advanceKey_parts {M : Nat} (s : State) (p : Nat) (hM : M &&& 131080 = 131080 := by decide) :
    (State.advanceKey s p).mask M = s.mask M := by
  refine mask_mono (m := 131080) ?_ hM
  simp only [State.advanceKey, State.setReg_parts, State.updPort_parts, mask_ite, ite_self, Nat.reduceAnd]

theorem execFrameTransmit_parts {M : Nat} (p : Fin 6) (s : State) (hM : M &&& 50724872 = 50724872 := by decide) :
    Keeps M s (execFrameTransmit p s) := by
  refine keeps_mono (m := 50724872) ?_ hM
  simp only [execFrameTransmit, keeps_next, keeps_ite, implies_true, Nat.reducePow]; (repeat' split) <;> simp only [keeps_next, State.advanceKey_parts, State.emitFrame_parts, State.ringDrain_parts, State.satReg_parts, State.updPort_parts, implies_true, and_self, Nat.reduceAnd]

theorem State.badFrame_parts {M : Nat} (s : State) (p : Nat) (f : Frame) (auth : Bool) (hM : M &&& 33964056 = 33964056 := by decide) :
    (State.badFrame s p f auth).mask M = s.mask M := by
  refine mask_mono (m := 33964056) ?_ hM
  simp only [State.badFrame, State.portFault_parts, State.portRetrain_parts, State.satReg_parts, State.updPort_parts, mask_ite, ite_self, Nat.reduceAnd]

theorem State.takeUnits_parts {M : Nat} (s : State) (p : Nat) (us : List (BitVec 4 × List (BitVec 8))) (hM : M &&& 131080 = 131080 := by decide) :
    (State.takeUnits s p us).mask M = s.mask M := by
  refine mask_mono (m := 131080) ?_ hM
  simp only [State.takeUnits, State.satReg_parts, State.updPort_parts, mask_ite, ite_self, mask_foldl, implies_true, Nat.reduceAnd]

theorem execFrameReceive_parts {M : Nat} (p : Fin 6) (f : Frame) (corr uncorr : Nat) (tagOk : Bool) (s : State) (hM : M &&& 33964056 = 33964056 := by decide) :
    Keeps M s (execFrameReceive p f corr uncorr tagOk s) := by
  refine keeps_mono (m := 33964056) ?_ hM
  simp only [execFrameReceive, keeps_next, keeps_ite, State.badFrame_parts, State.flowControl_parts, State.satReg_parts, State.setReg_parts, State.takeUnits_parts, State.updPort_parts, mask_ite, ite_self, implies_true, and_self, Nat.reduceAnd]

theorem execScheduledRecord_parts {M : Nat} (p : Fin 6) (s : State) (hM : M &&& 196608 = 196608 := by decide) :
    Keeps M s (execScheduledRecord p s) := by
  refine keeps_mono (m := 196608) ?_ hM
  simp only [execScheduledRecord, keeps_next, keeps_ite, State.enqueue_parts, State.feedEngines_parts, State.updPort_parts, mask_ite, ite_self, implies_true, and_self, Nat.reduceAnd]

theorem execHxSchedOverrate_parts {M : Nat} (p : Fin 6) (s : State) (hM : M &&& 151576 = 151576 := by decide) :
    Keeps M s (execHxSchedOverrate p s) := by
  refine keeps_mono (m := 151576) ?_ hM
  simp only [execHxSchedOverrate, keeps_next, keeps_ite, State.invalidate_parts, State.portFault_parts, State.satReg_parts, State.updPort_parts, implies_true, and_self, Nat.reduceAnd]

theorem execRecordArrival_parts {M : Nat} (p : Fin 6) (s : State) (hM : M &&& 151576 = 151576 := by decide) :
    Keeps M s (execRecordArrival p s) := by
  refine keeps_mono (m := 151576) ?_ hM
  simp only [execRecordArrival, keeps_next, keeps_ite, State.invalidate_parts, State.moduleFault_parts, State.portFault_parts, State.satReg_parts, State.setReg_parts, State.takeRx_parts, State.updPort_parts, implies_true, and_self, Nat.reduceAnd]

theorem State.landRecord_parts {M : Nat} (s : State) (p : Nat) (r : Record) (errs : List (BitVec 80)) (hM : M &&& 4345976 = 4345976 := by decide) :
    (State.landRecord s p r errs).mask M = s.mask M := by
  refine mask_mono (m := 4345976) ?_ hM
  unfold State.landRecord
  split
  · rfl
  · refine mask_foldl _ _ (fun s w => ?_) _ _
    dsimp only
    cases s.locate (s.landingTile p w.1.1).1 with
    | none => rfl
    | some e =>
      dsimp only
      split
      · exact State.satReg_parts ..
      · exact State.absorb_parts ..

theorem execRecordLanding_parts {M : Nat} (l : Landing) (s : State) (hM : M &&& 4411512 = 4411512 := by decide) :
    Keeps M s (execRecordLanding l s) := by
  refine keeps_mono (m := 4411512) ?_ hM
  simp only [execRecordLanding]; (repeat' split) <;> simp only [keeps_next, State.feedEngines_parts, State.landRecord_parts, State.updPort_parts, Nat.reduceAnd]

theorem execSchLateLanding_parts {M : Nat} (p : Fin 6) (t : Nat) (s : State) (hM : M &&& 20504 = 20504 := by decide) :
    Keeps M s (execSchLateLanding p t s) := by
  refine keeps_mono (m := 20504) ?_ hM
  simp only [execSchLateLanding, keeps_next, keeps_ite, State.invalidate_parts, State.portFault_parts, implies_true, and_self, Nat.reduceAnd]

theorem State.pruneLink_parts (p n : Nat) (s : State) {M : Nat} (hM : M &&& 131080 = 131080 := by decide) :
    (State.pruneLink p n s).mask M = s.mask M := by
  refine mask_mono (m := 131080) ?_ hM
  clear hM
  induction n generalizing s with
  | zero => rfl
  | succ n ih =>
    unfold State.pruneLink
    dsimp only
    split
    · rfl
    · split
      · exact (ih ..).trans ((State.satReg_parts ..).trans (State.takeRx_parts ..))
      · split
        · exact (ih ..).trans ((State.routeErr_parts ..).trans (State.takeRx_parts ..))
        · rfl

theorem State.takeLink_parts (s : State) (p type : Nat) (g : State → Cell → State) {M : Nat} (hg : ∀ s c, (g s c).mask M = s.mask M) (hM : M &&& 131080 = 131080 := by decide) :
    (s.takeLink p type g).mask M = s.mask M := by
  unfold State.takeLink
  dsimp only
  split
  · rfl
  · split
    · exact State.pruneLink_parts _ _ _ hM
    · exact (hg _ _).trans ((State.takeRx_parts _ _ _ _ (and_sub hM (by decide))).trans (State.pruneLink_parts _ _ _ hM))

theorem State.linkMessage_parts {M : Nat} (s : State) (p : Nat) (hM : M &&& 33947648 = 33947648 := by decide) :
    (State.linkMessage s p).mask M = s.mask M := by
  refine mask_mono (m := 33947648) ?_ hM
  simp only [State.linkMessage, State.linkAsk_parts, State.linkSpdm_parts, State.updPort_parts, mask_ite, ite_self, Nat.reduceAnd]

theorem execSpdm_parts {M : Nat} (p : Fin 6) (s : State) (hM : M &&& 33947656 = 33947656 := by decide) :
    Keeps M s (execSpdm p s) := by
  refine keeps_mono (m := 33947656) ?_ hM
  simp only [execSpdm, keeps_next, State.linkMessage_parts, State.takeLink_parts, State.updPort_parts, mask_ite, ite_self, implies_true, Nat.reduceAnd]

theorem execLane_parts {M : Nat} (p : Fin 6) (s : State) (hM : M &&& 131080 = 131080 := by decide) :
    Keeps M s (execLane p s) := by
  refine keeps_mono (m := 131080) ?_ hM
  simp only [execLane, keeps_next, State.takeLink_parts, State.updPort_parts, implies_true, Nat.reduceAnd]

theorem execProbe_parts {M : Nat} (p : Fin 6) (s : State) (hM : M &&& 393224 = 393224 := by decide) :
    Keeps M s (execProbe p s) := by
  refine keeps_mono (m := 393224) ?_ hM
  simp only [execProbe, keeps_next, State.linkCell_parts, State.setReg_parts, State.takeLink_parts, mask_ite, ite_self, implies_true, Nat.reducePow, Nat.reduceAnd]

theorem execDynamicPacket_parts {M : Nat} (p : Fin 6) (vn : Bool) (s : State) (hM : M &&& 33947656 = 33947656 := by decide) :
    Keeps M s (execDynamicPacket p vn s) := by
  refine keeps_mono (m := 33947656) ?_ hM
  simp only [execDynamicPacket, keeps_next, keeps_ite, State.satReg_parts, State.sendReply_parts, State.sendRequest_parts, State.takeRx_parts, implies_true, and_self, Nat.reduceAnd]

theorem State.serve_parts (s : State) (op : Nat) (g : State → Dyn → State) {M : Nat} (hg : ∀ s d, (g s d).mask M = s.mask M) (hM : M &&& 262144 = 262144 := by decide) :
    (s.serve op g).mask M = s.mask M := by
  unfold State.serve
  cases h : s.takeDyn (fun d => d.op = op && d.vn = 0) with
  | none => rfl
  | some e => exact (hg _ _).trans (takeDyn_parts (x := e.1) (s' := e.2) h hM)

theorem execRwrite_parts {M : Nat} (admitted : Bool) (s : State) (hM : M &&& 33949704 = 33949704 := by decide) :
    Keeps M s (execRwrite admitted s) := by
  refine keeps_mono (m := 33949704) ?_ hM
  simp only [execRwrite, keeps_next, State.answer_parts, State.serve_parts, mask_upd, mask_ite, ite_self, implies_true, and_self, true_or, or_true, Nat.reducePow, Nat.reduceDiv, Nat.reduceMod, Nat.reduceAnd]

theorem execRread_parts {M : Nat} (admitted : Bool) (s : State) (hM : M &&& 33947656 = 33947656 := by decide) :
    Keeps M s (execRread admitted s) := by
  refine keeps_mono (m := 33947656) ?_ hM
  simp only [execRread, keeps_next, State.answer_parts, State.serve_parts, mask_ite, ite_self, implies_true, Nat.reduceAnd]

theorem State.takeAnswer_parts (s : State) (op : Nat) (g : State → Dyn → State) {M : Nat} (hg : ∀ s d, (g s d).mask M = s.mask M) (hM : M &&& 262144 = 262144 := by decide) :
    (s.takeAnswer op g).mask M = s.mask M := by
  unfold State.takeAnswer
  cases h : s.takeDyn (fun d => d.op = op && d.vn = 1) with
  | none => rfl
  | some e =>
    dsimp only
    split
    · exact (hg _ _).trans ((mask_mono (m := 262144) (mask_upd _ e.2 ..) hM).trans (takeDyn_parts (x := e.1) (s' := e.2) h hM))
    · exact takeDyn_parts (x := e.1) (s' := e.2) h hM

theorem execRwriteDone_parts {M : Nat} (s : State) (hM : M &&& 262144 = 262144 := by decide) :
    Keeps M s (execRwriteDone s) := by
  refine keeps_mono (m := 262144) ?_ hM
  simp only [execRwriteDone, keeps_next, State.takeAnswer_parts, implies_true, Nat.reduceAnd]

theorem execRreadData_parts {M : Nat} (s : State) (hM : M &&& 262144 = 262144 := by decide) :
    Keeps M s (execRreadData s) := by
  refine keeps_mono (m := 262144) ?_ hM
  exact (keeps_next _ _ _).2 (State.takeAnswer_parts _ _ _ (fun _ _ => rfl))

theorem execError_parts {M : Nat} (s : State) (hM : M &&& 262144 = 262144 := by decide) :
    Keeps M s (execError s) := by
  refine keeps_mono (m := 262144) ?_ hM
  simp only [execError, keeps_next, State.takeAnswer_parts, implies_true, Nat.reduceAnd]

theorem execDynamicRequestTimeout_parts {M : Nat} (id : BitVec 32) (s : State) (hM : M &&& 262144 = 262144 := by decide) :
    Keeps M s (execDynamicRequestTimeout id s) := by
  refine keeps_mono (m := 262144) ?_ hM
  simp only [execDynamicRequestTimeout, keeps_next, mask_upd, and_self, true_or, or_true, Nat.reducePow, Nat.reduceDiv, Nat.reduceMod]

theorem State.cellUnicast_parts {M : Nat} (s : State) (p : Nat) (c : Cell) (hM : M &&& 33947656 = 33947656 := by decide) :
    (State.cellUnicast s p c).mask M = s.mask M := by
  refine mask_mono (m := 33947656) ?_ hM
  simp only [State.cellUnicast, State.cellOut_parts, State.cellStart_parts, State.deliverCell_parts, State.ringDrop_parts, State.routeErr_parts, mask_ite, ite_self, Nat.reduceAnd]

theorem State.cellBroadcast_parts {M : Nat} (s : State) (p : Nat) (c : Cell) (hM : M &&& 33947656 = 33947656 := by decide) :
    (State.cellBroadcast s p c).mask M = s.mask M := by
  refine mask_mono (m := 33947656) ?_ hM
  simp only [State.cellBroadcast, State.bcastFrom_parts, State.cellOut_parts, State.deliverCell_parts, mask_ite, ite_self, Nat.reduceAnd]

theorem execPrivilegedCell_parts {M : Nat} (p : Fin 6) (vc : Bool) (s : State) (hM : M &&& 33947656 = 33947656 := by decide) :
    Keeps M s (execPrivilegedCell p vc s) := by
  refine keeps_mono (m := 33947656) ?_ hM
  simp only [execPrivilegedCell, keeps_next, keeps_ite, State.cellBroadcast_parts, State.cellUnicast_parts, State.routeErr_parts, State.satReg_parts, State.takeRx_parts, implies_true, and_self, Nat.reduceAnd]

end Sys2Proof.Machine
end

