-- ==== Sys2Proof/Laws/PartsModule.lean ====
section
/-!
SUPPORT. Sys2Proof/Laws/PartsModule.lean: the parts of the state that each operation and each meaning may change: dividers, pins, faults, installation and reset.
-/

set_option Elab.async false

namespace Sys2Proof.Machine

theorem State.setRopeState_parts {M : Nat} (s : State) (v : Nat) (hM : M &&& 8 = 8 := by decide) :
    (State.setRopeState s v).mask M = s.mask M := by
  refine mask_mono (m := 8) ?_ hM
  simp only [State.setRopeState, State.setReg_parts, mask_ite, ite_self, Nat.reduceAnd]

theorem State.announced_parts {M : Nat} (s : State) (p target : Nat) (hM : M &&& 524296 = 524296 := by decide) :
    (State.announced s p target).mask M = s.mask M := by
  refine mask_mono (m := 524296) ?_ hM
  simp only [State.announced, State.setReg_parts, mask_upd, and_self, true_or, or_true, Nat.reducePow, Nat.reduceDiv, Nat.reduceMod, Nat.reduceAnd]

theorem State.retarget_parts {M : Nat} (s : State) (hM : M &&& 34537480 = 34537480 := by decide) :
    (State.retarget s).mask M = s.mask M := by
  refine mask_mono (m := 34537480) ?_ hM
  simp only [State.retarget, State.announced_parts, State.bcastCell_parts, mask_upd, mask_ite, ite_self, and_self, true_or, or_true, Nat.reducePow, Nat.reduceDiv, Nat.reduceMod, Nat.reduceAnd]

theorem State.sendRatio_parts {M : Nat} (s : State) (hM : M &&& 33947656 = 33947656 := by decide) :
    (State.sendRatio s).mask M = s.mask M := by
  refine mask_mono (m := 33947656) ?_ hM
  simp only [State.sendRatio, State.sendCell_parts, Nat.reduceAnd]

theorem State.takeRequest_parts {M : Nat} (s : State) (coord d2 : Nat) (hM : M &&& 34537480 = 34537480 := by decide) :
    (State.takeRequest s coord d2).mask M = s.mask M := by
  refine mask_mono (m := 34537480) ?_ hM
  simp only [State.takeRequest, State.retarget_parts, mask_upd, and_self, true_or, or_true, Nat.reducePow, Nat.reduceDiv, Nat.reduceMod, Nat.reduceAnd]

theorem State.showNeeds_parts {M : Nat} (s : State) (hM : M &&& 8 = 8 := by decide) :
    (State.showNeeds s).mask M = s.mask M := by
  refine mask_mono (m := 8) ?_ hM
  simp only [State.showNeeds, State.setReg_parts, Nat.reduceAnd]

theorem State.setNeed_parts {M : Nat} (s : State) (reason d2 : Nat) (hM : M &&& 34537480 = 34537480 := by decide) :
    (State.setNeed s reason d2).mask M = s.mask M := by
  refine mask_mono (m := 34537480) ?_ hM
  simp only [State.setNeed, State.retarget_parts, State.sendRatio_parts, State.showNeeds_parts, State.takeRequest_parts, mask_upd, mask_ite, ite_self, and_self, true_or, or_true, Nat.reducePow, Nat.reduceDiv, Nat.reduceMod, Nat.reduceAnd]

theorem State.setDivider_parts {M : Nat} (s : State) (d2 : Nat) (hM : M &&& 524296 = 524296 := by decide) :
    (State.setDivider s d2).mask M = s.mask M := by
  refine mask_mono (m := 524296) ?_ hM
  simp only [State.setDivider, State.setReg_parts, mask_upd, and_self, true_or, or_true, Nat.reducePow, Nat.reduceDiv, Nat.reduceMod, Nat.reduceAnd]

theorem State.stopRamp_parts {M : Nat} (s : State) (hM : M &&& 524296 = 524296 := by decide) :
    (State.stopRamp s).mask M = s.mask M := by
  refine mask_mono (m := 524296) ?_ hM
  simp only [State.stopRamp, State.setDivider_parts, mask_ite, ite_self, Nat.reduceAnd]

theorem State.takeMref_parts {M : Nat} (s : State) (src port : Nat) (hM : M &&& 8 = 8 := by decide) :
    (State.takeMref s src port).mask M = s.mask M := by
  refine mask_mono (m := 8) ?_ hM
  simp only [State.takeMref, State.setReg_parts, Nat.reduceAnd]

theorem State.warn_parts {M : Nat} (s : State) (k : Nat) (on : Bool) (hM : M &&& 524288 = 524288 := by decide) :
    (State.warn s k on).mask M = s.mask M := by
  refine mask_mono (m := 524288) ?_ hM
  simp only [State.warn, mask_upd, and_self, true_or, or_true, Nat.reducePow, Nat.reduceDiv, Nat.reduceMod]

theorem State.setRail_parts {M : Nat} (s : State) (f k : Nat) (on : Bool) (hM : M &&& 8 = 8 := by decide) :
    (State.setRail s f k on).mask M = s.mask M := by
  refine mask_mono (m := 8) ?_ hM
  simp only [State.setRail, State.setReg_parts, Nat.reduceAnd]

theorem State.wakeRail_parts {M : Nat} (s : State) (f : Nat) (hM : M &&& 524296 = 524296 := by decide) :
    (State.wakeRail s f).mask M = s.mask M := by
  refine mask_mono (m := 524296) ?_ hM
  simp only [State.wakeRail, State.setRail_parts, mask_upd, and_self, true_or, or_true, Nat.reducePow, Nat.reduceDiv, Nat.reduceMod, Nat.reduceAnd]

theorem State.setStage_parts {M : Nat} (s : State) (k : Nat) (on : Bool) (hM : M &&& 8 = 8 := by decide) :
    (State.setStage s k on).mask M = s.mask M := by
  refine mask_mono (m := 8) ?_ hM
  simp only [State.setStage, State.setReg_parts, Nat.reduceAnd]

theorem State.clearTrip_parts {M : Nat} (s : State) (hM : M &&& 8 = 8 := by decide) :
    (State.clearTrip s).mask M = s.mask M := by
  refine mask_mono (m := 8) ?_ hM
  simp only [State.clearTrip, State.setReg_parts, State.setStage_parts, Nat.reduceAnd]

theorem State.setLock_parts {M : Nat} (s : State) (f : Nat) (on : Bool) (hM : M &&& 8 = 8 := by decide) :
    (State.setLock s f on).mask M = s.mask M := by
  refine mask_mono (m := 8) ?_ hM
  simp only [State.setLock, State.setReg_parts, Nat.reduceAnd]

theorem State.railsOff_parts {M : Nat} (s : State) (hM : M &&& 524296 = 524296 := by decide) :
    (State.railsOff s).mask M = s.mask M := by
  refine mask_mono (m := 524296) ?_ hM
  simp only [State.railsOff, State.setLock_parts, State.setRail_parts, State.setReg_parts, mask_upd, mask_foldl, implies_true, and_self, true_or, or_true, Nat.reducePow, Nat.reduceDiv, Nat.reduceMod, Nat.reduceAnd]

theorem State.signal_parts {M : Nat} (s : State) (port v : Nat) (hM : M &&& 20971520 = 20971520 := by decide) :
    (State.signal s port v).mask M = s.mask M := by
  refine mask_mono (m := 20971520) ?_ hM
  simp only [State.signal, State.emit_parts, mask_upd, mask_ite, ite_self, and_self, true_or, or_true, Nat.reducePow, Nat.reduceDiv, Nat.reduceMod, Nat.reduceAnd]

theorem State.hpEvent_parts {M : Nat} (s : State) (port : Nat) (e : Fld) (hM : M &&& 20971528 = 20971528 := by decide) :
    (State.hpEvent s port e).mask M = s.mask M := by
  refine mask_mono (m := 20971528) ?_ hM
  simp only [State.hpEvent, State.setReg_parts, State.signal_parts, Nat.reduceAnd]

theorem State.queueEntry_parts {M : Nat} (s : State) (e : LogEntry) (hM : M &&& 20971528 = 20971528 := by decide) :
    (State.queueEntry s e).mask M = s.mask M := by
  refine mask_mono (m := 20971528) ?_ hM
  simp only [State.queueEntry, State.setReg_parts, State.signal_parts, mask_ite, ite_self, mask_foldl, implies_true, Nat.reduceAnd]

theorem State.emcy_parts {M : Nat} (s : State) (code : Nat) (hM : M &&& 18874368 = 18874368 := by decide) :
    (State.emcy s code).mask M = s.mask M := by
  refine mask_mono (m := 18874368) ?_ hM
  simp only [State.emcy, State.emit_parts, State.setOd_parts, mask_upd, mask_ite, ite_self, and_self, true_or, or_true, Nat.reducePow, Nat.reduceDiv, Nat.reduceMod, Nat.reduceAnd]

theorem State.newEntry_parts {M : Nat} (s : State) (e : LogEntry) (hM : M &&& 54951944 = 54951944 := by decide) :
    (State.newEntry s e).mask M = s.mask M := by
  refine mask_mono (m := 54951944) ?_ hM
  simp only [State.newEntry, State.addReg_parts, State.bcastCell_parts, State.queueEntry_parts, mask_upd, mask_ite, ite_self, and_self, true_or, or_true, Nat.reducePow, Nat.reduceDiv, Nat.reduceMod, Nat.reduceAnd]

theorem State.logReport_parts {M : Nat} (s : State) (r : Report) (hM : M &&& 57049112 = 57049112 := by decide) :
    (State.logReport s r).mask M = s.mask M := by
  refine mask_mono (m := 57049112) ?_ hM
  simp only [State.logReport, State.emcy_parts, State.hpEvent_parts, State.newEntry_parts, State.satReg_parts, State.setOd_parts, State.setReg_parts, State.updField_parts, mask_upd, mask_ite, ite_self, and_self, true_or, or_true, Nat.reducePow, Nat.reduceDiv, Nat.reduceMod, Nat.reduceAnd]

theorem State.classReport_parts {M : Nat} (s : State) (subject code field px py detail classif action : Nat) (trig : Bool) (hM : M &&& 16408 = 16408 := by decide) :
    (State.classReport s subject code field px py detail classif action trig).mask M = s.mask M := by
  refine mask_mono (m := 16408) ?_ hM
  simp only [State.classReport, State.report_parts, Nat.reduceAnd]

theorem State.replan_parts {M : Nat} (s : State) (f reason : Nat) (hM : M &&& 16408 = 16408 := by decide) :
    (State.replan s f reason).mask M = s.mask M := by
  refine mask_mono (m := 16408) ?_ hM
  simp only [State.replan, State.classReport_parts, State.setLock_parts, State.setRail_parts, State.setReg_parts, mask_ite, ite_self, Nat.reduceAnd]

theorem State.beginMigrations_parts {M : Nat} (s : State) (hM : M &&& 32768 = 32768 := by decide) :
    (State.beginMigrations s).mask M = s.mask M := by
  refine mask_mono (m := 32768) ?_ hM
  simp only [State.beginMigrations, mask_upd, mask_ite, ite_self, mask_foldl, implies_true, and_self, true_or, or_true, Nat.reducePow, Nat.reduceDiv, Nat.reduceMod]

theorem State.rebuildReserve_parts {M : Nat} (s : State) (hM : M &&& 32768 = 32768 := by decide) :
    (State.rebuildReserve s).mask M = s.mask M := by
  refine mask_mono (m := 32768) ?_ hM
  simp only [State.rebuildReserve, mask_upd, and_self, true_or, or_true, Nat.reducePow, Nat.reduceDiv, Nat.reduceMod]

theorem State.unitLost_parts {M : Nat} (s : State) (u : Nat) (hM : M &&& 67840 = 67840 := by decide) :
    (State.unitLost s u).mask M = s.mask M := by
  refine mask_mono (m := 67840) ?_ hM
  simp only [State.unitLost, mask_upd, mask_ite, ite_self, mask_foldl, implies_true, and_self, true_or, or_true, Nat.reducePow, Nat.reduceDiv, Nat.reduceMod]

theorem mask_log {M : Nat} (s : State) (l : Log) (hM : M / 2 ^ 15 % 2 = 1) : ({ s with log := l } : State).mask M = s.mask M := by
  apply mask_upd <;> first | exact Or.inl hM | exact Or.inr rfl | exact Or.inr ⟨rfl, rfl⟩

theorem State.reserveMoves_parts {M : Nat} (s : State) (f key units : Nat) (hM : M &&& 100608 = 100608 := by decide) :
    (State.reserveMoves s f key units).mask M = s.mask M := by
  refine mask_mono (m := 100608) ?_ hM
  unfold State.reserveMoves
  split
  · rfl
  · rename_i u _
    extract_lets m t
    refine (mask_log t _ (by decide)).trans ?_
    by_cases hc : units &&& 0x280 = 0
    · exact congrArg (State.mask _) (if_pos hc)
    · exact (congrArg (State.mask _) (if_neg hc)).trans (State.unitLost_parts ..)

theorem State.permanent_parts {M : Nat} (s : State) (f key units : Nat) (hM : M &&& 117016 = 117016 := by decide) :
    (State.permanent s f key units).mask M = s.mask M := by
  refine mask_mono (m := 117016) ?_ hM
  simp only [State.permanent, State.beginMigrations_parts, State.classReport_parts, State.replan_parts, State.reserveMoves_parts, mask_upd, mask_ite, ite_self, and_self, true_or, or_true, Nat.reducePow, Nat.reduceDiv, Nat.reduceMod, Nat.reduceAnd]

theorem State.transient_parts {M : Nat} (s : State) (f key : Nat) (hM : M &&& 32768 = 32768 := by decide) :
    (State.transient s f key).mask M = s.mask M := by
  refine mask_mono (m := 32768) ?_ hM
  simp only [State.transient, mask_upd, and_self, true_or, or_true, Nat.reducePow, Nat.reduceDiv, Nat.reduceMod]

theorem State.mapLive_parts {M : Nat} (s : State) (f : Nat) (g : Tile → Tile) (hM : M &&& 16 = 16 := by decide) :
    (State.mapLive s f g).mask M = s.mask M := by
  refine mask_mono (m := 16) ?_ hM
  simp only [State.mapLive, State.mapTiles_parts, State.setTile_parts, mask_foldl, implies_true, Nat.reduceAnd]

theorem State.bloomField_parts {M : Nat} (s : State) (f : Nat) (hM : M &&& 24 = 24 := by decide) :
    (State.bloomField s f).mask M = s.mask M := by
  refine mask_mono (m := 24) ?_ hM
  simp only [State.bloomField, State.mapLive_parts, State.setReg_parts, Nat.reduceAnd]

theorem State.confirm_parts {M : Nat} (s : State) (f : Nat) (hM : M &&& 24 = 24 := by decide) :
    (State.confirm s f).mask M = s.mask M := by
  refine mask_mono (m := 24) ?_ hM
  simp only [State.confirm, State.mapLive_parts, State.setReg_parts, mask_ite, ite_self, Nat.reduceAnd]

theorem State.bloomSettle_parts {M : Nat} (s : State) (f : Nat) (hM : M &&& 117016 = 117016 := by decide) :
    (State.bloomSettle s f).mask M = s.mask M := by
  refine mask_mono (m := 117016) ?_ hM
  simp only [State.bloomSettle, State.addReg_parts, State.confirm_parts, State.mapLive_parts, State.permanent_parts, State.setReg_parts, mask_ite, ite_self, mask_foldl, implies_true, Nat.reduceAnd]

theorem State.bloomFinish_parts {M : Nat} (s : State) (f : Nat) (hM : M &&& 117016 = 117016 := by decide) :
    (State.bloomFinish s f).mask M = s.mask M := by
  refine mask_mono (m := 117016) ?_ hM
  simp only [State.bloomFinish, State.bloomSettle_parts, State.mapTiles_parts, State.setReg_parts, mask_ite, ite_self, Nat.reduceAnd]

theorem State.byDir_parts {M : Nat} (s : State) (m : Img) (f : Nat) (g : TDir → Tile → Tile) (hM : M &&& 16 = 16 := by decide) :
    (State.byDir s m f g).mask M = s.mask M := by
  refine mask_mono (m := 16) ?_ hM
  simp only [State.byDir, State.setTile_parts, State.updField_parts, mask_foldl, implies_true, Nat.reduceAnd]

theorem State.clearArray_parts {M : Nat} (s : State) (every : Bool) (hM : M &&& 16 = 16 := by decide) :
    (State.clearArray s every).mask M = s.mask M := by
  refine mask_mono (m := 16) ?_ hM
  simp only [State.clearArray, State.mapFields_parts, Nat.reduceAnd]

theorem State.wipeStaging_parts {M : Nat} (s : State) (off n : Nat) (hM : M &&& 2048 = 2048 := by decide) :
    (State.wipeStaging s off n).mask M = s.mask M := by
  refine mask_mono (m := 2048) ?_ hM
  simp only [State.wipeStaging, mask_upd, and_self, true_or, or_true, Nat.reducePow, Nat.reduceDiv, Nat.reduceMod]

theorem State.commitImage_parts {M : Nat} (s : State) (m : Img) (tag : BitVec 4) (hM : M &&& 16 = 16 := by decide) :
    (State.commitImage s m tag).mask M = s.mask M := by
  refine mask_mono (m := 16) ?_ hM
  simp only [State.commitImage, State.byDir_parts, State.clearArray_parts, mask_foldl, implies_true, Nat.reduceAnd]

theorem State.imageRegs_parts {M : Nat} (s : State) (m : Img) (dfloor : Nat) (hM : M &&& 8 = 8 := by decide) :
    (State.imageRegs s m dfloor).mask M = s.mask M := by
  refine mask_mono (m := 8) ?_ hM
  unfold State.imageRegs; try dsimp only; repeat' (first | with_reducible rfl | split | refine (State.setReg_parts ..).trans ?_ | exact State.setReg_parts .. | refine (mask_foldl _ _ (fun _ _ => ?_) _ _).trans ?_ | refine (mask_foldl1 _ _ (fun _ _ => ?_) _ _).trans ?_ | refine (mask_foldl2 _ _ (fun _ _ => ?_) _ _).trans ?_ | refine (keeps_next _ _ _).2 ?_ | intro _)

theorem State.reinstall_parts {M : Nat} (s : State) (hM : M &&& 152 = 152 := by decide) :
    (State.reinstall s).mask M = s.mask M := by
  refine mask_mono (m := 152) ?_ hM
  unfold State.reinstall; (repeat' split) <;> simp only [State.clearArray_parts, State.commitImage_parts, State.imageRegs_parts, State.setReg_parts, mask_upd, and_self, true_or, or_true, Nat.reducePow, Nat.reduceDiv, Nat.reduceMod, Nat.reduceAnd]

theorem State.reloadField_parts {M : Nat} (s : State) (f : Nat) (hM : M &&& 16 = 16 := by decide) :
    (State.reloadField s f).mask M = s.mask M := by
  refine mask_mono (m := 16) ?_ hM
  unfold State.reloadField; (repeat' split) <;> simp only [State.byDir_parts, Nat.reduceAnd]

theorem State.remeasure_parts {M : Nat} (s : State) (k : Nat) (hM : M &&& 41943040 = 41943040 := by decide) :
    (State.remeasure s k).mask M = s.mask M := by
  refine mask_mono (m := 41943040) ?_ hM
  simp only [State.remeasure, State.fresh_parts, mask_upd, and_self, true_or, or_true, Nat.reducePow, Nat.reduceDiv, Nat.reduceMod, Nat.reduceAnd]

theorem State.putEnts_parts {M : Nat} (s : State) (es : List (Ent × Nat)) (hM : M &&& 2097152 = 2097152 := by decide) :
    (State.putEnts s es).mask M = s.mask M := by
  refine mask_mono (m := 2097152) ?_ hM
  unfold State.putEnts
  refine mask_foldl _ _ (fun s p => ?_) _ _
  exact mask_upd ..

theorem State.loadSlot_parts {M : Nat} (s : State) (n : Nat) (liveOnly : Bool) (hM : M &&& 2097152 = 2097152 := by decide) :
    (State.loadSlot s n liveOnly).mask M = s.mask M := by
  refine mask_mono (m := 2097152) ?_ hM
  simp only [State.loadSlot, State.putEnts_parts, Nat.reduceAnd]

theorem State.settleDict_parts {M : Nat} (s : State) (hM : M &&& 2097152 = 2097152 := by decide) :
    (State.settleDict s).mask M = s.mask M := by
  refine mask_mono (m := 2097152) ?_ hM
  simp only [State.settleDict, mask_upd, and_self, true_or, or_true, Nat.reducePow, Nat.reduceDiv, Nat.reduceMod]

theorem State.writeOd_parts {M : Nat} (s : State) (e : Ent) (v : Nat) (hM : M &&& 2097152 = 2097152 := by decide) :
    (State.writeOd s e v).mask M = s.mask M := by
  refine mask_mono (m := 2097152) ?_ hM
  simp only [State.writeOd, mask_upd, and_self, true_or, or_true, Nat.reducePow, Nat.reduceDiv, Nat.reduceMod]

theorem State.activate_parts {M : Nat} (s : State) (n source : Nat) (hM : M &&& 44580888 = 44580888 := by decide) :
    (State.activate s n source).mask M = s.mask M := by
  refine mask_mono (m := 44580888) ?_ hM
  simp only [State.activate, State.loadSlot_parts, State.moduleFault_parts, State.remeasure_parts, State.setOd_parts, State.settleDict_parts, State.warn_parts, mask_ite, ite_self, Nat.reduceAnd]

theorem State.loadStored_parts {M : Nat} (s : State) (p : Ent → Bool) (hM : M &&& 2097152 = 2097152 := by decide) :
    (State.loadStored s p).mask M = s.mask M := by
  refine mask_mono (m := 2097152) ?_ hM
  simp only [State.loadStored, State.putEnts_parts, Nat.reduceAnd]

theorem State.odCmd_parts {M : Nat} (s : State) (ix sub status abort : Nat) (hM : M &&& 2097152 = 2097152 := by decide) :
    (State.odCmd s ix sub status abort).mask M = s.mask M := by
  refine mask_mono (m := 2097152) ?_ hM
  simp only [State.odCmd, mask_upd, and_self, true_or, or_true, Nat.reducePow, Nat.reduceDiv, Nat.reduceMod]

theorem State.nodeBoot_parts {M : Nat} (s : State) (hM : M &&& 18874368 = 18874368 := by decide) :
    (State.nodeBoot s).mask M = s.mask M := by
  refine mask_mono (m := 18874368) ?_ hM
  refine (State.emit_parts ..).trans ((State.loadStored_parts ..).trans ?_)
  exact (mask_upd ..).trans (State.loadStored_parts ..)

theorem State.syncRst_parts {M : Nat} (s : State) (hM : M &&& 8 = 8 := by decide) :
    (State.syncRst s).mask M = s.mask M := by
  refine mask_mono (m := 8) ?_ hM
  simp only [State.syncRst, State.setReg_parts, Nat.reduceAnd]

theorem State.pushHist_parts {M : Nat} (s : State) (q : RstReq) (merged : Bool) (hM : M &&& 8 = 8 := by decide) :
    (State.pushHist s q merged).mask M = s.mask M := by
  refine mask_mono (m := 8) ?_ hM
  unfold State.pushHist
  dsimp only
  iterate 8 refine (State.setReg_parts ..).trans ?_
  exact mask_foldl _ _ (fun s _ => mask_foldl _ _ (fun _ _ => State.setReg_parts ..) _ _) _ _

theorem State.setCause_parts {M : Nat} (s : State) (q : RstReq) (first same all : Bool) (fields : Nat) (hM : M &&& 8 = 8 := by decide) :
    (State.setCause s q first same all fields).mask M = s.mask M := by
  refine mask_mono (m := 8) ?_ hM
  simp only [State.setCause, State.satReg_parts, State.setReg_parts, mask_ite, ite_self, Nat.reduceAnd]

theorem State.clearRegs_parts {M : Nat} (s : State) (lvl : Nat) (all : Bool) (fs : List Nat) (hM : M &&& 8 = 8 := by decide) :
    (State.clearRegs s lvl all fs).mask M = s.mask M := by
  refine mask_mono (m := 8) ?_ hM
  simp only [State.clearRegs, mask_upd, and_self, true_or, or_true, Nat.reducePow, Nat.reduceDiv, Nat.reduceMod]

theorem State.keepDisabled_parts {M : Nat} (s : State) (hM : M &&& 8 = 8 := by decide) :
    (State.keepDisabled s).mask M = s.mask M := by
  refine mask_mono (m := 8) ?_ hM
  simp only [State.keepDisabled, State.setReg_parts, mask_ite, ite_self, mask_foldl, implies_true, Nat.reduceAnd]

theorem State.keepNeeds_parts {M : Nat} (s : State) (hM : M &&& 524296 = 524296 := by decide) :
    (State.keepNeeds s).mask M = s.mask M := by
  refine mask_mono (m := 524296) ?_ hM
  simp only [State.keepNeeds, State.showNeeds_parts, mask_upd, and_self, true_or, or_true, Nat.reducePow, Nat.reduceDiv, Nat.reduceMod, Nat.reduceAnd]

theorem State.clearField_parts {M : Nat} (s : State) (f lvl : Nat) (hM : M &&& 120 = 120 := by decide) :
    (State.clearField s f lvl).mask M = s.mask M := by
  refine mask_mono (m := 120) ?_ hM
  simp only [State.clearField, State.clearTel_parts, State.mapTiles_parts, State.setLock_parts, State.stopLive_parts, State.updField_parts, mask_upd, mask_ite, ite_self, and_self, true_or, or_true, Nat.reducePow, Nat.reduceDiv, Nat.reduceMod, Nat.reduceAnd]

theorem State.dropFlying_parts {M : Nat} (s : State) (port : Nat) (hM : M &&& 4194304 = 4194304 := by decide) :
    (State.dropFlying s port).mask M = s.mask M := by
  refine mask_mono (m := 4194304) ?_ hM
  refine mask_foldl _ _ (fun s e => ?_) _ _
  dsimp only
  refine (mask_foldl _ _ (fun s k => ?_) _ _).trans ?_
  · exact mask_upd ..
  · exact mask_upd ..

theorem State.hostDown_parts {M : Nat} (s : State) (port : Nat) (hM : M &&& 12582920 = 12582920 := by decide) :
    (State.hostDown s port).mask M = s.mask M := by
  refine mask_mono (m := 12582920) ?_ hM
  simp only [State.hostDown, State.dropFlying_parts, mask_upd, and_self, true_or, or_true, Nat.reducePow, Nat.reduceDiv, Nat.reduceMod, Nat.reduceAnd]

theorem State.ropeCut_parts {M : Nat} (s : State) (hM : M &&& 81928 = 81928 := by decide) :
    (State.ropeCut s).mask M = s.mask M := by
  refine mask_mono (m := 81928) ?_ hM
  simp only [State.ropeCut, State.setRopeState_parts, mask_upd, mask_ite, ite_self, and_self, true_or, or_true, Nat.reducePow, Nat.reduceDiv, Nat.reduceMod, Nat.reduceAnd]

theorem State.bcResume_parts {M : Nat} (s : State) (hM : M &&& 12582912 = 12582912 := by decide) :
    (State.bcResume s).mask M = s.mask M := by
  refine mask_mono (m := 12582912) ?_ hM
  simp only [State.bcResume, mask_upd, mask_ite, ite_self, and_self, true_or, or_true, Nat.reducePow, Nat.reduceDiv, Nat.reduceMod]

theorem State.cutInstall_parts {M : Nat} (s : State) (hM : M &&& 2952 = 2952 := by decide) :
    (State.cutInstall s).mask M = s.mask M := by
  refine mask_mono (m := 2952) ?_ hM
  simp only [State.cutInstall, State.setReg_parts, State.wipeStaging_parts, mask_upd, mask_ite, ite_self, and_self, true_or, or_true, Nat.reducePow, Nat.reduceDiv, Nat.reduceMod, Nat.reduceAnd]

theorem State.clearModule_parts {M : Nat} (s : State) (lvl : Nat) (hM : M &&& 63926300 = 63926300 := by decide) :
    (State.clearModule s lvl).mask M = s.mask M := by
  refine mask_mono (m := 63926300) ?_ hM
  simp only [State.clearModule, State.apAbort_parts, State.bcResume_parts, State.hostDown_parts, State.portDown_parts, State.restartKeys_parts, State.ropeCut_parts, State.setReg_parts, State.updPort_parts, mask_upd, mask_ite, ite_self, mask_foldl, implies_true, and_self, true_or, or_true, Nat.reducePow, Nat.reduceDiv, Nat.reduceMod, Nat.reduceAnd]

theorem State.coldStart_parts {M : Nat} (s : State) (source : Nat) (hM : M &&& 50331646 = 50331646 := by decide) :
    (State.coldStart s source).mask M = s.mask M := by
  refine mask_mono (m := 50331646) ?_ hM
  unfold State.coldStart
  dsimp only
  refine (State.remeasure_parts ..).trans ((mask_upd ..).trans ?_)
  refine (State.syncRst_parts ..).trans ((State.pushHist_parts ..).trans ?_)
  iterate 4 refine (State.setReg_parts ..).trans ?_
  refine (mask_foldl _ _ (fun s x => State.setRail_parts ..) _ _).trans ?_
  refine (mask_foldl _ _ (fun s x => (State.setReg_parts ..).trans (State.setReg_parts ..)) _ _).trans ?_
  exact mask_upd _ s ..

theorem State.enterField_parts {M : Nat} (s : State) (q : RstReq) (f : Nat) (hM : M &&& 1069176 = 1069176 := by decide) :
    (State.enterField s q f).mask M = s.mask M := by
  refine mask_mono (m := 1069176) ?_ hM
  simp only [State.enterField, State.clearField_parts, State.invalidate_parts, State.moduleFault_parts, State.satReg_parts, State.setReg_parts, mask_upd, mask_ite, ite_self, and_self, true_or, or_true, Nat.reducePow, Nat.reduceDiv, Nat.reduceMod, Nat.reduceAnd]

theorem State.resetReq_parts {M : Nat} (s : State) (source qual level : Nat) (all0 : Bool) (fields0 : Nat) (hM : M &&& 67108862 = 67108862 := by decide) :
    (State.resetReq s source qual level all0 fields0).mask M = s.mask M := by
  refine mask_mono (m := 67108862) ?_ hM
  simp only [State.resetReq, State.clearModule_parts, State.clearRegs_parts, State.coldStart_parts, State.cutInstall_parts, State.enterField_parts, State.keepDisabled_parts, State.keepNeeds_parts, State.moduleFault_parts, State.pushHist_parts, State.setCause_parts, State.syncRst_parts, mask_upd, mask_ite, ite_self, mask_foldl, implies_true, and_self, true_or, or_true, Nat.reducePow, Nat.reduceDiv, Nat.reduceMod, Nat.reduceAnd]

theorem State.doneStep_parts {M : Nat} (s : State) (f k : Nat) (hM : M &&& 1048576 = 1048576 := by decide) :
    (State.doneStep s f k).mask M = s.mask M := by
  refine mask_mono (m := 1048576) ?_ hM
  simp only [State.doneStep, mask_upd, and_self, true_or, or_true, Nat.reducePow, Nat.reduceDiv, Nat.reduceMod]

theorem State.step5_parts {M : Nat} (s : State) (f : Nat) (hM : M &&& 1048600 = 1048600 := by decide) :
    (State.step5 s f).mask M = s.mask M := by
  refine mask_mono (m := 1048600) ?_ hM
  simp only [State.step5, State.alignSeams_parts, State.doneStep_parts, State.mapTiles_parts, State.setReg_parts, mask_ite, ite_self, Nat.reduceAnd]

theorem State.step6_parts {M : Nat} (s : State) (f : Nat) (hM : M &&& 1048600 = 1048600 := by decide) :
    (State.step6 s f).mask M = s.mask M := by
  refine mask_mono (m := 1048600) ?_ hM
  simp only [State.step6, State.bloomField_parts, State.doneStep_parts, State.mapTiles_parts, mask_ite, ite_self, Nat.reduceAnd]

theorem State.step7_parts {M : Nat} (s : State) (f : Nat) (hM : M &&& 1048600 = 1048600 := by decide) :
    (State.step7 s f).mask M = s.mask M := by
  refine mask_mono (m := 1048600) ?_ hM
  simp only [State.step7, State.doneStep_parts, State.mapTiles_parts, State.setReg_parts, mask_ite, ite_self, Nat.reduceAnd]

theorem State.catchUp_parts {M : Nat} (s : State) (f : Nat) (hM : M &&& 1048600 = 1048600 := by decide) :
    (State.catchUp s f).mask M = s.mask M := by
  refine mask_mono (m := 1048600) ?_ hM
  simp only [State.catchUp, State.step5_parts, State.step6_parts, State.step7_parts, State.syncRst_parts, mask_ite, ite_self, Nat.reduceAnd]

theorem State.migrateCut_parts {M : Nat} (s : State) (f col : Nat) (hM : M &&& 46186520 = 46186520 := by decide) :
    (State.migrateCut s f col).mask M = s.mask M := by
  refine mask_mono (m := 46186520) ?_ hM
  simp only [State.migrateCut, State.moduleFault_parts, State.rebuildReserve_parts, State.reloadField_parts, State.remeasure_parts, State.setReg_parts, State.setTile_parts, State.updField_parts, mask_upd, mask_foldl, implies_true, and_self, true_or, or_true, Nat.reducePow, Nat.reduceDiv, Nat.reduceMod, Nat.reduceAnd]

theorem State.step8_parts {M : Nat} (s : State) (hM : M &&& 48220568 = 48220568 := by decide) :
    (State.step8 s).mask M = s.mask M := by
  refine mask_mono (m := 48220568) ?_ hM
  simp only [State.step8, State.beginMigrations_parts, State.bloomFinish_parts, State.migrateCut_parts, State.reinstall_parts, State.retarget_parts, State.syncRst_parts, mask_upd, mask_ite, ite_self, mask_foldl, implies_true, and_self, true_or, or_true, Nat.reducePow, Nat.reduceDiv, Nat.reduceMod, Nat.reduceAnd]

theorem State.selectMref_parts {M : Nat} (s : State) (ready : Nat) (hM : M &&& 8 = 8 := by decide) :
    (State.selectMref s ready).mask M = s.mask M := by
  refine mask_mono (m := 8) ?_ hM
  simp only [State.selectMref, State.setReg_parts, State.takeMref_parts, mask_ite, ite_self, Nat.reduceAnd]

theorem State.releaseStep_parts {M : Nat} (s : State) (ready sel : Nat) (hM : M &&& 50317720 = 50317720 := by decide) :
    (State.releaseStep s ready sel).mask M = s.mask M := by
  refine mask_mono (m := 50317720) ?_ hM
  simp only [State.releaseStep, mask_ite]; (repeat' split) <;> simp only [State.activate_parts, State.selectMref_parts, State.setReg_parts, State.settleDict_parts, State.step5_parts, State.step6_parts, State.step7_parts, State.step8_parts, State.syncRst_parts, State.updField_parts, mask_upd, mask_foldl, implies_true, and_self, true_or, or_true, Nat.reducePow, Nat.reduceDiv, Nat.reduceMod, Nat.reduceAnd]

theorem execPor_parts {M : Nat} (latched : Bool) (s : State) (hM : M &&& 50331646 = 50331646 := by decide) :
    Keeps M s (execPor latched s) := by
  refine keeps_mono (m := 50331646) ?_ hM
  simp only [execPor, keeps_next, State.coldStart_parts, Nat.reduceAnd]

theorem execBor_parts {M : Nat} (s : State) (hM : M &&& 50331646 = 50331646 := by decide) :
    Keeps M s (execBor s) := by
  refine keeps_mono (m := 50331646) ?_ hM
  simp only [execBor, keeps_next, State.coldStart_parts, mask_upd, and_self, true_or, or_true, Nat.reducePow, Nat.reduceDiv, Nat.reduceMod, Nat.reduceAnd]

theorem execModResetNLow_parts {M : Nat} (s : State) (hM : M &&& 67108862 = 67108862 := by decide) :
    Keeps M s (execModResetNLow s) := by
  refine keeps_mono (m := 67108862) ?_ hM
  simp only [execModResetNLow, keeps_next, State.resetReq_parts, State.setReg_parts, mask_ite, ite_self, Nat.reduceAnd]

theorem execModResetNHigh_parts {M : Nat} (s : State) (hM : M &&& 8 = 8 := by decide) :
    Keeps M s (execModResetNHigh s) := by
  refine keeps_mono (m := 8) ?_ hM
  simp only [execModResetNHigh, keeps_next, State.setReg_parts, Nat.reduceAnd]

theorem State.swrDo_parts {M : Nat} (s : State) (op level : Nat) (all0 : Bool) (fields : Nat) (hM : M &&& 67108862 = 67108862 := by decide) :
    (State.swrDo s op level all0 fields).mask M = s.mask M := by
  refine mask_mono (m := 67108862) ?_ hM
  simp only [State.swrDo, State.resetReq_parts, State.syncRst_parts, mask_upd, mask_ite, ite_self, and_self, true_or, or_true, Nat.reducePow, Nat.reduceDiv, Nat.reduceMod, Nat.reduceAnd]

theorem State.rstCmd_parts {M : Nat} (s : State) (op level : Nat) (force : Bool) (hM : M &&& 67108862 = 67108862 := by decide) :
    (State.rstCmd s op level force).mask M = s.mask M := by
  refine mask_mono (m := 67108862) ?_ hM
  simp only [State.rstCmd, State.cmd_parts, State.setReg_parts, State.swrDo_parts, mask_ite, ite_self, Nat.reduceAnd]

theorem execReset_parts {M : Nat} (level : BitVec 4) (force : Bool) (s : State) (hM : M &&& 67108862 = 67108862 := by decide) :
    Keeps M s (execReset level force s) := by
  refine keeps_mono (m := 67108862) ?_ hM
  simp only [execReset, keeps_next, State.rstCmd_parts, Nat.reduceAnd]

theorem execHold_parts {M : Nat} (level : BitVec 4) (force : Bool) (s : State) (hM : M &&& 67108862 = 67108862 := by decide) :
    Keeps M s (execHold level force s) := by
  refine keeps_mono (m := 67108862) ?_ hM
  simp only [execHold, keeps_next, State.rstCmd_parts, Nat.reduceAnd]

theorem execRstRelease_parts {M : Nat} (s : State) (hM : M &&& 67108862 = 67108862 := by decide) :
    Keeps M s (execRstRelease s) := by
  refine keeps_mono (m := 67108862) ?_ hM
  simp only [execRstRelease, keeps_next, State.rstCmd_parts, Nat.reduceAnd]

theorem execMinHoldEnd_parts {M : Nat} (s : State) (hM : M &&& 1048584 = 1048584 := by decide) :
    Keeps M s (execMinHoldEnd s) := by
  refine keeps_mono (m := 1048584) ?_ hM
  simp only [execMinHoldEnd, keeps_next, keeps_ite, State.setRopeState_parts, mask_upd, mask_ite, ite_self, implies_true, and_self, true_or, or_true, Nat.reducePow, Nat.reduceDiv, Nat.reduceMod, Nat.reduceAnd]

theorem execReleaseStep_parts {M : Nat} (ready : BitVec 3) (sel : Fin 4) (s : State) (hM : M &&& 50317720 = 50317720 := by decide) :
    Keeps M s (execReleaseStep ready sel s) := by
  refine keeps_mono (m := 50317720) ?_ hM
  simp only [execReleaseStep, keeps_next, State.releaseStep_parts, Nat.reduceAnd]

theorem execFieldPllUnlock_parts {M : Nat} (f : Fin 48) (s : State) (hM : M &&& 67108862 = 67108862 := by decide) :
    Keeps M s (execFieldPllUnlock f s) := by
  refine keeps_mono (m := 67108862) ?_ hM
  simp only [execFieldPllUnlock, keeps_next, keeps_ite, State.doneStep_parts, State.resetReq_parts, State.setLock_parts, State.setReg_parts, State.stopRamp_parts, mask_ite, ite_self, implies_true, and_self, Nat.reduceAnd]

theorem execModulePllUnlock_parts {M : Nat} (link : Bool) (s : State) (hM : M &&& 67108862 = 67108862 := by decide) :
    Keeps M s (execModulePllUnlock link s) := by
  refine keeps_mono (m := 67108862) ?_ hM
  simp only [execModulePllUnlock, keeps_next, keeps_ite, State.resetReq_parts, State.setReg_parts, State.stopRamp_parts, implies_true, and_self, Nat.reduceAnd]

theorem execFieldPllLock_parts {M : Nat} (f : Fin 48) (s : State) (hM : M &&& 1048600 = 1048600 := by decide) :
    Keeps M s (execFieldPllLock f s) := by
  refine keeps_mono (m := 1048600) ?_ hM
  simp only [execFieldPllLock, keeps_next, keeps_ite, State.catchUp_parts, State.setLock_parts, implies_true, and_self, Nat.reduceAnd]

theorem execRstReleaseStall_parts {M : Nat} (f : Fin 48) (s : State) (hM : M &&& 16408 = 16408 := by decide) :
    Keeps M s (execRstReleaseStall f s) := by
  refine keeps_mono (m := 16408) ?_ hM
  simp only [execRstReleaseStall, keeps_next, keeps_ite, State.moduleFault_parts, State.replan_parts, implies_true, and_self, Nat.reduceAnd]

theorem State.recovery_parts {M : Nat} (s : State) (hM : M &&& 16408 = 16408 := by decide) :
    (State.recovery s).mask M = s.mask M := by
  refine mask_mono (m := 16408) ?_ hM
  simp only [State.recovery, State.moduleFault_parts, State.setReg_parts, Nat.reduceAnd]

theorem State.runFirmware_parts {M : Nat} (s : State) (b : Bool) (w : Firmware) (hM : M &&& 8912904 = 8912904 := by decide) :
    (State.runFirmware s b w).mask M = s.mask M := by
  refine mask_mono (m := 8912904) ?_ hM
  simp only [State.runFirmware, State.setReg_parts, mask_upd, and_self, true_or, or_true, Nat.reducePow, Nat.reduceDiv, Nat.reduceMod, Nat.reduceAnd]

theorem execWdt_parts {M : Nat} (s : State) (hM : M &&& 67108862 = 67108862 := by decide) :
    Keeps M s (execWdt s) := by
  refine keeps_mono (m := 67108862) ?_ hM
  simp only [execWdt, keeps_next, keeps_ite, State.recovery_parts, State.resetReq_parts, State.setReg_parts, mask_ite, ite_self, implies_true, and_self, Nat.reduceAnd]

theorem State.lockupReset_parts {M : Nat} (s : State) (f qual : Nat) (hM : M &&& 67108862 = 67108862 := by decide) :
    (State.lockupReset s f qual).mask M = s.mask M := by
  refine mask_mono (m := 67108862) ?_ hM
  simp only [State.lockupReset, State.resetReq_parts, Nat.reduceAnd]

theorem execStall_parts {M : Nat} (f : Fin 48) (s : State) (hM : M &&& 67108862 = 67108862 := by decide) :
    Keeps M s (execStall f s) := by
  refine keeps_mono (m := 67108862) ?_ hM
  simp only [execStall, keeps_next, keeps_ite, State.lockupReset_parts, implies_true, and_self, Nat.reduceAnd]

theorem execSchCoreLockup_parts {M : Nat} (a : Addr) (s : State) (hM : M &&& 67108862 = 67108862 := by decide) :
    Keeps M s (execSchCoreLockup a s) := by
  refine keeps_mono (m := 67108862) ?_ hM
  unfold execSchCoreLockup; (repeat' split) <;> simp only [keeps_next, keeps_ite, State.absorb_parts, State.lockupReset_parts, implies_true, and_self, Nat.reduceAnd]

end Sys2Proof.Machine
end

