-- ==== Sys2Proof/Laws/PartsRope.lean ====
section
/-!
SUPPORT. Sys2Proof/Laws/PartsRope.lean: the parts of the state that each operation and each meaning may change: power, clocks, ropes and images.
-/

set_option Elab.async false

namespace Sys2Proof.Machine

theorem State.retrainPoor_parts {M : Nat} (s : State) (hM : M &&& 33964056 = 33964056 := by decide) :
    (State.retrainPoor s).mask M = s.mask M := by
  refine mask_mono (m := 33964056) ?_ hM
  simp only [State.retrainPoor, State.portRetrain_parts, mask_ite, ite_self, mask_foldl, implies_true, Nat.reduceAnd]

theorem State.setSlot_parts {M : Nat} (s : State) (b : Nat) (x : CkpSlot) (hM : M &&& 65536 = 65536 := by decide) :
    (State.setSlot s b x).mask M = s.mask M := by
  refine mask_mono (m := 65536) ?_ hM
  simp only [State.setSlot, mask_upd, and_self, true_or, or_true, Nat.reducePow, Nat.reduceDiv, Nat.reduceMod]

theorem State.restoreField_parts {M : Nat} (s : State) (f : Nat) (c : FieldCap) (hM : M &&& 16 = 16 := by decide) :
    (State.restoreField s f c).mask M = s.mask M := by
  refine mask_mono (m := 16) ?_ hM
  refine (mask_foldl _ _ (fun s e => ?_) _ _).trans (State.updField_parts ..)
  cases s.position f e.1 with
  | none => rfl
  | some q => exact State.setTile_parts ..

theorem State.restoreSlot_parts {M : Nat} (s : State) (e : Nat) (hM : M &&& 16 = 16 := by decide) :
    (State.restoreSlot s e).mask M = s.mask M := by
  refine mask_mono (m := 16) ?_ hM
  unfold State.restoreSlot; (repeat' split) <;> simp only [State.restoreField_parts, mask_foldl, implies_true, Nat.reduceAnd]

theorem State.restoreReturn_parts {M : Nat} (s : State) (f : Nat) (hM : M &&& 16 = 16 := by decide) :
    (State.restoreReturn s f).mask M = s.mask M := by
  refine mask_mono (m := 16) ?_ hM
  unfold State.restoreReturn; (repeat' split) <;> simp only [State.mapTiles_parts, State.restoreField_parts, Nat.reduceAnd]

theorem State.haltAll_parts {M : Nat} (s : State) (hM : M &&& 12312 = 12312 := by decide) :
    (State.haltAll s).mask M = s.mask M := by
  refine mask_mono (m := 12312) ?_ hM
  simp only [State.haltAll, State.mapFields_parts, State.setReg_parts, State.stopLive_parts, mask_upd, mask_ite, ite_self, mask_foldl, implies_true, and_self, true_or, or_true, Nat.reducePow, Nat.reduceDiv, Nat.reduceMod, Nat.reduceAnd]

theorem State.flushRope_parts {M : Nat} (s : State) (hM : M &&& 4915208 = 4915208 := by decide) :
    (State.flushRope s).mask M = s.mask M := by
  refine mask_mono (m := 4915208) ?_ hM
  simp only [State.flushRope, State.setReg_parts, State.updPort_parts, mask_upd, mask_ite, ite_self, mask_foldl, implies_true, and_self, true_or, or_true, Nat.reducePow, Nat.reduceDiv, Nat.reduceMod, Nat.reduceAnd]

theorem State.stopRope_parts {M : Nat} (s : State) (reason : Nat) (hM : M &&& 4927512 = 4927512 := by decide) :
    (State.stopRope s reason).mask M = s.mask M := by
  refine mask_mono (m := 4927512) ?_ hM
  unfold State.stopRope
  refine (State.setReg_parts ..).trans ?_
  refine (mask_upd ..).trans ?_
  exact (State.setReg_parts ..).trans ((State.setReg_parts ..).trans ((State.flushRope_parts ..).trans (State.haltAll_parts ..)))

theorem State.takeMark_parts {M : Nat} (s : State) (b : List Nat) (hM : M &&& 81944 = 81944 := by decide) :
    (State.takeMark s b).mask M = s.mask M := by
  refine mask_mono (m := 81944) ?_ hM
  simp only [State.takeMark, State.moduleFault_parts, mask_upd, mask_ite, ite_self, and_self, true_or, or_true, Nat.reducePow, Nat.reduceDiv, Nat.reduceMod, Nat.reduceAnd]

theorem State.takeStart_parts {M : Nat} (s : State) (b : List Nat) (hM : M &&& 4259848 = 4259848 := by decide) :
    (State.takeStart s b).mask M = s.mask M := by
  refine mask_mono (m := 4259848) ?_ hM
  simp only [State.takeStart, State.setReg_parts, mask_upd, mask_ite, ite_self, and_self, true_or, or_true, Nat.reducePow, Nat.reduceDiv, Nat.reduceMod, Nat.reduceAnd]

theorem State.takeInvoke_parts {M : Nat} (s : State) (cell : Cell) (hM : M &&& 4284440 = 4284440 := by decide) :
    (State.takeInvoke s cell).mask M = s.mask M := by
  refine mask_mono (m := 4284440) ?_ hM
  simp only [State.takeInvoke, State.moduleFault_parts, mask_upd, mask_ite, ite_self, and_self, true_or, or_true, Nat.reducePow, Nat.reduceDiv, Nat.reduceMod, Nat.reduceAnd]

theorem State.takeClear_parts {M : Nat} (s : State) (b : List Nat) (hM : M &&& 8 = 8 := by decide) :
    (State.takeClear s b).mask M = s.mask M := by
  refine mask_mono (m := 8) ?_ hM
  simp only [State.takeClear, State.setReg_parts, Nat.reduceAnd]

theorem State.takeCommit_parts {M : Nat} (s : State) (b : List Nat) (hM : M &&& 4259848 = 4259848 := by decide) :
    (State.takeCommit s b).mask M = s.mask M := by
  refine mask_mono (m := 4259848) ?_ hM
  simp only [State.takeCommit]; (repeat' split) <;> simp only [State.setReg_parts, State.setSlot_parts, mask_upd, and_self, true_or, or_true, Nat.reducePow, Nat.reduceDiv, Nat.reduceMod, Nat.reduceAnd]

theorem State.takeAbort_parts {M : Nat} (s : State) (b : List Nat) (hM : M &&& 67108862 = 67108862 := by decide) :
    (State.takeAbort s b).mask M = s.mask M := by
  refine mask_mono (m := 67108862) ?_ hM
  simp only [State.takeAbort, State.flushRope_parts, State.haltAll_parts, State.resetReq_parts, State.setReg_parts, State.setRopeState_parts, State.stopRope_parts, mask_upd, mask_ite, ite_self, and_self, true_or, or_true, Nat.reducePow, Nat.reduceDiv, Nat.reduceMod, Nat.reduceAnd]

theorem State.takeEpoch_parts {M : Nat} (s : State) (c : Cell) (hM : M &&& 67108862 = 67108862 := by decide) :
    (State.takeEpoch s c).mask M = s.mask M := by
  refine mask_mono (m := 67108862) ?_ hM
  simp only [State.takeEpoch]; (repeat' split) <;> simp only [State.takeAbort_parts, State.takeClear_parts, State.takeCommit_parts, State.takeInvoke_parts, State.takeMark_parts, State.takeStart_parts, Nat.reduceAnd]

theorem State.castEpoch_parts {M : Nat} (s : State) (b : List Nat) (hM : M &&& 67108862 = 67108862 := by decide) :
    (State.castEpoch s b).mask M = s.mask M := by
  refine mask_mono (m := 67108862) ?_ hM
  simp only [State.castEpoch, State.bcastCell_parts, State.takeEpoch_parts, mask_ite, ite_self, Nat.reduceAnd]

theorem nextEpoch_parts {s s' : State} {sub : Nat} {c : Cell} {M : Nat} (h : s.nextEpoch sub = some (c, s')) (hM : M &&& 262144 = 262144 := by decide) : s'.mask M = s.mask M := by
  unfold State.nextEpoch at h
  split at h
  · rename_i hx
    split at h
    · cases h
      exact takeCell_parts hx hM
    · cases h
  · cases h

theorem State.serveEpoch_parts {M : Nat} (s : State) (sub : Nat) (hM : M &&& 67108862 = 67108862 := by decide) :
    (State.serveEpoch s sub).mask M = s.mask M := by
  refine mask_mono (m := 67108862) ?_ hM
  unfold State.serveEpoch
  cases h : s.nextEpoch sub with
  | none => rfl
  | some e => exact (State.takeEpoch_parts ..).trans (nextEpoch_parts (c := e.1) (s' := e.2) h)

theorem State.castAbort_parts {M : Nat} (s : State) (code origin : Nat) (hM : M &&& 67108862 = 67108862 := by decide) :
    (State.castAbort s code origin).mask M = s.mask M := by
  refine mask_mono (m := 67108862) ?_ hM
  unfold State.castAbort; (repeat' split) <;> simp only [State.castEpoch_parts, mask_ite, ite_self, Nat.reduceAnd]

theorem State.holdLow_parts {M : Nat} (s : State) (acyc : Nat) (hM : M &&& 65536 = 65536 := by decide) :
    (State.holdLow s acyc).mask M = s.mask M := by
  refine mask_mono (m := 65536) ?_ hM
  simp only [State.holdLow, mask_upd, and_self, true_or, or_true, Nat.reducePow, Nat.reduceDiv, Nat.reduceMod]

theorem State.trigger_parts {M : Nat} (s : State) (code acyc origin : Nat) (hM : M &&& 67108862 = 67108862 := by decide) :
    (State.trigger s code acyc origin).mask M = s.mask M := by
  refine mask_mono (m := 67108862) ?_ hM
  simp only [State.trigger, State.castAbort_parts, State.holdLow_parts, mask_upd, mask_ite, ite_self, and_self, true_or, or_true, Nat.reducePow, Nat.reduceDiv, Nat.reduceMod, Nat.reduceAnd]

theorem State.enterReplan_parts {M : Nat} (s : State) (reason : Nat) (hM : M &&& 38744088 = 38744088 := by decide) :
    (State.enterReplan s reason).mask M = s.mask M := by
  refine mask_mono (m := 38744088) ?_ hM
  simp only [State.enterReplan, State.bcastCell_parts, State.flushRope_parts, State.haltAll_parts, State.holdLow_parts, State.setReg_parts, mask_upd, mask_ite, ite_self, and_self, true_or, or_true, Nat.reducePow, Nat.reduceDiv, Nat.reduceMod, Nat.reduceAnd]

theorem State.formSolo_parts {M : Nat} (s : State) (hM : M &&& 65544 = 65544 := by decide) :
    (State.formSolo s).mask M = s.mask M := by
  refine mask_mono (m := 65544) ?_ hM
  simp only [State.formSolo]; (repeat' split) <;> simp only [State.setReg_parts, mask_upd, and_self, true_or, or_true, Nat.reducePow, Nat.reduceDiv, Nat.reduceMod, Nat.reduceAnd]

theorem State.unformSolo_parts {M : Nat} (s : State) (hM : M &&& 65544 = 65544 := by decide) :
    (State.unformSolo s).mask M = s.mask M := by
  refine mask_mono (m := 65544) ?_ hM
  simp only [State.unformSolo, State.setReg_parts, mask_upd, mask_ite, ite_self, and_self, true_or, or_true, Nat.reducePow, Nat.reduceDiv, Nat.reduceMod, Nat.reduceAnd]

theorem execBrownOutWarning_parts {M : Nat} (v : BitVec 16) (s : State) (hM : M &&& 34553880 = 34553880 := by decide) :
    Keeps M s (execBrownOutWarning v s) := by
  refine keeps_mono (m := 34553880) ?_ hM
  simp only [execBrownOutWarning, keeps_next, keeps_ite, State.moduleFault_parts, State.satReg_parts, State.setNeed_parts, State.setReg_parts, implies_true, and_self, Nat.reduceAnd]

theorem execBrownOutClear_parts {M : Nat} (s : State) (hM : M &&& 34553880 = 34553880 := by decide) :
    Keeps M s (execBrownOutClear s) := by
  refine keeps_mono (m := 34553880) ?_ hM
  simp only [execBrownOutClear, keeps_next, keeps_ite, State.moduleFault_parts, State.setNeed_parts, State.setReg_parts, implies_true, and_self, Nat.reduceAnd]

theorem execPwrOverLimit_parts {M : Nat} (total : BitVec 32) (fields : List (BitVec 16)) (s : State) (hM : M &&& 36651032 = 36651032 := by decide) :
    Keeps M s (execPwrOverLimit total fields s) := by
  refine keeps_mono (m := 36651032) ?_ hM
  simp only [execPwrOverLimit, keeps_next, keeps_ite, State.moduleFault_parts, State.setNeed_parts, State.setOd_parts, State.setReg_parts, mask_upd, mask_ite, ite_self, mask_foldl, implies_true, and_self, true_or, or_true, Nat.reducePow, Nat.reduceDiv, Nat.reduceMod, Nat.reduceAnd]

theorem State.standby_parts {M : Nat} (s : State) (hM : M &&& 67108862 = 67108862 := by decide) :
    (State.standby s).mask M = s.mask M := by
  refine mask_mono (m := 67108862) ?_ hM
  simp only [State.standby, State.railsOff_parts, State.resetReq_parts, State.setReg_parts, mask_upd, mask_ite, ite_self, and_self, true_or, or_true, Nat.reducePow, Nat.reduceDiv, Nat.reduceMod, Nat.reduceAnd]

theorem State.trip_parts {M : Nat} (s : State) (cause : Nat) (hM : M &&& 67108862 = 67108862 := by decide) :
    (State.trip s cause).mask M = s.mask M := by
  refine mask_mono (m := 67108862) ?_ hM
  simp only [State.trip, State.moduleFault_parts, State.setOd_parts, State.setReg_parts, State.standby_parts, mask_ite, ite_self, Nat.reduceAnd]

theorem execPwrEnLow_parts {M : Nat} (s : State) (hM : M &&& 67108862 = 67108862 := by decide) :
    Keeps M s (execPwrEnLow s) := by
  refine keeps_mono (m := 67108862) ?_ hM
  simp only [execPwrEnLow, keeps_next, State.standby_parts, mask_upd, mask_ite, ite_self, and_self, true_or, or_true, Nat.reducePow, Nat.reduceDiv, Nat.reduceMod, Nat.reduceAnd]

theorem execPwrEnHigh_parts {M : Nat} (leakLow : Bool) (s : State) (hM : M &&& 524296 = 524296 := by decide) :
    Keeps M s (execPwrEnHigh leakLow s) := by
  refine keeps_mono (m := 524296) ?_ hM
  simp only [execPwrEnHigh, keeps_next, keeps_ite, State.clearTrip_parts, State.setReg_parts, mask_upd, mask_ite, ite_self, implies_true, and_self, true_or, or_true, Nat.reducePow, Nat.reduceDiv, Nat.reduceMod, Nat.reduceAnd]

theorem execLeakResponse_parts {M : Nat} (s : State) (hM : M &&& 67108862 = 67108862 := by decide) :
    Keeps M s (execLeakResponse s) := by
  refine keeps_mono (m := 67108862) ?_ hM
  simp only [execLeakResponse, keeps_next, keeps_ite, State.fresh_parts, State.moduleFault_parts, State.setOd_parts, State.setReg_parts, State.trip_parts, mask_upd, implies_true, and_self, true_or, or_true, Nat.reducePow, Nat.reduceDiv, Nat.reduceMod, Nat.reduceAnd]

theorem execCltFlowLow_parts {M : Nat} (s : State) (hM : M &&& 540696 = 540696 := by decide) :
    Keeps M s (execCltFlowLow s) := by
  refine keeps_mono (m := 540696) ?_ hM
  simp only [execCltFlowLow, keeps_next, keeps_ite, State.moduleFault_parts, State.warn_parts, implies_true, and_self, Nat.reduceAnd]

theorem execFlowLowTrip_parts {M : Nat} (s : State) (hM : M &&& 67108862 = 67108862 := by decide) :
    Keeps M s (execFlowLowTrip s) := by
  refine keeps_mono (m := 67108862) ?_ hM
  simp only [execFlowLowTrip, keeps_next, keeps_ite, State.trip_parts, implies_true, and_self, Nat.reduceAnd]

theorem execFlowPdoTimeout_parts {M : Nat} (s : State) (hM : M &&& 524288 = 524288 := by decide) :
    Keeps M s (execFlowPdoTimeout s) := by
  refine keeps_mono (m := 524288) ?_ hM
  simp only [execFlowPdoTimeout, keeps_next, keeps_ite, State.warn_parts, implies_true, and_self, Nat.reduceAnd]

theorem execCltRate_parts {M : Nat} (s : State) (hM : M &&& 540696 = 540696 := by decide) :
    Keeps M s (execCltRate s) := by
  refine keeps_mono (m := 540696) ?_ hM
  simp only [execCltRate, keeps_next, keeps_ite, State.moduleFault_parts, State.warn_parts, mask_upd, implies_true, and_self, true_or, or_true, Nat.reducePow, Nat.reduceDiv, Nat.reduceMod, Nat.reduceAnd]

theorem execStandbyFlowWarning_parts {M : Nat} (s : State) (hM : M &&& 540696 = 540696 := by decide) :
    Keeps M s (execStandbyFlowWarning s) := by
  refine keeps_mono (m := 540696) ?_ hM
  simp only [execStandbyFlowWarning, keeps_next, keeps_ite, State.moduleFault_parts, State.warn_parts, mask_upd, implies_true, and_self, true_or, or_true, Nat.reducePow, Nat.reduceDiv, Nat.reduceMod, Nat.reduceAnd]

theorem execClearTrip_parts {M : Nat} (s : State) (hM : M &&& 8 = 8 := by decide) :
    Keeps M s (execClearTrip s) := by
  refine keeps_mono (m := 8) ?_ hM
  simp only [execClearTrip, keeps_next, keeps_ite, State.clearTrip_parts, State.cmd_parts, implies_true, and_self, Nat.reduceAnd]

theorem State.goDark_parts {M : Nat} (s : State) (f : Nat) (hM : M &&& 544792 = 544792 := by decide) :
    (State.goDark s f).mask M = s.mask M := by
  refine mask_mono (m := 544792) ?_ hM
  simp only [State.goDark, State.fieldFault_parts, State.mapTiles_parts, State.moduleFault_parts, State.satReg_parts, State.setRail_parts, State.setReg_parts, mask_upd, mask_ite, ite_self, and_self, true_or, or_true, Nat.reducePow, Nat.reduceDiv, Nat.reduceMod, Nat.reduceAnd]

theorem State.undark_parts {M : Nat} (s : State) (f : Nat) (hM : M &&& 524296 = 524296 := by decide) :
    (State.undark s f).mask M = s.mask M := by
  refine mask_mono (m := 524296) ?_ hM
  simp only [State.undark, State.setReg_parts, State.setStage_parts, mask_upd, and_self, true_or, or_true, Nat.reducePow, Nat.reduceDiv, Nat.reduceMod, Nat.reduceAnd]

theorem State.takeTemps_parts {M : Nat} (s : State) (t : Nat → Nat → Int) (hM : M &&& 8 = 8 := by decide) :
    (State.takeTemps s t).mask M = s.mask M := by
  refine mask_mono (m := 8) ?_ hM
  unfold State.takeTemps
  dsimp only
  have h := mask_foldl 8 (fun s f =>
    (List.range 4).foldl (fun s k => s.setReg F.FLD_TEL_DIODE_TEMP
      (((List.range 4).map (fun j => wrapNat 16 (t f (4 * k + j)) * 2 ^ (16 * j))).foldl (· + ·) 0) f k)
      ((s.setReg F.FLD_THM_TMAX (wrapNat 16 (hottest (t f)).2) f).setReg F.FLD_THM_DIODE (hottest (t f)).1 f))
    (fun s f => (mask_foldl _ _ (fun s k => State.setReg_parts ..) _ _).trans ((State.setReg_parts ..).trans (State.setReg_parts ..)))
    s.allFields s
  split
  · exact h
  · refine (State.setReg_parts ..).trans ((State.setReg_parts ..).trans ((State.setReg_parts ..).trans ?_))
    exact (State.setReg_parts ..).trans ((State.setReg_parts ..).trans h)

theorem execDiodeSample_parts {M : Nat} (temps : List (BitVec 16)) (s : State) (hM : M &&& 67108862 = 67108862 := by decide) :
    Keeps M s (execDiodeSample temps s) := by
  refine keeps_mono (m := 67108862) ?_ hM
  simp only [execDiodeSample, keeps_next, State.goDark_parts, State.moduleFault_parts, State.setNeed_parts, State.setStage_parts, State.takeTemps_parts, State.trip_parts, mask_upd, mask_ite, ite_self, mask_foldl, implies_true, and_self, true_or, or_true, Nat.reducePow, Nat.reduceDiv, Nat.reduceMod, Nat.reduceAnd]

theorem execStepdownEscalate_parts {M : Nat} (s : State) (hM : M &&& 34537480 = 34537480 := by decide) :
    Keeps M s (execStepdownEscalate s) := by
  refine keeps_mono (m := 34537480) ?_ hM
  simp only [execStepdownEscalate, keeps_next, keeps_ite, State.setNeed_parts, implies_true, and_self, Nat.reduceAnd]

theorem execThermalStageLeave_parts {M : Nat} (stage : Fin 4) (s : State) (hM : M &&& 34537480 = 34537480 := by decide) :
    Keeps M s (execThermalStageLeave stage s) := by
  refine keeps_mono (m := 34537480) ?_ hM
  simp only [execThermalStageLeave, keeps_next, keeps_ite, State.setNeed_parts, State.setStage_parts, implies_true, and_self, Nat.reduceAnd]

theorem execFieldReturn_parts {M : Nat} (f : Fin 48) (s : State) (hM : M &&& 47827224 = 47827224 := by decide) :
    Keeps M s (execFieldReturn f s) := by
  refine keeps_mono (m := 47827224) ?_ hM
  simp only [execFieldReturn, keeps_next, keeps_ite, State.bloomField_parts, State.bloomFinish_parts, State.catchUp_parts, State.mapTiles_parts, State.migrateCut_parts, State.reloadField_parts, State.restoreReturn_parts, State.undark_parts, State.wakeRail_parts, mask_foldl, implies_true, and_self, Nat.reduceAnd]

theorem execPwrRailFail_parts {M : Nat} (rail : Fin 8) (f : Fin 48) (s : State) (hM : M &&& 67108862 = 67108862 := by decide) :
    Keeps M s (execPwrRailFail rail f s) := by
  refine keeps_mono (m := 67108862) ?_ hM
  simp only [execPwrRailFail, keeps_next, keeps_ite, State.moduleFault_parts, State.replan_parts, State.setRail_parts, State.trip_parts, mask_ite, ite_self, implies_true, and_self, Nat.reduceAnd]

theorem State.bootFail_parts {M : Nat} (s : State) (stage fault : Nat) (hM : M &&& 16408 = 16408 := by decide) :
    (State.bootFail s stage fault).mask M = s.mask M := by
  refine mask_mono (m := 16408) ?_ hM
  simp only [State.bootFail, State.moduleFault_parts, State.setReg_parts, Nat.reduceAnd]

theorem State.nextPhase_parts {M : Nat} (s : State) (hM : M &&& 524296 = 524296 := by decide) :
    (State.nextPhase s).mask M = s.mask M := by
  refine mask_mono (m := 524296) ?_ hM
  simp only [State.nextPhase, State.setReg_parts, mask_upd, mask_ite, ite_self, and_self, true_or, or_true, Nat.reducePow, Nat.reduceDiv, Nat.reduceMod, Nat.reduceAnd]

theorem execRailPowerGood_parts {M : Nat} (good : Bool) (s : State) (hM : M &&& 540696 = 540696 := by decide) :
    Keeps M s (execRailPowerGood good s) := by
  refine keeps_mono (m := 540696) ?_ hM
  simp only [execRailPowerGood, keeps_next, keeps_ite, State.bootFail_parts, State.nextPhase_parts, State.replan_parts, State.setLock_parts, State.setRail_parts, State.setReg_parts, State.undark_parts, mask_upd, mask_ite, ite_self, implies_true, and_self, true_or, or_true, Nat.reducePow, Nat.reduceDiv, Nat.reduceMod, Nat.reduceAnd]

theorem execFieldWake_parts {M : Nat} (s : State) (hM : M &&& 1572888 = 1572888 := by decide) :
    Keeps M s (execFieldWake s) := by
  refine keeps_mono (m := 1572888) ?_ hM
  unfold execFieldWake; (repeat' split) <;> simp only [keeps_next, State.catchUp_parts, State.wakeRail_parts, mask_upd, mask_ite, ite_self, and_self, true_or, or_true, Nat.reducePow, Nat.reduceDiv, Nat.reduceMod, Nat.reduceAnd]

theorem execMrefSwitch_parts {M : Nat} (src : Fin 4) (port : Fin 8) (ready : BitVec 3) (s : State) (hM : M &&& 8 = 8 := by decide) :
    Keeps M s (execMrefSwitch src port ready s) := by
  refine keeps_mono (m := 8) ?_ hM
  simp only [execMrefSwitch, keeps_next, keeps_ite, State.setReg_parts, State.takeMref_parts, implies_true, and_self, Nat.reduceAnd]

theorem execMrefFail_parts {M : Nat} (s : State) (hM : M &&& 67108862 = 67108862 := by decide) :
    Keeps M s (execMrefFail s) := by
  refine keeps_mono (m := 67108862) ?_ hM
  simp only [execMrefFail, keeps_next, State.resetReq_parts, State.setReg_parts, State.stopRamp_parts, Nat.reduceAnd]

theorem State.halfStep_parts {M : Nat} (s : State) (a : Nat) (hM : M &&& 34537480 = 34537480 := by decide) :
    (State.halfStep s a).mask M = s.mask M := by
  refine mask_mono (m := 34537480) ?_ hM
  simp only [State.halfStep, State.retarget_parts, State.setReg_parts, mask_upd, mask_ite, ite_self, and_self, true_or, or_true, Nat.reducePow, Nat.reduceDiv, Nat.reduceMod, Nat.reduceAnd]

theorem execDividerStep_parts {M : Nat} (s : State) (hM : M &&& 34537480 = 34537480 := by decide) :
    Keeps M s (execDividerStep s) := by
  refine keeps_mono (m := 34537480) ?_ hM
  unfold execDividerStep; (repeat' split) <;> simp only [keeps_next, State.halfStep_parts, mask_upd, and_self, true_or, or_true, Nat.reducePow, Nat.reduceDiv, Nat.reduceMod, Nat.reduceAnd]

theorem execHostreq_parts {M : Nat} (v : BitVec 8) (s : State) (hM : M &&& 34537480 = 34537480 := by decide) :
    Keeps M s (execHostreq v s) := by
  refine keeps_mono (m := 34537480) ?_ hM
  simp only [execHostreq, keeps_next, State.setNeed_parts, State.setReg_parts, Nat.reduceAnd]

theorem State.ropeCmd_parts {M : Nat} (s : State) (status op : Nat) (hM : M &&& 8 = 8 := by decide) :
    (State.ropeCmd s status op).mask M = s.mask M := by
  refine mask_mono (m := 8) ?_ hM
  simp only [State.ropeCmd, State.cmd_parts, Nat.reduceAnd]

theorem execForm_parts {M : Nat} (aovr : Bool) (anchor : BitVec 15) (s : State) (hM : M &&& 327688 = 327688 := by decide) :
    Keeps M s (execForm aovr anchor s) := by
  refine keeps_mono (m := 327688) ?_ hM
  unfold execForm; (repeat' split) <;> simp only [keeps_next, keeps_ite, State.ropeCmd_parts, State.setReg_parts, mask_upd, implies_true, and_self, true_or, or_true, Nat.reducePow, Nat.reduceDiv, Nat.reduceMod, Nat.reduceAnd]

theorem execStop_parts {M : Nat} (s : State) (hM : M &&& 67108862 = 67108862 := by decide) :
    Keeps M s (execStop s) := by
  refine keeps_mono (m := 67108862) ?_ hM
  simp only [execStop, keeps_next, keeps_ite, State.castEpoch_parts, State.ropeCmd_parts, State.stopRope_parts, implies_true, and_self, Nat.reduceAnd]

theorem execLeave_parts {M : Nat} (s : State) (hM : M &&& 65544 = 65544 := by decide) :
    Keeps M s (execLeave s) := by
  refine keeps_mono (m := 65544) ?_ hM
  simp only [execLeave, keeps_next, keeps_ite, State.formSolo_parts, State.ropeCmd_parts, State.setReg_parts, mask_ite, ite_self, implies_true, and_self, Nat.reduceAnd]

theorem execPrepareDone_parts {M : Nat} (mref : Bool) (s : State) (hM : M &&& 4927512 = 4927512 := by decide) :
    Keeps M s (execPrepareDone mref s) := by
  refine keeps_mono (m := 4927512) ?_ hM
  simp only [execPrepareDone, keeps_next, keeps_ite, State.setReg_parts, State.stopRope_parts, State.takeMref_parts, mask_upd, mask_ite, ite_self, implies_true, and_self, true_or, or_true, Nat.reducePow, Nat.reduceDiv, Nat.reduceMod, Nat.reduceAnd]; (repeat' split) <;> simp only [State.setReg_parts, State.takeMref_parts, mask_upd, implies_true, and_self, true_or, or_true, Nat.reducePow, Nat.reduceDiv, Nat.reduceMod, Nat.reduceAnd]

theorem execJoin_parts {M : Nat} (s : State) (hM : M &&& 33947656 = 33947656 := by decide) :
    Keeps M s (execJoin s) := by
  refine keeps_mono (m := 33947656) ?_ hM
  unfold execJoin; (repeat' split) <;> simp only [keeps_next, State.request_parts, Nat.reduceAnd]

theorem execMail_parts {M : Nat} (s : State) (hM : M &&& 34013192 = 34013192 := by decide) :
    Keeps M s (execMail s) := by
  refine keeps_mono (m := 34013192) ?_ hM
  refine (keeps_next _ _ _).2 (State.serve_parts _ _ _ (fun s d => ?_))
  dsimp only
  split
  · exact State.answer_parts ..
  · split
    · exact State.answer_parts ..
    · split
      · split
        · exact (State.answer_parts ..).trans ((State.setReg_parts ..).trans (mask_upd ..))
        · exact State.answer_parts ..
      · split
        · exact (State.answer_parts ..).trans (mask_upd ..)
        · split
          · exact (State.answer_parts ..).trans (mask_upd ..)
          · exact State.answer_parts ..

theorem execMailDone_parts {M : Nat} (s : State) (hM : M &&& 5189656 = 5189656 := by decide) :
    Keeps M s (execMailDone s) := by
  refine keeps_mono (m := 5189656) ?_ hM
  simp only [execMailDone, keeps_next, State.setReg_parts, State.stopRope_parts, State.takeAnswer_parts, mask_upd, mask_ite, ite_self, implies_true, and_self, true_or, or_true, Nat.reducePow, Nat.reduceDiv, Nat.reduceMod, Nat.reduceAnd]

theorem execFormTimeout_parts {M : Nat} (s : State) (hM : M &&& 38744088 = 38744088 := by decide) :
    Keeps M s (execFormTimeout s) := by
  refine keeps_mono (m := 38744088) ?_ hM
  simp only [execFormTimeout, keeps_next, keeps_ite, State.bcastCell_parts, State.stopRope_parts, implies_true, and_self, Nat.reduceAnd]

theorem State.castStart_parts {M : Nat} (s : State) (slack : Nat) (e : Option Nat) (hM : M &&& 67108862 = 67108862 := by decide) :
    (State.castStart s slack e).mask M = s.mask M := by
  refine mask_mono (m := 67108862) ?_ hM
  simp only [State.castStart, State.castEpoch_parts, Nat.reduceAnd]

theorem execStart_parts {M : Nat} (slack : BitVec 32) (s : State) (hM : M &&& 67108862 = 67108862 := by decide) :
    Keeps M s (execStart slack s) := by
  refine keeps_mono (m := 67108862) ?_ hM
  unfold execStart
  cases h : s.nextEpoch 2 with
  | some e => exact (keeps_next _ _ _).2 ((State.takeEpoch_parts ..).trans (nextEpoch_parts (c := e.1) (s' := e.2) h))
  | none =>
    dsimp only
    split
    · refine (keeps_next _ _ _).2 ?_
      split
      · exact State.retrainPoor_parts ..
      · rfl
    · cases s.restoreEpoch <;> cases s.rope.restore.isSome <;> dsimp only
      · exact (keeps_next _ _ _).2 (State.castStart_parts ..)
      · exact (keeps_next _ _ _).2 (State.castEpoch_parts ..)
      · exact (keeps_next _ _ _).2 (State.castStart_parts ..)
      · exact (keeps_next _ _ _).2 (State.castStart_parts ..)

theorem execRopeStart_parts {M : Nat} (s : State) (hM : M &&& 4927516 = 4927516 := by decide) :
    Keeps M s (execRopeStart s) := by
  refine keeps_mono (m := 4927516) ?_ hM
  unfold execRopeStart; (repeat' split) <;> simp only [keeps_next, State.announced_parts, State.restartKeys_parts, State.restoreSlot_parts, State.setDivider_parts, State.setReg_parts, State.setRopeState_parts, mask_upd, and_self, true_or, or_true, Nat.reducePow, Nat.reduceDiv, Nat.reduceMod, Nat.reduceAnd]

theorem execTimeSend_parts {M : Nat} (s : State) (hM : M &&& 33947656 = 33947656 := by decide) :
    Keeps M s (execTimeSend s) := by
  refine keeps_mono (m := 33947656) ?_ hM
  simp only [execTimeSend, keeps_next, keeps_ite, State.sendCell_parts, mask_foldl, implies_true, and_self, Nat.reduceAnd]

theorem State.takeTod_parts {M : Nat} (s : State) (ns : Nat) (hM : M &&& 524296 = 524296 := by decide) :
    (State.takeTod s ns).mask M = s.mask M := by
  refine mask_mono (m := 524296) ?_ hM
  simp only [State.takeTod, State.setReg_parts, mask_upd, mask_ite, ite_self, and_self, true_or, or_true, Nat.reducePow, Nat.reduceDiv, Nat.reduceMod, Nat.reduceAnd]

theorem execTime_parts {M : Nat} (s : State) (hM : M &&& 868376 = 868376 := by decide) :
    Keeps M s (execTime s) := by
  refine keeps_mono (m := 868376) ?_ hM
  unfold execTime
  cases h : s.takeCell (fun c => c.type = 2) with
  | none => exact (keeps_next _ _ _).2 rfl
  | some e =>
    obtain ⟨x, u⟩ := e
    refine keeps_trans (s' := u) ?_ (takeCell_parts h)
    dsimp only
    have ht := (State.takeTod_parts (M := 868376) ({ u with rope := { u.rope with lastTime := u.ref + 1 } } : State) (leAt x.2.body 8 8)).trans (mask_upd _ u ..)
    generalize ({ u with rope := { u.rope with lastTime := u.ref + 1 } } : State).takeTod (leAt x.2.body 8 8) = v at ht
    split
    · exact (keeps_next _ _ _).2 ht
    · split
      · exact (keeps_next _ _ _).2 ((mask_upd _ v ..).trans ht)
      · split
        · exact (keeps_next _ _ _).2 ht
        · refine (keeps_next _ _ _).2 ?_
          split
          · exact ht
          · exact (State.moduleFault_parts ..).trans ht

theorem execTimeMissing_parts {M : Nat} (s : State) (hM : M &&& 81944 = 81944 := by decide) :
    Keeps M s (execTimeMissing s) := by
  refine keeps_mono (m := 81944) ?_ hM
  simp only [execTimeMissing, keeps_next, keeps_ite, State.moduleFault_parts, mask_upd, implies_true, and_self, true_or, or_true, Nat.reducePow, Nat.reduceDiv, Nat.reduceMod, Nat.reduceAnd]

theorem execEpochBoundary_parts {M : Nat} (s : State) (hM : M &&& 67108862 = 67108862 := by decide) :
    Keeps M s (execEpochBoundary s) := by
  refine keeps_mono (m := 67108862) ?_ hM
  simp only [execEpochBoundary, keeps_next, keeps_ite, State.castEpoch_parts, State.request_parts, State.retarget_parts, State.sendRatio_parts, mask_upd, mask_ite, ite_self, implies_true, and_self, true_or, or_true, Nat.reducePow, Nat.reduceDiv, Nat.reduceMod, Nat.reduceAnd]

theorem execMark_parts {M : Nat} (s : State) (hM : M &&& 67108862 = 67108862 := by decide) :
    Keeps M s (execMark s) := by
  refine keeps_mono (m := 67108862) ?_ hM
  simp only [execMark, keeps_next, State.serveEpoch_parts, Nat.reduceAnd]

theorem execInvoke_parts {M : Nat} (s : State) (hM : M &&& 67108862 = 67108862 := by decide) :
    Keeps M s (execInvoke s) := by
  refine keeps_mono (m := 67108862) ?_ hM
  simp only [execInvoke, keeps_next, State.serveEpoch_parts, Nat.reduceAnd]

theorem execClear_parts {M : Nat} (s : State) (hM : M &&& 67108862 = 67108862 := by decide) :
    Keeps M s (execClear s) := by
  refine keeps_mono (m := 67108862) ?_ hM
  simp only [execClear, keeps_next, State.serveEpoch_parts, Nat.reduceAnd]

theorem execCommit_parts {M : Nat} (s : State) (hM : M &&& 67108862 = 67108862 := by decide) :
    Keeps M s (execCommit s) := by
  refine keeps_mono (m := 67108862) ?_ hM
  simp only [execCommit, keeps_next, State.serveEpoch_parts, Nat.reduceAnd]

theorem execAbort_parts {M : Nat} (s : State) (hM : M &&& 67108862 = 67108862 := by decide) :
    Keeps M s (execAbort s) := by
  refine keeps_mono (m := 67108862) ?_ hM
  simp only [execAbort, keeps_next, State.serveEpoch_parts, Nat.reduceAnd]

theorem execRequest_parts {M : Nat} (s : State) (hM : M &&& 34537480 = 34537480 := by decide) :
    Keeps M s (execRequest s) := by
  refine keeps_mono (m := 34537480) ?_ hM
  unfold execRequest
  cases h : s.takeCell (fun c => c.type = 3 && leAt c.body 0 1 = 1) with
  | none => exact (keeps_next _ _ _).2 rfl
  | some e =>
    obtain ⟨x, u⟩ := e
    refine keeps_trans (s' := u) ?_ (takeCell_parts h)
    dsimp only
    simp only [keeps_next, State.takeRequest_parts, mask_ite, ite_self, Nat.reduceAnd]

theorem execAnnounce_parts {M : Nat} (s : State) (hM : M &&& 802840 = 802840 := by decide) :
    Keeps M s (execAnnounce s) := by
  refine keeps_mono (m := 802840) ?_ hM
  unfold execAnnounce
  cases h : s.takeCell (fun c => c.type = 3 && leAt c.body 0 1 = 2) with
  | none => exact (keeps_next _ _ _).2 rfl
  | some e =>
    obtain ⟨x, u⟩ := e
    refine keeps_trans (s' := u) ?_ (takeCell_parts h)
    dsimp only
    (repeat' split) <;> simp only [keeps_next, State.announced_parts, State.moduleFault_parts, State.setReg_parts, Nat.reduceAnd]

theorem execInvocationIssue_parts {M : Nat} (e : BitVec 8) (start now : BitVec 64) (ups : List (Addr × Upset)) (s : State) (hM : M &&& 67108862 = 67108862 := by decide) :
    Keeps M s (execInvocationIssue e start now ups s) := by
  refine keeps_mono (m := 67108862) ?_ hM
  simp only [execInvocationIssue]; (repeat' split) <;> simp only [keeps_next, State.castEpoch_parts, State.castStart_parts, State.setReg_parts, State.upsets_parts, mask_upd, and_self, true_or, or_true, Nat.reducePow, Nat.reduceDiv, Nat.reduceMod, Nat.reduceAnd]

theorem execCapturePoint_parts {M : Nat} (s : State) (hM : M &&& 65544 = 65544 := by decide) :
    Keeps M s (execCapturePoint s) := by
  refine keeps_mono (m := 65544) ?_ hM
  unfold execCapturePoint; (repeat' split) <;> simp only [keeps_next, keeps_ite, State.setReg_parts, State.setSlot_parts, mask_upd, implies_true, and_self, true_or, or_true, Nat.reducePow, Nat.reduceDiv, Nat.reduceMod, Nat.reduceAnd]

theorem execCaptureComplete_parts {M : Nat} (s : State) (hM : M &&& 65544 = 65544 := by decide) :
    Keeps M s (execCaptureComplete s) := by
  refine keeps_mono (m := 65544) ?_ hM
  unfold execCaptureComplete; (repeat' split) <;> simp only [keeps_next, State.setReg_parts, State.setSlot_parts, mask_upd, and_self, true_or, or_true, Nat.reducePow, Nat.reduceDiv, Nat.reduceMod, Nat.reduceAnd]

theorem execClearBroadcast_parts {M : Nat} (s : State) (hM : M &&& 67108862 = 67108862 := by decide) :
    Keeps M s (execClearBroadcast s) := by
  refine keeps_mono (m := 67108862) ?_ hM
  simp only [execClearBroadcast, keeps_next, keeps_ite, implies_true]; (repeat' split) <;> simp only [keeps_next, State.castEpoch_parts, mask_upd, implies_true, and_self, true_or, or_true, Nat.reducePow, Nat.reduceDiv, Nat.reduceMod, Nat.reduceAnd]

theorem execUpReport_parts {M : Nat} (s : State) (hM : M &&& 34029592 = 34029592 := by decide) :
    Keeps M s (execUpReport s) := by
  refine keeps_mono (m := 34029592) ?_ hM
  unfold execUpReport; (repeat' split) <;> simp only [keeps_next, keeps_ite, State.retrainPoor_parts, State.sendCell_parts, mask_upd, mask_ite, ite_self, implies_true, and_self, true_or, or_true, Nat.reducePow, Nat.reduceDiv, Nat.reduceMod, Nat.reduceAnd]

theorem execUp_parts {M : Nat} (s : State) (hM : M &&& 67108862 = 67108862 := by decide) :
    Keeps M s (execUp s) := by
  refine keeps_mono (m := 67108862) ?_ hM
  unfold execUp
  cases h : s.takeCell (fun c => c.type = 1 && leAt c.body 0 1 = 4) with
  | none => exact (keeps_next _ _ _).2 rfl
  | some e =>
    obtain ⟨x, u⟩ := e
    refine keeps_trans (s' := u) ?_ (takeCell_parts h)
    dsimp only
    split
    · exact (keeps_next _ _ _).2 rfl
    · refine (keeps_next _ _ _).2 ?_
      split
      · exact (State.trigger_parts ..).trans ((State.setReg_parts ..).trans rfl)
      · exact (State.setReg_parts ..).trans rfl

theorem execMemberLost_parts {M : Nat} (s : State) (hM : M &&& 67108862 = 67108862 := by decide) :
    Keeps M s (execMemberLost s) := by
  refine keeps_mono (m := 67108862) ?_ hM
  simp only [execMemberLost, keeps_next, keeps_ite, State.trigger_parts, implies_true, and_self, Nat.reduceAnd]

theorem execRestoreComplete_parts {M : Nat} (csum : Bool) (s : State) (hM : M &&& 4943896 = 4943896 := by decide) :
    Keeps M s (execRestoreComplete csum s) := by
  refine keeps_mono (m := 4943896) ?_ hM
  unfold execRestoreComplete; (repeat' split) <;> simp only [keeps_next, State.mapTiles_parts, State.moduleFault_parts, State.restoreSlot_parts, State.setRopeState_parts, State.stopRope_parts, mask_upd, mask_ite, ite_self, mask_foldl, implies_true, and_self, true_or, or_true, Nat.reducePow, Nat.reduceDiv, Nat.reduceMod, Nat.reduceAnd]

theorem execShortWaitExpiry_parts {M : Nat} (s : State) (hM : M &&& 38744088 = 38744088 := by decide) :
    Keeps M s (execShortWaitExpiry s) := by
  refine keeps_mono (m := 38744088) ?_ hM
  simp only [execShortWaitExpiry, keeps_next, keeps_ite, State.enterReplan_parts, implies_true, and_self, Nat.reduceAnd]

theorem execAnchorLost_parts {M : Nat} (s : State) (hM : M &&& 4927512 = 4927512 := by decide) :
    Keeps M s (execAnchorLost s) := by
  refine keeps_mono (m := 4927512) ?_ hM
  simp only [execAnchorLost, keeps_next, keeps_ite, State.stopRope_parts, implies_true, and_self, Nat.reduceAnd]

theorem State.cairnBad_parts {M : Nat} (s : State) (p : Nat) (hM : M &&& 16408 = 16408 := by decide) :
    (State.cairnBad s p).mask M = s.mask M := by
  refine mask_mono (m := 16408) ?_ hM
  simp only [State.cairnBad, State.portFault_parts, State.satReg_parts, Nat.reduceAnd]

theorem State.closeOdd_parts {M : Nat} (s : State) (p : Nat) (in_ : Bool) (late : Nat) (hM : M &&& 81944 = 81944 := by decide) :
    (State.closeOdd s p in_ late).mask M = s.mask M := by
  refine mask_mono (m := 81944) ?_ hM
  unfold State.closeOdd; (repeat' split) <;> simp only [State.cairnBad_parts, State.setEngine_parts, Nat.reduceAnd]

theorem execHopSend_parts {M : Nat} (p : Fin 6) (s : State) (hM : M &&& 34029592 = 34029592 := by decide) :
    Keeps M s (execHopSend p s) := by
  refine keeps_mono (m := 34029592) ?_ hM
  unfold execHopSend; (repeat' split) <;> simp only [keeps_next, State.cairnBad_parts, State.closeOdd_parts, State.sendCell_parts, State.setEngine_parts, mask_ite, ite_self, Nat.reduceAnd]

theorem execHop_parts {M : Nat} (s : State) (hM : M &&& 344088 = 344088 := by decide) :
    Keeps M s (execHop s) := by
  refine keeps_mono (m := 344088) ?_ hM
  unfold execHop
  cases h : s.takeCell (fun c => c.type = 4 && leAt c.body 0 1 = 1) with
  | none => exact (keeps_next _ _ _).2 rfl
  | some e =>
    have h' := takeCell_parts (M := 344088) (x := e.1) (s' := e.2) h
    dsimp only
    split
    · split
      · exact (keeps_next _ _ _).2 rfl
      · refine (keeps_next _ _ _).2 ?_
        split
        · exact (State.setEngine_parts ..).trans ((State.addReg_parts ..).trans ((State.setReg_parts ..).trans ((State.setReg_parts ..).trans h')))
        · exact (State.cairnBad_parts ..).trans ((State.setEngine_parts ..).trans ((State.addReg_parts ..).trans ((State.setReg_parts ..).trans ((State.setReg_parts ..).trans h'))))
    · exact (keeps_next _ _ _).2 h'

theorem execCrnMissing_parts {M : Nat} (p : Fin 6) (s : State) (hM : M &&& 81944 = 81944 := by decide) :
    Keeps M s (execCrnMissing p s) := by
  refine keeps_mono (m := 81944) ?_ hM
  unfold execCrnMissing; (repeat' split) <;> simp only [keeps_next, State.closeOdd_parts, State.portFault_parts, State.satReg_parts, State.setEngine_parts, Nat.reduceAnd]

theorem State.settleWindow_parts {M : Nat} (s : State) (hM : M &&& 34029592 = 34029592 := by decide) :
    (State.settleWindow s).mask M = s.mask M := by
  refine mask_mono (m := 34029592) ?_ hM
  simp only [State.settleWindow, State.moduleFault_parts, State.sendCell_parts, State.setReg_parts, mask_upd, mask_ite, ite_self, and_self, true_or, or_true, Nat.reducePow, Nat.reduceDiv, Nat.reduceMod, Nat.reduceAnd]

theorem execSumSend_parts {M : Nat} (s : State) (hM : M &&& 34029592 = 34029592 := by decide) :
    Keeps M s (execSumSend s) := by
  refine keeps_mono (m := 34029592) ?_ hM
  simp only [execSumSend, keeps_next, State.settleWindow_parts, Nat.reduceAnd]

theorem execSum_parts {M : Nat} (s : State) (hM : M &&& 34029592 = 34029592 := by decide) :
    Keeps M s (execSum s) := by
  refine keeps_mono (m := 34029592) ?_ hM
  unfold execSum
  cases h : s.takeCell (fun c => c.type = 4 && leAt c.body 0 1 = 2) with
  | none => exact (keeps_next _ _ _).2 rfl
  | some e =>
    obtain ⟨x, u⟩ := e
    refine keeps_trans (s' := u) ?_ (takeCell_parts h)
    dsimp only
    refine (keeps_next _ _ _).2 ?_
    split
    · exact (State.settleWindow_parts ..).trans rfl
    · rfl

theorem State.tenantWipe_parts {M : Nat} (s : State) (keep : Nat) (hM : M &&& 4262160 = 4262160 := by decide) :
    (State.tenantWipe s keep).mask M = s.mask M := by
  refine mask_mono (m := 4262160) ?_ hM
  simp only [State.tenantWipe, State.mapFields_parts, mask_upd, and_self, true_or, or_true, Nat.reducePow, Nat.reduceDiv, Nat.reduceMod, Nat.reduceAnd]

theorem State.debugWipe_parts {M : Nat} (s : State) (hM : M &&& 46218136 = 46218136 := by decide) :
    (State.debugWipe s).mask M = s.mask M := by
  refine mask_mono (m := 46218136) ?_ hM
  simp only [State.debugWipe, State.clearArray_parts, State.setReg_parts, State.tenantWipe_parts, State.unformSolo_parts, mask_upd, and_self, true_or, or_true, Nat.reducePow, Nat.reduceDiv, Nat.reduceMod, Nat.reduceAnd]

theorem State.refuseImage_parts {M : Nat} (s : State) (op reason : Nat) (hM : M &&& 8 = 8 := by decide) :
    (State.refuseImage s op reason).mask M = s.mask M := by
  refine mask_mono (m := 8) ?_ hM
  simp only [State.refuseImage, State.cmd_parts, State.setReg_parts, mask_ite, ite_self, Nat.reduceAnd]

theorem execInstall_parts {M : Nat} (len : BitVec 48) (sigOk unwrapOk tagOk : Bool) (plain : Blob) (s : State) (hM : M &&& 18968 = 18968 := by decide) :
    Keeps M s (execInstall len sigOk unwrapOk tagOk plain s) := by
  refine keeps_mono (m := 18968) ?_ hM
  simp only [execInstall, keeps_next, keeps_ite, State.cmd_parts, State.moduleFault_parts, State.refuseImage_parts, State.setReg_parts, State.wipeStaging_parts, mask_upd, mask_ite, ite_self, implies_true, and_self, true_or, or_true, Nat.reducePow, Nat.reduceDiv, Nat.reduceMod, Nat.reduceAnd]

theorem State.putInstall_parts {M : Nat} (s : State) (m : Img) (tag len : Nat) (hM : M &&& 46219160 = 46219160 := by decide) :
    (State.putInstall s m tag len).mask M = s.mask M := by
  refine mask_mono (m := 46219160) ?_ hM
  simp only [State.putInstall, State.commitImage_parts, State.formSolo_parts, State.imageRegs_parts, State.tenantWipe_parts, State.unformSolo_parts, State.wipeStaging_parts, mask_upd, mask_ite, ite_self, and_self, true_or, or_true, Nat.reducePow, Nat.reduceDiv, Nat.reduceMod, Nat.reduceAnd]

theorem execInstallCommit_parts {M : Nat} (s : State) (hM : M &&& 46219160 = 46219160 := by decide) :
    Keeps M s (execInstallCommit s) := by
  refine keeps_mono (m := 46219160) ?_ hM
  unfold execInstallCommit; (repeat' split) <;> simp only [keeps_next, State.cmd_parts, State.putInstall_parts, Nat.reduceAnd]

theorem execRemove_parts {M : Nat} (s : State) (hM : M &&& 42021272 = 42021272 := by decide) :
    Keeps M s (execRemove s) := by
  refine keeps_mono (m := 42021272) ?_ hM
  simp only [execRemove, keeps_next, keeps_ite, State.clearArray_parts, State.cmd_parts, State.refuseImage_parts, State.setReg_parts, State.unformSolo_parts, mask_upd, implies_true, and_self, true_or, or_true, Nat.reducePow, Nat.reduceDiv, Nat.reduceMod, Nat.reduceAnd]

theorem execHoldOut_parts {M : Nat} (f : Fin 48) (s : State) (hM : M &&& 24 = 24 := by decide) :
    Keeps M s (execHoldOut f s) := by
  refine keeps_mono (m := 24) ?_ hM
  simp only [execHoldOut, keeps_next, keeps_ite, State.cmd_parts, State.mapTiles_parts, State.setReg_parts, implies_true, and_self, Nat.reduceAnd]

theorem execReturn_parts {M : Nat} (f : Fin 48) (s : State) (hM : M &&& 524312 = 524312 := by decide) :
    Keeps M s (execReturn f s) := by
  refine keeps_mono (m := 524312) ?_ hM
  simp only [execReturn, keeps_next, keeps_ite, State.bloomField_parts, State.cmd_parts, State.mapTiles_parts, State.setReg_parts, mask_upd, mask_ite, ite_self, implies_true, and_self, true_or, or_true, Nat.reducePow, Nat.reduceDiv, Nat.reduceMod, Nat.reduceAnd]

theorem execReturnComplete_parts {M : Nat} (f : Fin 48) (s : State) (hM : M &&& 117016 = 117016 := by decide) :
    Keeps M s (execReturnComplete f s) := by
  refine keeps_mono (m := 117016) ?_ hM
  simp only [execReturnComplete, keeps_next, keeps_ite, State.bloomFinish_parts, State.cmd_parts, State.setReg_parts, implies_true, and_self, Nat.reduceAnd]

end Sys2Proof.Machine
end

