-- ==== Sys2Proof/Laws/PartsBaseCamp.lean ====
section
/-!
SUPPORT. Sys2Proof/Laws/PartsBaseCamp.lean: the parts of the state that each operation and each meaning may change: Base Camp, faults and surveys.
-/

set_option Elab.async false

namespace Sys2Proof.Machine

theorem State.setPair_parts {M : Nat} (s : State) (k v : Nat) (hM : M &&& 8 = 8 := by decide) :
    (State.setPair s k v).mask M = s.mask M := by
  refine mask_mono (m := 8) ?_ hM
  simp only [State.setPair, State.setReg_parts, mask_ite, ite_self, Nat.reduceAnd]

theorem State.pairStops_parts {M : Nat} (s : State) (hM : M &&& 16408 = 16408 := by decide) :
    (State.pairStops s).mask M = s.mask M := by
  refine mask_mono (m := 16408) ?_ hM
  simp only [State.pairStops, State.moduleFault_parts, State.setPair_parts, Nat.reduceAnd]

theorem State.takeover_parts {M : Nat} (s : State) (hM : M &&& 524296 = 524296 := by decide) :
    (State.takeover s).mask M = s.mask M := by
  refine mask_mono (m := 524296) ?_ hM
  simp only [State.takeover, State.satReg_parts, State.setPair_parts, State.setReg_parts, mask_upd, mask_ite, ite_self, and_self, true_or, or_true, Nat.reducePow, Nat.reduceDiv, Nat.reduceMod, Nat.reduceAnd]

theorem execPairDisagree_parts {M : Nat} (s : State) (hM : M &&& 16408 = 16408 := by decide) :
    Keeps M s (execPairDisagree s) := by
  refine keeps_mono (m := 16408) ?_ hM
  simp only [execPairDisagree, keeps_next, keeps_ite, State.pairStops_parts, implies_true, and_self, Nat.reduceAnd]

theorem execBcpair_parts {M : Nat} (s : State) (hM : M &&& 540696 = 540696 := by decide) :
    Keeps M s (execBcpair s) := by
  refine keeps_mono (m := 540696) ?_ hM
  simp only [execBcpair, keeps_next, keeps_ite, State.pairStops_parts, State.pushHist_parts, State.takeover_parts, implies_true, and_self, Nat.reduceAnd]

theorem execTakeover_parts {M : Nat} (s : State) (hM : M &&& 524296 = 524296 := by decide) :
    Keeps M s (execTakeover s) := by
  refine keeps_mono (m := 524296) ?_ hM
  simp only [execTakeover, keeps_next, keeps_ite, State.takeover_parts, implies_true, and_self, Nat.reduceAnd]

theorem execPairSelfTestDone_parts {M : Nat} (k : Fin 2) (pass : Bool) (s : State) (hM : M &&& 16408 = 16408 := by decide) :
    Keeps M s (execPairSelfTestDone k pass s) := by
  refine keeps_mono (m := 16408) ?_ hM
  simp only [execPairSelfTestDone, keeps_next, keeps_ite, State.classReport_parts, State.setPair_parts, State.setReg_parts, mask_ite, ite_self, implies_true, and_self, Nat.reduceAnd]

theorem execTestStandby_parts {M : Nat} (s : State) (hM : M &&& 8 = 8 := by decide) :
    Keeps M s (execTestStandby s) := by
  refine keeps_mono (m := 8) ?_ hM
  simp only [execTestStandby, keeps_next, keeps_ite, State.cmd_parts, State.setPair_parts, implies_true, and_self, Nat.reduceAnd]

theorem execSwap_parts {M : Nat} (s : State) (hM : M &&& 524296 = 524296 := by decide) :
    Keeps M s (execSwap s) := by
  refine keeps_mono (m := 524296) ?_ hM
  simp only [execSwap, keeps_next, keeps_ite, State.cmd_parts, mask_upd, implies_true, and_self, true_or, or_true, Nat.reducePow, Nat.reduceDiv, Nat.reduceMod, Nat.reduceAnd]

theorem State.setLedger_parts {M : Nat} (s : State) (v : Nat) (hM : M &&& 20971528 = 20971528 := by decide) :
    (State.setLedger s v).mask M = s.mask M := by
  refine mask_mono (m := 20971528) ?_ hM
  simp only [State.setLedger, State.hpEvent_parts, mask_upd, mask_ite, ite_self, and_self, true_or, or_true, Nat.reducePow, Nat.reduceDiv, Nat.reduceMod, Nat.reduceAnd]

theorem State.refreshLedger_parts {M : Nat} (s : State) (hM : M &&& 20971528 = 20971528 := by decide) :
    (State.refreshLedger s).mask M = s.mask M := by
  refine mask_mono (m := 20971528) ?_ hM
  simp only [State.refreshLedger, State.setLedger_parts, mask_ite, ite_self, Nat.reduceAnd]

theorem State.stageBad_parts {M : Nat} (s : State) (stage reason : Nat) (fs : List Nat) (hM : M &&& 16408 = 16408 := by decide) :
    (State.stageBad s stage reason fs).mask M = s.mask M := by
  refine mask_mono (m := 16408) ?_ hM
  simp only [State.stageBad, State.replan_parts, State.setReg_parts, mask_ite, ite_self, mask_foldl, implies_true, Nat.reduceAnd]

theorem State.deriveKeys_parts {M : Nat} (s : State) (hM : M &&& 41943040 = 41943040 := by decide) :
    (State.deriveKeys s).mask M = s.mask M := by
  refine mask_mono (m := 41943040) ?_ hM
  simp only [State.deriveKeys, mask_upd, and_self, true_or, or_true, Nat.reducePow, Nat.reduceDiv, Nat.reduceMod]

theorem State.passControl_parts {M : Nat} (s : State) (hM : M &&& 8388608 = 8388608 := by decide) :
    (State.passControl s).mask M = s.mask M := by
  refine mask_mono (m := 8388608) ?_ hM
  simp only [State.passControl, mask_upd, and_self, true_or, or_true, Nat.reducePow, Nat.reduceDiv, Nat.reduceMod]

theorem State.stageRom_parts {M : Nat} (s : State) (hM : M &&& 61358104 = 61358104 := by decide) :
    (State.stageRom s).mask M = s.mask M := by
  refine mask_mono (m := 61358104) ?_ hM
  simp only [State.stageRom]; (repeat' split) <;> simp only [State.deriveKeys_parts, State.loadStored_parts, State.nodeBoot_parts, State.passControl_parts, State.recovery_parts, State.remeasure_parts, State.runFirmware_parts, State.setReg_parts, mask_foldl, implies_true, Nat.reduceAnd]

theorem State.stageFirmware_parts {M : Nat} (s : State) (sel : Nat) (hM : M &&& 44580888 = 44580888 := by decide) :
    (State.stageFirmware s sel).mask M = s.mask M := by
  refine mask_mono (m := 44580888) ?_ hM
  simp only [State.stageFirmware, State.activate_parts, State.moduleFault_parts, State.setReg_parts, mask_upd, mask_ite, ite_self, and_self, true_or, or_true, Nat.reducePow, Nat.reduceDiv, Nat.reduceMod, Nat.reduceAnd]

theorem State.stageStandby_parts {M : Nat} (s : State) (hM : M &&& 524296 = 524296 := by decide) :
    (State.stageStandby s).mask M = s.mask M := by
  refine mask_mono (m := 524296) ?_ hM
  simp only [State.stageStandby, State.setReg_parts, mask_upd, mask_ite, ite_self, and_self, true_or, or_true, Nat.reducePow, Nat.reduceDiv, Nat.reduceMod, Nat.reduceAnd]

theorem State.stageClocks_parts {M : Nat} (s : State) (ready : Nat) (lock : Bool) (hM : M &&& 33570840 = 33570840 := by decide) :
    (State.stageClocks s ready lock).mask M = s.mask M := by
  refine mask_mono (m := 33570840) ?_ hM
  simp only [State.stageClocks, State.bootFail_parts, State.fresh_parts, State.selectMref_parts, State.setReg_parts, mask_ite, ite_self, Nat.reduceAnd]

theorem State.seamDefect_parts {M : Nat} (s : State) (f : Nat) (north : Bool) (line : Nat) (hM : M &&& 49176 = 49176 := by decide) :
    (State.seamDefect s f north line).mask M = s.mask M := by
  refine mask_mono (m := 49176) ?_ hM
  simp only [State.seamDefect, State.replan_parts, mask_upd, mask_ite, ite_self, and_self, true_or, or_true, Nat.reducePow, Nat.reduceDiv, Nat.reduceMod, Nat.reduceAnd]

theorem State.seamTests_parts {M : Nat} (s : State) (ws : List WireTest) (f : Nat) (hM : M &&& 32776 = 32776 := by decide) :
    (State.seamTests s ws f).mask M = s.mask M := by
  refine mask_mono (m := 32776) ?_ hM
  simp only [State.seamTests, State.seamRegs_parts, mask_upd, and_self, true_or, or_true, Nat.reducePow, Nat.reduceDiv, Nat.reduceMod, Nat.reduceAnd]

theorem State.stageTrain_parts {M : Nat} (s : State) (io : StageInput) (hM : M &&& 41992216 = 41992216 := by decide) :
    (State.stageTrain s io).mask M = s.mask M := by
  refine mask_mono (m := 41992216) ?_ hM
  simp only [State.stageTrain, State.remeasure_parts, State.seamDefect_parts, State.seamTests_parts, State.setReg_parts, State.stageBad_parts, mask_ite, ite_self, mask_foldl, implies_true, Nat.reduceAnd]

theorem State.stageMap_parts {M : Nat} (s : State) (bad : List Nat) (hM : M &&& 41992216 = 41992216 := by decide) :
    (State.stageMap s bad).mask M = s.mask M := by
  refine mask_mono (m := 41992216) ?_ hM
  simp only [State.stageMap, State.fresh_parts, State.rebuildReserve_parts, State.remeasure_parts, State.setReg_parts, State.stageBad_parts, mask_upd, mask_ite, ite_self, and_self, true_or, or_true, Nat.reducePow, Nat.reduceDiv, Nat.reduceMod, Nat.reduceAnd]

theorem State.stageBloom_parts {M : Nat} (s : State) (hM : M &&& 21612824 = 21612824 := by decide) :
    (State.stageBloom s).mask M = s.mask M := by
  refine mask_mono (m := 21612824) ?_ hM
  simp only [State.stageBloom, State.bloomFinish_parts, State.hpEvent_parts, State.refreshLedger_parts, State.setReg_parts, mask_upd, mask_ite, ite_self, mask_foldl, implies_true, and_self, true_or, or_true, Nat.reducePow, Nat.reduceDiv, Nat.reduceMod, Nat.reduceAnd]

theorem execStartupStage_parts {M : Nat} (io : StageInput) (s : State) (hM : M &&& 65653016 = 65653016 := by decide) :
    Keeps M s (execStartupStage io s) := by
  refine keeps_mono (m := 65653016) ?_ hM
  simp only [execStartupStage, keeps_next, keeps_ite, State.stageBloom_parts, State.stageClocks_parts, State.stageFirmware_parts, State.stageMap_parts, State.stageRom_parts, State.stageStandby_parts, State.stageTrain_parts, mask_ite, ite_self, implies_true, and_self, Nat.reduceAnd]

theorem State.romAnswer_parts {M : Nat} (s : State) (cmd : Nat) (data : List Nat) (hM : M &&& 16777224 = 16777224 := by decide) :
    (State.romAnswer s cmd data).mask M = s.mask M := by
  refine mask_mono (m := 16777224) ?_ hM
  simp only [State.romAnswer, State.emit_parts, Nat.reduceAnd]

theorem execRecoveryStatus_parts {M : Nat} (s : State) (hM : M &&& 50331656 = 50331656 := by decide) :
    Keeps M s (execRecoveryStatus s) := by
  refine keeps_mono (m := 50331656) ?_ hM
  simp only [execRecoveryStatus, keeps_next, keeps_ite, State.fresh_parts, State.romAnswer_parts, implies_true, and_self, Nat.reduceAnd]

theorem execRecoveryWrite_parts {M : Nat} (off : BitVec 32) (data : List (BitVec 8)) (s : State) (hM : M &&& 17317912 = 17317912 := by decide) :
    Keeps M s (execRecoveryWrite off data s) := by
  refine keeps_mono (m := 17317912) ?_ hM
  simp only [execRecoveryWrite, keeps_next, keeps_ite, State.romAnswer_parts, mask_upd, implies_true, and_self, true_or, or_true, Nat.reducePow, Nat.reduceDiv, Nat.reduceMod, Nat.reduceAnd]

theorem execRecoveryCommit_parts {M : Nat} (w : Firmware) (s : State) (hM : M &&& 17317912 = 17317912 := by decide) :
    Keeps M s (execRecoveryCommit w s) := by
  refine keeps_mono (m := 17317912) ?_ hM
  simp only [execRecoveryCommit, keeps_next, keeps_ite, State.romAnswer_parts, State.setReg_parts, mask_upd, implies_true, and_self, true_or, or_true, Nat.reducePow, Nat.reduceDiv, Nat.reduceMod, Nat.reduceAnd]

theorem execBloomCheck_parts {M : Nat} (a : Addr) (good : Bool) (s : State) (hM : M &&& 117016 = 117016 := by decide) :
    Keeps M s (execBloomCheck a good s) := by
  refine keeps_mono (m := 117016) ?_ hM
  unfold execBloomCheck; (repeat' split) <;> simp only [keeps_next, keeps_ite, State.addReg_parts, State.bloomSettle_parts, State.setTile_parts, mask_ite, ite_self, implies_true, and_self, Nat.reduceAnd]

theorem execFirmwareUpdate_parts {M : Nat} (off : BitVec 32) (w : Firmware) (s : State) (hM : M &&& 2637848 = 2637848 := by decide) :
    Keeps M s (execFirmwareUpdate off w s) := by
  refine keeps_mono (m := 2637848) ?_ hM
  simp only [execFirmwareUpdate, keeps_next, keeps_ite, State.moduleFault_parts, State.odCmd_parts, State.setOd_parts, State.setReg_parts, mask_upd, implies_true, and_self, true_or, or_true, Nat.reducePow, Nat.reduceDiv, Nat.reduceMod, Nat.reduceAnd]

theorem State.soloInstall_parts {M : Nat} (s : State) (ix : Nat) (ok : Bool) (tenant : Nat) (plain : Blob) (until_ : Option Nat) (hM : M &&& 48316312 = 48316312 := by decide) :
    (State.soloInstall s ix ok tenant plain until_).mask M = s.mask M := by
  refine mask_mono (m := 48316312) ?_ hM
  simp only [State.soloInstall, State.odCmd_parts, State.putInstall_parts, State.setOd_parts, State.setReg_parts, mask_upd, mask_ite, ite_self, and_self, true_or, or_true, Nat.reducePow, Nat.reduceDiv, Nat.reduceMod, Nat.reduceAnd]

theorem execStandaloneTest_parts {M : Nat} (ix : BitVec 8) (ok : Bool) (tenant : Fin 16) (plain : Blob) (s : State) (hM : M &&& 48316312 = 48316312 := by decide) :
    Keeps M s (execStandaloneTest ix ok tenant plain s) := by
  refine keeps_mono (m := 48316312) ?_ hM
  simp only [execStandaloneTest, keeps_next, State.soloInstall_parts, Nat.reduceAnd]

theorem execBurnIn_parts {M : Nat} (ix : BitVec 8) (secs : BitVec 32) (d2 : BitVec 8) (ok : Bool) (tenant : Fin 16) (plain : Blob) (s : State) (hM : M &&& 49233816 = 49233816 := by decide) :
    Keeps M s (execBurnIn ix secs d2 ok tenant plain s) := by
  refine keeps_mono (m := 49233816) ?_ hM
  simp only [execBurnIn, keeps_next, keeps_ite, State.odCmd_parts, State.setNeed_parts, State.soloInstall_parts, mask_ite, ite_self, implies_true, and_self, Nat.reduceAnd]

theorem State.svyDue_parts {M : Nat} (s : State) (f : Nat) (hM : M &&& 8 = 8 := by decide) :
    (State.svyDue s f).mask M = s.mask M := by
  refine mask_mono (m := 8) ?_ hM
  simp only [State.svyDue, State.setReg_parts, mask_ite, ite_self, Nat.reduceAnd]

theorem execSurveyDue_parts {M : Nat} (f : Fin 48) (s : State) (hM : M &&& 8 = 8 := by decide) :
    Keeps M s (execSurveyDue f s) := by
  refine keeps_mono (m := 8) ?_ hM
  simp only [execSurveyDue, keeps_next, keeps_ite, State.svyDue_parts, implies_true, and_self, Nat.reduceAnd]

theorem execStartPass_parts {M : Nat} (f : Fin 48) (s : State) (hM : M &&& 8 = 8 := by decide) :
    Keeps M s (execStartPass f s) := by
  refine keeps_mono (m := 8) ?_ hM
  simp only [execStartPass, keeps_next, keeps_ite, State.cmd_parts, State.svyDue_parts, implies_true, and_self, Nat.reduceAnd]

theorem State.svyFails_parts {M : Nat} (s : State) (f : Nat) (fails : List (Fin 17424 × BitVec 16)) (hM : M &&& 117016 = 117016 := by decide) :
    (State.svyFails s f fails).mask M = s.mask M := by
  refine mask_mono (m := 117016) ?_ hM
  simp only [State.svyFails, State.classReport_parts, State.permanent_parts, State.satReg_parts, mask_foldl, implies_true, Nat.reduceAnd]

theorem execSurveySlice_parts {M : Nat} (f : Fin 48) (fails : List (Fin 17424 × BitVec 16)) (s : State) (hM : M &&& 117016 = 117016 := by decide) :
    Keeps M s (execSurveySlice f fails s) := by
  refine keeps_mono (m := 117016) ?_ hM
  simp only [execSurveySlice, keeps_next, keeps_ite, State.addReg_parts, State.setReg_parts, State.svyFails_parts, implies_true, and_self, Nat.reduceAnd]

theorem execSvyOverdue_parts {M : Nat} (f : Fin 48) (s : State) (hM : M &&& 16408 = 16408 := by decide) :
    Keeps M s (execSvyOverdue f s) := by
  refine keeps_mono (m := 16408) ?_ hM
  simp only [execSvyOverdue, keeps_next, keeps_ite, State.moduleFault_parts, State.setReg_parts, implies_true, and_self, Nat.reduceAnd]

theorem execFull_parts {M : Nat} (f : Fin 48) (s : State) (hM : M &&& 524296 = 524296 := by decide) :
    Keeps M s (execFull f s) := by
  refine keeps_mono (m := 524296) ?_ hM
  simp only [execFull, keeps_next, keeps_ite, State.cmd_parts, State.setReg_parts, mask_upd, mask_ite, ite_self, implies_true, and_self, true_or, or_true, Nat.reducePow, Nat.reduceDiv, Nat.reduceMod, Nat.reduceAnd]

theorem State.fullEnd_parts {M : Nat} (s : State) (f : Nat) (hM : M &&& 34195736 = 34195736 := by decide) :
    (State.fullEnd s f).mask M = s.mask M := by
  refine mask_mono (m := 34195736) ?_ hM
  unfold State.fullEnd
  have h : (((s.fresh.2.mapTiles f (Tile.surveyed s.fresh.1)).bloomField f).bloomFinish f).mask 34195736 = s.mask 34195736 :=
    (State.bloomFinish_parts ..).trans ((State.bloomField_parts ..).trans ((State.mapTiles_parts ..).trans (State.fresh_parts ..)))
  dsimp only
  split
  · exact h
  · exact (mask_upd ..).trans h

theorem execAbandonFull_parts {M : Nat} (f : Fin 48) (s : State) (hM : M &&& 34199832 = 34199832 := by decide) :
    Keeps M s (execAbandonFull f s) := by
  refine keeps_mono (m := 34199832) ?_ hM
  simp only [execAbandonFull, keeps_next, keeps_ite, State.cmd_parts, State.fullEnd_parts, State.setReg_parts, mask_upd, mask_ite, ite_self, implies_true, and_self, true_or, or_true, Nat.reducePow, Nat.reduceDiv, Nat.reduceMod, Nat.reduceAnd]

theorem execFullSurveyDone_parts {M : Nat} (f : Fin 48) (fails : List (Fin 17424 × BitVec 16)) (s : State) (hM : M &&& 34195736 = 34195736 := by decide) :
    Keeps M s (execFullSurveyDone f fails s) := by
  refine keeps_mono (m := 34195736) ?_ hM
  simp only [execFullSurveyDone, keeps_next, keeps_ite, State.cmd_parts, State.fullEnd_parts, State.setReg_parts, State.svyFails_parts, implies_true, and_self, Nat.reduceAnd]

theorem State.retestDue_parts {M : Nat} (s : State) (f key why sampled : Nat) (hM : M &&& 32768 = 32768 := by decide) :
    (State.retestDue s f key why sampled).mask M = s.mask M := by
  refine mask_mono (m := 32768) ?_ hM
  simp only [State.retestDue, mask_upd, mask_ite, ite_self, and_self, true_or, or_true, Nat.reducePow, Nat.reduceDiv, Nat.reduceMod]

theorem State.chargeOrigin_parts {M : Nat} (s : State) (r : Report) (hM : M &&& 32768 = 32768 := by decide) :
    (State.chargeOrigin s r).mask M = s.mask M := by
  refine mask_mono (m := 32768) ?_ hM
  simp only [State.chargeOrigin, State.retestDue_parts, mask_upd, mask_ite, ite_self, and_self, true_or, or_true, Nat.reducePow, Nat.reduceDiv, Nat.reduceMod, Nat.reduceAnd]; (repeat' split) <;> simp only [State.retestDue_parts, mask_upd, and_self, true_or, or_true, Nat.reducePow, Nat.reduceDiv, Nat.reduceMod, Nat.reduceAnd]

theorem State.seamSlip_parts {M : Nat} (s : State) (f : Nat) (hM : M &&& 49176 = 49176 := by decide) :
    (State.seamSlip s f).mask M = s.mask M := by
  refine mask_mono (m := 49176) ?_ hM
  simp only [State.seamSlip, State.classReport_parts, State.replan_parts, mask_upd, mask_ite, ite_self, and_self, true_or, or_true, Nat.reducePow, Nat.reduceDiv, Nat.reduceMod, Nat.reduceAnd]

theorem execFaultReport_parts {M : Nat} (persist : Bool) (s : State) (hM : M &&& 67108862 = 67108862 := by decide) :
    Keeps M s (execFaultReport persist s) := by
  refine keeps_mono (m := 67108862) ?_ hM
  unfold execFaultReport; (repeat' split) <;> simp only [keeps_next, State.chargeOrigin_parts, State.enterReplan_parts, State.holdLow_parts, State.logReport_parts, State.permanent_parts, State.seamSlip_parts, State.transient_parts, State.trigger_parts, State.updField_parts, mask_upd, mask_ite, ite_self, and_self, true_or, or_true, Nat.reducePow, Nat.reduceDiv, Nat.reduceMod, Nat.reduceAnd]

theorem execFault_parts {M : Nat} (s : State) (hM : M &&& 54951944 = 54951944 := by decide) :
    Keeps M s (execFault s) := by
  refine keeps_mono (m := 54951944) ?_ hM
  unfold execFault
  cases h : s.takeCell (fun c => c.type = 5) with
  | none => exact (keeps_next _ _ _).2 rfl
  | some e =>
    obtain ⟨x, u⟩ := e
    refine keeps_trans (s' := u) ?_ (takeCell_parts h)
    dsimp only
    refine (keeps_next _ _ _).2 ?_
    split
    · exact (State.satReg_parts ..).trans rfl
    · exact State.newEntry_parts ..

theorem execLogbookFlush_parts {M : Nat} (s : State) (hM : M &&& 57049112 = 57049112 := by decide) :
    Keeps M s (execLogbookFlush s) := by
  refine keeps_mono (m := 57049112) ?_ hM
  simp only [execLogbookFlush, keeps_next, State.logReport_parts, mask_upd, mask_ite, ite_self, and_self, true_or, or_true, Nat.reducePow, Nat.reduceDiv, Nat.reduceMod, Nat.reduceAnd]

theorem execEccCeRate_parts {M : Nat} (f : Fin 48) (key : Fin 17424) (rise : BitVec 32) (s : State) (hM : M &&& 49176 = 49176 := by decide) :
    Keeps M s (execEccCeRate f key rise s) := by
  refine keeps_mono (m := 49176) ?_ hM
  simp only [execEccCeRate, keeps_next, keeps_ite, State.classReport_parts, mask_upd, implies_true, and_self, true_or, or_true, Nat.reducePow, Nat.reduceDiv, Nat.reduceMod, Nat.reduceAnd]

theorem State.fltCmd_parts {M : Nat} (s : State) (op px py field status : Nat) (hM : M &&& 8 = 8 := by decide) :
    (State.fltCmd s op px py field status).mask M = s.mask M := by
  refine mask_mono (m := 8) ?_ hM
  simp only [State.fltCmd, State.cmd_parts, State.setReg_parts, Nat.reduceAnd]

theorem execRetest_parts {M : Nat} (px : BitVec 11) (py : BitVec 10) (s : State) (hM : M &&& 32776 = 32776 := by decide) :
    Keeps M s (execRetest px py s) := by
  refine keeps_mono (m := 32776) ?_ hM
  simp only [execRetest, keeps_next, keeps_ite, State.fltCmd_parts, State.retestDue_parts, implies_true, and_self, Nat.reduceAnd]

theorem execRetestResult_parts {M : Nat} (f : Fin 48) (key : Fin 17424) (fails : BitVec 10) (s : State) (hM : M &&& 117016 = 117016 := by decide) :
    Keeps M s (execRetestResult f key fails s) := by
  refine keeps_mono (m := 117016) ?_ hM
  unfold execRetestResult; (repeat' split) <;> simp only [keeps_next, keeps_ite, State.permanent_parts, State.setReg_parts, State.transient_parts, mask_upd, mask_ite, ite_self, implies_true, and_self, true_or, or_true, Nat.reducePow, Nat.reduceDiv, Nat.reduceMod, Nat.reduceAnd]

theorem execMarkDead_parts {M : Nat} (px : BitVec 11) (py : BitVec 10) (s : State) (hM : M &&& 117016 = 117016 := by decide) :
    Keeps M s (execMarkDead px py s) := by
  refine keeps_mono (m := 117016) ?_ hM
  simp only [execMarkDead, keeps_next, keeps_ite, State.fltCmd_parts, State.permanent_parts, implies_true, and_self, Nat.reduceAnd]

theorem execClearReplan_parts {M : Nat} (f : Fin 48) (s : State) (hM : M &&& 8 = 8 := by decide) :
    Keeps M s (execClearReplan f s) := by
  refine keeps_mono (m := 8) ?_ hM
  simp only [execClearReplan, keeps_next, keeps_ite, State.fltCmd_parts, State.setReg_parts, implies_true, and_self, Nat.reduceAnd]

theorem execRprMigrated_parts {M : Nat} (f : Fin 48) (s : State) (hM : M &&& 46186520 = 46186520 := by decide) :
    Keeps M s (execRprMigrated f s) := by
  refine keeps_mono (m := 46186520) ?_ hM
  unfold execRprMigrated; (repeat' split) <;> simp only [keeps_next, State.beginMigrations_parts, State.classReport_parts, State.rebuildReserve_parts, State.remeasure_parts, State.setReg_parts, State.setTile_parts, mask_upd, mask_foldl, implies_true, and_self, true_or, or_true, Nat.reducePow, Nat.reduceDiv, Nat.reduceMod, Nat.reduceAnd]

theorem execBelaySample_parts {M : Nat} (f : Fin 48) (row : Fin 132) (found : Bool) (s : State) (hM : M &&& 24 = 24 := by decide) :
    Keeps M s (execBelaySample f row found s) := by
  refine keeps_mono (m := 24) ?_ hM
  simp only [execBelaySample, keeps_next, keeps_ite, State.satReg_parts, State.setTile_parts, State.updField_parts, mask_foldl, implies_true, and_self, Nat.reduceAnd]

theorem State.blyFault_parts {M : Nat} (s : State) (f key code : Nat) (vu : Bool) (vote : Nat) (trig : Bool) (hM : M &&& 20504 = 20504 := by decide) :
    (State.blyFault s f key code vu vote trig).mask M = s.mask M := by
  refine mask_mono (m := 20504) ?_ hM
  simp only [State.blyFault, State.classReport_parts, State.invalidate_parts, mask_ite, ite_self, Nat.reduceAnd]

theorem State.charge_parts {M : Nat} (s : State) (kind k : Nat) (hM : M &&& 32768 = 32768 := by decide) :
    (State.charge s kind k).mask M = s.mask M := by
  refine mask_mono (m := 32768) ?_ hM
  simp only [State.charge, mask_upd, and_self, true_or, or_true, Nat.reducePow, Nat.reduceDiv, Nat.reduceMod]

theorem execBelayCompare_parts {M : Nat} (f : Fin 48) (row : Fin 132) (cut t1 t2 cc : Bool) (s : State) (hM : M &&& 121112 = 121112 := by decide) :
    Keeps M s (execBelayCompare f row cut t1 t2 cc s) := by
  refine keeps_mono (m := 121112) ?_ hM
  unfold execBelayCompare; (repeat' split) <;> simp only [keeps_next, keeps_ite, State.addReg_parts, State.blyFault_parts, State.charge_parts, State.permanent_parts, State.retestDue_parts, State.satReg_parts, State.setTile_parts, State.updField_parts, mask_ite, ite_self, mask_foldl, implies_true, and_self, Nat.reduceAnd]

theorem State.svyNote_parts {M : Nat} (s : State) (view : Nat) (last : Option Nat) (err denied : Bool) (hM : M &&& 8 = 8 := by decide) :
    (State.svyNote s view last err denied).mask M = s.mask M := by
  refine mask_mono (m := 8) ?_ hM
  unfold State.svyNote; (repeat' split) <;> simp only [State.setReg_parts, Nat.reduceAnd]

theorem State.surveyRead_parts {M : Nat} (s : State) (view off n : Nat) (hM : M &&& 4345976 = 4345976 := by decide) :
    (State.surveyRead s view off n).1.mask M = s.mask M := by
  refine mask_mono (m := 4345976) ?_ hM
  simp only [State.surveyRead]; (repeat' split) <;> simp only [State.absorb_parts, State.satReg_parts, State.svyNote_parts, Nat.reduceAnd]

theorem State.surveyWrite_parts {M : Nat} (s : State) (view off : Nat) (data : List Nat) (hM : M &&& 4345976 = 4345976 := by decide) :
    (State.surveyWrite s view off data).1.mask M = s.mask M := by
  refine mask_mono (m := 4345976) ?_ hM
  unfold State.surveyWrite; (repeat' split) <;> simp only [State.absorb_parts, State.satReg_parts, State.svyNote_parts, Nat.reduceAnd]

end Sys2Proof.Machine
end

