-- ==== Sys2Proof/Laws/PartsDict.lean ====
section
/-!
SUPPORT. Sys2Proof/Laws/PartsDict.lean: the parts of the state that each operation and each meaning may change: the object dictionary and telemetry.
-/

set_option Elab.async false

namespace Sys2Proof.Machine

theorem State.odRead_parts {M : Nat} (s : State) (ix sub : Nat) (hM : M &&& 4345976 = 4345976 := by decide) :
    (State.odRead s ix sub).1.mask M = s.mask M := by
  refine mask_mono (m := 4345976) ?_ hM
  unfold State.odRead
  cases odAt ix sub with
  | inr a => rfl
  | inl e =>
    dsimp only
    split
    · have h := State.surveyRead_parts (M := 4345976) s 2 (s.od 0x4020 2 % 2 ^ 18) 8
      revert h
      generalize s.surveyRead 2 (s.od 0x4020 2 % 2 ^ 18) 8 = r
      obtain ⟨u, b⟩ := r
      cases b <;> exact id
    · split
      · rfl
      · split
        · cases s.odBytes ix sub <;> rfl
        · rfl

theorem State.saveProfile_parts {M : Nat} (s : State) (hM : M &&& 2097152 = 2097152 := by decide) :
    (State.saveProfile s).mask M = s.mask M := by
  refine mask_mono (m := 2097152) ?_ hM
  simp only [State.saveProfile, State.odCmd_parts, State.setOd_parts, mask_upd, mask_ite, ite_self, and_self, true_or, or_true, Nat.reducePow, Nat.reduceDiv, Nat.reduceMod, Nat.reduceAnd]

theorem State.loadFactory_parts {M : Nat} (s : State) (hM : M &&& 2097152 = 2097152 := by decide) :
    (State.loadFactory s).mask M = s.mask M := by
  refine mask_mono (m := 2097152) ?_ hM
  unfold State.loadFactory
  refine (State.odCmd_parts ..).trans ?_
  exact (mask_foldl _ _ (fun _ _ => State.writeOd_parts ..) _ _).trans (State.setOd_parts ..)

theorem State.switchPending_parts {M : Nat} (s : State) (n : Nat) (hM : M &&& 2097152 = 2097152 := by decide) :
    (State.switchPending s n).mask M = s.mask M := by
  refine mask_mono (m := 2097152) ?_ hM
  exact (State.odCmd_parts ..).trans ((State.setOd_parts ..).trans (State.loadSlot_parts ..))

theorem State.switchProfile_parts {M : Nat} (s : State) (n : Nat) (now : Bool) (hM : M &&& 67108862 = 67108862 := by decide) :
    (State.switchProfile s n now).mask M = s.mask M := by
  refine mask_mono (m := 67108862) ?_ hM
  simp only [State.switchProfile, State.odCmd_parts, State.resetReq_parts, State.setOd_parts, State.switchPending_parts, mask_ite, ite_self, Nat.reduceAnd]

theorem State.applyTopology_parts {M : Nat} (s : State) (hM : M &&& 2097160 = 2097160 := by decide) :
    (State.applyTopology s).mask M = s.mask M := by
  refine mask_mono (m := 2097160) ?_ hM
  simp only [State.applyTopology, State.odCmd_parts, State.setOd_parts, State.setReg_parts, mask_ite, ite_self, Nat.reduceAnd]

theorem execSave_parts {M : Nat} (s : State) (hM : M &&& 2097152 = 2097152 := by decide) :
    Keeps M s (execSave s) := by
  refine keeps_mono (m := 2097152) ?_ hM
  simp only [execSave, keeps_next, State.saveProfile_parts, Nat.reduceAnd]

theorem execLoad_parts {M : Nat} (s : State) (hM : M &&& 2097152 = 2097152 := by decide) :
    Keeps M s (execLoad s) := by
  refine keeps_mono (m := 2097152) ?_ hM
  simp only [execLoad, keeps_next, State.loadFactory_parts, Nat.reduceAnd]

theorem execProfileSwitchPending_parts {M : Nat} (n : Fin 4) (s : State) (hM : M &&& 67108862 = 67108862 := by decide) :
    Keeps M s (execProfileSwitchPending n s) := by
  refine keeps_mono (m := 67108862) ?_ hM
  simp only [execProfileSwitchPending, keeps_next, State.switchProfile_parts, Nat.reduceAnd]

theorem execProfileSwitchImmediate_parts {M : Nat} (n : Fin 4) (s : State) (hM : M &&& 67108862 = 67108862 := by decide) :
    Keeps M s (execProfileSwitchImmediate n s) := by
  refine keeps_mono (m := 67108862) ?_ hM
  simp only [execProfileSwitchImmediate, keeps_next, State.switchProfile_parts, Nat.reduceAnd]

theorem execApply_parts {M : Nat} (s : State) (hM : M &&& 2097160 = 2097160 := by decide) :
    Keeps M s (execApply s) := by
  refine keeps_mono (m := 2097160) ?_ hM
  simp only [execApply, keeps_next, State.applyTopology_parts, Nat.reduceAnd]

theorem State.odCommand_parts {M : Nat} (s : State) (ix sub v : Nat) (hM : M &&& 67108862 = 67108862 := by decide) :
    (State.odCommand s ix sub v).1.mask M = s.mask M := by
  refine mask_mono (m := 67108862) ?_ hM
  unfold State.odCommand; (repeat' split) <;> simp only [State.applyTopology_parts, State.loadFactory_parts, State.odCmd_parts, State.saveProfile_parts, State.setOd_parts, State.switchProfile_parts, State.swrDo_parts, mask_ite1, ite_self, Nat.reduceAnd]

theorem State.odEffectOf_parts {M : Nat} (s : State) (ix sub v : Nat) (hM : M &&& 23592968 = 23592968 := by decide) :
    (State.odEffectOf s ix sub v).mask M = s.mask M := by
  refine mask_mono (m := 23592968) ?_ hM
  simp only [State.odEffectOf, State.refreshLedger_parts, State.setReg_parts, mask_upd, mask_ite, ite_self, and_self, true_or, or_true, Nat.reducePow, Nat.reduceDiv, Nat.reduceMod, Nat.reduceAnd]

theorem State.odWrite_parts {M : Nat} (s : State) (transport ix sub : Nat) (data : List Nat) (hM : M &&& 67108862 = 67108862 := by decide) :
    (State.odWrite s transport ix sub data).1.mask M = s.mask M := by
  refine mask_mono (m := 67108862) ?_ hM
  unfold State.odWrite; (repeat' split) <;> simp only [State.odCommand_parts, State.odEffectOf_parts, State.surveyWrite_parts, State.writeOd_parts, mask_upd, mask_ite1, ite_self, and_self, true_or, or_true, Nat.reducePow, Nat.reduceDiv, Nat.reduceMod, Nat.reduceAnd]

theorem State.setSdo_parts {M : Nat} (s : State) (src : Nat) (x : Option Sdo) (hM : M &&& 2097152 = 2097152 := by decide) :
    (State.setSdo s src x).mask M = s.mask M := by
  refine mask_mono (m := 2097152) ?_ hM
  simp only [State.setSdo, mask_upd, and_self, true_or, or_true, Nat.reducePow, Nat.reduceDiv, Nat.reduceMod]

theorem State.sdoStore_parts {M : Nat} (s : State) (src transport key : Nat) (data : List Nat) (ok : List Nat) (hM : M &&& 67108862 = 67108862 := by decide) :
    (State.sdoStore s src transport key data ok).1.mask M = s.mask M := by
  refine mask_mono (m := 67108862) ?_ hM
  simp only [State.sdoStore, State.odWrite_parts, State.setSdo_parts, Nat.reduceAnd]

theorem State.sdoDownload_parts {M : Nat} (s : State) (src transport : Nat) (fr : List Nat) (hM : M &&& 67108862 = 67108862 := by decide) :
    (State.sdoDownload s src transport fr).1.mask M = s.mask M := by
  refine mask_mono (m := 67108862) ?_ hM
  simp only [State.sdoDownload, State.sdoStore_parts, mask_ite1, Nat.reduceAnd]; (repeat' split) <;> simp only [State.setSdo_parts, Nat.reduceAnd]

theorem State.sdoUpload_parts {M : Nat} (s : State) (src : Nat) (fr : List Nat) (hM : M &&& 6443128 = 6443128 := by decide) :
    (State.sdoUpload s src fr).1.mask M = s.mask M := by
  refine mask_mono (m := 6443128) ?_ hM
  simp only [State.sdoUpload, State.odRead_parts, State.setSdo_parts, mask_ite1, ite_self, Nat.reduceAnd]

theorem State.sdoSegment_parts {M : Nat} (s : State) (src transport : Nat) (down : Bool) (fr : List Nat) (hM : M &&& 67108862 = 67108862 := by decide) :
    (State.sdoSegment s src transport down fr).1.mask M = s.mask M := by
  refine mask_mono (m := 67108862) ?_ hM
  unfold State.sdoSegment; (repeat' split) <;> simp only [State.sdoStore_parts, State.setSdo_parts, mask_ite1, ite_self, Nat.reduceAnd]

theorem State.sdoServe_parts {M : Nat} (s : State) (src transport : Nat) (fr : List Nat) (hM : M &&& 67108862 = 67108862 := by decide) :
    (State.sdoServe s src transport fr).1.mask M = s.mask M := by
  refine mask_mono (m := 67108862) ?_ hM
  unfold State.sdoServe; (repeat' split) <;> simp only [State.sdoDownload_parts, State.sdoSegment_parts, State.sdoUpload_parts, State.setSdo_parts, Nat.reduceAnd]

theorem execSdoRequest_parts {M : Nat} (frame : List (BitVec 8)) (s : State) (hM : M &&& 67108862 = 67108862 := by decide) :
    Keeps M s (execSdoRequest frame s) := by
  refine keeps_mono (m := 67108862) ?_ hM
  simp only [execSdoRequest, keeps_next, keeps_ite, State.emit_parts, State.sdoServe_parts, mask_ite, ite_self, implies_true, and_self, Nat.reduceAnd]

theorem execSdoTimeout_parts {M : Nat} (udp : Option (BitVec 48)) (s : State) (hM : M &&& 18874368 = 18874368 := by decide) :
    Keeps M s (execSdoTimeout udp s) := by
  refine keeps_mono (m := 18874368) ?_ hM
  simp only [execSdoTimeout]; (repeat' split) <;> simp only [keeps_next, State.emit_parts, State.setSdo_parts, Nat.reduceAnd]

theorem execUdpDatagram_parts {M : Nat} (source : BitVec 48) (recs : List (BitVec 16 × List (BitVec 8))) (s : State) (hM : M &&& 67108862 = 67108862 := by decide) :
    Keeps M s (execUdpDatagram source recs s) := by
  refine keeps_mono (m := 67108862) ?_ hM
  simp only [execUdpDatagram, keeps_next, keeps_ite, State.emit_parts, State.sdoServe_parts, mask_ite1, ite_self, mask_foldl1, implies_true, and_self, Nat.reduceAnd]

theorem State.mctpAnswer_parts {M : Nat} (s : State) (i3c : Bool) (cmd : Nat) (body : List Nat) (hM : M &&& 16777224 = 16777224 := by decide) :
    (State.mctpAnswer s i3c cmd body).mask M = s.mask M := by
  refine mask_mono (m := 16777224) ?_ hM
  simp only [State.mctpAnswer, State.emit_parts, Nat.reduceAnd]

theorem execDictRead_parts {M : Nat} (i3c : Bool) (ix : BitVec 16) (sub : BitVec 8) (s : State) (hM : M &&& 21123192 = 21123192 := by decide) :
    Keeps M s (execDictRead i3c ix sub s) := by
  refine keeps_mono (m := 21123192) ?_ hM
  simp only [execDictRead, keeps_next, keeps_ite, State.mctpAnswer_parts, State.odRead_parts, implies_true, and_self, Nat.reduceAnd]

theorem execDictWrite_parts {M : Nat} (i3c : Bool) (ix : BitVec 16) (sub : BitVec 8) (data : List (BitVec 8)) (s : State) (hM : M &&& 67108862 = 67108862 := by decide) :
    Keeps M s (execDictWrite i3c ix sub data s) := by
  refine keeps_mono (m := 67108862) ?_ hM
  simp only [execDictWrite, keeps_next, keeps_ite, State.mctpAnswer_parts, State.odWrite_parts, implies_true, and_self, Nat.reduceAnd]

theorem execDictNext_parts {M : Nat} (i3c : Bool) (ix : BitVec 16) (sub : BitVec 8) (s : State) (hM : M &&& 16777224 = 16777224 := by decide) :
    Keeps M s (execDictNext i3c ix sub s) := by
  refine keeps_mono (m := 16777224) ?_ hM
  unfold execDictNext; (repeat' split) <;> simp only [keeps_next, State.mctpAnswer_parts, Nat.reduceAnd]

theorem State.odWindow_parts {M : Nat} (s : State) (p op ix sub len abort : Nat) (e : Option Ent) (hM : M &&& 8 = 8 := by decide) :
    (State.odWindow s p op ix sub len abort e).mask M = s.mask M := by
  refine mask_mono (m := 8) ?_ hM
  unfold State.odWindow; (repeat' split) <;> simp only [State.cmd_parts, State.setReg_parts, Nat.reduceAnd]

theorem State.putOdData_parts {M : Nat} (s : State) (p : Nat) (bs : List Nat) (hM : M &&& 8 = 8 := by decide) :
    (State.putOdData s p bs).mask M = s.mask M := by
  refine mask_mono (m := 8) ?_ hM
  simp only [State.putOdData, State.setReg_parts, mask_foldl, implies_true, Nat.reduceAnd]

theorem execOdRead_parts {M : Nat} (port : Fin 2) (ix : BitVec 16) (sub : BitVec 8) (s : State) (hM : M &&& 4345976 = 4345976 := by decide) :
    Keeps M s (execOdRead port ix sub s) := by
  refine keeps_mono (m := 4345976) ?_ hM
  simp only [execOdRead, keeps_next, keeps_ite, State.odRead_parts, State.odWindow_parts, State.putOdData_parts, implies_true, and_self, Nat.reduceAnd]

theorem execOdWrite_parts {M : Nat} (port : Fin 2) (ix : BitVec 16) (sub : BitVec 8) (len : BitVec 12) (s : State) (hM : M &&& 67108862 = 67108862 := by decide) :
    Keeps M s (execOdWrite port ix sub len s) := by
  refine keeps_mono (m := 67108862) ?_ hM
  simp only [execOdWrite, keeps_next, keeps_ite, State.odWindow_parts, State.odWrite_parts, implies_true, and_self, Nat.reduceAnd]

theorem execOdNext_parts {M : Nat} (port : Fin 2) (ix : BitVec 16) (sub : BitVec 8) (s : State) (hM : M &&& 8 = 8 := by decide) :
    Keeps M s (execOdNext port ix sub s) := by
  refine keeps_mono (m := 8) ?_ hM
  unfold execOdNext; (repeat' split) <;> simp only [keeps_next, State.odWindow_parts, State.putOdData_parts, Nat.reduceAnd]

theorem execMgmt_parts {M : Nat} (s : State) (hM : M &&& 67108862 = 67108862 := by decide) :
    Keeps M s (execMgmt s) := by
  refine keeps_mono (m := 67108862) ?_ hM
  unfold execMgmt
  cases h : s.takeCell (fun c => c.type = 6) with
  | none => exact (keeps_next _ _ _).2 rfl
  | some e =>
    obtain ⟨x, u⟩ := e
    refine keeps_trans (s' := u) ?_ (takeCell_parts h)
    dsimp only
    split
    · exact (keeps_next _ _ _).2 rfl
    · split
      · exact (keeps_next _ _ _).2 rfl
      · split
        · refine (keeps_next _ _ _).2 ?_
          split <;> exact (State.sendCell_parts ..).trans (State.odRead_parts ..)
        · split
          · refine (keeps_next _ _ _).2 ((State.sendCell_parts ..).trans ?_)
            split
            · rfl
            · exact State.odWrite_parts ..
          · exact (keeps_next _ _ _).2 rfl

theorem State.setNmt_parts {M : Nat} (s : State) (n : Nmt) (hM : M &&& 2097152 = 2097152 := by decide) :
    (State.setNmt s n).mask M = s.mask M := by
  refine mask_mono (m := 2097152) ?_ hM
  simp only [State.setNmt, mask_upd, mask_ite, ite_self, and_self, true_or, or_true, Nat.reducePow, Nat.reduceDiv, Nat.reduceMod]

theorem execNmtStart_parts {M : Nat} (s : State) (hM : M &&& 2097152 = 2097152 := by decide) :
    Keeps M s (execNmtStart s) := by
  refine keeps_mono (m := 2097152) ?_ hM
  simp only [execNmtStart, keeps_next, State.setNmt_parts, Nat.reduceAnd]

theorem execNmtStop_parts {M : Nat} (s : State) (hM : M &&& 2097152 = 2097152 := by decide) :
    Keeps M s (execNmtStop s) := by
  refine keeps_mono (m := 2097152) ?_ hM
  simp only [execNmtStop, keeps_next, State.setNmt_parts, Nat.reduceAnd]

theorem execEnterPreOperational_parts {M : Nat} (s : State) (hM : M &&& 2097152 = 2097152 := by decide) :
    Keeps M s (execEnterPreOperational s) := by
  refine keeps_mono (m := 2097152) ?_ hM
  simp only [execEnterPreOperational, keeps_next, State.setNmt_parts, Nat.reduceAnd]

theorem execResetNode_parts {M : Nat} (s : State) (hM : M &&& 18874368 = 18874368 := by decide) :
    Keeps M s (execResetNode s) := by
  refine keeps_mono (m := 18874368) ?_ hM
  simp only [execResetNode, keeps_next, keeps_ite, State.nodeBoot_parts, implies_true, and_self, Nat.reduceAnd]

theorem execResetCommunication_parts {M : Nat} (s : State) (hM : M &&& 18874368 = 18874368 := by decide) :
    Keeps M s (execResetCommunication s) := by
  refine keeps_mono (m := 18874368) ?_ hM
  simp only [execResetCommunication, keeps_next, keeps_ite, State.nodeBoot_parts, implies_true, and_self, Nat.reduceAnd]

theorem execNmtAutostart_parts {M : Nat} (s : State) (hM : M &&& 2097152 = 2097152 := by decide) :
    Keeps M s (execNmtAutostart s) := by
  refine keeps_mono (m := 2097152) ?_ hM
  simp only [execNmtAutostart, keeps_next, State.setNmt_parts, mask_ite, ite_self, Nat.reduceAnd]

theorem State.rpdo_parts (s : State) (m : List (Nat × Nat × Nat)) (b : List Nat) {M : Nat} (hM : M &&& 2097152 = 2097152 := by decide) :
    (s.rpdo m b).mask M = s.mask M := by
  induction m generalizing s b with
  | nil => rfl
  | cons e r ih =>
    unfold State.rpdo
    refine (ih ..).trans ?_
    split
    · exact State.setOd_parts (hM := hM) ..
    · rfl

theorem execRpdo1_parts {M : Nat} (data : List (BitVec 8)) (s : State) (hM : M &&& 2621440 = 2621440 := by decide) :
    Keeps M s (execRpdo1 data s) := by
  refine keeps_mono (m := 2621440) ?_ hM
  unfold execRpdo1
  split
  · exact (keeps_next _ _ _).2 rfl
  · dsimp only
    refine (keeps_next _ _ _).2 ?_
    have h := (State.warn_parts (M := 2621440) (s.rpdo (s.pdoMap 0x1600 3) (data.map (·.toNat))) 1 false).trans (State.rpdo_parts ..)
    generalize (s.rpdo (s.pdoMap 0x1600 3) (data.map (·.toNat))).warn 1 false = u at h
    split
    · exact (mask_upd ..).trans ((State.warn_parts ..).trans h)
    · exact h

theorem execTpdo1_parts {M : Nat} (outlet : BitVec 16) (s : State) (hM : M &&& 18874368 = 18874368 := by decide) :
    Keeps M s (execTpdo1 outlet s) := by
  refine keeps_mono (m := 18874368) ?_ hM
  simp only [execTpdo1, keeps_next, keeps_ite, State.emit_parts, State.setOd_parts, mask_upd, implies_true, and_self, true_or, or_true, Nat.reducePow, Nat.reduceDiv, Nat.reduceMod, Nat.reduceAnd]

theorem execTpdo2_parts {M : Nat} (volts amps : BitVec 16) (s : State) (hM : M &&& 18874376 = 18874376 := by decide) :
    Keeps M s (execTpdo2 volts amps s) := by
  refine keeps_mono (m := 18874376) ?_ hM
  simp only [execTpdo2, keeps_next, keeps_ite, State.emit_parts, State.setOd_parts, State.setReg_parts, implies_true, and_self, Nat.reduceAnd]

theorem execProducerHeartbeat_parts {M : Nat} (s : State) (hM : M &&& 16777216 = 16777216 := by decide) :
    Keeps M s (execProducerHeartbeat s) := by
  refine keeps_mono (m := 16777216) ?_ hM
  simp only [execProducerHeartbeat, keeps_next, State.emit_parts, mask_ite, ite_self, Nat.reduceAnd]

theorem execFlowDemand_parts {M : Nat} (watts : BitVec 32) (s : State) (hM : M &&& 2097152 = 2097152 := by decide) :
    Keeps M s (execFlowDemand watts s) := by
  refine keeps_mono (m := 2097152) ?_ hM
  simp only [execFlowDemand, keeps_next, State.setOd_parts, Nat.reduceAnd]

theorem execHistogramSample_parts {M : Nat} (f : Fin 48) (s : State) (hM : M &&& 24 = 24 := by decide) :
    Keeps M s (execHistogramSample f s) := by
  refine keeps_mono (m := 24) ?_ hM
  simp only [execHistogramSample, keeps_next, keeps_ite, State.clearsDue_parts, State.mapTiles_parts, State.satReg_parts, State.setTile_parts, mask_foldl, implies_true, and_self, Nat.reduceAnd]

theorem State.addHxBin_parts {M : Nat} (s : State) (p h b : Nat) (hM : M &&& 8 = 8 := by decide) :
    (State.addHxBin s p h b).mask M = s.mask M := by
  refine mask_mono (m := 8) ?_ hM
  simp only [State.addHxBin, State.setReg_parts, Nat.reduceAnd]

theorem State.sampleHx_parts {M : Nat} (s : State) (p : Nat) (hM : M &&& 8 = 8 := by decide) :
    (State.sampleHx s p).mask M = s.mask M := by
  refine mask_mono (m := 8) ?_ hM
  unfold State.sampleHx; try dsimp only; repeat' (first | with_reducible rfl | split | refine (State.addHxBin_parts ..).trans ?_ | exact State.addHxBin_parts .. | refine (mask_foldl _ _ (fun _ _ => ?_) _ _).trans ?_ | refine (mask_foldl1 _ _ (fun _ _ => ?_) _ _).trans ?_ | refine (mask_foldl2 _ _ (fun _ _ => ?_) _ _).trans ?_ | refine (keeps_next _ _ _).2 ?_ | intro _)

theorem execHxHistogramSample_parts {M : Nat} (s : State) (hM : M &&& 8 = 8 := by decide) :
    Keeps M s (execHxHistogramSample s) := by
  refine keeps_mono (m := 8) ?_ hM
  simp only [execHxHistogramSample, keeps_next, keeps_ite, State.sampleHx_parts, mask_foldl, implies_true, and_self, Nat.reduceAnd]

theorem execTelClear_parts {M : Nat} (f : Fin 48) (s : State) (hM : M &&& 24 = 24 := by decide) :
    Keeps M s (execTelClear f s) := by
  refine keeps_mono (m := 24) ?_ hM
  simp only [execTelClear, keeps_next, keeps_ite, State.cmd_parts, State.updField_parts, implies_true, and_self, Nat.reduceAnd]

theorem execCurrentHistoryAdvance_parts {M : Nat} (amps : List (BitVec 16)) (mj : List (BitVec 32)) (s : State) (hM : M &&& 524296 = 524296 := by decide) :
    Keeps M s (execCurrentHistoryAdvance amps mj s) := by
  refine keeps_mono (m := 524296) ?_ hM
  simp only [execCurrentHistoryAdvance, keeps_next, State.addReg_parts, State.setReg_parts, mask_upd, mask_foldl, implies_true, and_self, true_or, or_true, Nat.reducePow, Nat.reduceDiv, Nat.reduceMod, Nat.reduceAnd]

theorem execTelHistSel_parts {M : Nat} (rail : Fin 4) (f : Fin 64) (s : State) (hM : M &&& 524296 = 524296 := by decide) :
    Keeps M s (execTelHistSel rail f s) := by
  refine keeps_mono (m := 524296) ?_ hM
  simp only [execTelHistSel, keeps_next, State.setReg_parts, mask_upd, and_self, true_or, or_true, Nat.reducePow, Nat.reduceDiv, Nat.reduceMod, Nat.reduceAnd]

theorem execPpsEdge_parts {M : Nat} (s : State) (hM : M &&& 524296 = 524296 := by decide) :
    Keeps M s (execPpsEdge s) := by
  refine keeps_mono (m := 524296) ?_ hM
  unfold execPpsEdge; (repeat' split) <;> simp only [keeps_next, State.addReg_parts, State.setReg_parts, mask_upd, and_self, true_or, or_true, Nat.reducePow, Nat.reduceDiv, Nat.reduceMod, Nat.reduceAnd]

theorem execSurveyRead_parts {M : Nat} (port : Fin 2) (view : Fin 3) (off : BitVec 18) (n : Fin 4097) (ups : List (Addr × Upset)) (s : State) (hM : M &&& 21123192 = 21123192 := by decide) :
    Keeps M s (execSurveyRead port view off n ups s) := by
  refine keeps_mono (m := 21123192) ?_ hM
  simp only [execSurveyRead, keeps_next]; (repeat' split) <;> simp only [State.emit_parts, State.surveyRead_parts, State.upsets_parts, Nat.reduceAnd]

theorem execSurveyWrite_parts {M : Nat} (view : Fin 3) (off : BitVec 18) (data : List (BitVec 8)) (s : State) (hM : M &&& 4345976 = 4345976 := by decide) :
    Keeps M s (execSurveyWrite view off data s) := by
  refine keeps_mono (m := 4345976) ?_ hM
  simp only [execSurveyWrite, keeps_next, State.surveyWrite_parts, Nat.reduceAnd]

theorem execSurveyTimeout_parts {M : Nat} (port : Fin 2) (view : Fin 3) (write : Bool) (s : State) (hM : M &&& 16777224 = 16777224 := by decide) :
    Keeps M s (execSurveyTimeout port view write s) := by
  refine keeps_mono (m := 16777224) ?_ hM
  simp only [execSurveyTimeout, keeps_next, State.emit_parts, State.svyNote_parts, mask_ite, ite_self, Nat.reduceAnd]

theorem State.tapIr_parts {M : Nat} (s : State) (ir : TapIr) (hM : M &&& 8388608 = 8388608 := by decide) :
    (State.tapIr s ir).mask M = s.mask M := by
  refine mask_mono (m := 8388608) ?_ hM
  simp only [State.tapIr, mask_upd, and_self, true_or, or_true, Nat.reducePow, Nat.reduceDiv, Nat.reduceMod]

theorem execIdcode_parts {M : Nat} (s : State) (hM : M &&& 25165824 = 25165824 := by decide) :
    Keeps M s (execIdcode s) := by
  refine keeps_mono (m := 25165824) ?_ hM
  simp only [execIdcode, keeps_next, State.emit_parts, State.tapIr_parts, Nat.reduceAnd]

theorem execBypass_parts {M : Nat} (s : State) (hM : M &&& 25165824 = 25165824 := by decide) :
    Keeps M s (execBypass s) := by
  refine keeps_mono (m := 25165824) ?_ hM
  simp only [execBypass, keeps_next, State.emit_parts, State.tapIr_parts, Nat.reduceAnd]

theorem execIjtagRead_parts {M : Nat} (ix : BitVec 32) (s : State) (hM : M &&& 58720256 = 58720256 := by decide) :
    Keeps M s (execIjtagRead ix s) := by
  refine keeps_mono (m := 58720256) ?_ hM
  simp only [execIjtagRead, keeps_next, keeps_ite, State.emit_parts, State.tapIr_parts, execBypass_parts, mask_ite, implies_true, Nat.reducePow, Nat.reduceAnd]; (repeat' split) <;> simp only [State.emit_parts, State.fresh_parts, State.tapIr_parts, implies_true, and_self, Nat.reduceAnd]

theorem State.realign_parts {M : Nat} (s : State) (f : Nat) (hM : M &&& 24 = 24 := by decide) :
    (State.realign s f).mask M = s.mask M := by
  refine mask_mono (m := 24) ?_ hM
  simp only [State.realign, State.alignSeams_parts, State.updField_parts, Nat.reduceAnd]

theorem State.stopAclk_parts {M : Nat} (s : State) (f : Nat) (hM : M &&& 20504 = 20504 := by decide) :
    (State.stopAclk s f).mask M = s.mask M := by
  refine mask_mono (m := 20504) ?_ hM
  simp only [State.stopAclk, State.fieldFault_parts, State.satReg_parts, State.updField_parts, mask_ite, ite_self, Nat.reduceAnd]

theorem execIjtagRw_parts {M : Nat} (u : IjtagUpdate) (s : State) (hM : M &&& 67108862 = 67108862 := by decide) :
    Keeps M s (execIjtagRw u s) := by
  refine keeps_mono (m := 67108862) ?_ hM
  unfold execIjtagRw; (repeat' split) <;> simp only [keeps_next, State.realign_parts, State.resetReq_parts, State.stopAclk_parts, State.tapIr_parts, execBypass_parts, mask_upd, mask_ite, ite_self, and_self, true_or, or_true, Nat.reducePow, Nat.reduceDiv, Nat.reduceMod, Nat.reduceAnd]

theorem execBcHalt_parts {M : Nat} (s : State) (hM : M &&& 25165824 = 25165824 := by decide) :
    Keeps M s (execBcHalt s) := by
  refine keeps_mono (m := 25165824) ?_ hM
  simp only [execBcHalt, keeps_next, keeps_ite, State.tapIr_parts, execBypass_parts, mask_upd, mask_ite, ite_self, implies_true, and_self, true_or, or_true, Nat.reducePow, Nat.reduceDiv, Nat.reduceMod, Nat.reduceAnd]

theorem execTileScan_parts {M : Nat} (f : Fin 48) (s : State) (hM : M &&& 58720272 = 58720272 := by decide) :
    Keeps M s (execTileScan f s) := by
  refine keeps_mono (m := 58720272) ?_ hM
  simp only [execTileScan, keeps_next, keeps_ite, State.emit_parts, State.fresh_parts, State.tapIr_parts, State.updField_parts, execBypass_parts, mask_upd, implies_true, and_self, true_or, or_true, Nat.reducePow, Nat.reduceDiv, Nat.reduceMod, Nat.reduceAnd]

theorem State.scanEnd_parts {M : Nat} (s : State) (f : Nat) (hM : M &&& 8388632 = 8388632 := by decide) :
    (State.scanEnd s f).mask M = s.mask M := by
  refine mask_mono (m := 8388632) ?_ hM
  simp only [State.scanEnd, State.realign_parts, mask_upd, and_self, true_or, or_true, Nat.reducePow, Nat.reduceDiv, Nat.reduceMod, Nat.reduceAnd]

theorem execTileScanEnd_parts {M : Nat} (f : Fin 48) (s : State) (hM : M &&& 8388632 = 8388632 := by decide) :
    Keeps M s (execTileScanEnd f s) := by
  refine keeps_mono (m := 8388632) ?_ hM
  simp only [execTileScanEnd, keeps_next, keeps_ite, State.scanEnd_parts, implies_true, and_self, Nat.reduceAnd]

theorem State.relock_parts {M : Nat} (s : State) (hM : M &&& 46254360 = 46254360 := by decide) :
    (State.relock s).mask M = s.mask M := by
  refine mask_mono (m := 46254360) ?_ hM
  unfold State.relock
  refine (State.remeasure_parts ..).trans ((State.setReg_parts ..).trans ?_)
  refine (mask_foldl _ _ (fun s f => ?_) _ _).trans ?_
  · exact (State.bloomFinish_parts ..).trans ((State.bloomField_parts ..).trans ((State.mapTiles_parts ..).trans (State.scanEnd_parts ..)))
  · refine (mask_foldl _ _ (fun s f => State.realign_parts ..) _ _).trans ?_
    exact (mask_upd ..).trans ((State.setReg_parts ..).trans (State.bcResume_parts ..))

end Sys2Proof.Machine
end

