-- ==== Sys2Proof/Laws/PartsHost.lean ====
section
/-!
SUPPORT. Sys2Proof/Laws/PartsHost.lean: the parts of the state that each operation and each meaning may change: the ledger, trust and register writes.
-/

set_option Elab.async false

namespace Sys2Proof.Machine

theorem execPerstN_parts {M : Nat} (port : Fin 2) (low : Bool) (s : State) (hM : M &&& 12582920 = 12582920 := by decide) :
    Keeps M s (execPerstN port low s) := by
  refine keeps_mono (m := 12582920) ?_ hM
  simp only [execPerstN, keeps_next, State.hostDown_parts, mask_upd, mask_ite, ite_self, and_self, true_or, or_true, Nat.reducePow, Nat.reduceDiv, Nat.reduceMod, Nat.reduceAnd]

theorem execHotReset_parts {M : Nat} (port : Fin 2) (s : State) (hM : M &&& 12582920 = 12582920 := by decide) :
    Keeps M s (execHotReset port s) := by
  refine keeps_mono (m := 12582920) ?_ hM
  simp only [execHotReset, keeps_next, State.hostDown_parts, Nat.reduceAnd]

theorem execFlr_parts {M : Nat} (port : Fin 2) (s : State) (hM : M &&& 12582920 = 12582920 := by decide) :
    Keeps M s (execFlr port s) := by
  refine keeps_mono (m := 12582920) ?_ hM
  simp only [execFlr, keeps_next, State.hostDown_parts, Nat.reduceAnd]

theorem execPcieLinkUp_parts {M : Nat} (port : Fin 2) (rate : Fin 6) (width : Fin 4) (s : State) (hM : M &&& 20987928 = 20987928 := by decide) :
    Keeps M s (execPcieLinkUp port rate width s) := by
  refine keeps_mono (m := 20987928) ?_ hM
  simp only [execPcieLinkUp, keeps_next, keeps_ite, State.hpEvent_parts, State.moduleFault_parts, State.setReg_parts, mask_ite, ite_self, implies_true, and_self, Nat.reduceAnd]

theorem execHpLinkDown_parts {M : Nat} (port : Fin 2) (s : State) (hM : M &&& 4210712 = 4210712 := by decide) :
    Keeps M s (execHpLinkDown port s) := by
  refine keeps_mono (m := 4210712) ?_ hM
  simp only [execHpLinkDown, keeps_next, keeps_ite, State.dropFlying_parts, State.moduleFault_parts, State.setReg_parts, implies_true, and_self, Nat.reduceAnd]

theorem State.ideDrop_parts {M : Nat} (s : State) (port : Nat) (hM : M &&& 16408 = 16408 := by decide) :
    (State.ideDrop s port).mask M = s.mask M := by
  refine mask_mono (m := 16408) ?_ hM
  simp only [State.ideDrop, State.moduleFault_parts, Nat.reduceAnd]

theorem State.bar2Write_parts {M : Nat} (s : State) (port off : Nat) (data : List Nat) (hM : M &&& 4194312 = 4194312 := by decide) :
    (State.bar2Write s port off data).mask M = s.mask M := by
  refine mask_mono (m := 4194312) ?_ hM
  simp only [State.bar2Write, State.satReg_parts, mask_upd, mask_ite, ite_self, and_self, true_or, or_true, Nat.reducePow, Nat.reduceDiv, Nat.reduceMod, Nat.reduceAnd]

theorem State.hostBar2_parts {M : Nat} (s : State) (port off : Nat) (data : List Nat) (hM : M &&& 4194312 = 4194312 := by decide) :
    (State.hostBar2 s port off data).mask M = s.mask M := by
  refine mask_mono (m := 4194312) ?_ hM
  simp only [State.hostBar2, State.bar2Write_parts, State.satReg_parts, mask_ite, ite_self, Nat.reduceAnd]

theorem execPostingMapWrite_parts {M : Nat} (port : Fin 2) (off : Fin 512) (data : List (BitVec 8)) (s : State) (hM : M &&& 4194312 = 4194312 := by decide) :
    Keeps M s (execPostingMapWrite port off data s) := by
  refine keeps_mono (m := 4194312) ?_ hM
  simp only [execPostingMapWrite, keeps_next, State.hostBar2_parts, Nat.reduceAnd]

theorem execBar2Write_parts {M : Nat} (port : Fin 2) (off : BitVec 28) (data : List (BitVec 8)) (ideBad : Bool) (s : State) (hM : M &&& 4210712 = 4210712 := by decide) :
    Keeps M s (execBar2Write port off data ideBad s) := by
  refine keeps_mono (m := 4210712) ?_ hM
  simp only [execBar2Write, keeps_next, keeps_ite, State.hostBar2_parts, State.ideDrop_parts, implies_true, and_self, Nat.reduceAnd]

theorem execRingEnable_parts {M : Nat} (port : Fin 2) (k : Fin 64) (s : State) (hM : M &&& 4194312 = 4194312 := by decide) :
    Keeps M s (execRingEnable port k s) := by
  refine keeps_mono (m := 4194312) ?_ hM
  simp only [execRingEnable, keeps_next, State.hostBar2_parts, Nat.reduceAnd]

theorem execConsWrite_parts {M : Nat} (port : Fin 2) (k : Fin 64) (v : BitVec 32) (s : State) (hM : M &&& 4194312 = 4194312 := by decide) :
    Keeps M s (execConsWrite port k v s) := by
  refine keeps_mono (m := 4194312) ?_ hM
  simp only [execConsWrite, keeps_next, State.hostBar2_parts, Nat.reduceAnd]

theorem State.leaseExpires_parts {M : Nat} (s : State) (port : Nat) (hM : M &&& 21512216 = 21512216 := by decide) :
    (State.leaseExpires s port).mask M = s.mask M := by
  refine mask_mono (m := 21512216) ?_ hM
  simp only [State.leaseExpires, State.hpEvent_parts, State.moduleFault_parts, State.warn_parts, mask_upd, and_self, true_or, or_true, Nat.reducePow, Nat.reduceDiv, Nat.reduceMod, Nat.reduceAnd]

theorem execLeaseExpiry_parts {M : Nat} (port : Fin 2) (s : State) (hM : M &&& 21512216 = 21512216 := by decide) :
    Keeps M s (execLeaseExpiry port s) := by
  refine keeps_mono (m := 21512216) ?_ hM
  simp only [execLeaseExpiry, keeps_next, State.leaseExpires_parts, mask_ite, ite_self, Nat.reduceAnd]

theorem execRenew_parts {M : Nat} (port : Fin 2) (s : State) (hM : M &&& 4718600 = 4718600 := by decide) :
    Keeps M s (execRenew port s) := by
  refine keeps_mono (m := 4718600) ?_ hM
  simp only [execRenew, keeps_next, State.cmd_parts, State.warn_parts, mask_upd, mask_ite, ite_self, and_self, true_or, or_true, Nat.reducePow, Nat.reduceDiv, Nat.reduceMod, Nat.reduceAnd]

theorem State.claimAll_parts {M : Nat} (s : State) (port : Nat) (is : List Nat) (hM : M &&& 4194304 = 4194304 := by decide) :
    (State.claimAll s port is).mask M = s.mask M := by
  refine mask_mono (m := 4194304) ?_ hM
  simp only [State.claimAll, mask_upd, and_self, true_or, or_true, Nat.reducePow, Nat.reduceDiv, Nat.reduceMod]

theorem execClaim_parts {M : Nat} (port : Fin 2) (s : State) (hM : M &&& 4194312 = 4194312 := by decide) :
    Keeps M s (execClaim port s) := by
  refine keeps_mono (m := 4194312) ?_ hM
  simp only [execClaim, keeps_next, State.claimAll_parts, State.cmd_parts, Nat.reduceAnd]

theorem execClaimAll_parts {M : Nat} (port : Fin 2) (s : State) (hM : M &&& 4194312 = 4194312 := by decide) :
    Keeps M s (execClaimAll port s) := by
  refine keeps_mono (m := 4194312) ?_ hM
  simp only [execClaimAll, keeps_next, State.claimAll_parts, State.cmd_parts, Nat.reduceAnd]

theorem State.journalFull_parts {M : Nat} (s : State) (hM : M &&& 20987928 = 20987928 := by decide) :
    (State.journalFull s).mask M = s.mask M := by
  refine mask_mono (m := 20987928) ?_ hM
  simp only [State.journalFull, State.moduleFault_parts, State.setLedger_parts, mask_upd, mask_ite, ite_self, and_self, true_or, or_true, Nat.reducePow, Nat.reduceDiv, Nat.reduceMod, Nat.reduceAnd]

theorem State.mirrorWrite_parts {M : Nat} (s : State) (i : Nat) (r : Req) (hM : M &&& 20971520 = 20971520 := by decide) :
    (State.mirrorWrite s i r).mask M = s.mask M := by
  refine mask_mono (m := 20971520) ?_ hM
  refine mask_foldl _ _ (fun s p => ?_) _ _
  exact (mask_upd ..).trans (mask_foldl _ _ (fun s k => State.emit_parts ..) _ _)

theorem State.takeRequestOf_parts {M : Nat} (s : State) (i port : Nat) (free : Bool) (d : List Nat) (hM : M &&& 20987928 = 20987928 := by decide) :
    (State.takeRequestOf s i port free d).1.mask M = s.mask M := by
  refine mask_mono (m := 20987928) ?_ hM
  simp only [State.takeRequestOf, State.journalFull_parts, State.mirrorWrite_parts, State.moduleFault_parts, State.satReg_parts, State.setReg_parts, mask_upd, mask_ite, mask_ite1, ite_self, and_self, true_or, or_true, Nat.reducePow, Nat.reduceDiv, Nat.reduceMod, Nat.reduceAnd]

theorem State.serveSlots_parts (s : State) (i port : Nat) (n q : Nat) (free : Bool) {M : Nat} (hM : M &&& 20987928 = 20987928 := by decide) :
    (s.serveSlots i port n q free).1.mask M = s.mask M := by
  refine mask_mono (m := 20987928) ?_ hM
  induction n generalizing s q free with
  | zero => rfl
  | succ n ih =>
    unfold State.serveSlots
    dsimp only
    split
    · exact mask_upd ..
    · split
      · exact mask_upd ..
      · split
        · split
          · exact mask_upd ..
          · rfl
        · split
          · exact State.takeRequestOf_parts ..
          · exact (ih ..).trans (State.takeRequestOf_parts ..)

theorem State.serveSession_parts {M : Nat} (s : State) (i port : Nat) (hM : M &&& 20987928 = 20987928 := by decide) :
    (State.serveSession s i port).1.mask M = s.mask M := by
  refine mask_mono (m := 20987928) ?_ hM
  unfold State.serveSession
  refine (State.serveSlots_parts ..).trans ?_
  split <;> rfl

theorem State.servePosted_parts (a b : Nat) (w : State × Bool) (i : Nat) {M : Nat} (hM : M &&& 20987928 = 20987928 := by decide) :
    (State.servePosted a b w i).1.mask M = w.1.mask M := by
  refine mask_mono (m := 20987928) ?_ hM
  unfold State.servePosted
  dsimp only
  (repeat' split) <;> first | rfl | exact mask_upd .. | exact State.serveSession_parts .. | skip

theorem State.tellAnchor_parts {M : Nat} (s : State) (hM : M &&& 38141960 = 38141960 := by decide) :
    (State.tellAnchor s).mask M = s.mask M := by
  refine mask_mono (m := 38141960) ?_ hM
  simp only [State.tellAnchor, State.request_parts, mask_upd, mask_ite, ite_self, mask_foldl, implies_true, and_self, true_or, or_true, Nat.reducePow, Nat.reduceDiv, Nat.reduceMod, Nat.reduceAnd]

theorem State.journalRoom_parts {M : Nat} (s : State) (hM : M &&& 20971528 = 20971528 := by decide) :
    (State.journalRoom s).mask M = s.mask M := by
  refine mask_mono (m := 20971528) ?_ hM
  simp only [State.journalRoom, State.setLedger_parts, mask_ite, ite_self, Nat.reduceAnd]

theorem execIntakeTick_parts {M : Nat} (ups : List (Addr × Upset)) (s : State) (hM : M &&& 55459864 = 55459864 := by decide) :
    Keeps M s (execIntakeTick ups s) := by
  refine keeps_mono (m := 55459864) ?_ hM
  unfold execIntakeTick
  split
  · exact (keeps_next _ _ _).2 rfl
  · refine (keeps_next _ _ _).2 ((State.tellAnchor_parts ..).trans ?_)
    have h : (([0, 1].foldl (fun (s : State) p => if s.leaseDue p then s.leaseExpires p else s) (s.upsets ups)).journalRoom.refreshLedger).mask 55459864
        = s.mask 55459864 := by
      refine (State.refreshLedger_parts ..).trans ((State.journalRoom_parts ..).trans
        ((mask_foldl _ _ (fun s p => ?_) _ _).trans (State.upsets_parts ..)))
      split
      · exact State.leaseExpires_parts ..
      · rfl
    generalize ([0, 1].foldl (fun (s : State) p => if s.leaseDue p then s.leaseExpires p else s) (s.upsets ups)).journalRoom.refreshLedger = u at h
    refine Eq.trans ?_ h
    split
    · rfl
    · dsimp only
      split
      · rfl
      · refine (mask_foldl1 _ _ (fun w i => State.servePosted_parts ..) _ _).trans rfl

theorem State.acceptNow_parts {M : Nat} (s : State) (a : Accepting) (hM : M &&& 4194304 = 4194304 := by decide) :
    (State.acceptNow s a).mask M = s.mask M := by
  refine mask_mono (m := 4194304) ?_ hM
  simp only [State.acceptNow, mask_upd, and_self, true_or, or_true, Nat.reducePow, Nat.reduceDiv, Nat.reduceMod]

theorem execAcceptance_parts {M : Nat} (s : State) (hM : M &&& 4194320 = 4194320 := by decide) :
    Keeps M s (execAcceptance s) := by
  refine keeps_mono (m := 4194320) ?_ hM
  unfold execAcceptance; (repeat' split) <;> simp only [keeps_next, State.acceptNow_parts, State.served_parts, mask_upd, and_self, true_or, or_true, Nat.reducePow, Nat.reduceDiv, Nat.reduceMod, Nat.reduceAnd]

theorem execMirrorReadback_parts {M : Nat} (ok : Bool) (s : State) (hM : M &&& 4210712 = 4210712 := by decide) :
    Keeps M s (execMirrorReadback ok s) := by
  refine keeps_mono (m := 4210712) ?_ hM
  unfold execMirrorReadback; (repeat' split) <;> simp only [keeps_next, State.moduleFault_parts, mask_upd, and_self, true_or, or_true, Nat.reducePow, Nat.reduceDiv, Nat.reduceMod, Nat.reduceAnd]

theorem State.putHalf_parts {M : Nat} (s : State) (base : Nat) (tag : Nat) (b : List Nat) (hM : M &&& 16 = 16 := by decide) :
    (State.putHalf s base tag b).mask M = s.mask M := by
  refine mask_mono (m := 16) ?_ hM
  refine mask_foldl _ _ (fun s x => ?_) _ _
  dsimp only
  cases s.locate (x % 128) with
  | none => rfl
  | some e => exact (State.served_parts ..).trans (State.setTile_parts ..)

theorem execFeedWrite_parts {M : Nat} (s : State) (hM : M &&& 20987928 = 20987928 := by decide) :
    Keeps M s (execFeedWrite s) := by
  refine keeps_mono (m := 20987928) ?_ hM
  simp only [execFeedWrite]; (repeat' split) <;> simp only [keeps_next, State.journalFull_parts, State.putHalf_parts, mask_upd, and_self, true_or, or_true, Nat.reducePow, Nat.reduceDiv, Nat.reduceMod, Nat.reduceAnd]

theorem State.noteHalf_parts {M : Nat} (s : State) (base n : Nat) (hM : M &&& 4210712 = 4210712 := by decide) :
    (State.noteHalf s base n).mask M = s.mask M := by
  refine mask_mono (m := 4210712) ?_ hM
  refine mask_foldl _ _ (fun s x => ?_) _ _
  cases s.locate (x % 128) with
  | none => rfl
  | some e => exact State.noteStack_parts ..

theorem execDrainRead_parts {M : Nat} (s : State) (hM : M &&& 4210712 = 4210712 := by decide) :
    Keeps M s (execDrainRead s) := by
  refine keeps_mono (m := 4210712) ?_ hM
  unfold execDrainRead; (repeat' split) <;> simp only [keeps_next, State.noteHalf_parts, State.served_parts, mask_upd, and_self, true_or, or_true, Nat.reducePow, Nat.reduceDiv, Nat.reduceMod, Nat.reduceAnd]

theorem execLdgFeedLate_parts {M : Nat} (s : State) (hM : M &&& 20504 = 20504 := by decide) :
    Keeps M s (execLdgFeedLate s) := by
  refine keeps_mono (m := 20504) ?_ hM
  simp only [execLdgFeedLate]; (repeat' split) <;> simp only [keeps_next, State.invalidate_parts, State.moduleFault_parts, Nat.reduceAnd]

theorem State.writeRecord_parts {M : Nat} (s : State) (i : Nat) (hM : M &&& 20971520 = 20971520 := by decide) :
    (State.writeRecord s i).mask M = s.mask M := by
  refine mask_mono (m := 20971520) ?_ hM
  unfold State.writeRecord; (repeat' split) <;> simp only [State.emit_parts, mask_upd, mask_ite, ite_self, and_self, true_or, or_true, Nat.reducePow, Nat.reduceDiv, Nat.reduceMod, Nat.reduceAnd]

theorem State.zeroHalf_parts {M : Nat} (s : State) (base off n : Nat) (hM : M &&& 16 = 16 := by decide) :
    (State.zeroHalf s base off n).mask M = s.mask M := by
  refine mask_mono (m := 16) ?_ hM
  refine mask_foldl _ _ (fun s k => ?_) _ _
  dsimp only
  cases s.locate ((off + 8 * k) / 2048 % 128) with
  | none => rfl
  | some e => exact State.setTile_parts ..

theorem State.wipeFeed_parts {M : Nat} (s : State) (i : Nat) (hM : M &&& 16 = 16 := by decide) :
    (State.wipeFeed s i).mask M = s.mask M := by
  refine mask_mono (m := 16) ?_ hM
  unfold State.wipeFeed
  refine mask_foldl _ _ (fun s h => ?_) _ _
  simp only [mask_ite]
  refine (ite_congr rfl (fun _ => rfl) (fun _ => mask_foldl _ _ (fun s j => ?_) _ _)).trans (ite_self _)
  rw [mask_ite]
  exact (ite_congr rfl (fun _ => rfl) (fun _ => (State.zeroHalf_parts ..).trans (State.zeroHalf_parts ..))).trans (ite_self _)

theorem State.diverge_parts {M : Nat} (s : State) (i : Nat) (hM : M &&& 67108862 = 67108862 := by decide) :
    (State.diverge s i).mask M = s.mask M := by
  refine mask_mono (m := 67108862) ?_ hM
  simp only [State.diverge, State.castEpoch_parts, State.moduleFault_parts, State.stopRope_parts, mask_ite, ite_self, Nat.reduceAnd]

theorem State.releaseRecord_parts {M : Nat} (s : State) (i : Nat) (hM : M &&& 67108862 = 67108862 := by decide) :
    (State.releaseRecord s i).mask M = s.mask M := by
  refine mask_mono (m := 67108862) ?_ hM
  simp only [State.releaseRecord]; (repeat' split) <;> simp only [State.diverge_parts, State.journalFull_parts, State.satReg_parts, State.wipeFeed_parts, mask_upd, and_self, true_or, or_true, Nat.reducePow, Nat.reduceDiv, Nat.reduceMod, Nat.reduceAnd]

theorem execCompletionWrite_parts {M : Nat} (i : Fin 4096) (s : State) (hM : M &&& 67108862 = 67108862 := by decide) :
    Keeps M s (execCompletionWrite i s) := by
  refine keeps_mono (m := 67108862) ?_ hM
  simp only [execCompletionWrite, keeps_next, keeps_ite, State.releaseRecord_parts, State.writeRecord_parts, implies_true, and_self, Nat.reduceAnd]

theorem execCompletionWriteDone_parts {M : Nat} (port : Fin 2) (k : Fin 64) (s : State) (hM : M &&& 4194304 = 4194304 := by decide) :
    Keeps M s (execCompletionWriteDone port k s) := by
  refine keeps_mono (m := 4194304) ?_ hM
  simp only [execCompletionWriteDone, keeps_next, keeps_ite, mask_upd, implies_true, and_self, true_or, or_true, Nat.reducePow, Nat.reduceDiv, Nat.reduceMod]

theorem execMsixCoalesce_parts {M : Nat} (port : Fin 2) (k : Fin 64) (s : State) (hM : M &&& 20971520 = 20971520 := by decide) :
    Keeps M s (execMsixCoalesce port k s) := by
  refine keeps_mono (m := 20971520) ?_ hM
  simp only [execMsixCoalesce, keeps_next, keeps_ite, State.signal_parts, mask_upd, implies_true, and_self, true_or, or_true, Nat.reducePow, Nat.reduceDiv, Nat.reduceMod, Nat.reduceAnd]

theorem State.setConn_parts {M : Nat} (s : State) (c : Nat) (x : SpdmConn) (hM : M &&& 8388608 = 8388608 := by decide) :
    (State.setConn s c x).mask M = s.mask M := by
  refine mask_mono (m := 8388608) ?_ hM
  simp only [State.setConn, mask_upd, and_self, true_or, or_true, Nat.reducePow, Nat.reduceDiv, Nat.reduceMod]

theorem State.spdmSend_parts {M : Nat} (s : State) (c : Nat) (b : List Nat) (hM : M &&& 25165824 = 25165824 := by decide) :
    (State.spdmSend s c b).mask M = s.mask M := by
  refine mask_mono (m := 25165824) ?_ hM
  simp only [State.spdmSend, State.emit_parts, State.setConn_parts, mask_ite, ite_self, Nat.reduceAnd]

theorem State.spdmError_parts {M : Nat} (s : State) (c code : Nat) (hM : M &&& 25165824 = 25165824 := by decide) :
    (State.spdmError s c code).mask M = s.mask M := by
  refine mask_mono (m := 25165824) ?_ hM
  simp only [State.spdmError, State.spdmSend_parts, Nat.reduceAnd]

theorem State.freshBytes_parts {M : Nat} (s : State) (n : Nat) (hM : M &&& 33554432 = 33554432 := by decide) :
    (State.freshBytes s n).1.mask M = s.mask M := by
  refine mask_mono (m := 33554432) ?_ hM
  simp only [State.freshBytes, State.fresh_parts, Nat.reduceAnd]

theorem State.spdmSigned_parts {M : Nat} (s : State) (c : Nat) (head : List Nat) (hM : M &&& 58720256 = 58720256 := by decide) :
    (State.spdmSigned s c head).mask M = s.mask M := by
  refine mask_mono (m := 58720256) ?_ hM
  simp only [State.spdmSigned, State.freshBytes_parts, State.setConn_parts, State.spdmSend_parts, mask_upd, and_self, true_or, or_true, Nat.reducePow, Nat.reduceDiv, Nat.reduceMod, Nat.reduceAnd]

theorem State.spdmServe_parts {M : Nat} (s : State) (c : Nat) (q : SpdmReq) (hM : M &&& 58720256 = 58720256 := by decide) :
    (State.spdmServe s c q).mask M = s.mask M := by
  refine mask_mono (m := 58720256) ?_ hM
  simp only [State.spdmServe, Nat.reducePow]; (repeat' split) <;> simp only [State.freshBytes_parts, State.setConn_parts, State.spdmError_parts, State.spdmSend_parts, State.spdmSigned_parts, Nat.reduceAnd]

theorem execGetVersion_parts {M : Nat} (c : Fin 5) (s : State) (hM : M &&& 58720256 = 58720256 := by decide) :
    Keeps M s (execGetVersion c s) := by
  refine keeps_mono (m := 58720256) ?_ hM
  simp only [execGetVersion, keeps_next, keeps_ite, State.spdmServe_parts, implies_true, and_self, Nat.reduceAnd]

theorem execGetCapabilities_parts {M : Nat} (c : Fin 5) (limit : BitVec 32) (s : State) (hM : M &&& 58720256 = 58720256 := by decide) :
    Keeps M s (execGetCapabilities c limit s) := by
  refine keeps_mono (m := 58720256) ?_ hM
  simp only [execGetCapabilities, keeps_next, keeps_ite, State.spdmServe_parts, implies_true, and_self, Nat.reduceAnd]

theorem execNegotiateAlgorithms_parts {M : Nat} (c : Fin 5) (ok : Bool) (s : State) (hM : M &&& 58720256 = 58720256 := by decide) :
    Keeps M s (execNegotiateAlgorithms c ok s) := by
  refine keeps_mono (m := 58720256) ?_ hM
  simp only [execNegotiateAlgorithms, keeps_next, keeps_ite, State.spdmServe_parts, implies_true, and_self, Nat.reduceAnd]

theorem execGetDigests_parts {M : Nat} (c : Fin 5) (s : State) (hM : M &&& 58720256 = 58720256 := by decide) :
    Keeps M s (execGetDigests c s) := by
  refine keeps_mono (m := 58720256) ?_ hM
  simp only [execGetDigests, keeps_next, keeps_ite, State.spdmServe_parts, implies_true, and_self, Nat.reduceAnd]

theorem execGetCertificate_parts {M : Nat} (c : Fin 5) (slot : BitVec 8) (off len : BitVec 16) (s : State) (hM : M &&& 58720256 = 58720256 := by decide) :
    Keeps M s (execGetCertificate c slot off len s) := by
  refine keeps_mono (m := 58720256) ?_ hM
  simp only [execGetCertificate, keeps_next, keeps_ite, State.spdmServe_parts, implies_true, and_self, Nat.reduceAnd]

theorem execChallenge_parts {M : Nat} (c : Fin 5) (slot : BitVec 8) (s : State) (hM : M &&& 58720256 = 58720256 := by decide) :
    Keeps M s (execChallenge c slot s) := by
  refine keeps_mono (m := 58720256) ?_ hM
  simp only [execChallenge, keeps_next, keeps_ite, State.spdmServe_parts, implies_true, and_self, Nat.reduceAnd]

theorem execGetMeasurements_parts {M : Nat} (c : Fin 5) (index : BitVec 8) (sign : Bool) (s : State) (hM : M &&& 58720256 = 58720256 := by decide) :
    Keeps M s (execGetMeasurements c index sign s) := by
  refine keeps_mono (m := 58720256) ?_ hM
  simp only [execGetMeasurements, keeps_next, keeps_ite, State.spdmServe_parts, implies_true, and_self, Nat.reduceAnd]

theorem execKeyExchange_parts {M : Nat} (c : Fin 5) (slot : BitVec 8) (s : State) (hM : M &&& 58720256 = 58720256 := by decide) :
    Keeps M s (execKeyExchange c slot s) := by
  refine keeps_mono (m := 58720256) ?_ hM
  simp only [execKeyExchange, keeps_next, keeps_ite, State.spdmServe_parts, implies_true, and_self, Nat.reduceAnd]

theorem execFinish_parts {M : Nat} (c : Fin 5) (ok : Bool) (s : State) (hM : M &&& 58720256 = 58720256 := by decide) :
    Keeps M s (execFinish c ok s) := by
  refine keeps_mono (m := 58720256) ?_ hM
  simp only [execFinish, keeps_next, keeps_ite, State.spdmServe_parts, implies_true, and_self, Nat.reduceAnd]

theorem execKeyUpdate_parts {M : Nat} (c : Fin 5) (op : BitVec 8) (s : State) (hM : M &&& 58720256 = 58720256 := by decide) :
    Keeps M s (execKeyUpdate c op s) := by
  refine keeps_mono (m := 58720256) ?_ hM
  simp only [execKeyUpdate, keeps_next, keeps_ite, State.spdmServe_parts, implies_true, and_self, Nat.reduceAnd]

theorem execHeartbeat_parts {M : Nat} (c : Fin 5) (s : State) (hM : M &&& 58720256 = 58720256 := by decide) :
    Keeps M s (execHeartbeat c s) := by
  refine keeps_mono (m := 58720256) ?_ hM
  simp only [execHeartbeat, keeps_next, keeps_ite, State.spdmServe_parts, implies_true, and_self, Nat.reduceAnd]

theorem execEndSession_parts {M : Nat} (c : Fin 5) (s : State) (hM : M &&& 58720256 = 58720256 := by decide) :
    Keeps M s (execEndSession c s) := by
  refine keeps_mono (m := 58720256) ?_ hM
  simp only [execEndSession, keeps_next, keeps_ite, State.spdmServe_parts, implies_true, and_self, Nat.reduceAnd]

theorem execGetPqCert_parts {M : Nat} (c : Fin 5) (off : BitVec 32) (len : BitVec 16) (s : State) (hM : M &&& 58720256 = 58720256 := by decide) :
    Keeps M s (execGetPqCert c off len s) := by
  refine keeps_mono (m := 58720256) ?_ hM
  simp only [execGetPqCert, keeps_next, keeps_ite, State.spdmServe_parts, implies_true, and_self, Nat.reduceAnd]

theorem execGetPqSig_parts {M : Nat} (c : Fin 5) (s : State) (hM : M &&& 58720256 = 58720256 := by decide) :
    Keeps M s (execGetPqSig c s) := by
  refine keeps_mono (m := 58720256) ?_ hM
  simp only [execGetPqSig, keeps_next, keeps_ite, State.spdmServe_parts, implies_true, and_self, Nat.reduceAnd]

theorem execChunkSend_parts {M : Nat} (c : Fin 5) (data : List (BitVec 8)) (last : Bool) (q : SpdmReq) (s : State) (hM : M &&& 58720256 = 58720256 := by decide) :
    Keeps M s (execChunkSend c data last q s) := by
  refine keeps_mono (m := 58720256) ?_ hM
  simp only [execChunkSend, keeps_next, keeps_ite, State.emit_parts, State.setConn_parts, State.spdmServe_parts, mask_ite, ite_self, implies_true, and_self, Nat.reduceAnd]

theorem execChunkGet_parts {M : Nat} (c : Fin 5) (s : State) (hM : M &&& 25165824 = 25165824 := by decide) :
    Keeps M s (execChunkGet c s) := by
  refine keeps_mono (m := 25165824) ?_ hM
  simp only [execChunkGet, keeps_next, keeps_ite, State.emit_parts, State.setConn_parts, State.spdmError_parts, implies_true, and_self, Nat.reduceAnd]

theorem execIdeKm_parts {M : Nat} (port : Fin 2) (m : IdeKm) (s : State) (hM : M &&& 25165832 = 25165832 := by decide) :
    Keeps M s (execIdeKm port m s) := by
  refine keeps_mono (m := 25165832) ?_ hM
  unfold execIdeKm; (repeat' split) <;> simp only [keeps_next, keeps_ite, State.emit_parts, State.setReg_parts, mask_upd, mask_ite, ite_self, implies_true, and_self, true_or, or_true, Nat.reducePow, Nat.reduceDiv, Nat.reduceMod, Nat.reduceAnd]

theorem State.ownerCmd_parts {M : Nat} (s : State) (a : OwnerAuth) (status op : Nat) (hM : M &&& 8 = 8 := by decide) :
    (State.ownerCmd s a status op).mask M = s.mask M := by
  refine mask_mono (m := 8) ?_ hM
  simp only [State.ownerCmd, State.cmd_parts, State.setReg_parts, Nat.reduceAnd]

theorem State.ownerDenied_parts {M : Nat} (s : State) (a : OwnerAuth) (op : Nat) (hM : M &&& 16408 = 16408 := by decide) :
    (State.ownerDenied s a op).mask M = s.mask M := by
  refine mask_mono (m := 16408) ?_ hM
  simp only [State.ownerDenied, State.moduleFault_parts, State.ownerCmd_parts, State.setReg_parts, Nat.reduceAnd]

theorem State.ownerDone_parts {M : Nat} (s : State) (a : OwnerAuth) (op : Nat) (hM : M &&& 109051912 = 109051912 := by decide) :
    (State.ownerDone s a op).mask M = s.mask M := by
  refine mask_mono (m := 109051912) ?_ hM
  simp only [State.ownerDone, State.ownerCmd_parts, State.remeasure_parts, mask_upd, true_or, or_true, Nat.reducePow, Nat.reduceDiv, Nat.reduceMod, Nat.reduceAnd]

theorem State.setOwner_parts {M : Nat} (s : State) (k : Nat) (x : OwnerSlot) (hM : M &&& 75497472 = 75497472 := by decide) :
    (State.setOwner s k x).mask M = s.mask M := by
  refine mask_mono (m := 75497472) ?_ hM
  simp only [State.setOwner, mask_upd, true_or, or_true, Nat.reducePow, Nat.reduceDiv, Nat.reduceMod]

theorem execTake_parts {M : Nat} (a : OwnerAuth) (keys : BitVec 384) (s : State) (hM : M &&& 109068312 = 109068312 := by decide) :
    Keeps M s (execTake a keys s) := by
  refine keeps_mono (m := 109068312) ?_ hM
  simp only [execTake, keeps_next, keeps_ite, State.ownerDenied_parts, State.ownerDone_parts, State.setOwner_parts, implies_true, and_self, Nat.reduceAnd]

theorem execSetSlot_parts {M : Nat} (a : OwnerAuth) (k : Fin 4) (keys : BitVec 384) (roles : BitVec 3) (s : State) (hM : M &&& 109068312 = 109068312 := by decide) :
    Keeps M s (execSetSlot a k keys roles s) := by
  refine keeps_mono (m := 109068312) ?_ hM
  simp only [execSetSlot, keeps_next, keeps_ite, State.ownerDenied_parts, State.ownerDone_parts, State.setOwner_parts, implies_true, and_self, Nat.reduceAnd]

theorem execRevoke_parts {M : Nat} (a : OwnerAuth) (k : Fin 4) (s : State) (hM : M &&& 109068312 = 109068312 := by decide) :
    Keeps M s (execRevoke a k s) := by
  refine keeps_mono (m := 109068312) ?_ hM
  simp only [execRevoke, keeps_next, keeps_ite, State.ownerDenied_parts, State.ownerDone_parts, State.setOwner_parts, implies_true, and_self, Nat.reduceAnd]

theorem execAdvanceSvn_parts {M : Nat} (a : OwnerAuth) (s : State) (hM : M &&& 109068313 = 109068313 := by decide) :
    Keeps M s (execAdvanceSvn a s) := by
  refine keeps_mono (m := 109068313) ?_ hM
  simp only [execAdvanceSvn, keeps_next, keeps_ite, State.ownerDenied_parts, State.ownerDone_parts, mask_upd, implies_true, and_self, true_or, or_true, Nat.reducePow, Nat.reduceDiv, Nat.reduceMod, Nat.reduceAnd]

theorem execRelease_parts {M : Nat} (a : OwnerAuth) (s : State) (hM : M &&& 113344408 = 113344408 := by decide) :
    Keeps M s (execRelease a s) := by
  refine keeps_mono (m := 113344408) ?_ hM
  simp only [execRelease, keeps_next, keeps_ite, State.debugWipe_parts, State.ownerDenied_parts, State.ownerDone_parts, mask_upd, implies_true, and_self, true_or, or_true, Nat.reducePow, Nat.reduceDiv, Nat.reduceMod, Nat.reduceAnd]

theorem State.sealCmd_parts {M : Nat} (s : State) (status op i : Nat) (stage : Nat) (hM : M &&& 8 = 8 := by decide) :
    (State.sealCmd s status op i stage).mask M = s.mask M := by
  refine mask_mono (m := 8) ?_ hM
  simp only [State.sealCmd, State.cmd_parts, State.setReg_parts, Nat.reduceAnd]

theorem State.stageBytes_parts {M : Nat} (s : State) (b : Nat) (l : List Nat) (hM : M &&& 2048 = 2048 := by decide) :
    (State.stageBytes s b l).mask M = s.mask M := by
  refine mask_mono (m := 2048) ?_ hM
  simp only [State.stageBytes, mask_upd, and_self, true_or, or_true, Nat.reducePow, Nat.reduceDiv, Nat.reduceMod]

theorem execOffer_parts {M : Nat} (i : Fin 4096) (stage : BitVec 30) (s : State) (hM : M &&& 46139400 = 46139400 := by decide) :
    Keeps M s (execOffer i stage s) := by
  refine keeps_mono (m := 46139400) ?_ hM
  simp only [execOffer, keeps_next, keeps_ite, State.freshBytes_parts, State.fresh_parts, State.sealCmd_parts, State.stageBytes_parts, mask_upd, implies_true, and_self, true_or, or_true, Nat.reducePow, Nat.reduceDiv, Nat.reduceMod, Nat.reduceAnd]

theorem execOpen_parts {M : Nat} (i : Fin 4096) (stage : BitVec 30) (ups : List (Addr × Upset)) (s : State) (hM : M &&& 4212760 = 4212760 := by decide) :
    Keeps M s (execOpen i stage ups s) := by
  refine keeps_mono (m := 4212760) ?_ hM
  simp only [execOpen]; (repeat' split) <;> simp only [keeps_next, State.moduleFault_parts, State.sealCmd_parts, State.setReg_parts, State.stageBytes_parts, State.upsets_parts, mask_upd, and_self, true_or, or_true, Nat.reducePow, Nat.reduceDiv, Nat.reduceMod, Nat.reduceAnd]

theorem execAbandon_parts {M : Nat} (i : Fin 4096) (s : State) (hM : M &&& 4194312 = 4194312 := by decide) :
    Keeps M s (execAbandon i s) := by
  refine keeps_mono (m := 4194312) ?_ hM
  simp only [execAbandon, keeps_next, State.sealCmd_parts, mask_upd, and_self, true_or, or_true, Nat.reducePow, Nat.reduceDiv, Nat.reduceMod, Nat.reduceAnd]

theorem execOfferExpiry_parts {M : Nat} (i : Fin 4096) (s : State) (hM : M &&& 4194304 = 4194304 := by decide) :
    Keeps M s (execOfferExpiry i s) := by
  refine keeps_mono (m := 4194304) ?_ hM
  simp only [execOfferExpiry, keeps_next, keeps_ite, mask_upd, implies_true, and_self, true_or, or_true, Nat.reducePow, Nat.reduceDiv, Nat.reduceMod]

theorem State.dbgCmd_parts {M : Nat} (s : State) (status op stage : Nat) (hM : M &&& 8 = 8 := by decide) :
    (State.dbgCmd s status op stage).mask M = s.mask M := by
  refine mask_mono (m := 8) ?_ hM
  simp only [State.dbgCmd, State.cmd_parts, State.setReg_parts, Nat.reduceAnd]

theorem State.setNonce_parts {M : Nat} (s : State) (v : Nat) (hM : M &&& 8 = 8 := by decide) :
    (State.setNonce s v).mask M = s.mask M := by
  refine mask_mono (m := 8) ?_ hM
  simp only [State.setNonce, State.setReg_parts, mask_foldl, implies_true, Nat.reducePow, Nat.reduceAnd]

theorem execDebugChallenge_parts {M : Nat} (s : State) (hM : M &&& 41943048 = 41943048 := by decide) :
    Keeps M s (execDebugChallenge s) := by
  refine keeps_mono (m := 41943048) ?_ hM
  simp only [execDebugChallenge, keeps_next, State.dbgCmd_parts, State.fresh_parts, State.setNonce_parts, mask_upd, and_self, true_or, or_true, Nat.reducePow, Nat.reduceDiv, Nat.reduceMod, Nat.reduceAnd]

theorem State.dropNonce_parts {M : Nat} (s : State) (hM : M &&& 8388616 = 8388616 := by decide) :
    (State.dropNonce s).mask M = s.mask M := by
  refine mask_mono (m := 8388616) ?_ hM
  simp only [State.dropNonce, State.setNonce_parts, mask_upd, and_self, true_or, or_true, Nat.reducePow, Nat.reduceDiv, Nat.reduceMod, Nat.reduceAnd]

theorem execUnlock_parts {M : Nat} (t : DebugToken) (s : State) (hM : M &&& 67108862 = 67108862 := by decide) :
    Keeps M s (execUnlock t s) := by
  refine keeps_mono (m := 67108862) ?_ hM
  simp only [execUnlock, keeps_next, keeps_ite, State.dbgCmd_parts, State.debugWipe_parts, State.dropNonce_parts, State.moduleFault_parts, State.remeasure_parts, State.resetReq_parts, State.setReg_parts, mask_upd, implies_true, and_self, true_or, or_true, Nat.reducePow, Nat.reduceDiv, Nat.reduceMod, Nat.reduceAnd]

theorem execRelock_parts {M : Nat} (s : State) (hM : M &&& 46254360 = 46254360 := by decide) :
    Keeps M s (execRelock s) := by
  refine keeps_mono (m := 46254360) ?_ hM
  simp only [execRelock, keeps_next, State.dbgCmd_parts, State.relock_parts, mask_ite, ite_self, Nat.reduceAnd]

theorem execUnlockExpiry_parts {M : Nat} (s : State) (hM : M &&& 46254360 = 46254360 := by decide) :
    Keeps M s (execUnlockExpiry s) := by
  refine keeps_mono (m := 46254360) ?_ hM
  unfold execUnlockExpiry; (repeat' split) <;> simp only [keeps_next, State.relock_parts, Nat.reduceAnd]

theorem execDebugNonceExpiry_parts {M : Nat} (s : State) (hM : M &&& 8388616 = 8388616 := by decide) :
    Keeps M s (execDebugNonceExpiry s) := by
  refine keeps_mono (m := 8388616) ?_ hM
  unfold execDebugNonceExpiry; (repeat' split) <;> simp only [keeps_next, State.dropNonce_parts, Nat.reduceAnd]

theorem State.barRead_parts {M : Nat} (s : State) (port off : Nat) (hM : M &&& 8 = 8 := by decide) :
    (State.barRead s port off).1.mask M = s.mask M := by
  refine mask_mono (m := 8) ?_ hM
  simp only [State.barRead, State.satReg_parts, mask_ite1, ite_self, Nat.reduceAnd]

theorem State.after_parts (s : State) (r : Res) {M : Nat} (h : Keeps M s r) : (s.after r).mask M = s.mask M := by
  obtain ⟨t, rfl, ht⟩ := h
  exact ht

theorem State.ownerWrite_parts {M : Nat} (s : State) (op v : Nat) (hM : M &&& 113344409 = 113344409 := by decide) :
    Keeps M s (State.ownerWrite s op v) := by
  refine keeps_mono (m := 113344409) ?_ hM
  refine keeps_trans (s' := s.fresh.2.fresh.2) ?_ ((State.fresh_parts ..).trans (State.fresh_parts ..))
  unfold State.ownerWrite
  dsimp only
  split
  · exact execTake_parts ..
  · exact execSetSlot_parts ..
  · exact execRevoke_parts ..
  · exact execAdvanceSvn_parts ..
  · exact execRelease_parts ..

theorem State.installWrite_parts {M : Nat} (s : State) (v : Nat) (hM : M &&& 33573400 = 33573400 := by decide) :
    Keeps M s (State.installWrite s v) := by
  refine keeps_mono (m := 33573400) ?_ hM
  unfold State.installWrite; try dsimp only; repeat' (first | with_reducible rfl | split | refine (State.fresh_parts ..).trans ?_ | exact State.fresh_parts .. | exact execInstall_parts .. | refine keeps_trans (execInstall_parts ..) ?_ | refine (mask_foldl _ _ (fun _ _ => ?_) _ _).trans ?_ | refine (mask_foldl1 _ _ (fun _ _ => ?_) _ _).trans ?_ | refine (mask_foldl2 _ _ (fun _ _ => ?_) _ _).trans ?_ | refine (keeps_next _ _ _).2 ?_ | intro _)

theorem State.unlockWrite_parts {M : Nat} (s : State) (v : Nat) (hM : M &&& 67108862 = 67108862 := by decide) :
    Keeps M s (State.unlockWrite s v) := by
  refine keeps_mono (m := 67108862) ?_ hM
  exact keeps_trans (s' := s.fresh.2) (execUnlock_parts ..) (State.fresh_parts ..)

theorem State.opWrite_parts {M : Nat} (s : State) (base port i v : Nat) (hM : M &&& 134217727 = 134217727 := by decide) :
    Keeps M s (State.opWrite s base port i v) := by
  refine keeps_mono (m := 134217727) ?_ hM
  unfold State.opWrite; (repeat' split) <;> simp only [keeps_next, State.installWrite_parts, State.ownerWrite_parts, State.unlockWrite_parts, execAbandonFull_parts, execAbandon_parts, execClaimAll_parts, execClaim_parts, execClearReplan_parts, execClearTrip_parts, execDebugChallenge_parts, execForm_parts, execFull_parts, execHoldDown_parts, execHoldOut_parts, execHold_parts, execLeave_parts, execMarkDead_parts, execOdNext_parts, execOdRead_parts, execOdWrite_parts, execOffer_parts, execOpen_parts, execRelock_parts, execRemove_parts, execRenew_parts, execReset_parts, execRetest_parts, execRetrain_parts, execReturn_parts, execRstRelease_parts, execStartPass_parts, execStop_parts, execSwap_parts, execTelClear_parts, execTestStandby_parts, execTrain_parts, Nat.reducePow, Nat.reduceAnd]

theorem State.recordCmd_parts {M : Nat} (s : State) (r : RegDef) (i v : Nat) (hM : M &&& 8 = 8 := by decide) :
    (State.recordCmd s r i v).mask M = s.mask M := by
  refine mask_mono (m := 8) ?_ hM
  simp only [State.recordCmd, State.setReg_parts, mask_foldl, implies_true, Nat.reduceAnd]

theorem State.opTaken_parts {M : Nat} (s : State) (r : RegDef) (port i v : Nat) (hM : M &&& 134217727 = 134217727 := by decide) :
    (State.opTaken s r port i v).mask M = s.mask M := by
  refine mask_mono (m := 134217727) ?_ hM
  unfold State.opTaken; (repeat' split) <;> simp only [State.after_parts, State.cmd_parts, State.opWrite_parts, State.recordCmd_parts, Nat.reduceAnd]

theorem State.regWrite_parts {M : Nat} (s : State) (port : Nat) (r : RegDef) (i j v lo n : Nat) (hM : M &&& 134217727 = 134217727 := by decide) :
    (State.regWrite s port r i j v lo n).mask M = s.mask M := by
  refine mask_mono (m := 134217727) ?_ hM
  simp only [State.regWrite, State.after_parts, State.cmd_parts, State.opTaken_parts, State.setReg_parts, execHostreq_parts, execLoop_parts, execMrefSwitch_parts, execPortEnable_parts, execTelHistSel_parts, mask_upd, mask_ite, ite_self, and_self, true_or, or_true, Nat.reducePow, Nat.reduceDiv, Nat.reduceMod, Nat.reduceAnd]

theorem State.msixWrite_parts {M : Nat} (s : State) (port o : Nat) (b : List Nat) (hM : M &&& 20971520 = 20971520 := by decide) :
    (State.msixWrite s port o b).mask M = s.mask M := by
  refine mask_mono (m := 20971520) ?_ hM
  simp only [State.msixWrite, State.signal_parts, mask_upd, mask_ite, ite_self, and_self, true_or, or_true, Nat.reducePow, Nat.reduceDiv, Nat.reduceMod, Nat.reduceAnd]

theorem State.barWrite_parts {M : Nat} (s : State) (port o : Nat) (data : Nat) (wide : Bool) (hM : M &&& 134217727 = 134217727 := by decide) :
    (State.barWrite s port o data wide).mask M = s.mask M := by
  refine mask_mono (m := 134217727) ?_ hM
  unfold State.barWrite; (repeat' split) <;> simp only [State.msixWrite_parts, State.regWrite_parts, State.satReg_parts, State.surveyWrite_parts, mask_ite, ite_self, Nat.reducePow, Nat.reduceDiv, Nat.reduceAnd]

theorem execRegisterWrite_parts {M : Nat} (port : Fin 2) (off : BitVec 25) (data : BitVec 64) (wide ideBad : Bool) (s : State) (hM : M &&& 134217727 = 134217727 := by decide) :
    Keeps M s (execRegisterWrite port off data wide ideBad s) := by
  refine keeps_mono (m := 134217727) ?_ hM
  simp only [execRegisterWrite, keeps_next, keeps_ite, State.barWrite_parts, State.ideDrop_parts, implies_true, and_self, Nat.reduceAnd]

end Sys2Proof.Machine
end

