-- ==== Sys2Proof/Laws/Regs.lean ====
section
/-!
SUPPORT. Sys2Proof/Laws/Regs.lean: the key and the width of every register field, so that no proof unfolds a register table.
-/

set_option Elab.async false

namespace Sys2Proof.Machine

@[simp] theorem F.FLD_SEAM_E_SLIP_key (i j : Nat) : F.FLD_SEAM_E_SLIP.key i j = 67125296 + 1048576 * i := by simp only [Fld.key, F.FLD_SEAM_E_SLIP]; omega
@[simp] theorem F.FLD_SEAM_E_SLIP_w : F.FLD_SEAM_E_SLIP.w = 16 := rfl
@[simp] theorem F.FLD_SEAM_E_REPAIRED_key (i j : Nat) : F.FLD_SEAM_E_REPAIRED.key i j = 67125280 + 1048576 * i := by simp only [Fld.key, F.FLD_SEAM_E_REPAIRED]; omega
@[simp] theorem F.FLD_SEAM_E_REPAIRED_w : F.FLD_SEAM_E_REPAIRED.w = 16 := rfl
@[simp] theorem F.FLD_SEAM_E_DEFECT_key (i j : Nat) : F.FLD_SEAM_E_DEFECT.key i j = 67125264 + 1048576 * i := by simp only [Fld.key, F.FLD_SEAM_E_DEFECT]; omega
@[simp] theorem F.FLD_SEAM_E_DEFECT_w : F.FLD_SEAM_E_DEFECT.w = 16 := rfl
@[simp] theorem F.FLD_SEAM_E_ALIGNED_key (i j : Nat) : F.FLD_SEAM_E_ALIGNED.key i j = 67125248 + 1048576 * i := by simp only [Fld.key, F.FLD_SEAM_E_ALIGNED]; omega
@[simp] theorem F.FLD_SEAM_E_ALIGNED_w : F.FLD_SEAM_E_ALIGNED.w = 1 := rfl
@[simp] theorem F.FLD_SEAM_N_SLIP_key (i j : Nat) : F.FLD_SEAM_N_SLIP.key i j = 67125808 + 1048576 * i := by simp only [Fld.key, F.FLD_SEAM_N_SLIP]; omega
@[simp] theorem F.FLD_SEAM_N_SLIP_w : F.FLD_SEAM_N_SLIP.w = 16 := rfl
@[simp] theorem F.FLD_SEAM_N_REPAIRED_key (i j : Nat) : F.FLD_SEAM_N_REPAIRED.key i j = 67125792 + 1048576 * i := by simp only [Fld.key, F.FLD_SEAM_N_REPAIRED]; omega
@[simp] theorem F.FLD_SEAM_N_REPAIRED_w : F.FLD_SEAM_N_REPAIRED.w = 16 := rfl
@[simp] theorem F.FLD_SEAM_N_DEFECT_key (i j : Nat) : F.FLD_SEAM_N_DEFECT.key i j = 67125776 + 1048576 * i := by simp only [Fld.key, F.FLD_SEAM_N_DEFECT]; omega
@[simp] theorem F.FLD_SEAM_N_DEFECT_w : F.FLD_SEAM_N_DEFECT.w = 16 := rfl
@[simp] theorem F.FLD_SEAM_N_ALIGNED_key (i j : Nat) : F.FLD_SEAM_N_ALIGNED.key i j = 67125760 + 1048576 * i := by simp only [Fld.key, F.FLD_SEAM_N_ALIGNED]; omega
@[simp] theorem F.FLD_SEAM_N_ALIGNED_w : F.FLD_SEAM_N_ALIGNED.w = 1 := rfl
@[simp] theorem F.BC_IMG_STATUS_REASON_key (i j : Nat) : F.BC_IMG_STATUS_REASON.key i j = 32824 := by simp only [Fld.key, F.BC_IMG_STATUS_REASON]; omega
@[simp] theorem F.BC_IMG_STATUS_REASON_w : F.BC_IMG_STATUS_REASON.w = 8 := rfl
@[simp] theorem F.BC_IMG_STATUS_DFLOOR_key (i j : Nat) : F.BC_IMG_STATUS_DFLOOR.key i j = 32808 := by simp only [Fld.key, F.BC_IMG_STATUS_DFLOOR]; omega
@[simp] theorem F.BC_IMG_STATUS_DFLOOR_w : F.BC_IMG_STATUS_DFLOOR.w = 6 := rfl
@[simp] theorem F.BC_IMG_STATUS_STATE_key (i j : Nat) : F.BC_IMG_STATUS_STATE.key i j = 32804 := by simp only [Fld.key, F.BC_IMG_STATUS_STATE]; omega
@[simp] theorem F.BC_IMG_STATUS_STATE_w : F.BC_IMG_STATUS_STATE.w = 4 := rfl
@[simp] theorem F.BC_IMG_STATUS_BUILD_key (i j : Nat) : F.BC_IMG_STATUS_BUILD.key i j = 32768 := by simp only [Fld.key, F.BC_IMG_STATUS_BUILD]; omega
@[simp] theorem F.BC_IMG_STATUS_BUILD_w : F.BC_IMG_STATUS_BUILD.w = 32 := rfl
@[simp] theorem F.BC_IMG_ID_LO_ID_key (i j : Nat) : F.BC_IMG_ID_LO_ID.key i j = 33280 := by simp only [Fld.key, F.BC_IMG_ID_LO_ID]; omega
@[simp] theorem F.BC_IMG_ID_LO_ID_w : F.BC_IMG_ID_LO_ID.w = 64 := rfl
@[simp] theorem F.BC_IMG_ID_HI_ID_key (i j : Nat) : F.BC_IMG_ID_HI_ID.key i j = 33792 := by simp only [Fld.key, F.BC_IMG_ID_HI_ID]; omega
@[simp] theorem F.BC_IMG_ID_HI_ID_w : F.BC_IMG_ID_HI_ID.w = 64 := rfl
@[simp] theorem F.BC_IMG_CMD_STATUS_key (i j : Nat) : F.BC_IMG_CMD_STATUS.key i j = 34366 := by simp only [Fld.key, F.BC_IMG_CMD_STATUS]; omega
@[simp] theorem F.BC_IMG_CMD_STATUS_w : F.BC_IMG_CMD_STATUS.w = 2 := rfl
@[simp] theorem F.BC_IMG_CMD_LENGTH_key (i j : Nat) : F.BC_IMG_CMD_LENGTH.key i j = 34312 := by simp only [Fld.key, F.BC_IMG_CMD_LENGTH]; omega
@[simp] theorem F.BC_IMG_CMD_LENGTH_w : F.BC_IMG_CMD_LENGTH.w = 48 := rfl
@[simp] theorem F.BC_IMG_CMD_OP_key (i j : Nat) : F.BC_IMG_CMD_OP.key i j = 34304 := by simp only [Fld.key, F.BC_IMG_CMD_OP]; omega
@[simp] theorem F.BC_IMG_CMD_OP_w : F.BC_IMG_CMD_OP.w = 4 := rfl
@[simp] theorem F.FLD_SEC_SECTION_key (i j : Nat) : F.FLD_SEC_SECTION.key i j = 67108912 + 1048576 * i := by simp only [Fld.key, F.FLD_SEC_SECTION]; omega
@[simp] theorem F.FLD_SEC_SECTION_w : F.FLD_SEC_SECTION.w = 16 := rfl
@[simp] theorem F.FLD_SEC_COLOUR_key (i j : Nat) : F.FLD_SEC_COLOUR.key i j = 67108908 + 1048576 * i := by simp only [Fld.key, F.FLD_SEC_COLOUR]; omega
@[simp] theorem F.FLD_SEC_COLOUR_w : F.FLD_SEC_COLOUR.w = 4 := rfl
@[simp] theorem F.FLD_SEC_MODE_key (i j : Nat) : F.FLD_SEC_MODE.key i j = 67108906 + 1048576 * i := by simp only [Fld.key, F.FLD_SEC_MODE]; omega
@[simp] theorem F.FLD_SEC_MODE_w : F.FLD_SEC_MODE.w = 2 := rfl
@[simp] theorem F.FLD_SEC_ACYC_key (i j : Nat) : F.FLD_SEC_ACYC.key i j = 67108864 + 1048576 * i := by simp only [Fld.key, F.FLD_SEC_ACYC]; omega
@[simp] theorem F.FLD_SEC_ACYC_w : F.FLD_SEC_ACYC.w = 32 := rfl
@[simp] theorem F.FLD_INV_INVOCATION_key (i j : Nat) : F.FLD_INV_INVOCATION.key i j = 67109408 + 1048576 * i := by simp only [Fld.key, F.FLD_INV_INVOCATION]; omega
@[simp] theorem F.FLD_INV_INVOCATION_w : F.FLD_INV_INVOCATION.w = 32 := rfl
@[simp] theorem F.FLD_INV_LEN_key (i j : Nat) : F.FLD_INV_LEN.key i j = 67109376 + 1048576 * i := by simp only [Fld.key, F.FLD_INV_LEN]; omega
@[simp] theorem F.FLD_INV_LEN_w : F.FLD_INV_LEN.w = 32 := rfl
@[simp] theorem F.FLD_HOLD_STATUS_key (i j : Nat) : F.FLD_HOLD_STATUS.key i j = 67109950 + 1048576 * i := by simp only [Fld.key, F.FLD_HOLD_STATUS]; omega
@[simp] theorem F.FLD_HOLD_STATUS_w : F.FLD_HOLD_STATUS.w = 2 := rfl
@[simp] theorem F.FLD_HOLD_INTRUDE_key (i j : Nat) : F.FLD_HOLD_INTRUDE.key i j = 67109920 + 1048576 * i := by simp only [Fld.key, F.FLD_HOLD_INTRUDE]; omega
@[simp] theorem F.FLD_HOLD_INTRUDE_w : F.FLD_HOLD_INTRUDE.w = 16 := rfl
@[simp] theorem F.FLD_HOLD_STATE_key (i j : Nat) : F.FLD_HOLD_STATE.key i j = 67109892 + 1048576 * i := by simp only [Fld.key, F.FLD_HOLD_STATE]; omega
@[simp] theorem F.FLD_HOLD_STATE_w : F.FLD_HOLD_STATE.w = 2 := rfl
@[simp] theorem F.FLD_HOLD_OP_key (i j : Nat) : F.FLD_HOLD_OP.key i j = 67109888 + 1048576 * i := by simp only [Fld.key, F.FLD_HOLD_OP]; omega
@[simp] theorem F.FLD_HOLD_OP_w : F.FLD_HOLD_OP.w = 4 := rfl
@[simp] theorem F.FLD_STK_USE_OVER_key (i j : Nat) : F.FLD_STK_USE_OVER.key i j = 67141688 + 1048576 * i := by simp only [Fld.key, F.FLD_STK_USE_OVER]; omega
@[simp] theorem F.FLD_STK_USE_OVER_w : F.FLD_STK_USE_OVER.w = 8 := rfl
@[simp] theorem F.FLD_STK_USE_PEAK_key (i j : Nat) : F.FLD_STK_USE_PEAK.key i j = 67141657 + 1048576 * i := by simp only [Fld.key, F.FLD_STK_USE_PEAK]; omega
@[simp] theorem F.FLD_STK_USE_PEAK_w : F.FLD_STK_USE_PEAK.w = 25 := rfl
@[simp] theorem F.FLD_STK_USE_DECL_key (i j : Nat) : F.FLD_STK_USE_DECL.key i j = 67141632 + 1048576 * i := by simp only [Fld.key, F.FLD_STK_USE_DECL]; omega
@[simp] theorem F.FLD_STK_USE_DECL_w : F.FLD_STK_USE_DECL.w = 25 := rfl
@[simp] theorem F.FLD_STK_REF_FORCED_key (i j : Nat) : F.FLD_STK_REF_FORCED.key i j = 67142192 + 1048576 * i := by simp only [Fld.key, F.FLD_STK_REF_FORCED]; omega
@[simp] theorem F.FLD_STK_REF_FORCED_w : F.FLD_STK_REF_FORCED.w = 16 := rfl
@[simp] theorem F.FLD_STK_REF_MAXGAP_key (i j : Nat) : F.FLD_STK_REF_MAXGAP.key i j = 67142176 + 1048576 * i := by simp only [Fld.key, F.FLD_STK_REF_MAXGAP]; omega
@[simp] theorem F.FLD_STK_REF_MAXGAP_w : F.FLD_STK_REF_MAXGAP.w = 16 := rfl
@[simp] theorem F.FLD_STK_REF_CLASH_key (i j : Nat) : F.FLD_STK_REF_CLASH.key i j = 67142168 + 1048576 * i := by simp only [Fld.key, F.FLD_STK_REF_CLASH]; omega
@[simp] theorem F.FLD_STK_REF_CLASH_w : F.FLD_STK_REF_CLASH.w = 8 := rfl
@[simp] theorem F.FLD_STK_REF_ROW_key (i j : Nat) : F.FLD_STK_REF_ROW.key i j = 67142160 + 1048576 * i := by simp only [Fld.key, F.FLD_STK_REF_ROW]; omega
@[simp] theorem F.FLD_STK_REF_ROW_w : F.FLD_STK_REF_ROW.w = 8 := rfl
@[simp] theorem F.FLD_STK_REF_MODE_key (i j : Nat) : F.FLD_STK_REF_MODE.key i j = 67142144 + 1048576 * i := by simp only [Fld.key, F.FLD_STK_REF_MODE]; omega
@[simp] theorem F.FLD_STK_REF_MODE_w : F.FLD_STK_REF_MODE.w = 2 := rfl
@[simp] theorem F.FLD_STK_ECC_UE_PX_key (i j : Nat) : F.FLD_STK_ECC_UE_PX.key i j = 67142709 + 1048576 * i := by simp only [Fld.key, F.FLD_STK_ECC_UE_PX]; omega
@[simp] theorem F.FLD_STK_ECC_UE_PX_w : F.FLD_STK_ECC_UE_PX.w = 11 := rfl
@[simp] theorem F.FLD_STK_ECC_UE_PY_key (i j : Nat) : F.FLD_STK_ECC_UE_PY.key i j = 67142698 + 1048576 * i := by simp only [Fld.key, F.FLD_STK_ECC_UE_PY]; omega
@[simp] theorem F.FLD_STK_ECC_UE_PY_w : F.FLD_STK_ECC_UE_PY.w = 11 := rfl
@[simp] theorem F.FLD_STK_ECC_UE_key (i j : Nat) : F.FLD_STK_ECC_UE.key i j = 67142697 + 1048576 * i := by simp only [Fld.key, F.FLD_STK_ECC_UE]; omega
@[simp] theorem F.FLD_STK_ECC_UE_w : F.FLD_STK_ECC_UE.w = 1 := rfl
@[simp] theorem F.FLD_STK_ECC_UE_COUNT_key (i j : Nat) : F.FLD_STK_ECC_UE_COUNT.key i j = 67142688 + 1048576 * i := by simp only [Fld.key, F.FLD_STK_ECC_UE_COUNT]; omega
@[simp] theorem F.FLD_STK_ECC_UE_COUNT_w : F.FLD_STK_ECC_UE_COUNT.w = 9 := rfl
@[simp] theorem F.FLD_STK_ECC_CE_COUNT_key (i j : Nat) : F.FLD_STK_ECC_CE_COUNT.key i j = 67142656 + 1048576 * i := by simp only [Fld.key, F.FLD_STK_ECC_CE_COUNT]; omega
@[simp] theorem F.FLD_STK_ECC_CE_COUNT_w : F.FLD_STK_ECC_CE_COUNT.w = 32 := rfl
@[simp] theorem F.FLD_STK_SCRUB_PASSES_key (i j : Nat) : F.FLD_STK_SCRUB_PASSES.key i j = 67143200 + 1048576 * i := by simp only [Fld.key, F.FLD_STK_SCRUB_PASSES]; omega
@[simp] theorem F.FLD_STK_SCRUB_PASSES_w : F.FLD_STK_SCRUB_PASSES.w = 32 := rfl
@[simp] theorem F.FLD_STK_SCRUB_NEXT_key (i j : Nat) : F.FLD_STK_SCRUB_NEXT.key i j = 67143168 + 1048576 * i := by simp only [Fld.key, F.FLD_STK_SCRUB_NEXT]; omega
@[simp] theorem F.FLD_STK_SCRUB_NEXT_w : F.FLD_STK_SCRUB_NEXT.w = 17 := rfl
@[simp] theorem F.HP_APW_EN_key (i j : Nat) : F.HP_APW_EN.key i j = 33685567 + 17179869184 * i + 512 * j := by simp only [Fld.key, F.HP_APW_EN]; omega
@[simp] theorem F.HP_APW_EN_w : F.HP_APW_EN.w = 1 := rfl
@[simp] theorem F.HP_APW_WP_key (i j : Nat) : F.HP_APW_WP.key i j = 33685566 + 17179869184 * i + 512 * j := by simp only [Fld.key, F.HP_APW_WP]; omega
@[simp] theorem F.HP_APW_WP_w : F.HP_APW_WP.w = 1 := rfl
@[simp] theorem F.HP_APW_TYPE_key (i j : Nat) : F.HP_APW_TYPE.key i j = 33685564 + 17179869184 * i + 512 * j := by simp only [Fld.key, F.HP_APW_TYPE]; omega
@[simp] theorem F.HP_APW_TYPE_w : F.HP_APW_TYPE.w = 2 := rfl
@[simp] theorem F.HP_APW_SEL_key (i j : Nat) : F.HP_APW_SEL.key i j = 33685504 + 17179869184 * i + 512 * j := by simp only [Fld.key, F.HP_APW_SEL]; omega
@[simp] theorem F.HP_APW_SEL_w : F.HP_APW_SEL.w = 10 := rfl
@[simp] theorem F.HP_APW_STAT_TIMEOUT_key (i j : Nat) : F.HP_APW_STAT_TIMEOUT.key i j = 33689632 + 17179869184 * i := by simp only [Fld.key, F.HP_APW_STAT_TIMEOUT]; omega
@[simp] theorem F.HP_APW_STAT_TIMEOUT_w : F.HP_APW_STAT_TIMEOUT.w = 16 := rfl
@[simp] theorem F.HP_APW_STAT_DENIED_key (i j : Nat) : F.HP_APW_STAT_DENIED.key i j = 33689600 + 17179869184 * i := by simp only [Fld.key, F.HP_APW_STAT_DENIED]; omega
@[simp] theorem F.HP_APW_STAT_DENIED_w : F.HP_APW_STAT_DENIED.w = 32 := rfl
@[simp] theorem F.HX_CTRL_EN_key (i j : Nat) : F.HX_CTRL_EN.key i j = 50331711 + 1048576 * i := by simp only [Fld.key, F.HX_CTRL_EN]; omega
@[simp] theorem F.HX_CTRL_EN_w : F.HX_CTRL_EN.w = 1 := rfl
@[simp] theorem F.HX_CTRL_LOOP_key (i j : Nat) : F.HX_CTRL_LOOP.key i j = 50331710 + 1048576 * i := by simp only [Fld.key, F.HX_CTRL_LOOP]; omega
@[simp] theorem F.HX_CTRL_LOOP_w : F.HX_CTRL_LOOP.w = 1 := rfl
@[simp] theorem F.HX_CMD_STATUS_key (i j : Nat) : F.HX_CMD_STATUS.key i j = 50332222 + 1048576 * i := by simp only [Fld.key, F.HX_CMD_STATUS]; omega
@[simp] theorem F.HX_CMD_STATUS_w : F.HX_CMD_STATUS.w = 2 := rfl
@[simp] theorem F.HX_CMD_OP_key (i j : Nat) : F.HX_CMD_OP.key i j = 50332160 + 1048576 * i := by simp only [Fld.key, F.HX_CMD_OP]; omega
@[simp] theorem F.HX_CMD_OP_w : F.HX_CMD_OP.w = 4 := rfl
@[simp] theorem F.HX_STATUS_STATE_key (i j : Nat) : F.HX_STATUS_STATE.key i j = 50332732 + 1048576 * i := by simp only [Fld.key, F.HX_STATUS_STATE]; omega
@[simp] theorem F.HX_STATUS_STATE_w : F.HX_STATUS_STATE.w = 4 := rfl
@[simp] theorem F.HX_STATUS_WIDTH_key (i j : Nat) : F.HX_STATUS_WIDTH.key i j = 50332727 + 1048576 * i := by simp only [Fld.key, F.HX_STATUS_WIDTH]; omega
@[simp] theorem F.HX_STATUS_WIDTH_w : F.HX_STATUS_WIDTH.w = 5 := rfl
@[simp] theorem F.HX_STATUS_SPARES_key (i j : Nat) : F.HX_STATUS_SPARES.key i j = 50332725 + 1048576 * i := by simp only [Fld.key, F.HX_STATUS_SPARES]; omega
@[simp] theorem F.HX_STATUS_SPARES_w : F.HX_STATUS_SPARES.w = 2 := rfl
@[simp] theorem F.HX_STATUS_CONTRACT_key (i j : Nat) : F.HX_STATUS_CONTRACT.key i j = 50332720 + 1048576 * i := by simp only [Fld.key, F.HX_STATUS_CONTRACT]; omega
@[simp] theorem F.HX_STATUS_CONTRACT_w : F.HX_STATUS_CONTRACT.w = 5 := rfl
@[simp] theorem F.HX_STATUS_SHORT_key (i j : Nat) : F.HX_STATUS_SHORT.key i j = 50332719 + 1048576 * i := by simp only [Fld.key, F.HX_STATUS_SHORT]; omega
@[simp] theorem F.HX_STATUS_SHORT_w : F.HX_STATUS_SHORT.w = 1 := rfl
@[simp] theorem F.HX_STATUS_KEYED_key (i j : Nat) : F.HX_STATUS_KEYED.key i j = 50332718 + 1048576 * i := by simp only [Fld.key, F.HX_STATUS_KEYED]; omega
@[simp] theorem F.HX_STATUS_KEYED_w : F.HX_STATUS_KEYED.w = 1 := rfl
@[simp] theorem F.HX_STATUS_KPH_key (i j : Nat) : F.HX_STATUS_KPH.key i j = 50332716 + 1048576 * i := by simp only [Fld.key, F.HX_STATUS_KPH]; omega
@[simp] theorem F.HX_STATUS_KPH_w : F.HX_STATUS_KPH.w = 2 := rfl
@[simp] theorem F.HX_STATUS_NPORT_key (i j : Nat) : F.HX_STATUS_NPORT.key i j = 50332713 + 1048576 * i := by simp only [Fld.key, F.HX_STATUS_NPORT]; omega
@[simp] theorem F.HX_STATUS_NPORT_w : F.HX_STATUS_NPORT.w = 3 := rfl
@[simp] theorem F.HX_STATUS_NCOORD_key (i j : Nat) : F.HX_STATUS_NCOORD.key i j = 50332698 + 1048576 * i := by simp only [Fld.key, F.HX_STATUS_NCOORD]; omega
@[simp] theorem F.HX_STATUS_NCOORD_w : F.HX_STATUS_NCOORD.w = 15 := rfl
@[simp] theorem F.HX_STATUS_NVALID_key (i j : Nat) : F.HX_STATUS_NVALID.key i j = 50332697 + 1048576 * i := by simp only [Fld.key, F.HX_STATUS_NVALID]; omega
@[simp] theorem F.HX_STATUS_NVALID_w : F.HX_STATUS_NVALID.w = 1 := rfl
@[simp] theorem F.HX_LANES_GOOD_key (i j : Nat) : F.HX_LANES_GOOD.key i j = 50333216 + 1048576 * i := by simp only [Fld.key, F.HX_LANES_GOOD]; omega
@[simp] theorem F.HX_LANES_GOOD_w : F.HX_LANES_GOOD.w = 26 := rfl
@[simp] theorem F.HX_LANES_ACTIVE_key (i j : Nat) : F.HX_LANES_ACTIVE.key i j = 50333184 + 1048576 * i := by simp only [Fld.key, F.HX_LANES_ACTIVE]; omega
@[simp] theorem F.HX_LANES_ACTIVE_w : F.HX_LANES_ACTIVE.w = 26 := rfl
@[simp] theorem F.HX_LAT_RTT_key (i j : Nat) : F.HX_LAT_RTT.key i j = 50333728 + 1048576 * i := by simp only [Fld.key, F.HX_LAT_RTT]; omega
@[simp] theorem F.HX_LAT_RTT_w : F.HX_LAT_RTT.w = 16 := rfl
@[simp] theorem F.HX_LAT_BASE_key (i j : Nat) : F.HX_LAT_BASE.key i j = 50333712 + 1048576 * i := by simp only [Fld.key, F.HX_LAT_BASE]; omega
@[simp] theorem F.HX_LAT_BASE_w : F.HX_LAT_BASE.w = 16 := rfl
@[simp] theorem F.HX_LAT_FIBRE_key (i j : Nat) : F.HX_LAT_FIBRE.key i j = 50333696 + 1048576 * i := by simp only [Fld.key, F.HX_LAT_FIBRE]; omega
@[simp] theorem F.HX_LAT_FIBRE_w : F.HX_LAT_FIBRE.w = 16 := rfl
@[simp] theorem F.HX_FEC_CORR_key (i j : Nat) : F.HX_FEC_CORR.key i j = 50334240 + 1048576 * i := by simp only [Fld.key, F.HX_FEC_CORR]; omega
@[simp] theorem F.HX_FEC_CORR_w : F.HX_FEC_CORR.w = 32 := rfl
@[simp] theorem F.HX_FEC_UNCORR_key (i j : Nat) : F.HX_FEC_UNCORR.key i j = 50334208 + 1048576 * i := by simp only [Fld.key, F.HX_FEC_UNCORR]; omega
@[simp] theorem F.HX_FEC_UNCORR_w : F.HX_FEC_UNCORR.w = 32 := rfl
@[simp] theorem F.HX_ERR_RETRY_key (i j : Nat) : F.HX_ERR_RETRY.key i j = 50334772 + 1048576 * i := by simp only [Fld.key, F.HX_ERR_RETRY]; omega
@[simp] theorem F.HX_ERR_RETRY_w : F.HX_ERR_RETRY.w = 12 := rfl
@[simp] theorem F.HX_ERR_AUTH_key (i j : Nat) : F.HX_ERR_AUTH.key i j = 50334760 + 1048576 * i := by simp only [Fld.key, F.HX_ERR_AUTH]; omega
@[simp] theorem F.HX_ERR_AUTH_w : F.HX_ERR_AUTH.w = 12 := rfl
@[simp] theorem F.HX_ERR_CRC_key (i j : Nat) : F.HX_ERR_CRC.key i j = 50334748 + 1048576 * i := by simp only [Fld.key, F.HX_ERR_CRC]; omega
@[simp] theorem F.HX_ERR_CRC_w : F.HX_ERR_CRC.w = 12 := rfl
@[simp] theorem F.HX_ERR_ROUTE_key (i j : Nat) : F.HX_ERR_ROUTE.key i j = 50334736 + 1048576 * i := by simp only [Fld.key, F.HX_ERR_ROUTE]; omega
@[simp] theorem F.HX_ERR_ROUTE_w : F.HX_ERR_ROUTE.w = 12 := rfl
@[simp] theorem F.HX_ERR_MAP_key (i j : Nat) : F.HX_ERR_MAP.key i j = 50334720 + 1048576 * i := by simp only [Fld.key, F.HX_ERR_MAP]; omega
@[simp] theorem F.HX_ERR_MAP_w : F.HX_ERR_MAP.w = 16 := rfl
@[simp] theorem F.HX_SCHED_LATE_key (i j : Nat) : F.HX_SCHED_LATE.key i j = 50335284 + 1048576 * i := by simp only [Fld.key, F.HX_SCHED_LATE]; omega
@[simp] theorem F.HX_SCHED_LATE_w : F.HX_SCHED_LATE.w = 12 := rfl
@[simp] theorem F.HX_SCHED_DROP_key (i j : Nat) : F.HX_SCHED_DROP.key i j = 50335272 + 1048576 * i := by simp only [Fld.key, F.HX_SCHED_DROP]; omega
@[simp] theorem F.HX_SCHED_DROP_w : F.HX_SCHED_DROP.w = 12 := rfl
@[simp] theorem F.HX_SCHED_OVERRATE_key (i j : Nat) : F.HX_SCHED_OVERRATE.key i j = 50335260 + 1048576 * i := by simp only [Fld.key, F.HX_SCHED_OVERRATE]; omega
@[simp] theorem F.HX_SCHED_OVERRATE_w : F.HX_SCHED_OVERRATE.w = 12 := rfl
@[simp] theorem F.HX_SCHED_PEAK_key (i j : Nat) : F.HX_SCHED_PEAK.key i j = 50335232 + 1048576 * i := by simp only [Fld.key, F.HX_SCHED_PEAK]; omega
@[simp] theorem F.HX_SCHED_PEAK_w : F.HX_SCHED_PEAK.w = 17 := rfl
@[simp] theorem F.HX_FC_OFF_SENT_key (i j : Nat) : F.HX_FC_OFF_SENT.key i j = 50335804 + 1048576 * i := by simp only [Fld.key, F.HX_FC_OFF_SENT]; omega
@[simp] theorem F.HX_FC_OFF_SENT_w : F.HX_FC_OFF_SENT.w = 4 := rfl
@[simp] theorem F.HX_FC_OFF_SEEN_key (i j : Nat) : F.HX_FC_OFF_SEEN.key i j = 50335800 + 1048576 * i := by simp only [Fld.key, F.HX_FC_OFF_SEEN]; omega
@[simp] theorem F.HX_FC_OFF_SEEN_w : F.HX_FC_OFF_SEEN.w = 4 := rfl
@[simp] theorem F.HX_FC_OCC_VN1_key (i j : Nat) : F.HX_FC_OCC_VN1.key i j = 50335754 + 1048576 * i := by simp only [Fld.key, F.HX_FC_OCC_VN1]; omega
@[simp] theorem F.HX_FC_OCC_VN1_w : F.HX_FC_OCC_VN1.w = 10 := rfl
@[simp] theorem F.HX_FC_OCC_VN0_key (i j : Nat) : F.HX_FC_OCC_VN0.key i j = 50335744 + 1048576 * i := by simp only [Fld.key, F.HX_FC_OCC_VN0]; omega
@[simp] theorem F.HX_FC_OCC_VN0_w : F.HX_FC_OCC_VN0.w = 10 := rfl
@[simp] theorem F.HX_TOPO_VALID_key (i j : Nat) : F.HX_TOPO_VALID.key i j = 56623167 := by simp only [Fld.key, F.HX_TOPO_VALID]; omega
@[simp] theorem F.HX_TOPO_VALID_w : F.HX_TOPO_VALID.w = 1 := rfl
@[simp] theorem F.HX_TOPO_NZM1_key (i j : Nat) : F.HX_TOPO_NZM1.key i j = 56623129 := by simp only [Fld.key, F.HX_TOPO_NZM1]; omega
@[simp] theorem F.HX_TOPO_NZM1_w : F.HX_TOPO_NZM1.w = 5 := rfl
@[simp] theorem F.HX_TOPO_NYM1_key (i j : Nat) : F.HX_TOPO_NYM1.key i j = 56623124 := by simp only [Fld.key, F.HX_TOPO_NYM1]; omega
@[simp] theorem F.HX_TOPO_NYM1_w : F.HX_TOPO_NYM1.w = 5 := rfl
@[simp] theorem F.HX_TOPO_NXM1_key (i j : Nat) : F.HX_TOPO_NXM1.key i j = 56623119 := by simp only [Fld.key, F.HX_TOPO_NXM1]; omega
@[simp] theorem F.HX_TOPO_NXM1_w : F.HX_TOPO_NXM1.w = 5 := rfl
@[simp] theorem F.HX_TOPO_COORD_key (i j : Nat) : F.HX_TOPO_COORD.key i j = 56623104 := by simp only [Fld.key, F.HX_TOPO_COORD]; omega
@[simp] theorem F.HX_TOPO_COORD_w : F.HX_TOPO_COORD.w = 15 := rfl
@[simp] theorem F.HX_RING_FWD_key (i j : Nat) : F.HX_RING_FWD.key i j = 56623648 := by simp only [Fld.key, F.HX_RING_FWD]; omega
@[simp] theorem F.HX_RING_FWD_w : F.HX_RING_FWD.w = 32 := rfl
@[simp] theorem F.HX_RING_DROP_key (i j : Nat) : F.HX_RING_DROP.key i j = 56623632 := by simp only [Fld.key, F.HX_RING_DROP]; omega
@[simp] theorem F.HX_RING_DROP_w : F.HX_RING_DROP.w = 16 := rfl
@[simp] theorem F.BC_ROPE_CMD_STATUS_key (i j : Nat) : F.BC_ROPE_CMD_STATUS.key i j = 49214 := by simp only [Fld.key, F.BC_ROPE_CMD_STATUS]; omega
@[simp] theorem F.BC_ROPE_CMD_STATUS_w : F.BC_ROPE_CMD_STATUS.w = 2 := rfl
@[simp] theorem F.BC_ROPE_CMD_AOVR_key (i j : Nat) : F.BC_ROPE_CMD_AOVR.key i j = 49183 := by simp only [Fld.key, F.BC_ROPE_CMD_AOVR]; omega
@[simp] theorem F.BC_ROPE_CMD_AOVR_w : F.BC_ROPE_CMD_AOVR.w = 1 := rfl
@[simp] theorem F.BC_ROPE_CMD_ANCHOR_key (i j : Nat) : F.BC_ROPE_CMD_ANCHOR.key i j = 49168 := by simp only [Fld.key, F.BC_ROPE_CMD_ANCHOR]; omega
@[simp] theorem F.BC_ROPE_CMD_ANCHOR_w : F.BC_ROPE_CMD_ANCHOR.w = 15 := rfl
@[simp] theorem F.BC_ROPE_CMD_OP_key (i j : Nat) : F.BC_ROPE_CMD_OP.key i j = 49152 := by simp only [Fld.key, F.BC_ROPE_CMD_OP]; omega
@[simp] theorem F.BC_ROPE_CMD_OP_w : F.BC_ROPE_CMD_OP.w = 4 := rfl
@[simp] theorem F.BC_ROPE_STATUS_REASON_key (i j : Nat) : F.BC_ROPE_STATUS_REASON.key i j = 49720 := by simp only [Fld.key, F.BC_ROPE_STATUS_REASON]; omega
@[simp] theorem F.BC_ROPE_STATUS_REASON_w : F.BC_ROPE_STATUS_REASON.w = 8 := rfl
@[simp] theorem F.BC_ROPE_STATUS_STATE_key (i j : Nat) : F.BC_ROPE_STATUS_STATE.key i j = 49716 := by simp only [Fld.key, F.BC_ROPE_STATUS_STATE]; omega
@[simp] theorem F.BC_ROPE_STATUS_STATE_w : F.BC_ROPE_STATUS_STATE.w = 4 := rfl
@[simp] theorem F.BC_ROPE_STATUS_ANCHOR_key (i j : Nat) : F.BC_ROPE_STATUS_ANCHOR.key i j = 49715 := by simp only [Fld.key, F.BC_ROPE_STATUS_ANCHOR]; omega
@[simp] theorem F.BC_ROPE_STATUS_ANCHOR_w : F.BC_ROPE_STATUS_ANCHOR.w = 1 := rfl
@[simp] theorem F.BC_ROPE_STATUS_TPORT_key (i j : Nat) : F.BC_ROPE_STATUS_TPORT.key i j = 49712 := by simp only [Fld.key, F.BC_ROPE_STATUS_TPORT]; omega
@[simp] theorem F.BC_ROPE_STATUS_TPORT_w : F.BC_ROPE_STATUS_TPORT.w = 3 := rfl
@[simp] theorem F.BC_ROPE_STATUS_REPLAYS_key (i j : Nat) : F.BC_ROPE_STATUS_REPLAYS.key i j = 49704 := by simp only [Fld.key, F.BC_ROPE_STATUS_REPLAYS]; omega
@[simp] theorem F.BC_ROPE_STATUS_REPLAYS_w : F.BC_ROPE_STATUS_REPLAYS.w = 8 := rfl
@[simp] theorem F.BC_ROPE_STATUS_SOLO_key (i j : Nat) : F.BC_ROPE_STATUS_SOLO.key i j = 49703 := by simp only [Fld.key, F.BC_ROPE_STATUS_SOLO]; omega
@[simp] theorem F.BC_ROPE_STATUS_SOLO_w : F.BC_ROPE_STATUS_SOLO.w = 1 := rfl
@[simp] theorem F.BC_ROPE_STATUS_LSTATE_key (i j : Nat) : F.BC_ROPE_STATUS_LSTATE.key i j = 49699 := by simp only [Fld.key, F.BC_ROPE_STATUS_LSTATE]; omega
@[simp] theorem F.BC_ROPE_STATUS_LSTATE_w : F.BC_ROPE_STATUS_LSTATE.w = 4 := rfl
@[simp] theorem F.BC_ROPE_STATUS_ACOORD_key (i j : Nat) : F.BC_ROPE_STATUS_ACOORD.key i j = 49684 := by simp only [Fld.key, F.BC_ROPE_STATUS_ACOORD]; omega
@[simp] theorem F.BC_ROPE_STATUS_ACOORD_w : F.BC_ROPE_STATUS_ACOORD.w = 15 := rfl
@[simp] theorem F.BC_ROPE_STATUS_MEMBERS_key (i j : Nat) : F.BC_ROPE_STATUS_MEMBERS.key i j = 49664 := by simp only [Fld.key, F.BC_ROPE_STATUS_MEMBERS]; omega
@[simp] theorem F.BC_ROPE_STATUS_MEMBERS_w : F.BC_ROPE_STATUS_MEMBERS.w = 16 := rfl
@[simp] theorem F.BC_ROPE_ACYC_ACYC_key (i j : Nat) : F.BC_ROPE_ACYC_ACYC.key i j = 50176 := by simp only [Fld.key, F.BC_ROPE_ACYC_ACYC]; omega
@[simp] theorem F.BC_ROPE_ACYC_ACYC_w : F.BC_ROPE_ACYC_ACYC.w = 64 := rfl
@[simp] theorem F.BC_ROPE_CKP_COMMITTED_key (i j : Nat) : F.BC_ROPE_CKP_COMMITTED.key i j = 50720 := by simp only [Fld.key, F.BC_ROPE_CKP_COMMITTED]; omega
@[simp] theorem F.BC_ROPE_CKP_COMMITTED_w : F.BC_ROPE_CKP_COMMITTED.w = 32 := rfl
@[simp] theorem F.BC_ROPE_CKP_CVALID_key (i j : Nat) : F.BC_ROPE_CKP_CVALID.key i j = 50695 := by simp only [Fld.key, F.BC_ROPE_CKP_CVALID]; omega
@[simp] theorem F.BC_ROPE_CKP_CVALID_w : F.BC_ROPE_CKP_CVALID.w = 1 := rfl
@[simp] theorem F.BC_ROPE_CKP_CSLOT_key (i j : Nat) : F.BC_ROPE_CKP_CSLOT.key i j = 50694 := by simp only [Fld.key, F.BC_ROPE_CKP_CSLOT]; omega
@[simp] theorem F.BC_ROPE_CKP_CSLOT_w : F.BC_ROPE_CKP_CSLOT.w = 1 := rfl
@[simp] theorem F.BC_ROPE_CKP_CAPTURING_key (i j : Nat) : F.BC_ROPE_CKP_CAPTURING.key i j = 50688 := by simp only [Fld.key, F.BC_ROPE_CKP_CAPTURING]; omega
@[simp] theorem F.BC_ROPE_CKP_CAPTURING_w : F.BC_ROPE_CKP_CAPTURING.w = 1 := rfl
@[simp] theorem F.BC_ROPE_CLEAR_CLEAR_key (i j : Nat) : F.BC_ROPE_CLEAR_CLEAR.key i j = 51200 := by simp only [Fld.key, F.BC_ROPE_CLEAR_CLEAR]; omega
@[simp] theorem F.BC_ROPE_CLEAR_CLEAR_w : F.BC_ROPE_CLEAR_CLEAR.w = 64 := rfl
@[simp] theorem F.BC_ROPE_RATIO_REQ_key (i j : Nat) : F.BC_ROPE_RATIO_REQ.key i j = 51760 := by simp only [Fld.key, F.BC_ROPE_RATIO_REQ]; omega
@[simp] theorem F.BC_ROPE_RATIO_REQ_w : F.BC_ROPE_RATIO_REQ.w = 8 := rfl
@[simp] theorem F.BC_ROPE_RATIO_FLOOR_key (i j : Nat) : F.BC_ROPE_RATIO_FLOOR.key i j = 51752 := by simp only [Fld.key, F.BC_ROPE_RATIO_FLOOR]; omega
@[simp] theorem F.BC_ROPE_RATIO_FLOOR_w : F.BC_ROPE_RATIO_FLOOR.w = 8 := rfl
@[simp] theorem F.BC_ROPE_RATIO_TARGET_key (i j : Nat) : F.BC_ROPE_RATIO_TARGET.key i j = 51744 := by simp only [Fld.key, F.BC_ROPE_RATIO_TARGET]; omega
@[simp] theorem F.BC_ROPE_RATIO_TARGET_w : F.BC_ROPE_RATIO_TARGET.w = 8 := rfl
@[simp] theorem F.BC_ROPE_RATIO_CURRENT_key (i j : Nat) : F.BC_ROPE_RATIO_CURRENT.key i j = 51736 := by simp only [Fld.key, F.BC_ROPE_RATIO_CURRENT]; omega
@[simp] theorem F.BC_ROPE_RATIO_CURRENT_w : F.BC_ROPE_RATIO_CURRENT.w = 8 := rfl
@[simp] theorem F.BC_ROPE_CFG_SHORT_WAIT_key (i j : Nat) : F.BC_ROPE_CFG_SHORT_WAIT.key i j = 52256 := by simp only [Fld.key, F.BC_ROPE_CFG_SHORT_WAIT]; omega
@[simp] theorem F.BC_ROPE_CFG_SHORT_WAIT_w : F.BC_ROPE_CFG_SHORT_WAIT.w = 16 := rfl
@[simp] theorem F.BC_ROPE_CFG_FORM_TIMEOUT_key (i j : Nat) : F.BC_ROPE_CFG_FORM_TIMEOUT.key i j = 52240 := by simp only [Fld.key, F.BC_ROPE_CFG_FORM_TIMEOUT]; omega
@[simp] theorem F.BC_ROPE_CFG_FORM_TIMEOUT_w : F.BC_ROPE_CFG_FORM_TIMEOUT.w = 16 := rfl
@[simp] theorem F.BC_ROPE_CFG_REPLAY_LIMIT_key (i j : Nat) : F.BC_ROPE_CFG_REPLAY_LIMIT.key i j = 52224 := by simp only [Fld.key, F.BC_ROPE_CFG_REPLAY_LIMIT]; omega
@[simp] theorem F.BC_ROPE_CFG_REPLAY_LIMIT_w : F.BC_ROPE_CFG_REPLAY_LIMIT.w = 3 := rfl
@[simp] theorem F.BC_ROPE_CRN_MM_key (i j : Nat) : F.BC_ROPE_CRN_MM.key i j = 52799 := by simp only [Fld.key, F.BC_ROPE_CRN_MM]; omega
@[simp] theorem F.BC_ROPE_CRN_MM_w : F.BC_ROPE_CRN_MM.w = 1 := rfl
@[simp] theorem F.BC_ROPE_CRN_DELTA_key (i j : Nat) : F.BC_ROPE_CRN_DELTA.key i j = 52736 := by simp only [Fld.key, F.BC_ROPE_CRN_DELTA]; omega
@[simp] theorem F.BC_ROPE_CRN_DELTA_w : F.BC_ROPE_CRN_DELTA.w = 61 := rfl
@[simp] theorem F.CRN_STAT_MISMATCH_key (i j : Nat) : F.CRN_STAT_MISMATCH.key i j = 50348080 + 1048576 * i := by simp only [Fld.key, F.CRN_STAT_MISMATCH]; omega
@[simp] theorem F.CRN_STAT_MISMATCH_w : F.CRN_STAT_MISMATCH.w = 16 := rfl
@[simp] theorem F.CRN_STAT_MISSING_key (i j : Nat) : F.CRN_STAT_MISSING.key i j = 50348064 + 1048576 * i := by simp only [Fld.key, F.CRN_STAT_MISSING]; omega
@[simp] theorem F.CRN_STAT_MISSING_w : F.CRN_STAT_MISSING.w = 16 := rfl
@[simp] theorem F.CRN_STAT_CHECKED_key (i j : Nat) : F.CRN_STAT_CHECKED.key i j = 50348032 + 1048576 * i := by simp only [Fld.key, F.CRN_STAT_CHECKED]; omega
@[simp] theorem F.CRN_STAT_CHECKED_w : F.CRN_STAT_CHECKED.w = 32 := rfl
@[simp] theorem F.CRN_LAST_LO_CAIRN_key (i j : Nat) : F.CRN_LAST_LO_CAIRN.key i j = 50348544 + 1048576 * i := by simp only [Fld.key, F.CRN_LAST_LO_CAIRN]; omega
@[simp] theorem F.CRN_LAST_LO_CAIRN_w : F.CRN_LAST_LO_CAIRN.w = 64 := rfl
@[simp] theorem F.CRN_LAST_HI_CAIRN_key (i j : Nat) : F.CRN_LAST_HI_CAIRN.key i j = 50349056 + 1048576 * i := by simp only [Fld.key, F.CRN_LAST_HI_CAIRN]; omega
@[simp] theorem F.CRN_LAST_HI_CAIRN_w : F.CRN_LAST_HI_CAIRN.w = 64 := rfl
@[simp] theorem F.HP_LINK_IDE_key (i j : Nat) : F.HP_LINK_IDE.key i j = 33554447 + 17179869184 * i := by simp only [Fld.key, F.HP_LINK_IDE]; omega
@[simp] theorem F.HP_LINK_IDE_w : F.HP_LINK_IDE.w = 1 := rfl
@[simp] theorem F.HP_LINK_FLIT_key (i j : Nat) : F.HP_LINK_FLIT.key i j = 33554446 + 17179869184 * i := by simp only [Fld.key, F.HP_LINK_FLIT]; omega
@[simp] theorem F.HP_LINK_FLIT_w : F.HP_LINK_FLIT.w = 1 := rfl
@[simp] theorem F.HP_LINK_WIDTH_key (i j : Nat) : F.HP_LINK_WIDTH.key i j = 33554440 + 17179869184 * i := by simp only [Fld.key, F.HP_LINK_WIDTH]; omega
@[simp] theorem F.HP_LINK_WIDTH_w : F.HP_LINK_WIDTH.w = 4 := rfl
@[simp] theorem F.HP_LINK_RATE_key (i j : Nat) : F.HP_LINK_RATE.key i j = 33554436 + 17179869184 * i := by simp only [Fld.key, F.HP_LINK_RATE]; omega
@[simp] theorem F.HP_LINK_RATE_w : F.HP_LINK_RATE.w = 4 := rfl
@[simp] theorem F.HP_LINK_UP_key (i j : Nat) : F.HP_LINK_UP.key i j = 33554432 + 17179869184 * i := by simp only [Fld.key, F.HP_LINK_UP]; omega
@[simp] theorem F.HP_LINK_UP_w : F.HP_LINK_UP.w = 1 := rfl
@[simp] theorem F.HP_LEASE_REMAIN_key (i j : Nat) : F.HP_LEASE_REMAIN.key i j = 33554976 + 17179869184 * i := by simp only [Fld.key, F.HP_LEASE_REMAIN]; omega
@[simp] theorem F.HP_LEASE_REMAIN_w : F.HP_LEASE_REMAIN.w = 30 := rfl
@[simp] theorem F.HP_LEASE_SESSION_key (i j : Nat) : F.HP_LEASE_SESSION.key i j = 33554952 + 17179869184 * i := by simp only [Fld.key, F.HP_LEASE_SESSION]; omega
@[simp] theorem F.HP_LEASE_SESSION_w : F.HP_LEASE_SESSION.w = 12 := rfl
@[simp] theorem F.HP_LEASE_RINGIX_key (i j : Nat) : F.HP_LEASE_RINGIX.key i j = 33554944 + 17179869184 * i := by simp only [Fld.key, F.HP_LEASE_RINGIX]; omega
@[simp] theorem F.HP_LEASE_RINGIX_w : F.HP_LEASE_RINGIX.w = 6 := rfl
@[simp] theorem F.HP_LEASE_OP_STATUS_key (i j : Nat) : F.HP_LEASE_OP_STATUS.key i j = 33555518 + 17179869184 * i := by simp only [Fld.key, F.HP_LEASE_OP_STATUS]; omega
@[simp] theorem F.HP_LEASE_OP_STATUS_w : F.HP_LEASE_OP_STATUS.w = 2 := rfl
@[simp] theorem F.HP_LEASE_OP_OP_key (i j : Nat) : F.HP_LEASE_OP_OP.key i j = 33555456 + 17179869184 * i := by simp only [Fld.key, F.HP_LEASE_OP_OP]; omega
@[simp] theorem F.HP_LEASE_OP_OP_w : F.HP_LEASE_OP_OP.w = 4 := rfl
@[simp] theorem F.HP_EVENT_BOOTGEN_key (i j : Nat) : F.HP_EVENT_BOOTGEN.key i j = 33555973 + 17179869184 * i := by simp only [Fld.key, F.HP_EVENT_BOOTGEN]; omega
@[simp] theorem F.HP_EVENT_BOOTGEN_w : F.HP_EVENT_BOOTGEN.w = 1 := rfl
@[simp] theorem F.HP_EVENT_JFULL_key (i j : Nat) : F.HP_EVENT_JFULL.key i j = 33555972 + 17179869184 * i := by simp only [Fld.key, F.HP_EVENT_JFULL]; omega
@[simp] theorem F.HP_EVENT_JFULL_w : F.HP_EVENT_JFULL.w = 1 := rfl
@[simp] theorem F.HP_EVENT_HOLD_key (i j : Nat) : F.HP_EVENT_HOLD.key i j = 33555971 + 17179869184 * i := by simp only [Fld.key, F.HP_EVENT_HOLD]; omega
@[simp] theorem F.HP_EVENT_HOLD_w : F.HP_EVENT_HOLD.w = 1 := rfl
@[simp] theorem F.HP_EVENT_ORPHANS_key (i j : Nat) : F.HP_EVENT_ORPHANS.key i j = 33555970 + 17179869184 * i := by simp only [Fld.key, F.HP_EVENT_ORPHANS]; omega
@[simp] theorem F.HP_EVENT_ORPHANS_w : F.HP_EVENT_ORPHANS.w = 1 := rfl
@[simp] theorem F.HP_EVENT_DEGRADED_key (i j : Nat) : F.HP_EVENT_DEGRADED.key i j = 33555969 + 17179869184 * i := by simp only [Fld.key, F.HP_EVENT_DEGRADED]; omega
@[simp] theorem F.HP_EVENT_DEGRADED_w : F.HP_EVENT_DEGRADED.w = 1 := rfl
@[simp] theorem F.HP_EVENT_FAULT_key (i j : Nat) : F.HP_EVENT_FAULT.key i j = 33555968 + 17179869184 * i := by simp only [Fld.key, F.HP_EVENT_FAULT]; omega
@[simp] theorem F.HP_EVENT_FAULT_w : F.HP_EVENT_FAULT.w = 1 := rfl
@[simp] theorem F.LDG_STATUS_ACTIVE_key (i j : Nat) : F.LDG_STATUS_ACTIVE.key i j = 33816608 := by simp only [Fld.key, F.LDG_STATUS_ACTIVE]; omega
@[simp] theorem F.LDG_STATUS_ACTIVE_w : F.LDG_STATUS_ACTIVE.w = 32 := rfl
@[simp] theorem F.LDG_STATUS_OPEN_key (i j : Nat) : F.LDG_STATUS_OPEN.key i j = 33816592 := by simp only [Fld.key, F.LDG_STATUS_OPEN]; omega
@[simp] theorem F.LDG_STATUS_OPEN_w : F.LDG_STATUS_OPEN.w = 16 := rfl
@[simp] theorem F.LDG_STATUS_MODE_key (i j : Nat) : F.LDG_STATUS_MODE.key i j = 33816584 := by simp only [Fld.key, F.LDG_STATUS_MODE]; omega
@[simp] theorem F.LDG_STATUS_MODE_w : F.LDG_STATUS_MODE.w = 2 := rfl
@[simp] theorem F.LDG_STATUS_STATE_key (i j : Nat) : F.LDG_STATUS_STATE.key i j = 33816576 := by simp only [Fld.key, F.LDG_STATUS_STATE]; omega
@[simp] theorem F.LDG_STATUS_STATE_w : F.LDG_STATUS_STATE.w = 2 := rfl
@[simp] theorem F.LDG_STAT_IGNORED_key (i j : Nat) : F.LDG_STAT_IGNORED.key i j = 33817136 := by simp only [Fld.key, F.LDG_STAT_IGNORED]; omega
@[simp] theorem F.LDG_STAT_IGNORED_w : F.LDG_STAT_IGNORED.w = 16 := rfl
@[simp] theorem F.LDG_STAT_FOREIGN_key (i j : Nat) : F.LDG_STAT_FOREIGN.key i j = 33817120 := by simp only [Fld.key, F.LDG_STAT_FOREIGN]; omega
@[simp] theorem F.LDG_STAT_FOREIGN_w : F.LDG_STAT_FOREIGN.w = 16 := rfl
@[simp] theorem F.LDG_STAT_REJECTED_key (i j : Nat) : F.LDG_STAT_REJECTED.key i j = 33817104 := by simp only [Fld.key, F.LDG_STAT_REJECTED]; omega
@[simp] theorem F.LDG_STAT_REJECTED_w : F.LDG_STAT_REJECTED.w = 16 := rfl
@[simp] theorem F.LDG_STAT_SUPPRESSED_key (i j : Nat) : F.LDG_STAT_SUPPRESSED.key i j = 33817088 := by simp only [Fld.key, F.LDG_STAT_SUPPRESSED]; omega
@[simp] theorem F.LDG_STAT_SUPPRESSED_w : F.LDG_STAT_SUPPRESSED.w = 16 := rfl
@[simp] theorem F.LDG_JRNL_FREE_key (i j : Nat) : F.LDG_JRNL_FREE.key i j = 33817632 := by simp only [Fld.key, F.LDG_JRNL_FREE]; omega
@[simp] theorem F.LDG_JRNL_FREE_w : F.LDG_JRNL_FREE.w = 32 := rfl
@[simp] theorem F.LDG_JRNL_JSEQ_key (i j : Nat) : F.LDG_JRNL_JSEQ.key i j = 33817600 := by simp only [Fld.key, F.LDG_JRNL_JSEQ]; omega
@[simp] theorem F.LDG_JRNL_JSEQ_w : F.LDG_JRNL_JSEQ.w = 32 := rfl
@[simp] theorem F.BC_TRUST_STATUS_FAIL_key (i j : Nat) : F.BC_TRUST_STATUS_FAIL.key i j = 65584 := by simp only [Fld.key, F.BC_TRUST_STATUS_FAIL]; omega
@[simp] theorem F.BC_TRUST_STATUS_FAIL_w : F.BC_TRUST_STATUS_FAIL.w = 16 := rfl
@[simp] theorem F.BC_TRUST_STATUS_SLOTS_key (i j : Nat) : F.BC_TRUST_STATUS_SLOTS.key i j = 65568 := by simp only [Fld.key, F.BC_TRUST_STATUS_SLOTS]; omega
@[simp] theorem F.BC_TRUST_STATUS_SLOTS_w : F.BC_TRUST_STATUS_SLOTS.w = 4 := rfl
@[simp] theorem F.BC_TRUST_STATUS_REVOKED_key (i j : Nat) : F.BC_TRUST_STATUS_REVOKED.key i j = 65564 := by simp only [Fld.key, F.BC_TRUST_STATUS_REVOKED]; omega
@[simp] theorem F.BC_TRUST_STATUS_REVOKED_w : F.BC_TRUST_STATUS_REVOKED.w = 4 := rfl
@[simp] theorem F.BC_TRUST_STATUS_BOOTB_key (i j : Nat) : F.BC_TRUST_STATUS_BOOTB.key i j = 65544 := by simp only [Fld.key, F.BC_TRUST_STATUS_BOOTB]; omega
@[simp] theorem F.BC_TRUST_STATUS_BOOTB_w : F.BC_TRUST_STATUS_BOOTB.w = 1 := rfl
@[simp] theorem F.BC_TRUST_STATUS_TENANT_key (i j : Nat) : F.BC_TRUST_STATUS_TENANT.key i j = 65540 := by simp only [Fld.key, F.BC_TRUST_STATUS_TENANT]; omega
@[simp] theorem F.BC_TRUST_STATUS_TENANT_w : F.BC_TRUST_STATUS_TENANT.w = 4 := rfl
@[simp] theorem F.BC_TRUST_STATUS_DEBUG_key (i j : Nat) : F.BC_TRUST_STATUS_DEBUG.key i j = 65539 := by simp only [Fld.key, F.BC_TRUST_STATUS_DEBUG]; omega
@[simp] theorem F.BC_TRUST_STATUS_DEBUG_w : F.BC_TRUST_STATUS_DEBUG.w = 1 := rfl
@[simp] theorem F.BC_TRUST_STATUS_PROV_key (i j : Nat) : F.BC_TRUST_STATUS_PROV.key i j = 65538 := by simp only [Fld.key, F.BC_TRUST_STATUS_PROV]; omega
@[simp] theorem F.BC_TRUST_STATUS_PROV_w : F.BC_TRUST_STATUS_PROV.w = 1 := rfl
@[simp] theorem F.BC_TRUST_ID_DEVKEY_key (i j : Nat) : F.BC_TRUST_ID_DEVKEY.key i j = 66048 := by simp only [Fld.key, F.BC_TRUST_ID_DEVKEY]; omega
@[simp] theorem F.BC_TRUST_ID_DEVKEY_w : F.BC_TRUST_ID_DEVKEY.w = 64 := rfl
@[simp] theorem F.BC_SEAL_CMD_STATUS_key (i j : Nat) : F.BC_SEAL_CMD_STATUS.key i j = 66622 := by simp only [Fld.key, F.BC_SEAL_CMD_STATUS]; omega
@[simp] theorem F.BC_SEAL_CMD_STATUS_w : F.BC_SEAL_CMD_STATUS.w = 2 := rfl
@[simp] theorem F.BC_SEAL_CMD_SESSION_key (i j : Nat) : F.BC_SEAL_CMD_SESSION.key i j = 66606 := by simp only [Fld.key, F.BC_SEAL_CMD_SESSION]; omega
@[simp] theorem F.BC_SEAL_CMD_SESSION_w : F.BC_SEAL_CMD_SESSION.w = 12 := rfl
@[simp] theorem F.BC_SEAL_CMD_STAGE_key (i j : Nat) : F.BC_SEAL_CMD_STAGE.key i j = 66576 := by simp only [Fld.key, F.BC_SEAL_CMD_STAGE]; omega
@[simp] theorem F.BC_SEAL_CMD_STAGE_w : F.BC_SEAL_CMD_STAGE.w = 30 := rfl
@[simp] theorem F.BC_SEAL_CMD_OP_key (i j : Nat) : F.BC_SEAL_CMD_OP.key i j = 66560 := by simp only [Fld.key, F.BC_SEAL_CMD_OP]; omega
@[simp] theorem F.BC_SEAL_CMD_OP_w : F.BC_SEAL_CMD_OP.w = 4 := rfl
@[simp] theorem F.BC_OWNER_CMD_STATUS_key (i j : Nat) : F.BC_OWNER_CMD_STATUS.key i j = 67134 := by simp only [Fld.key, F.BC_OWNER_CMD_STATUS]; omega
@[simp] theorem F.BC_OWNER_CMD_STATUS_w : F.BC_OWNER_CMD_STATUS.w = 2 := rfl
@[simp] theorem F.BC_OWNER_CMD_STAGE_key (i j : Nat) : F.BC_OWNER_CMD_STAGE.key i j = 67076 := by simp only [Fld.key, F.BC_OWNER_CMD_STAGE]; omega
@[simp] theorem F.BC_OWNER_CMD_STAGE_w : F.BC_OWNER_CMD_STAGE.w = 30 := rfl
@[simp] theorem F.BC_OWNER_CMD_OP_key (i j : Nat) : F.BC_OWNER_CMD_OP.key i j = 67072 := by simp only [Fld.key, F.BC_OWNER_CMD_OP]; omega
@[simp] theorem F.BC_OWNER_CMD_OP_w : F.BC_OWNER_CMD_OP.w = 4 := rfl
@[simp] theorem F.BC_OWNER_CTR_COUNT_key (i j : Nat) : F.BC_OWNER_CTR_COUNT.key i j = 67584 := by simp only [Fld.key, F.BC_OWNER_CTR_COUNT]; omega
@[simp] theorem F.BC_OWNER_CTR_COUNT_w : F.BC_OWNER_CTR_COUNT.w = 64 := rfl
@[simp] theorem F.BC_DBG_CMD_STATUS_key (i j : Nat) : F.BC_DBG_CMD_STATUS.key i j = 68158 := by simp only [Fld.key, F.BC_DBG_CMD_STATUS]; omega
@[simp] theorem F.BC_DBG_CMD_STATUS_w : F.BC_DBG_CMD_STATUS.w = 2 := rfl
@[simp] theorem F.BC_DBG_CMD_SCOPE_key (i j : Nat) : F.BC_DBG_CMD_SCOPE.key i j = 68148 := by simp only [Fld.key, F.BC_DBG_CMD_SCOPE]; omega
@[simp] theorem F.BC_DBG_CMD_SCOPE_w : F.BC_DBG_CMD_SCOPE.w = 4 := rfl
@[simp] theorem F.BC_DBG_CMD_REMAIN_key (i j : Nat) : F.BC_DBG_CMD_REMAIN.key i j = 68131 := by simp only [Fld.key, F.BC_DBG_CMD_REMAIN]; omega
@[simp] theorem F.BC_DBG_CMD_REMAIN_w : F.BC_DBG_CMD_REMAIN.w = 17 := rfl
@[simp] theorem F.BC_DBG_CMD_FAILS_key (i j : Nat) : F.BC_DBG_CMD_FAILS.key i j = 68128 := by simp only [Fld.key, F.BC_DBG_CMD_FAILS]; omega
@[simp] theorem F.BC_DBG_CMD_FAILS_w : F.BC_DBG_CMD_FAILS.w = 3 := rfl
@[simp] theorem F.BC_DBG_CMD_STAGE_key (i j : Nat) : F.BC_DBG_CMD_STAGE.key i j = 68100 := by simp only [Fld.key, F.BC_DBG_CMD_STAGE]; omega
@[simp] theorem F.BC_DBG_CMD_STAGE_w : F.BC_DBG_CMD_STAGE.w = 28 := rfl
@[simp] theorem F.BC_DBG_CMD_OP_key (i j : Nat) : F.BC_DBG_CMD_OP.key i j = 68096 := by simp only [Fld.key, F.BC_DBG_CMD_OP]; omega
@[simp] theorem F.BC_DBG_CMD_OP_w : F.BC_DBG_CMD_OP.w = 4 := rfl
@[simp] theorem F.BC_DBG_CHAL_NONCE_key (i j : Nat) : F.BC_DBG_CHAL_NONCE.key i j = 68608 + 512 * j := by simp only [Fld.key, F.BC_DBG_CHAL_NONCE]; omega
@[simp] theorem F.BC_DBG_CHAL_NONCE_w : F.BC_DBG_CHAL_NONCE.w = 64 := rfl
@[simp] theorem F.BC_ID_VENDOR_key (i j : Nat) : F.BC_ID_VENDOR.key i j = 48 := by simp only [Fld.key, F.BC_ID_VENDOR]; omega
@[simp] theorem F.BC_ID_VENDOR_w : F.BC_ID_VENDOR.w = 16 := rfl
@[simp] theorem F.BC_ID_DEVICE_key (i j : Nat) : F.BC_ID_DEVICE.key i j = 32 := by simp only [Fld.key, F.BC_ID_DEVICE]; omega
@[simp] theorem F.BC_ID_DEVICE_w : F.BC_ID_DEVICE.w = 16 := rfl
@[simp] theorem F.BC_ID_STEPPING_key (i j : Nat) : F.BC_ID_STEPPING.key i j = 24 := by simp only [Fld.key, F.BC_ID_STEPPING]; omega
@[simp] theorem F.BC_ID_STEPPING_w : F.BC_ID_STEPPING.w = 8 := rfl
@[simp] theorem F.BC_ID_VARIANT_key (i j : Nat) : F.BC_ID_VARIANT.key i j = 16 := by simp only [Fld.key, F.BC_ID_VARIANT]; omega
@[simp] theorem F.BC_ID_VARIANT_w : F.BC_ID_VARIANT.w = 8 := rfl
@[simp] theorem F.BC_ID_FWVER_key (i j : Nat) : F.BC_ID_FWVER.key i j = 0 := by simp only [Fld.key, F.BC_ID_FWVER]; omega
@[simp] theorem F.BC_ID_FWVER_w : F.BC_ID_FWVER.w = 16 := rfl
@[simp] theorem F.BC_BOOT_STAGE_key (i j : Nat) : F.BC_BOOT_STAGE.key i j = 568 := by simp only [Fld.key, F.BC_BOOT_STAGE]; omega
@[simp] theorem F.BC_BOOT_STAGE_w : F.BC_BOOT_STAGE.w = 8 := rfl
@[simp] theorem F.BC_BOOT_FAILSTAGE_key (i j : Nat) : F.BC_BOOT_FAILSTAGE.key i j = 560 := by simp only [Fld.key, F.BC_BOOT_FAILSTAGE]; omega
@[simp] theorem F.BC_BOOT_FAILSTAGE_w : F.BC_BOOT_FAILSTAGE.w = 8 := rfl
@[simp] theorem F.BC_BOOT_FAULT_key (i j : Nat) : F.BC_BOOT_FAULT.key i j = 544 := by simp only [Fld.key, F.BC_BOOT_FAULT]; omega
@[simp] theorem F.BC_BOOT_FAULT_w : F.BC_BOOT_FAULT.w = 16 := rfl
@[simp] theorem F.BC_BOOT_MS_key (i j : Nat) : F.BC_BOOT_MS.key i j = 512 := by simp only [Fld.key, F.BC_BOOT_MS]; omega
@[simp] theorem F.BC_BOOT_MS_w : F.BC_BOOT_MS.w = 32 := rfl
@[simp] theorem F.BC_PAIRS_STATUS_key (i j : Nat) : F.BC_PAIRS_STATUS.key i j = 1086 := by simp only [Fld.key, F.BC_PAIRS_STATUS]; omega
@[simp] theorem F.BC_PAIRS_STATUS_w : F.BC_PAIRS_STATUS.w = 2 := rfl
@[simp] theorem F.BC_PAIRS_TAKEOVERS_key (i j : Nat) : F.BC_PAIRS_TAKEOVERS.key i j = 1056 := by simp only [Fld.key, F.BC_PAIRS_TAKEOVERS]; omega
@[simp] theorem F.BC_PAIRS_TAKEOVERS_w : F.BC_PAIRS_TAKEOVERS.w = 16 := rfl
@[simp] theorem F.BC_PAIRS_P1_key (i j : Nat) : F.BC_PAIRS_P1.key i j = 1034 := by simp only [Fld.key, F.BC_PAIRS_P1]; omega
@[simp] theorem F.BC_PAIRS_P1_w : F.BC_PAIRS_P1.w = 2 := rfl
@[simp] theorem F.BC_PAIRS_P0_key (i j : Nat) : F.BC_PAIRS_P0.key i j = 1032 := by simp only [Fld.key, F.BC_PAIRS_P0]; omega
@[simp] theorem F.BC_PAIRS_P0_w : F.BC_PAIRS_P0.w = 2 := rfl
@[simp] theorem F.BC_PAIRS_ACTIVE_key (i j : Nat) : F.BC_PAIRS_ACTIVE.key i j = 1028 := by simp only [Fld.key, F.BC_PAIRS_ACTIVE]; omega
@[simp] theorem F.BC_PAIRS_ACTIVE_w : F.BC_PAIRS_ACTIVE.w = 1 := rfl
@[simp] theorem F.BC_PAIRS_OP_key (i j : Nat) : F.BC_PAIRS_OP.key i j = 1024 := by simp only [Fld.key, F.BC_PAIRS_OP]; omega
@[simp] theorem F.BC_PAIRS_OP_w : F.BC_PAIRS_OP.w = 4 := rfl
@[simp] theorem F.BC_SVY_CFG_GRACE_key (i j : Nat) : F.BC_SVY_CFG_GRACE.key i j = 81952 := by simp only [Fld.key, F.BC_SVY_CFG_GRACE]; omega
@[simp] theorem F.BC_SVY_CFG_GRACE_w : F.BC_SVY_CFG_GRACE.w = 16 := rfl
@[simp] theorem F.BC_SVY_CFG_PERIOD_key (i j : Nat) : F.BC_SVY_CFG_PERIOD.key i j = 81936 := by simp only [Fld.key, F.BC_SVY_CFG_PERIOD]; omega
@[simp] theorem F.BC_SVY_CFG_PERIOD_w : F.BC_SVY_CFG_PERIOD.w = 16 := rfl
@[simp] theorem F.BC_SVY_CFG_EN_key (i j : Nat) : F.BC_SVY_CFG_EN.key i j = 81920 := by simp only [Fld.key, F.BC_SVY_CFG_EN]; omega
@[simp] theorem F.BC_SVY_CFG_EN_w : F.BC_SVY_CFG_EN.w = 1 := rfl
@[simp] theorem F.FLD_SVY_AGE_key (i j : Nat) : F.FLD_SVY_AGE.key i j = 67158064 + 1048576 * i := by simp only [Fld.key, F.FLD_SVY_AGE]; omega
@[simp] theorem F.FLD_SVY_AGE_w : F.FLD_SVY_AGE.w = 16 := rfl
@[simp] theorem F.FLD_SVY_FAILS_key (i j : Nat) : F.FLD_SVY_FAILS.key i j = 67158056 + 1048576 * i := by simp only [Fld.key, F.FLD_SVY_FAILS]; omega
@[simp] theorem F.FLD_SVY_FAILS_w : F.FLD_SVY_FAILS.w = 8 := rfl
@[simp] theorem F.FLD_SVY_SLICE_key (i j : Nat) : F.FLD_SVY_SLICE.key i j = 67158048 + 1048576 * i := by simp only [Fld.key, F.FLD_SVY_SLICE]; omega
@[simp] theorem F.FLD_SVY_SLICE_w : F.FLD_SVY_SLICE.w = 8 := rfl
@[simp] theorem F.FLD_SVY_PASSES_key (i j : Nat) : F.FLD_SVY_PASSES.key i j = 67158032 + 1048576 * i := by simp only [Fld.key, F.FLD_SVY_PASSES]; omega
@[simp] theorem F.FLD_SVY_PASSES_w : F.FLD_SVY_PASSES.w = 16 := rfl
@[simp] theorem F.FLD_SVY_OVERDUE_key (i j : Nat) : F.FLD_SVY_OVERDUE.key i j = 67158019 + 1048576 * i := by simp only [Fld.key, F.FLD_SVY_OVERDUE]; omega
@[simp] theorem F.FLD_SVY_OVERDUE_w : F.FLD_SVY_OVERDUE.w = 1 := rfl
@[simp] theorem F.FLD_SVY_DUE_key (i j : Nat) : F.FLD_SVY_DUE.key i j = 67158018 + 1048576 * i := by simp only [Fld.key, F.FLD_SVY_DUE]; omega
@[simp] theorem F.FLD_SVY_DUE_w : F.FLD_SVY_DUE.w = 1 := rfl
@[simp] theorem F.FLD_SVY_FULL_key (i j : Nat) : F.FLD_SVY_FULL.key i j = 67158016 + 1048576 * i := by simp only [Fld.key, F.FLD_SVY_FULL]; omega
@[simp] theorem F.FLD_SVY_FULL_w : F.FLD_SVY_FULL.w = 2 := rfl
@[simp] theorem F.FLD_SVY_CMD_STATUS_key (i j : Nat) : F.FLD_SVY_CMD_STATUS.key i j = 67158590 + 1048576 * i := by simp only [Fld.key, F.FLD_SVY_CMD_STATUS]; omega
@[simp] theorem F.FLD_SVY_CMD_STATUS_w : F.FLD_SVY_CMD_STATUS.w = 2 := rfl
@[simp] theorem F.FLD_SVY_CMD_OP_key (i j : Nat) : F.FLD_SVY_CMD_OP.key i j = 67158528 + 1048576 * i := by simp only [Fld.key, F.FLD_SVY_CMD_OP]; omega
@[simp] theorem F.FLD_SVY_CMD_OP_w : F.FLD_SVY_CMD_OP.w = 4 := rfl
@[simp] theorem F.FLD_BLOOM_EXPECT_key (i j : Nat) : F.FLD_BLOOM_EXPECT.key i j = 67159074 + 1048576 * i := by simp only [Fld.key, F.FLD_BLOOM_EXPECT]; omega
@[simp] theorem F.FLD_BLOOM_EXPECT_w : F.FLD_BLOOM_EXPECT.w = 15 := rfl
@[simp] theorem F.FLD_BLOOM_OKCOUNT_key (i j : Nat) : F.FLD_BLOOM_OKCOUNT.key i j = 67159059 + 1048576 * i := by simp only [Fld.key, F.FLD_BLOOM_OKCOUNT]; omega
@[simp] theorem F.FLD_BLOOM_OKCOUNT_w : F.FLD_BLOOM_OKCOUNT.w = 15 := rfl
@[simp] theorem F.FLD_BLOOM_ATTEMPTS_key (i j : Nat) : F.FLD_BLOOM_ATTEMPTS.key i j = 67159056 + 1048576 * i := by simp only [Fld.key, F.FLD_BLOOM_ATTEMPTS]; omega
@[simp] theorem F.FLD_BLOOM_ATTEMPTS_w : F.FLD_BLOOM_ATTEMPTS.w = 3 := rfl
@[simp] theorem F.FLD_BLOOM_DONE_key (i j : Nat) : F.FLD_BLOOM_DONE.key i j = 67159040 + 1048576 * i := by simp only [Fld.key, F.FLD_BLOOM_DONE]; omega
@[simp] theorem F.FLD_BLOOM_DONE_w : F.FLD_BLOOM_DONE.w = 1 := rfl
@[simp] theorem F.OD_CMD_STATUS_key (i j : Nat) : F.OD_CMD_STATUS.key i j = 25165886 + 262144 * i := by simp only [Fld.key, F.OD_CMD_STATUS]; omega
@[simp] theorem F.OD_CMD_STATUS_w : F.OD_CMD_STATUS.w = 2 := rfl
@[simp] theorem F.OD_CMD_INDEX_key (i j : Nat) : F.OD_CMD_INDEX.key i j = 25165856 + 262144 * i := by simp only [Fld.key, F.OD_CMD_INDEX]; omega
@[simp] theorem F.OD_CMD_INDEX_w : F.OD_CMD_INDEX.w = 16 := rfl
@[simp] theorem F.OD_CMD_SUB_key (i j : Nat) : F.OD_CMD_SUB.key i j = 25165848 + 262144 * i := by simp only [Fld.key, F.OD_CMD_SUB]; omega
@[simp] theorem F.OD_CMD_SUB_w : F.OD_CMD_SUB.w = 8 := rfl
@[simp] theorem F.OD_CMD_LEN_key (i j : Nat) : F.OD_CMD_LEN.key i j = 25165836 + 262144 * i := by simp only [Fld.key, F.OD_CMD_LEN]; omega
@[simp] theorem F.OD_CMD_LEN_w : F.OD_CMD_LEN.w = 12 := rfl
@[simp] theorem F.OD_CMD_OP_key (i j : Nat) : F.OD_CMD_OP.key i j = 25165824 + 262144 * i := by simp only [Fld.key, F.OD_CMD_OP]; omega
@[simp] theorem F.OD_CMD_OP_w : F.OD_CMD_OP.w = 4 := rfl
@[simp] theorem F.OD_ABORT_CODE_key (i j : Nat) : F.OD_ABORT_CODE.key i j = 25166336 + 262144 * i := by simp only [Fld.key, F.OD_ABORT_CODE]; omega
@[simp] theorem F.OD_ABORT_CODE_w : F.OD_ABORT_CODE.w = 32 := rfl
@[simp] theorem F.OD_INFO_TYPE_key (i j : Nat) : F.OD_INFO_TYPE.key i j = 25166896 + 262144 * i := by simp only [Fld.key, F.OD_INFO_TYPE]; omega
@[simp] theorem F.OD_INFO_TYPE_w : F.OD_INFO_TYPE.w = 16 := rfl
@[simp] theorem F.OD_INFO_ACCESS_key (i j : Nat) : F.OD_INFO_ACCESS.key i j = 25166888 + 262144 * i := by simp only [Fld.key, F.OD_INFO_ACCESS]; omega
@[simp] theorem F.OD_INFO_ACCESS_w : F.OD_INFO_ACCESS.w = 8 := rfl
@[simp] theorem F.OD_INFO_STORE_key (i j : Nat) : F.OD_INFO_STORE.key i j = 25166886 + 262144 * i := by simp only [Fld.key, F.OD_INFO_STORE]; omega
@[simp] theorem F.OD_INFO_STORE_w : F.OD_INFO_STORE.w = 2 := rfl
@[simp] theorem F.OD_INFO_LIVE_key (i j : Nat) : F.OD_INFO_LIVE.key i j = 25166885 + 262144 * i := by simp only [Fld.key, F.OD_INFO_LIVE]; omega
@[simp] theorem F.OD_INFO_LIVE_w : F.OD_INFO_LIVE.w = 1 := rfl
@[simp] theorem F.OD_DATA_DATA_key (i j : Nat) : F.OD_DATA_DATA.key i j = 25182208 + 262144 * i + 512 * j := by simp only [Fld.key, F.OD_DATA_DATA]; omega
@[simp] theorem F.OD_DATA_DATA_w : F.OD_DATA_DATA.w = 64 := rfl
@[simp] theorem F.RST_CAUSE_COUNT_key (i j : Nat) : F.RST_CAUSE_COUNT.key i j = 4194352 := by simp only [Fld.key, F.RST_CAUSE_COUNT]; omega
@[simp] theorem F.RST_CAUSE_COUNT_w : F.RST_CAUSE_COUNT.w = 16 := rfl
@[simp] theorem F.RST_CAUSE_QUAL_key (i j : Nat) : F.RST_CAUSE_QUAL.key i j = 4194336 := by simp only [Fld.key, F.RST_CAUSE_QUAL]; omega
@[simp] theorem F.RST_CAUSE_QUAL_w : F.RST_CAUSE_QUAL.w = 8 := rfl
@[simp] theorem F.RST_CAUSE_SOURCE_key (i j : Nat) : F.RST_CAUSE_SOURCE.key i j = 4194328 := by simp only [Fld.key, F.RST_CAUSE_SOURCE]; omega
@[simp] theorem F.RST_CAUSE_SOURCE_w : F.RST_CAUSE_SOURCE.w = 3 := rfl
@[simp] theorem F.RST_CAUSE_LEVEL_key (i j : Nat) : F.RST_CAUSE_LEVEL.key i j = 4194320 := by simp only [Fld.key, F.RST_CAUSE_LEVEL]; omega
@[simp] theorem F.RST_CAUSE_LEVEL_w : F.RST_CAUSE_LEVEL.w = 3 := rfl
@[simp] theorem F.RST_CAUSE_SCOPED_key (i j : Nat) : F.RST_CAUSE_SCOPED.key i j = 4194304 := by simp only [Fld.key, F.RST_CAUSE_SCOPED]; omega
@[simp] theorem F.RST_CAUSE_SCOPED_w : F.RST_CAUSE_SCOPED.w = 1 := rfl
@[simp] theorem F.RST_CAUSE_SCOPE_FIELDS_key (i j : Nat) : F.RST_CAUSE_SCOPE_FIELDS.key i j = 4194816 := by simp only [Fld.key, F.RST_CAUSE_SCOPE_FIELDS]; omega
@[simp] theorem F.RST_CAUSE_SCOPE_FIELDS_w : F.RST_CAUSE_SCOPE_FIELDS.w = 48 := rfl
@[simp] theorem F.RST_CMD_STATUS_key (i j : Nat) : F.RST_CMD_STATUS.key i j = 4195390 := by simp only [Fld.key, F.RST_CMD_STATUS]; omega
@[simp] theorem F.RST_CMD_STATUS_w : F.RST_CMD_STATUS.w = 2 := rfl
@[simp] theorem F.RST_CMD_FORCE_key (i j : Nat) : F.RST_CMD_FORCE.key i j = 4195383 := by simp only [Fld.key, F.RST_CMD_FORCE]; omega
@[simp] theorem F.RST_CMD_FORCE_w : F.RST_CMD_FORCE.w = 1 := rfl
@[simp] theorem F.RST_CMD_LEVEL_key (i j : Nat) : F.RST_CMD_LEVEL.key i j = 4195376 := by simp only [Fld.key, F.RST_CMD_LEVEL]; omega
@[simp] theorem F.RST_CMD_LEVEL_w : F.RST_CMD_LEVEL.w = 4 := rfl
@[simp] theorem F.RST_CMD_OP_key (i j : Nat) : F.RST_CMD_OP.key i j = 4195328 := by simp only [Fld.key, F.RST_CMD_OP]; omega
@[simp] theorem F.RST_CMD_OP_w : F.RST_CMD_OP.w = 4 := rfl
@[simp] theorem F.RST_SCOPE_ALL_key (i j : Nat) : F.RST_SCOPE_ALL.key i j = 4195903 := by simp only [Fld.key, F.RST_SCOPE_ALL]; omega
@[simp] theorem F.RST_SCOPE_ALL_w : F.RST_SCOPE_ALL.w = 1 := rfl
@[simp] theorem F.RST_SCOPE_FIELDS_key (i j : Nat) : F.RST_SCOPE_FIELDS.key i j = 4195840 := by simp only [Fld.key, F.RST_SCOPE_FIELDS]; omega
@[simp] theorem F.RST_SCOPE_FIELDS_w : F.RST_SCOPE_FIELDS.w = 48 := rfl
@[simp] theorem F.RST_STATE_ACTIVE_key (i j : Nat) : F.RST_STATE_ACTIVE.key i j = 4196415 := by simp only [Fld.key, F.RST_STATE_ACTIVE]; omega
@[simp] theorem F.RST_STATE_ACTIVE_w : F.RST_STATE_ACTIVE.w = 1 := rfl
@[simp] theorem F.RST_STATE_LEVEL_key (i j : Nat) : F.RST_STATE_LEVEL.key i j = 4196412 := by simp only [Fld.key, F.RST_STATE_LEVEL]; omega
@[simp] theorem F.RST_STATE_LEVEL_w : F.RST_STATE_LEVEL.w = 3 := rfl
@[simp] theorem F.RST_STATE_HOLD_key (i j : Nat) : F.RST_STATE_HOLD.key i j = 4196411 := by simp only [Fld.key, F.RST_STATE_HOLD]; omega
@[simp] theorem F.RST_STATE_HOLD_w : F.RST_STATE_HOLD.w = 1 := rfl
@[simp] theorem F.RST_STATE_PINLOW_key (i j : Nat) : F.RST_STATE_PINLOW.key i j = 4196410 := by simp only [Fld.key, F.RST_STATE_PINLOW]; omega
@[simp] theorem F.RST_STATE_PINLOW_w : F.RST_STATE_PINLOW.w = 1 := rfl
@[simp] theorem F.RST_STATE_STEP_key (i j : Nat) : F.RST_STATE_STEP.key i j = 4196400 := by simp only [Fld.key, F.RST_STATE_STEP]; omega
@[simp] theorem F.RST_STATE_STEP_w : F.RST_STATE_STEP.w = 4 := rfl
@[simp] theorem F.RST_STATE_FIELDS_key (i j : Nat) : F.RST_STATE_FIELDS.key i j = 4196352 := by simp only [Fld.key, F.RST_STATE_FIELDS]; omega
@[simp] theorem F.RST_STATE_FIELDS_w : F.RST_STATE_FIELDS.w = 48 := rfl
@[simp] theorem F.RST_LEVELS_CEIL_key (i j : Nat) : F.RST_LEVELS_CEIL.key i j = 4196888 := by simp only [Fld.key, F.RST_LEVELS_CEIL]; omega
@[simp] theorem F.RST_LEVELS_CEIL_w : F.RST_LEVELS_CEIL.w = 24 := rfl
@[simp] theorem F.RST_LEVELS_LEVEL_key (i j : Nat) : F.RST_LEVELS_LEVEL.key i j = 4196864 := by simp only [Fld.key, F.RST_LEVELS_LEVEL]; omega
@[simp] theorem F.RST_LEVELS_LEVEL_w : F.RST_LEVELS_LEVEL.w = 24 := rfl
@[simp] theorem F.RST_ISO_HOST_key (i j : Nat) : F.RST_ISO_HOST.key i j = 4197408 := by simp only [Fld.key, F.RST_ISO_HOST]; omega
@[simp] theorem F.RST_ISO_HOST_w : F.RST_ISO_HOST.w = 32 := rfl
@[simp] theorem F.RST_ISO_MSG_key (i j : Nat) : F.RST_ISO_MSG.key i j = 4197376 := by simp only [Fld.key, F.RST_ISO_MSG]; omega
@[simp] theorem F.RST_ISO_MSG_w : F.RST_ISO_MSG.w = 32 := rfl
@[simp] theorem F.RST_HIST_T_TIME_key (i j : Nat) : F.RST_HIST_T_TIME.key i j = 4210688 + 1024 * j := by simp only [Fld.key, F.RST_HIST_T_TIME]; omega
@[simp] theorem F.RST_HIST_T_TIME_w : F.RST_HIST_T_TIME.w = 64 := rfl
@[simp] theorem F.RST_HIST_I_FIELDS_key (i j : Nat) : F.RST_HIST_I_FIELDS.key i j = 4211216 + 1024 * j := by simp only [Fld.key, F.RST_HIST_I_FIELDS]; omega
@[simp] theorem F.RST_HIST_I_FIELDS_w : F.RST_HIST_I_FIELDS.w = 48 := rfl
@[simp] theorem F.RST_HIST_I_VALID_key (i j : Nat) : F.RST_HIST_I_VALID.key i j = 4211215 + 1024 * j := by simp only [Fld.key, F.RST_HIST_I_VALID]; omega
@[simp] theorem F.RST_HIST_I_VALID_w : F.RST_HIST_I_VALID.w = 1 := rfl
@[simp] theorem F.RST_HIST_I_MERGED_key (i j : Nat) : F.RST_HIST_I_MERGED.key i j = 4211214 + 1024 * j := by simp only [Fld.key, F.RST_HIST_I_MERGED]; omega
@[simp] theorem F.RST_HIST_I_MERGED_w : F.RST_HIST_I_MERGED.w = 1 := rfl
@[simp] theorem F.RST_HIST_I_ALL_key (i j : Nat) : F.RST_HIST_I_ALL.key i j = 4211213 + 1024 * j := by simp only [Fld.key, F.RST_HIST_I_ALL]; omega
@[simp] theorem F.RST_HIST_I_ALL_w : F.RST_HIST_I_ALL.w = 1 := rfl
@[simp] theorem F.RST_HIST_I_SOURCE_key (i j : Nat) : F.RST_HIST_I_SOURCE.key i j = 4211210 + 1024 * j := by simp only [Fld.key, F.RST_HIST_I_SOURCE]; omega
@[simp] theorem F.RST_HIST_I_SOURCE_w : F.RST_HIST_I_SOURCE.w = 3 := rfl
@[simp] theorem F.RST_HIST_I_LEVEL_key (i j : Nat) : F.RST_HIST_I_LEVEL.key i j = 4211207 + 1024 * j := by simp only [Fld.key, F.RST_HIST_I_LEVEL]; omega
@[simp] theorem F.RST_HIST_I_LEVEL_w : F.RST_HIST_I_LEVEL.w = 3 := rfl
@[simp] theorem F.RST_HIST_I_QUAL_key (i j : Nat) : F.RST_HIST_I_QUAL.key i j = 4211203 + 1024 * j := by simp only [Fld.key, F.RST_HIST_I_QUAL]; omega
@[simp] theorem F.RST_HIST_I_QUAL_w : F.RST_HIST_I_QUAL.w = 4 := rfl
@[simp] theorem F.FLD_RST_RESETS_key (i j : Nat) : F.FLD_RST_RESETS.key i j = 67174448 + 1048576 * i := by simp only [Fld.key, F.FLD_RST_RESETS]; omega
@[simp] theorem F.FLD_RST_RESETS_w : F.FLD_RST_RESETS.w = 16 := rfl
@[simp] theorem F.FLD_RST_INTRUDE_key (i j : Nat) : F.FLD_RST_INTRUDE.key i j = 67174432 + 1048576 * i := by simp only [Fld.key, F.FLD_RST_INTRUDE]; omega
@[simp] theorem F.FLD_RST_INTRUDE_w : F.FLD_RST_INTRUDE.w = 16 := rfl
@[simp] theorem F.FLD_RST_LSOURCE_key (i j : Nat) : F.FLD_RST_LSOURCE.key i j = 67174424 + 1048576 * i := by simp only [Fld.key, F.FLD_RST_LSOURCE]; omega
@[simp] theorem F.FLD_RST_LSOURCE_w : F.FLD_RST_LSOURCE.w = 3 := rfl
@[simp] theorem F.FLD_RST_LLEVEL_key (i j : Nat) : F.FLD_RST_LLEVEL.key i j = 67174416 + 1048576 * i := by simp only [Fld.key, F.FLD_RST_LLEVEL]; omega
@[simp] theorem F.FLD_RST_LLEVEL_w : F.FLD_RST_LLEVEL.w = 3 := rfl
@[simp] theorem F.FLD_RST_MIGRATE_CUT_key (i j : Nat) : F.FLD_RST_MIGRATE_CUT.key i j = 67174403 + 1048576 * i := by simp only [Fld.key, F.FLD_RST_MIGRATE_CUT]; omega
@[simp] theorem F.FLD_RST_MIGRATE_CUT_w : F.FLD_RST_MIGRATE_CUT.w = 1 := rfl
@[simp] theorem F.FLD_RST_STATE_key (i j : Nat) : F.FLD_RST_STATE.key i j = 67174400 + 1048576 * i := by simp only [Fld.key, F.FLD_RST_STATE]; omega
@[simp] theorem F.FLD_RST_STATE_w : F.FLD_RST_STATE.w = 3 := rfl
@[simp] theorem F.CLK_MREF_STATUS_key (i j : Nat) : F.CLK_MREF_STATUS.key i j = 8388670 := by simp only [Fld.key, F.CLK_MREF_STATUS]; omega
@[simp] theorem F.CLK_MREF_STATUS_w : F.CLK_MREF_STATUS.w = 2 := rfl
@[simp] theorem F.CLK_MREF_READY_key (i j : Nat) : F.CLK_MREF_READY.key i j = 8388656 := by simp only [Fld.key, F.CLK_MREF_READY]; omega
@[simp] theorem F.CLK_MREF_READY_w : F.CLK_MREF_READY.w = 3 := rfl
@[simp] theorem F.CLK_MREF_REFUSED_key (i j : Nat) : F.CLK_MREF_REFUSED.key i j = 8388655 := by simp only [Fld.key, F.CLK_MREF_REFUSED]; omega
@[simp] theorem F.CLK_MREF_REFUSED_w : F.CLK_MREF_REFUSED.w = 1 := rfl
@[simp] theorem F.CLK_MREF_CUR_PORT_key (i j : Nat) : F.CLK_MREF_CUR_PORT.key i j = 8388648 := by simp only [Fld.key, F.CLK_MREF_CUR_PORT]; omega
@[simp] theorem F.CLK_MREF_CUR_PORT_w : F.CLK_MREF_CUR_PORT.w = 3 := rfl
@[simp] theorem F.CLK_MREF_CUR_SRC_key (i j : Nat) : F.CLK_MREF_CUR_SRC.key i j = 8388642 := by simp only [Fld.key, F.CLK_MREF_CUR_SRC]; omega
@[simp] theorem F.CLK_MREF_CUR_SRC_w : F.CLK_MREF_CUR_SRC.w = 2 := rfl
@[simp] theorem F.CLK_MREF_PORT_key (i j : Nat) : F.CLK_MREF_PORT.key i j = 8388612 := by simp only [Fld.key, F.CLK_MREF_PORT]; omega
@[simp] theorem F.CLK_MREF_PORT_w : F.CLK_MREF_PORT.w = 3 := rfl
@[simp] theorem F.CLK_MREF_SRC_key (i j : Nat) : F.CLK_MREF_SRC.key i j = 8388608 := by simp only [Fld.key, F.CLK_MREF_SRC]; omega
@[simp] theorem F.CLK_MREF_SRC_w : F.CLK_MREF_SRC.w = 2 := rfl
@[simp] theorem F.CLK_DIV_HOSTREQ_key (i j : Nat) : F.CLK_DIV_HOSTREQ.key i j = 8389168 := by simp only [Fld.key, F.CLK_DIV_HOSTREQ]; omega
@[simp] theorem F.CLK_DIV_HOSTREQ_w : F.CLK_DIV_HOSTREQ.w = 8 := rfl
@[simp] theorem F.CLK_DIV_LOCALREQ_key (i j : Nat) : F.CLK_DIV_LOCALREQ.key i j = 8389160 := by simp only [Fld.key, F.CLK_DIV_LOCALREQ]; omega
@[simp] theorem F.CLK_DIV_LOCALREQ_w : F.CLK_DIV_LOCALREQ.w = 8 := rfl
@[simp] theorem F.CLK_DIV_REASONS_key (i j : Nat) : F.CLK_DIV_REASONS.key i j = 8389156 := by simp only [Fld.key, F.CLK_DIV_REASONS]; omega
@[simp] theorem F.CLK_DIV_REASONS_w : F.CLK_DIV_REASONS.w = 4 := rfl
@[simp] theorem F.CLK_DIV_FLOOR_key (i j : Nat) : F.CLK_DIV_FLOOR.key i j = 8389144 := by simp only [Fld.key, F.CLK_DIV_FLOOR]; omega
@[simp] theorem F.CLK_DIV_FLOOR_w : F.CLK_DIV_FLOOR.w = 8 := rfl
@[simp] theorem F.CLK_DIV_TARGET_key (i j : Nat) : F.CLK_DIV_TARGET.key i j = 8389136 := by simp only [Fld.key, F.CLK_DIV_TARGET]; omega
@[simp] theorem F.CLK_DIV_TARGET_w : F.CLK_DIV_TARGET.w = 8 := rfl
@[simp] theorem F.CLK_DIV_CURRENT_key (i j : Nat) : F.CLK_DIV_CURRENT.key i j = 8389128 := by simp only [Fld.key, F.CLK_DIV_CURRENT]; omega
@[simp] theorem F.CLK_DIV_CURRENT_w : F.CLK_DIV_CURRENT.w = 8 := rfl
@[simp] theorem F.CLK_DIV_RAMPING_key (i j : Nat) : F.CLK_DIV_RAMPING.key i j = 8389120 := by simp only [Fld.key, F.CLK_DIV_RAMPING]; omega
@[simp] theorem F.CLK_DIV_RAMPING_w : F.CLK_DIV_RAMPING.w = 1 := rfl
@[simp] theorem F.CLK_SSC_FREQ_key (i j : Nat) : F.CLK_SSC_FREQ.key i j = 8389640 := by simp only [Fld.key, F.CLK_SSC_FREQ]; omega
@[simp] theorem F.CLK_SSC_FREQ_w : F.CLK_SSC_FREQ.w = 8 := rfl
@[simp] theorem F.CLK_SSC_ACTIVE_key (i j : Nat) : F.CLK_SSC_ACTIVE.key i j = 8389636 := by simp only [Fld.key, F.CLK_SSC_ACTIVE]; omega
@[simp] theorem F.CLK_SSC_ACTIVE_w : F.CLK_SSC_ACTIVE.w = 1 := rfl
@[simp] theorem F.CLK_SSC_DEPTH_key (i j : Nat) : F.CLK_SSC_DEPTH.key i j = 8389632 := by simp only [Fld.key, F.CLK_SSC_DEPTH]; omega
@[simp] theorem F.CLK_SSC_DEPTH_w : F.CLK_SSC_DEPTH.w = 4 := rfl
@[simp] theorem F.CLK_PLL_MOD_key (i j : Nat) : F.CLK_PLL_MOD.key i j = 8390192 := by simp only [Fld.key, F.CLK_PLL_MOD]; omega
@[simp] theorem F.CLK_PLL_MOD_w : F.CLK_PLL_MOD.w = 2 := rfl
@[simp] theorem F.CLK_PLL_FIELD_key (i j : Nat) : F.CLK_PLL_FIELD.key i j = 8390144 := by simp only [Fld.key, F.CLK_PLL_FIELD]; omega
@[simp] theorem F.CLK_PLL_FIELD_w : F.CLK_PLL_FIELD.w = 48 := rfl
@[simp] theorem F.CLK_GATE_EFF_key (i j : Nat) : F.CLK_GATE_EFF.key i j = 8390688 := by simp only [Fld.key, F.CLK_GATE_EFF]; omega
@[simp] theorem F.CLK_GATE_EFF_w : F.CLK_GATE_EFF.w = 4 := rfl
@[simp] theorem F.CLK_GATE_MODE_key (i j : Nat) : F.CLK_GATE_MODE.key i j = 8390656 := by simp only [Fld.key, F.CLK_GATE_MODE]; omega
@[simp] theorem F.CLK_GATE_MODE_w : F.CLK_GATE_MODE.w = 4 := rfl
@[simp] theorem F.FLD_GATE_EFF_key (i j : Nat) : F.FLD_GATE_EFF.key i j = 67207184 + 1048576 * i := by simp only [Fld.key, F.FLD_GATE_EFF]; omega
@[simp] theorem F.FLD_GATE_EFF_w : F.FLD_GATE_EFF.w = 6 := rfl
@[simp] theorem F.FLD_GATE_MODE_key (i j : Nat) : F.FLD_GATE_MODE.key i j = 67207168 + 1048576 * i := by simp only [Fld.key, F.FLD_GATE_MODE]; omega
@[simp] theorem F.FLD_GATE_MODE_w : F.FLD_GATE_MODE.w = 6 := rfl
@[simp] theorem F.PWR_STATUS_VIN_key (i j : Nat) : F.PWR_STATUS_VIN.key i j = 12582960 := by simp only [Fld.key, F.PWR_STATUS_VIN]; omega
@[simp] theorem F.PWR_STATUS_VIN_w : F.PWR_STATUS_VIN.w = 16 := rfl
@[simp] theorem F.PWR_STATUS_IIN_key (i j : Nat) : F.PWR_STATUS_IIN.key i j = 12582944 := by simp only [Fld.key, F.PWR_STATUS_IIN]; omega
@[simp] theorem F.PWR_STATUS_IIN_w : F.PWR_STATUS_IIN.w = 16 := rfl
@[simp] theorem F.PWR_STATUS_TRIPCAUSE_key (i j : Nat) : F.PWR_STATUS_TRIPCAUSE.key i j = 12582920 := by simp only [Fld.key, F.PWR_STATUS_TRIPCAUSE]; omega
@[simp] theorem F.PWR_STATUS_TRIPCAUSE_w : F.PWR_STATUS_TRIPCAUSE.w = 4 := rfl
@[simp] theorem F.PWR_STATUS_TRIP_key (i j : Nat) : F.PWR_STATUS_TRIP.key i j = 12582919 := by simp only [Fld.key, F.PWR_STATUS_TRIP]; omega
@[simp] theorem F.PWR_STATUS_TRIP_w : F.PWR_STATUS_TRIP.w = 1 := rfl
@[simp] theorem F.PWR_STATUS_LEAK_key (i j : Nat) : F.PWR_STATUS_LEAK.key i j = 12582918 := by simp only [Fld.key, F.PWR_STATUS_LEAK]; omega
@[simp] theorem F.PWR_STATUS_LEAK_w : F.PWR_STATUS_LEAK.w = 1 := rfl
@[simp] theorem F.PWR_STATUS_BOWARN_key (i j : Nat) : F.PWR_STATUS_BOWARN.key i j = 12582917 := by simp only [Fld.key, F.PWR_STATUS_BOWARN]; omega
@[simp] theorem F.PWR_STATUS_BOWARN_w : F.PWR_STATUS_BOWARN.w = 1 := rfl
@[simp] theorem F.PWR_STATUS_STANDBY_key (i j : Nat) : F.PWR_STATUS_STANDBY.key i j = 12582916 := by simp only [Fld.key, F.PWR_STATUS_STANDBY]; omega
@[simp] theorem F.PWR_STATUS_STANDBY_w : F.PWR_STATUS_STANDBY.w = 1 := rfl
@[simp] theorem F.PWR_BOR_WARNS_key (i j : Nat) : F.PWR_BOR_WARNS.key i j = 12583472 := by simp only [Fld.key, F.PWR_BOR_WARNS]; omega
@[simp] theorem F.PWR_BOR_WARNS_w : F.PWR_BOR_WARNS.w = 16 := rfl
@[simp] theorem F.PWR_BOR_VMIN_key (i j : Nat) : F.PWR_BOR_VMIN.key i j = 12583456 := by simp only [Fld.key, F.PWR_BOR_VMIN]; omega
@[simp] theorem F.PWR_BOR_VMIN_w : F.PWR_BOR_VMIN.w = 16 := rfl
@[simp] theorem F.PWR_BOR_LEVEL_key (i j : Nat) : F.PWR_BOR_LEVEL.key i j = 12583440 := by simp only [Fld.key, F.PWR_BOR_LEVEL]; omega
@[simp] theorem F.PWR_BOR_LEVEL_w : F.PWR_BOR_LEVEL.w = 16 := rfl
@[simp] theorem F.PWR_CMD_STATUS_key (i j : Nat) : F.PWR_CMD_STATUS.key i j = 12583998 := by simp only [Fld.key, F.PWR_CMD_STATUS]; omega
@[simp] theorem F.PWR_CMD_STATUS_w : F.PWR_CMD_STATUS.w = 2 := rfl
@[simp] theorem F.PWR_CMD_OP_key (i j : Nat) : F.PWR_CMD_OP.key i j = 12583936 := by simp only [Fld.key, F.PWR_CMD_OP]; omega
@[simp] theorem F.PWR_CMD_OP_w : F.PWR_CMD_OP.w = 4 := rfl
@[simp] theorem F.THM_STATUS_STAGES_key (i j : Nat) : F.THM_STATUS_STAGES.key i j = 12599356 := by simp only [Fld.key, F.THM_STATUS_STAGES]; omega
@[simp] theorem F.THM_STATUS_STAGES_w : F.THM_STATUS_STAGES.w = 4 := rfl
@[simp] theorem F.THM_STATUS_DARK_key (i j : Nat) : F.THM_STATUS_DARK.key i j = 12599296 := by simp only [Fld.key, F.THM_STATUS_DARK]; omega
@[simp] theorem F.THM_STATUS_DARK_w : F.THM_STATUS_DARK.w = 48 := rfl
@[simp] theorem F.THM_TEMP_TMAX_key (i j : Nat) : F.THM_TEMP_TMAX.key i j = 12599856 := by simp only [Fld.key, F.THM_TEMP_TMAX]; omega
@[simp] theorem F.THM_TEMP_TMAX_w : F.THM_TEMP_TMAX.w = 16 := rfl
@[simp] theorem F.THM_TEMP_TMAX_FIELD_key (i j : Nat) : F.THM_TEMP_TMAX_FIELD.key i j = 12599850 := by simp only [Fld.key, F.THM_TEMP_TMAX_FIELD]; omega
@[simp] theorem F.THM_TEMP_TMAX_FIELD_w : F.THM_TEMP_TMAX_FIELD.w = 6 := rfl
@[simp] theorem F.THM_TEMP_TMAX_DIODE_key (i j : Nat) : F.THM_TEMP_TMAX_DIODE.key i j = 12599846 := by simp only [Fld.key, F.THM_TEMP_TMAX_DIODE]; omega
@[simp] theorem F.THM_TEMP_TMAX_DIODE_w : F.THM_TEMP_TMAX_DIODE.w = 4 := rfl
@[simp] theorem F.THM_TEMP_GRAD_key (i j : Nat) : F.THM_TEMP_GRAD.key i j = 12599824 := by simp only [Fld.key, F.THM_TEMP_GRAD]; omega
@[simp] theorem F.THM_TEMP_GRAD_w : F.THM_TEMP_GRAD.w = 16 := rfl
@[simp] theorem F.THM_TEMP_TMIN_key (i j : Nat) : F.THM_TEMP_TMIN.key i j = 12599808 := by simp only [Fld.key, F.THM_TEMP_TMIN]; omega
@[simp] theorem F.THM_TEMP_TMIN_w : F.THM_TEMP_TMIN.w = 16 := rfl
@[simp] theorem F.FLD_PWR_POWER_key (i j : Nat) : F.FLD_PWR_POWER.key i j = 67190832 + 1048576 * i := by simp only [Fld.key, F.FLD_PWR_POWER]; omega
@[simp] theorem F.FLD_PWR_POWER_w : F.FLD_PWR_POWER.w = 16 := rfl
@[simp] theorem F.FLD_PWR_RAILS_key (i j : Nat) : F.FLD_PWR_RAILS.key i j = 67190816 + 1048576 * i := by simp only [Fld.key, F.FLD_PWR_RAILS]; omega
@[simp] theorem F.FLD_PWR_RAILS_w : F.FLD_PWR_RAILS.w = 3 := rfl
@[simp] theorem F.FLD_PWR_DARKS_key (i j : Nat) : F.FLD_PWR_DARKS.key i j = 67190800 + 1048576 * i := by simp only [Fld.key, F.FLD_PWR_DARKS]; omega
@[simp] theorem F.FLD_PWR_DARKS_w : F.FLD_PWR_DARKS.w = 16 := rfl
@[simp] theorem F.FLD_PWR_DARK_key (i j : Nat) : F.FLD_PWR_DARK.key i j = 67190785 + 1048576 * i := by simp only [Fld.key, F.FLD_PWR_DARK]; omega
@[simp] theorem F.FLD_PWR_DARK_w : F.FLD_PWR_DARK.w = 1 := rfl
@[simp] theorem F.FLD_PWR_OVER_key (i j : Nat) : F.FLD_PWR_OVER.key i j = 67190784 + 1048576 * i := by simp only [Fld.key, F.FLD_PWR_OVER]; omega
@[simp] theorem F.FLD_PWR_OVER_w : F.FLD_PWR_OVER.w = 1 := rfl
@[simp] theorem F.FLD_THM_TMAX_key (i j : Nat) : F.FLD_THM_TMAX.key i j = 67191344 + 1048576 * i := by simp only [Fld.key, F.FLD_THM_TMAX]; omega
@[simp] theorem F.FLD_THM_TMAX_w : F.FLD_THM_TMAX.w = 16 := rfl
@[simp] theorem F.FLD_THM_DIODE_key (i j : Nat) : F.FLD_THM_DIODE.key i j = 67191340 + 1048576 * i := by simp only [Fld.key, F.FLD_THM_DIODE]; omega
@[simp] theorem F.FLD_THM_DIODE_w : F.FLD_THM_DIODE.w = 4 := rfl
@[simp] theorem F.FLT_STATUS_LAST_key (i j : Nat) : F.FLT_STATUS_LAST.key i j = 16777264 := by simp only [Fld.key, F.FLT_STATUS_LAST]; omega
@[simp] theorem F.FLT_STATUS_LAST_w : F.FLT_STATUS_LAST.w = 16 := rfl
@[simp] theorem F.FLT_STATUS_ENTRIES_key (i j : Nat) : F.FLT_STATUS_ENTRIES.key i j = 16777232 := by simp only [Fld.key, F.FLT_STATUS_ENTRIES]; omega
@[simp] theorem F.FLT_STATUS_ENTRIES_w : F.FLT_STATUS_ENTRIES.w = 32 := rfl
@[simp] theorem F.FLT_STATUS_LOST_key (i j : Nat) : F.FLT_STATUS_LOST.key i j = 16777216 := by simp only [Fld.key, F.FLT_STATUS_LOST]; omega
@[simp] theorem F.FLT_STATUS_LOST_w : F.FLT_STATUS_LOST.w = 16 := rfl
@[simp] theorem F.FLT_REPLAN_REASON_key (i j : Nat) : F.FLT_REPLAN_REASON.key i j = 16777784 := by simp only [Fld.key, F.FLT_REPLAN_REASON]; omega
@[simp] theorem F.FLT_REPLAN_REASON_w : F.FLT_REPLAN_REASON.w = 8 := rfl
@[simp] theorem F.FLT_REPLAN_FIELDS_key (i j : Nat) : F.FLT_REPLAN_FIELDS.key i j = 16777728 := by simp only [Fld.key, F.FLT_REPLAN_FIELDS]; omega
@[simp] theorem F.FLT_REPLAN_FIELDS_w : F.FLT_REPLAN_FIELDS.w = 48 := rfl
@[simp] theorem F.FLT_QPTR_CONS_key (i j : Nat) : F.FLT_QPTR_CONS.key i j = 16778272 := by simp only [Fld.key, F.FLT_QPTR_CONS]; omega
@[simp] theorem F.FLT_QPTR_CONS_w : F.FLT_QPTR_CONS.w = 32 := rfl
@[simp] theorem F.FLT_QPTR_PROD_key (i j : Nat) : F.FLT_QPTR_PROD.key i j = 16778240 := by simp only [Fld.key, F.FLT_QPTR_PROD]; omega
@[simp] theorem F.FLT_QPTR_PROD_w : F.FLT_QPTR_PROD.w = 32 := rfl
@[simp] theorem F.FLT_VEC_ENB_key (i j : Nat) : F.FLT_VEC_ENB.key i j = 16778767 := by simp only [Fld.key, F.FLT_VEC_ENB]; omega
@[simp] theorem F.FLT_VEC_ENB_w : F.FLT_VEC_ENB.w = 1 := rfl
@[simp] theorem F.FLT_VEC_VECB_key (i j : Nat) : F.FLT_VEC_VECB.key i j = 16778760 := by simp only [Fld.key, F.FLT_VEC_VECB]; omega
@[simp] theorem F.FLT_VEC_VECB_w : F.FLT_VEC_VECB.w = 6 := rfl
@[simp] theorem F.FLT_VEC_ENA_key (i j : Nat) : F.FLT_VEC_ENA.key i j = 16778759 := by simp only [Fld.key, F.FLT_VEC_ENA]; omega
@[simp] theorem F.FLT_VEC_ENA_w : F.FLT_VEC_ENA.w = 1 := rfl
@[simp] theorem F.FLT_VEC_VECA_key (i j : Nat) : F.FLT_VEC_VECA.key i j = 16778752 := by simp only [Fld.key, F.FLT_VEC_VECA]; omega
@[simp] theorem F.FLT_VEC_VECA_w : F.FLT_VEC_VECA.w = 6 := rfl
@[simp] theorem F.FLT_CMD_STATUS_key (i j : Nat) : F.FLT_CMD_STATUS.key i j = 16779326 := by simp only [Fld.key, F.FLT_CMD_STATUS]; omega
@[simp] theorem F.FLT_CMD_STATUS_w : F.FLT_CMD_STATUS.w = 2 := rfl
@[simp] theorem F.FLT_CMD_FIELD_key (i j : Nat) : F.FLT_CMD_FIELD.key i j = 16779312 := by simp only [Fld.key, F.FLT_CMD_FIELD]; omega
@[simp] theorem F.FLT_CMD_FIELD_w : F.FLT_CMD_FIELD.w = 6 := rfl
@[simp] theorem F.FLT_CMD_PX_key (i j : Nat) : F.FLT_CMD_PX.key i j = 16779301 := by simp only [Fld.key, F.FLT_CMD_PX]; omega
@[simp] theorem F.FLT_CMD_PX_w : F.FLT_CMD_PX.w = 11 := rfl
@[simp] theorem F.FLT_CMD_PY_key (i j : Nat) : F.FLT_CMD_PY.key i j = 16779291 := by simp only [Fld.key, F.FLT_CMD_PY]; omega
@[simp] theorem F.FLT_CMD_PY_w : F.FLT_CMD_PY.w = 10 := rfl
@[simp] theorem F.FLT_CMD_OP_key (i j : Nat) : F.FLT_CMD_OP.key i j = 16779264 := by simp only [Fld.key, F.FLT_CMD_OP]; omega
@[simp] theorem F.FLT_CMD_OP_w : F.FLT_CMD_OP.w = 4 := rfl
@[simp] theorem F.FLT_CPER_SEL_VALID_key (i j : Nat) : F.FLT_CPER_SEL_VALID.key i j = 16779839 := by simp only [Fld.key, F.FLT_CPER_SEL_VALID]; omega
@[simp] theorem F.FLT_CPER_SEL_VALID_w : F.FLT_CPER_SEL_VALID.w = 1 := rfl
@[simp] theorem F.FLT_CPER_SEL_SEQ_key (i j : Nat) : F.FLT_CPER_SEL_SEQ.key i j = 16779776 := by simp only [Fld.key, F.FLT_CPER_SEL_SEQ]; omega
@[simp] theorem F.FLT_CPER_SEL_SEQ_w : F.FLT_CPER_SEL_SEQ.w = 63 := rfl
@[simp] theorem F.FLT_CPER_DATA_key (i j : Nat) : F.FLT_CPER_DATA.key i j = 16842752 + 512 * j := by simp only [Fld.key, F.FLT_CPER_DATA]; omega
@[simp] theorem F.FLT_CPER_DATA_w : F.FLT_CPER_DATA.w = 64 := rfl
@[simp] theorem F.FLT_QUEUE_DATA_key (i j : Nat) : F.FLT_QUEUE_DATA.key i j = 17039360 + 512 * j := by simp only [Fld.key, F.FLT_QUEUE_DATA]; omega
@[simp] theorem F.FLT_QUEUE_DATA_w : F.FLT_QUEUE_DATA.w = 64 := rfl
@[simp] theorem F.FLD_FAULT_VALID_key (i j : Nat) : F.FLD_FAULT_VALID.key i j = 67225663 + 1048576 * i := by simp only [Fld.key, F.FLD_FAULT_VALID]; omega
@[simp] theorem F.FLD_FAULT_VALID_w : F.FLD_FAULT_VALID.w = 1 := rfl
@[simp] theorem F.FLD_FAULT_LXY_key (i j : Nat) : F.FLD_FAULT_LXY.key i j = 67225636 + 1048576 * i := by simp only [Fld.key, F.FLD_FAULT_LXY]; omega
@[simp] theorem F.FLD_FAULT_LXY_w : F.FLD_FAULT_LXY.w = 20 := rfl
@[simp] theorem F.FLD_FAULT_COUNT_key (i j : Nat) : F.FLD_FAULT_COUNT.key i j = 67225616 + 1048576 * i := by simp only [Fld.key, F.FLD_FAULT_COUNT]; omega
@[simp] theorem F.FLD_FAULT_COUNT_w : F.FLD_FAULT_COUNT.w = 16 := rfl
@[simp] theorem F.FLD_FAULT_CODE_key (i j : Nat) : F.FLD_FAULT_CODE.key i j = 67225600 + 1048576 * i := by simp only [Fld.key, F.FLD_FAULT_CODE]; omega
@[simp] theorem F.FLD_FAULT_CODE_w : F.FLD_FAULT_CODE.w = 16 := rfl
@[simp] theorem F.FLD_BLY_ROWS2_key (i j : Nat) : F.FLD_BLY_ROWS2.key i j = 67223608 + 1048576 * i := by simp only [Fld.key, F.FLD_BLY_ROWS2]; omega
@[simp] theorem F.FLD_BLY_ROWS2_w : F.FLD_BLY_ROWS2.w = 8 := rfl
@[simp] theorem F.FLD_BLY_ROWS1_key (i j : Nat) : F.FLD_BLY_ROWS1.key i j = 67223600 + 1048576 * i := by simp only [Fld.key, F.FLD_BLY_ROWS1]; omega
@[simp] theorem F.FLD_BLY_ROWS1_w : F.FLD_BLY_ROWS1.w = 8 := rfl
@[simp] theorem F.FLD_BLY_ROWS0_key (i j : Nat) : F.FLD_BLY_ROWS0.key i j = 67223592 + 1048576 * i := by simp only [Fld.key, F.FLD_BLY_ROWS0]; omega
@[simp] theorem F.FLD_BLY_ROWS0_w : F.FLD_BLY_ROWS0.w = 8 := rfl
@[simp] theorem F.FLD_BLY_INTERVAL_key (i j : Nat) : F.FLD_BLY_INTERVAL.key i j = 67223552 + 1048576 * i := by simp only [Fld.key, F.FLD_BLY_INTERVAL]; omega
@[simp] theorem F.FLD_BLY_INTERVAL_w : F.FLD_BLY_INTERVAL.w = 32 := rfl
@[simp] theorem F.FLD_BLY_CNT_MISMATCH_key (i j : Nat) : F.FLD_BLY_CNT_MISMATCH.key i j = 67224120 + 1048576 * i := by simp only [Fld.key, F.FLD_BLY_CNT_MISMATCH]; omega
@[simp] theorem F.FLD_BLY_CNT_MISMATCH_w : F.FLD_BLY_CNT_MISMATCH.w = 8 := rfl
@[simp] theorem F.FLD_BLY_CNT_CHECKER_key (i j : Nat) : F.FLD_BLY_CNT_CHECKER.key i j = 67224112 + 1048576 * i := by simp only [Fld.key, F.FLD_BLY_CNT_CHECKER]; omega
@[simp] theorem F.FLD_BLY_CNT_CHECKER_w : F.FLD_BLY_CNT_CHECKER.w = 8 := rfl
@[simp] theorem F.FLD_BLY_CNT_IDLE_key (i j : Nat) : F.FLD_BLY_CNT_IDLE.key i j = 67224096 + 1048576 * i := by simp only [Fld.key, F.FLD_BLY_CNT_IDLE]; omega
@[simp] theorem F.FLD_BLY_CNT_IDLE_w : F.FLD_BLY_CNT_IDLE.w = 16 := rfl
@[simp] theorem F.FLD_BLY_CNT_COMPARED_key (i j : Nat) : F.FLD_BLY_CNT_COMPARED.key i j = 67224064 + 1048576 * i := by simp only [Fld.key, F.FLD_BLY_CNT_COMPARED]; omega
@[simp] theorem F.FLD_BLY_CNT_COMPARED_w : F.FLD_BLY_CNT_COMPARED.w = 32 := rfl
@[simp] theorem F.FLD_CREV_ROWS_key (i j : Nat) : F.FLD_CREV_ROWS.key i j = 67224608 + 1048576 * i := by simp only [Fld.key, F.FLD_CREV_ROWS]; omega
@[simp] theorem F.FLD_CREV_ROWS_w : F.FLD_CREV_ROWS.w = 32 := rfl
@[simp] theorem F.FLD_CREV_COLS_key (i j : Nat) : F.FLD_CREV_COLS.key i j = 67224576 + 1048576 * i := by simp only [Fld.key, F.FLD_CREV_COLS]; omega
@[simp] theorem F.FLD_CREV_COLS_w : F.FLD_CREV_COLS.w = 32 := rfl
@[simp] theorem F.HX_HIST_BIN_ODD_key (i j : Nat) : F.HX_HIST_BIN_ODD.key i j = 50364448 + 1048576 * i + 512 * j := by simp only [Fld.key, F.HX_HIST_BIN_ODD]; omega
@[simp] theorem F.HX_HIST_BIN_ODD_w : F.HX_HIST_BIN_ODD.w = 32 := rfl
@[simp] theorem F.HX_HIST_BIN_EVEN_key (i j : Nat) : F.HX_HIST_BIN_EVEN.key i j = 50364416 + 1048576 * i + 512 * j := by simp only [Fld.key, F.HX_HIST_BIN_EVEN]; omega
@[simp] theorem F.HX_HIST_BIN_EVEN_w : F.HX_HIST_BIN_EVEN.w = 32 := rfl
@[simp] theorem F.FLD_TEL_CFG_STATUS_key (i j : Nat) : F.FLD_TEL_CFG_STATUS.key i j = 67239998 + 1048576 * i := by simp only [Fld.key, F.FLD_TEL_CFG_STATUS]; omega
@[simp] theorem F.FLD_TEL_CFG_STATUS_w : F.FLD_TEL_CFG_STATUS.w = 2 := rfl
@[simp] theorem F.FLD_TEL_CFG_SAMPLES_key (i j : Nat) : F.FLD_TEL_CFG_SAMPLES.key i j = 67239952 + 1048576 * i := by simp only [Fld.key, F.FLD_TEL_CFG_SAMPLES]; omega
@[simp] theorem F.FLD_TEL_CFG_SAMPLES_w : F.FLD_TEL_CFG_SAMPLES.w = 32 := rfl
@[simp] theorem F.FLD_TEL_CFG_K_key (i j : Nat) : F.FLD_TEL_CFG_K.key i j = 67239944 + 1048576 * i := by simp only [Fld.key, F.FLD_TEL_CFG_K]; omega
@[simp] theorem F.FLD_TEL_CFG_K_w : F.FLD_TEL_CFG_K.w = 5 := rfl
@[simp] theorem F.FLD_TEL_CFG_FREEZE_key (i j : Nat) : F.FLD_TEL_CFG_FREEZE.key i j = 67239941 + 1048576 * i := by simp only [Fld.key, F.FLD_TEL_CFG_FREEZE]; omega
@[simp] theorem F.FLD_TEL_CFG_FREEZE_w : F.FLD_TEL_CFG_FREEZE.w = 1 := rfl
@[simp] theorem F.FLD_TEL_CFG_EN_key (i j : Nat) : F.FLD_TEL_CFG_EN.key i j = 67239940 + 1048576 * i := by simp only [Fld.key, F.FLD_TEL_CFG_EN]; omega
@[simp] theorem F.FLD_TEL_CFG_EN_w : F.FLD_TEL_CFG_EN.w = 1 := rfl
@[simp] theorem F.FLD_TEL_CFG_OP_key (i j : Nat) : F.FLD_TEL_CFG_OP.key i j = 67239936 + 1048576 * i := by simp only [Fld.key, F.FLD_TEL_CFG_OP]; omega
@[simp] theorem F.FLD_TEL_CFG_OP_w : F.FLD_TEL_CFG_OP.w = 4 := rfl
@[simp] theorem F.FLD_TEL_ACYC_ACYC_key (i j : Nat) : F.FLD_TEL_ACYC_ACYC.key i j = 67240448 + 1048576 * i := by simp only [Fld.key, F.FLD_TEL_ACYC_ACYC]; omega
@[simp] theorem F.FLD_TEL_ACYC_ACYC_w : F.FLD_TEL_ACYC_ACYC.w = 64 := rfl
@[simp] theorem F.FLD_TEL_LIVE_ACYC_key (i j : Nat) : F.FLD_TEL_LIVE_ACYC.key i j = 67240960 + 1048576 * i := by simp only [Fld.key, F.FLD_TEL_LIVE_ACYC]; omega
@[simp] theorem F.FLD_TEL_LIVE_ACYC_w : F.FLD_TEL_LIVE_ACYC.w = 64 := rfl
@[simp] theorem F.FLD_TEL_ENERGY_MJ_key (i j : Nat) : F.FLD_TEL_ENERGY_MJ.key i j = 67241472 + 1048576 * i := by simp only [Fld.key, F.FLD_TEL_ENERGY_MJ]; omega
@[simp] theorem F.FLD_TEL_ENERGY_MJ_w : F.FLD_TEL_ENERGY_MJ.w = 64 := rfl
@[simp] theorem F.FLD_TEL_I_VCOMP_key (i j : Nat) : F.FLD_TEL_I_VCOMP.key i j = 67242016 + 1048576 * i := by simp only [Fld.key, F.FLD_TEL_I_VCOMP]; omega
@[simp] theorem F.FLD_TEL_I_VCOMP_w : F.FLD_TEL_I_VCOMP.w = 16 := rfl
@[simp] theorem F.FLD_TEL_I_VFAB_key (i j : Nat) : F.FLD_TEL_I_VFAB.key i j = 67242000 + 1048576 * i := by simp only [Fld.key, F.FLD_TEL_I_VFAB]; omega
@[simp] theorem F.FLD_TEL_I_VFAB_w : F.FLD_TEL_I_VFAB.w = 16 := rfl
@[simp] theorem F.FLD_TEL_I_VDRAM_key (i j : Nat) : F.FLD_TEL_I_VDRAM.key i j = 67241984 + 1048576 * i := by simp only [Fld.key, F.FLD_TEL_I_VDRAM]; omega
@[simp] theorem F.FLD_TEL_I_VDRAM_w : F.FLD_TEL_I_VDRAM.w = 16 := rfl
@[simp] theorem F.FLD_TEL_DIODE_TEMP_key (i j : Nat) : F.FLD_TEL_DIODE_TEMP.key i j = 67242496 + 1048576 * i + 512 * j := by simp only [Fld.key, F.FLD_TEL_DIODE_TEMP]; omega
@[simp] theorem F.FLD_TEL_DIODE_TEMP_w : F.FLD_TEL_DIODE_TEMP.w = 64 := rfl
@[simp] theorem F.TEL_HIST_SEL_RAIL_key (i j : Nat) : F.TEL_HIST_SEL_RAIL.key i j = 20971526 := by simp only [Fld.key, F.TEL_HIST_SEL_RAIL]; omega
@[simp] theorem F.TEL_HIST_SEL_RAIL_w : F.TEL_HIST_SEL_RAIL.w = 2 := rfl
@[simp] theorem F.TEL_HIST_SEL_FIELD_key (i j : Nat) : F.TEL_HIST_SEL_FIELD.key i j = 20971520 := by simp only [Fld.key, F.TEL_HIST_SEL_FIELD]; omega
@[simp] theorem F.TEL_HIST_SEL_FIELD_w : F.TEL_HIST_SEL_FIELD.w = 6 := rfl
@[simp] theorem F.TEL_HIST_I_key (i j : Nat) : F.TEL_HIST_I.key i j = 20972032 + 512 * j := by simp only [Fld.key, F.TEL_HIST_I]; omega
@[simp] theorem F.TEL_HIST_I_w : F.TEL_HIST_I.w = 64 := rfl
@[simp] theorem F.TEL_TIME_REF_key (i j : Nat) : F.TEL_TIME_REF.key i j = 20987904 := by simp only [Fld.key, F.TEL_TIME_REF]; omega
@[simp] theorem F.TEL_TIME_REF_w : F.TEL_TIME_REF.w = 64 := rfl
@[simp] theorem F.TEL_PPS_REF_key (i j : Nat) : F.TEL_PPS_REF.key i j = 20988416 := by simp only [Fld.key, F.TEL_PPS_REF]; omega
@[simp] theorem F.TEL_PPS_REF_w : F.TEL_PPS_REF.w = 64 := rfl
@[simp] theorem F.TEL_TOD_SEC_key (i j : Nat) : F.TEL_TOD_SEC.key i j = 20988930 := by simp only [Fld.key, F.TEL_TOD_SEC]; omega
@[simp] theorem F.TEL_TOD_SEC_w : F.TEL_TOD_SEC.w = 62 := rfl
@[simp] theorem F.TEL_TOD_ANCHOR_key (i j : Nat) : F.TEL_TOD_ANCHOR.key i j = 20988929 := by simp only [Fld.key, F.TEL_TOD_ANCHOR]; omega
@[simp] theorem F.TEL_TOD_ANCHOR_w : F.TEL_TOD_ANCHOR.w = 1 := rfl
@[simp] theorem F.TEL_TOD_VALID_key (i j : Nat) : F.TEL_TOD_VALID.key i j = 20988928 := by simp only [Fld.key, F.TEL_TOD_VALID]; omega
@[simp] theorem F.TEL_TOD_VALID_w : F.TEL_TOD_VALID.w = 1 := rfl
@[simp] theorem F.TEL_CFG_K_key (i j : Nat) : F.TEL_CFG_K.key i j = 20989448 := by simp only [Fld.key, F.TEL_CFG_K]; omega
@[simp] theorem F.TEL_CFG_K_w : F.TEL_CFG_K.w = 5 := rfl
@[simp] theorem F.TEL_CFG_EN_key (i j : Nat) : F.TEL_CFG_EN.key i j = 20989440 := by simp only [Fld.key, F.TEL_CFG_EN]; omega
@[simp] theorem F.TEL_CFG_EN_w : F.TEL_CFG_EN.w = 1 := rfl
@[simp] theorem F.SVY_SEL_EN_key (i j : Nat) : F.SVY_SEL_EN.key i j = 184549439 + 512 * j := by simp only [Fld.key, F.SVY_SEL_EN]; omega
@[simp] theorem F.SVY_SEL_EN_w : F.SVY_SEL_EN.w = 1 := rfl
@[simp] theorem F.SVY_SEL_TARGET_key (i j : Nat) : F.SVY_SEL_TARGET.key i j = 184549376 + 512 * j := by simp only [Fld.key, F.SVY_SEL_TARGET]; omega
@[simp] theorem F.SVY_SEL_TARGET_w : F.SVY_SEL_TARGET.w = 20 := rfl
@[simp] theorem F.SVY_STAT_LAST_key (i j : Nat) : F.SVY_STAT_LAST.key i j = 184565820 + 512 * j := by simp only [Fld.key, F.SVY_STAT_LAST]; omega
@[simp] theorem F.SVY_STAT_LAST_w : F.SVY_STAT_LAST.w = 4 := rfl
@[simp] theorem F.SVY_STAT_DENIED_key (i j : Nat) : F.SVY_STAT_DENIED.key i j = 184565792 + 512 * j := by simp only [Fld.key, F.SVY_STAT_DENIED]; omega
@[simp] theorem F.SVY_STAT_DENIED_w : F.SVY_STAT_DENIED.w = 16 := rfl
@[simp] theorem F.SVY_STAT_ERR_key (i j : Nat) : F.SVY_STAT_ERR.key i j = 184565776 + 512 * j := by simp only [Fld.key, F.SVY_STAT_ERR]; omega
@[simp] theorem F.SVY_STAT_ERR_w : F.SVY_STAT_ERR.w = 16 := rfl
@[simp] theorem F.SVY_STAT_OPS_key (i j : Nat) : F.SVY_STAT_OPS.key i j = 184565760 + 512 * j := by simp only [Fld.key, F.SVY_STAT_OPS]; omega
@[simp] theorem F.SVY_STAT_OPS_w : F.SVY_STAT_OPS.w = 16 := rfl
@[simp] theorem F.FLD_TRACE_SECTION_key (i j : Nat) : F.FLD_TRACE_SECTION.key i j = 67248176 + 1048576 * i + 512 * j := by simp only [Fld.key, F.FLD_TRACE_SECTION]; omega
@[simp] theorem F.FLD_TRACE_SECTION_w : F.FLD_TRACE_SECTION.w = 16 := rfl
@[simp] theorem F.FLD_TRACE_COLOUR_key (i j : Nat) : F.FLD_TRACE_COLOUR.key i j = 67248172 + 1048576 * i + 512 * j := by simp only [Fld.key, F.FLD_TRACE_COLOUR]; omega
@[simp] theorem F.FLD_TRACE_COLOUR_w : F.FLD_TRACE_COLOUR.w = 4 := rfl
@[simp] theorem F.FLD_TRACE_INV_key (i j : Nat) : F.FLD_TRACE_INV.key i j = 67248161 + 1048576 * i + 512 * j := by simp only [Fld.key, F.FLD_TRACE_INV]; omega
@[simp] theorem F.FLD_TRACE_INV_w : F.FLD_TRACE_INV.w = 11 := rfl
@[simp] theorem F.FLD_TRACE_FAULTED_key (i j : Nat) : F.FLD_TRACE_FAULTED.key i j = 67248160 + 1048576 * i + 512 * j := by simp only [Fld.key, F.FLD_TRACE_FAULTED]; omega
@[simp] theorem F.FLD_TRACE_FAULTED_w : F.FLD_TRACE_FAULTED.w = 1 := rfl
@[simp] theorem F.FLD_TRACE_ACYC_key (i j : Nat) : F.FLD_TRACE_ACYC.key i j = 67248128 + 1048576 * i + 512 * j := by simp only [Fld.key, F.FLD_TRACE_ACYC]; omega
@[simp] theorem F.FLD_TRACE_ACYC_w : F.FLD_TRACE_ACYC.w = 32 := rfl
@[simp] theorem F.TILE_ID_FIELD_key (i j : Nat) : F.TILE_ID_FIELD.key i j = 4194358 := by simp only [Fld.key, F.TILE_ID_FIELD]; omega
@[simp] theorem F.TILE_ID_FIELD_w : F.TILE_ID_FIELD.w = 6 := rfl
@[simp] theorem F.TILE_ID_PY_key (i j : Nat) : F.TILE_ID_PY.key i j = 4194347 := by simp only [Fld.key, F.TILE_ID_PY]; omega
@[simp] theorem F.TILE_ID_PY_w : F.TILE_ID_PY.w = 11 := rfl
@[simp] theorem F.TILE_ID_PX_key (i j : Nat) : F.TILE_ID_PX.key i j = 4194336 := by simp only [Fld.key, F.TILE_ID_PX]; omega
@[simp] theorem F.TILE_ID_PX_w : F.TILE_ID_PX.w = 11 := rfl
@[simp] theorem F.TILE_ID_SPARE_key (i j : Nat) : F.TILE_ID_SPARE.key i j = 4194324 := by simp only [Fld.key, F.TILE_ID_SPARE]; omega
@[simp] theorem F.TILE_ID_SPARE_w : F.TILE_ID_SPARE.w = 1 := rfl
@[simp] theorem F.TILE_ID_LXY_key (i j : Nat) : F.TILE_ID_LXY.key i j = 4194304 := by simp only [Fld.key, F.TILE_ID_LXY]; omega
@[simp] theorem F.TILE_ID_LXY_w : F.TILE_ID_LXY.w = 20 := rfl
@[simp] theorem F.SCH_STATE_STBY_VALID_key (i j : Nat) : F.SCH_STATE_STBY_VALID.key i j = 4195359 := by simp only [Fld.key, F.SCH_STATE_STBY_VALID]; omega
@[simp] theorem F.SCH_STATE_STBY_VALID_w : F.SCH_STATE_STBY_VALID.w = 1 := rfl
@[simp] theorem F.SCH_STATE_STBY_COUNT_key (i j : Nat) : F.SCH_STATE_STBY_COUNT.key i j = 4195349 := by simp only [Fld.key, F.SCH_STATE_STBY_COUNT]; omega
@[simp] theorem F.SCH_STATE_STBY_COUNT_w : F.SCH_STATE_STBY_COUNT.w = 10 := rfl
@[simp] theorem F.SCH_STATE_ACT_VALID_key (i j : Nat) : F.SCH_STATE_ACT_VALID.key i j = 4195348 := by simp only [Fld.key, F.SCH_STATE_ACT_VALID]; omega
@[simp] theorem F.SCH_STATE_ACT_VALID_w : F.SCH_STATE_ACT_VALID.w = 1 := rfl
@[simp] theorem F.SCH_STATE_COLOUR_key (i j : Nat) : F.SCH_STATE_COLOUR.key i j = 4195344 := by simp only [Fld.key, F.SCH_STATE_COLOUR]; omega
@[simp] theorem F.SCH_STATE_COLOUR_w : F.SCH_STATE_COLOUR.w = 4 := rfl
@[simp] theorem F.SCH_STATE_CMDARM_key (i j : Nat) : F.SCH_STATE_CMDARM.key i j = 4195341 := by simp only [Fld.key, F.SCH_STATE_CMDARM]; omega
@[simp] theorem F.SCH_STATE_CMDARM_w : F.SCH_STATE_CMDARM.w = 1 := rfl
@[simp] theorem F.SCH_STATE_STATE_key (i j : Nat) : F.SCH_STATE_STATE.key i j = 4195338 := by simp only [Fld.key, F.SCH_STATE_STATE]; omega
@[simp] theorem F.SCH_STATE_STATE_w : F.SCH_STATE_STATE.w = 3 := rfl
@[simp] theorem F.SCH_STATE_ACT_key (i j : Nat) : F.SCH_STATE_ACT.key i j = 4195337 := by simp only [Fld.key, F.SCH_STATE_ACT]; omega
@[simp] theorem F.SCH_STATE_ACT_w : F.SCH_STATE_ACT.w = 1 := rfl
@[simp] theorem F.SCH_STATE_PC_key (i j : Nat) : F.SCH_STATE_PC.key i j = 4195328 := by simp only [Fld.key, F.SCH_STATE_PC]; omega
@[simp] theorem F.SCH_STATE_PC_w : F.SCH_STATE_PC.w = 9 := rfl
@[simp] theorem F.SCH_CMD_STATUS_key (i j : Nat) : F.SCH_CMD_STATUS.key i j = 4195902 := by simp only [Fld.key, F.SCH_CMD_STATUS]; omega
@[simp] theorem F.SCH_CMD_STATUS_w : F.SCH_CMD_STATUS.w = 2 := rfl
@[simp] theorem F.SCH_CMD_OP_key (i j : Nat) : F.SCH_CMD_OP.key i j = 4195840 := by simp only [Fld.key, F.SCH_CMD_OP]; omega
@[simp] theorem F.SCH_CMD_OP_w : F.SCH_CMD_OP.w = 4 := rfl
@[simp] theorem F.SCH_LOOP_LOOP3_key (i j : Nat) : F.SCH_LOOP_LOOP3.key i j = 4196400 := by simp only [Fld.key, F.SCH_LOOP_LOOP3]; omega
@[simp] theorem F.SCH_LOOP_LOOP3_w : F.SCH_LOOP_LOOP3.w = 16 := rfl
@[simp] theorem F.SCH_LOOP_LOOP2_key (i j : Nat) : F.SCH_LOOP_LOOP2.key i j = 4196384 := by simp only [Fld.key, F.SCH_LOOP_LOOP2]; omega
@[simp] theorem F.SCH_LOOP_LOOP2_w : F.SCH_LOOP_LOOP2.w = 16 := rfl
@[simp] theorem F.SCH_LOOP_LOOP1_key (i j : Nat) : F.SCH_LOOP_LOOP1.key i j = 4196368 := by simp only [Fld.key, F.SCH_LOOP_LOOP1]; omega
@[simp] theorem F.SCH_LOOP_LOOP1_w : F.SCH_LOOP_LOOP1.w = 16 := rfl
@[simp] theorem F.SCH_LOOP_LOOP0_key (i j : Nat) : F.SCH_LOOP_LOOP0.key i j = 4196352 := by simp only [Fld.key, F.SCH_LOOP_LOOP0]; omega
@[simp] theorem F.SCH_LOOP_LOOP0_w : F.SCH_LOOP_LOOP0.w = 16 := rfl
@[simp] theorem F.TILE_FAULT_VALID_key (i j : Nat) : F.TILE_FAULT_VALID.key i j = 4197439 := by simp only [Fld.key, F.TILE_FAULT_VALID]; omega
@[simp] theorem F.TILE_FAULT_VALID_w : F.TILE_FAULT_VALID.w = 1 := rfl
@[simp] theorem F.TILE_FAULT_MULTI_key (i j : Nat) : F.TILE_FAULT_MULTI.key i j = 4197424 := by simp only [Fld.key, F.TILE_FAULT_MULTI]; omega
@[simp] theorem F.TILE_FAULT_MULTI_w : F.TILE_FAULT_MULTI.w = 1 := rfl
@[simp] theorem F.TILE_FAULT_ACYC_key (i j : Nat) : F.TILE_FAULT_ACYC.key i j = 4197392 := by simp only [Fld.key, F.TILE_FAULT_ACYC]; omega
@[simp] theorem F.TILE_FAULT_ACYC_w : F.TILE_FAULT_ACYC.w = 32 := rfl
@[simp] theorem F.TILE_FAULT_CODE_key (i j : Nat) : F.TILE_FAULT_CODE.key i j = 4197376 := by simp only [Fld.key, F.TILE_FAULT_CODE]; omega
@[simp] theorem F.TILE_FAULT_CODE_w : F.TILE_FAULT_CODE.w = 16 := rfl
@[simp] theorem F.SCR_ECC_UE_ADDR_key (i j : Nat) : F.SCR_ECC_UE_ADDR.key i j = 4199457 := by simp only [Fld.key, F.SCR_ECC_UE_ADDR]; omega
@[simp] theorem F.SCR_ECC_UE_ADDR_w : F.SCR_ECC_UE_ADDR.w = 16 := rfl
@[simp] theorem F.SCR_ECC_UE_key (i j : Nat) : F.SCR_ECC_UE.key i j = 4199456 := by simp only [Fld.key, F.SCR_ECC_UE]; omega
@[simp] theorem F.SCR_ECC_UE_w : F.SCR_ECC_UE.w = 1 := rfl
@[simp] theorem F.SCR_ECC_CE_COUNT_key (i j : Nat) : F.SCR_ECC_CE_COUNT.key i j = 4199424 := by simp only [Fld.key, F.SCR_ECC_CE_COUNT]; omega
@[simp] theorem F.SCR_ECC_CE_COUNT_w : F.SCR_ECC_CE_COUNT.w = 32 := rfl
@[simp] theorem F.SCR_CMD_STATUS_key (i j : Nat) : F.SCR_CMD_STATUS.key i j = 4199998 := by simp only [Fld.key, F.SCR_CMD_STATUS]; omega
@[simp] theorem F.SCR_CMD_STATUS_w : F.SCR_CMD_STATUS.w = 2 := rfl
@[simp] theorem F.SCR_CMD_OP_key (i j : Nat) : F.SCR_CMD_OP.key i j = 4199936 := by simp only [Fld.key, F.SCR_CMD_OP]; omega
@[simp] theorem F.SCR_CMD_OP_w : F.SCR_CMD_OP.w = 4 := rfl
@[simp] theorem F.CC_STATE_MCAUSE_key (i j : Nat) : F.CC_STATE_MCAUSE.key i j = 4202528 := by simp only [Fld.key, F.CC_STATE_MCAUSE]; omega
@[simp] theorem F.CC_STATE_MCAUSE_w : F.CC_STATE_MCAUSE.w = 4 := rfl
@[simp] theorem F.CC_STATE_TAG_key (i j : Nat) : F.CC_STATE_TAG.key i j = 4202512 := by simp only [Fld.key, F.CC_STATE_TAG]; omega
@[simp] theorem F.CC_STATE_TAG_w : F.CC_STATE_TAG.w = 10 := rfl
@[simp] theorem F.CC_STATE_STATE_key (i j : Nat) : F.CC_STATE_STATE.key i j = 4202509 := by simp only [Fld.key, F.CC_STATE_STATE]; omega
@[simp] theorem F.CC_STATE_STATE_w : F.CC_STATE_STATE.w = 3 := rfl
@[simp] theorem F.CC_STATE_PC_key (i j : Nat) : F.CC_STATE_PC.key i j = 4202496 := by simp only [Fld.key, F.CC_STATE_PC]; omega
@[simp] theorem F.CC_STATE_PC_w : F.CC_STATE_PC.w = 13 := rfl
@[simp] theorem F.CC_CMD_STATUS_key (i j : Nat) : F.CC_CMD_STATUS.key i j = 4203070 := by simp only [Fld.key, F.CC_CMD_STATUS]; omega
@[simp] theorem F.CC_CMD_STATUS_w : F.CC_CMD_STATUS.w = 2 := rfl
@[simp] theorem F.CC_CMD_OP_key (i j : Nat) : F.CC_CMD_OP.key i j = 4203008 := by simp only [Fld.key, F.CC_CMD_OP]; omega
@[simp] theorem F.CC_CMD_OP_w : F.CC_CMD_OP.w = 4 := rfl
@[simp] theorem F.CC_WDOG_LIMIT_key (i j : Nat) : F.CC_WDOG_LIMIT.key i j = 4203520 := by simp only [Fld.key, F.CC_WDOG_LIMIT]; omega
@[simp] theorem F.CC_WDOG_LIMIT_w : F.CC_WDOG_LIMIT.w = 32 := rfl
@[simp] theorem F.CC_CP_MBOX_READY_key (i j : Nat) : F.CC_CP_MBOX_READY.key i j = 4204095 := by simp only [Fld.key, F.CC_CP_MBOX_READY]; omega
@[simp] theorem F.CC_CP_MBOX_READY_w : F.CC_CP_MBOX_READY.w = 1 := rfl
@[simp] theorem F.CC_CP_MBOX_CP_ID_key (i j : Nat) : F.CC_CP_MBOX_CP_ID.key i j = 4204064 := by simp only [Fld.key, F.CC_CP_MBOX_CP_ID]; omega
@[simp] theorem F.CC_CP_MBOX_CP_ID_w : F.CC_CP_MBOX_CP_ID.w = 8 := rfl
@[simp] theorem F.CC_CP_MBOX_VALUE_key (i j : Nat) : F.CC_CP_MBOX_VALUE.key i j = 4204032 := by simp only [Fld.key, F.CC_CP_MBOX_VALUE]; omega
@[simp] theorem F.CC_CP_MBOX_VALUE_w : F.CC_CP_MBOX_VALUE.w = 32 := rfl
@[simp] theorem F.RTR_STATUS_PRESENT_key (i j : Nat) : F.RTR_STATUS_PRESENT.key i j = 4206640 := by simp only [Fld.key, F.RTR_STATUS_PRESENT]; omega
@[simp] theorem F.RTR_STATUS_PRESENT_w : F.RTR_STATUS_PRESENT.w = 8 := rfl
@[simp] theorem F.RTR_STATUS_HOLD_key (i j : Nat) : F.RTR_STATUS_HOLD.key i j = 4206632 := by simp only [Fld.key, F.RTR_STATUS_HOLD]; omega
@[simp] theorem F.RTR_STATUS_HOLD_w : F.RTR_STATUS_HOLD.w = 8 := rfl
@[simp] theorem F.RTR_STATUS_OCC_key (i j : Nat) : F.RTR_STATUS_OCC.key i j = 4206592 := by simp only [Fld.key, F.RTR_STATUS_OCC]; omega
@[simp] theorem F.RTR_STATUS_OCC_w : F.RTR_STATUS_OCC.w = 40 := rfl
@[simp] theorem F.RTR_ECC_UE_PORT_key (i j : Nat) : F.RTR_ECC_UE_PORT.key i j = 4207137 := by simp only [Fld.key, F.RTR_ECC_UE_PORT]; omega
@[simp] theorem F.RTR_ECC_UE_PORT_w : F.RTR_ECC_UE_PORT.w = 3 := rfl
@[simp] theorem F.RTR_ECC_UE_key (i j : Nat) : F.RTR_ECC_UE.key i j = 4207136 := by simp only [Fld.key, F.RTR_ECC_UE]; omega
@[simp] theorem F.RTR_ECC_UE_w : F.RTR_ECC_UE.w = 1 := rfl
@[simp] theorem F.RTR_ECC_CE_COUNT_key (i j : Nat) : F.RTR_ECC_CE_COUNT.key i j = 4207104 := by simp only [Fld.key, F.RTR_ECC_CE_COUNT]; omega
@[simp] theorem F.RTR_ECC_CE_COUNT_w : F.RTR_ECC_CE_COUNT.w = 32 := rfl
@[simp] theorem F.BLY_TAP_PEER_key (i j : Nat) : F.BLY_TAP_PEER.key i j = 4210690 := by simp only [Fld.key, F.BLY_TAP_PEER]; omega
@[simp] theorem F.BLY_TAP_PEER_w : F.BLY_TAP_PEER.w = 20 := rfl
@[simp] theorem F.BLY_TAP_ROLE_key (i j : Nat) : F.BLY_TAP_ROLE.key i j = 4210688 := by simp only [Fld.key, F.BLY_TAP_ROLE]; omega
@[simp] theorem F.BLY_TAP_ROLE_w : F.BLY_TAP_ROLE.w = 2 := rfl
@[simp] theorem F.TILE_CNT_COUNT_key (i j : Nat) : F.TILE_CNT_COUNT.key i j = 4227072 + 512 * j := by simp only [Fld.key, F.TILE_CNT_COUNT]; omega
@[simp] theorem F.TILE_CNT_COUNT_w : F.TILE_CNT_COUNT.w = 64 := rfl
@[simp] theorem F.VU_FLAGS_SEC_FIRST_ACYC_key (i j : Nat) : F.VU_FLAGS_SEC_FIRST_ACYC.key i j = 4198432 := by simp only [Fld.key, F.VU_FLAGS_SEC_FIRST_ACYC]; omega
@[simp] theorem F.VU_FLAGS_SEC_FIRST_ACYC_w : F.VU_FLAGS_SEC_FIRST_ACYC.w = 32 := rfl
@[simp] theorem F.VU_FLAGS_SEC_T2RSV_key (i j : Nat) : F.VU_FLAGS_SEC_T2RSV.key i j = 4198417 := by simp only [Fld.key, F.VU_FLAGS_SEC_T2RSV]; omega
@[simp] theorem F.VU_FLAGS_SEC_T2RSV_w : F.VU_FLAGS_SEC_T2RSV.w = 1 := rfl
@[simp] theorem F.VU_FLAGS_SEC_SCLNAN_key (i j : Nat) : F.VU_FLAGS_SEC_SCLNAN.key i j = 4198416 := by simp only [Fld.key, F.VU_FLAGS_SEC_SCLNAN]; omega
@[simp] theorem F.VU_FLAGS_SEC_SCLNAN_w : F.VU_FLAGS_SEC_SCLNAN.w = 1 := rfl
@[simp] theorem F.VU_FLAGS_SEC_MXU_key (i j : Nat) : F.VU_FLAGS_SEC_MXU.key i j = 4198408 := by simp only [Fld.key, F.VU_FLAGS_SEC_MXU]; omega
@[simp] theorem F.VU_FLAGS_SEC_MXU_w : F.VU_FLAGS_SEC_MXU.w = 6 := rfl
@[simp] theorem F.VU_FLAGS_SEC_VU_key (i j : Nat) : F.VU_FLAGS_SEC_VU.key i j = 4198400 := by simp only [Fld.key, F.VU_FLAGS_SEC_VU]; omega
@[simp] theorem F.VU_FLAGS_SEC_VU_w : F.VU_FLAGS_SEC_VU.w = 6 := rfl
@[simp] theorem F.VU_FLAGS_TILE_SEC_COUNT_key (i j : Nat) : F.VU_FLAGS_TILE_SEC_COUNT.key i j = 4198944 := by simp only [Fld.key, F.VU_FLAGS_TILE_SEC_COUNT]; omega
@[simp] theorem F.VU_FLAGS_TILE_SEC_COUNT_w : F.VU_FLAGS_TILE_SEC_COUNT.w = 16 := rfl
@[simp] theorem F.VU_FLAGS_TILE_T2RSV_key (i j : Nat) : F.VU_FLAGS_TILE_T2RSV.key i j = 4198929 := by simp only [Fld.key, F.VU_FLAGS_TILE_T2RSV]; omega
@[simp] theorem F.VU_FLAGS_TILE_T2RSV_w : F.VU_FLAGS_TILE_T2RSV.w = 1 := rfl
@[simp] theorem F.VU_FLAGS_TILE_SCLNAN_key (i j : Nat) : F.VU_FLAGS_TILE_SCLNAN.key i j = 4198928 := by simp only [Fld.key, F.VU_FLAGS_TILE_SCLNAN]; omega
@[simp] theorem F.VU_FLAGS_TILE_SCLNAN_w : F.VU_FLAGS_TILE_SCLNAN.w = 1 := rfl
@[simp] theorem F.VU_FLAGS_TILE_MXU_key (i j : Nat) : F.VU_FLAGS_TILE_MXU.key i j = 4198920 := by simp only [Fld.key, F.VU_FLAGS_TILE_MXU]; omega
@[simp] theorem F.VU_FLAGS_TILE_MXU_w : F.VU_FLAGS_TILE_MXU.w = 6 := rfl
@[simp] theorem F.VU_FLAGS_TILE_VU_key (i j : Nat) : F.VU_FLAGS_TILE_VU.key i j = 4198912 := by simp only [Fld.key, F.VU_FLAGS_TILE_VU]; omega
@[simp] theorem F.VU_FLAGS_TILE_VU_w : F.VU_FLAGS_TILE_VU.w = 6 := rfl
@[simp] theorem F.SCH_PV_VALUE_key (i j : Nat) : F.SCH_PV_VALUE.key i j = 4196864 := by simp only [Fld.key, F.SCH_PV_VALUE]; omega
@[simp] theorem F.SCH_PV_VALUE_w : F.SCH_PV_VALUE.w = 32 := rfl
@[simp] theorem F.SCH_LOOP_START_DEPTH_key (i j : Nat) : F.SCH_LOOP_START_DEPTH.key i j = 4200484 := by simp only [Fld.key, F.SCH_LOOP_START_DEPTH]; omega
@[simp] theorem F.SCH_LOOP_START_DEPTH_w : F.SCH_LOOP_START_DEPTH.w = 3 := rfl
@[simp] theorem F.SCH_LOOP_START_START3_key (i j : Nat) : F.SCH_LOOP_START_START3.key i j = 4200475 := by simp only [Fld.key, F.SCH_LOOP_START_START3]; omega
@[simp] theorem F.SCH_LOOP_START_START3_w : F.SCH_LOOP_START_START3.w = 9 := rfl
@[simp] theorem F.SCH_LOOP_START_START2_key (i j : Nat) : F.SCH_LOOP_START_START2.key i j = 4200466 := by simp only [Fld.key, F.SCH_LOOP_START_START2]; omega
@[simp] theorem F.SCH_LOOP_START_START2_w : F.SCH_LOOP_START_START2.w = 9 := rfl
@[simp] theorem F.SCH_LOOP_START_START1_key (i j : Nat) : F.SCH_LOOP_START_START1.key i j = 4200457 := by simp only [Fld.key, F.SCH_LOOP_START_START1]; omega
@[simp] theorem F.SCH_LOOP_START_START1_w : F.SCH_LOOP_START_START1.w = 9 := rfl
@[simp] theorem F.SCH_LOOP_START_START0_key (i j : Nat) : F.SCH_LOOP_START_START0.key i j = 4200448 := by simp only [Fld.key, F.SCH_LOOP_START_START0]; omega
@[simp] theorem F.SCH_LOOP_START_START0_w : F.SCH_LOOP_START_START0.w = 9 := rfl
@[simp] theorem F.SCH_LOOP_END_END3_key (i j : Nat) : F.SCH_LOOP_END_END3.key i j = 4200987 := by simp only [Fld.key, F.SCH_LOOP_END_END3]; omega
@[simp] theorem F.SCH_LOOP_END_END3_w : F.SCH_LOOP_END_END3.w = 9 := rfl
@[simp] theorem F.SCH_LOOP_END_END2_key (i j : Nat) : F.SCH_LOOP_END_END2.key i j = 4200978 := by simp only [Fld.key, F.SCH_LOOP_END_END2]; omega
@[simp] theorem F.SCH_LOOP_END_END2_w : F.SCH_LOOP_END_END2.w = 9 := rfl
@[simp] theorem F.SCH_LOOP_END_END1_key (i j : Nat) : F.SCH_LOOP_END_END1.key i j = 4200969 := by simp only [Fld.key, F.SCH_LOOP_END_END1]; omega
@[simp] theorem F.SCH_LOOP_END_END1_w : F.SCH_LOOP_END_END1.w = 9 := rfl
@[simp] theorem F.SCH_LOOP_END_END0_key (i j : Nat) : F.SCH_LOOP_END_END0.key i j = 4200960 := by simp only [Fld.key, F.SCH_LOOP_END_END0]; omega
@[simp] theorem F.SCH_LOOP_END_END0_w : F.SCH_LOOP_END_END0.w = 9 := rfl
@[simp] theorem F.SCH_CP_STAT_EV_COUNT_key (i j : Nat) : F.SCH_CP_STAT_EV_COUNT.key i j = 4201512 := by simp only [Fld.key, F.SCH_CP_STAT_EV_COUNT]; omega
@[simp] theorem F.SCH_CP_STAT_EV_COUNT_w : F.SCH_CP_STAT_EV_COUNT.w = 3 := rfl
@[simp] theorem F.SCH_CP_STAT_LAST_CP_key (i j : Nat) : F.SCH_CP_STAT_LAST_CP.key i j = 4201504 := by simp only [Fld.key, F.SCH_CP_STAT_LAST_CP]; omega
@[simp] theorem F.SCH_CP_STAT_LAST_CP_w : F.SCH_CP_STAT_LAST_CP.w = 8 := rfl
@[simp] theorem F.SCH_CP_STAT_EVQ_key (i j : Nat) : F.SCH_CP_STAT_EVQ.key i j = 4201472 := by simp only [Fld.key, F.SCH_CP_STAT_EVQ]; omega
@[simp] theorem F.SCH_CP_STAT_EVQ_w : F.SCH_CP_STAT_EVQ.w = 32 := rfl
@[simp] theorem F.RTR_CUR_PB_VALID_key (i j : Nat) : F.RTR_CUR_PB_VALID.key i j = 4207657 := by simp only [Fld.key, F.RTR_CUR_PB_VALID]; omega
@[simp] theorem F.RTR_CUR_PB_VALID_w : F.RTR_CUR_PB_VALID.w = 1 := rfl
@[simp] theorem F.RTR_CUR_PA_VALID_key (i j : Nat) : F.RTR_CUR_PA_VALID.key i j = 4207656 := by simp only [Fld.key, F.RTR_CUR_PA_VALID]; omega
@[simp] theorem F.RTR_CUR_PA_VALID_w : F.RTR_CUR_PA_VALID.w = 1 := rfl
@[simp] theorem F.RTR_CUR_PB_TAG_key (i j : Nat) : F.RTR_CUR_PB_TAG.key i j = 4207652 := by simp only [Fld.key, F.RTR_CUR_PB_TAG]; omega
@[simp] theorem F.RTR_CUR_PB_TAG_w : F.RTR_CUR_PB_TAG.w = 4 := rfl
@[simp] theorem F.RTR_CUR_PA_TAG_key (i j : Nat) : F.RTR_CUR_PA_TAG.key i j = 4207648 := by simp only [Fld.key, F.RTR_CUR_PA_TAG]; omega
@[simp] theorem F.RTR_CUR_PA_TAG_w : F.RTR_CUR_PA_TAG.w = 4 := rfl
@[simp] theorem F.RTR_CUR_KB_key (i j : Nat) : F.RTR_CUR_KB.key i j = 4207632 := by simp only [Fld.key, F.RTR_CUR_KB]; omega
@[simp] theorem F.RTR_CUR_KB_w : F.RTR_CUR_KB.w = 16 := rfl
@[simp] theorem F.RTR_CUR_KA_key (i j : Nat) : F.RTR_CUR_KA.key i j = 4207616 := by simp only [Fld.key, F.RTR_CUR_KA]; omega
@[simp] theorem F.RTR_CUR_KA_w : F.RTR_CUR_KA.w = 16 := rfl
@[simp] theorem F.RTR_HOLD_DATA_key (i j : Nat) : F.RTR_HOLD_DATA.key i j = 4214784 + 512 * j := by simp only [Fld.key, F.RTR_HOLD_DATA]; omega
@[simp] theorem F.RTR_HOLD_DATA_w : F.RTR_HOLD_DATA.w = 64 := rfl
@[simp] theorem F.RTR_HOLD_TAG_TAG_key (i j : Nat) : F.RTR_HOLD_TAG_TAG.key i j = 4218880 := by simp only [Fld.key, F.RTR_HOLD_TAG_TAG]; omega
@[simp] theorem F.RTR_HOLD_TAG_TAG_w : F.RTR_HOLD_TAG_TAG.w = 32 := rfl
@[simp] theorem F.RTR_PEEK_VALID_key (i j : Nat) : F.RTR_PEEK_VALID.key i j = 4219967 := by simp only [Fld.key, F.RTR_PEEK_VALID]; omega
@[simp] theorem F.RTR_PEEK_VALID_w : F.RTR_PEEK_VALID.w = 1 := rfl
@[simp] theorem F.RTR_PEEK_TAG_key (i j : Nat) : F.RTR_PEEK_TAG.key i j = 4219912 := by simp only [Fld.key, F.RTR_PEEK_TAG]; omega
@[simp] theorem F.RTR_PEEK_TAG_w : F.RTR_PEEK_TAG.w = 4 := rfl
@[simp] theorem F.RTR_PEEK_PORT_key (i j : Nat) : F.RTR_PEEK_PORT.key i j = 4219908 := by simp only [Fld.key, F.RTR_PEEK_PORT]; omega
@[simp] theorem F.RTR_PEEK_PORT_w : F.RTR_PEEK_PORT.w = 3 := rfl
@[simp] theorem F.RTR_PEEK_INDEX_key (i j : Nat) : F.RTR_PEEK_INDEX.key i j = 4219904 := by simp only [Fld.key, F.RTR_PEEK_INDEX]; omega
@[simp] theorem F.RTR_PEEK_INDEX_w : F.RTR_PEEK_INDEX.w = 4 := rfl
@[simp] theorem F.RTR_PEEK_DATA_DATA_key (i j : Nat) : F.RTR_PEEK_DATA_DATA.key i j = 4220416 := by simp only [Fld.key, F.RTR_PEEK_DATA_DATA]; omega
@[simp] theorem F.RTR_PEEK_DATA_DATA_w : F.RTR_PEEK_DATA_DATA.w = 64 := rfl
@[simp] theorem F.RTR_PA_DATA_key (i j : Nat) : F.RTR_PA_DATA.key i j = 4220928 := by simp only [Fld.key, F.RTR_PA_DATA]; omega
@[simp] theorem F.RTR_PA_DATA_w : F.RTR_PA_DATA.w = 64 := rfl
@[simp] theorem F.RTR_PB_DATA_key (i j : Nat) : F.RTR_PB_DATA.key i j = 4221440 := by simp only [Fld.key, F.RTR_PB_DATA]; omega
@[simp] theorem F.RTR_PB_DATA_w : F.RTR_PB_DATA.w = 64 := rfl
@[simp] theorem F.STK_CUR_KT_key (i j : Nat) : F.STK_CUR_KT.key i j = 4292640 + 512 * j := by simp only [Fld.key, F.STK_CUR_KT]; omega
@[simp] theorem F.STK_CUR_KT_w : F.STK_CUR_KT.w = 17 := rfl
@[simp] theorem F.STK_CUR_KS_key (i j : Nat) : F.STK_CUR_KS.key i j = 4292608 + 512 * j := by simp only [Fld.key, F.STK_CUR_KS]; omega
@[simp] theorem F.STK_CUR_KS_w : F.STK_CUR_KS.w = 10 := rfl
@[simp] theorem F.SCH_INVP_PODD_key (i j : Nat) : F.SCH_INVP_PODD.key i j = 4309024 + 512 * j := by simp only [Fld.key, F.SCH_INVP_PODD]; omega
@[simp] theorem F.SCH_INVP_PODD_w : F.SCH_INVP_PODD.w = 32 := rfl
@[simp] theorem F.SCH_INVP_PEVEN_key (i j : Nat) : F.SCH_INVP_PEVEN.key i j = 4308992 + 512 * j := by simp only [Fld.key, F.SCH_INVP_PEVEN]; omega
@[simp] theorem F.SCH_INVP_PEVEN_w : F.SCH_INVP_PEVEN.w = 32 := rfl
@[simp] theorem F.SCH_SEC_SECTION_key (i j : Nat) : F.SCH_SEC_SECTION.key i j = 4311088 := by simp only [Fld.key, F.SCH_SEC_SECTION]; omega
@[simp] theorem F.SCH_SEC_SECTION_w : F.SCH_SEC_SECTION.w = 16 := rfl
@[simp] theorem F.SCH_SEC_ACYC_key (i j : Nat) : F.SCH_SEC_ACYC.key i j = 4311040 := by simp only [Fld.key, F.SCH_SEC_ACYC]; omega
@[simp] theorem F.SCH_SEC_ACYC_w : F.SCH_SEC_ACYC.w = 32 := rfl
@[simp] theorem F.STK_ECC_UE_ADDR_key (i j : Nat) : F.STK_ECC_UE_ADDR.key i j = 4208673 := by simp only [Fld.key, F.STK_ECC_UE_ADDR]; omega
@[simp] theorem F.STK_ECC_UE_ADDR_w : F.STK_ECC_UE_ADDR.w = 23 := rfl
@[simp] theorem F.STK_ECC_UE_key (i j : Nat) : F.STK_ECC_UE.key i j = 4208672 := by simp only [Fld.key, F.STK_ECC_UE]; omega
@[simp] theorem F.STK_ECC_UE_w : F.STK_ECC_UE.w = 1 := rfl
@[simp] theorem F.STK_ECC_CE_COUNT_key (i j : Nat) : F.STK_ECC_CE_COUNT.key i j = 4208640 := by simp only [Fld.key, F.STK_ECC_CE_COUNT]; omega
@[simp] theorem F.STK_ECC_CE_COUNT_w : F.STK_ECC_CE_COUNT.w = 32 := rfl
@[simp] theorem F.MSG_CFG_REPLY_TIMEOUT_key (i j : Nat) : F.MSG_CFG_REPLY_TIMEOUT.key i j = 4231200 := by simp only [Fld.key, F.MSG_CFG_REPLY_TIMEOUT]; omega
@[simp] theorem F.MSG_CFG_REPLY_TIMEOUT_w : F.MSG_CFG_REPLY_TIMEOUT.w = 32 := rfl
@[simp] theorem F.MSG_CFG_SEND_TIMEOUT_key (i j : Nat) : F.MSG_CFG_SEND_TIMEOUT.key i j = 4231168 := by simp only [Fld.key, F.MSG_CFG_SEND_TIMEOUT]; omega
@[simp] theorem F.MSG_CFG_SEND_TIMEOUT_w : F.MSG_CFG_SEND_TIMEOUT.w = 32 := rfl
@[simp] theorem F.MSG_STATE_INC_key (i j : Nat) : F.MSG_STATE_INC.key i j = 4231743 := by simp only [Fld.key, F.MSG_STATE_INC]; omega
@[simp] theorem F.MSG_STATE_INC_w : F.MSG_STATE_INC.w = 1 := rfl
@[simp] theorem F.MSG_STATE_ABAN_key (i j : Nat) : F.MSG_STATE_ABAN.key i j = 4231735 := by simp only [Fld.key, F.MSG_STATE_ABAN]; omega
@[simp] theorem F.MSG_STATE_ABAN_w : F.MSG_STATE_ABAN.w = 8 := rfl
@[simp] theorem F.MSG_STATE_RSV_key (i j : Nat) : F.MSG_STATE_RSV.key i j = 4231727 := by simp only [Fld.key, F.MSG_STATE_RSV]; omega
@[simp] theorem F.MSG_STATE_RSV_w : F.MSG_STATE_RSV.w = 8 := rfl
@[simp] theorem F.MSG_STATE_HELD_key (i j : Nat) : F.MSG_STATE_HELD.key i j = 4231719 := by simp only [Fld.key, F.MSG_STATE_HELD]; omega
@[simp] theorem F.MSG_STATE_HELD_w : F.MSG_STATE_HELD.w = 8 := rfl
@[simp] theorem F.MSG_STATE_RQ_key (i j : Nat) : F.MSG_STATE_RQ.key i j = 4231715 := by simp only [Fld.key, F.MSG_STATE_RQ]; omega
@[simp] theorem F.MSG_STATE_RQ_w : F.MSG_STATE_RQ.w = 4 := rfl
@[simp] theorem F.MSG_STATE_SEND_key (i j : Nat) : F.MSG_STATE_SEND.key i j = 4231713 := by simp only [Fld.key, F.MSG_STATE_SEND]; omega
@[simp] theorem F.MSG_STATE_SEND_w : F.MSG_STATE_SEND.w = 2 := rfl
@[simp] theorem F.MSG_STATE_TAG_key (i j : Nat) : F.MSG_STATE_TAG.key i j = 4231700 := by simp only [Fld.key, F.MSG_STATE_TAG]; omega
@[simp] theorem F.MSG_STATE_TAG_w : F.MSG_STATE_TAG.w = 10 := rfl
@[simp] theorem F.MSG_STATE_DEST_key (i j : Nat) : F.MSG_STATE_DEST.key i j = 4231680 := by simp only [Fld.key, F.MSG_STATE_DEST]; omega
@[simp] theorem F.MSG_STATE_DEST_w : F.MSG_STATE_DEST.w = 20 := rfl
@[simp] theorem F.MSG_CNT_BUSY_RX_key (i j : Nat) : F.MSG_CNT_BUSY_RX.key i j = 4232240 := by simp only [Fld.key, F.MSG_CNT_BUSY_RX]; omega
@[simp] theorem F.MSG_CNT_BUSY_RX_w : F.MSG_CNT_BUSY_RX.w = 16 := rfl
@[simp] theorem F.MSG_CNT_ERR_RX_key (i j : Nat) : F.MSG_CNT_ERR_RX.key i j = 4232224 := by simp only [Fld.key, F.MSG_CNT_ERR_RX]; omega
@[simp] theorem F.MSG_CNT_ERR_RX_w : F.MSG_CNT_ERR_RX.w = 16 := rfl
@[simp] theorem F.MSG_CNT_LATE_key (i j : Nat) : F.MSG_CNT_LATE.key i j = 4232208 := by simp only [Fld.key, F.MSG_CNT_LATE]; omega
@[simp] theorem F.MSG_CNT_LATE_w : F.MSG_CNT_LATE.w = 16 := rfl
@[simp] theorem F.MSG_CNT_REFUSED_key (i j : Nat) : F.MSG_CNT_REFUSED.key i j = 4232192 := by simp only [Fld.key, F.MSG_CNT_REFUSED]; omega
@[simp] theorem F.MSG_CNT_REFUSED_w : F.MSG_CNT_REFUSED.w = 16 := rfl
@[simp] theorem F.MSG_SYS_ERR_key (i j : Nat) : F.MSG_SYS_ERR.key i j = 4232767 := by simp only [Fld.key, F.MSG_SYS_ERR]; omega
@[simp] theorem F.MSG_SYS_ERR_w : F.MSG_SYS_ERR.w = 1 := rfl
@[simp] theorem F.MSG_SYS_LAST_STATUS_key (i j : Nat) : F.MSG_SYS_LAST_STATUS.key i j = 4232724 := by simp only [Fld.key, F.MSG_SYS_LAST_STATUS]; omega
@[simp] theorem F.MSG_SYS_LAST_STATUS_w : F.MSG_SYS_LAST_STATUS.w = 4 := rfl
@[simp] theorem F.MSG_SYS_LAST_OP_key (i j : Nat) : F.MSG_SYS_LAST_OP.key i j = 4232720 := by simp only [Fld.key, F.MSG_SYS_LAST_OP]; omega
@[simp] theorem F.MSG_SYS_LAST_OP_w : F.MSG_SYS_LAST_OP.w = 4 := rfl
@[simp] theorem F.MSG_SYS_OPS_key (i j : Nat) : F.MSG_SYS_OPS.key i j = 4232704 := by simp only [Fld.key, F.MSG_SYS_OPS]; omega
@[simp] theorem F.MSG_SYS_OPS_w : F.MSG_SYS_OPS.w = 16 := rfl
@[simp] theorem F.MSG_FLOW_OUT_MASK_key (i j : Nat) : F.MSG_FLOW_OUT_MASK.key i j = 4235264 + 512 * j := by simp only [Fld.key, F.MSG_FLOW_OUT_MASK]; omega
@[simp] theorem F.MSG_FLOW_OUT_MASK_w : F.MSG_FLOW_OUT_MASK.w = 64 := rfl
@[simp] theorem F.MSG_FLOW_IN_MASK_key (i j : Nat) : F.MSG_FLOW_IN_MASK.key i j = 4243456 + 512 * j := by simp only [Fld.key, F.MSG_FLOW_IN_MASK]; omega
@[simp] theorem F.MSG_FLOW_IN_MASK_w : F.MSG_FLOW_IN_MASK.w = 64 := rfl
@[simp] theorem F.MSG_FLOW_RPL_MASK_key (i j : Nat) : F.MSG_FLOW_RPL_MASK.key i j = 4251648 + 512 * j := by simp only [Fld.key, F.MSG_FLOW_RPL_MASK]; omega
@[simp] theorem F.MSG_FLOW_RPL_MASK_w : F.MSG_FLOW_RPL_MASK.w = 64 := rfl
@[simp] theorem F.CC_BLOOM_OK_key (i j : Nat) : F.CC_BLOOM_OK.key i j = 4204607 := by simp only [Fld.key, F.CC_BLOOM_OK]; omega
@[simp] theorem F.CC_BLOOM_OK_w : F.CC_BLOOM_OK.w = 1 := rfl
@[simp] theorem F.CC_BLOOM_CRC_key (i j : Nat) : F.CC_BLOOM_CRC.key i j = 4204544 := by simp only [Fld.key, F.CC_BLOOM_CRC]; omega
@[simp] theorem F.CC_BLOOM_CRC_w : F.CC_BLOOM_CRC.w = 32 := rfl
@[simp] theorem F.TEL_OCC_BIN_ODD_key (i j : Nat) : F.TEL_OCC_BIN_ODD.key i j = 4259872 + 512 * j := by simp only [Fld.key, F.TEL_OCC_BIN_ODD]; omega
@[simp] theorem F.TEL_OCC_BIN_ODD_w : F.TEL_OCC_BIN_ODD.w = 32 := rfl
@[simp] theorem F.TEL_OCC_BIN_EVEN_key (i j : Nat) : F.TEL_OCC_BIN_EVEN.key i j = 4259840 + 512 * j := by simp only [Fld.key, F.TEL_OCC_BIN_EVEN]; omega
@[simp] theorem F.TEL_OCC_BIN_EVEN_w : F.TEL_OCC_BIN_EVEN.w = 32 := rfl
@[simp] theorem F.UNIT_SEL_GROUP_key (i j : Nat) : F.UNIT_SEL_GROUP.key i j = 4311560 := by simp only [Fld.key, F.UNIT_SEL_GROUP]; omega
@[simp] theorem F.UNIT_SEL_GROUP_w : F.UNIT_SEL_GROUP.w = 4 := rfl
@[simp] theorem F.UNIT_SEL_INDEX_key (i j : Nat) : F.UNIT_SEL_INDEX.key i j = 4311552 := by simp only [Fld.key, F.UNIT_SEL_INDEX]; omega
@[simp] theorem F.UNIT_SEL_INDEX_w : F.UNIT_SEL_INDEX.w = 8 := rfl
@[simp] theorem F.UNIT_DATA_DATA_key (i j : Nat) : F.UNIT_DATA_DATA.key i j = 4312064 := by simp only [Fld.key, F.UNIT_DATA_DATA]; omega
@[simp] theorem F.UNIT_DATA_DATA_w : F.UNIT_DATA_DATA.w = 64 := rfl

end Sys2Proof.Machine
end

