-- ==== Sys2Proof/Laws/SMap.lean ====
section
/-!
SUPPORT. Sys2Proof/Laws/SMap.lean: what a write of sparse data does to every read, and that it keeps the canonical form.
-/

set_option Elab.async false

namespace Sys2Proof.Machine

theorem SMap.get_ins_same {α : Type} (d : α) (m : SMap α) (i : Nat) (v : α) :
    SMap.get d (SMap.ins i v m) i = v := by
  induction m with
  | nil => simp [SMap.ins, SMap.get]
  | cons p r ih =>
    obtain ⟨k, w⟩ := p
    simp only [SMap.ins]
    split
    · simp [SMap.get]
    · split
      · simp [SMap.get]
      · next h => simp [SMap.get, h, ih]

theorem SMap.get_ins_other {α : Type} (d : α) (m : SMap α) (i j : Nat) (v : α) (h : j ≠ i) :
    SMap.get d (SMap.ins i v m) j = SMap.get d m j := by
  induction m with
  | nil => simp [SMap.ins, SMap.get, h]
  | cons p r ih =>
    obtain ⟨k, w⟩ := p
    simp only [SMap.ins]
    split
    · simp [SMap.get, h]
    · split
      · next _ hk => subst hk; simp [SMap.get, h]
      · simp [SMap.get, ih]

theorem SMap.get_filter_same {α : Type} (d : α) (m : SMap α) (i : Nat) :
    SMap.get d (m.filter (fun p => p.1 ≠ i)) i = d := by
  induction m with
  | nil => rfl
  | cons p r ih =>
    obtain ⟨k, w⟩ := p
    by_cases hk : k = i
    · simpa [hk] using ih
    · have h2 : ¬ i = k := fun h => hk h.symm
      simpa [List.filter, hk, SMap.get, h2] using ih

theorem SMap.get_filter_other {α : Type} (d : α) (m : SMap α) (i j : Nat) (h : j ≠ i) :
    SMap.get d (m.filter (fun p => p.1 ≠ i)) j = SMap.get d m j := by
  induction m with
  | nil => rfl
  | cons p r ih =>
    obtain ⟨k, w⟩ := p
    by_cases hk : k = i
    · subst hk; simpa [SMap.get, h] using ih
    · simp only [ne_eq, decide_not] at ih
      simp [List.filter, hk, SMap.get, ih]

/-- A read after a write to the same key gives the value written. -/
@[simp] theorem SMap.get_set_same {α : Type} [DecidableEq α] (d : α) (m : SMap α) (i : Nat) (v : α) :
    SMap.get d (SMap.set d m i v) i = v := by
  unfold SMap.set
  split
  · next h => rw [h]; exact SMap.get_filter_same d m i
  · exact SMap.get_ins_same d m i v

/-- A write leaves every other key alone. -/
theorem SMap.get_set_other {α : Type} [DecidableEq α] (d : α) (m : SMap α) (i j : Nat) (v : α) (h : j ≠ i) :
    SMap.get d (SMap.set d m i v) j = SMap.get d m j := by
  unfold SMap.set
  split
  · exact SMap.get_filter_other d m i j h
  · exact SMap.get_ins_other d m i j v h

theorem SMap.sorted_iff_pairwise {α : Type} (m : SMap α) :
    SMap.sorted m = true ↔ m.Pairwise (fun a b => a.1 < b.1) := by
  induction m with
  | nil => simp [SMap.sorted]
  | cons p r ih =>
    obtain ⟨a, v⟩ := p
    cases r with
    | nil => simp [SMap.sorted]
    | cons q r =>
      obtain ⟨b, w⟩ := q
      simp only [SMap.sorted, Bool.and_eq_true, decide_eq_true_eq, ih]
      constructor
      · rintro ⟨h, hp⟩
        refine List.pairwise_cons.2 ⟨?_, hp⟩
        intro x hx
        rcases List.mem_cons.1 hx with rfl | hx
        · exact h
        · exact Nat.lt_trans h ((List.pairwise_cons.1 hp).1 x hx)
      · intro hp
        exact ⟨(List.pairwise_cons.1 hp).1 (b, w) (by simp), (List.pairwise_cons.1 hp).2⟩

theorem SMap.mem_ins {α : Type} (m : SMap α) (i : Nat) (v : α) (p : Nat × α)
    (h : p ∈ SMap.ins i v m) : p = (i, v) ∨ p ∈ m := by
  induction m with
  | nil => simpa [SMap.ins] using h
  | cons q r ih =>
    obtain ⟨k, w⟩ := q
    simp only [SMap.ins] at h
    split at h
    · simpa using h
    · split at h
      · rcases List.mem_cons.1 h with h | h
        · exact .inl h
        · exact .inr (List.mem_cons_of_mem _ h)
      · rcases List.mem_cons.1 h with h | h
        · exact .inr (by simp [h])
        · rcases ih h with h | h
          · exact .inl h
          · exact .inr (List.mem_cons_of_mem _ h)

theorem SMap.pairwise_ins {α : Type} (m : SMap α) (i : Nat) (v : α)
    (h : m.Pairwise (fun a b => a.1 < b.1)) : (SMap.ins i v m).Pairwise (fun a b => a.1 < b.1) := by
  induction m with
  | nil => simp [SMap.ins]
  | cons q r ih =>
    obtain ⟨k, w⟩ := q
    have h1 := List.pairwise_cons.1 h
    simp only [SMap.ins]
    split
    · next hlt =>
      refine List.pairwise_cons.2 ⟨?_, h⟩
      intro x hx
      rcases List.mem_cons.1 hx with rfl | hx
      · exact hlt
      · exact Nat.lt_trans hlt (h1.1 x hx)
    · split
      · next _ he => subst he; exact List.pairwise_cons.2 ⟨h1.1, h1.2⟩
      · next hn he =>
        refine List.pairwise_cons.2 ⟨?_, ih h1.2⟩
        intro x hx
        rcases SMap.mem_ins r i v x hx with rfl | hx
        · show k < i; omega
        · exact h1.1 x hx

/-- Every write keeps the canonical form. -/
theorem SMap.wf_set {α : Type} [DecidableEq α] (d : α) (m : SMap α) (i : Nat) (v : α)
    (h : SMap.wf d m = true) : SMap.wf d (SMap.set d m i v) = true := by
  simp only [SMap.wf, Bool.and_eq_true, SMap.sorted_iff_pairwise, List.all_eq_true, decide_eq_true_eq] at *
  unfold SMap.set
  split
  · exact ⟨h.1.filter _, fun x hx => h.2 x (List.mem_filter.1 hx).1⟩
  · next hv =>
    refine ⟨SMap.pairwise_ins m i v h.1, fun x hx => ?_⟩
    rcases SMap.mem_ins m i v x hx with rfl | hx
    · exact hv
    · exact h.2 x hx

/-- Removing entries keeps the canonical form. -/
theorem SMap.wf_keep {α : Type} [DecidableEq α] (d : α) (m : SMap α) (p : Nat → Bool)
    (h : SMap.wf d m = true) : SMap.wf d (SMap.keep m p) = true := by
  simp only [SMap.wf, Bool.and_eq_true, SMap.sorted_iff_pairwise, List.all_eq_true, decide_eq_true_eq] at *
  exact ⟨h.1.filter _, fun x hx => h.2 x (List.mem_filter.1 hx).1⟩

theorem SMap.wf_setList {α : Type} [DecidableEq α] (d : α) (l : List α) (m : SMap α) (i : Nat)
    (h : SMap.wf d m = true) : SMap.wf d (SMap.setList d m i l) = true := by
  induction l generalizing m i with
  | nil => exact h
  | cons v r ih => exact ih _ _ (SMap.wf_set d m i v h)

end Sys2Proof.Machine
end

