-- ==== Sys2Proof/Laws/Sha.lean ====
section
/-!
SUPPORT. Sys2Proof/Laws/Sha.lean: a SHA-384 hash and an HMAC over it are 48 bytes; a list written under consecutive keys is read
back.
-/

namespace Sys2Proof.Machine

@[simp] theorem bytesLe_length (n v : Nat) : (bytesLe n v).length = n := by
  induction n generalizing v with
  | zero => rfl
  | succ n ih => simp [bytesLe, ih]

theorem bytesLe_lt (n v x : Nat) (h : x ∈ bytesLe n v) : x < 256 := by
  induction n generalizing v with
  | zero => simp [bytesLe] at h
  | succ n ih =>
    simp only [bytesLe, List.mem_cons] at h
    exact h.elim (fun e => e ▸ Nat.mod_lt _ (by decide)) (ih _)

/-- A round leaves eight working variables. -/
theorem sha.block_length (h : List (BitVec 64)) (b : List Nat) (hl : h.length = 8) : (sha.block h b).length = 8 := by
  have key : ∀ (l : List (BitVec 64 × BitVec 64)) (v : List (BitVec 64)), v.length = 8 →
      (l.foldl (fun v p => sha.round v p.1 p.2) v).length = 8 := by
    intro l
    induction l with
    | nil => exact fun v hv => hv
    | cons p r ih => exact fun v _ => ih _ rfl
  simp only [sha.block, List.length_map, List.length_zip, key _ _ hl, hl]
  rfl

theorem sha.blocks_length (n : Nat) (h : List (BitVec 64)) (b : List Nat) (hl : h.length = 8) :
    (sha.blocks n h b).length = 8 := by
  induction n generalizing h b with
  | zero => exact hl
  | succ n ih => exact ih _ _ (sha.block_length h _ hl)

theorem sha384_length (b : List Nat) : (sha384 b).length = 48 := by
  simp only [sha384, List.length_flatMap, bytesBe, List.length_reverse, bytesLe_length, List.map_const', List.length_take,
    sha.blocks_length _ _ _ (by decide : sha.h0.length = 8)]
  rfl

theorem sha384_lt (b : List Nat) (x : Nat) (h : x ∈ sha384 b) : x < 256 := by
  simp only [sha384, List.mem_flatMap, bytesBe, List.mem_reverse] at h
  exact h.elim (fun w hw => bytesLe_lt _ _ _ hw.2)

theorem hmac384_length (k m : List Nat) : (hmac384 k m).length = 48 := sha384_length _

theorem hmac384_lt (k m : List Nat) (x : Nat) (h : x ∈ hmac384 k m) : x < 256 := sha384_lt _ _ h

/-- A write of a list leaves the keys below it. -/
theorem SMap.get_setList_below {α : Type} [DecidableEq α] (d : α) (l : List α) (m : SMap α) (i j : Nat) (h : j < i) :
    (SMap.setList d m i l).get d j = m.get d j := by
  induction l generalizing m i with
  | nil => rfl
  | cons v r ih => exact (ih _ _ (by omega)).trans (SMap.get_set_other d m i j v (by omega))

/-- A list written under consecutive keys is read back. -/
theorem SMap.getList_setList {α : Type} [DecidableEq α] (d : α) (l : List α) (m : SMap α) (i : Nat) :
    (SMap.setList d m i l).getList d i l.length = l := by
  induction l generalizing m i with
  | nil => rfl
  | cons v r ih =>
    have hr := ih (m.set d i v) (i + 1)
    simp only [SMap.getList, SMap.setList, List.length_cons, List.range_succ_eq_map, List.map_cons, List.map_map] at hr ⊢
    refine List.cons_eq_cons.mpr ⟨?_, Eq.trans (List.map_congr_left fun k _ => ?_) hr⟩
    · exact (SMap.get_setList_below d r _ (i + 1) i (by omega)).trans (SMap.get_set_same d m i v)
    · simp only [Function.comp_apply, Nat.succ_eq_add_one, Nat.add_comm 1 k, Nat.add_assoc]

end Sys2Proof.Machine
end

