-- ==== Sys2Proof/Laws/State.lean ====
section
/-!
SUPPORT. Sys2Proof/Laws/State.lean: what a write of a register field does to every read, and, for each update of the state, that
every other part of it is unchanged.
-/

set_option Elab.async false

namespace Sys2Proof.Machine

/-! ### Register fields -/

/-- A field reads what was written, cut to its width. -/
@[simp] theorem RegFile.get_set_same (m : RegFile) (f : Fld) (v i j : Nat) : (RegFile.set m f i j v).get f i j = v % 2 ^ f.w := by
  unfold RegFile.get RegFile.set
  rw [SMap.get_set_same]
  split
  · next h => split at h <;> simp_all
  · next h => split at h <;> simp_all

/-- A write leaves the fields with another key alone. -/
theorem RegFile.get_set_other (m : RegFile) (f g : Fld) (v i j a b : Nat) (h : g.key a b ≠ f.key i j) :
    (RegFile.set m f i j v).get g a b = m.get g a b := by
  unfold RegFile.get RegFile.set
  rw [SMap.get_set_other _ _ _ _ _ h]

/-- A field reads what was written, cut to its width. -/
@[simp] theorem State.reg_setReg_same (s : State) (f : Fld) (v i j : Nat) : (s.setReg f v i j).reg f i j = v % 2 ^ f.w :=
  RegFile.get_set_same ..

/-- A write leaves the fields with another key alone. -/
theorem State.reg_setReg_other (s : State) (f g : Fld) (v i j a b : Nat) (h : g.key a b ≠ f.key i j) :
    (s.setReg f v i j).reg g a b = s.reg g a b := RegFile.get_set_other _ _ _ _ _ _ _ _ h

/-- A field that is written, or not, by its key. -/
theorem State.reg_setReg (s : State) (f : Fld) (v i j a b : Nat) :
    (s.setReg f v i j).reg f a b = if f.key a b = f.key i j then v % 2 ^ f.w else s.reg f a b := by
  split
  · next h =>
    unfold State.reg State.setReg RegFile.get RegFile.set
    rw [h, SMap.get_set_same]
    split
    · next e => split at e <;> simp_all
    · next e => split at e <;> simp_all
  · next h => exact State.reg_setReg_other _ _ _ _ _ _ _ _ h

/-- Reading a field by the register file. -/
theorem State.reg_eq (s t : State) (h : t.regs = s.regs) (f : Fld) (i j : Nat) : t.reg f i j = s.reg f i j := by
  unfold State.reg; rw [h]

/-! ### Fields of the module -/

@[simp] theorem State.field_updField_same (s : State) (n : Nat) (g : FieldSt → FieldSt) :
    (s.updField n g).field n = g (s.field n) := SMap.get_set_same ..

theorem State.field_updField_other (s : State) (n m : Nat) (g : FieldSt → FieldSt) (h : m ≠ n) :
    (s.updField n g).field m = s.field m := SMap.get_set_other _ _ _ _ _ h

/-! ### Parts that an update leaves alone -/

@[simp] theorem State.setReg_fuse (s : State) (f : Fld) (v i j : Nat) : (s.setReg f v i j).fuse = s.fuse := rfl
@[simp] theorem State.setReg_ref (s : State) (f : Fld) (v i j : Nat) : (s.setReg f v i j).ref = s.ref := rfl
@[simp] theorem State.setReg_acyc (s : State) (f : Fld) (v i j : Nat) : (s.setReg f v i j).acyc = s.acyc := rfl
@[simp] theorem State.setReg_fields (s : State) (f : Fld) (v i j : Nat) : (s.setReg f v i j).fields = s.fields := rfl
@[simp] theorem State.setReg_links (s : State) (f : Fld) (v i j : Nat) : (s.setReg f v i j).links = s.links := rfl
@[simp] theorem State.setReg_pkts (s : State) (f : Fld) (v i j : Nat) : (s.setReg f v i j).pkts = s.pkts := rfl
@[simp] theorem State.setReg_image (s : State) (f : Fld) (v i j : Nat) : (s.setReg f v i j).image = s.image := rfl
@[simp] theorem State.setReg_copy (s : State) (f : Fld) (v i j : Nat) : (s.setReg f v i j).copy = s.copy := rfl
@[simp] theorem State.setReg_pendingImg (s : State) (f : Fld) (v i j : Nat) : (s.setReg f v i j).pendingImg = s.pendingImg := rfl
@[simp] theorem State.setReg_tenant (s : State) (f : Fld) (v i j : Nat) : (s.setReg f v i j).tenant = s.tenant := rfl
@[simp] theorem State.setReg_staging (s : State) (f : Fld) (v i j : Nat) : (s.setReg f v i j).staging = s.staging := rfl
@[simp] theorem State.setReg_run (s : State) (f : Fld) (v i j : Nat) : (s.setReg f v i j).run = s.run := rfl
@[simp] theorem State.setReg_invq (s : State) (f : Fld) (v i j : Nat) : (s.setReg f v i j).invq = s.invq := rfl
@[simp] theorem State.setReg_reports (s : State) (f : Fld) (v i j : Nat) : (s.setReg f v i j).reports = s.reports := rfl
@[simp] theorem State.setReg_log (s : State) (f : Fld) (v i j : Nat) : (s.setReg f v i j).log = s.log := rfl
@[simp] theorem State.setReg_rope (s : State) (f : Fld) (v i j : Nat) : (s.setReg f v i j).rope = s.rope := rfl
@[simp] theorem State.setReg_ports (s : State) (f : Fld) (v i j : Nat) : (s.setReg f v i j).ports = s.ports := rfl
@[simp] theorem State.setReg_bcl (s : State) (f : Fld) (v i j : Nat) : (s.setReg f v i j).bcl = s.bcl := rfl
@[simp] theorem State.setReg_pw (s : State) (f : Fld) (v i j : Nat) : (s.setReg f v i j).pw = s.pw := rfl
@[simp] theorem State.setReg_rst (s : State) (f : Fld) (v i j : Nat) : (s.setReg f v i j).rst = s.rst := rfl
@[simp] theorem State.setReg_dict (s : State) (f : Fld) (v i j : Nat) : (s.setReg f v i j).dict = s.dict := rfl
@[simp] theorem State.setReg_ldg (s : State) (f : Fld) (v i j : Nat) : (s.setReg f v i j).ldg = s.ldg := rfl
@[simp] theorem State.setReg_trust (s : State) (f : Fld) (v i j : Nat) : (s.setReg f v i j).trust = s.trust := rfl
@[simp] theorem State.setReg_out (s : State) (f : Fld) (v i j : Nat) : (s.setReg f v i j).out = s.out := rfl
@[simp] theorem State.setReg_free (s : State) (f : Fld) (v i j : Nat) : (s.setReg f v i j).free = s.free := rfl
@[simp] theorem State.setReg_pending (s : State) (f : Fld) (v i j : Nat) : (s.setReg f v i j).pending = s.pending := rfl
@[simp] theorem State.satReg_fuse (s : State) (f : Fld) (i n : Nat) : (s.satReg f i n).fuse = s.fuse := rfl
@[simp] theorem State.satReg_ref (s : State) (f : Fld) (i n : Nat) : (s.satReg f i n).ref = s.ref := rfl
@[simp] theorem State.satReg_acyc (s : State) (f : Fld) (i n : Nat) : (s.satReg f i n).acyc = s.acyc := rfl
@[simp] theorem State.satReg_fields (s : State) (f : Fld) (i n : Nat) : (s.satReg f i n).fields = s.fields := rfl
@[simp] theorem State.satReg_links (s : State) (f : Fld) (i n : Nat) : (s.satReg f i n).links = s.links := rfl
@[simp] theorem State.satReg_pkts (s : State) (f : Fld) (i n : Nat) : (s.satReg f i n).pkts = s.pkts := rfl
@[simp] theorem State.satReg_image (s : State) (f : Fld) (i n : Nat) : (s.satReg f i n).image = s.image := rfl
@[simp] theorem State.satReg_copy (s : State) (f : Fld) (i n : Nat) : (s.satReg f i n).copy = s.copy := rfl
@[simp] theorem State.satReg_pendingImg (s : State) (f : Fld) (i n : Nat) : (s.satReg f i n).pendingImg = s.pendingImg := rfl
@[simp] theorem State.satReg_tenant (s : State) (f : Fld) (i n : Nat) : (s.satReg f i n).tenant = s.tenant := rfl
@[simp] theorem State.satReg_staging (s : State) (f : Fld) (i n : Nat) : (s.satReg f i n).staging = s.staging := rfl
@[simp] theorem State.satReg_run (s : State) (f : Fld) (i n : Nat) : (s.satReg f i n).run = s.run := rfl
@[simp] theorem State.satReg_invq (s : State) (f : Fld) (i n : Nat) : (s.satReg f i n).invq = s.invq := rfl
@[simp] theorem State.satReg_reports (s : State) (f : Fld) (i n : Nat) : (s.satReg f i n).reports = s.reports := rfl
@[simp] theorem State.satReg_log (s : State) (f : Fld) (i n : Nat) : (s.satReg f i n).log = s.log := rfl
@[simp] theorem State.satReg_rope (s : State) (f : Fld) (i n : Nat) : (s.satReg f i n).rope = s.rope := rfl
@[simp] theorem State.satReg_ports (s : State) (f : Fld) (i n : Nat) : (s.satReg f i n).ports = s.ports := rfl
@[simp] theorem State.satReg_bcl (s : State) (f : Fld) (i n : Nat) : (s.satReg f i n).bcl = s.bcl := rfl
@[simp] theorem State.satReg_pw (s : State) (f : Fld) (i n : Nat) : (s.satReg f i n).pw = s.pw := rfl
@[simp] theorem State.satReg_rst (s : State) (f : Fld) (i n : Nat) : (s.satReg f i n).rst = s.rst := rfl
@[simp] theorem State.satReg_dict (s : State) (f : Fld) (i n : Nat) : (s.satReg f i n).dict = s.dict := rfl
@[simp] theorem State.satReg_ldg (s : State) (f : Fld) (i n : Nat) : (s.satReg f i n).ldg = s.ldg := rfl
@[simp] theorem State.satReg_trust (s : State) (f : Fld) (i n : Nat) : (s.satReg f i n).trust = s.trust := rfl
@[simp] theorem State.satReg_out (s : State) (f : Fld) (i n : Nat) : (s.satReg f i n).out = s.out := rfl
@[simp] theorem State.satReg_free (s : State) (f : Fld) (i n : Nat) : (s.satReg f i n).free = s.free := rfl
@[simp] theorem State.satReg_pending (s : State) (f : Fld) (i n : Nat) : (s.satReg f i n).pending = s.pending := rfl
@[simp] theorem State.addReg_fuse (s : State) (f : Fld) (i n : Nat) : (s.addReg f i n).fuse = s.fuse := rfl
@[simp] theorem State.addReg_ref (s : State) (f : Fld) (i n : Nat) : (s.addReg f i n).ref = s.ref := rfl
@[simp] theorem State.addReg_acyc (s : State) (f : Fld) (i n : Nat) : (s.addReg f i n).acyc = s.acyc := rfl
@[simp] theorem State.addReg_fields (s : State) (f : Fld) (i n : Nat) : (s.addReg f i n).fields = s.fields := rfl
@[simp] theorem State.addReg_links (s : State) (f : Fld) (i n : Nat) : (s.addReg f i n).links = s.links := rfl
@[simp] theorem State.addReg_pkts (s : State) (f : Fld) (i n : Nat) : (s.addReg f i n).pkts = s.pkts := rfl
@[simp] theorem State.addReg_image (s : State) (f : Fld) (i n : Nat) : (s.addReg f i n).image = s.image := rfl
@[simp] theorem State.addReg_copy (s : State) (f : Fld) (i n : Nat) : (s.addReg f i n).copy = s.copy := rfl
@[simp] theorem State.addReg_pendingImg (s : State) (f : Fld) (i n : Nat) : (s.addReg f i n).pendingImg = s.pendingImg := rfl
@[simp] theorem State.addReg_tenant (s : State) (f : Fld) (i n : Nat) : (s.addReg f i n).tenant = s.tenant := rfl
@[simp] theorem State.addReg_staging (s : State) (f : Fld) (i n : Nat) : (s.addReg f i n).staging = s.staging := rfl
@[simp] theorem State.addReg_run (s : State) (f : Fld) (i n : Nat) : (s.addReg f i n).run = s.run := rfl
@[simp] theorem State.addReg_invq (s : State) (f : Fld) (i n : Nat) : (s.addReg f i n).invq = s.invq := rfl
@[simp] theorem State.addReg_reports (s : State) (f : Fld) (i n : Nat) : (s.addReg f i n).reports = s.reports := rfl
@[simp] theorem State.addReg_log (s : State) (f : Fld) (i n : Nat) : (s.addReg f i n).log = s.log := rfl
@[simp] theorem State.addReg_rope (s : State) (f : Fld) (i n : Nat) : (s.addReg f i n).rope = s.rope := rfl
@[simp] theorem State.addReg_ports (s : State) (f : Fld) (i n : Nat) : (s.addReg f i n).ports = s.ports := rfl
@[simp] theorem State.addReg_bcl (s : State) (f : Fld) (i n : Nat) : (s.addReg f i n).bcl = s.bcl := rfl
@[simp] theorem State.addReg_pw (s : State) (f : Fld) (i n : Nat) : (s.addReg f i n).pw = s.pw := rfl
@[simp] theorem State.addReg_rst (s : State) (f : Fld) (i n : Nat) : (s.addReg f i n).rst = s.rst := rfl
@[simp] theorem State.addReg_dict (s : State) (f : Fld) (i n : Nat) : (s.addReg f i n).dict = s.dict := rfl
@[simp] theorem State.addReg_ldg (s : State) (f : Fld) (i n : Nat) : (s.addReg f i n).ldg = s.ldg := rfl
@[simp] theorem State.addReg_trust (s : State) (f : Fld) (i n : Nat) : (s.addReg f i n).trust = s.trust := rfl
@[simp] theorem State.addReg_out (s : State) (f : Fld) (i n : Nat) : (s.addReg f i n).out = s.out := rfl
@[simp] theorem State.addReg_free (s : State) (f : Fld) (i n : Nat) : (s.addReg f i n).free = s.free := rfl
@[simp] theorem State.addReg_pending (s : State) (f : Fld) (i n : Nat) : (s.addReg f i n).pending = s.pending := rfl
@[simp] theorem State.cmd_fuse (s : State) (a b : Fld) (x c i : Nat) : (s.cmd a b x c i).fuse = s.fuse := rfl
@[simp] theorem State.cmd_ref (s : State) (a b : Fld) (x c i : Nat) : (s.cmd a b x c i).ref = s.ref := rfl
@[simp] theorem State.cmd_acyc (s : State) (a b : Fld) (x c i : Nat) : (s.cmd a b x c i).acyc = s.acyc := rfl
@[simp] theorem State.cmd_fields (s : State) (a b : Fld) (x c i : Nat) : (s.cmd a b x c i).fields = s.fields := rfl
@[simp] theorem State.cmd_links (s : State) (a b : Fld) (x c i : Nat) : (s.cmd a b x c i).links = s.links := rfl
@[simp] theorem State.cmd_pkts (s : State) (a b : Fld) (x c i : Nat) : (s.cmd a b x c i).pkts = s.pkts := rfl
@[simp] theorem State.cmd_image (s : State) (a b : Fld) (x c i : Nat) : (s.cmd a b x c i).image = s.image := rfl
@[simp] theorem State.cmd_copy (s : State) (a b : Fld) (x c i : Nat) : (s.cmd a b x c i).copy = s.copy := rfl
@[simp] theorem State.cmd_pendingImg (s : State) (a b : Fld) (x c i : Nat) : (s.cmd a b x c i).pendingImg = s.pendingImg := rfl
@[simp] theorem State.cmd_tenant (s : State) (a b : Fld) (x c i : Nat) : (s.cmd a b x c i).tenant = s.tenant := rfl
@[simp] theorem State.cmd_staging (s : State) (a b : Fld) (x c i : Nat) : (s.cmd a b x c i).staging = s.staging := rfl
@[simp] theorem State.cmd_run (s : State) (a b : Fld) (x c i : Nat) : (s.cmd a b x c i).run = s.run := rfl
@[simp] theorem State.cmd_invq (s : State) (a b : Fld) (x c i : Nat) : (s.cmd a b x c i).invq = s.invq := rfl
@[simp] theorem State.cmd_reports (s : State) (a b : Fld) (x c i : Nat) : (s.cmd a b x c i).reports = s.reports := rfl
@[simp] theorem State.cmd_log (s : State) (a b : Fld) (x c i : Nat) : (s.cmd a b x c i).log = s.log := rfl
@[simp] theorem State.cmd_rope (s : State) (a b : Fld) (x c i : Nat) : (s.cmd a b x c i).rope = s.rope := rfl
@[simp] theorem State.cmd_ports (s : State) (a b : Fld) (x c i : Nat) : (s.cmd a b x c i).ports = s.ports := rfl
@[simp] theorem State.cmd_bcl (s : State) (a b : Fld) (x c i : Nat) : (s.cmd a b x c i).bcl = s.bcl := rfl
@[simp] theorem State.cmd_pw (s : State) (a b : Fld) (x c i : Nat) : (s.cmd a b x c i).pw = s.pw := rfl
@[simp] theorem State.cmd_rst (s : State) (a b : Fld) (x c i : Nat) : (s.cmd a b x c i).rst = s.rst := rfl
@[simp] theorem State.cmd_dict (s : State) (a b : Fld) (x c i : Nat) : (s.cmd a b x c i).dict = s.dict := rfl
@[simp] theorem State.cmd_ldg (s : State) (a b : Fld) (x c i : Nat) : (s.cmd a b x c i).ldg = s.ldg := rfl
@[simp] theorem State.cmd_trust (s : State) (a b : Fld) (x c i : Nat) : (s.cmd a b x c i).trust = s.trust := rfl
@[simp] theorem State.cmd_out (s : State) (a b : Fld) (x c i : Nat) : (s.cmd a b x c i).out = s.out := rfl
@[simp] theorem State.cmd_free (s : State) (a b : Fld) (x c i : Nat) : (s.cmd a b x c i).free = s.free := rfl
@[simp] theorem State.cmd_pending (s : State) (a b : Fld) (x c i : Nat) : (s.cmd a b x c i).pending = s.pending := rfl
@[simp] theorem State.emit_fuse (s : State) (c : Chan) (p g : Nat) (b : List Nat) : (s.emit c p g b).fuse = s.fuse := rfl
@[simp] theorem State.emit_ref (s : State) (c : Chan) (p g : Nat) (b : List Nat) : (s.emit c p g b).ref = s.ref := rfl
@[simp] theorem State.emit_acyc (s : State) (c : Chan) (p g : Nat) (b : List Nat) : (s.emit c p g b).acyc = s.acyc := rfl
@[simp] theorem State.emit_regs (s : State) (c : Chan) (p g : Nat) (b : List Nat) : (s.emit c p g b).regs = s.regs := rfl
@[simp] theorem State.emit_fields (s : State) (c : Chan) (p g : Nat) (b : List Nat) : (s.emit c p g b).fields = s.fields := rfl
@[simp] theorem State.emit_links (s : State) (c : Chan) (p g : Nat) (b : List Nat) : (s.emit c p g b).links = s.links := rfl
@[simp] theorem State.emit_pkts (s : State) (c : Chan) (p g : Nat) (b : List Nat) : (s.emit c p g b).pkts = s.pkts := rfl
@[simp] theorem State.emit_image (s : State) (c : Chan) (p g : Nat) (b : List Nat) : (s.emit c p g b).image = s.image := rfl
@[simp] theorem State.emit_copy (s : State) (c : Chan) (p g : Nat) (b : List Nat) : (s.emit c p g b).copy = s.copy := rfl
@[simp] theorem State.emit_pendingImg (s : State) (c : Chan) (p g : Nat) (b : List Nat) : (s.emit c p g b).pendingImg = s.pendingImg := rfl
@[simp] theorem State.emit_tenant (s : State) (c : Chan) (p g : Nat) (b : List Nat) : (s.emit c p g b).tenant = s.tenant := rfl
@[simp] theorem State.emit_staging (s : State) (c : Chan) (p g : Nat) (b : List Nat) : (s.emit c p g b).staging = s.staging := rfl
@[simp] theorem State.emit_run (s : State) (c : Chan) (p g : Nat) (b : List Nat) : (s.emit c p g b).run = s.run := rfl
@[simp] theorem State.emit_invq (s : State) (c : Chan) (p g : Nat) (b : List Nat) : (s.emit c p g b).invq = s.invq := rfl
@[simp] theorem State.emit_reports (s : State) (c : Chan) (p g : Nat) (b : List Nat) : (s.emit c p g b).reports = s.reports := rfl
@[simp] theorem State.emit_log (s : State) (c : Chan) (p g : Nat) (b : List Nat) : (s.emit c p g b).log = s.log := rfl
@[simp] theorem State.emit_rope (s : State) (c : Chan) (p g : Nat) (b : List Nat) : (s.emit c p g b).rope = s.rope := rfl
@[simp] theorem State.emit_ports (s : State) (c : Chan) (p g : Nat) (b : List Nat) : (s.emit c p g b).ports = s.ports := rfl
@[simp] theorem State.emit_bcl (s : State) (c : Chan) (p g : Nat) (b : List Nat) : (s.emit c p g b).bcl = s.bcl := rfl
@[simp] theorem State.emit_pw (s : State) (c : Chan) (p g : Nat) (b : List Nat) : (s.emit c p g b).pw = s.pw := rfl
@[simp] theorem State.emit_rst (s : State) (c : Chan) (p g : Nat) (b : List Nat) : (s.emit c p g b).rst = s.rst := rfl
@[simp] theorem State.emit_dict (s : State) (c : Chan) (p g : Nat) (b : List Nat) : (s.emit c p g b).dict = s.dict := rfl
@[simp] theorem State.emit_ldg (s : State) (c : Chan) (p g : Nat) (b : List Nat) : (s.emit c p g b).ldg = s.ldg := rfl
@[simp] theorem State.emit_trust (s : State) (c : Chan) (p g : Nat) (b : List Nat) : (s.emit c p g b).trust = s.trust := rfl
@[simp] theorem State.emit_free (s : State) (c : Chan) (p g : Nat) (b : List Nat) : (s.emit c p g b).free = s.free := rfl
@[simp] theorem State.emit_pending (s : State) (c : Chan) (p g : Nat) (b : List Nat) : (s.emit c p g b).pending = s.pending := rfl
@[simp] theorem State.tick_fuse (s : State) : (s.tick).fuse = s.fuse := rfl
@[simp] theorem State.tick_acyc (s : State) : (s.tick).acyc = s.acyc := rfl
@[simp] theorem State.tick_regs (s : State) : (s.tick).regs = s.regs := rfl
@[simp] theorem State.tick_fields (s : State) : (s.tick).fields = s.fields := rfl
@[simp] theorem State.tick_links (s : State) : (s.tick).links = s.links := rfl
@[simp] theorem State.tick_pkts (s : State) : (s.tick).pkts = s.pkts := rfl
@[simp] theorem State.tick_image (s : State) : (s.tick).image = s.image := rfl
@[simp] theorem State.tick_copy (s : State) : (s.tick).copy = s.copy := rfl
@[simp] theorem State.tick_pendingImg (s : State) : (s.tick).pendingImg = s.pendingImg := rfl
@[simp] theorem State.tick_tenant (s : State) : (s.tick).tenant = s.tenant := rfl
@[simp] theorem State.tick_staging (s : State) : (s.tick).staging = s.staging := rfl
@[simp] theorem State.tick_run (s : State) : (s.tick).run = s.run := rfl
@[simp] theorem State.tick_invq (s : State) : (s.tick).invq = s.invq := rfl
@[simp] theorem State.tick_reports (s : State) : (s.tick).reports = s.reports := rfl
@[simp] theorem State.tick_log (s : State) : (s.tick).log = s.log := rfl
@[simp] theorem State.tick_rope (s : State) : (s.tick).rope = s.rope := rfl
@[simp] theorem State.tick_ports (s : State) : (s.tick).ports = s.ports := rfl
@[simp] theorem State.tick_bcl (s : State) : (s.tick).bcl = s.bcl := rfl
@[simp] theorem State.tick_pw (s : State) : (s.tick).pw = s.pw := rfl
@[simp] theorem State.tick_rst (s : State) : (s.tick).rst = s.rst := rfl
@[simp] theorem State.tick_dict (s : State) : (s.tick).dict = s.dict := rfl
@[simp] theorem State.tick_ldg (s : State) : (s.tick).ldg = s.ldg := rfl
@[simp] theorem State.tick_trust (s : State) : (s.tick).trust = s.trust := rfl
@[simp] theorem State.tick_out (s : State) : (s.tick).out = s.out := rfl
@[simp] theorem State.tick_free (s : State) : (s.tick).free = s.free := rfl
@[simp] theorem State.tick_pending (s : State) : (s.tick).pending = s.pending := rfl
@[simp] theorem State.fresh_fuse (s : State) : (s.fresh.2).fuse = s.fuse := rfl
@[simp] theorem State.fresh_ref (s : State) : (s.fresh.2).ref = s.ref := rfl
@[simp] theorem State.fresh_acyc (s : State) : (s.fresh.2).acyc = s.acyc := rfl
@[simp] theorem State.fresh_regs (s : State) : (s.fresh.2).regs = s.regs := rfl
@[simp] theorem State.fresh_fields (s : State) : (s.fresh.2).fields = s.fields := rfl
@[simp] theorem State.fresh_links (s : State) : (s.fresh.2).links = s.links := rfl
@[simp] theorem State.fresh_pkts (s : State) : (s.fresh.2).pkts = s.pkts := rfl
@[simp] theorem State.fresh_image (s : State) : (s.fresh.2).image = s.image := rfl
@[simp] theorem State.fresh_copy (s : State) : (s.fresh.2).copy = s.copy := rfl
@[simp] theorem State.fresh_pendingImg (s : State) : (s.fresh.2).pendingImg = s.pendingImg := rfl
@[simp] theorem State.fresh_tenant (s : State) : (s.fresh.2).tenant = s.tenant := rfl
@[simp] theorem State.fresh_staging (s : State) : (s.fresh.2).staging = s.staging := rfl
@[simp] theorem State.fresh_run (s : State) : (s.fresh.2).run = s.run := rfl
@[simp] theorem State.fresh_invq (s : State) : (s.fresh.2).invq = s.invq := rfl
@[simp] theorem State.fresh_reports (s : State) : (s.fresh.2).reports = s.reports := rfl
@[simp] theorem State.fresh_log (s : State) : (s.fresh.2).log = s.log := rfl
@[simp] theorem State.fresh_rope (s : State) : (s.fresh.2).rope = s.rope := rfl
@[simp] theorem State.fresh_ports (s : State) : (s.fresh.2).ports = s.ports := rfl
@[simp] theorem State.fresh_bcl (s : State) : (s.fresh.2).bcl = s.bcl := rfl
@[simp] theorem State.fresh_pw (s : State) : (s.fresh.2).pw = s.pw := rfl
@[simp] theorem State.fresh_rst (s : State) : (s.fresh.2).rst = s.rst := rfl
@[simp] theorem State.fresh_dict (s : State) : (s.fresh.2).dict = s.dict := rfl
@[simp] theorem State.fresh_ldg (s : State) : (s.fresh.2).ldg = s.ldg := rfl
@[simp] theorem State.fresh_trust (s : State) : (s.fresh.2).trust = s.trust := rfl
@[simp] theorem State.fresh_out (s : State) : (s.fresh.2).out = s.out := rfl
@[simp] theorem State.fresh_pending (s : State) : (s.fresh.2).pending = s.pending := rfl
@[simp] theorem State.setOd_fuse (s : State) (a b v : Nat) : (s.setOd a b v).fuse = s.fuse := rfl
@[simp] theorem State.setOd_ref (s : State) (a b v : Nat) : (s.setOd a b v).ref = s.ref := rfl
@[simp] theorem State.setOd_acyc (s : State) (a b v : Nat) : (s.setOd a b v).acyc = s.acyc := rfl
@[simp] theorem State.setOd_regs (s : State) (a b v : Nat) : (s.setOd a b v).regs = s.regs := rfl
@[simp] theorem State.setOd_fields (s : State) (a b v : Nat) : (s.setOd a b v).fields = s.fields := rfl
@[simp] theorem State.setOd_links (s : State) (a b v : Nat) : (s.setOd a b v).links = s.links := rfl
@[simp] theorem State.setOd_pkts (s : State) (a b v : Nat) : (s.setOd a b v).pkts = s.pkts := rfl
@[simp] theorem State.setOd_image (s : State) (a b v : Nat) : (s.setOd a b v).image = s.image := rfl
@[simp] theorem State.setOd_copy (s : State) (a b v : Nat) : (s.setOd a b v).copy = s.copy := rfl
@[simp] theorem State.setOd_pendingImg (s : State) (a b v : Nat) : (s.setOd a b v).pendingImg = s.pendingImg := rfl
@[simp] theorem State.setOd_tenant (s : State) (a b v : Nat) : (s.setOd a b v).tenant = s.tenant := rfl
@[simp] theorem State.setOd_staging (s : State) (a b v : Nat) : (s.setOd a b v).staging = s.staging := rfl
@[simp] theorem State.setOd_run (s : State) (a b v : Nat) : (s.setOd a b v).run = s.run := rfl
@[simp] theorem State.setOd_invq (s : State) (a b v : Nat) : (s.setOd a b v).invq = s.invq := rfl
@[simp] theorem State.setOd_reports (s : State) (a b v : Nat) : (s.setOd a b v).reports = s.reports := rfl
@[simp] theorem State.setOd_log (s : State) (a b v : Nat) : (s.setOd a b v).log = s.log := rfl
@[simp] theorem State.setOd_rope (s : State) (a b v : Nat) : (s.setOd a b v).rope = s.rope := rfl
@[simp] theorem State.setOd_ports (s : State) (a b v : Nat) : (s.setOd a b v).ports = s.ports := rfl
@[simp] theorem State.setOd_bcl (s : State) (a b v : Nat) : (s.setOd a b v).bcl = s.bcl := rfl
@[simp] theorem State.setOd_pw (s : State) (a b v : Nat) : (s.setOd a b v).pw = s.pw := rfl
@[simp] theorem State.setOd_rst (s : State) (a b v : Nat) : (s.setOd a b v).rst = s.rst := rfl
@[simp] theorem State.setOd_ldg (s : State) (a b v : Nat) : (s.setOd a b v).ldg = s.ldg := rfl
@[simp] theorem State.setOd_trust (s : State) (a b v : Nat) : (s.setOd a b v).trust = s.trust := rfl
@[simp] theorem State.setOd_out (s : State) (a b v : Nat) : (s.setOd a b v).out = s.out := rfl
@[simp] theorem State.setOd_free (s : State) (a b v : Nat) : (s.setOd a b v).free = s.free := rfl
@[simp] theorem State.setOd_pending (s : State) (a b v : Nat) : (s.setOd a b v).pending = s.pending := rfl
@[simp] theorem State.updField_fuse (s : State) (n : Nat) (g : FieldSt → FieldSt) : (s.updField n g).fuse = s.fuse := rfl
@[simp] theorem State.updField_ref (s : State) (n : Nat) (g : FieldSt → FieldSt) : (s.updField n g).ref = s.ref := rfl
@[simp] theorem State.updField_acyc (s : State) (n : Nat) (g : FieldSt → FieldSt) : (s.updField n g).acyc = s.acyc := rfl
@[simp] theorem State.updField_regs (s : State) (n : Nat) (g : FieldSt → FieldSt) : (s.updField n g).regs = s.regs := rfl
@[simp] theorem State.updField_links (s : State) (n : Nat) (g : FieldSt → FieldSt) : (s.updField n g).links = s.links := rfl
@[simp] theorem State.updField_pkts (s : State) (n : Nat) (g : FieldSt → FieldSt) : (s.updField n g).pkts = s.pkts := rfl
@[simp] theorem State.updField_image (s : State) (n : Nat) (g : FieldSt → FieldSt) : (s.updField n g).image = s.image := rfl
@[simp] theorem State.updField_copy (s : State) (n : Nat) (g : FieldSt → FieldSt) : (s.updField n g).copy = s.copy := rfl
@[simp] theorem State.updField_pendingImg (s : State) (n : Nat) (g : FieldSt → FieldSt) : (s.updField n g).pendingImg = s.pendingImg := rfl
@[simp] theorem State.updField_tenant (s : State) (n : Nat) (g : FieldSt → FieldSt) : (s.updField n g).tenant = s.tenant := rfl
@[simp] theorem State.updField_staging (s : State) (n : Nat) (g : FieldSt → FieldSt) : (s.updField n g).staging = s.staging := rfl
@[simp] theorem State.updField_run (s : State) (n : Nat) (g : FieldSt → FieldSt) : (s.updField n g).run = s.run := rfl
@[simp] theorem State.updField_invq (s : State) (n : Nat) (g : FieldSt → FieldSt) : (s.updField n g).invq = s.invq := rfl
@[simp] theorem State.updField_reports (s : State) (n : Nat) (g : FieldSt → FieldSt) : (s.updField n g).reports = s.reports := rfl
@[simp] theorem State.updField_log (s : State) (n : Nat) (g : FieldSt → FieldSt) : (s.updField n g).log = s.log := rfl
@[simp] theorem State.updField_rope (s : State) (n : Nat) (g : FieldSt → FieldSt) : (s.updField n g).rope = s.rope := rfl
@[simp] theorem State.updField_ports (s : State) (n : Nat) (g : FieldSt → FieldSt) : (s.updField n g).ports = s.ports := rfl
@[simp] theorem State.updField_bcl (s : State) (n : Nat) (g : FieldSt → FieldSt) : (s.updField n g).bcl = s.bcl := rfl
@[simp] theorem State.updField_pw (s : State) (n : Nat) (g : FieldSt → FieldSt) : (s.updField n g).pw = s.pw := rfl
@[simp] theorem State.updField_rst (s : State) (n : Nat) (g : FieldSt → FieldSt) : (s.updField n g).rst = s.rst := rfl
@[simp] theorem State.updField_dict (s : State) (n : Nat) (g : FieldSt → FieldSt) : (s.updField n g).dict = s.dict := rfl
@[simp] theorem State.updField_ldg (s : State) (n : Nat) (g : FieldSt → FieldSt) : (s.updField n g).ldg = s.ldg := rfl
@[simp] theorem State.updField_trust (s : State) (n : Nat) (g : FieldSt → FieldSt) : (s.updField n g).trust = s.trust := rfl
@[simp] theorem State.updField_out (s : State) (n : Nat) (g : FieldSt → FieldSt) : (s.updField n g).out = s.out := rfl
@[simp] theorem State.updField_free (s : State) (n : Nat) (g : FieldSt → FieldSt) : (s.updField n g).free = s.free := rfl
@[simp] theorem State.updField_pending (s : State) (n : Nat) (g : FieldSt → FieldSt) : (s.updField n g).pending = s.pending := rfl
@[simp] theorem State.setTile_fuse (s : State) (n k : Nat) (t : Tile) : (s.setTile n k t).fuse = s.fuse := rfl
@[simp] theorem State.setTile_ref (s : State) (n k : Nat) (t : Tile) : (s.setTile n k t).ref = s.ref := rfl
@[simp] theorem State.setTile_acyc (s : State) (n k : Nat) (t : Tile) : (s.setTile n k t).acyc = s.acyc := rfl
@[simp] theorem State.setTile_regs (s : State) (n k : Nat) (t : Tile) : (s.setTile n k t).regs = s.regs := rfl
@[simp] theorem State.setTile_links (s : State) (n k : Nat) (t : Tile) : (s.setTile n k t).links = s.links := rfl
@[simp] theorem State.setTile_pkts (s : State) (n k : Nat) (t : Tile) : (s.setTile n k t).pkts = s.pkts := rfl
@[simp] theorem State.setTile_image (s : State) (n k : Nat) (t : Tile) : (s.setTile n k t).image = s.image := rfl
@[simp] theorem State.setTile_copy (s : State) (n k : Nat) (t : Tile) : (s.setTile n k t).copy = s.copy := rfl
@[simp] theorem State.setTile_pendingImg (s : State) (n k : Nat) (t : Tile) : (s.setTile n k t).pendingImg = s.pendingImg := rfl
@[simp] theorem State.setTile_tenant (s : State) (n k : Nat) (t : Tile) : (s.setTile n k t).tenant = s.tenant := rfl
@[simp] theorem State.setTile_staging (s : State) (n k : Nat) (t : Tile) : (s.setTile n k t).staging = s.staging := rfl
@[simp] theorem State.setTile_run (s : State) (n k : Nat) (t : Tile) : (s.setTile n k t).run = s.run := rfl
@[simp] theorem State.setTile_invq (s : State) (n k : Nat) (t : Tile) : (s.setTile n k t).invq = s.invq := rfl
@[simp] theorem State.setTile_reports (s : State) (n k : Nat) (t : Tile) : (s.setTile n k t).reports = s.reports := rfl
@[simp] theorem State.setTile_log (s : State) (n k : Nat) (t : Tile) : (s.setTile n k t).log = s.log := rfl
@[simp] theorem State.setTile_rope (s : State) (n k : Nat) (t : Tile) : (s.setTile n k t).rope = s.rope := rfl
@[simp] theorem State.setTile_ports (s : State) (n k : Nat) (t : Tile) : (s.setTile n k t).ports = s.ports := rfl
@[simp] theorem State.setTile_bcl (s : State) (n k : Nat) (t : Tile) : (s.setTile n k t).bcl = s.bcl := rfl
@[simp] theorem State.setTile_pw (s : State) (n k : Nat) (t : Tile) : (s.setTile n k t).pw = s.pw := rfl
@[simp] theorem State.setTile_rst (s : State) (n k : Nat) (t : Tile) : (s.setTile n k t).rst = s.rst := rfl
@[simp] theorem State.setTile_dict (s : State) (n k : Nat) (t : Tile) : (s.setTile n k t).dict = s.dict := rfl
@[simp] theorem State.setTile_ldg (s : State) (n k : Nat) (t : Tile) : (s.setTile n k t).ldg = s.ldg := rfl
@[simp] theorem State.setTile_trust (s : State) (n k : Nat) (t : Tile) : (s.setTile n k t).trust = s.trust := rfl
@[simp] theorem State.setTile_out (s : State) (n k : Nat) (t : Tile) : (s.setTile n k t).out = s.out := rfl
@[simp] theorem State.setTile_free (s : State) (n k : Nat) (t : Tile) : (s.setTile n k t).free = s.free := rfl
@[simp] theorem State.setTile_pending (s : State) (n k : Nat) (t : Tile) : (s.setTile n k t).pending = s.pending := rfl
@[simp] theorem State.mapTiles_fuse (s : State) (n : Nat) (g : Tile → Tile) : (s.mapTiles n g).fuse = s.fuse := rfl
@[simp] theorem State.mapTiles_ref (s : State) (n : Nat) (g : Tile → Tile) : (s.mapTiles n g).ref = s.ref := rfl
@[simp] theorem State.mapTiles_acyc (s : State) (n : Nat) (g : Tile → Tile) : (s.mapTiles n g).acyc = s.acyc := rfl
@[simp] theorem State.mapTiles_regs (s : State) (n : Nat) (g : Tile → Tile) : (s.mapTiles n g).regs = s.regs := rfl
@[simp] theorem State.mapTiles_links (s : State) (n : Nat) (g : Tile → Tile) : (s.mapTiles n g).links = s.links := rfl
@[simp] theorem State.mapTiles_pkts (s : State) (n : Nat) (g : Tile → Tile) : (s.mapTiles n g).pkts = s.pkts := rfl
@[simp] theorem State.mapTiles_image (s : State) (n : Nat) (g : Tile → Tile) : (s.mapTiles n g).image = s.image := rfl
@[simp] theorem State.mapTiles_copy (s : State) (n : Nat) (g : Tile → Tile) : (s.mapTiles n g).copy = s.copy := rfl
@[simp] theorem State.mapTiles_pendingImg (s : State) (n : Nat) (g : Tile → Tile) : (s.mapTiles n g).pendingImg = s.pendingImg := rfl
@[simp] theorem State.mapTiles_tenant (s : State) (n : Nat) (g : Tile → Tile) : (s.mapTiles n g).tenant = s.tenant := rfl
@[simp] theorem State.mapTiles_staging (s : State) (n : Nat) (g : Tile → Tile) : (s.mapTiles n g).staging = s.staging := rfl
@[simp] theorem State.mapTiles_run (s : State) (n : Nat) (g : Tile → Tile) : (s.mapTiles n g).run = s.run := rfl
@[simp] theorem State.mapTiles_invq (s : State) (n : Nat) (g : Tile → Tile) : (s.mapTiles n g).invq = s.invq := rfl
@[simp] theorem State.mapTiles_reports (s : State) (n : Nat) (g : Tile → Tile) : (s.mapTiles n g).reports = s.reports := rfl
@[simp] theorem State.mapTiles_log (s : State) (n : Nat) (g : Tile → Tile) : (s.mapTiles n g).log = s.log := rfl
@[simp] theorem State.mapTiles_rope (s : State) (n : Nat) (g : Tile → Tile) : (s.mapTiles n g).rope = s.rope := rfl
@[simp] theorem State.mapTiles_ports (s : State) (n : Nat) (g : Tile → Tile) : (s.mapTiles n g).ports = s.ports := rfl
@[simp] theorem State.mapTiles_bcl (s : State) (n : Nat) (g : Tile → Tile) : (s.mapTiles n g).bcl = s.bcl := rfl
@[simp] theorem State.mapTiles_pw (s : State) (n : Nat) (g : Tile → Tile) : (s.mapTiles n g).pw = s.pw := rfl
@[simp] theorem State.mapTiles_rst (s : State) (n : Nat) (g : Tile → Tile) : (s.mapTiles n g).rst = s.rst := rfl
@[simp] theorem State.mapTiles_dict (s : State) (n : Nat) (g : Tile → Tile) : (s.mapTiles n g).dict = s.dict := rfl
@[simp] theorem State.mapTiles_ldg (s : State) (n : Nat) (g : Tile → Tile) : (s.mapTiles n g).ldg = s.ldg := rfl
@[simp] theorem State.mapTiles_trust (s : State) (n : Nat) (g : Tile → Tile) : (s.mapTiles n g).trust = s.trust := rfl
@[simp] theorem State.mapTiles_out (s : State) (n : Nat) (g : Tile → Tile) : (s.mapTiles n g).out = s.out := rfl
@[simp] theorem State.mapTiles_free (s : State) (n : Nat) (g : Tile → Tile) : (s.mapTiles n g).free = s.free := rfl
@[simp] theorem State.mapTiles_pending (s : State) (n : Nat) (g : Tile → Tile) : (s.mapTiles n g).pending = s.pending := rfl
@[simp] theorem State.invalidate_fuse (s : State) : (s.invalidate).fuse = s.fuse := rfl
@[simp] theorem State.invalidate_ref (s : State) : (s.invalidate).ref = s.ref := rfl
@[simp] theorem State.invalidate_acyc (s : State) : (s.invalidate).acyc = s.acyc := rfl
@[simp] theorem State.invalidate_regs (s : State) : (s.invalidate).regs = s.regs := rfl
@[simp] theorem State.invalidate_fields (s : State) : (s.invalidate).fields = s.fields := rfl
@[simp] theorem State.invalidate_links (s : State) : (s.invalidate).links = s.links := rfl
@[simp] theorem State.invalidate_pkts (s : State) : (s.invalidate).pkts = s.pkts := rfl
@[simp] theorem State.invalidate_image (s : State) : (s.invalidate).image = s.image := rfl
@[simp] theorem State.invalidate_copy (s : State) : (s.invalidate).copy = s.copy := rfl
@[simp] theorem State.invalidate_pendingImg (s : State) : (s.invalidate).pendingImg = s.pendingImg := rfl
@[simp] theorem State.invalidate_tenant (s : State) : (s.invalidate).tenant = s.tenant := rfl
@[simp] theorem State.invalidate_staging (s : State) : (s.invalidate).staging = s.staging := rfl
@[simp] theorem State.invalidate_invq (s : State) : (s.invalidate).invq = s.invq := rfl
@[simp] theorem State.invalidate_reports (s : State) : (s.invalidate).reports = s.reports := rfl
@[simp] theorem State.invalidate_log (s : State) : (s.invalidate).log = s.log := rfl
@[simp] theorem State.invalidate_rope (s : State) : (s.invalidate).rope = s.rope := rfl
@[simp] theorem State.invalidate_ports (s : State) : (s.invalidate).ports = s.ports := rfl
@[simp] theorem State.invalidate_bcl (s : State) : (s.invalidate).bcl = s.bcl := rfl
@[simp] theorem State.invalidate_pw (s : State) : (s.invalidate).pw = s.pw := rfl
@[simp] theorem State.invalidate_rst (s : State) : (s.invalidate).rst = s.rst := rfl
@[simp] theorem State.invalidate_dict (s : State) : (s.invalidate).dict = s.dict := rfl
@[simp] theorem State.invalidate_ldg (s : State) : (s.invalidate).ldg = s.ldg := rfl
@[simp] theorem State.invalidate_trust (s : State) : (s.invalidate).trust = s.trust := rfl
@[simp] theorem State.invalidate_out (s : State) : (s.invalidate).out = s.out := rfl
@[simp] theorem State.invalidate_free (s : State) : (s.invalidate).free = s.free := rfl
@[simp] theorem State.invalidate_pending (s : State) : (s.invalidate).pending = s.pending := rfl
@[simp] theorem State.warn_fuse (s : State) (k : Nat) (b : Bool) : (s.warn k b).fuse = s.fuse := rfl
@[simp] theorem State.warn_ref (s : State) (k : Nat) (b : Bool) : (s.warn k b).ref = s.ref := rfl
@[simp] theorem State.warn_acyc (s : State) (k : Nat) (b : Bool) : (s.warn k b).acyc = s.acyc := rfl
@[simp] theorem State.warn_regs (s : State) (k : Nat) (b : Bool) : (s.warn k b).regs = s.regs := rfl
@[simp] theorem State.warn_fields (s : State) (k : Nat) (b : Bool) : (s.warn k b).fields = s.fields := rfl
@[simp] theorem State.warn_links (s : State) (k : Nat) (b : Bool) : (s.warn k b).links = s.links := rfl
@[simp] theorem State.warn_pkts (s : State) (k : Nat) (b : Bool) : (s.warn k b).pkts = s.pkts := rfl
@[simp] theorem State.warn_image (s : State) (k : Nat) (b : Bool) : (s.warn k b).image = s.image := rfl
@[simp] theorem State.warn_copy (s : State) (k : Nat) (b : Bool) : (s.warn k b).copy = s.copy := rfl
@[simp] theorem State.warn_pendingImg (s : State) (k : Nat) (b : Bool) : (s.warn k b).pendingImg = s.pendingImg := rfl
@[simp] theorem State.warn_tenant (s : State) (k : Nat) (b : Bool) : (s.warn k b).tenant = s.tenant := rfl
@[simp] theorem State.warn_staging (s : State) (k : Nat) (b : Bool) : (s.warn k b).staging = s.staging := rfl
@[simp] theorem State.warn_run (s : State) (k : Nat) (b : Bool) : (s.warn k b).run = s.run := rfl
@[simp] theorem State.warn_invq (s : State) (k : Nat) (b : Bool) : (s.warn k b).invq = s.invq := rfl
@[simp] theorem State.warn_reports (s : State) (k : Nat) (b : Bool) : (s.warn k b).reports = s.reports := rfl
@[simp] theorem State.warn_log (s : State) (k : Nat) (b : Bool) : (s.warn k b).log = s.log := rfl
@[simp] theorem State.warn_rope (s : State) (k : Nat) (b : Bool) : (s.warn k b).rope = s.rope := rfl
@[simp] theorem State.warn_ports (s : State) (k : Nat) (b : Bool) : (s.warn k b).ports = s.ports := rfl
@[simp] theorem State.warn_bcl (s : State) (k : Nat) (b : Bool) : (s.warn k b).bcl = s.bcl := rfl
@[simp] theorem State.warn_rst (s : State) (k : Nat) (b : Bool) : (s.warn k b).rst = s.rst := rfl
@[simp] theorem State.warn_dict (s : State) (k : Nat) (b : Bool) : (s.warn k b).dict = s.dict := rfl
@[simp] theorem State.warn_ldg (s : State) (k : Nat) (b : Bool) : (s.warn k b).ldg = s.ldg := rfl
@[simp] theorem State.warn_trust (s : State) (k : Nat) (b : Bool) : (s.warn k b).trust = s.trust := rfl
@[simp] theorem State.warn_out (s : State) (k : Nat) (b : Bool) : (s.warn k b).out = s.out := rfl
@[simp] theorem State.warn_free (s : State) (k : Nat) (b : Bool) : (s.warn k b).free = s.free := rfl
@[simp] theorem State.warn_pending (s : State) (k : Nat) (b : Bool) : (s.warn k b).pending = s.pending := rfl
@[simp] theorem State.setRail_fuse (s : State) (n k : Nat) (b : Bool) : (s.setRail n k b).fuse = s.fuse := rfl
@[simp] theorem State.setRail_ref (s : State) (n k : Nat) (b : Bool) : (s.setRail n k b).ref = s.ref := rfl
@[simp] theorem State.setRail_acyc (s : State) (n k : Nat) (b : Bool) : (s.setRail n k b).acyc = s.acyc := rfl
@[simp] theorem State.setRail_fields (s : State) (n k : Nat) (b : Bool) : (s.setRail n k b).fields = s.fields := rfl
@[simp] theorem State.setRail_links (s : State) (n k : Nat) (b : Bool) : (s.setRail n k b).links = s.links := rfl
@[simp] theorem State.setRail_pkts (s : State) (n k : Nat) (b : Bool) : (s.setRail n k b).pkts = s.pkts := rfl
@[simp] theorem State.setRail_image (s : State) (n k : Nat) (b : Bool) : (s.setRail n k b).image = s.image := rfl
@[simp] theorem State.setRail_copy (s : State) (n k : Nat) (b : Bool) : (s.setRail n k b).copy = s.copy := rfl
@[simp] theorem State.setRail_pendingImg (s : State) (n k : Nat) (b : Bool) : (s.setRail n k b).pendingImg = s.pendingImg := rfl
@[simp] theorem State.setRail_tenant (s : State) (n k : Nat) (b : Bool) : (s.setRail n k b).tenant = s.tenant := rfl
@[simp] theorem State.setRail_staging (s : State) (n k : Nat) (b : Bool) : (s.setRail n k b).staging = s.staging := rfl
@[simp] theorem State.setRail_run (s : State) (n k : Nat) (b : Bool) : (s.setRail n k b).run = s.run := rfl
@[simp] theorem State.setRail_invq (s : State) (n k : Nat) (b : Bool) : (s.setRail n k b).invq = s.invq := rfl
@[simp] theorem State.setRail_reports (s : State) (n k : Nat) (b : Bool) : (s.setRail n k b).reports = s.reports := rfl
@[simp] theorem State.setRail_log (s : State) (n k : Nat) (b : Bool) : (s.setRail n k b).log = s.log := rfl
@[simp] theorem State.setRail_rope (s : State) (n k : Nat) (b : Bool) : (s.setRail n k b).rope = s.rope := rfl
@[simp] theorem State.setRail_ports (s : State) (n k : Nat) (b : Bool) : (s.setRail n k b).ports = s.ports := rfl
@[simp] theorem State.setRail_bcl (s : State) (n k : Nat) (b : Bool) : (s.setRail n k b).bcl = s.bcl := rfl
@[simp] theorem State.setRail_pw (s : State) (n k : Nat) (b : Bool) : (s.setRail n k b).pw = s.pw := rfl
@[simp] theorem State.setRail_rst (s : State) (n k : Nat) (b : Bool) : (s.setRail n k b).rst = s.rst := rfl
@[simp] theorem State.setRail_dict (s : State) (n k : Nat) (b : Bool) : (s.setRail n k b).dict = s.dict := rfl
@[simp] theorem State.setRail_ldg (s : State) (n k : Nat) (b : Bool) : (s.setRail n k b).ldg = s.ldg := rfl
@[simp] theorem State.setRail_trust (s : State) (n k : Nat) (b : Bool) : (s.setRail n k b).trust = s.trust := rfl
@[simp] theorem State.setRail_out (s : State) (n k : Nat) (b : Bool) : (s.setRail n k b).out = s.out := rfl
@[simp] theorem State.setRail_free (s : State) (n k : Nat) (b : Bool) : (s.setRail n k b).free = s.free := rfl
@[simp] theorem State.setRail_pending (s : State) (n k : Nat) (b : Bool) : (s.setRail n k b).pending = s.pending := rfl
@[simp] theorem State.setLock_fuse (s : State) (n : Nat) (b : Bool) : (s.setLock n b).fuse = s.fuse := rfl
@[simp] theorem State.setLock_ref (s : State) (n : Nat) (b : Bool) : (s.setLock n b).ref = s.ref := rfl
@[simp] theorem State.setLock_acyc (s : State) (n : Nat) (b : Bool) : (s.setLock n b).acyc = s.acyc := rfl
@[simp] theorem State.setLock_fields (s : State) (n : Nat) (b : Bool) : (s.setLock n b).fields = s.fields := rfl
@[simp] theorem State.setLock_links (s : State) (n : Nat) (b : Bool) : (s.setLock n b).links = s.links := rfl
@[simp] theorem State.setLock_pkts (s : State) (n : Nat) (b : Bool) : (s.setLock n b).pkts = s.pkts := rfl
@[simp] theorem State.setLock_image (s : State) (n : Nat) (b : Bool) : (s.setLock n b).image = s.image := rfl
@[simp] theorem State.setLock_copy (s : State) (n : Nat) (b : Bool) : (s.setLock n b).copy = s.copy := rfl
@[simp] theorem State.setLock_pendingImg (s : State) (n : Nat) (b : Bool) : (s.setLock n b).pendingImg = s.pendingImg := rfl
@[simp] theorem State.setLock_tenant (s : State) (n : Nat) (b : Bool) : (s.setLock n b).tenant = s.tenant := rfl
@[simp] theorem State.setLock_staging (s : State) (n : Nat) (b : Bool) : (s.setLock n b).staging = s.staging := rfl
@[simp] theorem State.setLock_run (s : State) (n : Nat) (b : Bool) : (s.setLock n b).run = s.run := rfl
@[simp] theorem State.setLock_invq (s : State) (n : Nat) (b : Bool) : (s.setLock n b).invq = s.invq := rfl
@[simp] theorem State.setLock_reports (s : State) (n : Nat) (b : Bool) : (s.setLock n b).reports = s.reports := rfl
@[simp] theorem State.setLock_log (s : State) (n : Nat) (b : Bool) : (s.setLock n b).log = s.log := rfl
@[simp] theorem State.setLock_rope (s : State) (n : Nat) (b : Bool) : (s.setLock n b).rope = s.rope := rfl
@[simp] theorem State.setLock_ports (s : State) (n : Nat) (b : Bool) : (s.setLock n b).ports = s.ports := rfl
@[simp] theorem State.setLock_bcl (s : State) (n : Nat) (b : Bool) : (s.setLock n b).bcl = s.bcl := rfl
@[simp] theorem State.setLock_pw (s : State) (n : Nat) (b : Bool) : (s.setLock n b).pw = s.pw := rfl
@[simp] theorem State.setLock_rst (s : State) (n : Nat) (b : Bool) : (s.setLock n b).rst = s.rst := rfl
@[simp] theorem State.setLock_dict (s : State) (n : Nat) (b : Bool) : (s.setLock n b).dict = s.dict := rfl
@[simp] theorem State.setLock_ldg (s : State) (n : Nat) (b : Bool) : (s.setLock n b).ldg = s.ldg := rfl
@[simp] theorem State.setLock_trust (s : State) (n : Nat) (b : Bool) : (s.setLock n b).trust = s.trust := rfl
@[simp] theorem State.setLock_out (s : State) (n : Nat) (b : Bool) : (s.setLock n b).out = s.out := rfl
@[simp] theorem State.setLock_free (s : State) (n : Nat) (b : Bool) : (s.setLock n b).free = s.free := rfl
@[simp] theorem State.setLock_pending (s : State) (n : Nat) (b : Bool) : (s.setLock n b).pending = s.pending := rfl
@[simp] theorem State.updPort_fuse (s : State) (p : Nat) (g : HxPort → HxPort) : (s.updPort p g).fuse = s.fuse := rfl
@[simp] theorem State.updPort_ref (s : State) (p : Nat) (g : HxPort → HxPort) : (s.updPort p g).ref = s.ref := rfl
@[simp] theorem State.updPort_acyc (s : State) (p : Nat) (g : HxPort → HxPort) : (s.updPort p g).acyc = s.acyc := rfl
@[simp] theorem State.updPort_regs (s : State) (p : Nat) (g : HxPort → HxPort) : (s.updPort p g).regs = s.regs := rfl
@[simp] theorem State.updPort_fields (s : State) (p : Nat) (g : HxPort → HxPort) : (s.updPort p g).fields = s.fields := rfl
@[simp] theorem State.updPort_links (s : State) (p : Nat) (g : HxPort → HxPort) : (s.updPort p g).links = s.links := rfl
@[simp] theorem State.updPort_pkts (s : State) (p : Nat) (g : HxPort → HxPort) : (s.updPort p g).pkts = s.pkts := rfl
@[simp] theorem State.updPort_image (s : State) (p : Nat) (g : HxPort → HxPort) : (s.updPort p g).image = s.image := rfl
@[simp] theorem State.updPort_copy (s : State) (p : Nat) (g : HxPort → HxPort) : (s.updPort p g).copy = s.copy := rfl
@[simp] theorem State.updPort_pendingImg (s : State) (p : Nat) (g : HxPort → HxPort) : (s.updPort p g).pendingImg = s.pendingImg := rfl
@[simp] theorem State.updPort_tenant (s : State) (p : Nat) (g : HxPort → HxPort) : (s.updPort p g).tenant = s.tenant := rfl
@[simp] theorem State.updPort_staging (s : State) (p : Nat) (g : HxPort → HxPort) : (s.updPort p g).staging = s.staging := rfl
@[simp] theorem State.updPort_run (s : State) (p : Nat) (g : HxPort → HxPort) : (s.updPort p g).run = s.run := rfl
@[simp] theorem State.updPort_invq (s : State) (p : Nat) (g : HxPort → HxPort) : (s.updPort p g).invq = s.invq := rfl
@[simp] theorem State.updPort_reports (s : State) (p : Nat) (g : HxPort → HxPort) : (s.updPort p g).reports = s.reports := rfl
@[simp] theorem State.updPort_log (s : State) (p : Nat) (g : HxPort → HxPort) : (s.updPort p g).log = s.log := rfl
@[simp] theorem State.updPort_rope (s : State) (p : Nat) (g : HxPort → HxPort) : (s.updPort p g).rope = s.rope := rfl
@[simp] theorem State.updPort_bcl (s : State) (p : Nat) (g : HxPort → HxPort) : (s.updPort p g).bcl = s.bcl := rfl
@[simp] theorem State.updPort_pw (s : State) (p : Nat) (g : HxPort → HxPort) : (s.updPort p g).pw = s.pw := rfl
@[simp] theorem State.updPort_rst (s : State) (p : Nat) (g : HxPort → HxPort) : (s.updPort p g).rst = s.rst := rfl
@[simp] theorem State.updPort_dict (s : State) (p : Nat) (g : HxPort → HxPort) : (s.updPort p g).dict = s.dict := rfl
@[simp] theorem State.updPort_ldg (s : State) (p : Nat) (g : HxPort → HxPort) : (s.updPort p g).ldg = s.ldg := rfl
@[simp] theorem State.updPort_trust (s : State) (p : Nat) (g : HxPort → HxPort) : (s.updPort p g).trust = s.trust := rfl
@[simp] theorem State.updPort_out (s : State) (p : Nat) (g : HxPort → HxPort) : (s.updPort p g).out = s.out := rfl
@[simp] theorem State.updPort_free (s : State) (p : Nat) (g : HxPort → HxPort) : (s.updPort p g).free = s.free := rfl
@[simp] theorem State.updPort_pending (s : State) (p : Nat) (g : HxPort → HxPort) : (s.updPort p g).pending = s.pending := rfl
@[simp] theorem State.moduleFault_fuse (s : State) (a b c d : Nat) (e : Bool) : (s.moduleFault a b c d e).fuse = s.fuse := rfl
@[simp] theorem State.moduleFault_ref (s : State) (a b c d : Nat) (e : Bool) : (s.moduleFault a b c d e).ref = s.ref := rfl
@[simp] theorem State.moduleFault_acyc (s : State) (a b c d : Nat) (e : Bool) : (s.moduleFault a b c d e).acyc = s.acyc := rfl
@[simp] theorem State.moduleFault_regs (s : State) (a b c d : Nat) (e : Bool) : (s.moduleFault a b c d e).regs = s.regs := rfl
@[simp] theorem State.moduleFault_fields (s : State) (a b c d : Nat) (e : Bool) : (s.moduleFault a b c d e).fields = s.fields := rfl
@[simp] theorem State.moduleFault_links (s : State) (a b c d : Nat) (e : Bool) : (s.moduleFault a b c d e).links = s.links := rfl
@[simp] theorem State.moduleFault_pkts (s : State) (a b c d : Nat) (e : Bool) : (s.moduleFault a b c d e).pkts = s.pkts := rfl
@[simp] theorem State.moduleFault_image (s : State) (a b c d : Nat) (e : Bool) : (s.moduleFault a b c d e).image = s.image := rfl
@[simp] theorem State.moduleFault_copy (s : State) (a b c d : Nat) (e : Bool) : (s.moduleFault a b c d e).copy = s.copy := rfl
@[simp] theorem State.moduleFault_pendingImg (s : State) (a b c d : Nat) (e : Bool) : (s.moduleFault a b c d e).pendingImg = s.pendingImg := rfl
@[simp] theorem State.moduleFault_tenant (s : State) (a b c d : Nat) (e : Bool) : (s.moduleFault a b c d e).tenant = s.tenant := rfl
@[simp] theorem State.moduleFault_staging (s : State) (a b c d : Nat) (e : Bool) : (s.moduleFault a b c d e).staging = s.staging := rfl
@[simp] theorem State.moduleFault_run (s : State) (a b c d : Nat) (e : Bool) : (s.moduleFault a b c d e).run = s.run := rfl
@[simp] theorem State.moduleFault_invq (s : State) (a b c d : Nat) (e : Bool) : (s.moduleFault a b c d e).invq = s.invq := rfl
@[simp] theorem State.moduleFault_log (s : State) (a b c d : Nat) (e : Bool) : (s.moduleFault a b c d e).log = s.log := rfl
@[simp] theorem State.moduleFault_rope (s : State) (a b c d : Nat) (e : Bool) : (s.moduleFault a b c d e).rope = s.rope := rfl
@[simp] theorem State.moduleFault_ports (s : State) (a b c d : Nat) (e : Bool) : (s.moduleFault a b c d e).ports = s.ports := rfl
@[simp] theorem State.moduleFault_bcl (s : State) (a b c d : Nat) (e : Bool) : (s.moduleFault a b c d e).bcl = s.bcl := rfl
@[simp] theorem State.moduleFault_pw (s : State) (a b c d : Nat) (e : Bool) : (s.moduleFault a b c d e).pw = s.pw := rfl
@[simp] theorem State.moduleFault_rst (s : State) (a b c d : Nat) (e : Bool) : (s.moduleFault a b c d e).rst = s.rst := rfl
@[simp] theorem State.moduleFault_dict (s : State) (a b c d : Nat) (e : Bool) : (s.moduleFault a b c d e).dict = s.dict := rfl
@[simp] theorem State.moduleFault_ldg (s : State) (a b c d : Nat) (e : Bool) : (s.moduleFault a b c d e).ldg = s.ldg := rfl
@[simp] theorem State.moduleFault_trust (s : State) (a b c d : Nat) (e : Bool) : (s.moduleFault a b c d e).trust = s.trust := rfl
@[simp] theorem State.moduleFault_out (s : State) (a b c d : Nat) (e : Bool) : (s.moduleFault a b c d e).out = s.out := rfl
@[simp] theorem State.moduleFault_free (s : State) (a b c d : Nat) (e : Bool) : (s.moduleFault a b c d e).free = s.free := rfl
@[simp] theorem State.moduleFault_pending (s : State) (a b c d : Nat) (e : Bool) : (s.moduleFault a b c d e).pending = s.pending := rfl
@[simp] theorem State.emit_reg (s : State) (c : Chan) (p g : Nat) (b : List Nat) (f : Fld) (i j : Nat) : (s.emit c p g b).reg f i j = s.reg f i j := rfl
@[simp] theorem State.tick_reg (s : State) (f : Fld) (i j : Nat) : (s.tick).reg f i j = s.reg f i j := rfl
@[simp] theorem State.fresh_reg (s : State) (f : Fld) (i j : Nat) : (s.fresh.2).reg f i j = s.reg f i j := rfl
@[simp] theorem State.setOd_reg (s : State) (a b v : Nat) (f : Fld) (i j : Nat) : (s.setOd a b v).reg f i j = s.reg f i j := rfl
@[simp] theorem State.updField_reg (s : State) (n : Nat) (g : FieldSt → FieldSt) (f : Fld) (i j : Nat) : (s.updField n g).reg f i j = s.reg f i j := rfl
@[simp] theorem State.setTile_reg (s : State) (n k : Nat) (t : Tile) (f : Fld) (i j : Nat) : (s.setTile n k t).reg f i j = s.reg f i j := rfl
@[simp] theorem State.mapTiles_reg (s : State) (n : Nat) (g : Tile → Tile) (f : Fld) (i j : Nat) : (s.mapTiles n g).reg f i j = s.reg f i j := rfl
@[simp] theorem State.invalidate_reg (s : State) (f : Fld) (i j : Nat) : (s.invalidate).reg f i j = s.reg f i j := rfl
@[simp] theorem State.warn_reg (s : State) (k : Nat) (b : Bool) (f : Fld) (i j : Nat) : (s.warn k b).reg f i j = s.reg f i j := rfl
@[simp] theorem State.updPort_reg (s : State) (p : Nat) (g : HxPort → HxPort) (f : Fld) (i j : Nat) : (s.updPort p g).reg f i j = s.reg f i j := rfl
@[simp] theorem State.moduleFault_reg (s : State) (a b c d : Nat) (e : Bool) (f : Fld) (i j : Nat) : (s.moduleFault a b c d e).reg f i j = s.reg f i j := rfl
@[simp] theorem State.emit_od (s : State) (c : Chan) (p g : Nat) (b : List Nat) (m q : Nat) : (s.emit c p g b).od m q = s.od m q := rfl
@[simp] theorem State.emit_odEff (s : State) (c : Chan) (p g : Nat) (b : List Nat) (m q : Nat) : (s.emit c p g b).odEff m q = s.odEff m q := rfl
@[simp] theorem State.emit_field (s : State) (c : Chan) (p g : Nat) (b : List Nat) (m : Nat) : (s.emit c p g b).field m = s.field m := rfl
@[simp] theorem State.tick_od (s : State) (m q : Nat) : (s.tick).od m q = s.od m q := rfl
@[simp] theorem State.tick_odEff (s : State) (m q : Nat) : (s.tick).odEff m q = s.odEff m q := rfl
@[simp] theorem State.tick_field (s : State) (m : Nat) : (s.tick).field m = s.field m := rfl
@[simp] theorem State.fresh_od (s : State) (m q : Nat) : (s.fresh.2).od m q = s.od m q := rfl
@[simp] theorem State.fresh_odEff (s : State) (m q : Nat) : (s.fresh.2).odEff m q = s.odEff m q := rfl
@[simp] theorem State.fresh_field (s : State) (m : Nat) : (s.fresh.2).field m = s.field m := rfl
@[simp] theorem State.setOd_field (s : State) (a b v : Nat) (m : Nat) : (s.setOd a b v).field m = s.field m := rfl
@[simp] theorem State.updField_od (s : State) (n : Nat) (g : FieldSt → FieldSt) (m q : Nat) : (s.updField n g).od m q = s.od m q := rfl
@[simp] theorem State.updField_odEff (s : State) (n : Nat) (g : FieldSt → FieldSt) (m q : Nat) : (s.updField n g).odEff m q = s.odEff m q := rfl
@[simp] theorem State.setTile_od (s : State) (n k : Nat) (t : Tile) (m q : Nat) : (s.setTile n k t).od m q = s.od m q := rfl
@[simp] theorem State.setTile_odEff (s : State) (n k : Nat) (t : Tile) (m q : Nat) : (s.setTile n k t).odEff m q = s.odEff m q := rfl
@[simp] theorem State.mapTiles_od (s : State) (n : Nat) (g : Tile → Tile) (m q : Nat) : (s.mapTiles n g).od m q = s.od m q := rfl
@[simp] theorem State.mapTiles_odEff (s : State) (n : Nat) (g : Tile → Tile) (m q : Nat) : (s.mapTiles n g).odEff m q = s.odEff m q := rfl
@[simp] theorem State.invalidate_od (s : State) (m q : Nat) : (s.invalidate).od m q = s.od m q := rfl
@[simp] theorem State.invalidate_odEff (s : State) (m q : Nat) : (s.invalidate).odEff m q = s.odEff m q := rfl
@[simp] theorem State.invalidate_field (s : State) (m : Nat) : (s.invalidate).field m = s.field m := rfl
@[simp] theorem State.warn_od (s : State) (k : Nat) (b : Bool) (m q : Nat) : (s.warn k b).od m q = s.od m q := rfl
@[simp] theorem State.warn_odEff (s : State) (k : Nat) (b : Bool) (m q : Nat) : (s.warn k b).odEff m q = s.odEff m q := rfl
@[simp] theorem State.warn_field (s : State) (k : Nat) (b : Bool) (m : Nat) : (s.warn k b).field m = s.field m := rfl
@[simp] theorem State.updPort_od (s : State) (p : Nat) (g : HxPort → HxPort) (m q : Nat) : (s.updPort p g).od m q = s.od m q := rfl
@[simp] theorem State.updPort_odEff (s : State) (p : Nat) (g : HxPort → HxPort) (m q : Nat) : (s.updPort p g).odEff m q = s.odEff m q := rfl
@[simp] theorem State.updPort_field (s : State) (p : Nat) (g : HxPort → HxPort) (m : Nat) : (s.updPort p g).field m = s.field m := rfl
@[simp] theorem State.moduleFault_od (s : State) (a b c d : Nat) (e : Bool) (m q : Nat) : (s.moduleFault a b c d e).od m q = s.od m q := rfl
@[simp] theorem State.moduleFault_odEff (s : State) (a b c d : Nat) (e : Bool) (m q : Nat) : (s.moduleFault a b c d e).odEff m q = s.odEff m q := rfl
@[simp] theorem State.moduleFault_field (s : State) (a b c d : Nat) (e : Bool) (m : Nat) : (s.moduleFault a b c d e).field m = s.field m := rfl
@[simp] theorem State.setReg_od (s : State) (f : Fld) (v i j : Nat) (m q : Nat) : (s.setReg f v i j).od m q = s.od m q := rfl
@[simp] theorem State.setReg_odEff (s : State) (f : Fld) (v i j : Nat) (m q : Nat) : (s.setReg f v i j).odEff m q = s.odEff m q := rfl
@[simp] theorem State.setReg_field (s : State) (f : Fld) (v i j : Nat) (m : Nat) : (s.setReg f v i j).field m = s.field m := rfl
@[simp] theorem State.satReg_od (s : State) (f : Fld) (i n : Nat) (m q : Nat) : (s.satReg f i n).od m q = s.od m q := rfl
@[simp] theorem State.satReg_odEff (s : State) (f : Fld) (i n : Nat) (m q : Nat) : (s.satReg f i n).odEff m q = s.odEff m q := rfl
@[simp] theorem State.satReg_field (s : State) (f : Fld) (i n : Nat) (m : Nat) : (s.satReg f i n).field m = s.field m := rfl
@[simp] theorem State.addReg_od (s : State) (f : Fld) (i n : Nat) (m q : Nat) : (s.addReg f i n).od m q = s.od m q := rfl
@[simp] theorem State.addReg_odEff (s : State) (f : Fld) (i n : Nat) (m q : Nat) : (s.addReg f i n).odEff m q = s.odEff m q := rfl
@[simp] theorem State.addReg_field (s : State) (f : Fld) (i n : Nat) (m : Nat) : (s.addReg f i n).field m = s.field m := rfl
@[simp] theorem State.cmd_od (s : State) (a b : Fld) (x c i : Nat) (m q : Nat) : (s.cmd a b x c i).od m q = s.od m q := rfl
@[simp] theorem State.cmd_odEff (s : State) (a b : Fld) (x c i : Nat) (m q : Nat) : (s.cmd a b x c i).odEff m q = s.odEff m q := rfl
@[simp] theorem State.cmd_field (s : State) (a b : Fld) (x c i : Nat) (m : Nat) : (s.cmd a b x c i).field m = s.field m := rfl
@[simp] theorem State.setRail_od (s : State) (n k : Nat) (b : Bool) (m q : Nat) : (s.setRail n k b).od m q = s.od m q := rfl
@[simp] theorem State.setRail_odEff (s : State) (n k : Nat) (b : Bool) (m q : Nat) : (s.setRail n k b).odEff m q = s.odEff m q := rfl
@[simp] theorem State.setRail_field (s : State) (n k : Nat) (b : Bool) (m : Nat) : (s.setRail n k b).field m = s.field m := rfl
@[simp] theorem State.setLock_od (s : State) (n : Nat) (b : Bool) (m q : Nat) : (s.setLock n b).od m q = s.od m q := rfl
@[simp] theorem State.setLock_odEff (s : State) (n : Nat) (b : Bool) (m q : Nat) : (s.setLock n b).odEff m q = s.odEff m q := rfl
@[simp] theorem State.setLock_field (s : State) (n : Nat) (b : Bool) (m : Nat) : (s.setLock n b).field m = s.field m := rfl

end Sys2Proof.Machine
end

