-- ==== Sys2Proof/Laws/Tile.lean ====
section
/-!
SUPPORT. Sys2Proof/Laws/Tile.lean: reads after writes of tiles, tile registers and dictionary entries, what a fault adds to the
fault path, and folds that keep a part of the state.
-/

set_option Elab.async false

namespace Sys2Proof.Machine

/-! ### Tiles -/

/-- A write leaves every other key alone, whatever an unlisted key reads as. -/
theorem SMap.get_set_other_any {α : Type} [DecidableEq α] (d b : α) (m : SMap α) (i j : Nat) (v : α) (h : j ≠ i) :
    SMap.get d (SMap.set b m i v) j = SMap.get d m j := by
  unfold SMap.set
  split
  · exact SMap.get_filter_other d m i j h
  · exact SMap.get_ins_other d m i j v h

/-- What an unlisted tile is does not change where a tile is written. -/
@[simp] theorem State.tileBase_setTile (s : State) (f key g k : Nat) (t : Tile) :
    (s.setTile f key t).tileBase g k = s.tileBase g k := by
  have h : ((s.setTile f key t).field g).logical = (s.field g).logical ∧
      ((s.setTile f key t).field g).spare = (s.field g).spare := by
    by_cases e : g = f
    · subst e; constructor <;> simp [State.setTile]
    · constructor <;> simp [State.setTile, State.field_updField_other _ _ _ _ e]
  unfold State.tileBase
  rw [h.1, h.2]
  rfl

/-- A tile reads what was written. -/
@[simp] theorem State.tile_setTile_same (s : State) (f key : Nat) (t : Tile) : (s.setTile f key t).tile f key = t := by
  unfold State.tile
  rw [State.tileBase_setTile]
  simp [State.setTile]

/-- Every other tile is as before. -/
theorem State.tile_setTile_other (s : State) (f key g k : Nat) (t : Tile) (h : ¬ (g = f ∧ k = key)) :
    (s.setTile f key t).tile g k = s.tile g k := by
  unfold State.tile
  rw [State.tileBase_setTile]
  by_cases e : g = f
  · subst e
    have hk : k ≠ key := fun x => h ⟨rfl, x⟩
    simp [State.setTile, SMap.get_set_other_any _ _ _ _ _ _ hk]
  · simp [State.setTile, State.field_updField_other _ _ _ _ e]

/-- A tile is found at the same place after a tile is written. -/
@[simp] theorem State.locate_setTile (s : State) (f key a : Nat) (t : Tile) : (s.setTile f key t).locate a = s.locate a := rfl

/-- A tile register field reads what was written, cut to its width. -/
@[simp] theorem Tile.reg_setReg_same (t : Tile) (f : Fld) (v j : Nat) : (t.setReg f v j).reg f j = v % 2 ^ f.w :=
  RegFile.get_set_same ..

/-- A write leaves the tile register fields with another key alone. -/
theorem Tile.reg_setReg_other (t : Tile) (f g : Fld) (v i j : Nat) (h : g.key 0 j ≠ f.key 0 i) :
    (t.setReg f v i).reg g j = t.reg g j := RegFile.get_set_other _ _ _ _ _ _ _ _ h

/-- A test that every changed tile passes is passed by every tile of a field in which all tiles are changed. -/
theorem State.everyTile_mapTiles (s : State) (f : Nat) (g : Tile → Tile) (p : Tile → Prop) (h : ∀ x, p (g x)) :
    (s.mapTiles f g).everyTile f p := by
  refine ⟨?_, ?_, fun e he => ?_⟩ <;> simp only [State.mapTiles, State.field_updField_same] at *
  · exact h _
  · exact h _
  · obtain ⟨x, -, rfl⟩ := List.mem_map.1 (List.mem_filter.1 he).1
    exact h _

/-- A field in which no tile is changed is as before. -/
theorem State.field_mapTiles_other (s : State) (f k : Nat) (g : Tile → Tile) (h : k ≠ f) :
    (s.mapTiles f g).field k = s.field k := State.field_updField_other _ _ _ _ h

/-! ### Dictionary entries -/

/-- An entry reads what was written. -/
@[simp] theorem State.od_setOd_same (s : State) (ix sub v : Nat) : (s.setOd ix sub v).od ix sub = v := by
  unfold State.od State.setOd
  rw [SMap.get_set_same]

/-- A write leaves the other entries alone, but for those whose default another entry gives. -/
theorem State.od_setOd_other (s : State) (ix sub jx sub' v : Nat) (h : odKey jx sub' ≠ odKey ix sub)
    (hd : ∀ e, (s.setOd ix sub v).odDefault e = s.odDefault e) : (s.setOd ix sub v).od jx sub' = s.od jx sub' := by
  have hw : SMap.get 0 (s.setOd ix sub v).dict.work (odKey jx sub') = SMap.get 0 s.dict.work (odKey jx sub') :=
    SMap.get_set_other (α := Nat) 0 s.dict.work (odKey ix sub) (odKey jx sub') (v + 1) h
  unfold State.od
  rw [hw]
  simp only [hd]

/-! ### The fault path -/

/-- A fault of the module adds one report, with its code, behind those that wait. -/
theorem State.reports1_moduleFault (s t : State) (subject code field detail : Nat) (trig : Bool) (h : t.reports = s.reports) :
    s.reports1 (t.moduleFault subject code field detail trig) code :=
  ⟨_, by show t.reports ++ _ = _; rw [h], rfl⟩

/-- The last report after a fault of the module has its code. -/
theorem State.lastReport_moduleFault (s : State) (subject code field detail : Nat) (trig : Bool) :
    (s.moduleFault subject code field detail trig).lastReport code := ⟨_, _, rfl, rfl⟩

/-! ### Folds -/

/-- What no step of a fold changes, the fold does not change. -/
theorem foldl_keeps {α β : Type} (p : State → β) (g : State → α → State) (h : ∀ s x, p (g s x) = p s) (l : List α) (s : State) :
    p (l.foldl g s) = p s := by
  induction l generalizing s with
  | nil => rfl
  | cons a r ih => rw [List.foldl_cons, ih, h]

/-! ### CRC-32C -/

theorem crcBit_lt (c : Nat) (h : c < 2 ^ 32) : crcBit c < 2 ^ 32 := by
  unfold crcBit
  split
  · exact Nat.xor_lt_two_pow (by omega) (by norm_num)
  · omega

theorem crcByte_lt (c b : Nat) (h : c < 2 ^ 32) : crcByte c b < 2 ^ 32 := by
  have step : ∀ (l : List Nat) (c : Nat), c < 2 ^ 32 → l.foldl (fun c _ => crcBit c) c < 2 ^ 32 := by
    intro l
    induction l with
    | nil => exact fun c h => h
    | cons a r ih => exact fun c h => ih _ (crcBit_lt c h)
  exact step _ _ (Nat.xor_lt_two_pow h (by omega))

/-- A CRC-32C fits its four bytes. -/
theorem crc32c_lt (l : List Nat) : crc32c l < 2 ^ 32 := by
  have step : ∀ (l : List Nat) (c : Nat), c < 2 ^ 32 → l.foldl crcByte c < 2 ^ 32 := by
    intro l
    induction l with
    | nil => exact fun c h => h
    | cons a r ih => exact fun c h => ih _ (crcByte_lt c a h)
  exact Nat.xor_lt_two_pow (step l _ (by norm_num)) (by norm_num)

end Sys2Proof.Machine
end

