-- ==== Sys2Proof/Tests/Slice0.lean ====
section
/-!
SUPPORT. Sys2Proof/Tests/Slice0.lean: ill-formed commands, worked examples of the spec, and for every statement with hypotheses
a theorem that gives, clause by clause, a state and operands that meet them together.
-/

open Sys2Proof Sys2Proof.Machine

namespace Sys2Proof.Tests

set_option Elab.async false

/-- The state after reset with register fields written: each entry gives a field, its index and its value. -/
def regsOf (l : List (Fld × Nat × Nat)) : State := l.foldl (fun s e => s.setReg e.1 e.2.2 e.2.1) State.reset

/-- The state after reset with the rails of field 0 on and its tile at place 0 given. -/
def tileOf (t : Tile) : State := (State.reset.setReg F.FLD_PWR_RAILS 3 0).setTile 0 0 t

/-- An image by its bytes. -/
def imgOf (l : SMap (BitVec 8)) : Img := ⟨⟨0x1000000, l⟩⟩

/-- An image of one ACTIVE field, one section of 4,096 acycles and one entry, with more bytes. -/
def oneSection (l : SMap (BitVec 8)) : Img :=
  imgOf ([(0x28, 2), (0x3C, 1), (0x3E, 1), (0x49, 0x10), (0x59, 0x20)] ++ l ++ [(0x1001, 0x10), (0x1007, 1), (0x1009, 0x10)])

/-- A cell of module 0 by its type and body. -/
def cellTo (type : Nat) (body : List Nat) : Cell := ⟨false, 0, 0, type, 0, 0, 0, 0, body⟩

/-- The state after reset with cells delivered to Base Camp. -/
def cellsOf (l : List Cell) (s : State) : State := { s with bcl := { BcLink.zero with cells := l.map (fun c => (0, c)) } }

/-- A control core in a handler whose next instruction is a word. -/
def coreOf (w : Nat) : CCore :=
  { CCore.zero with
    state := .handler
    imem := SMap.setList 0 [] 0 ((List.range 4).map (fun k => BitVec.ofNat 8 (w / 256 ^ k))) }

/-- A packet from tile 0 to tile 0 without payload: mesh, class and slot. -/
def packetOf (reply : Bool) (cls : BitVec 2) : Packet := ⟨reply, false, 0, 0, cls, 0, 0, 0, []⟩

/-- The state after reset with port 0 in a training state and its contents given. -/
def portOf (state : Nat) (g : HxPort) : State := (State.reset.setReg F.HX_STATUS_STATE state 0).updPort 0 (fun _ => g)

/-- A frame without units. -/
def frameOf (units : List (BitVec 4 × List (BitVec 8))) : Frame := ⟨0, 0, false, false, 0, 0, false, units⟩

/-- The state after reset with a dynamic packet delivered to Base Camp and a request outstanding under identifier 7. -/
def dynsOf (d : Dyn) (s : State) : State := { s with bcl := { BcLink.zero with dyns := [d], waiting := [(7, 0, 2, 0)] } }

/-- The state after reset whose port 0 is UP to the neighbour with coordinates 1. -/
def nextDoor : State := regsOf [(F.HX_STATUS_STATE, 0, 7), (F.HX_STATUS_NVALID, 0, 1), (F.HX_STATUS_NCOORD, 0, 1)]

/-- An image with a rope descriptor of two modules in a row. -/
def ropeOfTwo (l : SMap (BitVec 8)) : Img :=
  imgOf ([(0x13, 1), (0xC9, 0x30)] ++ l ++ [(0x3014, 2), (0x3015, 1), (0x3016, 1), (0x3017, 20), (0x3018, 8)])

/-- The state after reset with the rope member in a state and its rope part given. -/
def ropeOf (state : Nat) (r : Rope) : State := { State.reset.setReg F.BC_ROPE_STATUS_STATE state with rope := r }

/-- A slot that holds a valid capture of an epoch. -/
def slotWith (epoch : Nat) : CkpSlot := { CkpSlot.zero with state := 2, crcOk := true, epoch := epoch }

/-- The state after reset with an image whose field 0 is ACTIVE and the ledger given. -/
def ledgerOf (l : Ledger) : State := { State.reset with image := some (imgOf [(0x28, 2)]), ldg := l }

/-- An open ledger in which session 0, with its posting bit set on port A, is as given. -/
def postedOf (x : Session) : Ledger := { Ledger.zero with state := 1, mapA := 1, sessions := [(0, x)] }

/-- The bytes of slot 1 of session 0 with the first bytes of a descriptor and a valid CRC. -/
def slotOne (head : List Nat) : SMap (BitVec 8) :=
  SMap.setList 0 [] (slotAt 0 1) ((padTo 0xF8 head ++ [0, 0, 0, 0] ++ bytesLe 4 (crc32c (padTo 0xF8 head))).map (BitVec.ofNat 8))

/-- An accepted request of kind RUN. -/
def runReq : Req := ⟨1, 1, 0, 0, 0, 0, 0, [], 0, 0, 0, [], [], none, 0, 0, 0⟩

/-- A record of session 0 with index 0 and token 7. -/
def recAt (place endAcyc : Nat) : Rec := ⟨0, 1, 0, 7, false, false, 0, false, 0, endAcyc, place, false, 0, 0, []⟩

/-- An enabled ring of 64 slots with PROD and CONS at 5. -/
def ringFive : Ring := ⟨true, 0, 64, 0, 0, 5, 5, [], 0, false, []⟩

/-- The responder running with connections given. -/
def spdmOf (l : SMap SpdmConn) : State := { regsOf [(F.BC_BOOT_STAGE, 0, 2)] with trust := { Trust.zero with conns := l } }

/-- The only set bit of 1 is bit 0. -/
theorem onlyBit0 {p : Nat → Prop} (h : p 0) (i : Nat) (hi : bitOf 1 i = true) : p i := by
  cases i with
  | zero => exact h
  | succ n => simp [bitOf, Nat.testBit_succ] at hi

/-- The plaintext of a smallest image: field 0 ACTIVE, two sections of 4,096 acycles with colours 1 and 2, one entry and one
role without program, handles or flows. -/
def smallImage : Blob :=
  ⟨0x10000, [(0, 0x47), (1, 0x5A), (2, 0x4C), (3, 0x49), (4, 1), (0x0A, 1), (0x11, 0x9A), (0x12, 2), (0x28, 2), (0x3C, 2),
    (0x3E, 1), (0x40, 1), (0x49, 0x10), (0x50, 32), (0x59, 0x20), (0x60, 8), (0x69, 0x30), (0x70, 24), (0x79, 0x40), (0x80, 32), (0x89, 0x50),
      (0x90, 0x90), (0x91, 1), (0x99, 0x60), (0xA0, 8), (0xA9, 0x70), (0xB0, 1), (0xB9, 0x80), (0xC0, 1), (0xD9, 0x90),
      (0xE0, 1), (0x1001, 0x10), (0x1006, 0xFF), (0x1009, 0x10), (0x100E, 1), (0x1011, 0x10), (0x1016, 0xFF), (0x1017, 1), (0x1019, 0x10),
      (0x101E, 2), (0x4019, 0xA0), (0x5000, 1), (0x5008, 0x80), (0x5009, 1)]⟩

/-- The state after reset with a container of `smallImage` for tenant 3 in the staging area, signed by owner slot 0. -/
def stagedImage : State :=
  { State.reset with
    staging := [(0, 0x47), (1, 0x54), (2, 0x5A), (3, 0x43), (4, 1), (7, 3), (8, 0xFD), (9, 0x11), (10, 1), (0x12, 1)]
    trust := { Trust.zero with slots := [(0, ⟨1, 5, 2⟩)] } }

theorem smallImage_format : (⟨smallImage⟩ : Img).formatOk = true := by decide +kernel
theorem smallImage_layout : (⟨smallImage⟩ : Img).layoutOk 0x500000 = true := by decide +kernel
theorem smallImage_sections : (⟨smallImage⟩ : Img).sectionsOk = true := by decide +kernel
theorem smallImage_fifo : (⟨smallImage⟩ : Img).fifoOk = true := by decide +kernel
theorem smallImage_flows : (⟨smallImage⟩ : Img).flowsOk = true := by decide +kernel
theorem smallImage_stack : (⟨smallImage⟩ : Img).stackOk = true := by decide +kernel
theorem smallImage_refresh : (⟨smallImage⟩ : Img).refreshOk = true := by decide +kernel
theorem smallImage_power : ((⟨smallImage⟩ : Img).dfloor 500 20000 16).isSome = true := by decide +kernel
theorem smallImage_rope : (⟨smallImage⟩ : Img).ropeOk (48 * 2 ^ 30) = true := by decide +kernel

/-- `smallImage` passes the installation checks wherever those that look at the module pass. -/
theorem smallImage_installs {s : State} {c : Bool} (hc : c = true) (h1 : s.segBytes = 0x500000) (h2 : s.odEff 0x2410 2 = 500)
    (h3 : s.odEff 0x2410 1 = 20000) (h4 : s.pmin2 = 16) (h5 : s.slotSize = 48 * 2 ^ 30)
    (h6 : ((List.range 48).all (fun f => !(⟨smallImage⟩ : Img).uses f || s.present f) &&
      ((⟨smallImage⟩ : Img).layers = 2 || (⟨smallImage⟩ : Img).layers = 4) &&
      decide ((⟨smallImage⟩ : Img).layers ≤ (if s.fuse.variant = 2 then 2 else 4)) &&
      (List.range 6).all (fun p => (⟨smallImage⟩ : Img).portWidth p = 0 || decide (p < s.nPorts))) = true)
    (h7 : (s.allFields.filter (⟨smallImage⟩ : Img).uses).all (fun f => !s.heldOut f && !s.dark f && !s.inReplan f) = true)
    (h8 : decide (smallImage.len ≤ s.copySize) = true) (h9 : decide ((⟨smallImage⟩ : Img).u 0x10 2 = 0x9A00) = true) :
    s.installCheck ⟨smallImage⟩ c = 0 := by
  unfold State.installCheck
  simp only [hc, h1, h2, h3, h4, h5, h7, h8, h9, smallImage_format, smallImage_layout, smallImage_sections, smallImage_fifo,
    smallImage_flows, smallImage_stack, smallImage_refresh, smallImage_power, smallImage_rope]
  simp only [h6]
  rfl

/-- A tile with a bloom check under way and a value in its CRC register. -/
def bloomTile (v : Nat) : Tile := { Tile.zero.setReg F.CC_BLOOM_CRC v with bloom := true }

theorem bloomTile_crc {v : Nat} (h : v < 2 ^ 32) : (bloomTile v).reg F.CC_BLOOM_CRC = v :=
  (Tile.reg_setReg_same Tile.zero F.CC_BLOOM_CRC v 0).trans (Nat.mod_eq_of_lt h)

theorem bloomTile_ok (v : Nat) : (bloomTile v).reg F.CC_BLOOM_OK = 0 :=
  (Tile.reg_setReg_other Tile.zero F.CC_BLOOM_CRC F.CC_BLOOM_OK v 0 0 (by decide)).trans rfl

/-- Some tile's check ends well. -/
theorem bloom_ends_well : ∃ s : State, s.locate 0 = some (0, 0) ∧ (s.tile 0 0).bloom = true ∧
    (s.tile 0 0).reg F.CC_BLOOM_OK = 0 ∧ crc32c (s.tile 0 0).core.bloomBytes = (s.tile 0 0).reg F.CC_BLOOM_CRC := by
  have h : ∀ v, v < 2 ^ 32 → v = crc32c CCore.zero.bloomBytes → ∃ s : State, s.locate 0 = some (0, 0) ∧
      (s.tile 0 0).bloom = true ∧ (s.tile 0 0).reg F.CC_BLOOM_OK = 0 ∧
      crc32c (s.tile 0 0).core.bloomBytes = (s.tile 0 0).reg F.CC_BLOOM_CRC := by
    intro v hv e
    refine ⟨tileOf (bloomTile v), rfl, ?_⟩
    rw [tileOf, State.tile_setTile_same, bloomTile_crc hv, bloomTile_ok]
    exact ⟨rfl, rfl, e.symm⟩
  exact h _ (crc32c_lt _) rfl

/-- The pending offer of the witness, and the first 0x470 bytes of an open of it: OFFER_ID 1, every key byte 0. -/
def offerOne : Offer := ⟨1, 5, [], 0, 0⟩
def openHead : List Nat := [0, 0, 0, 0, 0, 0, 0, 0, 1] ++ List.replicate 1127 0

/-- The state after reset with that offer pending in session 0 and the open with a confirm in the staging area. -/
def openState (confirm : List Nat) : State :=
  { State.reset with
    staging := SMap.setList 0 [] 0 ((openHead ++ confirm).map (BitVec.ofNat 8))
    ldg := { Ledger.zero with sessions := [(0, { Session.zero with offer := some offerOne })] } }

theorem openHead_length : openHead.length = 1136 := by decide +kernel

theorem openState_open (t : List Nat) (ht : t.length = 48) (hb : ∀ x, x ∈ t → x < 256) :
    (openState t).openAt 0 = openHead ++ t := by
  have h := SMap.getList_setList (0 : BitVec 8) ((openHead ++ t).map (BitVec.ofNat 8)) [] 0
  have l : ((openHead ++ t).map (BitVec.ofNat 8)).length = 1184 := by
    rw [List.length_map, List.length_append, openHead_length, ht]
  rw [l] at h
  show (SMap.getList 0 (openState t).staging 0 1184).map (·.toNat) = _
  rw [openState, h, List.map_map]
  have hall : ∀ x, x ∈ openHead ++ t → x < 256 := by
    intro x hx
    rcases List.mem_append.mp hx with h1 | h1
    · exact (by decide +kernel : ∀ y, y ∈ openHead → y < 256) x h1
    · exact hb x h1
  conv_rhs => rw [← List.map_id (openHead ++ t)]
  exact List.map_congr_left fun x hx => by simp [Nat.mod_eq_of_lt (hall x hx)]

/-- An open whose last 48 bytes are the confirm of the rest verifies. -/
theorem agree_confirmed (o : Offer) (p t : List Nat) (hp : p.length = 1136) (ht : t.length = 48)
    (h : hmac384 (sealKC (o.agree p).1) (sealClient ++ sealTH o.head p) = t) : o.agree (p ++ t) = ((o.agree p).1, true) := by
  have hd : ∀ i n, i + n ≤ 1136 → ((p ++ t).drop i).take n = (p.drop i).take n := fun i n hi => by
    rw [List.drop_append_of_le_length (by omega), List.take_append_of_le_length (by rw [List.length_drop]; omega)]
  have hth : sealTH o.head (p ++ t) = sealTH o.head p := by
    have h0 := hd 0 0x470 (by decide)
    rw [List.drop_zero, List.drop_zero] at h0
    rw [sealTH, sealTH, h0]
  have hl : ((p ++ t).drop 0x470).take 48 = t := by rw [List.drop_left' hp, List.take_of_length_le (by omega)]
  have hx := hd 0x10 32 (by decide)
  have hy := hd 0x30 1088 (by decide)
  simp only [Offer.agree] at h ⊢
  rw [hx, hy, hth, hl, h]
  simp

theorem openState_confirmed (t : List Nat) (ht : t.length = 48) (hb : ∀ x, x ∈ t → x < 256)
    (h : hmac384 (sealKC (offerOne.agree openHead).1) (sealClient ++ sealTH offerOne.head openHead) = t) :
    (openState t).openKeys 0 0 = some (offerOne, (offerOne.agree openHead).1) := by
  have h1 : ((openState t).ldg.sess 0).offer = some offerOne := rfl
  have h2 : leAt (openHead ++ t) 8 8 = 1 := by
    rw [leAt, List.drop_append_of_le_length (by rw [openHead_length]; decide), List.take_append_of_le_length (by
      rw [List.length_drop, openHead_length]; decide)]
    decide +kernel
  have h3 : ((openState t).offerOf 0).isSome = true := rfl
  have h4 : ((openState t).ldg.sess 0).state = 0 := rfl
  have h5 : decide (0 + 1184 ≤ (openState t).stagingSize) = true := by
    have hf : (openState t).fuse = State.reset.fuse := rfl
    rw [State.stagingSize, hf]
    decide +kernel
  have h6 : (openState t).stackReset = false := rfl
  unfold State.openKeys
  simp only [h1, openState_open t ht hb, agree_confirmed offerOne openHead t openHead_length ht h, h2, h3, h4, h5, h6]
  rfl

theorem openState_keys : (openState (hmac384 (sealKC (offerOne.agree openHead).1) (sealClient ++ sealTH offerOne.head openHead))).openKeys
    0 0 = some (offerOne, (offerOne.agree openHead).1) :=
  openState_confirmed _ (hmac384_length _ _) (hmac384_lt _ _) rfl

/-- An open that seals its session. -/
theorem some_open_seals : ∃ (u : State) (o : Offer) (okm : List Nat), u.openKeys 0 0 = some (o, okm) :=
  ⟨_, _, _, openState_keys⟩
/-! ### Ill-formed commands -/

theorem test_wf_sdo : (Instr.sdoRequest [0x40, 0, 0, 0, 0, 0, 0]).wellFormed = false := by decide
theorem test_wf_rpdo1 : (Instr.rpdo1 [1, 2, 3, 4]).wellFormed = false := by decide
theorem test_wf_udp : (Instr.udpDatagram 0 []).wellFormed = false ∧
    (Instr.udpDatagram 0 [(0x640, [0x40, 0, 0, 0, 0, 0, 0])]).wellFormed = false := by decide
theorem test_wf_over_limit : (Instr.pwrOverLimit 0 [1]).wellFormed = false := by decide
theorem test_wf_diodes : (Instr.diodeSample [1]).wellFormed = false := by decide
theorem test_wf_currents : (Instr.currentHistoryAdvance [1] []).wellFormed = false := by decide
theorem test_wf_recovery : (Instr.recoveryWrite 0 (List.replicate 65 0)).wellFormed = false := by decide
theorem test_wf_write : (Instr.write 0 0 ⟨[], []⟩).wellFormed = false ∧
    (Instr.write 0 0 ⟨List.replicate 17 (0, 0), []⟩).wellFormed = false := by decide
theorem test_wf_rect : (Instr.rect 0 0 false 0 ⟨List.replicate 17 (0, 0), []⟩).wellFormed = false := by decide
theorem test_wf_aperture : (Instr.apertureWrite 0 0 []).wellFormed = false := by decide
theorem test_wf_posting : (Instr.postingMapWrite 0 511 [1, 2]).wellFormed = false := by decide
theorem test_wf_bar2 : (Instr.bar2Write 0 0 [] false).wellFormed = false := by decide
theorem test_wf_survey : (Instr.surveySlice 0 [(0, 0x1A00)]).wellFormed = false ∧
    (Instr.fullSurveyDone 0 [(0, 0x2F00)]).wellFormed = false := by decide
theorem test_wf_accepts : (Instr.sdoRequest [0x40, 0, 0, 0, 0, 0, 0, 0]).wellFormed = true := by decide

/-! ### The queue -/

/-- No row of the table gives bits, so no word spells a command. -/
theorem test_no_word_is_a_command : decodeTableWord 64 5 = none ∧ State.reset.withFetchWord 64 5 = State.reset := ⟨rfl, rfl⟩

/-! ### Worked examples of the spec -/

/-- Scope, example of R4 to R6: tile (645, 300) is in field 21 at local (5, 44); its pair is 0x4_B285. -/
theorem test_example_pair : State.reset.locate 0x4B285 = some (21, 5 + 132 * 44) ∧ pairOf2 645 300 = 0x4B285 := by decide +kernel

/-- The tile, example of R63: element 37 of handle 5 is at 0x8940; element 128 is a violation. -/
theorem test_example_handle :
    (⟨true, false, false, false, false, false, 0, 0x2000, 0x8000, 0, 0x40⟩ : Handle).elem 37 = 0x8940 ∧
    (⟨true, false, false, false, false, false, 0, 0x2000, 0x8000, 0, 0x40⟩ : Handle).check 0x9FC0 64 false true [] = none ∧
    (⟨true, false, false, false, false, false, 0, 0x2000, 0x8000, 0, 0x40⟩ : Handle).check 0xA000 64 false true [] =
      some Code.handleViolation := by decide +kernel

/-- Arithmetic, example conversions of R122 with W = 8: 3.0, -0.5, their sum and the way back to 2.5. -/
theorem test_example_exact_sum :
    (xrConvert 0x40400000 8).1 = BitVec.ofNat 128 (0x03000000 * 2 ^ 64) ∧
    (xrConvert 0xBF000000 8).1 = BitVec.ofNat 128 (0xFFFFFFFF * 2 ^ 96 + 0xFF800000 * 2 ^ 64) ∧
    (xrBack (xrAdd (xrConvert 0x40400000 8).1 (xrConvert 0xBF000000 8).1).1 8).1 = 0x40200000 := by decide +kernel

/-- The same table: 300.0 lies outside the window and sets OF; 1.0e-30 gives zero with UF and NX. -/
theorem test_example_exact_limits :
    xrConvert 0x43960000 8 = (BitVec.ofNat 128 (2 ^ 96), Flags.of) ∧
    xrConvert 0x0DA24260 8 = (0, Flags.uf ||| Flags.nx) := by decide +kernel

/-- Ropes, example of R296: member 0's contribution (1.0, 2.0) with R = 3 has the LSUM 2,818,572,288. -/
theorem test_example_cairn :
    (([0, 2 ^ 24, 0, 2 ^ 25] : List Nat).foldl (fun (e : Engine) w => e.take ⟨0, 0, 0, 0, 0, 0, 0, 0, 0, 1, 3⟩ w)
      (Engine.fresh 0 0)).lsum = 2818572288 := by decide +kernel

/-- Ropes, example of R287: at D2 = 8 with a base of 352 and a window of 512 a link of 40 m passes, one of 41 m does not. -/
theorem test_example_landing :
    ({ regsOf [(F.HX_LAT_BASE, 0, 424), (F.HX_LAT_FIBRE, 0, 400)] with
        image := some (ropeOfTwo [(0x301A, 0x60), (0x301B, 1), (0x301D, 2)]) } : State).landingOk 0 = true ∧
    ({ regsOf [(F.HX_LAT_BASE, 0, 424), (F.HX_LAT_FIBRE, 0, 410)] with
        image := some (ropeOfTwo [(0x301A, 0x60), (0x301B, 1), (0x301D, 2)]) } : State).landingOk 0 = false := by decide +kernel

/-- The fields of a step's next state that a test looks at. -/
def after {α : Type} (r : Res) (p : State → α) : Option α := match r with
  | .next t => some (p t)
  | _ => none

/-- Dictionary, example of R415 and R416: the RPDO1 and the flow demand of 50.88 L/min at 36,000 W. -/
theorem test_example_rpdo1 :
    after (execRpdo1 [0xB8, 0x0B, 0x94, 0x11, 0x00] { State.reset with dict := { DictSt.zero with nmt := .operational } })
      (fun t => (t.od 0x2300 1, t.od 0x2300 2)) = some (3000, 4500) := by decide +kernel
theorem test_example_flow_demand :
    after (execFlowDemand 36000 State.reset) (fun t => t.od 0x2300 8) = some 5088 := by decide +kernel

/-- Clocks, example of R465: a warning at 41.0 V with D2 = 8 asks for D2 = 10. -/
theorem test_example_brown_out :
    after (execBrownOutWarning 4100 (regsOf [(F.CLK_DIV_CURRENT, 0, 8)])) (fun t => t.pw.needs) = some [(1, 10)] := by decide +kernel

/-- Hexkel, R250: the CRC of RFC 3720; its value for the nine digits is the one that CRC catalogues give. PRESUMED. -/
theorem test_crc32c : crc32c [0x31, 0x32, 0x33, 0x34, 0x35, 0x36, 0x37, 0x38, 0x39] = 0xE3069283 := by decide +kernel

/-! ### Witnesses of the statements -/

theorem test_witness_StepRunsTheFrontCommand :
    (∃ (s : State) (c : Instr) (rest : List Instr), s.pending = c :: rest) ∧
    (∃ (s : State), s.pending = []) :=
  ⟨⟨{ State.reset with pending := [Instr.brownOutClear] }, Instr.brownOutClear, [], by decide +kernel⟩,
   ⟨State.reset, by decide +kernel⟩⟩

theorem test_witness_EveryCommandChangesOnlyItsParts :
    ∃ (c : Instr) (s : State) (t : State), exec c s = .next t :=
  ⟨Instr.por false, State.reset, _, rfl⟩

theorem test_witness_OwnerSlotsStayLegalInEveryStep :
    ∃ (s : State) (t : State), s.ownersLegal = true ∧ step s = .next t :=
  ⟨State.reset, _, by decide +kernel, rfl⟩

theorem test_witness_OnlyOwnerCommandsChangeCustody :
    ∃ (c : Instr) (s : State) (t : State), c.isOwner = false ∧ exec c s = .next t :=
  ⟨Instr.por false, State.reset, _, by decide +kernel, rfl⟩

theorem test_witness_StagingAndLedgerMemoryStayCanonical :
    ∃ (s : State) (t : State), (SMap.wf 0 s.staging && SMap.wf 0 s.ldg.mem) = true ∧ step s = .next t :=
  ⟨State.reset, _, by decide +kernel, rfl⟩

theorem test_witness_PowerInputAndPinCommandsComplete :
    (∃ (s : State) (v : BitVec 16), s.reg F.PWR_STATUS_BOWARN = 0 ∧ v.toNat < 10 * s.od 0x2400 1) ∧
    (∃ (s : State), s.reg F.PWR_STATUS_BOWARN = 1) ∧
    (∃ (s : State), s.reg F.BC_BOOT_STAGE < 2) ∧
    (∃ (s : State), 2 < s.reg F.BC_BOOT_STAGE) ∧
    (∃ (s : State), s.pw.pwrEn = false) ∧
    (∃ (s : State), 2 < s.reg F.BC_BOOT_STAGE ∧ s.reg F.PWR_STATUS_LEAK = 0 ∧ s.reg F.PWR_STATUS_TRIP = 0) :=
  ⟨⟨State.reset, 0, by decide +kernel⟩,
   ⟨regsOf [(F.PWR_STATUS_BOWARN, 0, 1)], by decide +kernel⟩,
   ⟨State.reset, by decide +kernel⟩,
   ⟨regsOf [(F.BC_BOOT_STAGE, 0, 4)], by decide +kernel⟩,
   ⟨State.reset, by decide +kernel⟩,
   ⟨regsOf [(F.BC_BOOT_STAGE, 0, 4)], by decide +kernel⟩⟩

theorem test_witness_CoolantAndHeatCommandsComplete :
    (∃ (s : State), s.anyComp = true ∧ s.flow < 4000) ∧
    (∃ (s : State), s.anyComp = true ∧ s.flow < 3000 ∧ s.reg F.PWR_STATUS_TRIP = 0) ∧
    (∃ (s : State), s.anyComp = true) ∧
    (∃ (s : State), s.reg F.BC_BOOT_STAGE = 3 ∧ s.pw.pwrEn = true ∧ s.flow < 4000 ∧ s.pw.flowWarned = false) ∧
    (∃ (s : State) (temps : List (BitVec 16)), (∀ i, (temps.getD i 0).toNat < 8000) ∧ (∀ f, f < s.nFields → s.compOn f =
      false) ∧ (∀ f, f < s.nFields → s.dark f = false) ∧ s.reg F.THM_TEMP_GRAD < 1000) ∧
    (∃ (s : State), bitOf (s.reg F.THM_STATUS_STAGES) 1 = true ∧ (8900 ≤ s.tmax ∨ 1350 ≤ s.reg F.THM_TEMP_GRAD)) ∧
    (∃ (s : State), bitOf (s.reg F.THM_STATUS_STAGES) 0 = true ∧ s.tmax < 8200 ∧ s.reg F.THM_TEMP_GRAD < 1050) ∧
    (∃ (s : State), bitOf (s.reg F.THM_STATUS_STAGES) 1 = true ∧ s.tmax < 8500 ∧ s.reg F.THM_TEMP_GRAD < 1200) ∧
    (∃ (s : State) (f : Fin 48), s.dark f.val = true ∧ signedOf 16 (s.reg F.FLD_THM_TMAX f.val) < 8500 ∧ s.reg
      F.PWR_STATUS_STANDBY = 0 ∧ s.wakeFree = true ∧ s.inReplan f.val = false ∧ s.inReset f.val = false ∧ s.log.migrate = [] ∧
      s.copy = none) ∧
    (∃ (s : State), s.reg F.PWR_STATUS_LEAK = 0 ∧ (∀ f, f < s.nFields → signedOf 16 (s.reg F.FLD_THM_TMAX f) < 8500) ∧ 4000 ≤
      s.flow) :=
  ⟨⟨regsOf [(F.FLD_PWR_RAILS, 0, 1)], by decide +kernel⟩,
   ⟨regsOf [(F.FLD_PWR_RAILS, 0, 1)], by decide +kernel⟩,
   ⟨regsOf [(F.FLD_PWR_RAILS, 47, 1)], by decide +kernel⟩,
   ⟨{ regsOf [(F.BC_BOOT_STAGE, 0, 3)] with pw := { Pw.zero with pwrEn := true } }, by decide +kernel⟩,
   ⟨State.reset, [], by simp, by decide +kernel⟩,
   ⟨regsOf [(F.THM_STATUS_STAGES, 0, 2), (F.THM_TEMP_GRAD, 0, 1350)], by decide +kernel⟩,
   ⟨regsOf [(F.THM_STATUS_STAGES, 0, 1)], by decide +kernel⟩,
   ⟨regsOf [(F.THM_STATUS_STAGES, 0, 2)], by decide +kernel⟩,
   ⟨regsOf [(F.FLD_PWR_DARK, 0, 1)], 0, by decide +kernel⟩,
   ⟨State.reset.setOd 0x2300 2 4000, by decide +kernel⟩⟩

theorem test_witness_RailClockAndDividerCommandsComplete :
    (∃ (s : State) (rail : Fin 8) (f : Fin 48), rail.val ≤ 1 ∧ s.present f.val = true ∧ bitOf (s.reg F.FLD_PWR_RAILS f.val)
      rail.val = true ∧ s.inReplan f.val = false) ∧
    (∃ (s : State), s.reg F.BC_BOOT_STAGE = 4 ∧ s.pw.boot = true ∧ s.pw.phase = 0 ∧ s.pw.rail = 3) ∧
    (∃ (s : State), s.reg F.BC_BOOT_STAGE = 4 ∧ s.pw.boot = true ∧ s.pw.phase = 1 ∧ s.pw.rail + 1 < s.nFields ∧ s.inReplan
      s.pw.rail = false) ∧
    (∃ (s : State) (f : Nat) (r : List Nat), s.pw.wake = f :: r ∧ s.wakeFree = true ∧ f < 48 ∧ s.inReplan f = false ∧
      s.inReset f = false) ∧
    (∃ (s : State) (src : Fin 4) (port : Fin 8) (ready : BitVec 3), src.val ≠ 3 ∧ bitOf (s.mrefReady ready.toNat port.val)
      src.val = true ∧ (∀ f, f < s.nFields → (s.field f).live = false) ∧ s.reg F.CLK_DIV_RAMPING = 0 ∧ (s.reg
      F.BC_ROPE_STATUS_STATE = 0 ∨ s.reg F.BC_ROPE_STATUS_STATE = 1 ∨ s.reg F.BC_ROPE_STATUS_STATE = 7)) ∧
    (∃ (s : State) (src : Fin 4) (port : Fin 8) (ready : BitVec 3), (src.val = 3 ∨ bitOf (s.mrefReady ready.toNat port.val)
      src.val = false)) ∧
    (∃ (s : State), s.rst.active = false ∧ s.sourceLevel 6 < 4) ∧
    (∃ (s : State), s.reg F.CLK_DIV_RAMPING = 1 ∧ s.pw.anns = [] ∧ s.divNow < s.pw.goal ∧ s.pw.goal < 64 ∧ s.pw.nextStep ≤
      s.acyc ∧ s.divNow + 1 ≠ s.pw.goal) ∧
    (∃ (s : State) (f : Fin 48), s.present f.val = true ∧ bitOf (s.reg F.FLD_PWR_RAILS f.val) 1 = true ∧ s.inReplan f.val =
      false ∧ s.inReset f.val = false) ∧
    (∃ (s : State) (f : Fin 48), s.reg F.FLD_RST_STATE f.val = 4 ∧ s.inReplan f.val = false) ∧
    (∃ (s : State) (v : BitVec 16), s.reg F.PWR_STATUS_BOWARN = 0 ∧ v.toNat < 10 * s.od 0x2400 1 ∧ v.toNat < s.reg
      F.PWR_BOR_VMIN ∧ s.reg F.PWR_BOR_WARNS < 65535) ∧
    (∃ (s : State), s.reg F.PWR_STATUS_BOWARN = 1) :=
  ⟨⟨regsOf [(F.FLD_PWR_RAILS, 47, 1)], 0, 47, by decide +kernel⟩,
   ⟨{ regsOf [(F.BC_BOOT_STAGE, 0, 4)] with pw := { Pw.zero with boot := true, rail := 3 } }, by decide +kernel⟩,
   ⟨{ regsOf [(F.BC_BOOT_STAGE, 0, 4)] with pw := { Pw.zero with boot := true, phase := 1, rail := 46 } }, by decide +kernel⟩,
   ⟨{ State.reset with pw := { Pw.zero with wake := [47] } }, 47, [], by decide +kernel⟩,
   ⟨State.reset, 0, 0, 1, by decide +kernel⟩,
   ⟨State.reset, 3, 0, 0, Or.inl rfl⟩,
   ⟨State.reset, by decide +kernel⟩,
   ⟨{ regsOf [(F.CLK_DIV_RAMPING, 0, 1)] with pw := { Pw.zero with goal := 32 } }, by decide +kernel⟩,
   ⟨regsOf [(F.FLD_PWR_RAILS, 0, 2)], 0, by decide +kernel⟩,
   ⟨regsOf [(F.FLD_RST_STATE, 0, 4)], 0, by decide +kernel⟩,
   ⟨State.reset, 0, by decide +kernel⟩,
   ⟨regsOf [(F.PWR_STATUS_BOWARN, 0, 1)], by decide +kernel⟩⟩

theorem test_witness_ResetRequestsTakeEffect :
    (∃ (s : State) (level : BitVec 4) (force : Bool), s.rst.active = false ∧ level.toNat < 4 ∧ s.swrRefused 1 level.toNat
      force (s.reg F.RST_SCOPE_ALL = 1) (s.reg F.RST_SCOPE_FIELDS) = false) ∧
    (∃ (s : State) (level : BitVec 4) (force : Bool), s.swrRefused 1 level.toNat force (s.reg F.RST_SCOPE_ALL = 1) (s.reg
      F.RST_SCOPE_FIELDS) = true) ∧
    (∃ (s : State) (level : BitVec 4) (force : Bool), s.rst.active = false ∧ level.toNat < 4 ∧ s.swrRefused 2 level.toNat
      force (s.reg F.RST_SCOPE_ALL = 1) (s.reg F.RST_SCOPE_FIELDS) = false) ∧
    (∃ (s : State) (h : Nat), s.rst.hold = some h) ∧
    (∃ (s : State), 2 ≤ s.reg F.BC_BOOT_STAGE ∧ s.rst.active = false ∧ s.sourceLevel 2 < 4) ∧
    (∃ (s : State), s.trust.halted = false ∧ s.rst.active = false ∧ s.sourceLevel 3 < 4 ∧ s.bootFlash.isSome = true) ∧
    (∃ (s : State) (f : Fin 48), (s.field f.val).live = true ∧ s.pllLocked f.val = true ∧ s.rst.active = false ∧ s.sourceLevel
      7 < 2 ∧ f.val < s.nFields) ∧
    (∃ (s : State) (a : Addr) (f : Nat) (key : Nat), s.locate a.toNat = some (f, key) ∧ s.coreReset f = false ∧ (s.tile f
      key).core.state = .handler ∧ (s.tile f key).reg F.CC_WDOG_LIMIT ≠ 0 ∧ s.rst.active = false ∧ s.sourceLevel 7 < 4) ∧
    (∃ (s : State) (f : Fin 48), s.present f.val = true ∧ s.pllLocked f.val = true ∧ s.rst.active = false) ∧
    (∃ (s : State) (link : Bool), bitOf (s.reg F.CLK_PLL_MOD) (b2n link) = true ∧ s.rst.active = false) ∧
    (∃ (s : State), s.rst.active = true ∧ s.rst.heldMin = false ∧ s.ropeState ≠ 5) ∧
    (∃ (s : State), s.rst.active = true ∧ s.rst.heldMin = true ∧ s.rst.hold = none ∧ s.rst.step = 0 ∧ 2 ≤ s.reg
      F.BC_BOOT_STAGE) ∧
    (∃ (s : State), 2 ≤ s.reg F.BC_BOOT_STAGE ∧ s.rst.active = false) ∧
    (∃ (s : State), s.pw.pwrEn = false ∧ s.reg F.PWR_STATUS_LEAK = 0) ∧
    (∃ (s : State), 2 ≤ s.reg F.BC_BOOT_STAGE ∧ s.rst.active = false ∧ s.reg F.PWR_STATUS_LEAK = 0 ∧ s.reg F.PWR_STATUS_TRIP =
      0) :=
  ⟨⟨State.reset, 0, false, by decide +kernel⟩,
   ⟨State.reset, 4, false, by decide +kernel⟩,
   ⟨State.reset, 0, false, by decide +kernel⟩,
   ⟨{ State.reset with rst := { Rst.zero with hold := some 1 } }, 1, by decide +kernel⟩,
   ⟨regsOf [(F.BC_BOOT_STAGE, 0, 2)], by decide +kernel⟩,
   ⟨State.reset, by decide +kernel⟩,
   ⟨(regsOf [(F.CLK_PLL_FIELD, 0, 1)]).updField 0 (fun g => { g with live := true }), 0, by decide +kernel⟩,
   ⟨tileOf { Tile.zero with core := { CCore.zero with state := .handler }, regs := RegFile.set [] F.CC_WDOG_LIMIT 0 0 9 }, 0,
     0, 0, by decide +kernel⟩,
   ⟨regsOf [(F.CLK_PLL_FIELD, 0, 1)], 0, by decide +kernel⟩,
   ⟨regsOf [(F.CLK_PLL_MOD, 0, 3)], true, by decide +kernel⟩,
   ⟨{ State.reset with rst := { Rst.zero with active := true } }, by decide +kernel⟩,
   ⟨{ regsOf [(F.BC_BOOT_STAGE, 0, 2)] with rst := { Rst.zero with active := true, heldMin := true, step := 0 } }, by
     decide +kernel⟩,
   ⟨regsOf [(F.BC_BOOT_STAGE, 0, 2)], by decide +kernel⟩,
   ⟨State.reset, by decide +kernel⟩,
   ⟨regsOf [(F.BC_BOOT_STAGE, 0, 2)], by decide +kernel⟩⟩

theorem test_witness_LockstepPairCommandsComplete :
    (∃ (s : State), s.pair (s.reg F.BC_PAIRS_ACTIVE) = 0) ∧
    (∃ (s : State), s.pair (s.reg F.BC_PAIRS_ACTIVE) ≠ 0) ∧
    (∃ (s : State), s.pair (s.reg F.BC_PAIRS_ACTIVE) = 0 ∧ s.pair s.otherPair = 1) ∧
    (∃ (s : State), s.pair (s.reg F.BC_PAIRS_ACTIVE) ≠ 0 ∧ s.pair s.otherPair = 1) ∧
    (∃ (s : State) (k : Fin 2), s.pair k.val = 2 ∧ s.reg F.BC_PAIRS_STATUS ≠ 1) ∧
    (∃ (s : State) (k : Fin 2), s.pair k.val = 2 ∧ s.reg F.BC_PAIRS_STATUS = 1 ∧ s.reg F.BC_PAIRS_OP = 1) ∧
    (∃ (s : State), s.pair s.otherPair = 1) ∧
    (∃ (s : State), s.pair s.otherPair ≠ 1) :=
  ⟨⟨State.reset, by decide +kernel⟩,
   ⟨regsOf [(F.BC_PAIRS_P0, 0, 2)], by decide +kernel⟩,
   ⟨State.reset, by decide +kernel⟩,
   ⟨regsOf [(F.BC_PAIRS_P0, 0, 2)], by decide +kernel⟩,
   ⟨regsOf [(F.BC_PAIRS_P0, 0, 2)], 0, by decide +kernel⟩,
   ⟨regsOf [(F.BC_PAIRS_P0, 0, 2), (F.BC_PAIRS_STATUS, 0, 1), (F.BC_PAIRS_OP, 0, 1)], 0, by decide +kernel⟩,
   ⟨State.reset, by decide +kernel⟩,
   ⟨regsOf [(F.BC_PAIRS_P1, 0, 2)], by decide +kernel⟩⟩

theorem test_witness_StartupStagesComplete :
    (∃ (s : State), s.pw.boot = true ∧ s.reg F.BC_BOOT_STAGE = 0 ∧ s.bootFlash = none) ∧
    (∃ (s : State) (b : Bool) (w : Firmware), s.pw.boot = true ∧ s.reg F.BC_BOOT_STAGE = 0 ∧ s.bootFlash = some (b, w)) ∧
    (∃ (s : State), s.pw.boot = true ∧ s.reg F.BC_BOOT_STAGE = 2) ∧
    (∃ (s : State), s.pw.boot = true ∧ s.reg F.BC_BOOT_STAGE = 3 ∧ s.pw.pwrEn = true ∧ 4000 ≤ s.flow ∧ s.reg F.PWR_STATUS_TRIP
      = 0 ∧ s.reg F.PWR_STATUS_LEAK = 0 ∧ s.pw.tileFw.len ≠ 0) ∧
    (∃ (s : State), s.pw.boot = true ∧ s.reg F.BC_BOOT_STAGE = 3 ∧ s.pw.pwrEn = false) ∧
    (∃ (s : State) (io : StageInput), s.pw.boot = true ∧ s.reg F.BC_BOOT_STAGE = 5 ∧ s.reg F.RST_STATE_PINLOW = 0 ∧ io.lock =
      true) ∧
    (∃ (s : State), s.pw.boot = true ∧ s.reg F.BC_BOOT_STAGE = 6 ∧ s.rst.active = false) ∧
    (∃ (s : State), s.pw.boot = true ∧ s.reg F.BC_BOOT_STAGE = 7) ∧
    (∃ (s : State), s.pw.boot = true ∧ s.reg F.BC_BOOT_STAGE = 8 ∧ s.pw.level = 4 ∧ s.rst.active = false) ∧
    (∃ (s : State), s.pw.boot = true ∧ s.reg F.BC_BOOT_STAGE = 8 ∧ s.pw.level ≠ 4 ∧ s.linkReset = false) ∧
    (∃ (s : State), s.pw.boot = true ∧ s.reg F.BC_BOOT_STAGE = 5 ∧ s.reg F.RST_STATE_PINLOW = 1) ∧
    (∃ (s : State), (s.pw.boot = false ∨ s.reg F.BC_BOOT_STAGE = 9)) :=
  ⟨⟨{ State.reset with pw := { Pw.zero with boot := true, flashA := { Firmware.delivered with sigOk := false }, flashB := { Firmware.delivered with sigOk := false } } },
     by decide +kernel⟩,
   ⟨{ State.reset with pw := { Pw.zero with boot := true } }, false, Firmware.delivered, by decide +kernel⟩,
   ⟨{ regsOf [(F.BC_BOOT_STAGE, 0, 2)] with pw := { Pw.zero with boot := true } }, by decide +kernel⟩,
   ⟨{ (regsOf [(F.BC_BOOT_STAGE, 0, 3)]).setOd 0x2300 2 4000 with pw := { Pw.zero with boot := true, pwrEn := true, tileFw := ⟨12288, []⟩ } },
     by decide +kernel⟩,
   ⟨{ regsOf [(F.BC_BOOT_STAGE, 0, 3)] with pw := { Pw.zero with boot := true } }, by decide +kernel⟩,
   ⟨{ regsOf [(F.BC_BOOT_STAGE, 0, 5)] with pw := { Pw.zero with boot := true } }, ⟨0, 7, true, [], []⟩, by decide +kernel⟩,
   ⟨{ regsOf [(F.BC_BOOT_STAGE, 0, 6)] with pw := { Pw.zero with boot := true } }, by decide +kernel⟩,
   ⟨{ regsOf [(F.BC_BOOT_STAGE, 0, 7)] with pw := { Pw.zero with boot := true } }, by decide +kernel⟩,
   ⟨{ regsOf [(F.BC_BOOT_STAGE, 0, 8)] with pw := { Pw.zero with boot := true, level := 4 } }, by decide +kernel⟩,
   ⟨{ regsOf [(F.BC_BOOT_STAGE, 0, 8)] with pw := { Pw.zero with boot := true, level := 3 } }, by decide +kernel⟩,
   ⟨{ regsOf [(F.BC_BOOT_STAGE, 0, 5), (F.RST_STATE_PINLOW, 0, 1)] with pw := { Pw.zero with boot := true } }, by
     decide +kernel⟩,
   ⟨State.reset, Or.inl rfl⟩⟩

theorem test_witness_RecoveryBloomAndUpdateComplete :
    (∃ (s : State), s.reg F.BC_BOOT_STAGE = 1) ∧
    (∃ (s : State) (off : BitVec 32) (data : List (BitVec 8)), s.reg F.BC_BOOT_STAGE = 1 ∧ data.length ≤ 64 ∧ off.toNat +
      data.length ≤ 2 ^ 22) ∧
    (∃ (s : State) (w : Firmware), s.reg F.BC_BOOT_STAGE = 1 ∧ s.verifies w = true) ∧
    (∃ (s : State) (w : Firmware), s.reg F.BC_BOOT_STAGE = 1 ∧ s.verifies w = false) ∧
    (∃ (s : State), s.reg F.BC_BOOT_STAGE ≠ 1) ∧
    (∃ (s : State) (a : Addr) (f : Nat) (key : Nat), s.locate a.toNat = some (f, key) ∧ (s.tile f key).bloom = true) ∧
    (∃ (s : State) (a : Addr) (f : Nat) (key : Nat), s.locate a.toNat = some (f, key) ∧ (s.tile f key).bloom = true ∧ (s.tile
      f key).reg F.CC_BLOOM_OK = 0 ∧ crc32c (s.tile f key).core.bloomBytes = (s.tile f key).reg F.CC_BLOOM_CRC) ∧
    (∃ (s : State) (w : Firmware), 2 ≤ s.reg F.BC_BOOT_STAGE ∧ s.verifies w = true) ∧
    (∃ (s : State) (w : Firmware), 2 ≤ s.reg F.BC_BOOT_STAGE ∧ s.verifies w = false) :=
  ⟨⟨regsOf [(F.BC_BOOT_STAGE, 0, 1)], by decide +kernel⟩,
   ⟨regsOf [(F.BC_BOOT_STAGE, 0, 1)], 0x3FFFFF, [7], by decide +kernel⟩,
   ⟨regsOf [(F.BC_BOOT_STAGE, 0, 1)], Firmware.delivered, by decide +kernel⟩,
   ⟨regsOf [(F.BC_BOOT_STAGE, 0, 1)], { Firmware.delivered with sigOk := false }, by decide +kernel⟩,
   ⟨State.reset, by decide +kernel⟩,
   ⟨tileOf { Tile.zero with bloom := true }, 0, 0, 0, by decide +kernel⟩,
   bloom_ends_well.elim (fun s h => ⟨s, 0, 0, 0, h⟩),
   ⟨regsOf [(F.BC_BOOT_STAGE, 0, 2)], Firmware.delivered, by decide +kernel⟩,
   ⟨regsOf [(F.BC_BOOT_STAGE, 0, 2)], { Firmware.delivered with sigOk := false }, by decide +kernel⟩⟩

theorem test_witness_DictionaryTransportsAnswerReads :
    (∃ (s : State) (ix : BitVec 16) (sub : BitVec 8) (e : Ent), 2 ≤ s.reg F.BC_BOOT_STAGE ∧ odAt ix.toNat sub.toNat = .inl e ∧
      e.acc ≠ .cmd ∧ e.size ≠ 0 ∧ ix.toNat ≠ 0x4020) ∧
    (∃ (s : State) (ix : BitVec 16), 2 ≤ s.reg F.BC_BOOT_STAGE ∧ (∀ e, e ∈ odTable → e.key / 256 ≠ ix.toNat)) ∧
    (∃ (s : State) (frame : List (BitVec 8)) (ix : Nat) (sub : Nat) (e : Ent), 2 ≤ s.reg F.BC_BOOT_STAGE ∧ (s.dict.nmt =
      .preOperational ∨ s.dict.nmt = .operational) ∧ ix < 65536 ∧ sub < 256 ∧ frame.map (·.toNat) = [0x40, ix % 256, ix / 256,
      sub, 0, 0, 0, 0] ∧ odAt ix sub = .inl e ∧ e.acc ≠ .cmd ∧ e.size ≠ 0 ∧ e.size ≤ 4 ∧ ix ≠ 0x4020) ∧
    (∃ (s : State) (cob : BitVec 16) (fr : List (BitVec 8)), 2 ≤ s.reg F.BC_BOOT_STAGE ∧ cob.toNat = 0x600 + s.dict.node ∧
      fr.length = 8) ∧
    (∃ (s : State) (u : State) (stop : Nat) (c : Cell) (e : Ent), s.takeCell (fun c => c.type = 6) = some ((stop, c), u) ∧
      leAt c.body 0 1 = 1 ∧ u.inRope = true ∧ u.rdesc.inside c.src = true ∧ 2 ≤ u.reg F.BC_BOOT_STAGE ∧ odAt (leAt c.body 4 2)
      (leAt c.body 6 1) = .inl e ∧ e.acc ≠ .cmd ∧ e.size ≠ 0 ∧ leAt c.body 4 2 ≠ 0x4020) ∧
    (∃ (s : State) (u : State) (stop : Nat) (c : Cell), s.takeCell (fun c => c.type = 6) = some ((stop, c), u) ∧ leAt c.body 0
      1 = 3) :=
  ⟨⟨regsOf [(F.BC_BOOT_STAGE, 0, 2)], 0x1017, 0, ent 0x1017 0 tyU16 .rw .module true 1000, by decide +kernel⟩,
   ⟨regsOf [(F.BC_BOOT_STAGE, 0, 2)], 0x1002, by decide +kernel⟩,
   ⟨{ regsOf [(F.BC_BOOT_STAGE, 0, 2)] with dict := { DictSt.zero with nmt := .operational } }, [0x40, 0x17, 0x10, 0, 0, 0, 0,
     0], 0x1017, 0, ent 0x1017 0 tyU16 .rw .module true 1000, by decide +kernel⟩,
   ⟨regsOf [(F.BC_BOOT_STAGE, 0, 2)], 0x640, [0x40, 0, 0, 0, 0, 0, 0, 0], by decide +kernel⟩,
   ⟨cellsOf [cellTo 6 [1, 0, 0, 0, 0x17, 0x10, 0]] (regsOf [(F.BC_BOOT_STAGE, 0, 2), (F.BC_ROPE_STATUS_STATE, 0, 4)]), regsOf
     [(F.BC_BOOT_STAGE, 0, 2), (F.BC_ROPE_STATUS_STATE, 0, 4)], 0, cellTo 6 [1, 0, 0, 0, 0x17, 0x10, 0], ent 0x1017 0 tyU16
     .rw .module true 1000, rfl, by decide +kernel⟩,
   ⟨cellsOf [cellTo 6 [3]] State.reset, State.reset, 0, cellTo 6 [3], rfl, by decide +kernel⟩⟩

theorem test_witness_DictionaryTransportsWriteEntries :
    (∃ (s : State) (i3c : Bool) (ix : BitVec 16) (sub : BitVec 8) (data : List (BitVec 8)) (e : Ent), 2 ≤ s.reg
      F.BC_BOOT_STAGE ∧ odAt ix.toNat sub.toNat = .inl e ∧ e.acc = .rw ∧ e.size ≠ 0 ∧ data.length = e.size ∧ bitOf (s.od
      0x2040 1) (mctpOf i3c) = true ∧ e.lo ≤ leNat (data.map (·.toNat)) ∧ leNat (data.map (·.toNat)) ≤ e.hi ∧ s.odSpecial
      ix.toNat sub.toNat (leNat (data.map (·.toNat))) = 0 ∧ ix.toNat ≠ 0x4020) ∧
    (∃ (s : State) (ix : BitVec 16) (sub : BitVec 8) (e : Ent), 2 ≤ s.reg F.BC_BOOT_STAGE ∧ odAt ix.toNat sub.toNat = .inl e ∧
      (e.acc = .ro ∨ e.acc = .const)) ∧
    (∃ (s : State) (i3c : Bool) (ix : BitVec 16) (sub : BitVec 8) (e : Ent), 2 ≤ s.reg F.BC_BOOT_STAGE ∧ odAt ix.toNat
      sub.toNat = .inl e ∧ (e.acc = .rw ∨ e.acc = .cmd) ∧ bitOf (s.od 0x2040 1) (mctpOf i3c) = false) ∧
    (∃ (s : State) (port : Fin 2) (ix : BitVec 16) (sub : BitVec 8) (len : BitVec 12) (e : Ent), 2 ≤ s.reg F.BC_BOOT_STAGE ∧
      odAt ix.toNat sub.toNat = .inl e ∧ e.acc = .rw ∧ e.size ≠ 0 ∧ len.toNat = e.size ∧ bitOf (s.od 0x2040 1) 4 = true ∧ e.lo
      ≤ leNat (s.odData port.val e.size) ∧ leNat (s.odData port.val e.size) ≤ e.hi ∧ s.odSpecial ix.toNat sub.toNat (leNat
      (s.odData port.val e.size)) = 0 ∧ ix.toNat ≠ 0x4020) ∧
    (∃ (s : State) (ix : BitVec 16) (sub : BitVec 8) (len : BitVec 12) (e : Ent), 2 ≤ s.reg F.BC_BOOT_STAGE ∧ odAt ix.toNat
      sub.toNat = .inl e ∧ e.acc = .rw ∧ e.size ≠ 0 ∧ len.toNat ≠ e.size ∧ len.toNat ≤ 1024 ∧ bitOf (s.od 0x2040 1) 4 = true) ∧
    (∃ (s : State) (port : Fin 2) (ix : BitVec 16) (sub : BitVec 8) (len : BitVec 12) (e : Ent), 2 ≤ s.reg F.BC_BOOT_STAGE ∧
      odAt ix.toNat sub.toNat = .inl e ∧ e.acc = .rw ∧ e.size ≠ 0 ∧ len.toNat = e.size ∧ bitOf (s.od 0x2040 1) 4 = true ∧
      (leNat (s.odData port.val e.size) < e.lo ∨ e.hi < leNat (s.odData port.val e.size))) ∧
    (∃ (s : State) (ix : BitVec 16) (sub : BitVec 8) (e : Ent) (x : _), 2 ≤ s.reg F.BC_BOOT_STAGE ∧ odNext ix.toNat sub.toNat
      = some e ∧ x ∈ odTable ∧ odKey ix.toNat sub.toNat < x.key) ∧
    (∃ (s : State) (ix : BitVec 16) (sub : BitVec 8) (e : Ent), 2 ≤ s.reg F.BC_BOOT_STAGE ∧ odNext ix.toNat sub.toNat = some
      e) ∧
    (∃ (s : State) (ix : BitVec 16) (sub : BitVec 8), 2 ≤ s.reg F.BC_BOOT_STAGE ∧ odNext ix.toNat sub.toNat = none) ∧
    (∃ (s : State) (x : Sdo), s.sdoOf 0 = some x) :=
  ⟨⟨regsOf [(F.BC_BOOT_STAGE, 0, 2)], false, 0x1017, 0, [5, 0], ent 0x1017 0 tyU16 .rw .module true 1000, by decide +kernel⟩,
   ⟨regsOf [(F.BC_BOOT_STAGE, 0, 2)], 0x1018, 1, ent 0x1018 1 tyU32 .const .volatile false 0x1FE7, by decide +kernel⟩,
   ⟨(regsOf [(F.BC_BOOT_STAGE, 0, 2)]).setOd 0x2040 1 4, false, 0x1017, 0, ent 0x1017 0 tyU16 .rw .module true 1000, by
     decide +kernel⟩,
   ⟨regsOf [(F.BC_BOOT_STAGE, 0, 2)], 0, 0x1017, 0, 2, ent 0x1017 0 tyU16 .rw .module true 1000, by decide +kernel⟩,
   ⟨regsOf [(F.BC_BOOT_STAGE, 0, 2)], 0x1017, 0, 1024, ent 0x1017 0 tyU16 .rw .module true 1000, by decide +kernel⟩,
   ⟨(regsOf [(F.BC_BOOT_STAGE, 0, 2)]).setReg F.OD_DATA_DATA 461, 0, 0x2400, 1, 2, entR 0x2400 1 tyU16 .rw .profile true 420
     400 460, by decide +kernel⟩,
   ⟨regsOf [(F.BC_BOOT_STAGE, 0, 2)], 0x8000, 0, ent 0x8000 1 tyU64 .ro .volatile false 0, ent 0x8000 1 tyU64 .ro .volatile
     false 0, by decide +kernel⟩,
   ⟨regsOf [(F.BC_BOOT_STAGE, 0, 2)], 0x8000, 0, ent 0x8000 1 tyU64 .ro .volatile false 0, by decide +kernel⟩,
   ⟨regsOf [(F.BC_BOOT_STAGE, 0, 2)], 0x8000, 1, by decide +kernel⟩,
   ⟨{ State.reset with dict := { DictSt.zero with sdo := [⟨0, 0, false, [], false, 0⟩] } }, ⟨0, 0, false, [], false, 0⟩, by
     decide +kernel⟩⟩

theorem test_witness_NodeAndCoolantExchangeComplete :
    (∃ (s : State), s.dict.nmt ≠ .off) ∧
    (∃ (s : State), s.dict.nmt = .preOperational ∧ s.od 0x2020 6 = 1) ∧
    (∃ (s : State), s.dict.nmt = .operational ∧ s.pdoMap 0x1600 3 = [(0x2300, 1, 2), (0x2300, 2, 2), (0x2300, 10, 1)]) ∧
    (∃ (s : State), s.dict.nmt = .operational ∧ s.dict.lastTpdo1 = 0 ∧ s.pdoMap 0x1A00 4 = [(0x2300, 8, 2), (0x2300, 3, 2),
      (0x4000, 1, 2), (0x2300, 9, 1)]) ∧
    (∃ (s : State), s.dict.nmt = .operational ∧ s.pdoMap 0x1A01 3 = [(0x4000, 2, 2), (0x4000, 3, 2), (0x5000, 1, 2)]) ∧
    (∃ (s : State), (s.dict.nmt = .preOperational ∨ s.dict.nmt = .operational) ∧ s.od 0x1017 0 ≠ 0) ∧
    (∃ (s : State), s.od 0x2300 7 * s.od 0x2300 6 ≠ 0) :=
  ⟨⟨{ State.reset with dict := { DictSt.zero with nmt := .stopped } }, by decide +kernel⟩,
   ⟨{ State.reset with dict := { DictSt.zero with nmt := .preOperational } }, by decide +kernel⟩,
   ⟨{ State.reset with dict := { DictSt.zero with nmt := .operational } }, by decide +kernel⟩,
   ⟨{ State.reset with dict := { DictSt.zero with nmt := .operational } }, by decide +kernel⟩,
   ⟨{ State.reset with dict := { DictSt.zero with nmt := .operational } }, by decide +kernel⟩,
   ⟨{ State.reset with dict := { DictSt.zero with nmt := .operational } }, by decide +kernel⟩,
   ⟨State.reset, by decide +kernel⟩⟩

theorem test_witness_ProfileAndTopologyCommandsComplete :
    (∃ (s : State), s.saveTarget ≠ 0) ∧
    (∃ (s : State), s.saveTarget = 0) ∧
    (∃ (s : State), s.switchBusy = true) ∧
    (∃ (s : State), s.switchBusy = false ∧ s.rst.active = false) ∧
    (∃ (s : State), (s.reg F.BC_ROPE_STATUS_STATE = 0 ∨ s.reg F.BC_ROPE_STATUS_STATE = 7)) ∧
    (∃ (s : State), s.reg F.BC_ROPE_STATUS_STATE ≠ 0 ∧ s.reg F.BC_ROPE_STATUS_STATE ≠ 7) :=
  ⟨⟨State.reset.setOd 0x2000 4 3, by decide +kernel⟩,
   ⟨State.reset.setOd 0x2000 4 0, by decide +kernel⟩,
   ⟨regsOf [(F.BC_ROPE_STATUS_STATE, 0, 4)], by decide +kernel⟩,
   ⟨State.reset, by decide +kernel⟩,
   ⟨regsOf [(F.BC_ROPE_STATUS_STATE, 0, 7)], by decide +kernel⟩,
   ⟨regsOf [(F.BC_ROPE_STATUS_STATE, 0, 8)], by decide +kernel⟩⟩

theorem test_witness_TestAndInstallCommandsComplete :
    (∃ (s : State) (ix : BitVec 8) (ok : Bool) (tenant : Fin 16) (plain : Blob), s.soloRefused = false ∧ ((s.setOd 0x2600 1
      ix.toNat).installCheck ⟨plain⟩ (ok && decide (ix.toNat < 8 ∧ 1 ≤ tenant.val ∧ tenant.val ≤ 15)) = 0)) ∧
    (∃ (s : State), s.soloRefused = true) ∧
    (∃ (s : State) (ix : BitVec 8) (ok : Bool) (tenant : Fin 16) (plain : Blob), s.crocus = true ∧ s.soloRefused = false ∧
      s.dict.test = none ∧ ((s.setOd 0x2600 1 ix.toNat).installCheck ⟨plain⟩ (ok && decide (ix.toNat < 8 ∧ 1 ≤ tenant.val ∧
      tenant.val ≤ 15)) = 0)) ∧
    (∃ (s : State), s.crocus = false) ∧
    (∃ (s : State), s.pendingImg = none ∧ (s.invocationRuns = true ∨ s.tenantBusy = true ∨ s.ropeIdle = false)) ∧
    (∃ (s : State) (len : BitVec 48) (a : Bool) (b : Bool) (c : Bool) (plain : Blob) (k : Nat), s.pendingImg = none ∧
      s.invocationRuns = false ∧ s.tenantBusy = false ∧ s.ropeIdle = true ∧ k ≠ 0 ∧ k < 256 ∧ (s.setReg F.BC_IMG_CMD_LENGTH
      len.toNat).installCheck ⟨plain⟩ (s.containerOk len.toNat a b c plain) = k) ∧
    (∃ (s : State) (len : BitVec 48) (a : Bool) (b : Bool) (c : Bool) (plain : Blob), s.pendingImg = none ∧ s.invocationRuns =
      false ∧ s.tenantBusy = false ∧ s.ropeIdle = true ∧ (s.setReg F.BC_IMG_CMD_LENGTH len.toNat).installCheck ⟨plain⟩
      (s.containerOk len.toNat a b c plain) = 0) ∧
    (∃ (s : State) (m : Img), s.pendingImg = some m) ∧
    (∃ (s : State), s.pendingImg = none ∧ s.invocationRuns = false ∧ s.ropeIdle = true) ∧
    (∃ (s : State), s.pendingImg = none ∧ (s.invocationRuns = true ∨ s.ropeIdle = false)) :=
  ⟨⟨State.reset, 0, true, 3, smallImage, by decide +kernel, smallImage_installs (by decide +kernel) rfl (by decide +kernel)
     (by decide +kernel) (by decide +kernel) rfl (by decide +kernel) (by decide +kernel) (by decide +kernel) (by
     decide +kernel)⟩,
   ⟨regsOf [(F.BC_ROPE_STATUS_STATE, 0, 4)], by decide +kernel⟩,
   ⟨State.reset, 0, true, 3, smallImage, by decide +kernel, by decide +kernel, by decide +kernel, smallImage_installs (by
     decide +kernel) rfl (by decide +kernel) (by decide +kernel) (by decide +kernel) rfl (by decide +kernel) (by
     decide +kernel) (by decide +kernel) (by decide +kernel)⟩,
   ⟨State.reset.setOd 0x2000 1 1, by decide +kernel⟩,
   ⟨regsOf [(F.BC_ROPE_STATUS_STATE, 0, 4)], by decide +kernel, Or.inr (Or.inr (by decide +kernel))⟩,
   ⟨State.reset, 0, false, false, false, ⟨0, []⟩, 1, by decide +kernel⟩,
   ⟨stagedImage, 0x111FD, true, true, true, smallImage, by decide +kernel, by decide +kernel, by decide +kernel, by
     decide +kernel, smallImage_installs (by decide +kernel) rfl (by decide +kernel) (by decide +kernel) (by decide +kernel)
     rfl (by decide +kernel) (by decide +kernel) (by decide +kernel) (by decide +kernel)⟩,
   ⟨{ State.reset with pendingImg := some (imgOf []) }, imgOf [], by decide +kernel⟩,
   ⟨State.reset, by decide +kernel⟩,
   ⟨regsOf [(F.BC_ROPE_STATUS_STATE, 0, 4)], by decide +kernel⟩⟩

theorem test_witness_HeldOutFieldCommandsComplete :
    (∃ (s : State) (f : Fin 48), s.present f.val = true ∧ s.mode f.val = 0 ∧ s.heldOut f.val = false) ∧
    (∃ (s : State) (f : Fin 48), s.present f.val = true ∧ (s.mode f.val ≠ 0 ∨ s.heldOut f.val = true)) ∧
    (∃ (s : State) (f : Fin 48), s.present f.val = true ∧ s.reg F.FLD_HOLD_STATE f.val = 1) ∧
    (∃ (s : State) (f : Fin 48), s.present f.val = true ∧ s.reg F.FLD_HOLD_STATE f.val ≠ 1) ∧
    (∃ (s : State) (f : Fin 48), s.reg F.FLD_HOLD_STATE f.val = 2 ∧ s.compOn f.val = true) ∧
    (∃ (s : State) (f : Fin 48), s.reg F.FLD_HOLD_STATE f.val = 2 ∧ s.compOn f.val = false) :=
  ⟨⟨State.reset, 0, by decide +kernel⟩,
   ⟨regsOf [(F.FLD_HOLD_STATE, 0, 1)], 0, by decide +kernel⟩,
   ⟨regsOf [(F.FLD_HOLD_STATE, 0, 1)], 0, by decide +kernel⟩,
   ⟨State.reset, 0, by decide +kernel⟩,
   ⟨regsOf [(F.FLD_HOLD_STATE, 0, 2), (F.FLD_PWR_RAILS, 0, 1)], 0, by decide +kernel⟩,
   ⟨regsOf [(F.FLD_HOLD_STATE, 0, 2)], 0, by decide +kernel⟩⟩

theorem test_witness_InvocationCommandsComplete :
    (∃ (s : State) (u : State) (m : Img) (e : BitVec 8) (start : BitVec 64) (now : BitVec 64) (ups : List (Addr × Upset)) (n :
      Nat), u = s.upsets ups ∧ u.image = some m ∧ u.solo = true ∧ u.ropeState = 4 ∧ u.usedShort = false ∧ e.toNat < m.entries
      ∧ u.entryWanted e.toNat = true ∧ m.invLength e.toNat (u.invParams e.toNat u.rope.nextSeq) = some n ∧ u.placeOk m e.toNat
      now.toNat start.toNat = true ∧ u.rope.nextSeq < 2 ^ 64 ∧ (∀ p, p ∈ u.invParams e.toNat u.rope.nextSeq → p < 2 ^ 32)) ∧
    (∃ (s : State) (u : State) (m : Img) (e : BitVec 8) (ups : List (Addr × Upset)), u = s.upsets ups ∧ u.image = some m ∧
      (u.usedShort = true ∨ u.entryWanted e.toNat = false)) ∧
    (∃ (s : State) (m : Img) (i : Invocation) (rest : List Invocation) (ls : List Nat), s.image = some m ∧ s.invq = i :: rest
      ∧ s.usedShort = false ∧ s.run.nxt = none ∧ s.run.cur = none ∧ s.acyc ≤ i.start ∧ m.lengths i.params (m.sections + 1)
      (m.entrySec i.entry) = some ls) ∧
    (∃ (s : State) (m : Img) (i : Invocation) (rest : List Invocation) (ls : List Nat), s.image = some m ∧ s.invq = i :: rest
      ∧ s.usedShort = false ∧ s.run.nxt = none ∧ s.chains m i = true ∧ m.lengths i.params (m.sections + 1) (m.entrySec
      i.entry) = some ls) ∧
    (∃ (s : State) (m : Img) (i : Invocation) (rest : List Invocation), s.image = some m ∧ s.invq = i :: rest ∧ s.usedShort =
      true ∧ s.run.nxt = none) ∧
    (∃ (s : State) (m : Img) (i : Invocation) (rest : List Invocation), s.image = some m ∧ s.invq = i :: rest ∧ s.usedShort =
      false ∧ s.run.nxt = none ∧ m.lengths i.params (m.sections + 1) (m.entrySec i.entry) = none) ∧
    (∃ (s : State) (m : Img) (d : SwitchTo), s.image = some m ∧ s.switchNext = some d ∧ d.entry = none) ∧
    (∃ (s : State) (m : Img) (d : SwitchTo) (i : Invocation) (cold : Bool), s.image = some m ∧ s.switchNext = some d ∧ d.entry
      = some (i, cold) ∧ (∀ f, f ∈ s.usedFields → s.trust.scanning.contains f = false)) ∧
    (∃ (s : State) (m : Img) (d : SwitchTo) (e : Invocation × Bool) (f : Nat), s.image = some m ∧ s.switchNext = some d ∧
      d.entry = some e ∧ f ∈ s.usedFields ∧ s.trust.scanning.contains f = true) ∧
    (∃ (s : State) (i : Invocation), s.run.cur = some i ∧ s.run.nxt = none ∧ s.run.last = true) :=
  ⟨⟨{ regsOf [(F.BC_ROPE_STATUS_SOLO, 0, 1), (F.BC_ROPE_STATUS_LSTATE, 0, 4)] with image := some (oneSection []), acyc := 100, bcl := { BcLink.zero with mail := [(2, 0, [0, 1, 0, 0, 0, 0, 0, 0, 1])] } },
     { regsOf [(F.BC_ROPE_STATUS_SOLO, 0, 1), (F.BC_ROPE_STATUS_LSTATE, 0, 4)] with image := some (oneSection []), acyc := 100, bcl := { BcLink.zero with mail := [(2, 0, [0, 1, 0, 0, 0, 0, 0, 0, 1])] } },
     oneSection [], 0, 0x4000, 0, [], 4096, rfl, by decide +kernel⟩,
   ⟨{ State.reset with image := some (oneSection []) }, { State.reset with image := some (oneSection []) }, oneSection [], 0,
     [], rfl, by decide +kernel, Or.inr rfl⟩,
   ⟨{ State.reset with image := some (oneSection []), invq := [⟨3, 0, 5, []⟩] }, oneSection [], ⟨3, 0, 5, []⟩, [], [4096], by
     decide +kernel⟩,
   ⟨{ State.reset with image := some (oneSection []), invq := [⟨3, 0, 4096, []⟩], run := { Run.zero with cur := some ⟨2, 0, 0, []⟩, last := true, next := 4096 } },
     oneSection [], ⟨3, 0, 4096, []⟩, [], [4096], by decide +kernel⟩,
   ⟨{ State.reset with image := some (imgOf [(0x34, 1)]), invq := [⟨3, 0, 5, []⟩] }, imgOf [(0x34, 1)], ⟨3, 0, 5, []⟩, [], by
     decide +kernel⟩,
   ⟨{ State.reset with image := some (imgOf []), invq := [⟨3, 0, 5, []⟩] }, imgOf [], ⟨3, 0, 5, []⟩, [], by decide +kernel⟩,
   ⟨{ State.reset with image := some (oneSection []), run := { Run.zero with cur := some ⟨2, 0, 0, []⟩, lens := [64] } },
     oneSection [], ⟨0, 1, 64, [], none⟩, by decide +kernel⟩,
   ⟨{ State.reset with image := some (oneSection []), run := { Run.zero with nxt := some (⟨2, 0, 9, []⟩, true, [4096]) } },
     oneSection [], ⟨9, 0, 4096, [], some (⟨2, 0, 9, []⟩, true)⟩, ⟨2, 0, 9, []⟩, true, by decide +kernel⟩,
   ⟨{ State.reset with trust := { Trust.zero with scanning := [0] }, image := some (oneSection []), run := { Run.zero with nxt := some (⟨2, 0, 9, []⟩, true, [4096]) } },
     oneSection [], ⟨9, 0, 4096, [], some (⟨2, 0, 9, []⟩, true)⟩, (⟨2, 0, 9, []⟩, true), 0, by decide +kernel⟩,
   ⟨{ State.reset with run := { Run.zero with cur := some ⟨2, 0, 0, []⟩, last := true } }, ⟨2, 0, 0, []⟩, by decide +kernel⟩⟩

theorem test_witness_LandingCommandsComplete :
    (∃ (s : State) (a : Addr) (f : Nat) (key : Nat) (d : Nat) (data : Row), s.locate a.toNat = some (f, key) ∧ (s.tile f
      key).mxu.loads = [⟨d, .w, data⟩] ∧ d ≤ s.acyc) ∧
    (∃ (s : State) (a : Addr) (f : Nat) (key : Nat) (d : Nat) (i : Nat) (r : Nat) (mem : Bool) (v : Row), s.locate a.toNat =
      some (f, key) ∧ (s.tile f key).vu.pending = [⟨d, i, mem, r, BitVec.allOnes 16, v⟩] ∧ d ≤ s.acyc) ∧
    (∃ (s : State) (a : Addr) (f : Nat) (key : Nat) (d : Nat) (b : Bool) (tok : Tok), s.locate a.toNat = some (f, key) ∧
      (s.tile f key).rtr.injects = [⟨d, b, tok⟩] ∧ d ≤ s.acyc) ∧
    (∃ (s : State) (a : Addr) (f : Nat) (key : Nat) (d : Nat) (dest : Nat) (ws : List CWord), s.locate a.toNat = some (f, key)
      ∧ (s.tile f key).seq.state ≠ .run ∧ (s.tile f key).seq.state ≠ .armed ∧ ws.length = 8 ∧ (s.tile f key).beats = [⟨d,
      false, dest, (s.tile f key).seq.secStart, ws⟩] ∧ d ≤ s.acyc) ∧
    (∃ (s : State) (a : Addr) (f : Nat) (key : Nat) (d : Nat) (dest : Nat) (ws : List CWord), s.locate a.toNat = some (f, key)
      ∧ (s.tile f key).seq.stbyCount + 4 ≤ 512 ∧ (s.tile f key).beats = [⟨d, true, dest, (s.tile f key).seq.secStart, ws⟩] ∧ d
      ≤ s.acyc) ∧
    (∃ (s : State) (a : Addr) (f : Nat) (key : Nat), s.locate a.toNat = some (f, key) ∧ (s.tile f key).seq.state = .armed ∧
      (s.tile f key).seq.cmdArm = false ∧ (s.tile f key).seq.startAt ≤ s.acyc) :=
  ⟨⟨tileOf { Tile.zero with mxu := { Mxu.zero with loads := [⟨0, .w, 5⟩] } }, 0, 0, 0, 0, 5, by decide +kernel⟩,
   ⟨tileOf { Tile.zero with vu := { Vu.zero with pending := [⟨0, 0, false, 3, BitVec.allOnes 16, 5⟩] } }, 0, 0, 0, 0, 0, 3,
     false, 5, by decide +kernel⟩,
   ⟨tileOf { Tile.zero with rtr := { Rtr.zero with injects := [⟨0, true, ⟨5, 0⟩⟩] } }, 0, 0, 0, 0, true, ⟨5, 0⟩, by
     decide +kernel⟩,
   ⟨tileOf { Tile.zero with beats := [⟨0, false, 0, 0, List.replicate 8 CWord.zero⟩] }, 0, 0, 0, 0, 0, List.replicate 8
     CWord.zero, by decide +kernel⟩,
   ⟨tileOf { Tile.zero with beats := [⟨0, true, 0, 0, []⟩], seq := { Seq.zero with stbyCount := 508 } }, 0, 0, 0, 0, 0, [], by
     decide +kernel⟩,
   ⟨tileOf { Tile.zero with seq := { Seq.zero with state := .armed } }, 0, 0, 0, by decide +kernel⟩⟩

theorem test_witness_TileCommandRegistersComplete :
    (∃ (s : State) (a : Addr) (f : Nat) (key : Nat), s.locate a.toNat = some (f, key) ∧ s.inReset f = false ∧ (s.rst.active &&
      (s.rst.all || bitOf s.rst.fields f)) = false ∧ (s.tile f key).scrOp = .none ∧ ((s.tile f key).seq.state = .halt ∨
      (s.tile f key).seq.state = .idle ∧ (s.tile f key).seq.actValid = true)) ∧
    (∃ (s : State) (a : Addr) (f : Nat) (key : Nat), s.locate a.toNat = some (f, key) ∧ s.inReset f = false ∧ ((s.tile f
      key).seq.state = .run ∨ (s.tile f key).seq.state = .done ∨ (s.tile f key).seq.state = .armed)) ∧
    (∃ (s : State) (a : Addr) (f : Nat) (key : Nat), s.locate a.toNat = some (f, key) ∧ s.coreServes f = true ∧ ((s.tile f
      key).seq.state = .idle ∨ (s.tile f key).seq.state = .halt) ∧ (s.tile f key).scrOp = .none) ∧
    (∃ (s : State) (a : Addr) (f : Nat) (key : Nat), s.locate a.toNat = some (f, key) ∧ s.coreServes f = true ∧ (s.tile f
      key).scrOp = .zeroize) ∧
    (∃ (s : State) (a : Addr) (f : Nat) (key : Nat), s.locate a.toNat = some (f, key) ∧ s.coreServes f = true ∧ (s.tile f
      key).scrOp = .scrub ∧ SMap.wf CWord.zero (s.tile f key).scratch = true ∧ (∀ e, e ∈ (s.tile f key).scratch → e.2.ecc ≠
      .multi)) ∧
    (∃ (s : State) (a : Addr) (f : Nat) (key : Nat), s.locate a.toNat = some (f, key) ∧ s.coreServes f = true ∧ ((s.tile f
      key).core.state = .held ∨ (s.tile f key).core.state = .waiting)) ∧
    (∃ (s : State) (a : Addr) (f : Nat) (key : Nat), s.locate a.toNat = some (f, key) ∧ s.coreServes f = true) ∧
    (∃ (s : State) (a : Addr) (f : Nat) (key : Nat), s.locate a.toNat = some (f, key) ∧ s.coreServes f = true ∧ ((s.tile f
      key).core.state = .trap ∨ (s.tile f key).core.state = .lockup)) :=
  ⟨⟨tileOf { Tile.zero with seq := { Seq.zero with state := .halt } }, 0, 0, 0, by decide +kernel⟩,
   ⟨tileOf { Tile.zero with seq := { Seq.zero with state := .run } }, 0, 0, 0, by decide +kernel⟩,
   ⟨tileOf Tile.zero, 0, 0, 0, by decide +kernel⟩,
   ⟨tileOf { Tile.zero with scrOp := .zeroize }, 0, 0, 0, by decide +kernel⟩,
   ⟨tileOf { Tile.zero with scrOp := .scrub, scratch := [(3, ⟨5, 0, 0⟩)] }, 0, 0, 0, by decide +kernel⟩,
   ⟨tileOf Tile.zero, 0, 0, 0, by decide +kernel⟩,
   ⟨tileOf Tile.zero, 0, 0, 0, by decide +kernel⟩,
   ⟨tileOf { Tile.zero with core := { CCore.zero with state := .trap } }, 0, 0, 0, by decide +kernel⟩⟩

theorem test_witness_FullLandingFifoOverflows :
    ∃ (s : State) (a : Addr) (port : Fin 8) (hop : BitVec 80) (f : Nat) (key : Nat) (l : LinkWord) (r : List LinkWord),
      errOutcome hop ≠ .multi ∧ s.locate a.toNat = some (f, key) ∧ l.dest = a.toNat ∧ l.port = port.val ∧ s.inReset f = false
      ∧ s.heldOut f = false ∧ takeFirst (fun l => l.dest = a.toNat && l.port = port.val && s.mayArrive l) s.links = some (l,
      r) ∧ l.tok.colour = (s.tile f key).seq.colour ∧ 16 ≤ ((s.tile f key).rtr.fifo port.val).length ∧ (s.field f).queued < 64 :=
  ⟨{ tileOf { Tile.zero with rtr := { Rtr.zero with fifos := [(0, List.replicate 16 ⟨1, 0⟩)] } } with links := [⟨0, 0, ⟨7, 0⟩, 0, false⟩] },
    0, 0, 0, 0, 0, ⟨0, 0, ⟨7, 0⟩, 0, false⟩, [], by decide +kernel⟩

theorem test_witness_WordsArriveAndBundlesIssue :
    (∃ (s : State) (a : Addr) (port : Fin 8) (hop : BitVec 80) (f : Nat) (key : Nat) (l : LinkWord) (r : List LinkWord),
      errOutcome hop ≠ .multi ∧ s.locate a.toNat = some (f, key) ∧ l.dest = a.toNat ∧ l.port = port.val ∧ s.inReset f = false
      ∧ s.heldOut f = false ∧ takeFirst (fun l => l.dest = a.toNat && l.port = port.val && s.mayArrive l) s.links = some (l,
      r) ∧ l.tok.colour = (s.tile f key).seq.colour ∧ ((s.tile f key).rtr.fifo port.val).length < 16) ∧
    (∃ (s : State) (a : Addr) (f : Nat) (key : Nat), s.locate a.toNat = some (f, key) ∧ (s.tile f key).seq.state = .done ∧
      s.links = []) ∧
    (∃ (s : State) (a : Addr) (f : Nat) (key : Nat), s.locate a.toNat = some (f, key) ∧ s.inReset f = false ∧ (s.field
      f).stopped = false ∧ s.dark f = false ∧ s.mode f = 2 ∧ s.links = [] ∧ (s.tile f key).seq.state = .run ∧ (s.tile f
      key).seq.loops = [] ∧ (s.tile f key).beats = [] ∧ (s.tile f key).mxu.loads = [] ∧ (s.tile f key).vu.pending = [] ∧
      (s.tile f key).vu.flagsOpen = [] ∧ (s.tile f key).rtr.injects = [] ∧ (s.tile f key).seq.nextPc.toNat < 511 ∧ (s.tile f
      key).activeBundle (s.tile f key).seq.nextPc.toNat = 0 ∧ s.beforeSwitch (s.issueAt (s.tile f key)) = true ∧ (∀ e, e ∈
      s.fields → e.2.clearAt = none)) :=
  ⟨⟨{ tileOf { Tile.zero with rtr := { Rtr.zero with fifos := [(0, List.replicate 15 ⟨1, 0⟩)] } } with links := [⟨0, 0, ⟨7, 0⟩, 0, false⟩] },
     0, 0, 0, 0, 0, ⟨0, 0, ⟨7, 0⟩, 0, false⟩, [], by decide +kernel⟩,
   ⟨tileOf { Tile.zero with seq := { Seq.zero with state := .done } }, 0, 0, 0, by decide +kernel⟩,
   ⟨{ tileOf { Tile.zero with seq := { Seq.zero with state := .run, nextPc := 510 } } with image := some (imgOf [(0x28, 2)]) },
     0, 0, 0, by decide +kernel⟩⟩

theorem test_witness_UnboundControlPointEventsAreDiscarded :
    ∃ (s : State) (a : Addr) (f : Nat) (key : Nat) (ev : Byte) (rest : List Byte), s.locate a.toNat = some (f, key) ∧
      s.coreServes f = true ∧ s.coreGated f = false ∧ (s.tile f key).core.state = .waiting ∧ (s.tile f key).seq.evq = ev ::
      rest ∧ ((s.tile f key).core.tags.get TagEntry.zero 0x3FF).valid = false :=
  ⟨tileOf { Tile.zero with core := { CCore.zero with state := .waiting }, seq := { Seq.zero with evq := [5] } }, 0, 0, 0, 5,
    [], by decide +kernel⟩

theorem test_witness_ControlCoreCommandsComplete :
    (∃ (s : State) (a : Addr) (f : Nat) (key : Nat) (ev : Byte) (rest : List Byte), s.locate a.toNat = some (f, key) ∧
      s.coreServes f = true ∧ s.coreGated f = false ∧ (s.tile f key).core.state = .waiting ∧ (s.tile f key).seq.evq = ev ::
      rest ∧ ((s.tile f key).core.tags.get TagEntry.zero 0x3FF).valid = true) ∧
    (∃ (s : State) (a : Addr) (f : Nat) (key : Nat) (p : Packet) (rest : List Landed), s.locate a.toNat = some (f, key) ∧
      s.coreServes f = true ∧ s.coreGated f = false ∧ (s.tile f key).core.state = .waiting ∧ (s.tile f key).seq.evq = [] ∧
      (s.tile f key).msg.landed = .request p :: rest ∧ ((s.tile f key).core.tags.get TagEntry.zero p.tag.toNat).valid = true) ∧
    (∃ (s : State) (a : Addr) (f : Nat) (key : Nat) (u : Tile) (next : Nat), s.locate a.toNat = some (f, key) ∧ s.coreServes f
      = true ∧ s.coreGated f = false ∧ (s.tile f key).coreActive = true ∧ (s.tile f key).coreRun (s.tpos f key) = .ok u next) ∧
    (∃ (s : State) (a : Addr) (f : Nat) (key : Nat) (cause : Nat), s.locate a.toNat = some (f, key) ∧ s.coreServes f = true ∧
      s.coreGated f = false ∧ (s.tile f key).coreActive = true ∧ (s.tile f key).coreRun (s.tpos f key) = .trap cause ∧
      (s.field f).queued < 64) ∧
    (∃ (s : State) (a : Addr) (f : Nat) (key : Nat) (i : Nat), s.locate a.toNat = some (f, key) ∧ s.coreServes f = true ∧
      s.coreGated f = false ∧ (s.tile f key).tsAt 0 = some i ∧ (s.tile f key).msg.send = .idle ∧ ((s.position f key).isNone =
      true ∨ (s.tile f key).sendOk s.rows ((s.tile f key).tsArgs i).2.1 ((s.tile f key).tsArgs i).2.2 = false) ∧ bits i 7 5 ≠
      0) ∧
    (∃ (s : State) (a : Addr) (f : Nat) (key : Nat) (i : Nat) (k : Nat), s.locate a.toNat = some (f, key) ∧ s.coreServes f =
      true ∧ s.coreGated f = false ∧ (s.tile f key).sendWord = some i ∧ ((s.tile f key).msg.send = .awaitSlot ∨ (s.position f
      key).isSome = true ∧ (s.tile f key).sendOk s.rows ((s.tile f key).tsArgs i).2.1 ((s.tile f key).tsArgs i).2.2 = true) ∧
      (s.tile f key).msg.freeSlot = some k) ∧
    (∃ (s : State) (a : Addr) (f : Nat) (key : Nat) (i : Nat) (q : Packet), s.locate a.toNat = some (f, key) ∧ s.coreServes f
      = true ∧ s.coreGated f = false ∧ (s.tile f key).tsAt 1 = some i ∧ (s.tile f key).core.inHand = some q ∧ (s.tile f
      key).core.state = .handler ∧ (s.tile f key).rpl q.tag.toNat = true ∧ (s.tile f key).core.replied = false ∧ bits ((s.tile
      f key).tsArgs i).2.2 0 4 ≤ 8) ∧
    (∃ (s : State) (a : Addr) (f : Nat) (key : Nat) (i : Nat), s.locate a.toNat = some (f, key) ∧ s.coreServes f = true ∧
      s.coreGated f = false ∧ (s.tile f key).tsAt 2 = some i) ∧
    (∃ (s : State) (a : Addr) (f : Nat) (key : Nat) (i : Nat), s.locate a.toNat = some (f, key) ∧ s.coreServes f = true ∧
      s.coreGated f = false ∧ (s.tile f key).tsAt 3 = some i) ∧
    (∃ (s : State) (a : Addr) (f : Nat) (key : Nat) (i : Nat), s.locate a.toNat = some (f, key) ∧ s.coreServes f = true ∧
      s.coreGated f = false ∧ (s.tile f key).tsAt 4 = some i ∧ bits i 25 7 = 0) ∧
    (∃ (s : State) (a : Addr) (f : Nat) (key : Nat) (i : Nat), s.locate a.toNat = some (f, key) ∧ s.coreServes f = true ∧
      s.coreGated f = false ∧ (s.tile f key).tsAt 5 = some i ∧ bits i 25 7 = 0 ∧ ((s.tile f key).tsArgs i).2.2 < 2 ^ 23 ∧
      (s.tile f key).boundOk (s.tpos f key) (((s.tile f key).tsArgs i).2.1 % 64) ((s.tile f key).tsArgs i).2.2 ((s.tile f
      key).nextBounds (((s.tile f key).tsArgs i).2.1 % 64)).2 = true) ∧
    (∃ (s : State) (a : Addr) (f : Nat) (key : Nat) (i : Nat) (n : Nat) (addr : Nat) (ws : List CWord), s.locate a.toNat =
      some (f, key) ∧ s.coreServes f = true ∧ s.coreGated f = false ∧ (s.tile f key).tsAt 6 = some i ∧ (s.tile f
      key).coreHandle ((s.tile f key).tsArgs i).2.1 false = (n, addr, none) ∧ ((s.tile f key).coreBeats 6 1 = 0 ∨ s.admits f 2
      = true) ∧ ws = (List.range (wordSpan addr 4).2).map (fun j => (s.tile f key).spaceWord ((s.tile f key).handle
      n).stackSpace (addr / 8 + j)) ∧ (∀ w, w ∈ ws → w.ecc ≠ .multi)) ∧
    (∃ (s : State) (a : Addr) (f : Nat) (key : Nat) (i : Nat) (n : Nat) (addr : Nat) (ws : List CWord), s.locate a.toNat =
      some (f, key) ∧ s.coreServes f = true ∧ s.coreGated f = false ∧ (s.tile f key).tsAt 7 = some i ∧ (s.tile f
      key).coreHandle ((s.tile f key).tsArgs i).2.1 true = (n, addr, none) ∧ ((s.tile f key).coreBeats 7 2 = 0 ∨ s.admits f 2
      = true) ∧ ws = (List.range (wordSpan addr 4).2).map (fun j => (s.tile f key).spaceWord ((s.tile f key).handle
      n).stackSpace (addr / 8 + j)) ∧ (∀ w, w ∈ ws → w.ecc ≠ .multi)) ∧
    (∃ (s : State) (a : Addr) (f : Nat) (key : Nat), s.locate a.toNat = some (f, key) ∧ s.coreServes f = true ∧ s.coreGated f
      = false ∧ (s.tile f key).coreBeats 6 1 ≠ 0 ∧ s.admits f 2 = false) ∧
    (∃ (s : State) (a : Addr) (f : Nat) (key : Nat), s.locate a.toNat = some (f, key) ∧ s.coreServes f = true ∧ s.coreGated f
      = false ∧ (s.tile f key).coreBeats 7 2 ≠ 0 ∧ s.admits f 2 = false) :=
  ⟨⟨tileOf
     { Tile.zero with core := { CCore.zero with state := .waiting, tags := [(0x3FF, ⟨true, 0x40⟩)] }, seq := { Seq.zero with evq := [5] } },
     0, 0, 0, 5, [], by decide +kernel⟩,
   ⟨tileOf
     { Tile.zero with core := { CCore.zero with state := .waiting, tags := [(0, ⟨true, 0x40⟩)] }, msg := { MsgIf.zero with landed := [.request (packetOf false 0)] } },
     0, 0, 0, packetOf false 0, [], by decide +kernel⟩,
   ⟨tileOf { Tile.zero with core := coreOf 0x00500093 }, 0, 0, 0,
     { Tile.zero with core := { coreOf 0x00500093 with x := [(1, 5)] } }, 0x20004, by decide +kernel⟩,
   ⟨tileOf { Tile.zero with core := coreOf 0 }, 0, 0, 0, 2, by decide +kernel⟩,
   ⟨tileOf { Tile.zero with core := coreOf 0x0031008B }, 0, 0, 0, 0x0031008B, by decide +kernel, by decide +kernel, by
     decide +kernel, by decide +kernel, by decide +kernel, Or.inr (by decide +kernel), by decide +kernel⟩,
   ⟨tileOf { Tile.zero with core := coreOf 0x0031008B, regs := RegFile.set [] F.MSG_FLOW_OUT_MASK 0 0 1 }, 0, 0, 0,
     0x0031008B, 0, by decide +kernel, by decide +kernel, by decide +kernel, by decide +kernel, Or.inr (by decide +kernel), by
     decide +kernel⟩,
   ⟨tileOf
     { Tile.zero with core := { coreOf 0x0030100B with inHand := some (packetOf false 0) }, regs := RegFile.set [] F.MSG_FLOW_RPL_MASK 0 0 1 },
     0, 0, 0, 0x0030100B, packetOf false 0, by decide +kernel⟩,
   ⟨tileOf { Tile.zero with core := coreOf 0x0000200B }, 0, 0, 0, 0x0000200B, by decide +kernel⟩,
   ⟨tileOf { Tile.zero with core := coreOf 0x0031300B }, 0, 0, 0, 0x0031300B, by decide +kernel⟩,
   ⟨tileOf { Tile.zero with core := coreOf 0x0001408B }, 0, 0, 0, 0x0001408B, by decide +kernel⟩,
   ⟨tileOf { Tile.zero with core := coreOf 0x0031508B }, 0, 0, 0, 0x0031508B, by decide +kernel⟩,
   ⟨tileOf
     { Tile.zero with core := coreOf 0x0001608B, handles := [(0, ⟨true, false, false, false, false, false, 0, 64, 0, 0, 0⟩)] },
     0, 0, 0, 0x0001608B, 0, 0, [CWord.zero], by decide +kernel, by decide +kernel, by decide +kernel, by decide +kernel, by
     decide +kernel, Or.inl (by decide +kernel), by decide +kernel⟩,
   ⟨tileOf
     { Tile.zero with core := coreOf 0x0031700B, handles := [(0, ⟨true, false, false, false, false, false, 0, 64, 0, 0, 0⟩)] },
     0, 0, 0, 0x0031700B, 0, 0, [CWord.zero], by decide +kernel, by decide +kernel, by decide +kernel, by decide +kernel, by
     decide +kernel, Or.inl (by decide +kernel), by decide +kernel⟩,
   ⟨(tileOf
     { Tile.zero with core := coreOf 0x0001608B, handles := [(0, ⟨true, true, false, false, false, false, 0, 64, 0, 0, 0⟩)] }).updField
     0 (fun g => { g with others := [(0, 1024)] }), 0, 0, 0, by decide +kernel⟩,
   ⟨(tileOf
     { Tile.zero with core := coreOf 0x0031700B, handles := [(0, ⟨true, true, false, false, false, false, 0, 64, 0, 0, 0⟩)] }).updField
     0 (fun g => { g with others := [(0, 1024)] }), 0, 0, 0, by decide +kernel⟩⟩

theorem test_witness_TileCommandsTouchOneTile :
    ∃ (s : State) (t : State) (a : Addr) (c : Instr) (ups : List Upset) (stuck : Bool) (slot : Fin 8) (addr : BitVec 20) (n :
      Fin 16) (data : List (BitVec 64 × BitVec 4)) (number : BitVec 16) (f : Nat) (key : Nat), c ∈ [Instr.nextBufferWrite a,
      .vuResultLanding a, .injectAvailable a, .srdLanding a, .sldLanding a, .armedStart a, .arm a, .halt a, .scrub a, .zeroize
      a, .scrubDone a ups, .run a, .ccHalt a, .restart a, .ccDispatch a, .coreInstruction a, .tsSend a, .tsReply a stuck,
      .tsYield a, .tsCppost a, .tsHget a, .tsHset a, .tsHld a ups, .tsHst a ups, .busyBackoff a, .msgSendTimeout a,
      .msgReplyTimeout a slot, .slotQuarantineEnd a slot, .read a addr ⟨n, []⟩, .write a addr ⟨data, []⟩, .test a ⟨number,
      []⟩] ∧ exec c s = .next t ∧ s.locate a.toNat ≠ some (f, key) :=
  ⟨State.reset, _, 0, Instr.arm 0, [], false, 0, 0, 0, [], 0, 1, 0, by simp, rfl, by decide +kernel⟩

theorem test_witness_PacketsHopAndRequestsAreTested :
    (∃ (s : State) (k : Nat) (x : Flight) (b : Nat), s.pkts[k]? = some x ∧ s.atHead k = true ∧ x.pkt.cls ≠ 3 ∧ nextHop x.at_
      x.pkt.dst.toNat = some b ∧ b ≠ bcPair ∧ s.msgReset (pairField b) = false ∧ s.inputOn x.pkt.reply x.at_ b = true) ∧
    (∃ (s : State) (k : Nat) (errs : List (BitVec 80)) (x : Flight) (b : Nat) (f : Nat) (key : Nat), s.pkts[k]? = some x ∧
      s.atHead k = true ∧ x.pkt.cls ≠ 3 ∧ nextHop x.at_ x.pkt.dst.toNat = some b ∧ b ≠ bcPair ∧ s.msgReset (pairField b) =
      false ∧ s.inputOn x.pkt.reply x.at_ b = true ∧ s.locate b = some (f, key) ∧ (s.field f).queued < 64 ∧ (∃ e, e ∈ errs ∧
      errOutcome e = .multi)) ∧
    (∃ (s : State) (k : Nat) (x : Flight) (b : Nat), s.pkts[k]? = some x ∧ s.atHead k = true ∧ nextHop x.at_ x.pkt.dst.toNat =
      some b ∧ b ≠ bcPair ∧ s.msgReset (pairField b) = false ∧ x.pkt.cls ≠ 3 ∧ s.inputOn x.pkt.reply x.at_ b = false) ∧
    (∃ (s : State) (k : Nat), s.atHead k = false) ∧
    (∃ (s : State) (k : Nat) (x : Flight), s.pkts[k]? = some x ∧ s.atHead k = true ∧ x.pkt.cls ≠ 3 ∧ nextHop x.at_
      x.pkt.dst.toNat = some bcPair) ∧
    (∃ (s : State) (k : Nat) (x : Flight) (f : Nat) (key : Nat), s.pkts[k]? = some x ∧ s.atHead k = true ∧ x.at_ =
      x.pkt.dst.toNat ∧ x.pkt.reply = false ∧ x.pkt.cls = 0 ∧ s.msgReset (pairField x.at_) = false ∧ s.locate x.at_ = some (f,
      key) ∧ s.away f = false ∧ s.coreGated f = false ∧ (s.tile f key).core.state ≠ .held ∧ (s.tile f key).core.state ≠ .trap
      ∧ (s.tile f key).core.state ≠ .lockup ∧ (s.tile f key).flowBit F.MSG_FLOW_IN_MASK x.pkt.tag.toNat = true ∧ ((s.tile f
      key).core.tags.get TagEntry.zero x.pkt.tag.toNat).valid = true ∧ (s.tile f key).msg.requests < 8) ∧
    (∃ (s : State) (k : Nat) (x : Flight) (f : Nat) (key : Nat), s.pkts[k]? = some x ∧ s.atHead k = true ∧ x.at_ =
      x.pkt.dst.toNat ∧ x.pkt.reply = false ∧ x.pkt.cls = 0 ∧ s.msgReset (pairField x.at_) = false ∧ s.locate x.at_ = some (f,
      key) ∧ s.away f = false ∧ s.coreGated f = false ∧ (s.tile f key).core.state ≠ .held ∧ (s.tile f key).core.state ≠ .trap
      ∧ (s.tile f key).core.state ≠ .lockup ∧ (s.tile f key).flowBit F.MSG_FLOW_IN_MASK x.pkt.tag.toNat = true ∧ ((s.tile f
      key).core.tags.get TagEntry.zero x.pkt.tag.toNat).valid = true ∧ 8 ≤ (s.tile f key).msg.requests) ∧
    (∃ (s : State) (k : Nat) (x : Flight) (f : Nat) (key : Nat), s.pkts[k]? = some x ∧ s.atHead k = true ∧ x.at_ =
      x.pkt.dst.toNat ∧ x.pkt.reply = false ∧ x.pkt.cls = 0 ∧ s.msgReset (pairField x.at_) = false ∧ s.locate x.at_ = some (f,
      key) ∧ s.away f = false ∧ s.coreGated f = false ∧ (s.tile f key).core.state = .waiting ∧ (s.tile f key).flowBit
      F.MSG_FLOW_IN_MASK x.pkt.tag.toNat = true ∧ ((s.tile f key).core.tags.get TagEntry.zero x.pkt.tag.toNat).valid = false) ∧
    (∃ (s : State) (k : Nat) (x : Flight) (f : Nat) (key : Nat), s.pkts[k]? = some x ∧ s.atHead k = true ∧ x.at_ =
      x.pkt.dst.toNat ∧ x.pkt.reply = false ∧ x.pkt.cls = 0 ∧ s.msgReset (pairField x.at_) = false ∧ s.locate x.at_ = some (f,
      key) ∧ s.away f = false ∧ s.coreGated f = false ∧ (s.tile f key).core.state = .waiting ∧ (s.tile f key).flowBit
      F.MSG_FLOW_IN_MASK x.pkt.tag.toNat = false) ∧
    (∃ (s : State) (k : Nat) (x : Flight) (f : Nat) (key : Nat), s.pkts[k]? = some x ∧ s.atHead k = true ∧ x.at_ =
      x.pkt.dst.toNat ∧ x.pkt.reply = false ∧ x.pkt.cls = 0 ∧ s.msgReset (pairField x.at_) = false ∧ s.locate x.at_ = some (f,
      key) ∧ (s.away f = true ∨ (s.tile f key).core.state = .held)) ∧
    (∃ (s : State) (k : Nat) (x : Flight) (f : Nat) (key : Nat), s.pkts[k]? = some x ∧ s.atHead k = true ∧ x.at_ =
      x.pkt.dst.toNat ∧ x.pkt.reply = false ∧ x.pkt.cls = 0 ∧ s.msgReset (pairField x.at_) = false ∧ s.locate x.at_ = some (f,
      key) ∧ s.away f = false ∧ s.coreGated f = false ∧ ((s.tile f key).core.state = .trap ∨ (s.tile f key).core.state =
      .lockup)) :=
  ⟨⟨{ State.reset with pkts := [⟨0, 0, { packetOf false 0 with dst := 5 }⟩] }, 0, ⟨0, 0, { packetOf false 0 with dst := 5 }⟩,
     1, by decide +kernel⟩,
   ⟨{ State.reset with pkts := [⟨0, 0, { packetOf false 0 with dst := 5 }⟩] }, 0, [0x11], ⟨0, 0,
     { packetOf false 0 with dst := 5 }⟩, 1, 0, 1, by decide +kernel, by decide +kernel, by decide +kernel, by decide +kernel,
     by decide +kernel, by decide +kernel, by decide +kernel, by decide +kernel, by decide +kernel, ⟨0x11, by decide +kernel⟩⟩,
   ⟨{ State.reset with pkts := [⟨0, 0, { packetOf false 0 with dst := 5 }⟩] ++ List.replicate 5 ⟨1, 0, { packetOf false 0 with dst := 5 }⟩ },
     0, ⟨0, 0, { packetOf false 0 with dst := 5 }⟩, 1, by decide +kernel⟩,
   ⟨State.reset, 0, by decide +kernel⟩,
   ⟨{ State.reset with pkts := [⟨512, 0, { packetOf true 0 with dst := 0xFFFFF }⟩] }, 0, ⟨512, 0,
     { packetOf true 0 with dst := 0xFFFFF }⟩, by decide +kernel⟩,
   ⟨{ tileOf { Tile.zero with core := { CCore.zero with state := .waiting, tags := [(0, ⟨true, 0x40⟩)] }, regs := RegFile.set [] F.MSG_FLOW_IN_MASK 0 0 1 } with pkts := [⟨0, 0, packetOf false 0⟩] },
     0, ⟨0, 0, packetOf false 0⟩, 0, 0, by decide +kernel⟩,
   ⟨{ tileOf { Tile.zero with core := { CCore.zero with state := .waiting, tags := [(0, ⟨true, 0x40⟩)] }, regs := RegFile.set [] F.MSG_FLOW_IN_MASK 0 0 1, msg := { MsgIf.zero with landed := List.replicate 8 (.request (packetOf false 0)) } } with pkts := [⟨0, 0, packetOf false 0⟩] },
     0, ⟨0, 0, packetOf false 0⟩, 0, 0, by decide +kernel⟩,
   ⟨{ tileOf { Tile.zero with core := { CCore.zero with state := .waiting }, regs := RegFile.set [] F.MSG_FLOW_IN_MASK 0 0 1 } with pkts := [⟨0, 0, packetOf false 0⟩] },
     0, ⟨0, 0, packetOf false 0⟩, 0, 0, by decide +kernel⟩,
   ⟨{ tileOf { Tile.zero with core := { CCore.zero with state := .waiting } } with pkts := [⟨0, 0, packetOf false 0⟩] }, 0,
     ⟨0, 0, packetOf false 0⟩, 0, 0, by decide +kernel⟩,
   ⟨{ State.reset with pkts := [⟨0, 0, packetOf false 0⟩] }, 0, ⟨0, 0, packetOf false 0⟩, 0, 0, by decide +kernel⟩,
   ⟨{ tileOf { Tile.zero with core := { CCore.zero with state := .lockup } } with pkts := [⟨0, 0, packetOf false 0⟩] }, 0, ⟨0,
     0, packetOf false 0⟩, 0, 0, by decide +kernel⟩⟩

theorem test_witness_AnswersAndTimersOfTheMessageInterface :
    (∃ (s : State) (k : Nat) (x : Flight) (f : Nat) (key : Nat), s.pkts[k]? = some x ∧ s.atHead k = true ∧ x.at_ =
      x.pkt.dst.toNat ∧ x.pkt.reply = true ∧ x.pkt.cls = 1 ∧ s.msgReset (pairField x.at_) = false ∧ s.locate x.at_ = some (f,
      key) ∧ (s.tile f key).answerMatches x.pkt = true ∧ (s.tile f key).awaits x.pkt = true) ∧
    (∃ (s : State) (k : Nat) (x : Flight) (f : Nat) (key : Nat), s.pkts[k]? = some x ∧ s.atHead k = true ∧ x.at_ =
      x.pkt.dst.toNat ∧ x.pkt.reply = true ∧ x.pkt.cls = 2 ∧ s.msgReset (pairField x.at_) = false ∧ s.locate x.at_ = some (f,
      key) ∧ (s.tile f key).answerMatches x.pkt = true ∧ (s.tile f key).awaits x.pkt = true) ∧
    (∃ (s : State) (a : Addr) (f : Nat) (key : Nat) (p : Packet), s.locate a.toNat = some (f, key) ∧ s.coreServes f = true ∧
      (s.tile f key).msg.send = .backoff ∧ (s.tile f key).msg.txPkt = some p) ∧
    (∃ (s : State) (k : Nat) (x : Flight) (f : Nat) (key : Nat), s.pkts[k]? = some x ∧ s.atHead k = true ∧ x.at_ =
      x.pkt.dst.toNat ∧ x.pkt.reply = true ∧ x.pkt.cls = 0 ∧ s.msgReset (pairField x.at_) = false ∧ s.locate x.at_ = some (f,
      key) ∧ (s.tile f key).answerMatches x.pkt = true ∧ (s.tile f key).awaits x.pkt = false ∧ ((s.tile f key).msg.slot
      x.pkt.slot.toNat).held = none) ∧
    (∃ (s : State) (k : Nat) (x : Flight) (f : Nat) (key : Nat), s.pkts[k]? = some x ∧ s.atHead k = true ∧ x.at_ =
      x.pkt.dst.toNat ∧ x.pkt.reply = true ∧ x.pkt.cls = 1 ∧ s.msgReset (pairField x.at_) = false ∧ s.locate x.at_ = some (f,
      key) ∧ ((s.tile f key).msg.slot x.pkt.slot.toNat).reserved = false) ∧
    (∃ (s : State) (k : Nat) (x : Flight) (f : Nat) (key : Nat), s.pkts[k]? = some x ∧ s.atHead k = true ∧ x.at_ =
      x.pkt.dst.toNat ∧ x.pkt.reply = true ∧ x.pkt.cls = 2 ∧ s.msgReset (pairField x.at_) = false ∧ s.locate x.at_ = some (f,
      key) ∧ ((s.tile f key).msg.slot x.pkt.slot.toNat).reserved = false) ∧
    (∃ (s : State) (k : Nat) (x : Flight) (f : Nat) (key : Nat), s.pkts[k]? = some x ∧ s.atHead k = true ∧ x.at_ =
      x.pkt.dst.toNat ∧ x.pkt.reply = true ∧ x.pkt.cls = 0 ∧ s.msgReset (pairField x.at_) = false ∧ s.locate x.at_ = some (f,
      key) ∧ ((s.tile f key).msg.slot x.pkt.slot.toNat).reserved = false) ∧
    (∃ (s : State) (a : Addr) (f : Nat) (key : Nat) (p : Packet), s.locate a.toNat = some (f, key) ∧ s.coreServes f = true ∧
      (s.tile f key).msg.send = .awaitAnswer ∧ (s.tile f key).msg.txPkt = some p ∧ (s.tile f key).reg F.MSG_CFG_SEND_TIMEOUT ≠
      0 ∧ (s.field f).queued < 64 ∧ (s.tile f key).msg.txRd ≠ 0) ∧
    (∃ (s : State) (a : Addr) (slot : Fin 8) (f : Nat) (key : Nat) (n : Nat), s.locate a.toNat = some (f, key) ∧ s.coreServes
      f = true ∧ ((s.tile f key).msg.slot slot.val).reserved = true ∧ ((s.tile f key).msg.slot slot.val).ackAt = some n ∧
      ((s.tile f key).msg.slot slot.val).held = none ∧ (s.tile f key).reg F.MSG_CFG_REPLY_TIMEOUT ≠ 0 ∧ (s.field f).queued <
      64) ∧
    (∃ (s : State) (a : Addr) (f : Nat) (key : Nat), s.locate a.toNat = some (f, key) ∧ s.coreServes f = true) :=
  ⟨⟨{ tileOf { Tile.zero with msg := { MsgIf.zero with send := .awaitAnswer, txPkt := some (packetOf false 0), slots := [(0, { Slot.free with reserved := true })] } } with pkts := [⟨0, 0, packetOf true 1⟩] },
     0, ⟨0, 0, packetOf true 1⟩, 0, 0, by decide +kernel⟩,
   ⟨{ tileOf { Tile.zero with msg := { MsgIf.zero with send := .awaitAnswer, txPkt := some (packetOf false 0), slots := [(0, { Slot.free with reserved := true })] } } with pkts := [⟨0, 0, packetOf true 2⟩] },
     0, ⟨0, 0, packetOf true 2⟩, 0, 0, by decide +kernel⟩,
   ⟨tileOf { Tile.zero with msg := { MsgIf.zero with send := .backoff, txPkt := some (packetOf false 0) } }, 0, 0, 0, packetOf
     false 0, by decide +kernel⟩,
   ⟨{ tileOf { Tile.zero with msg := { MsgIf.zero with slots := [(0, { Slot.free with reserved := true })] } } with pkts := [⟨0, 0, packetOf true 0⟩] },
     0, ⟨0, 0, packetOf true 0⟩, 0, 0, by decide +kernel⟩,
   ⟨{ State.reset with pkts := [⟨0, 0, packetOf true 1⟩] }, 0, ⟨0, 0, packetOf true 1⟩, 0, 0, by decide +kernel⟩,
   ⟨{ State.reset with pkts := [⟨0, 0, packetOf true 2⟩] }, 0, ⟨0, 0, packetOf true 2⟩, 0, 0, by decide +kernel⟩,
   ⟨{ State.reset with pkts := [⟨0, 0, packetOf true 0⟩] }, 0, ⟨0, 0, packetOf true 0⟩, 0, 0, by decide +kernel⟩,
   ⟨tileOf
     { Tile.zero with msg := { MsgIf.zero with send := .awaitAnswer, txPkt := some (packetOf false 0), txRd := 1 }, regs := RegFile.set [] F.MSG_CFG_SEND_TIMEOUT 0 0 9 },
     0, 0, 0, packetOf false 0, by decide +kernel⟩,
   ⟨tileOf
     { Tile.zero with msg := { MsgIf.zero with slots := [(0, { Slot.free with reserved := true, ackAt := some 3 })] }, regs := RegFile.set [] F.MSG_CFG_REPLY_TIMEOUT 0 0 9 },
     0, 0, 0, 0, 3, by decide +kernel⟩,
   ⟨tileOf Tile.zero, 0, 0, 0, by decide +kernel⟩⟩

theorem test_witness_SystemAgentServesBaseCamp :
    (∃ (s : State) (a : Addr) (addr : BitVec 20) (n : Fin 16) (f : Nat) (key : Nat), s.locate a.toNat = some (f, key) ∧ (∀ b,
      b ∈ bcRoute a.toNat → s.msgReset (pairField b) = false) ∧ s.agentAway f = false ∧ addr.toNat % 8 = 0 ∧ 0 < n.val ∧ n.val
      ≤ 8 ∧ (∀ k, k < n.val → inTileMap (addr.toNat + 8 * k) = true)) ∧
    (∃ (s : State) (a : Addr) (addr : BitVec 20) (n : Fin 16) (f : Nat) (key : Nat), s.locate a.toNat = some (f, key) ∧ (∀ b,
      b ∈ bcRoute a.toNat → s.msgReset (pairField b) = false) ∧ s.agentAway f = false ∧ (addr.toNat % 8 ≠ 0 ∨ n.val = 0 ∨ 8 <
      n.val ∨ ∃ k, k < n.val ∧ inTileMap (addr.toNat + 8 * k) = false)) ∧
    (∃ (s : State) (a : Addr) (addr : BitVec 20) (data : List (BitVec 64 × BitVec 4)) (f : Nat) (key : Nat), s.locate a.toNat
      = some (f, key) ∧ (∀ b, b ∈ bcRoute a.toNat → s.msgReset (pairField b) = false) ∧ s.agentAway f = false ∧ addr.toNat % 8
      = 0 ∧ 0 < data.length ∧ data.length ≤ 7 ∧ addr.toNat + 8 * data.length ≤ 0x10000) ∧
    (∃ (s : State) (a : Addr) (f : Nat) (key : Nat), s.locate a.toNat = some (f, key) ∧ (∀ b, b ∈ bcRoute a.toNat → s.msgReset
      (pairField b) = false) ∧ s.agentAway f = false) ∧
    (∃ (s : State) (a : Addr) (b : Addr) (addr : BitVec 20) (data : List (BitVec 64 × BitVec 4)), rectOk s.rows a.toNat
      b.toNat = true ∧ (∀ q r, q ∈ rectPairs a.toNat b.toNat → r ∈ rectRoute a.toNat q → s.msgReset (pairField r) = false) ∧
      addr.toNat % 8 = 0 ∧ 0 < data.length ∧ data.length ≤ 7 ∧ addr.toNat + 8 * data.length ≤ 0x10000) ∧
    (∃ (s : State) (a : Addr) (b : Addr), rectOk s.rows a.toNat b.toNat = false) ∧
    (∃ (s : State) (a : Addr) (f : Nat) (key : Nat) (z : Nat) (b : Nat), s.locate a.toNat = some (f, key) ∧ State.pass []
      (bcRoute a.toNat) bcPair s = (s, .held z b) ∧ pairField a.toNat = pairField b) ∧
    (∃ (s : State) (a : Addr) (f : Nat) (key : Nat) (z : Nat) (b : Nat), s.locate a.toNat = some (f, key) ∧ State.pass []
      (bcRoute a.toNat) bcPair s = (s, .held z b) ∧ pairField a.toNat ≠ pairField b) :=
  ⟨⟨tileOf Tile.zero, 0, 0, 8, 0, 0, by decide +kernel⟩,
   ⟨tileOf Tile.zero, 0, 4, 0, 0, 0, by decide +kernel, by decide +kernel, by decide +kernel, Or.inl (by decide)⟩,
   ⟨tileOf Tile.zero, 0, 0xFFC8, List.replicate 7 (5, 0), 0, 0, by decide +kernel⟩,
   ⟨tileOf Tile.zero, 0, 0, 0, by decide +kernel⟩,
   ⟨State.reset, 0, 0, 0, [(5, 0)], by decide +kernel, fun _ _ _ _ => rfl, by decide +kernel⟩,
   ⟨State.reset, 1, 0, by decide +kernel⟩,
   ⟨regsOf [(F.FLD_RST_STATE, 4, 2)], 512, 4, 0, bcPair, 512, by decide +kernel, rfl, by decide +kernel⟩,
   ⟨regsOf [(F.FLD_RST_STATE, 4, 2)], 0, 0, 0, bcPair, 512, by decide +kernel, rfl, by decide +kernel⟩⟩

theorem test_witness_RefreshAndWaitingBeats :
    (∃ (s : State) (f : Fin 48) (m : Img) (a : Nat), s.image = some m ∧ (s.field f.val).live = true ∧ (s.field f.val).stopped
      = false ∧ m.period s.run.section_ ≠ 0 ∧ m.phase s.run.section_ ≤ s.acyc - (s.field f.val).secStart ∧ a = m.phase
      s.run.section_ + (s.acyc - (s.field f.val).secStart - m.phase s.run.section_) / m.period s.run.section_ * m.period
      s.run.section_ ∧ a + 320 ≤ s.run.len ∧ (s.field f.val).window ≠ some ((s.field f.val).secStart + a)) ∧
    (∃ (s : State) (f : Fin 48), s.present f.val = true ∧ (s.field f.val).live = false ∧ s.reg F.FLD_STK_REF_MODE f.val = 1) ∧
    (∃ (s : State) (f : Fin 48), s.present f.val = true ∧ s.reg F.FLD_STK_REF_MODE f.val ≠ 0) ∧
    (∃ (s : State) (f : Fin 48) (cls : Fin 5) (n : Nat), cls.val < 4 ∧ (s.field f.val).waiting.getD cls.val 0 = n + 1 ∧ s.reg
      F.FLD_STK_REF_MODE f.val ≠ 0 ∧ s.admits f.val cls.val = true) ∧
    (∃ (s : State) (f : Fin 48) (x : ApAccess), s.ldg.apWait = [x] ∧ s.apField x = some f.val ∧ s.reg F.FLD_STK_REF_MODE f.val
      ≠ 0 ∧ s.admits f.val 4 = true) ∧
    (∃ (s : State) (f : Fin 48) (cls : Fin 5), s.admits f.val cls.val = false) :=
  ⟨⟨{ State.reset.updField 0 (fun g => { g with live := true }) with image := some (oneSection [(0xA9, 0x40), (0x40C1, 4)]), acyc := 1500, run := { Run.zero with len := 4096 } },
     0, oneSection [(0xA9, 0x40), (0x40C1, 4)], 1024, by decide +kernel⟩,
   ⟨regsOf [(F.FLD_STK_REF_MODE, 0, 1)], 0, by decide +kernel⟩,
   ⟨regsOf [(F.FLD_STK_REF_MODE, 0, 1)], 0, by decide +kernel⟩,
   ⟨(regsOf [(F.FLD_STK_REF_MODE, 0, 1)]).updField 0 (fun g => { g with waiting := [1, 0, 0, 0, 0] }), 0, 0, 0, by
     decide +kernel⟩,
   ⟨{ regsOf [(F.HP_APW_EN, 0, 1), (F.FLD_STK_REF_MODE, 0, 1)] with ldg := { Ledger.zero with apWait := [⟨0, 0, false, 8, []⟩] } },
     0, ⟨0, 0, false, 8, []⟩, by decide +kernel⟩,
   ⟨{ State.reset.updField 0 (fun g => { g with others := [(0, 1024)] }) with acyc := 0 }, 0, 0, by decide +kernel⟩⟩

theorem test_witness_ApertureAccesses :
    (∃ (s : State) (port : Fin 2) (off : BitVec 36), s.stackReset = false ∧ s.ldg.apWait.any (fun y => y.port = port.val) =
      false ∧ s.reg F.HP_APW_EN port.val (off.toNat / 2 ^ 33) = 0) ∧
    (∃ (s : State) (port : Fin 2) (off : BitVec 36), s.stackReset = false ∧ s.ldg.apWait.any (fun y => y.port = port.val) =
      false ∧ s.reg F.HP_APW_WP port.val (off.toNat / 2 ^ 33) = 1) ∧
    (∃ (s : State) (port : Fin 2) (off : BitVec 36) (n : Fin 4097) (b : Nat), s.stackReset = false ∧ s.ldg.apWait.any (fun y
      => y.port = port.val) = false ∧ s.reg F.HP_APW_EN port.val (off.toNat / 2 ^ 33) ≠ 0 ∧ s.reg F.HP_APW_TYPE port.val
      (off.toNat / 2 ^ 33) = 1 ∧ b = s.reg F.HP_APW_SEL port.val (off.toNat / 2 ^ 33) * 2 ^ 30 + off.toNat % 2 ^ 33 ∧ b +
      n.val ≤ s.stagingSize ∧ s.stagedRange ≤ b ∧ s.admits (s.reserveField b) 4 = true) ∧
    (∃ (s : State) (port : Fin 2) (off : BitVec 36) (data : List (BitVec 8)) (b : Nat), s.stackReset = false ∧
      s.ldg.apWait.any (fun y => y.port = port.val) = false ∧ s.reg F.HP_APW_EN port.val (off.toNat / 2 ^ 33) ≠ 0 ∧ s.reg
      F.HP_APW_WP port.val (off.toNat / 2 ^ 33) ≠ 1 ∧ s.reg F.HP_APW_TYPE port.val (off.toNat / 2 ^ 33) = 1 ∧ b = s.reg
      F.HP_APW_SEL port.val (off.toNat / 2 ^ 33) * 2 ^ 30 + off.toNat % 2 ^ 33 ∧ b + data.length ≤ s.stagingSize ∧
      s.stagedRange ≤ b ∧ s.admits (s.reserveField b) 4 = true) ∧
    (∃ (s : State) (port : Fin 2) (off : BitVec 36) (n : Fin 4097) (a : Nat) (f : Nat) (key : Nat), s.stackReset = false ∧
      s.ldg.apWait.any (fun y => y.port = port.val) = false ∧ s.reg F.HP_APW_EN port.val (off.toNat / 2 ^ 33) ≠ 0 ∧ s.reg
      F.HP_APW_TYPE port.val (off.toNat / 2 ^ 33) = 0 ∧ s.reg F.HP_APW_SEL port.val (off.toNat / 2 ^ 33) < s.rows ∧ a =
      off.toNat % 2 ^ 33 % 2 ^ 23 ∧ a + n.val ≤ s.segBytes ∧ s.locate (pairOf2 (off.toNat % 2 ^ 33 / 2 ^ 23) (s.reg
      F.HP_APW_SEL port.val (off.toNat / 2 ^ 33))) = some (f, key) ∧ s.admits f 4 = true ∧ (s.tile f key).stackTagged a n.val
      = false) ∧
    (∃ (s : State) (port : Fin 2) (off : BitVec 36) (data : List (BitVec 8)) (a : Nat) (f : Nat) (key : Nat), s.stackReset =
      false ∧ s.ldg.apWait.any (fun y => y.port = port.val) = false ∧ s.reg F.HP_APW_EN port.val (off.toNat / 2 ^ 33) ≠ 0 ∧
      s.reg F.HP_APW_WP port.val (off.toNat / 2 ^ 33) ≠ 1 ∧ s.reg F.HP_APW_TYPE port.val (off.toNat / 2 ^ 33) = 0 ∧ s.reg
      F.HP_APW_SEL port.val (off.toNat / 2 ^ 33) < s.rows ∧ a = off.toNat % 2 ^ 33 % 2 ^ 23 ∧ a + data.length ≤ s.segBytes ∧
      s.run.cur = none ∧ s.locate (pairOf2 (off.toNat % 2 ^ 33 / 2 ^ 23) (s.reg F.HP_APW_SEL port.val (off.toNat / 2 ^ 33))) =
      some (f, key) ∧ s.admits f 4 = true ∧ (s.tile f key).stackTagged a data.length = false ∧ (∀ i, i ∈ partialWords a
      data.length → ((s.tile f key).stkWord i).ecc ≠ .multi)) ∧
    (∃ (s : State) (port : Fin 2), s.stackReset = false ∧ s.ldg.apWait.any (fun y => y.port = port.val) = true) ∧
    (∃ (s : State) (port : Fin 2) (x : ApAccess), s.ldg.apWait.find? (fun y => y.port = port.val && y.write = x.write) = some
      x) ∧
    (∃ (s : State), s.stackReset = true) :=
  ⟨⟨State.reset, 0, 0, by decide +kernel⟩,
   ⟨regsOf [(F.HP_APW_WP, 0, 1)], 0, 0, by decide +kernel⟩,
   ⟨regsOf [(F.HP_APW_EN, 0, 1), (F.HP_APW_TYPE, 0, 1)], 0, 0, 4096, 0, by decide +kernel⟩,
   ⟨regsOf [(F.HP_APW_EN, 0, 1), (F.HP_APW_TYPE, 0, 1)], 0, 0, [5], 0, by decide +kernel⟩,
   ⟨regsOf [(F.HP_APW_EN, 0, 1), (F.HP_APW_SEL, 0, 767)], 0, 0, 4096, 0, 40, 16764, by decide +kernel⟩,
   ⟨regsOf [(F.HP_APW_EN, 0, 1)], 0, 0, [5], 0, 0, 0, by decide +kernel⟩,
   ⟨{ State.reset with ldg := { Ledger.zero with apWait := [⟨0, 0, false, 8, []⟩] } }, 0, by decide +kernel⟩,
   ⟨{ State.reset with ldg := { Ledger.zero with apWait := [⟨0, 0, false, 8, []⟩] } }, 0, ⟨0, 0, false, 8, []⟩, by
     decide +kernel⟩,
   ⟨{ State.reset with rst := { Rst.zero with active := true, level := 2, step := 0 } }, by decide +kernel⟩⟩

theorem test_witness_PortTrainsStepByStep :
    (∃ (s : State) (p : Fin 6), s.portLive p.val = true ∧ s.portState p.val = 0) ∧
    (∃ (s : State) (p : Fin 6) (on : Bool), p.val < s.nPorts ∧ (on = false ∨ s.crocus = true)) ∧
    (∃ (s : State) (p : Fin 6) (on : Bool), p.val < s.nPorts ∧ on = true ∧ s.crocus = false) ∧
    (∃ (s : State) (p : Fin 6), s.portLive p.val = true ∧ s.portState p.val ≠ 0) ∧
    (∃ (s : State) (p : Fin 6), s.portLive p.val = true ∧ s.portState p.val ≠ 0 ∧ s.portBusy p.val = false) ∧
    (∃ (s : State) (p : Fin 6), s.portLive p.val = true ∧ (s.portState p.val = 0 ∨ s.portBusy p.val = true)) ∧
    (∃ (s : State) (p : Fin 6), s.portLive p.val = true ∧ s.portState p.val = 1 ∧ (s.port p.val).held = false ∧ (s.port
      p.val).waiting = false ∧ s.reg F.HX_CTRL_EN p.val = 1) ∧
    (∃ (s : State) (p : Fin 6), s.portLive p.val = true ∧ s.portState p.val = 1 ∧ ((s.port p.val).held = true ∨ (s.port
      p.val).waiting = true ∨ s.reg F.HX_CTRL_EN p.val = 0)) ∧
    (∃ (s : State) (p : Fin 6) (good : BitVec 26) (ls : List Nat) (w : Nat), s.portLive p.val = true ∧ s.portState p.val = 2 ∧
      ls = (laneList good.toNat).filter (fun n => !(s.port p.val).lost.contains n) ∧ ls ≠ [] ∧ w = min ls.length 24) ∧
    (∃ (s : State) (p : Fin 6), s.portLive p.val = true ∧ s.portState p.val = 2) ∧
    (∃ (s : State) (p : Fin 6), s.portLive p.val = true ∧ s.portState p.val = 3) ∧
    (∃ (s : State) (p : Fin 6), s.portLive p.val = true ∧ s.portState p.val = 4) ∧
    (∃ (s : State) (p : Fin 6), s.portLive p.val = true ∧ s.portState p.val = 5) ∧
    (∃ (s : State) (p : Fin 6), s.portLive p.val = true ∧ s.portState p.val = 6) :=
  ⟨⟨portOf 0 HxPort.zero, 0, by decide +kernel⟩,
   ⟨State.reset, 0, false, by decide +kernel⟩,
   ⟨State.reset.setOd 0x2000 1 1, 0, true, by decide +kernel⟩,
   ⟨portOf 1 HxPort.zero, 0, by decide +kernel⟩,
   ⟨portOf 7 HxPort.zero, 0, by decide +kernel⟩,
   ⟨portOf 0 HxPort.zero, 0, by decide +kernel⟩,
   ⟨(portOf 1 HxPort.zero).setReg F.HX_CTRL_EN 1, 0, by decide +kernel⟩,
   ⟨portOf 1 { HxPort.zero with held := true }, 0, by decide +kernel, by decide +kernel, Or.inl (by decide +kernel)⟩,
   ⟨portOf 2 HxPort.zero, 0, 1, [0], 1, by decide +kernel⟩,
   ⟨portOf 2 HxPort.zero, 0, by decide +kernel⟩,
   ⟨portOf 3 HxPort.zero, 0, by decide +kernel⟩,
   ⟨portOf 4 HxPort.zero, 0, by decide +kernel⟩,
   ⟨portOf 5 HxPort.zero, 0, by decide +kernel⟩,
   ⟨portOf 6 HxPort.zero, 0, by decide +kernel⟩⟩

theorem test_witness_LanesFailAndTheLinkIsLost :
    (∃ (s : State) (p : Fin 6), s.portLive p.val = true ∧ s.portState p.val = 7) ∧
    (∃ (s : State) (p : Fin 6) (lane : Fin 26), s.portLive p.val = true ∧ s.portState p.val = 7 ∧ (s.port
      p.val).rxMap.contains lane.val = true ∧ s.spareLane p.val = none) ∧
    (∃ (s : State) (p : Fin 6) (lane : Fin 26) (sp : Nat), s.portLive p.val = true ∧ s.portState p.val = 7 ∧ (s.port
      p.val).rxMap.contains lane.val = true ∧ s.spareLane p.val = some sp) ∧
    (∃ (s : State) (p : Fin 6) (b : List Nat), s.portLive p.val = true ∧ b = ((s.port p.val).rx.get [] 6).take 64 ∧ b.length =
      64 ∧ cellCrcOk b = true ∧ (cellOf b).type = 0x11) ∧
    (∃ (s : State) (p : Fin 6) (w : Swap) (r : List Swap) (swap : List Nat → List Nat), s.portLive p.val = true ∧ (s.port
      p.val).swaps = w :: r ∧ w.seqNo ≤ (if w.rx then (s.port p.val).rxSeq else (s.port p.val).txSeq) ∧ swap = (fun m => m.map
      (fun n => if n = w.failed then w.spare else n))) ∧
    (∃ (s : State) (p : Fin 6) (w : Swap) (r : List Swap), (s.port p.val).swaps = w :: r ∧ (if w.rx then (s.port p.val).rxSeq
      else (s.port p.val).txSeq) < w.seqNo) :=
  ⟨⟨portOf 7 HxPort.zero, 0, by decide +kernel⟩,
   ⟨(portOf 7 { HxPort.zero with rxMap := [0] }).setReg F.HX_LANES_GOOD 1, 0, 0, by decide +kernel⟩,
   ⟨(portOf 7 { HxPort.zero with rxMap := [0] }).setReg F.HX_LANES_GOOD 3, 0, 0, 1, by decide +kernel⟩,
   ⟨portOf 7 { HxPort.zero with rx := [(6, (cellTo 0x11 []).bytes)] }, 0, (cellTo 0x11 []).bytes, by decide +kernel⟩,
   ⟨portOf 7 { HxPort.zero with swaps := [⟨25, 1, 0, 0, false⟩] }, 0, ⟨25, 1, 0, 0, false⟩, [], fun m => m.map (fun n => if n
     = 25 then 1 else n), by decide +kernel, by decide +kernel, by decide +kernel, rfl⟩,
   ⟨portOf 7 { HxPort.zero with swaps := [⟨25, 1, 0, 1, false⟩] }, 0, ⟨25, 1, 0, 1, false⟩, [], by decide +kernel⟩⟩

theorem test_witness_FramesAreSentReceivedAndReplayed :
    (∃ (s : State) (p : Fin 6), s.portLive p.val = true ∧ s.portState p.val = 7 ∧ (s.port p.val).resend = []) ∧
    (∃ (s : State) (p : Fin 6) (f : Sent) (r : List Sent), s.portLive p.val = true ∧ 4 ≤ s.portState p.val ∧ (s.port
      p.val).resend = f :: r) ∧
    (∃ (s : State) (p : Fin 6) (f : Frame) (ch : BitVec 4) (bs : List (BitVec 8)), s.portLive p.val = true ∧ s.portState p.val
      = 7 ∧ s.reg F.HX_STATUS_KEYED p.val = 1 ∧ f.clear = false ∧ f.seqNo = (s.port p.val).rxSeq ∧ (s.port p.val).holdsKey f =
      true ∧ (s.port p.val).roomFor f.units = true ∧ f.units = [(ch, bs)] ∧ 1 ≤ ch.toNat ∧ ch.toNat ≤ 6) ∧
    (∃ (s : State) (p : Fin 6) (f : Frame) (uncorr : Nat), s.portLive p.val = true ∧ s.portState p.val = 7 ∧ f.clear = false ∧
      uncorr ≠ 0 ∧ (s.port p.val).fails.length < 16 ∧ (s.port p.val).attempts < 7) ∧
    (∃ (s : State) (p : Fin 6) (f : Frame), s.portLive p.val = true ∧ s.portState p.val = 7 ∧ f.clear = false ∧ (s.port
      p.val).fails.length < 15 ∧ (s.port p.val).attempts < 7) ∧
    (∃ (s : State) (p : Fin 6) (f : Frame) (uncorr : Nat), s.portLive p.val = true ∧ s.portState p.val = 7 ∧ f.clear = false ∧
      uncorr ≠ 0 ∧ (s.port p.val).fails.length < 16 ∧ f.seqNo = (s.port p.val).rxSeq ∧ 7 ≤ (s.port p.val).attempts) :=
  ⟨⟨portOf 7 HxPort.zero, 0, by decide +kernel⟩,
   ⟨portOf 4 { HxPort.zero with resend := [⟨0, 0, false, 0, 0, false, [], []⟩] }, 0, ⟨0, 0, false, 0, 0, false, [], []⟩, [],
     by decide +kernel⟩,
   ⟨(portOf 7 HxPort.zero).setReg F.HX_STATUS_KEYED 1, 0, frameOf [(6, [])], 6, [], by decide +kernel⟩,
   ⟨portOf 7 { HxPort.zero with attempts := 6 }, 0, frameOf [], 1, by decide +kernel⟩,
   ⟨portOf 7 { HxPort.zero with attempts := 6 }, 0, frameOf [], by decide +kernel⟩,
   ⟨portOf 7 { HxPort.zero with attempts := 7 }, 0, frameOf [], 1, by decide +kernel⟩⟩

theorem test_witness_ScheduledRecordsCrossTheLink :
    (∃ (s : State) (p : Fin 6), s.portLive p.val = true ∧ (s.port p.val).edge ≠ [] ∧ (∀ w, w ∈ (s.port p.val).edge → s.tallied
      p.val (s.port p.val).edgeAt w.1 = false)) ∧
    (∃ (s : State) (p : Fin 6) (it : TxItem) (r : List TxItem), s.portLive p.val = true ∧ (s.port p.val).queue 1 = it :: r ∧
      it.noted = false ∧ it.at_ + 16 ≤ s.acyc) ∧
    (∃ (s : State) (p : Fin 6) (b : List Nat) (n : Nat), s.portLive p.val = true ∧ b = (s.port p.val).rx.get [] 1 ∧ n =
      ((List.range 128).filter (fun i => bitOf (leAt b 8 16) i)).length ∧ 24 + 8 * n ≤ b.length ∧ s.stackReset = false ∧
      s.ropeRuns = true ∧ s.recordTime (leAt b 0 4) (leAt b 4 3) ≤ s.acyc + 65536 ∧ s.acyc ≤ s.recordTime (leAt b 0 4) (leAt b
      4 3) + 65536 ∧ s.acyc + 2 ≤ s.recordTime (leAt b 0 4) (leAt b 4 3) + s.landDelay ∧ (s.port p.val).landingWords + n ≤
      65536) ∧
    (∃ (s : State) (p : Fin 6) (b : List Nat) (n : Nat), s.portLive p.val = true ∧ b = (s.port p.val).rx.get [] 1 ∧ n =
      ((List.range 128).filter (fun i => bitOf (leAt b 8 16) i)).length ∧ 24 + 8 * n ≤ b.length ∧ s.stackReset = false ∧
      s.ropeRuns = true ∧ s.recordTime (leAt b 0 4) (leAt b 4 3) ≤ s.acyc + 65536 ∧ s.acyc ≤ s.recordTime (leAt b 0 4) (leAt b
      4 3) + 65536 ∧ s.recordTime (leAt b 0 4) (leAt b 4 3) + s.landDelay < s.acyc + 2) ∧
    (∃ (s : State) (p : Fin 6) (errs : List (BitVec 80)) (r : Record) (rest : List Record) (i : Nat) (f : Nat) (key : Nat) (w
      : Word), s.portWidth p.val ≠ 0 ∧ errOutcome (errs.getD 0 0) ≠ .multi ∧ takeFirst (fun (r : Record) => decide (r.at_ +
      s.landDelay ≤ s.acyc + 1)) (s.port p.val).landing = some (r, rest) ∧ r.words = [(i, w)] ∧ s.locate (s.landingTile p.val
      i).1 = some (f, key) ∧ s.inReset f = false ∧ r.colour = (s.tile f key).seq.colour ∧ ((s.tile f key).rtr.fifo
      (s.landingTile p.val i).2).length < 16) ∧
    (∃ (s : State) (p : Fin 6) (at_ : Nat), s.portLive p.val = true ∧ s.portWidth p.val ≠ 0 ∧ at_ + s.landDelay - 2 ≤ s.acyc ∧
      (∀ r, r ∈ (s.port p.val).landing → r.at_ ≠ at_)) ∧
    (∃ (s : State) (p : Fin 6) (b : List Nat) (m : List Nat), s.portLive p.val = true ∧ b = ((s.port p.val).rx.get [] 6).take
      64 ∧ b.length = 64 ∧ cellCrcOk b = true ∧ (cellOf b).type = 0x10 ∧ m = ((cellOf b).body.drop 4).take 48 ∧ bitOf (leAt
      (cellOf b).body 3 1) 0 = false) ∧
    (∃ (s : State) (p : Fin 6) (b : List Nat) (m : List Nat), s.portLive p.val = true ∧ b = ((s.port p.val).rx.get [] 6).take
      64 ∧ b.length = 64 ∧ cellCrcOk b = true ∧ (cellOf b).type = 0x10 ∧ m = ((cellOf b).body.drop 4).take 48 ∧ bitOf (leAt
      (cellOf b).body 3 1) 0 = true ∧ leAt (cellOf b).body 2 1 = 0 ∧ s.portState p.val ≠ 5) ∧
    (∃ (s : State) (p : Fin 6) (b : List Nat), s.portLive p.val = true ∧ b = ((s.port p.val).rx.get [] 6).take 64 ∧ b.length =
      64 ∧ cellCrcOk b = true ∧ (cellOf b).type = 0x12 ∧ leAt (cellOf b).body 8 8 = 0) ∧
    (∃ (s : State) (p : Fin 6) (b : List Nat), s.portLive p.val = true ∧ b = ((s.port p.val).rx.get [] 6).take 64 ∧ b.length =
      64 ∧ cellCrcOk b = true ∧ (cellOf b).type = 0x12 ∧ leAt (cellOf b).body 8 8 ≠ 0 ∧ leAt (cellOf b).body 8 8 ≤ s.lclk ∧
      s.lclk < 2 ^ 64) ∧
    (∃ (s : State) (p : Fin 6) (r : Record) (rest : List Record), s.portWidth p.val = 0 ∧ takeFirst (fun (r : Record) =>
      decide (r.at_ + s.landDelay ≤ s.acyc + 1)) (s.port p.val).landing = some (r, rest)) :=
  ⟨⟨portOf 7 { HxPort.zero with edge := [(0, ⟨5, 0⟩)] }, 0, by decide +kernel⟩,
   ⟨{ portOf 7 { HxPort.zero with tx := [(1, [⟨[1], 0, 0, false, false⟩])] } with acyc := 16 }, 0, ⟨[1], 0, 0, false, false⟩,
     [], by decide +kernel⟩,
   ⟨(portOf 7 { HxPort.zero with rx := [(1, recordBytes 20 2 [(0, ⟨5, 0⟩)])] }).setReg F.BC_ROPE_STATUS_LSTATE 4, 0,
     recordBytes 20 2 [(0, ⟨5, 0⟩)], 1, by decide +kernel⟩,
   ⟨(portOf 7 { HxPort.zero with rx := [(1, recordBytes 20 1 [(0, ⟨5, 0⟩)])] }).setReg F.BC_ROPE_STATUS_LSTATE 4, 0,
     recordBytes 20 1 [(0, ⟨5, 0⟩)], 1, by decide +kernel⟩,
   ⟨{ portOf 7 { HxPort.zero with landing := [⟨0, 0, [(3, 7)]⟩] } with image := some (imgOf [(0x34, 4)]) }, 0, [], ⟨0, 0, [(3,
     7)]⟩, [], 3, 23, 8971, 7, by decide +kernel⟩,
   ⟨{ State.reset with image := some (imgOf [(0x34, 1)]), acyc := 3 }, 0, 5, by decide +kernel⟩,
   ⟨portOf 7 { HxPort.zero with rx := [(6, (cellTo 0x10 []).bytes)] }, 0, (cellTo 0x10 []).bytes, List.replicate 48 0, by
     decide +kernel⟩,
   ⟨portOf 7 { HxPort.zero with rx := [(6, (cellTo 0x10 [0, 0, 0, 1]).bytes)] }, 0, (cellTo 0x10 [0, 0, 0, 1]).bytes,
     List.replicate 48 0, by decide +kernel⟩,
   ⟨portOf 7 { HxPort.zero with rx := [(6, (cellTo 0x12 []).bytes)] }, 0, (cellTo 0x12 []).bytes, by decide +kernel⟩,
   ⟨{ portOf 7 { HxPort.zero with rx := [(6, (cellTo 0x12 [0, 0, 0, 0, 0, 0, 0, 0, 5]).bytes)] } with ref := 100 }, 0, (cellTo
     0x12 [0, 0, 0, 0, 0, 0, 0, 0, 5]).bytes, by decide +kernel⟩,
   ⟨portOf 7 { HxPort.zero with landing := [⟨0, 0, [(3, 7)]⟩] }, 0, ⟨0, 0, [(3, 7)]⟩, [], by decide +kernel⟩⟩

theorem test_witness_RemoteRequestsAndCellsAreServed :
    (∃ (s : State) (p : Fin 6) (vn : Bool) (b : List Nat) (n : Nat), s.portLive p.val = true ∧ s.bcl.ring = [] ∧ (∀ k,
      s.bcl.ringOff.get false k = false) ∧ b = (s.port p.val).rx.get [] (if vn then 3 else 2) ∧ n = 20 + leAt b 4 2 ∧ n ≤
      b.length ∧ dynLenOk (leAt b 4 2) = true ∧ crc32c ((b.take n).take (n - 4)) = leAt (b.take n) (n - 4) 4 ∧ s.reg
      F.HX_TOPO_VALID = 1 ∧ (dynOf (b.take n)).dst = s.own) ∧
    (∃ (s : State) (p : Fin 6) (vn : Bool) (b : List Nat) (n : Nat), s.portLive p.val = true ∧ s.bcl.ring = [] ∧ (∀ k,
      s.bcl.ringOff.get false k = false) ∧ b = (s.port p.val).rx.get [] (if vn then 3 else 2) ∧ n = 20 + leAt b 4 2 ∧ n ≤
      b.length ∧ (dynLenOk (leAt b 4 2) = false ∨ crc32c ((b.take n).take (n - 4)) ≠ leAt (b.take n) (n - 4) 4)) ∧
    (∃ (s : State) (p : Fin 6) (vc : Bool) (b : List Nat), s.portLive p.val = true ∧ s.bcl.ring = [] ∧ (∀ k, s.bcl.ringOff.get
      false k = false) ∧ b = (s.port p.val).rx.get [] (if vc then 5 else 4) ∧ 64 ≤ b.length ∧ cellCrcOk (b.take 64) = true ∧
      forwardType (cellOf (b.take 64)).type = true ∧ (cellOf (b.take 64)).bcast = false ∧ (cellOf (b.take 64)).dst = s.own) ∧
    (∃ (s : State) (p : Fin 6) (vc : Bool) (b : List Nat), s.portLive p.val = true ∧ s.bcl.ring = [] ∧ (∀ k, s.bcl.ringOff.get
      false k = false) ∧ b = (s.port p.val).rx.get [] (if vc then 5 else 4) ∧ 64 ≤ b.length ∧ cellCrcOk (b.take 64) = false) ∧
    (∃ (s : State) (p : Fin 6) (v : Bool), s.ringIsOff p.val 0 (if v then 3 else 2) = true) ∧
    (∃ (s : State) (p : Fin 6) (v : Bool), s.ringIsOff p.val 0 (if v then 5 else 4) = true) ∧
    (∃ (s : State) (d : Dyn) (r : List Dyn) (q : Nat), s.bcl.dyns = d :: r ∧ d.op = 2 ∧ d.vn = 0 ∧ s.stackReset = false ∧
      s.bcl.ring = [] ∧ (∀ k, s.bcl.ringOff.get false k = false) ∧ 64 * d.arg + d.payload.length ≤ s.stagingSize ∧ s.dynNext
      d.src = .out q ∧ s.portUp q = true) ∧
    (∃ (s : State) (d : Dyn) (r : List Dyn) (q : Nat) (n : Nat), s.bcl.dyns = d :: r ∧ d.op = 3 ∧ d.vn = 0 ∧ s.stackReset =
      false ∧ s.bcl.ring = [] ∧ (∀ k, s.bcl.ringOff.get false k = false) ∧ n = leAt d.payload 0 4 ∧ s.dynNext d.src = .out q ∧
      s.portUp q = true ∧ n ≤ 8172 ∧ n % 4 = 0 ∧ 64 * d.arg + n ≤ s.stagingSize) ∧
    (∃ (s : State) (d : Dyn) (r : List Dyn) (q : Nat) (n : Nat), s.bcl.dyns = d :: r ∧ d.op = 3 ∧ d.vn = 0 ∧ s.stackReset =
      false ∧ s.bcl.ring = [] ∧ (∀ k, s.bcl.ringOff.get false k = false) ∧ n = leAt d.payload 0 4 ∧ s.dynNext d.src = .out q ∧
      s.portUp q = true ∧ (8172 < n ∨ n % 4 ≠ 0 ∨ s.stagingSize < 64 * d.arg + n)) ∧
    (∃ (s : State) (d : Dyn) (r : List Dyn), s.bcl.dyns = d :: r ∧ d.vn = 1 ∧ (∃ w, w ∈ s.bcl.waiting ∧ w.1 = d.id) ∧ d.op =
      0x82) ∧
    (∃ (s : State) (d : Dyn) (r : List Dyn), s.bcl.dyns = d :: r ∧ d.vn = 1 ∧ (∃ w, w ∈ s.bcl.waiting ∧ w.1 = d.id) ∧ d.op =
      0x83) ∧
    (∃ (s : State) (d : Dyn) (r : List Dyn), s.bcl.dyns = d :: r ∧ d.vn = 1 ∧ (∃ w, w ∈ s.bcl.waiting ∧ w.1 = d.id) ∧ d.op =
      0x8F) :=
  ⟨⟨(portOf 7 { HxPort.zero with rx := [(2, (⟨0, 0, 1, 2, 0, 7, 0, [1, 2, 0, 0]⟩ : Dyn).bytes)] }).setReg F.HX_TOPO_VALID 1,
     0, false, (⟨0, 0, 1, 2, 0, 7, 0, [1, 2, 0, 0]⟩ : Dyn).bytes, 24, by decide +kernel, by decide +kernel, fun _ => rfl, by
     decide +kernel⟩,
   ⟨portOf 7 { HxPort.zero with rx := [(2, (⟨0, 0, 1, 2, 0, 7, 0, [1, 2, 0, 0]⟩ : Dyn).bytes.set 8 9)] }, 0, false, (⟨0, 0, 1,
     2, 0, 7, 0, [1, 2, 0, 0]⟩ : Dyn).bytes.set 8 9, 24, by decide +kernel, by decide +kernel, fun _ => rfl, by
     decide +kernel, by decide +kernel, by decide +kernel, Or.inr (by decide +kernel)⟩,
   ⟨portOf 7 { HxPort.zero with rx := [(4, (cellTo 1 []).bytes)] }, 0, false, (cellTo 1 []).bytes, by decide +kernel, by
     decide +kernel, fun _ => rfl, by decide +kernel⟩,
   ⟨portOf 7 { HxPort.zero with rx := [(4, List.replicate 64 1)] }, 0, false, List.replicate 64 1, by decide +kernel, by
     decide +kernel, fun _ => rfl, by decide +kernel⟩,
   ⟨{ State.reset with bcl := { BcLink.zero with ringOff := [(ringKey 0 0 2, true)] } }, 0, false, by decide +kernel⟩,
   ⟨{ State.reset with bcl := { BcLink.zero with ringOff := [(ringKey 0 0 4, true)] } }, 0, false, by decide +kernel⟩,
   ⟨dynsOf ⟨0, 0, 1, 2, 0, 7, 0, [1, 2]⟩ nextDoor, ⟨0, 0, 1, 2, 0, 7, 0, [1, 2]⟩, [], 0, by decide +kernel, by decide +kernel,
     by decide +kernel, by decide +kernel, by decide +kernel, fun _ => rfl, by decide +kernel⟩,
   ⟨dynsOf ⟨0, 0, 1, 3, 0, 7, 0, [16, 0, 0, 0]⟩ nextDoor, ⟨0, 0, 1, 3, 0, 7, 0, [16, 0, 0, 0]⟩, [], 0, 16, by decide +kernel,
     by decide +kernel, by decide +kernel, by decide +kernel, by decide +kernel, fun _ => rfl, by decide +kernel⟩,
   ⟨dynsOf ⟨0, 0, 1, 3, 0, 7, 0, [15, 0, 0, 0]⟩ nextDoor, ⟨0, 0, 1, 3, 0, 7, 0, [15, 0, 0, 0]⟩, [], 0, 15, by decide +kernel,
     by decide +kernel, by decide +kernel, by decide +kernel, by decide +kernel, fun _ => rfl, by decide +kernel, by
     decide +kernel, by decide +kernel, Or.inr (Or.inl (by decide))⟩,
   ⟨dynsOf ⟨0, 1, 1, 0x82, 0, 7, 0, []⟩ State.reset, ⟨0, 1, 1, 0x82, 0, 7, 0, []⟩, [], by decide +kernel, by decide +kernel,
     ⟨(7, 0, 2, 0), by decide +kernel⟩, by decide +kernel⟩,
   ⟨dynsOf ⟨0, 1, 1, 0x83, 0, 7, 0, []⟩ State.reset, ⟨0, 1, 1, 0x83, 0, 7, 0, []⟩, [], by decide +kernel, by decide +kernel,
     ⟨(7, 0, 2, 0), by decide +kernel⟩, by decide +kernel⟩,
   ⟨dynsOf ⟨0, 1, 1, 0x8F, 0, 7, 0, []⟩ State.reset, ⟨0, 1, 1, 0x8F, 0, 7, 0, []⟩, [], by decide +kernel, by decide +kernel,
     ⟨(7, 0, 2, 0), by decide +kernel⟩, by decide +kernel⟩⟩

theorem test_witness_RopeFormsJoinsAndStops :
    (∃ (s : State) (m : Img), s.image = some m ∧ m.hasRope = true ∧ s.reg F.BC_IMG_STATUS_STATE = 2 ∧ (s.reg
      F.BC_ROPE_STATUS_STATE = 0 ∨ s.reg F.BC_ROPE_STATUS_STATE = 7)) ∧
    (∃ (s : State), (s.image = none ∨ (s.reg F.BC_ROPE_STATUS_STATE ≠ 0 ∧ s.reg F.BC_ROPE_STATUS_STATE ≠ 7) ∨ s.reg
      F.BC_IMG_STATUS_STATE ≠ 2)) ∧
    (∃ (s : State), s.solo = false ∧ s.reg F.BC_ROPE_STATUS_STATE = 1 ∧ s.rst.active = false ∧ s.ropePortsOk = false) ∧
    (∃ (s : State), s.solo = false ∧ s.reg F.BC_ROPE_STATUS_STATE = 1 ∧ s.rst.active = false ∧ s.ropePortsOk = true ∧
      s.ropeLatencyOk = true ∧ s.rope.rejoin = false ∧ s.isAnchor = true ∧ (s.reg F.CLK_MREF_CUR_SRC ≠ 2 ∨ s.mrefHeld =
      false)) ∧
    (∃ (s : State), s.solo = false ∧ s.reg F.BC_ROPE_STATUS_STATE = 1 ∧ s.rst.active = false ∧ s.ropePortsOk = true ∧
      s.ropeLatencyOk = true ∧ s.rope.rejoin = false ∧ s.isAnchor = false ∧ s.rope.lastTime ≠ 0 ∧ s.mrefHeld = false) ∧
    (∃ (s : State), s.solo = false ∧ s.reg F.BC_ROPE_STATUS_STATE = 1 ∧ s.rst.active = false ∧ s.ropePortsOk = true ∧
      s.ropeLatencyOk = true ∧ s.isAnchor = false ∧ s.reg F.CLK_MREF_CUR_SRC ≠ 2) ∧
    (∃ (s : State) (m : Img), s.image = some m ∧ s.solo = false ∧ s.reg F.BC_ROPE_STATUS_STATE = 2 ∧ s.bcl.waiting.length <
      64) ∧
    (∃ (s : State) (m : Img) (d : Dyn) (r : List Dyn), s.image = some m ∧ s.bcl.dyns = d :: r ∧ d.op = 1 ∧ d.vn = 0 ∧ s.inRope
      = true ∧ s.isAnchor = true ∧ s.rdesc.inside d.src = true ∧ d.arg % 256 = 1 ∧ s.joinOk m d.src d.payload = true) ∧
    (∃ (s : State) (m : Img) (d : Dyn) (r : List Dyn), s.image = some m ∧ s.bcl.dyns = d :: r ∧ d.op = 1 ∧ d.vn = 0 ∧ s.inRope
      = true ∧ s.isAnchor = true ∧ s.rdesc.inside d.src = true ∧ d.arg % 256 = 1 ∧ s.joinOk m d.src d.payload = false) ∧
    (∃ (s : State) (d : Dyn) (r : List Dyn), s.bcl.dyns = d :: r ∧ d.op = 0x81 ∧ d.vn = 1 ∧ (∃ w, w ∈ s.bcl.waiting ∧ w.1 =
      d.id) ∧ s.solo = false ∧ s.reg F.BC_ROPE_STATUS_STATE = 2 ∧ d.src = s.acoord ∧ d.status = 0) ∧
    (∃ (s : State) (d : Dyn) (r : List Dyn), s.bcl.dyns = d :: r ∧ d.op = 0x81 ∧ d.vn = 1 ∧ (∃ w, w ∈ s.bcl.waiting ∧ w.1 =
      d.id) ∧ s.solo = false ∧ s.reg F.BC_ROPE_STATUS_STATE = 2 ∧ d.src = s.acoord ∧ d.status = 1) ∧
    (∃ (s : State), s.solo = false ∧ s.rope.start = none ∧ s.isAnchor = true ∧ s.forming = true ∧ s.rope.members.length <
      s.rdesc.size ∧ s.rope.waitFrom + s.reg F.BC_ROPE_CFG_FORM_TIMEOUT * 100000000 ≤ s.ref) ∧
    (∃ (s : State), s.solo = false ∧ s.rope.start = none ∧ s.isAnchor = false ∧ (s.reg F.BC_ROPE_STATUS_STATE = 2 ∨ s.reg
      F.BC_ROPE_STATUS_STATE = 3) ∧ s.rope.restore = none ∧ s.rope.waitFrom + s.reg F.BC_ROPE_CFG_FORM_TIMEOUT * 100000000 +
      100000000 ≤ s.ref) ∧
    (∃ (s : State), s.ropeState = 0) ∧
    (∃ (s : State), s.ropeState ≠ 0 ∧ (s.inRope = false ∨ s.isAnchor = false)) ∧
    (∃ (s : State), s.solo = false ∧ (s.reg F.BC_ROPE_STATUS_STATE = 7 ∨ s.reg F.BC_ROPE_STATUS_STATE = 8)) ∧
    (∃ (s : State), s.reg F.BC_ROPE_STATUS_STATE ≠ 7 ∧ s.reg F.BC_ROPE_STATUS_STATE ≠ 8) ∧
    (∃ (s : State), s.inRope = true ∧ s.isAnchor = false ∧ 2 ≤ s.reg F.BC_ROPE_STATUS_STATE ∧ s.portUp (s.reg
      F.BC_ROPE_STATUS_TPORT) = false) ∧
    (∃ (s : State), s.inRope = true ∧ s.reg F.BC_ROPE_STATUS_STATE = 3 ∧ s.ropePortsOk = false) :=
  ⟨⟨{ regsOf [(F.BC_IMG_STATUS_STATE, 0, 2)] with image := some (ropeOfTwo []) }, ropeOfTwo [], by decide +kernel⟩,
   ⟨State.reset, Or.inl rfl⟩,
   ⟨{ ropeOf 1 Rope.zero with image := some (imgOf [(0x34, 1)]) }, by decide +kernel⟩,
   ⟨(ropeOf 1 Rope.zero).setReg F.BC_ROPE_STATUS_TPORT 7 |>.setReg F.BC_ROPE_STATUS_ANCHOR 1, by decide +kernel⟩,
   ⟨(ropeOf 1 { Rope.zero with lastTime := 5 }).setReg F.BC_ROPE_STATUS_TPORT 7, by decide +kernel⟩,
   ⟨(ropeOf 1 Rope.zero).setReg F.BC_ROPE_STATUS_TPORT 7, by decide +kernel⟩,
   ⟨{ ropeOf 2 Rope.zero with image := some (ropeOfTwo []) }, ropeOfTwo [], by decide +kernel⟩,
   ⟨{ dynsOf ⟨0, 0, 1, 1, 0, 7, 1, List.replicate 16 0 ++ [1] ++ List.replicate 31 0 ++ (ropeOfTwo []).joinDigest⟩ ((ropeOf 3 Rope.zero).setReg F.BC_ROPE_STATUS_ANCHOR 1) with image := some (ropeOfTwo []) },
     ropeOfTwo [], ⟨0, 0, 1, 1, 0, 7, 1, List.replicate 16 0 ++ [1] ++ List.replicate 31 0 ++ (ropeOfTwo []).joinDigest⟩, [],
     by decide +kernel⟩,
   ⟨{ dynsOf ⟨0, 0, 1, 1, 0, 7, 1, [1]⟩ ((ropeOf 3 Rope.zero).setReg F.BC_ROPE_STATUS_ANCHOR 1) with image := some (ropeOfTwo []) },
     ropeOfTwo [], ⟨0, 0, 1, 1, 0, 7, 1, [1]⟩, [], by decide +kernel⟩,
   ⟨dynsOf ⟨0, 1, 0, 0x81, 0, 7, 0, []⟩ (ropeOf 2 Rope.zero), ⟨0, 1, 0, 0x81, 0, 7, 0, []⟩, [], by decide +kernel, by
     decide +kernel, by decide +kernel, ⟨(7, 0, 2, 0), by decide +kernel⟩, by decide +kernel⟩,
   ⟨dynsOf ⟨0, 1, 0, 0x81, 1, 7, 0, []⟩ (ropeOf 2 Rope.zero), ⟨0, 1, 0, 0x81, 1, 7, 0, []⟩, [], by decide +kernel, by
     decide +kernel, by decide +kernel, ⟨(7, 0, 2, 0), by decide +kernel⟩, by decide +kernel⟩,
   ⟨{ (ropeOf 3 Rope.zero).setReg F.BC_ROPE_STATUS_ANCHOR 1 with ref := 10000000000000 }, by decide +kernel⟩,
   ⟨{ ropeOf 2 Rope.zero with ref := 10000000000000 }, by decide +kernel⟩,
   ⟨State.reset, by decide +kernel⟩,
   ⟨ropeOf 4 Rope.zero, by decide +kernel⟩,
   ⟨ropeOf 7 Rope.zero, by decide +kernel⟩,
   ⟨ropeOf 4 Rope.zero, by decide +kernel⟩,
   ⟨ropeOf 4 Rope.zero, by decide +kernel⟩,
   ⟨{ ropeOf 3 Rope.zero with image := some (imgOf [(0x34, 1)]) }, by decide +kernel⟩⟩

theorem test_witness_RopeStartsKeepsTimeAndInvokes :
    (∃ (s : State) (p : Nat) (c : Cell) (r : List (Nat × Cell)), s.bcl.cells = (p, c) :: r ∧ c.type = 1 ∧ leAt c.body 0 1 = 2
      ∧ s.ropeState = 3) ∧
    (∃ (s : State) (c : StartCell), s.rope.start = some c ∧ s.ropeState = 3 ∧ (s.solo = true → s.reg F.BC_ROPE_STATUS_STATE =
      0) ∧ s.rrc < c.rs) ∧
    (∃ (s : State) (c : StartCell), s.rope.start = some c ∧ s.ropeState = 3 ∧ (s.solo = true → s.reg F.BC_ROPE_STATUS_STATE =
      0) ∧ c.rs ≤ s.rrc ∧ c.restore = none ∧ c.d2 < 64) ∧
    (∃ (s : State) (p : Nat) (c : Cell) (r : List (Nat × Cell)) (want : Nat), s.bcl.cells = (p, c) :: r ∧ c.type = 2 ∧ s.solo
      = false ∧ want = (leAt c.body 0 8 + s.reg F.HX_LAT_RTT (s.reg F.BC_ROPE_STATUS_TPORT) * 256 / 125) % 2 ^ 64 ∧ s.reg
      F.BC_ROPE_STATUS_STATE = 1) ∧
    (∃ (s : State) (p : Nat) (c : Cell) (r : List (Nat × Cell)) (want : Nat), s.bcl.cells = (p, c) :: r ∧ c.type = 2 ∧ s.solo
      = false ∧ want = (leAt c.body 0 8 + s.reg F.HX_LAT_RTT (s.reg F.BC_ROPE_STATUS_TPORT) * 256 / 125) % 2 ^ 64 ∧ s.reg
      F.BC_ROPE_STATUS_STATE ≠ 1) ∧
    (∃ (s : State), s.inRope = true ∧ s.isAnchor = false ∧ (s.rope.lastTime ≠ 0 ∧ s.rope.lastTime + 196608 ≤ s.ref + 1 ∨
      s.rope.lastTime = 0 ∧ s.rope.waitFrom + 196608 ≤ s.ref)) ∧
    (∃ (s : State), s.inRope = false) ∧
    (∃ (s : State) (c : Nat) (n : Nat), s.inRope = true ∧ s.bcl.ring = [] ∧ (∀ k, s.bcl.ringOff.get false k = false) ∧
      s.childCoords = [c] ∧ s.reg F.HX_TOPO_VALID = 1 ∧ s.inTorus c = true ∧ c ≠ s.own ∧ coordOf c 0 ≠ coordOf s.own 0 ∧ n =
      s.ringSize 0 ∧ (coordOf c 0 + n - coordOf s.own 0) % n ≤ n - (coordOf c 0 + n - coordOf s.own 0) % n ∧ coordOf s.own 0 +
      1 ≠ n ∧ s.portUp 0 = true ∧ s.reg F.TEL_TOD_VALID = 0) ∧
    (∃ (s : State) (p : Nat) (c : Cell) (r : List (Nat × Cell)), s.bcl.cells = (p, c) :: r ∧ c.type = 1 ∧ leAt c.body 0 1 = 1) ∧
    (∃ (s : State) (p : Nat) (c : Cell) (r : List (Nat × Cell)), s.bcl.cells = (p, c) :: r ∧ c.type = 1 ∧ leAt c.body 0 1 = 5) ∧
    (∃ (s : State) (p : Nat) (c : Cell) (r : List (Nat × Cell)), s.bcl.cells = (p, c) :: r ∧ c.type = 1 ∧ leAt c.body 0 1 = 3
      ∧ s.ropeState = 4) ∧
    (∃ (s : State) (p : Nat) (k : Nat) (c : Cell) (r : List (Nat × Cell)), s.bcl.cells = (p, c) :: r ∧ c.type = 1 ∧ leAt
      c.body 0 1 = 6 ∧ k < 2 ∧ s.usable (s.slot k) = true ∧ (s.slot k).epoch = leAt c.body 4 8 ∧ (k = 0 ∨ (s.slot 0).epoch ≠
      leAt c.body 4 8) ∧ leAt c.body 4 8 < 2 ^ 32) ∧
    (∃ (s : State) (p : Nat) (c : Cell) (r : List (Nat × Cell)), s.bcl.cells = (p, c) :: r ∧ c.type = 1 ∧ leAt c.body 0 1 = 7
      ∧ s.ropeState ≠ 0 ∧ (s.solo = true → s.reg F.BC_ROPE_STATUS_STATE = 0) ∧ leAt c.body 1 1 = 2) ∧
    (∃ (s : State) (p : Nat) (c : Cell) (r : List (Nat × Cell)), s.bcl.cells = (p, c) :: r ∧ c.type = 1 ∧ leAt c.body 0 1 = 7
      ∧ s.ropeState ≠ 0 ∧ (s.solo = true → s.reg F.BC_ROPE_STATUS_STATE = 0) ∧ leAt c.body 1 1 ≠ 2 ∧ 7 ≤ s.ropeState) ∧
    (∃ (s : State) (p : Nat) (c : Cell) (r : List (Nat × Cell)), s.bcl.cells = (p, c) :: r ∧ c.type = 1 ∧ leAt c.body 0 1 = 7
      ∧ s.ropeState ≠ 0 ∧ (s.solo = true → s.reg F.BC_ROPE_STATUS_STATE = 0) ∧ leAt c.body 1 1 = 3 ∧ s.ropeState < 7) ∧
    (∃ (s : State) (p : Nat) (c : Cell) (r : List (Nat × Cell)), s.bcl.cells = (p, c) :: r ∧ c.type = 1 ∧ leAt c.body 0 1 = 7
      ∧ s.ropeState ≠ 0 ∧ (s.solo = true → s.reg F.BC_ROPE_STATUS_STATE = 0) ∧ leAt c.body 1 1 ≤ 1 ∧ s.ropeState < 7 ∧
      s.rope.rejoin = false ∧ (s.rst.active = true → s.rst.level ≤ 1)) ∧
    (∃ (s : State) (p : Nat) (c : Cell) (r : List (Nat × Cell)), s.bcl.cells = (p, c) :: r ∧ c.type = 3 ∧ leAt c.body 0 1 = 2
      ∧ s.ropeState = 4 ∧ s.acyc ≤ leAt c.body 4 8) ∧
    (∃ (s : State) (p : Nat) (c : Cell) (r : List (Nat × Cell)), s.bcl.cells = (p, c) :: r ∧ c.type = 3 ∧ leAt c.body 0 1 = 2
      ∧ s.ropeState = 4 ∧ leAt c.body 4 8 < s.acyc) ∧
    (∃ (s : State), s.ropeState = 4 ∧ s.epochNow ≤ s.rope.epoch) ∧
    (∃ (s : State), s.ropeState = 4 ∧ s.rope.epoch < s.epochNow) :=
  ⟨⟨cellsOf [cellTo 1 [2]] (ropeOf 3 Rope.zero), 0, cellTo 1 [2], [], by decide +kernel⟩,
   ⟨ropeOf 3 { Rope.zero with start := some ⟨5, 0, none, 16, 0, false, 0⟩ }, ⟨5, 0, none, 16, 0, false, 0⟩, by decide +kernel⟩,
   ⟨{ ropeOf 3 { Rope.zero with start := some ⟨5, 0, none, 16, 0, false, 0⟩ } with ref := 5 }, ⟨5, 0, none, 16, 0, false, 0⟩,
     by decide +kernel⟩,
   ⟨cellsOf [cellTo 2 []] (ropeOf 1 Rope.zero), 0, cellTo 2 [], [], 0, by decide +kernel⟩,
   ⟨cellsOf [cellTo 2 []] (ropeOf 4 Rope.zero), 0, cellTo 2 [], [], 0, by decide +kernel⟩,
   ⟨{ ropeOf 4 { Rope.zero with lastTime := 1 } with ref := 196608 }, by decide +kernel, by decide +kernel, Or.inl (by
     decide +kernel)⟩,
   ⟨State.reset, by decide +kernel⟩,
   ⟨{ (ropeOf 4 Rope.zero).setReg F.HX_TOPO_VALID 1 |>.setReg F.HX_TOPO_NXM1 3 |>.setReg F.HX_STATUS_STATE 7 with image := some (ropeOfTwo []) },
     1, 4, by decide +kernel, by decide +kernel, fun _ => rfl, by decide +kernel⟩,
   ⟨cellsOf [cellTo 1 [1]] State.reset, 0, cellTo 1 [1], [], by decide +kernel⟩,
   ⟨cellsOf [cellTo 1 [5]] State.reset, 0, cellTo 1 [5], [], by decide +kernel⟩,
   ⟨cellsOf [cellTo 1 [3]] (ropeOf 4 Rope.zero), 0, cellTo 1 [3], [], by decide +kernel⟩,
   ⟨cellsOf [cellTo 1 [6, 0, 0, 0, 9]] (ropeOf 4 { Rope.zero with slotB := slotWith 9 }), 0, 1, cellTo 1 [6, 0, 0, 0, 9], [],
     by decide +kernel⟩,
   ⟨cellsOf [cellTo 1 [7, 2]] (ropeOf 7 Rope.zero), 0, cellTo 1 [7, 2], [], by decide +kernel⟩,
   ⟨cellsOf [cellTo 1 [7, 3]] (ropeOf 7 Rope.zero), 0, cellTo 1 [7, 3], [], by decide +kernel⟩,
   ⟨cellsOf [cellTo 1 [7, 3]] (ropeOf 4 Rope.zero), 0, cellTo 1 [7, 3], [], by decide +kernel⟩,
   ⟨cellsOf [cellTo 1 [7, 0]] (ropeOf 4 Rope.zero), 0, cellTo 1 [7, 0], [], by decide +kernel⟩,
   ⟨cellsOf [cellTo 3 [2]] (ropeOf 4 Rope.zero), 0, cellTo 3 [2], [], by decide +kernel⟩,
   ⟨{ cellsOf [cellTo 3 [2]] (ropeOf 4 Rope.zero) with acyc := 1 }, 0, cellTo 3 [2], [], by decide +kernel⟩,
   ⟨ropeOf 4 Rope.zero, by decide +kernel⟩,
   ⟨{ ropeOf 4 Rope.zero with acyc := 0x100000 }, by decide +kernel⟩⟩

theorem test_witness_CheckpointsAreCapturedAndRestored :
    (∃ (s : State) (q : Nat) (k : Nat) (l : List (Nat × Nat)), s.run.ended = (q, k) :: l ∧ s.ropeState = 4 ∧ s.run.cur = none
      ∧ k ≤ s.acyc ∧ s.rope.capEpoch ≤ k / 2 ^ s.rdesc.epochLog2 ∧ s.rope.startedSince = true ∧ s.rope.capture = none ∧
      s.rope.awaitCommit = false) ∧
    (∃ (s : State) (e : Nat) (k : Nat) (b : Nat), s.rope.capture = some (e, k, b)) ∧
    (∃ (s : State), s.solo = true ∧ s.ropeState = 4 ∧ s.rope.clearAt + 4096 ≤ s.acyc ∧ s.rope.bad = none ∧ s.rdesc.size ≤
      s.subtreeCount ∧ s.rope.sums = false ∧ s.subtreeCleared < 2 ^ 64 ∧ s.reg F.BC_ROPE_CLEAR_CLEAR < 2 ^ 64) ∧
    (∃ (s : State), s.ropeState = 6 ∧ (s.solo = true → s.reg F.BC_ROPE_STATUS_STATE = 0) ∧ s.rst.active = false ∧
      s.log.migrate = [] ∧ s.rope.restore = none) ∧
    (∃ (s : State) (e : _), s.ropeState = 6 ∧ (s.solo = true → s.reg F.BC_ROPE_STATUS_STATE = 0) ∧ s.rst.active = false ∧
      s.log.migrate = [] ∧ s.rope.restore = some e ∧ s.csumOk e = true) ∧
    (∃ (s : State) (csum : Bool) (e : _), s.ropeState = 6 ∧ (s.solo = true → s.reg F.BC_ROPE_STATUS_STATE = 0) ∧ s.rst.active
      = false ∧ s.log.migrate = [] ∧ s.rope.restore = some e ∧ s.solo = true ∧ (csum = false ∨ s.csumOk e = false)) :=
  ⟨⟨{ ropeOf 4 { Rope.zero with startedSince := true } with acyc := 9, run := { Run.zero with ended := [(3, 9)] } }, 3, 9, [],
     by decide +kernel⟩,
   ⟨ropeOf 4 { Rope.zero with capture := some (1, 9, 0) }, 1, 9, 0, by decide +kernel⟩,
   ⟨{ regsOf [(F.BC_ROPE_STATUS_SOLO, 0, 1), (F.BC_ROPE_STATUS_LSTATE, 0, 4)] with acyc := 4096 }, by decide +kernel⟩,
   ⟨ropeOf 6 Rope.zero, by decide +kernel⟩,
   ⟨ropeOf 6 { Rope.zero with restore := some 9, slotA := slotWith 9 }, 9, by decide +kernel⟩,
   ⟨{ regsOf [(F.BC_ROPE_STATUS_SOLO, 0, 1), (F.BC_ROPE_STATUS_LSTATE, 0, 6)] with rope := { Rope.zero with restore := some 9 } },
     false, 9, by decide +kernel⟩⟩

theorem test_witness_ReportsAndCairnsOfARope :
    (∃ (s : State) (code : Nat) (acyc : Nat) (origin : Nat), s.solo = false ∧ s.isAnchor = false ∧ s.reg
      F.BC_ROPE_STATUS_STATE ≠ 0 ∧ s.reg F.BC_ROPE_STATUS_TPORT ≠ 7 ∧ s.trust.halted = false ∧ s.rope.bad = some (code, acyc,
      origin) ∧ s.rope.badSent = false) ∧
    (∃ (s : State), s.solo = false ∧ s.isAnchor = false ∧ s.reg F.BC_ROPE_STATUS_STATE = 4 ∧ s.reg F.BC_ROPE_STATUS_TPORT ≠ 7
      ∧ s.trust.halted = false ∧ s.rope.bad = none ∧ s.rope.upCleared < s.subtreeCleared ∧ s.rope.upAt + 4096 ≤ s.acyc) ∧
    (∃ (s : State) (p : Nat) (c : Cell) (r : List (Nat × Cell)) (k : Child), s.bcl.cells = (p, c) :: r ∧ c.type = 1 ∧ leAt
      c.body 0 1 = 4 ∧ s.inRope = true ∧ k ∈ s.rope.children ∧ k.coord = c.src ∧ leAt c.body 1 1 ≠ 1) ∧
    (∃ (s : State) (k : Child), s.inRope = true ∧ s.ropeState = 4 ∧ s.isAnchor = false ∧ k ∈ s.rope.children ∧ k.lastUp +
      131072 ≤ s.acyc ∧ s.rope.bad = none) ∧
    (∃ (s : State) (p : Fin 6) (n : Nat) (d : CairnDef) (i : Inst), s.ropeState = 4 ∧ s.hopDue p.val 0 0 = some (n, d, i)) ∧
    (∃ (s : State) (p : Nat) (c : Cell) (r : List (Nat × Cell)) (d : CairnDef) (i : Inst), s.bcl.cells = (p, c) :: r ∧ c.type
      = 4 ∧ leAt c.body 0 1 = 1 ∧ s.cairnDefs.find? (fun x => x.1 = leAt c.body 1 1) = some (leAt c.body 1 1, d) ∧
      s.rope.insts = [i] ∧ i.seqNo = leAt c.body 4 8 ∧ d.section_ = i.section_ ∧ streamEnd d i + s.rdesc.land ≤ s.acyc ∧
      (s.engine (leAt c.body 1 1) i.seqNo).half = none) ∧
    (∃ (s : State) (p : Fin 6) (n : Nat) (d : CairnDef) (i : Inst), s.ropeState = 4 ∧ s.hopDue p.val 1 (s.rdesc.land + 4096) =
      some (n, d, i)) ∧
    (∃ (s : State), s.isAnchor = true ∧ s.ropeState = 4 ∧ s.rope.sums = true ∧ s.windowDue s.rope.verified = true ∧
      s.cairnDefs = [] ∧ ((s.windowKids s.rope.verified).foldl (fun n w => n + w.2.2) 1) = s.rdesc.size ∧ ((s.windowKids
      s.rope.verified).foldl (fun a w => (a + w.2.1) % cairnP) 0) = 0) ∧
    (∃ (s : State), s.isAnchor = true ∧ s.ropeState = 4 ∧ s.rope.sums = true ∧ s.windowDue s.rope.verified = true ∧
      s.cairnDefs = [] ∧ ((s.windowKids s.rope.verified).foldl (fun n w => n + w.2.2) 1) = s.rdesc.size ∧ ((s.windowKids
      s.rope.verified).foldl (fun a w => (a + w.2.1) % cairnP) 0) ≠ 0) ∧
    (∃ (s : State) (p : Nat) (c : Cell) (r : List (Nat × Cell)), s.bcl.cells = (p, c) :: r ∧ c.type = 4 ∧ leAt c.body 0 1 = 2
      ∧ s.isAnchor = false) :=
  ⟨⟨(ropeOf 4 { Rope.zero with bad := some (1, 2, 3) }).setReg F.BC_ROPE_STATUS_TPORT 0, 1, 2, 3, by decide +kernel⟩,
   ⟨{ (ropeOf 4 Rope.zero).setReg F.BC_ROPE_STATUS_TPORT 0 with acyc := 70000 }, by decide +kernel⟩,
   ⟨cellsOf [cellTo 1 [4]] (ropeOf 4 { Rope.zero with children := [⟨0, 0, 0, 0, none, false, []⟩] }), 0, cellTo 1 [4], [], ⟨0,
     0, 0, 0, none, false, []⟩, by decide +kernel⟩,
   ⟨{ ropeOf 4 { Rope.zero with children := [⟨0, 0, 0, 0, none, false, []⟩] } with acyc := 131072 }, ⟨0, 0, 0, 0, none, false,
     []⟩, by decide +kernel⟩,
   ⟨{ ropeOf 4 { Rope.zero with insts := [⟨0, 0, 64, 5⟩] } with image := some (ropeOfTwo [(0x301E, 1), (0x3044, 1)]) }, 0, 0,
     ⟨0, 0, 0, 1, 0, 0, 0, 0, 0, 0, 0⟩, ⟨0, 0, 64, 5⟩, by decide +kernel⟩,
   ⟨{ cellsOf [cellTo 4 [1, 0, 0, 0, 5]] (ropeOf 4 { Rope.zero with insts := [⟨0, 0, 64, 5⟩] }) with image := some (ropeOfTwo [(0x301E, 1), (0x3044, 1)]) },
     0, cellTo 4 [1, 0, 0, 0, 5], [], ⟨0, 0, 0, 1, 0, 0, 0, 0, 0, 0, 0⟩, ⟨0, 0, 64, 5⟩, by decide +kernel⟩,
   ⟨{ ropeOf 4 { Rope.zero with insts := [⟨0, 0, 64, 5⟩] } with acyc := 4096, image := some (ropeOfTwo [(0x301E, 1), (0x3043, 1), (0x3044, 1)]) },
     0, 0, ⟨0, 0, 1, 1, 0, 0, 0, 0, 0, 0, 0⟩, ⟨0, 0, 64, 5⟩, by decide +kernel⟩,
   ⟨{ (ropeOf 4 { Rope.zero with sums := true }).setReg F.BC_ROPE_STATUS_ANCHOR 1 with acyc := 16384 }, by decide +kernel⟩,
   ⟨{ (ropeOf 4 { Rope.zero with sums := true, windows := [⟨0, [(1, 5, 1)]⟩] }).setReg F.BC_ROPE_STATUS_ANCHOR 1 with acyc := 16384, image := some (ropeOfTwo []) },
     by decide +kernel⟩,
   ⟨cellsOf [cellTo 4 [2]] (ropeOf 4 Rope.zero), 0, cellTo 4 [2], [], by decide +kernel⟩⟩

theorem test_witness_FaultsReachTheLogbook :
    (∃ (s : State) (r : Report) (rest : List Report), s.reports = r :: rest ∧ r.trig = false ∧ r.code ≠ Code.eccScrUe ∧ r.code
      ≠ Code.eccStkUe ∧ r.code ≠ Code.seamSlip ∧ r.code ≠ Code.rprReplan ∧ r.subject ≠ 0 ∧ (∀ e, e ∈ s.log.entries →
      e.sameSubject r = false) ∧ s.log.buffered < 4096 ∧ s.log.lost = false) ∧
    (∃ (s : State) (r : Report) (rest : List Report) (e : LogEntry) (l : List LogEntry), s.reports = r :: rest ∧ r.trig =
      false ∧ r.code ≠ Code.eccScrUe ∧ r.code ≠ Code.eccStkUe ∧ r.code ≠ Code.seamSlip ∧ r.code ≠ Code.rprReplan ∧
      s.log.entries = e :: l ∧ e.sameSubject r = true ∧ e.bootgen = s.log.bootgen % 2 ^ 32 ∧ s.ref < e.time + 100000) ∧
    (∃ (s : State), s.reports = []) ∧
    (∃ (s : State) (p : Nat) (c : Cell) (r : List (Nat × Cell)), s.bcl.cells = (p, c) :: r ∧ c.type = 5 ∧ s.log.buffered <
      4096) ∧
    (∃ (s : State), s.log.lost = false) ∧
    (∃ (s : State), s.log.lost = true ∧ (∀ e, e ∈ s.log.entries → e.code ≠ Code.logOverflow)) :=
  ⟨⟨{ State.reset with reports := [⟨0x501, 5, 0, 0, 0, none, 0, 0, 0, false, false, 0, 0⟩] }, ⟨0x501, 5, 0, 0, 0, none, 0, 0,
     0, false, false, 0, 0⟩, [], by decide +kernel⟩,
   ⟨{ State.reset with reports := [⟨0x501, 5, 0, 0, 0, none, 0, 0, 0, false, false, 0, 0⟩], log := { Log.zero with entries := [⟨0, 0, 0, 0x501, 5, 0, 0, 0, 0, none, 0, 0, 1, 0, 0, 0, 0⟩] } },
     ⟨0x501, 5, 0, 0, 0, none, 0, 0, 0, false, false, 0, 0⟩, [], ⟨0, 0, 0, 0x501, 5, 0, 0, 0, 0, none, 0, 0, 1, 0, 0, 0, 0⟩,
     [], by decide +kernel⟩,
   ⟨State.reset, by decide +kernel⟩,
   ⟨cellsOf [cellTo 5 []] State.reset, 0, cellTo 5 [], [], by decide +kernel⟩,
   ⟨State.reset, by decide +kernel⟩,
   ⟨{ State.reset with log := { Log.zero with lost := true } }, by decide +kernel⟩⟩

theorem test_witness_RetestsRepairAndMigration :
    (∃ (s : State) (f : Fin 48) (rise : BitVec 32), s.present f.val = true ∧ s.od 0x5100 3 < rise.toNat) ∧
    (∃ (s : State) (f : Fin 48) (rise : BitVec 32), s.present f.val = true ∧ rise.toNat ≤ s.od 0x5100 3) ∧
    (∃ (s : State) (px : BitVec 11) (py : BitVec 10) (f : Nat) (key : Nat), placeOf px.toNat py.toNat = (f, key) ∧ s.isTile
      px.toNat py.toNat = true ∧ (s.field f).live = false) ∧
    (∃ (s : State) (px : BitVec 11) (py : BitVec 10) (f : Nat) (key : Nat), placeOf px.toNat py.toNat = (f, key) ∧ (s.isTile
      px.toNat py.toNat = false ∨ (s.field f).live = true)) ∧
    (∃ (s : State) (f : Fin 48) (key : Fin 17424) (r : Retest) (l : List Retest), s.log.retests = r :: l ∧ r.field = f.val ∧
      r.key = key.val ∧ (s.field f.val).live = false ∧ s.ropeState ≠ 6 ∧ r.why = 0) ∧
    (∃ (s : State) (f : Fin 48) (key : Fin 17424) (r : Retest) (l : List Retest) (fails : BitVec 10), s.log.retests = r :: l ∧
      r.field = f.val ∧ r.key = key.val ∧ (s.field f.val).live = false ∧ s.ropeState ≠ 6 ∧ fails ≠ 0) ∧
    (∃ (s : State) (px : BitVec 11) (py : BitVec 10) (f : Nat) (key : Nat), placeOf px.toNat py.toNat = (f, key) ∧ s.isTile
      px.toNat py.toNat = true) ∧
    (∃ (s : State) (px : BitVec 11) (py : BitVec 10) (f : Nat) (key : Nat), placeOf px.toNat py.toNat = (f, key) ∧ s.isTile
      px.toNat py.toNat = false) ∧
    (∃ (s : State) (f : Fin 48), s.inReplan f.val = true ∧ s.reg F.FLD_HOLD_STATE f.val = 1 ∧ s.reg F.FLD_SVY_FULL f.val = 2) ∧
    (∃ (s : State) (f : Fin 48), (s.inReplan f.val = false ∨ s.reg F.FLD_HOLD_STATE f.val ≠ 1 ∨ s.reg F.FLD_SVY_FULL f.val ≠
      2)) ∧
    (∃ (s : State) (f : Fin 48) (col : Nat), (s.field f.val).live = false ∧ s.log.migrate = [(f.val, col)] ∧ s.log.due = []) ∧
    (∃ (s : State) (f : Fin 48), (s.field f.val).live = false ∧ s.log.migrate = []) :=
  ⟨⟨State.reset, 0, 1001, by decide +kernel⟩,
   ⟨State.reset, 0, 1000, by decide +kernel⟩,
   ⟨State.reset, 0, 0, 0, 0, by decide +kernel⟩,
   ⟨State.reset, 2047, 0, 15, 67, by decide +kernel, Or.inl (by decide +kernel)⟩,
   ⟨{ State.reset with log := { Log.zero with retests := [⟨0, 0, 0, 0⟩] } }, 0, 0, ⟨0, 0, 0, 0⟩, [], by decide +kernel⟩,
   ⟨{ State.reset with log := { Log.zero with retests := [⟨0, 0, 0, 0⟩] } }, 0, 0, ⟨0, 0, 0, 0⟩, [], 1, by decide +kernel⟩,
   ⟨State.reset, 0, 0, 0, 0, by decide +kernel⟩,
   ⟨State.reset, 2047, 0, 15, 67, by decide +kernel⟩,
   ⟨regsOf [(F.FLT_REPLAN_FIELDS, 0, 1), (F.FLD_HOLD_STATE, 0, 1), (F.FLD_SVY_FULL, 0, 2)], 0, by decide +kernel⟩,
   ⟨State.reset, 0, by decide +kernel⟩,
   ⟨{ State.reset with log := { Log.zero with migrate := [(0, 5)] } }, 0, 5, by decide +kernel⟩,
   ⟨State.reset, 0, by decide +kernel⟩⟩

theorem test_witness_BelaySamplesAreCompared :
    (∃ (s : State) (f : Fin 48) (row : Fin 132) (found : Bool) (k : Nat) (key : Nat), s.belayInterval ≠ 0 ∧ s.mode f.val = 2 ∧
      (s.field f.val).live = true ∧ (s.crev f.val).rows.contains row.val = false ∧ s.acyc % s.belayInterval = 17 * row.val %
      s.belayInterval ∧ s.freeSpares f.val row.val ≠ [] ∧ (∀ b, b ∈ (s.field f.val).belay → b.row ≠ row.val) ∧ k = (s.field
      f.val).samples.get 0 row.val ∧ key = physOf (s.crev f.val).cols (k % 128) + 132 * row.val ∧ (s.position f.val
      key).isSome = true ∧ (s.position f.val (physOf (s.crev f.val).cols 0 + 132 * row.val)).isSome = true ∧ found = false) ∧
    (∃ (s : State) (f : Fin 48) (row : Fin 132) (found : Bool) (k : Nat) (key : Nat), s.belayInterval ≠ 0 ∧ s.mode f.val = 2 ∧
      (s.field f.val).live = true ∧ (s.crev f.val).rows.contains row.val = false ∧ s.acyc % s.belayInterval = 17 * row.val %
      s.belayInterval ∧ s.freeSpares f.val row.val ≠ [] ∧ (∀ b, b ∈ (s.field f.val).belay → b.row ≠ row.val) ∧ k = (s.field
      f.val).samples.get 0 row.val ∧ key = physOf (s.crev f.val).cols (k % 128) + 132 * row.val ∧ (s.position f.val
      key).isSome = true ∧ (s.position f.val (physOf (s.crev f.val).cols 0 + 132 * row.val)).isSome = true ∧ found = true) ∧
    (∃ (s : State) (f : Fin 48) (row : Fin 132) (b : Sample), (s.field f.val).belay = [b] ∧ b.row = row.val ∧
      b.checkers.length = 2 ∧ s.log.charges = []) :=
  ⟨⟨{ State.reset.updField 0 (fun g => { g with live := true }) with image := some (imgOf [(0x28, 2)]) }, 0, 0, false, 0, 0,
     by decide +kernel⟩,
   ⟨{ State.reset.updField 0 (fun g => { g with live := true }) with image := some (imgOf [(0x28, 2)]) }, 0, 0, true, 0, 0, by
     decide +kernel⟩,
   ⟨State.reset.updField 0 (fun g => { g with belay := [⟨0, 5, false, [128, 129]⟩] }), 0, 0, ⟨0, 5, false, [128, 129]⟩, by
     decide +kernel⟩⟩

theorem test_witness_SurveysOfFields :
    (∃ (s : State) (f : Fin 48), s.present f.val = true ∧ s.reg F.FLD_SVY_DUE f.val ≠ 1 ∧ s.reg F.BC_SVY_CFG_PERIOD ≠ 0) ∧
    (∃ (s : State) (f : Fin 48), s.reg F.BC_SVY_CFG_EN = 1 ∧ s.reg F.FLD_SVY_DUE f.val = 1 ∧ s.surveyGap f.val = true ∧ s.reg
      F.FLD_SVY_SLICE f.val < 255) ∧
    (∃ (s : State) (f : Fin 48), s.reg F.BC_SVY_CFG_EN = 1 ∧ s.reg F.FLD_SVY_DUE f.val = 1 ∧ s.surveyGap f.val = true ∧ 255 ≤
      s.reg F.FLD_SVY_SLICE f.val) ∧
    (∃ (s : State) (f : Fin 48), s.reg F.FLD_SVY_DUE f.val = 1 ∧ s.reg F.FLD_SVY_OVERDUE f.val ≠ 1) ∧
    (∃ (s : State) (f : Fin 48), s.reg F.FLD_SVY_DUE f.val = 1 ∧ s.reg F.FLD_SVY_OVERDUE f.val = 1) ∧
    (∃ (s : State) (f : Fin 48), s.present f.val = true ∧ (s.reg F.FLD_HOLD_STATE f.val = 1 ∨ s.image = none) ∧ s.reg
      F.FLD_SVY_FULL f.val ≠ 1) ∧
    (∃ (s : State) (f : Fin 48), s.present f.val = true ∧ (s.reg F.FLD_HOLD_STATE f.val ≠ 1 ∧ s.image ≠ none ∨ s.reg
      F.FLD_SVY_FULL f.val = 1)) ∧
    (∃ (s : State) (f : Fin 48), s.reg F.FLD_SVY_FULL f.val = 1) ∧
    (∃ (s : State) (f : Fin 48), s.reg F.FLD_SVY_FULL f.val ≠ 1) ∧
    (∃ (s : State) (f : Fin 48), s.fullRunning f.val = true) :=
  ⟨⟨State.reset, 0, by decide +kernel⟩,
   ⟨regsOf [(F.BC_SVY_CFG_EN, 0, 1), (F.FLD_SVY_DUE, 0, 1), (F.FLD_PWR_RAILS, 0, 1), (F.FLD_SVY_SLICE, 0, 254)], 0, by
     decide +kernel⟩,
   ⟨regsOf [(F.BC_SVY_CFG_EN, 0, 1), (F.FLD_SVY_DUE, 0, 1), (F.FLD_PWR_RAILS, 0, 1), (F.FLD_SVY_SLICE, 0, 255)], 0, by
     decide +kernel⟩,
   ⟨regsOf [(F.FLD_SVY_DUE, 0, 1)], 0, by decide +kernel⟩,
   ⟨regsOf [(F.FLD_SVY_DUE, 0, 1), (F.FLD_SVY_OVERDUE, 0, 1)], 0, by decide +kernel⟩,
   ⟨State.reset, 0, by decide +kernel, Or.inr rfl, by decide +kernel⟩,
   ⟨regsOf [(F.FLD_SVY_FULL, 0, 1)], 0, by decide +kernel, Or.inr (by decide +kernel)⟩,
   ⟨regsOf [(F.FLD_SVY_FULL, 0, 1)], 0, by decide +kernel⟩,
   ⟨State.reset, 0, by decide +kernel⟩,
   ⟨regsOf [(F.FLD_SVY_FULL, 0, 1)], 0, by decide +kernel⟩⟩

theorem test_witness_HistogramsHistoriesAndTime :
    (∃ (s : State) (f : Fin 48) (key : Nat), s.present f.val = true ∧ s.reg F.FLD_TEL_CFG_EN f.val = 1 ∧ s.aclk f.val = true ∧
      s.acyc % 2 ^ s.reg F.FLD_TEL_CFG_K f.val = 0 ∧ s.pkts = [] ∧ (∀ e, e ∈ s.fields → e.2.clearAt = none) ∧ (s.field
      f.val).tiles = [] ∧ (s.tile f.val key).rtr.fifo 0 = [] ∧ s.reg F.FLD_TEL_CFG_FREEZE f.val = 0) ∧
    (∃ (s : State) (f : Fin 48) (key : Nat), s.present f.val = true ∧ s.reg F.FLD_TEL_CFG_EN f.val = 1 ∧ s.aclk f.val = true ∧
      s.acyc % 2 ^ s.reg F.FLD_TEL_CFG_K f.val = 0 ∧ s.pkts = [] ∧ (∀ e, e ∈ s.fields → e.2.clearAt = none) ∧ (s.field
      f.val).tiles = [] ∧ (s.tile f.val key).rtr.fifo 0 = [] ∧ s.reg F.FLD_TEL_CFG_FREEZE f.val = 1) ∧
    (∃ (s : State) (p : Nat), s.reg F.TEL_CFG_EN = 1 ∧ s.acyc % 2 ^ s.reg F.TEL_CFG_K = 0 ∧ p < 6 ∧ p < s.nPorts ∧ s.portUp p
      = true ∧ (s.port p).rx.get [] 2 = []) ∧
    (∃ (s : State) (p : Nat), s.reg F.TEL_CFG_EN = 1 ∧ s.acyc % 2 ^ s.reg F.TEL_CFG_K = 0 ∧ p < 6 ∧ s.portUp p = false) ∧
    (∃ (s : State) (f : Fin 48), s.present f.val = true) ∧
    (∃ (s : State) (f : Nat) (r : Nat), f < s.nFields ∧ r < 3) ∧
    (∃ (rail : Fin 4), rail.val < 3) ∧
    (∃ (s : State) (v : Nat), s.pw.todNext = some v ∧ s.reg F.TEL_TOD_ANCHOR ≠ 1) ∧
    (∃ (s : State), s.pw.todNext = none ∧ s.reg F.TEL_TOD_VALID = 1) :=
  ⟨⟨regsOf [(F.FLD_TEL_CFG_EN, 0, 1), (F.CLK_PLL_FIELD, 0, 1)], 0, 0, by decide +kernel⟩,
   ⟨regsOf [(F.FLD_TEL_CFG_EN, 0, 1), (F.CLK_PLL_FIELD, 0, 1), (F.FLD_TEL_CFG_FREEZE, 0, 1)], 0, 0, by decide +kernel⟩,
   ⟨(portOf 7 HxPort.zero).setReg F.TEL_CFG_EN 1, 0, by decide +kernel⟩,
   ⟨regsOf [(F.TEL_CFG_EN, 0, 1)], 0, by decide +kernel⟩,
   ⟨State.reset, 0, by decide +kernel⟩,
   ⟨State.reset, 47, 2, by decide +kernel⟩,
   ⟨0, by decide +kernel⟩,
   ⟨{ State.reset with pw := { Pw.zero with todNext := some 5 } }, 5, by decide +kernel⟩,
   ⟨regsOf [(F.TEL_TOD_VALID, 0, 1)], by decide +kernel⟩⟩

theorem test_witness_SurveyWindowReadsAndWrites :
    (∃ (s : State) (view : Fin 3) (off : BitVec 18) (f : Nat) (key : Nat), view.val < 2 ∧ s.reg F.SVY_SEL_EN 0 view.val = 1 ∧
      s.locate (s.reg F.SVY_SEL_TARGET 0 view.val) = some (f, key) ∧ s.msgReset f = false ∧ s.agentAway f = false ∧ off.toNat
      % 8 = 0 ∧ off.toNat < 0x10000 ∧ ((s.tile f key).scrWord (off.toNat / 8)).ecc = .good ∧ (((s.tile f key).scrWord
      (off.toNat / 8)).tag = 0 ∨ s.scopeOpen 0 = true)) ∧
    (∃ (s : State) (view : Fin 3) (off : BitVec 18) (f : Nat) (key : Nat), view.val < 2 ∧ s.reg F.SVY_SEL_EN 0 view.val = 1 ∧
      s.locate (s.reg F.SVY_SEL_TARGET 0 view.val) = some (f, key) ∧ s.msgReset f = false ∧ s.agentAway f = false ∧ off.toNat
      % 8 = 0 ∧ off.toNat < 0x10000 ∧ ((s.tile f key).scrWord (off.toNat / 8)).ecc = .good ∧ ((s.tile f key).scrWord
      (off.toNat / 8)).tag ≠ 0 ∧ s.scopeOpen 0 = false) ∧
    (∃ (s : State) (view : Fin 3), view.val < 2 ∧ s.reg F.SVY_SEL_EN 0 view.val = 0) ∧
    (∃ (s : State) (view : Fin 3) (off : BitVec 18) (data : List (BitVec 8)) (f : Nat) (key : Nat), view.val < 2 ∧ s.scopeOpen
      1 = true ∧ s.crocus = true ∧ s.reg F.SVY_SEL_EN 0 view.val = 1 ∧ s.locate (s.reg F.SVY_SEL_TARGET 0 view.val) = some (f,
      key) ∧ s.msgReset f = false ∧ s.agentAway f = false ∧ off.toNat % 8 = 0 ∧ off.toNat < 0x10000 ∧ data.length = 8) ∧
    (∃ (s : State), (s.scopeOpen 1 = false ∨ s.crocus = false)) :=
  ⟨⟨(tileOf Tile.zero).setReg F.SVY_SEL_EN 1, 0, 0, 0, 0, by decide +kernel⟩,
   ⟨(tileOf { Tile.zero with scratch := [(0, ⟨5, 3, 0⟩)] }).setReg F.SVY_SEL_EN 1, 0, 0, 0, 0, by decide +kernel⟩,
   ⟨State.reset, 0, by decide +kernel⟩,
   ⟨(tileOf Tile.zero).setReg F.SVY_SEL_EN 1 |>.setReg F.BC_DBG_CMD_SCOPE 2, 0, 0, List.replicate 8 1, 0, 0, by
     decide +kernel⟩,
   ⟨State.reset, by decide +kernel⟩⟩

theorem test_witness_TestAccessPort :
    (∃ (s : State), s.scopeOpen 0 = false) ∧
    (∃ (s : State), s.scopeOpen 1 = false) ∧
    (∃ (s : State), s.scopeOpen 2 = false) ∧
    (∃ (s : State), s.scopeOpen 3 = false) ∧
    (∃ (s : State), s.scopeOpen 1 = true ∧ s.netGated = false) ∧
    (∃ (s : State) (ix : BitVec 32) (v : Nat), s.scopeOpen 0 = true ∧ s.netGated = false ∧ s.trust.ijtag.get 0 ix.toNat = v +
      1) ∧
    (∃ (s : State), s.scopeOpen 0 = true ∧ s.netGated = true) ∧
    (∃ (s : State), s.scopeOpen 2 = true ∧ s.trust.halted = false) ∧
    (∃ (s : State) (f : Fin 48), s.scopeOpen 3 = true ∧ s.present f.val = true ∧ (s.field f.val).live = false ∧
      s.trust.scanning.contains f.val = false) ∧
    (∃ (s : State) (f : Fin 48), s.trust.scanning.contains f.val = true) :=
  ⟨⟨State.reset, by decide +kernel⟩,
   ⟨State.reset, by decide +kernel⟩,
   ⟨State.reset, by decide +kernel⟩,
   ⟨State.reset, by decide +kernel⟩,
   ⟨regsOf [(F.BC_DBG_CMD_SCOPE, 0, 2)], by decide +kernel⟩,
   ⟨{ regsOf [(F.BC_DBG_CMD_SCOPE, 0, 1)] with trust := { Trust.zero with ijtag := [(0, 6)] } }, 0, 5, by decide +kernel⟩,
   ⟨regsOf [(F.BC_DBG_CMD_SCOPE, 0, 1), (F.CLK_GATE_MODE, 0, 8)], by decide +kernel⟩,
   ⟨regsOf [(F.BC_DBG_CMD_SCOPE, 0, 4)], by decide +kernel⟩,
   ⟨regsOf [(F.BC_DBG_CMD_SCOPE, 0, 8)], 0, by decide +kernel⟩,
   ⟨{ State.reset with trust := { Trust.zero with scanning := [0] } }, 0, by decide +kernel⟩⟩

theorem test_witness_HostLinksComeAndGo :
    (∃ (s : State) (p : Fin 2), s.perst p.val = false) ∧
    (∃ (s : State) (p : Fin 2) (rate : Fin 6) (width : Fin 4), s.perst p.val = false ∧ (rate.val < 5 ∨ width.val < 3)) ∧
    (∃ (s : State) (p : Fin 2), s.reg F.HP_LINK_UP p.val = 1) ∧
    (∃ (p : Fin 2) (c : Instr), c ∈ [Instr.perstN p true, .hotReset p, .flr p]) ∧
    (∃ (s : State) (p : Fin 2) (k : Nat) (r : Ring), k < 64 ∧ s.ldg.rings = [(64 * p.val + k, r)]) :=
  ⟨⟨{ State.reset with ldg := { Ledger.zero with perstA := false } }, 0, by decide +kernel⟩,
   ⟨{ State.reset with ldg := { Ledger.zero with perstA := false } }, 0, 0, 0, by decide +kernel, Or.inl (by decide)⟩,
   ⟨regsOf [(F.HP_LINK_UP, 0, 1)], 0, by decide +kernel⟩,
   ⟨0, Instr.hotReset 0, by simp⟩,
   ⟨{ State.reset with ldg := { Ledger.zero with rings := [(0, ringFive)] } }, 0, 0, ringFive, by decide +kernel⟩⟩

theorem test_witness_HostWritesReachTheLedger :
    (∃ (s : State), s.linkReset = false) ∧
    (∃ (s : State) (off : BitVec 28) (data : List (BitVec 8)), 0x1000 ≤ off.toNat ∧ off.toNat + data.length ≤ 0x5000 ∧
      s.linkReset = false) ∧
    (∃ (s : State) (p : Fin 2) (off : BitVec 28) (data : List (BitVec 8)) (i : Nat), data ≠ [] ∧ s.linkReset = false ∧
      (off.toNat + data.length ≤ 0x1000 ∨ (i < 4096 ∧ 0x1000000 + 0x4000 * i ≤ off.toNat ∧ off.toNat + data.length ≤ 0x1000000
      + 0x4000 * (i + 1) ∧ (s.ldg.sess i).state ≠ 0 ∧ (s.ldg.sess i).owner ≠ p.val + 1))) ∧
    (∃ (s : State) (p : Fin 2), s.reg F.HP_LINK_IDE p.val = 1) ∧
    (∃ (s : State) (p : Fin 2) (k : Fin 64) (r : Ring), s.linkReset = false ∧ s.ldg.ring p.val k.val = r ∧ r.en = false ∧
      r.slots = []) ∧
    (∃ (s : State) (p : Fin 2) (k : Fin 64) (v : BitVec 32) (g : Ring) (i : Nat) (r : Rec), s.linkReset = false ∧ s.ldg.ring
      p.val k.val = g ∧ g.en = true ∧ s.ldg.u (ringAt p.val k.val + 13) 1 = 1 ∧ g.cons < 2 ^ 32 ∧ v.toNat = (g.cons + 1) % 2 ^
      32 ∧ g.slots = [(i, r.seqNo, r.index, false)] ∧ g.flying = 0 ∧ (s.ldg.sess i).recs = [r] ∧ r.noToken = false ∧ r.port =
      p.val ∧ r.ring = k.val ∧ r.place = 2) :=
  ⟨⟨State.reset, by decide +kernel⟩,
   ⟨State.reset, 0x1000, [5], by decide +kernel⟩,
   ⟨{ State.reset with ldg := { Ledger.zero with sessions := [(0, { Session.zero with state := 1, owner := 2 })] } }, 0,
     0x1000000, [5], 0, by decide, by decide +kernel, Or.inr (by decide +kernel)⟩,
   ⟨regsOf [(F.HP_LINK_IDE, 0, 1)], 0, by decide +kernel⟩,
   ⟨State.reset, 0, 0, Ring.zero, by decide +kernel⟩,
   ⟨ledgerOf
     { Ledger.zero with mem := [(ringAt 0 0 + 13, 1)], rings := [(0, { ringFive with slots := [(0, 1, 0, false)] })], sessions := [(0, { Session.zero with recs := [recAt 2 0] })] },
     0, 0, 6, { ringFive with slots := [(0, 1, 0, false)] }, 0, recAt 2 0, by decide +kernel⟩⟩

theorem test_witness_PostingMapsGainBitsUntilIntakeTakesThem :
    (∃ (s : State), s.linkReset = false) ∧
    (∃ (o : Nat) (k : Nat), o < 512 ∧ k < 8) ∧
    (∃ (s : State) (ups : List (Addr × Upset)), (s.upsets ups).ldg.state = 1 ∧ (s.upsets ups).trust.halted = false ∧ (s.upsets
      ups).held = false ∧ (s.upsets ups).stackReset = false ∧ (s.upsets ups).ldg.accepting = [] ∧ (∀ p, (s.upsets
      ups).leaseDue p = false) ∧ (s.upsets ups).ldg.mapB = 0 ∧ (∀ i, bitOf (s.upsets ups).ldg.mapA i = true → ((s.upsets
      ups).ldg.sess i).state ≠ 0 ∧ ((s.upsets ups).ldg.sess i).owner = 2)) :=
  ⟨⟨State.reset, by decide +kernel⟩,
   ⟨511, 7, by decide +kernel⟩,
   ⟨ledgerOf (postedOf { Session.zero with state := 1, owner := 2 }), [], by decide +kernel, by decide +kernel, by
     decide +kernel, by decide +kernel, by decide +kernel, fun _ => rfl, by decide +kernel, onlyBit0 (by decide +kernel)⟩⟩

theorem test_witness_RequestsAreTakenAndAccepted :
    (∃ (s : State) (u : State) (ups : List (Addr × Upset)) (i : Fin 4096), u = s.upsets ups ∧ u.ldg.state = 1 ∧ u.trust.halted
      = false ∧ u.held = false ∧ u.stackReset = false ∧ u.ldg.accepting = [] ∧ (∀ p, u.leaseDue p = false) ∧ u.ldg.mapA = 2 ^
      i.val ∧ u.ldg.mapB = 0 ∧ (u.ldg.sess i.val).state = 1 ∧ (u.ldg.sess i.val).nextSeq = 1 ∧ u.inRope = false ∧ (u.ldg.sess
      i.val).owner = 2) ∧
    (∃ (s : State) (u : State) (ups : List (Addr × Upset)) (i : Fin 4096), u = s.upsets ups ∧ u.ldg.state = 1 ∧ u.trust.halted
      = false ∧ u.held = false ∧ u.stackReset = false ∧ u.ldg.accepting = [] ∧ (∀ p, u.leaseDue p = false) ∧ u.ldg.mapA = 2 ^
      i.val ∧ u.ldg.mapB = 0 ∧ (u.ldg.sess i.val).state = 1 ∧ (u.ldg.sess i.val).nextSeq = 1 ∧ u.inRope = false ∧ (u.ldg.sess
      i.val).owner = 1 ∧ crc32c ((u.ldg.slot i.val 1).take 0xF8) ≠ leAt (u.ldg.slot i.val 1) 0xFC 4) ∧
    (∃ (s : State) (u : State) (ups : List (Addr × Upset)) (i : Fin 4096), u = s.upsets ups ∧ u.ldg.state = 1 ∧ u.trust.halted
      = false ∧ u.held = false ∧ u.stackReset = false ∧ u.ldg.accepting = [] ∧ (∀ p, u.leaseDue p = false) ∧ u.ldg.mapA = 2 ^
      i.val ∧ u.ldg.mapB = 0 ∧ (u.ldg.sess i.val).state = 1 ∧ (u.ldg.sess i.val).nextSeq = 1 ∧ u.inRope = false ∧ (u.ldg.sess
      i.val).owner = 1 ∧ crc32c ((u.ldg.slot i.val 1).take 0xF8) = leAt (u.ldg.slot i.val 1) 0xFC 4 ∧ 1 < leAt (u.ldg.slot
      i.val 1) 0 8) ∧
    (∃ (s : State) (u : State) (ups : List (Addr × Upset)) (i : Fin 4096), u = s.upsets ups ∧ u.ldg.state = 1 ∧ u.trust.halted
      = false ∧ u.held = false ∧ u.stackReset = false ∧ u.ldg.accepting = [] ∧ (∀ p, u.leaseDue p = false) ∧ u.ldg.mapA = 2 ^
      i.val ∧ u.ldg.mapB = 0 ∧ (u.ldg.sess i.val).state = 1 ∧ (u.ldg.sess i.val).nextSeq = 1 ∧ u.inRope = false ∧ (u.ldg.sess
      i.val).owner = 1 ∧ crc32c ((u.ldg.slot i.val 1).take 0xF8) = leAt (u.ldg.slot i.val 1) 0xFC 4 ∧ leAt (u.ldg.slot i.val
      1) 0 8 = 1 ∧ bitOf (leAt (u.ldg.slot i.val 1) 10 1) 2 = false ∧ u.ldg.journal = [] ∧ (u.ldg.sess i.val).key = [] ∧ bitOf
      (leAt (u.ldg.slot i.val 1) 10 1) 1 = false ∧ crc32c ((u.ldg.slot i.val 2).take 0xF8) ≠ leAt (u.ldg.slot i.val 2) 0xFC 4
      ∧ u.od 0x7000 3 = 0) ∧
    (∃ (s : State) (a : Accepting) (l : List Accepting) (x : Session), s.ldg.accepting = a :: l ∧ a.mirror = false ∧
      s.stackReset = false ∧ s.admits s.journalField 1 = true ∧ s.ldg.sess a.session = x ∧ x.active = [] ∧ x.recs = [] ∧
      a.req.kind = 1 ∧ a.req.rejected = none ∧ x.state = 0) ∧
    (∃ (s : State) (a : Accepting) (l : List Accepting) (x : Session) (v : _), s.ldg.accepting = a :: l ∧ a.mirror = false ∧
      s.stackReset = false ∧ s.admits s.journalField 1 = true ∧ s.ldg.sess a.session = x ∧ x.active = [] ∧ x.recs = [] ∧
      a.req.rejected = some v) ∧
    (∃ (s : State), s.admits s.journalField 1 = false) ∧
    (∃ (s : State) (a : Accepting) (l : List Accepting), s.ldg.accepting = a :: l ∧ a.mirror = true) :=
  ⟨⟨ledgerOf (postedOf { Session.zero with state := 1, owner := 2 }), ledgerOf (postedOf
     { Session.zero with state := 1, owner := 2 }), [], 0, rfl, by decide +kernel, by decide +kernel, by decide +kernel, by
     decide +kernel, by decide +kernel, fun _ => rfl, by decide +kernel⟩,
   ⟨ledgerOf (postedOf { Session.zero with state := 1, owner := 1 }), ledgerOf (postedOf
     { Session.zero with state := 1, owner := 1 }), [], 0, rfl, by decide +kernel, by decide +kernel, by decide +kernel, by
     decide +kernel, by decide +kernel, fun _ => rfl, by decide +kernel, by decide +kernel, by decide +kernel, by
     decide +kernel, by decide +kernel, by decide +kernel, by set_option maxRecDepth 4000 in decide +kernel⟩,
   ⟨ledgerOf { postedOf { Session.zero with state := 1, owner := 1 } with mem := slotOne [2] }, ledgerOf
     { postedOf { Session.zero with state := 1, owner := 1 } with mem := slotOne [2] }, [], 0, rfl, by decide +kernel, by
     decide +kernel, by decide +kernel, by decide +kernel, by decide +kernel, fun _ => rfl, by decide +kernel, by
     decide +kernel, by decide +kernel, by decide +kernel, by decide +kernel, by decide +kernel, by set_option maxRecDepth
     4000 in decide +kernel, by decide +kernel⟩,
   ⟨ledgerOf { postedOf { Session.zero with state := 1, owner := 1 } with mem := slotOne [1] }, ledgerOf
     { postedOf { Session.zero with state := 1, owner := 1 } with mem := slotOne [1] }, [], 0, rfl, by decide +kernel, by
     decide +kernel, by decide +kernel, by decide +kernel, by decide +kernel, fun _ => rfl, by decide +kernel, by
     decide +kernel, by decide +kernel, by decide +kernel, by decide +kernel, by decide +kernel, by set_option maxRecDepth
     4000 in decide +kernel, by decide +kernel, by decide +kernel, by decide +kernel, by decide +kernel, by decide +kernel, by
     set_option maxRecDepth 4000 in decide +kernel, by decide +kernel⟩,
   ⟨ledgerOf { Ledger.zero with accepting := [⟨0, 0, runReq, false⟩] }, ⟨0, 0, runReq, false⟩, [], Session.zero, by
     decide +kernel⟩,
   ⟨ledgerOf { Ledger.zero with accepting := [⟨0, 0, { runReq with rejected := some 4 }, false⟩] }, ⟨0, 0,
     { runReq with rejected := some 4 }, false⟩, [], Session.zero, 4, by decide +kernel⟩,
   ⟨(ledgerOf Ledger.zero).updField 35 (fun g => { g with others := [(0, 1024)] }), by decide +kernel⟩,
   ⟨ledgerOf { Ledger.zero with accepting := [⟨0, 0, runReq, true⟩] }, ⟨0, 0, runReq, true⟩, [], by decide +kernel⟩⟩

theorem test_witness_LeasesAndTakeover :
    (∃ (s : State) (p : Fin 2) (i : Nat) (x : Session), s.trust.halted = false ∧ s.ldg.sessions = [(i, x)] ∧ s.leaseDue p.val
      = true) ∧
    (∃ (s : State) (p : Fin 2) (i : Nat) (x : Session), s.trust.halted = false ∧ s.ldg.sessions = [(i, x)] ∧ s.leaseDue p.val
      = false) ∧
    (∃ (s : State) (i : Nat) (x : Session), s.ldg.sessions = [(i, x)]) ∧
    (∃ (s : State) (p : Fin 2) (i : Nat) (c : Instr), i = s.reg F.HP_LEASE_SESSION p.val ∧ (c = .claim p ∨ (c = .claimAll p ∧
      s.ldg.sessions = [(i, s.ldg.sess i)]))) :=
  ⟨⟨ledgerOf { Ledger.zero with sessions := [(0, { Session.zero with state := 1, owner := 1 })], lease := [(0, 1)] }, 0, 0,
     { Session.zero with state := 1, owner := 1 }, by decide +kernel⟩,
   ⟨ledgerOf { Ledger.zero with sessions := [(0, { Session.zero with state := 1, owner := 1 })], lease := [(0, 2)] }, 0, 0,
     { Session.zero with state := 1, owner := 1 }, by decide +kernel⟩,
   ⟨ledgerOf { Ledger.zero with sessions := [(0, { Session.zero with state := 1, owner := 1 })] }, 0,
     { Session.zero with state := 1, owner := 1 }, by decide +kernel⟩,
   ⟨ledgerOf { Ledger.zero with sessions := [(0, { Session.zero with state := 2, owner := 1 })] }, 0, 0, Instr.claimAll 0, by
     decide +kernel, Or.inr (by decide +kernel)⟩⟩

theorem test_witness_FeedsDrainsAndCompletions :
    (∃ (s : State) (v : Invocation), s.feedNext = some v ∧ s.dict.test = none ∧ s.stackReset = false ∧ s.trust.halted = false
      ∧ s.admits 0 0 = true ∧ s.ldg.feedRec v.seqNo = none ∧ s.ldg.fits s.ldg.underway 4097 = true) ∧
    (∃ (s : State) (v : Invocation) (r : _), s.feedNext = some v ∧ s.dict.test = none ∧ s.stackReset = false ∧ s.trust.halted
      = false ∧ s.admits 0 0 = true ∧ s.ldg.feedRec v.seqNo = some r) ∧
    (∃ (s : State) (q : Nat) (k : Nat), s.run.ended = [(q, k)] ∧ s.dict.test = none ∧ s.stackReset = false ∧ s.trust.halted =
      false ∧ q ∉ s.ldg.drained ∧ s.admits 0 0 = true) ∧
    (∃ (s : State) (q : Nat) (k : Nat), s.run.ended = [(q, k)] ∧ s.dict.test = none ∧ s.stackReset = false ∧ s.trust.halted =
      false ∧ s.admits 0 0 = false) ∧
    (∃ (s : State) (q : Nat) (k : Nat), s.run.ended = [(q, k)] ∧ s.dict.test = none ∧ s.stackReset = false ∧ s.trust.halted =
      false ∧ q ∈ s.ldg.drained) ∧
    (∃ (s : State) (v : Invocation), s.issued = [v] ∧ s.dict.test = none ∧ v.start < s.acyc + 4096 ∧ v.seqNo ∉ s.ldg.fed) ∧
    (∃ (s : State) (i : Fin 4096) (x : Session) (r : Rec), s.trust.halted = false ∧ s.ldg.sess i.val = x ∧ x.recs = [r] ∧
      r.place = 0 ∧ r.close = false ∧ s.reg F.BC_ROPE_CLEAR_CLEAR < r.endAcyc) ∧
    (∃ (s : State) (i : Fin 4096) (x : Session) (r : Rec), s.trust.halted = false ∧ s.ldg.sess i.val = x ∧ x.recs = [r] ∧
      r.place = 0 ∧ r.close = false ∧ r.endAcyc ≤ s.reg F.BC_ROPE_CLEAR_CLEAR ∧ r.noToken = false ∧ r.index < x.rel ∧
      x.tokens.get 0 r.index = r.token + 1) ∧
    (∃ (s : State) (i : Fin 4096) (x : Session) (r : Rec), s.trust.halted = false ∧ s.ldg.sess i.val = x ∧ x.recs = [r] ∧
      r.place = 0 ∧ r.close = false ∧ r.endAcyc ≤ s.reg F.BC_ROPE_CLEAR_CLEAR ∧ r.noToken = false ∧ x.rel ≤ r.index ∧
      s.ldg.fits s.ldg.underway 2 = true ∧ s.reg F.HP_LINK_UP r.port = 0) ∧
    (∃ (s : State) (i : Fin 4096) (x : Session) (r : Rec) (g : Ring), s.trust.halted = false ∧ s.ldg.sess i.val = x ∧ x.recs =
      [r] ∧ r.place = 1 ∧ r.ring < 64 ∧ s.ldg.ring r.port r.ring = g ∧ g.en = true ∧ g.prod < 2 ^ 32 ∧ g.cons = g.prod ∧
      g.flying = 0 ∧ g.redo = [] ∧ 0 < g.entries ∧ r.port ∉ s.ldg.expired ∧ s.reg F.HP_LINK_UP r.port ≠ 0) ∧
    (∃ (s : State) (p : Fin 2) (k : Fin 64) (g : Ring), s.ldg.ring p.val k.val = g ∧ g.flying ≠ 0) ∧
    (∃ (s : State) (p : Fin 2) (k : Fin 64) (g : Ring), s.ldg.ring p.val k.val = g ∧ g.due = true ∧ s.msixByte p.val (16 *
      g.vector + 12) % 2 = 0) :=
  ⟨⟨{ State.reset with invq := [⟨3, 0, 5, []⟩] }, ⟨3, 0, 5, []⟩, by decide +kernel⟩,
   ⟨{ State.reset with invq := [⟨3, 0, 5, []⟩], ldg := { Ledger.zero with journal := [⟨3, 0, 3, 0, false, [5]⟩] } }, ⟨3, 0, 5,
     []⟩, ⟨3, 0, 3, 0, false, [5]⟩, by decide +kernel⟩,
   ⟨{ State.reset with run := { Run.zero with ended := [(3, 9)] } }, 3, 9, by decide +kernel⟩,
   ⟨({ State.reset with run := { Run.zero with ended := [(3, 9)] } } : State).updField 0 (fun g =>
     { g with others := [(0, 1024)] }), 3, 9, by decide +kernel⟩,
   ⟨{ State.reset with run := { Run.zero with ended := [(3, 9)] }, ldg := { Ledger.zero with drained := [3] } }, 3, 9, by
     decide +kernel⟩,
   ⟨{ State.reset with invq := [⟨3, 0, 4095, []⟩] }, ⟨3, 0, 4095, []⟩, by decide +kernel⟩,
   ⟨ledgerOf { Ledger.zero with sessions := [(0, { Session.zero with recs := [recAt 0 1] })] }, 0,
     { Session.zero with recs := [recAt 0 1] }, recAt 0 1, by decide +kernel⟩,
   ⟨ledgerOf { Ledger.zero with sessions := [(0, { Session.zero with recs := [recAt 0 0], rel := 1, tokens := [(0, 8)] })] },
     0, { Session.zero with recs := [recAt 0 0], rel := 1, tokens := [(0, 8)] }, recAt 0 0, by decide +kernel⟩,
   ⟨ledgerOf { Ledger.zero with sessions := [(0, { Session.zero with recs := [recAt 0 0] })] }, 0,
     { Session.zero with recs := [recAt 0 0] }, recAt 0 0, by decide +kernel⟩,
   ⟨(ledgerOf
     { Ledger.zero with sessions := [(0, { Session.zero with recs := [recAt 1 0] })], rings := [(0, ringFive)] }).setReg
     F.HP_LINK_UP 1, 0, { Session.zero with recs := [recAt 1 0] }, recAt 1 0, ringFive, by decide +kernel⟩,
   ⟨ledgerOf { Ledger.zero with rings := [(0, { ringFive with flying := 1 })] }, 0, 0, { ringFive with flying := 1 }, by
     decide +kernel⟩,
   ⟨ledgerOf { Ledger.zero with msix := [(12, 1)], rings := [(0, { ringFive with due := true })] }, 0, 0,
     { ringFive with due := true }, by decide +kernel⟩⟩

theorem test_witness_SpdmResponderAnswers :
    (∃ (s : State) (c : Fin 5), s.spdmUp = true ∧ (s.conn c.val).xfer = 0 ∧ (s.conn c.val).stage = 0) ∧
    (∃ (s : State) (c : Fin 5), s.spdmUp = true ∧ (s.conn c.val).xfer = 0 ∧ 1 ≤ (s.conn c.val).stage) ∧
    (∃ (s : State) (c : Fin 5), s.spdmUp = true ∧ (s.conn c.val).xfer = 0 ∧ (s.conn c.val).stage < 2) ∧
    (∃ (s : State) (c : Fin 5) (ok : Bool), s.spdmUp = true ∧ (s.conn c.val).xfer = 0 ∧ 2 ≤ (s.conn c.val).stage ∧ ok = true) ∧
    (∃ (s : State) (c : Fin 5) (ok : Bool), s.spdmUp = true ∧ (s.conn c.val).xfer = 0 ∧ 2 ≤ (s.conn c.val).stage ∧ ok = false) ∧
    (∃ (s : State) (c : Fin 5) (slot : BitVec 8) (index : BitVec 8) (off : BitVec 16) (len : BitVec 16) (o32 : BitVec 32)
      (sign : Bool) (i : Instr), s.spdmUp = true ∧ (s.conn c.val).xfer = 0 ∧ (s.conn c.val).stage < 3 ∧ i ∈ [Instr.getDigests
      c, .getCertificate c slot off len, .challenge c slot, .getMeasurements c index sign, .keyExchange c slot, .getPqCert c
      o32 len]) ∧
    (∃ (s : State) (c : Fin 5), s.spdmUp = true ∧ (s.conn c.val).xfer = 0 ∧ 3 ≤ (s.conn c.val).stage) ∧
    (∃ (s : State) (c : Fin 5) (index : BitVec 8), s.spdmUp = true ∧ (s.conn c.val).xfer = 0 ∧ 3 ≤ (s.conn c.val).stage ∧ 1 ≤
      index.toNat ∧ index.toNat ≤ 9) ∧
    (∃ (s : State) (c : Fin 5) (index : BitVec 8), s.spdmUp = true ∧ (s.conn c.val).xfer = 0 ∧ 3 ≤ (s.conn c.val).stage ∧ 9 <
      index.toNat ∧ index ≠ 0xFF) ∧
    (∃ (s : State) (c : Fin 5), s.spdmUp = true ∧ (s.conn c.val).xfer = 0 ∧ (s.conn c.val).pqSig = none) ∧
    (∃ (s : State) (c : Fin 5) (n : _), s.spdmUp = true ∧ (s.conn c.val).xfer = 0 ∧ (s.conn c.val).pqSig = some n) ∧
    (∃ (s : State) (c : Fin 5), s.spdmUp = true ∧ (s.conn c.val).xfer = 0 ∧ (s.conn c.val).session = 1) ∧
    (∃ (s : State) (c : Fin 5) (op : BitVec 8), s.spdmUp = true ∧ (s.conn c.val).xfer = 0 ∧ (s.conn c.val).session = 2 ∧ 1 ≤
      op.toNat ∧ op.toNat ≤ 2) ∧
    (∃ (s : State) (c : Fin 5) (op : BitVec 8) (ok : Bool) (i : _), s.spdmUp = true ∧ (s.conn c.val).xfer = 0 ∧ (s.conn
      c.val).session = 0 ∧ i ∈ [Instr.finish c ok, .heartbeat c, .endSession c, .keyUpdate c op]) ∧
    (∃ (s : State) (c : Fin 5), s.spdmUp = true ∧ (s.conn c.val).chunkOut ≠ []) ∧
    (∃ (s : State) (c : Fin 5), s.spdmUp = true ∧ (s.conn c.val).xfer = 42 ∧ 3 ≤ (s.conn c.val).stage) ∧
    (∃ (s : State) (p : Fin 2) (i : Fin 3), s.spdmUp = true ∧ (s.conn (3 + p.val)).session = 2 ∧ s.trust.ide.get 0 (3 * p.val
      + i.val) ≠ 0) ∧
    (∃ (s : State) (p : Fin 2) (i : Fin 3), s.spdmUp = true ∧ (s.conn (3 + p.val)).session = 2 ∧ (∀ j : Fin 3, j ≠ i →
      s.trust.ide.get 0 (3 * p.val + j.val) ≠ 2)) ∧
    (∃ (s : State), s.spdmUp = false) :=
  ⟨⟨spdmOf [], 0, by decide +kernel⟩,
   ⟨spdmOf [(0, { SpdmConn.zero with stage := 1 })], 0, by decide +kernel⟩,
   ⟨spdmOf [(0, { SpdmConn.zero with stage := 1 })], 0, by decide +kernel⟩,
   ⟨spdmOf [(0, { SpdmConn.zero with stage := 2 })], 0, true, by decide +kernel⟩,
   ⟨spdmOf [(0, { SpdmConn.zero with stage := 2 })], 0, false, by decide +kernel⟩,
   ⟨spdmOf [(0, { SpdmConn.zero with stage := 2 })], 0, 0, 0, 0, 0, 0, false, Instr.getDigests 0, by decide +kernel, by
     decide +kernel, by decide +kernel, by simp⟩,
   ⟨spdmOf [(0, { SpdmConn.zero with stage := 3 })], 0, by decide +kernel⟩,
   ⟨spdmOf [(0, { SpdmConn.zero with stage := 3 })], 0, 9, by decide +kernel⟩,
   ⟨spdmOf [(0, { SpdmConn.zero with stage := 3 })], 0, 0xFE, by decide +kernel⟩,
   ⟨spdmOf [(0, { SpdmConn.zero with stage := 3 })], 0, by decide +kernel⟩,
   ⟨spdmOf [(0, { SpdmConn.zero with stage := 3, pqSig := some 4 })], 0, 4, by decide +kernel⟩,
   ⟨spdmOf [(0, { SpdmConn.zero with stage := 3, session := 1 })], 0, by decide +kernel⟩,
   ⟨spdmOf [(0, { SpdmConn.zero with stage := 3, session := 2 })], 0, 2, by decide +kernel⟩,
   ⟨spdmOf [(0, { SpdmConn.zero with stage := 3 })], 0, 0, false, Instr.heartbeat 0, by decide +kernel, by decide +kernel, by
     decide +kernel, by simp⟩,
   ⟨spdmOf [(0, { SpdmConn.zero with stage := 3, chunkOut := [5] })], 0, by decide +kernel⟩,
   ⟨spdmOf [(0, { SpdmConn.zero with stage := 3, xfer := 42 })], 0, by decide +kernel⟩,
   ⟨{ regsOf [(F.BC_BOOT_STAGE, 0, 2)] with trust := { Trust.zero with conns := [(3, { SpdmConn.zero with stage := 3, session := 2 })], ide := [(0, 1)] } },
     0, 0, by decide +kernel⟩,
   ⟨spdmOf [(3, { SpdmConn.zero with stage := 3, session := 2 })], 0, 0, by decide +kernel⟩,
   ⟨State.reset, by decide +kernel⟩⟩

theorem test_witness_OwnerCommandsActOrAreDenied :
    (∃ (s : State) (a : OwnerAuth), s.unowned = true ∧ s.crocus = true ∧ s.ownerFresh a = true) ∧
    (∃ (s : State) (a : OwnerAuth) (k : Fin 4) (roles : BitVec 3), s.ownerOk a = true ∧ (bitOf roles.toNat 0 = true ∨
      s.hasRole k.val 0 = false ∨ ∃ j, j < 4 ∧ j ≠ k.val ∧ s.hasRole j 0 = true)) ∧
    (∃ (s : State) (a : OwnerAuth), s.ownerOk a = true) ∧
    (∃ (s : State) (a : OwnerAuth) (k : Fin 4) (keys : BitVec 384) (roles : BitVec 3) (c : Instr), ((c = .take a keys ∧
      (s.unowned = false ∨ s.crocus = false ∨ s.ownerFresh a = false)) ∨ (c ∈ [Instr.setSlot a k keys roles, .revoke a k,
      .advanceSvn a, .release a] ∧ s.ownerOk a = false) ∨ (c = .setSlot a k keys roles ∧ bitOf roles.toNat 0 = false ∧
      s.hasRole k.val 0 = true ∧ ∀ j, j < 4 → j ≠ k.val → s.hasRole j 0 = false))) :=
  ⟨⟨State.reset, ⟨0, 0, true, 0, 0⟩, by decide +kernel⟩,
   ⟨{ State.reset with trust := { Trust.zero with slots := [(0, ⟨1, 5, 1⟩)] } }, ⟨0, 0, true, 0, 0⟩, 0, 1, by decide +kernel,
     Or.inl (by decide)⟩,
   ⟨{ State.reset with trust := { Trust.zero with slots := [(0, ⟨1, 5, 1⟩)] } }, ⟨0, 0, true, 0, 0⟩, by decide +kernel⟩,
   ⟨{ State.reset with trust := { Trust.zero with slots := [(0, ⟨1, 5, 1⟩)] } }, ⟨0, 0, true, 0, 0⟩, 0, 0, 0, Instr.take ⟨0,
     0, true, 0, 0⟩ 0, Or.inl ⟨rfl, Or.inl (by decide +kernel)⟩⟩⟩

theorem test_witness_SealedSessionsAreOfferedAndOpened :
    (∃ (s : State) (i : Fin 4096) (stage : BitVec 30), s.stackReset = false ∧ 64 * stage.toNat + 4688 ≤ s.stagingSize ∧
      (s.ldg.sess i.val).state = 0 ∧ s.offerOf i.val = none) ∧
    (∃ (s : State) (i : Fin 4096) (stage : BitVec 30), s.stackReset = false ∧ 64 * stage.toNat + 4688 ≤ s.stagingSize ∧
      (s.ldg.sess i.val).state ≠ 0) ∧
    (∃ (s : State) (u : State) (i : Fin 4096) (stage : BitVec 30) (ups : List (Addr × Upset)) (o : _) (okm : _), u = s.upsets
      ups ∧ u.openKeys i.val (64 * stage.toNat) = some (o, okm)) ∧
    (∃ (s : State) (u : State) (i : Fin 4096) (stage : BitVec 30) (ups : List (Addr × Upset)), u = s.upsets ups ∧ u.openKeys
      i.val (64 * stage.toNat) = none) ∧
    (∃ (s : State) (i : Fin 4096) (o : _), (s.ldg.sess i.val).offer = some o ∧ s.ref < o.ends) ∧
    (∃ (s : State) (i : Fin 4096) (o : _), (s.ldg.sess i.val).offer = some o ∧ o.ends ≤ s.ref) :=
  ⟨⟨State.reset, 0, 0, by decide +kernel⟩,
   ⟨ledgerOf { Ledger.zero with sessions := [(0, { Session.zero with state := 1 })] }, 0, 0, by decide +kernel⟩,
   some_open_seals.elim (fun u h => h.elim (fun o h => h.elim (fun okm h => ⟨u, u, 0, 0, [], o, okm, rfl, h⟩))),
   ⟨State.reset, State.reset, 0, 0, [], rfl, by decide +kernel⟩,
   ⟨ledgerOf { Ledger.zero with sessions := [(0, { Session.zero with offer := some ⟨1, 5, [], 0, 0⟩ })] }, 0, ⟨1, 5, [], 0,
     0⟩, by decide +kernel⟩,
   ⟨ledgerOf { Ledger.zero with sessions := [(0, { Session.zero with offer := some ⟨1, 0, [], 0, 0⟩ })] }, 0, ⟨1, 0, [], 0,
     0⟩, by decide +kernel⟩⟩

theorem test_witness_DebugIsUnlockedAndClosed :
    (∃ (s : State) (k : DebugToken), s.tokenOk k = true ∧ s.sourceLevel 5 < 4) ∧
    (∃ (s : State) (k : DebugToken), s.tokenOk k = false) ∧
    (∃ (s : State), s.trust.scanning = [] ∧ s.reg F.BC_TRUST_STATUS_DEBUG = 1) ∧
    (∃ (s : State) (e : _), s.trust.scanning = [] ∧ s.trust.unlockEnd = some e ∧ s.ref < e) ∧
    (∃ (s : State) (e : _), s.trust.scanning = [] ∧ s.trust.unlockEnd = some e ∧ e ≤ s.ref) ∧
    (∃ (s : State), s.reg F.BC_TRUST_STATUS_DEBUG = 0) ∧
    (∃ (s : State) (e : Nat), s.trust.nonceEnd = some e ∧ s.ref < e) ∧
    (∃ (s : State) (e : Nat), s.trust.nonceEnd = some e ∧ e ≤ s.ref) :=
  ⟨⟨{ State.reset with trust := { Trust.zero with nonceEnd := some 5 } }, ⟨0, none, true, 0, 0, 1, 60⟩, by decide +kernel⟩,
   ⟨State.reset, ⟨0, none, true, 0, 0, 1, 60⟩, by decide +kernel⟩,
   ⟨regsOf [(F.BC_TRUST_STATUS_DEBUG, 0, 1)], by decide +kernel⟩,
   ⟨{ State.reset with trust := { Trust.zero with unlockEnd := some 5 } }, 5, by decide +kernel⟩,
   ⟨{ State.reset with trust := { Trust.zero with unlockEnd := some 0 } }, 0, by decide +kernel⟩,
   ⟨State.reset, by decide +kernel⟩,
   ⟨{ State.reset with trust := { Trust.zero with nonceEnd := some 5 } }, 5, by decide +kernel⟩,
   ⟨{ State.reset with trust := { Trust.zero with nonceEnd := some 0 } }, 0, by decide +kernel⟩⟩

theorem test_witness_RegisterWritesFollowTheirAccessCodes :
    (∃ (s : State), s.rst.active = false) ∧
    (∃ (off : BitVec 25), (off.toNat % 8 ≠ 0 ∨ off ∈ [0x2D0000, 0x1000000, 0x1FFFFF8])) ∧
    (∃ (s : State), s.rst.active = true ∧ s.rst.all = true ∧ 3 ≤ s.rst.level ∧ s.rst.step < firstStep 3) :=
  ⟨⟨State.reset, by decide +kernel⟩,
   ⟨0x2D0000, Or.inr (by decide)⟩,
   ⟨{ State.reset with rst := { Rst.zero with active := true, all := true, level := 3, step := 0 } }, by decide +kernel⟩⟩

end Sys2Proof.Tests
end

/-!
PROOFS. The statements of spec 00_scope: which parts of the state a command may change, and what reset leaves in each part.
-/

namespace Sys2Proof.Machine

/-! ### Lists of parts as masks -/

/-- The mask of a list of parts: the bits of the parts in the list, and no other. -/
def Part.maskOf (l : List Part) : Nat := l.foldr (fun p m => 2 ^ p.bit ||| m) 0

/-- `Part.every` lists each part at the place that is its bit. -/
theorem Part.every_getElem?_bit (p : Part) : Part.every[p.bit]? = some p := by
  cases p <;> rfl

theorem Part.bit_injective : Function.Injective Part.bit := fun p q h =>
  Option.some.inj <| by rw [← p.every_getElem?_bit, h, q.every_getElem?_bit]

theorem Part.testBit_maskOf (l : List Part) (p : Part) : (Part.maskOf l).testBit p.bit = true ↔ p ∈ l := by
  induction l with
  | nil => simp [Part.maskOf]
  | cons q l ih =>
    have hcons : Part.maskOf (q :: l) = 2 ^ q.bit ||| Part.maskOf l := rfl
    have hbit : q.bit = p.bit ↔ p = q := Part.bit_injective.eq_iff.trans eq_comm
    simp [hcons, Nat.testBit_or, Nat.testBit_two_pow, ih, hbit]

/-- Two states that differ in the mask of a list of parts only differ in the listed parts only. -/
theorem onlyParts_of_maskOf (l : List Part) (s t : State) (h : t.mask (Part.maskOf l) = s.mask (Part.maskOf l)) :
    s.onlyParts t l := by
  refine onlyParts_of_mask (Part.maskOf l) l s t h (List.all_eq_true.2 fun p _ => ?_)
  by_cases hp : p ∈ l
  · simp [hp]
  · have hbit := (Part.testBit_maskOf l p).not.2 hp
    rw [Nat.testBit_eq_decide_div_mod_eq, decide_eq_true_iff] at hbit
    have hzero : Part.maskOf l / 2 ^ p.bit % 2 = 0 := by omega
    simp [hzero]

/-! ### Every command -/

/-- Each command keeps the parts that `Instr.parts` does not list for it. The lemma about its meaning gives the parts that the
meaning can change as a mask, and checks by `decide` that this mask lies in the mask of the list. -/
theorem exec_keeps_parts (c : Instr) (s : State) : Keeps (Part.maskOf c.parts) s (exec c s) := by
  cases c with dsimp only [Instr.parts]
  | por latched => exact execPor_parts latched s
  | bor => exact execBor_parts s
  | brownOutWarning v => exact execBrownOutWarning_parts v s
  | brownOutClear => exact execBrownOutClear_parts s
  | pwrOverLimit total fields => exact execPwrOverLimit_parts total fields s
  | modResetNLow => exact execModResetNLow_parts s
  | modResetNHigh => exact execModResetNHigh_parts s
  | pwrEnLow => exact execPwrEnLow_parts s
  | pwrEnHigh leakLow => exact execPwrEnHigh_parts leakLow s
  | leakResponse => exact execLeakResponse_parts s
  | cltFlowLow => exact execCltFlowLow_parts s
  | flowLowTrip => exact execFlowLowTrip_parts s
  | flowPdoTimeout => exact execFlowPdoTimeout_parts s
  | cltRate => exact execCltRate_parts s
  | diodeSample temps => exact execDiodeSample_parts temps s
  | stepdownEscalate => exact execStepdownEscalate_parts s
  | thermalStageLeave stage => exact execThermalStageLeave_parts stage s
  | fieldReturn f => exact execFieldReturn_parts f s
  | clearTrip => exact execClearTrip_parts s
  | pwrRailFail rail f => exact execPwrRailFail_parts rail f s
  | railPowerGood good => exact execRailPowerGood_parts good s
  | fieldWake => exact execFieldWake_parts s
  | mrefSwitch src port ready => exact execMrefSwitch_parts src port ready s
  | mrefFail => exact execMrefFail_parts s
  | fieldPllUnlock f => exact execFieldPllUnlock_parts f s
  | modulePllUnlock link => exact execModulePllUnlock_parts link s
  | fieldPllLock f => exact execFieldPllLock_parts f s
  | rstReleaseStall f => exact execRstReleaseStall_parts f s
  | dividerStep => exact execDividerStep_parts s
  | hostreq v => exact execHostreq_parts v s
  | wdt => exact execWdt_parts s
  | stall f => exact execStall_parts f s
  | pairDisagree => exact execPairDisagree_parts s
  | bcpair => exact execBcpair_parts s
  | takeover => exact execTakeover_parts s
  | pairSelfTestDone k pass => exact execPairSelfTestDone_parts k pass s
  | testStandby => exact execTestStandby_parts s
  | swap => exact execSwap_parts s
  | reset level force => exact execReset_parts level force s
  | hold level force => exact execHold_parts level force s
  | rstRelease => exact execRstRelease_parts s
  | minHoldEnd => exact execMinHoldEnd_parts s
  | releaseStep ready sel => exact execReleaseStep_parts ready sel s
  | startupStage io => exact execStartupStage_parts io s
  | recoveryStatus => exact execRecoveryStatus_parts s
  | recoveryWrite off data => exact execRecoveryWrite_parts off data s
  | recoveryCommit w => exact execRecoveryCommit_parts w s
  | bloomCheck a good => exact execBloomCheck_parts a good s
  | firmwareUpdate off w => exact execFirmwareUpdate_parts off w s
  | sdoRequest frame => exact execSdoRequest_parts frame s
  | sdoTimeout udp => exact execSdoTimeout_parts udp s
  | udpDatagram source recs => exact execUdpDatagram_parts source recs s
  | dictRead i3c ix sub => exact execDictRead_parts i3c ix sub s
  | dictWrite i3c ix sub data => exact execDictWrite_parts i3c ix sub data s
  | dictNext i3c ix sub => exact execDictNext_parts i3c ix sub s
  | odRead port ix sub => exact execOdRead_parts port ix sub s
  | odWrite port ix sub len => exact execOdWrite_parts port ix sub len s
  | odNext port ix sub => exact execOdNext_parts port ix sub s
  | mgmt => exact execMgmt_parts s
  | nmtStart => exact execNmtStart_parts s
  | nmtStop => exact execNmtStop_parts s
  | enterPreOperational => exact execEnterPreOperational_parts s
  | resetNode => exact execResetNode_parts s
  | resetCommunication => exact execResetCommunication_parts s
  | nmtAutostart => exact execNmtAutostart_parts s
  | rpdo1 data => exact execRpdo1_parts data s
  | tpdo1 outlet => exact execTpdo1_parts outlet s
  | tpdo2 volts amps => exact execTpdo2_parts volts amps s
  | producerHeartbeat => exact execProducerHeartbeat_parts s
  | flowDemand watts => exact execFlowDemand_parts watts s
  | save => exact execSave_parts s
  | load => exact execLoad_parts s
  | profileSwitchPending n => exact execProfileSwitchPending_parts n s
  | profileSwitchImmediate n => exact execProfileSwitchImmediate_parts n s
  | apply => exact execApply_parts s
  | standaloneTest ix ok tenant plain => exact execStandaloneTest_parts ix ok tenant plain s
  | burnIn ix secs d2 ok tenant plain => exact execBurnIn_parts ix secs d2 ok tenant plain s
  | install len sigOk unwrapOk tagOk plain => exact execInstall_parts len sigOk unwrapOk tagOk plain s
  | installCommit => exact execInstallCommit_parts s
  | remove => exact execRemove_parts s
  | holdOut f => exact execHoldOut_parts f s
  | return_ f => exact execReturn_parts f s
  | returnComplete f => exact execReturnComplete_parts f s
  | invocationIssue e start now ups => exact execInvocationIssue_parts e start now ups s
  | invocationStart streams => exact execInvocationStart_parts streams s
  | sectionSwitch => exact execSectionSwitch_parts s
  | armedStart a => exact execArmedStart_parts a s
  | bundleIssue a ups => exact execBundleIssue_parts a ups s
  | nextBufferWrite a => exact execNextBufferWrite_parts a s
  | vuResultLanding a => exact execVuResultLanding_parts a s
  | injectAvailable a => exact execInjectAvailable_parts a s
  | srdLanding a => exact execSrdLanding_parts a s
  | sldLanding a => exact execSldLanding_parts a s
  | wordArrival a port hop late => exact execWordArrival_parts a port hop late s
  | arm a => exact execArm_parts a s
  | halt a => exact execHalt_parts a s
  | scrub a => exact execScrub_parts a s
  | zeroize a => exact execZeroize_parts a s
  | scrubDone a ups => exact execScrubDone_parts a ups s
  | run a => exact execRun_parts a s
  | ccHalt a => exact execCcHalt_parts a s
  | restart a => exact execRestart_parts a s
  | ccDispatch a => exact execCcDispatch_parts a s
  | coreInstruction a => exact execCoreInstruction_parts a s
  | schCoreLockup a => exact execSchCoreLockup_parts a s
  | tsSend a => exact execTsSend_parts a s
  | tsReply a stuck => exact execTsReply_parts a stuck s
  | tsYield a => exact execTsYield_parts a s
  | tsCppost a => exact execTsCppost_parts a s
  | tsHget a => exact execTsHget_parts a s
  | tsHset a => exact execTsHset_parts a s
  | tsHld a ups => exact execTsHld_parts a ups s
  | tsHst a ups => exact execTsHst_parts a ups s
  | packetHop k errs => exact execPacketHop_parts k errs s
  | unicast k => exact execUnicast_parts k s
  | ack k => exact execAck_parts k s
  | busy k => exact execBusy_parts k s
  | busyBackoff a => exact execBusyBackoff_parts a s
  | reply k => exact execReply_parts k s
  | msgSendTimeout a => exact execMsgSendTimeout_parts a s
  | msgReplyTimeout a slot => exact execMsgReplyTimeout_parts a slot s
  | slotQuarantineEnd a slot => exact execSlotQuarantineEnd_parts a slot s
  | read a addr n => exact execRead_parts a addr n s
  | write a addr data => exact execWrite_parts a addr data s
  | test a number => exact execTest_parts a number s
  | rect a b test addr data => exact execRect_parts a b test addr data s
  | refreshWindow f ups => exact execRefreshWindow_parts f ups s
  | autonomousRefresh f ups => exact execAutonomousRefresh_parts f ups s
  | forcedRefresh f => exact execForcedRefresh_parts f s
  | nonscheduledBeat f cls => exact execNonscheduledBeat_parts f cls s
  | apertureRead port off n ups => exact execApertureRead_parts port off n ups s
  | apertureWrite port off data => exact execApertureWrite_parts port off data s
  | apertureTimeout port write => exact execApertureTimeout_parts port write s
  | portEnable p en => exact execPortEnable_parts p en s
  | loop p on => exact execLoop_parts p on s
  | train p => exact execTrain_parts p s
  | holdDown p => exact execHoldDown_parts p s
  | retrain p => exact execRetrain_parts p s
  | signalDetect p => exact execSignalDetect_parts p s
  | laneQualify p good => exact execLaneQualify_parts p good s
  | trainTimeout p => exact execTrainTimeout_parts p s
  | trainRetry p => exact execTrainRetry_parts p s
  | map p nport ncoord => exact execMap_parts p nport ncoord s
  | frameLock p => exact execFrameLock_parts p s
  | keySessionEstablished p session accepted => exact execKeySessionEstablished_parts p session accepted s
  | baseLatencyAgreed p rtt base fibre => exact execBaseLatencyAgreed_parts p rtt base fibre s
  | frameLockLoss p => exact execFrameLockLoss_parts p s
  | laneFail p lane => exact execLaneFail_parts p lane s
  | lane p => exact execLane_parts p s
  | laneSwap p => exact execLaneSwap_parts p s
  | frameReceive p f corr uncorr tagOk => exact execFrameReceive_parts p f corr uncorr tagOk s
  | frameTransmit p => exact execFrameTransmit_parts p s
  | scheduledRecord p => exact execScheduledRecord_parts p s
  | hxSchedOverrate p => exact execHxSchedOverrate_parts p s
  | recordArrival p => exact execRecordArrival_parts p s
  | recordLanding p => exact execRecordLanding_parts p s
  | schLateLanding p t => exact execSchLateLanding_parts p t s
  | dynamicPacket p vn => exact execDynamicPacket_parts p vn s
  | mail => exact execMail_parts s
  | rwrite admitted => exact execRwrite_parts admitted s
  | rread admitted => exact execRread_parts admitted s
  | mailDone => exact execMailDone_parts s
  | rwriteDone => exact execRwriteDone_parts s
  | rreadData => exact execRreadData_parts s
  | error => exact execError_parts s
  | dynamicRequestTimeout id => exact execDynamicRequestTimeout_parts id s
  | privilegedCell p vc => exact execPrivilegedCell_parts p vc s
  | spdm p => exact execSpdm_parts p s
  | probe p => exact execProbe_parts p s
  | form aovr anchor => exact execForm_parts aovr anchor s
  | stop => exact execStop_parts s
  | leave => exact execLeave_parts s
  | prepareDone mref => exact execPrepareDone_parts mref s
  | join => exact execJoin_parts s
  | formTimeout => exact execFormTimeout_parts s
  | start slack => exact execStart_parts slack s
  | ropeStart => exact execRopeStart_parts s
  | timeSend => exact execTimeSend_parts s
  | time => exact execTime_parts s
  | timeMissing => exact execTimeMissing_parts s
  | epochBoundary => exact execEpochBoundary_parts s
  | mark => exact execMark_parts s
  | invoke => exact execInvoke_parts s
  | request => exact execRequest_parts s
  | announce => exact execAnnounce_parts s
  | capturePoint => exact execCapturePoint_parts s
  | captureComplete => exact execCaptureComplete_parts s
  | commit => exact execCommit_parts s
  | upReport => exact execUpReport_parts s
  | up => exact execUp_parts s
  | memberLost => exact execMemberLost_parts s
  | clearBroadcast => exact execClearBroadcast_parts s
  | clear => exact execClear_parts s
  | abort => exact execAbort_parts s
  | rprMigrated f => exact execRprMigrated_parts f s
  | restoreComplete csum => exact execRestoreComplete_parts csum s
  | hopSend p => exact execHopSend_parts p s
  | hop => exact execHop_parts s
  | crnMissing p => exact execCrnMissing_parts p s
  | sumSend => exact execSumSend_parts s
  | sum => exact execSum_parts s
  | fault => exact execFault_parts s
  | shortWaitExpiry => exact execShortWaitExpiry_parts s
  | anchorLost => exact execAnchorLost_parts s
  | belaySample f row found => exact execBelaySample_parts f row found s
  | belayCompare f row cut t1 t2 cc => exact execBelayCompare_parts f row cut t1 t2 cc s
  | perstN port low => exact execPerstN_parts port low s
  | hotReset port => exact execHotReset_parts port s
  | flr port => exact execFlr_parts port s
  | pcieLinkUp port rate width => exact execPcieLinkUp_parts port rate width s
  | hpLinkDown port => exact execHpLinkDown_parts port s
  | postingMapWrite port off data => exact execPostingMapWrite_parts port off data s
  | bar2Write port off data ideBad => exact execBar2Write_parts port off data ideBad s
  | ringEnable port k => exact execRingEnable_parts port k s
  | consWrite port k v => exact execConsWrite_parts port k v s
  | intakeTick ups => exact execIntakeTick_parts ups s
  | leaseExpiry port => exact execLeaseExpiry_parts port s
  | acceptance => exact execAcceptance_parts s
  | mirrorReadback ok => exact execMirrorReadback_parts ok s
  | feedWrite => exact execFeedWrite_parts s
  | drainRead => exact execDrainRead_parts s
  | ldgFeedLate => exact execLdgFeedLate_parts s
  | completionWrite n => exact execCompletionWrite_parts n s
  | completionWriteDone port k => exact execCompletionWriteDone_parts port k s
  | msixCoalesce port k => exact execMsixCoalesce_parts port k s
  | renew port => exact execRenew_parts port s
  | claim port => exact execClaim_parts port s
  | claimAll port => exact execClaimAll_parts port s
  | getVersion c => exact execGetVersion_parts c s
  | getCapabilities c limit => exact execGetCapabilities_parts c limit s
  | negotiateAlgorithms c ok => exact execNegotiateAlgorithms_parts c ok s
  | getDigests c => exact execGetDigests_parts c s
  | getCertificate c slot off len => exact execGetCertificate_parts c slot off len s
  | challenge c slot => exact execChallenge_parts c slot s
  | getMeasurements c index sign => exact execGetMeasurements_parts c index sign s
  | keyExchange c slot => exact execKeyExchange_parts c slot s
  | finish c ok => exact execFinish_parts c ok s
  | keyUpdate c op => exact execKeyUpdate_parts c op s
  | heartbeat c => exact execHeartbeat_parts c s
  | endSession c => exact execEndSession_parts c s
  | chunkSend c data last q => exact execChunkSend_parts c data last q s
  | chunkGet c => exact execChunkGet_parts c s
  | getPqCert c off len => exact execGetPqCert_parts c off len s
  | getPqSig c => exact execGetPqSig_parts c s
  | ideKm port m => exact execIdeKm_parts port m s
  | take a keys => exact execTake_parts a keys s
  | setSlot a k keys roles => exact execSetSlot_parts a k keys roles s
  | revoke a k => exact execRevoke_parts a k s
  | advanceSvn a => exact execAdvanceSvn_parts a s
  | release a => exact execRelease_parts a s
  | offer n stage => exact execOffer_parts n stage s
  | open_ n stage ups => exact execOpen_parts n stage ups s
  | abandon n => exact execAbandon_parts n s
  | offerExpiry n => exact execOfferExpiry_parts n s
  | debugChallenge => exact execDebugChallenge_parts s
  | unlock t => exact execUnlock_parts t s
  | relock => exact execRelock_parts s
  | unlockExpiry => exact execUnlockExpiry_parts s
  | faultReport persist => exact execFaultReport_parts persist s
  | logbookFlush => exact execLogbookFlush_parts s
  | eccCeRate f key rise => exact execEccCeRate_parts f key rise s
  | retest px py => exact execRetest_parts px py s
  | retestResult f key fails => exact execRetestResult_parts f key fails s
  | markDead px py => exact execMarkDead_parts px py s
  | clearReplan f => exact execClearReplan_parts f s
  | surveyDue f => exact execSurveyDue_parts f s
  | startPass f => exact execStartPass_parts f s
  | surveySlice f fails => exact execSurveySlice_parts f fails s
  | svyOverdue f => exact execSvyOverdue_parts f s
  | full f => exact execFull_parts f s
  | abandonFull f => exact execAbandonFull_parts f s
  | fullSurveyDone f fails => exact execFullSurveyDone_parts f fails s
  | histogramSample f => exact execHistogramSample_parts f s
  | hxHistogramSample => exact execHxHistogramSample_parts s
  | telClear f => exact execTelClear_parts f s
  | currentHistoryAdvance amps mj => exact execCurrentHistoryAdvance_parts amps mj s
  | telHistSel rail f => exact execTelHistSel_parts rail f s
  | ppsEdge => exact execPpsEdge_parts s
  | surveyRead port view off n ups => exact execSurveyRead_parts port view off n ups s
  | surveyWrite view off data => exact execSurveyWrite_parts view off data s
  | surveyTimeout port view write => exact execSurveyTimeout_parts port view write s
  | idcode => exact execIdcode_parts s
  | bypass => exact execBypass_parts s
  | ijtagRead ix => exact execIjtagRead_parts ix s
  | ijtagRw u => exact execIjtagRw_parts u s
  | bcHalt => exact execBcHalt_parts s
  | tileScan f => exact execTileScan_parts f s
  | tileScanEnd f => exact execTileScanEnd_parts f s
  | registerWrite port off data wide ideBad => exact execRegisterWrite_parts port off data wide ideBad s
  | invocationEnd => exact execInvocationEnd_parts s
  | debugNonceExpiry => exact execDebugNonceExpiry_parts s
  | standbyFlowWarning => exact execStandbyFlowWarning_parts s

/-- Settles O3: what a command keeps by the mask of its list, it keeps part by part. -/
theorem everyCommandChangesOnlyItsParts : Obligations.EveryCommandChangesOnlyItsParts := by
  intro c s t hexec
  have hkeeps := exec_keeps_parts c s
  rw [hexec, keeps_next] at hkeeps
  exact onlyParts_of_maskOf c.parts s t hkeeps

/-! ### The state after reset -/

/-- A register file that lists nothing reads every field as its reset value (R13). -/
theorem RegFile.get_nil (f : Fld) (i j : Nat) : RegFile.get [] f i j = f.rst := rfl

theorem State.reset_reg (f : Fld) (i j : Nat) : State.reset.reg f i j = f.rst := RegFile.get_nil f i j

theorem State.reset_sess (i : Nat) : State.reset.ldg.sess i = Session.zero := rfl

theorem State.reset_unowned : State.reset.unowned = true := by decide

theorem State.reset_ownersLegal : State.reset.ownersLegal = true := rfl

theorem State.reset_memWf : State.reset.memWf = true := rfl

/-- Settles O6: nothing is listed at reset, so every register field and session reads as its start value. -/
theorem resetLeavesEveryPartAtItsStartValue : Obligations.ResetLeavesEveryPartAtItsStartValue := by
  refine ⟨State.reset_reg, fun i => ?_, ?_⟩
  · rw [State.reset_sess]
    exact ⟨rfl, rfl, rfl, rfl, rfl⟩
  · exact ⟨rfl, rfl, rfl, rfl, rfl, rfl, rfl, rfl, rfl, rfl, State.reset_unowned, State.reset_ownersLegal, State.reset_memWf⟩

end Sys2Proof.Machine

/-!
PROOFS. The statements of spec 01_module: the 48 V input, the pins, and the stages of start-up.
-/

namespace Sys2Proof.Machine

/-! ### One part of two states that agree under a mask -/

/-- A part whose bit a mask does not have is the same in two states where the masked states are. -/
theorem Part.same_of_mask (p : Part) {m : Nat} {s t : State} (h : t.mask m = s.mask m)
    (hp : m / 2 ^ p.bit % 2 = 0) : p.same s t := by
  refine onlyParts_of_mask m (Part.every.filter (· ≠ p)) s t h (List.all_eq_true.2 fun q hq => ?_) p (by simp)
  by_cases hqp : q = p
  · simp [hqp, hp]
  · simp [hq, hqp]

theorem State.updPorts_parts (g : HxPort → HxPort) (l : List Nat) (s : State) :
    (l.foldl (fun s p => s.updPort p g) s).mask 131072 = s.mask 131072 :=
  mask_foldl _ _ (fun s p => State.updPort_parts s p g) l s

theorem State.portsDown_parts (l : List Nat) (s : State) :
    (l.foldl (fun s p => s.portDown p) s).mask 33964056 = s.mask 33964056 :=
  mask_foldl _ _ (fun s p => State.portDown_parts s p) l s

/-! ### What the register file lists under a key

A register field reads what the file lists under its key. The lemmas of this and the next sections say which keys an operation
leaves alone, by a bound on the offsets of the registers that it writes. -/

theorem State.reg_of_listed {s t : State} {f : Fld} {i j : Nat}
    (h : SMap.get 0 t.regs (f.key i j) = SMap.get 0 s.regs (f.key i j)) : t.reg f i j = s.reg f i j := by
  unfold State.reg RegFile.get
  rw [h]

theorem State.listed_of_mask {m : Nat} {s t : State} (k : Nat) (h : t.mask m = s.mask m)
    (hm : m / 2 ^ Part.regs.bit % 2 = 0 := by decide) : SMap.get 0 t.regs k = SMap.get 0 s.regs k :=
  congrArg (SMap.get 0 · k) (Part.same_of_mask .regs h hm)

theorem State.reg_of_mask {m : Nat} {s t : State} (f : Fld) (i j : Nat) (h : t.mask m = s.mask m)
    (hm : m / 2 ^ Part.regs.bit % 2 = 0 := by decide) : t.reg f i j = s.reg f i j :=
  State.reg_of_listed (State.listed_of_mask _ h hm)

theorem State.listed_ite (k : Nat) (c : Prop) [Decidable c] (a b : State) :
    SMap.get 0 (if c then a else b).regs k = if c then SMap.get 0 a.regs k else SMap.get 0 b.regs k := by
  split <;> rfl

theorem State.listed_foldl {α : Type} {k : Nat} {g : State → α → State}
    (h : ∀ s x, SMap.get 0 (g s x).regs k = SMap.get 0 s.regs k) (l : List α) (s : State) :
    SMap.get 0 (l.foldl g s).regs k = SMap.get 0 s.regs k := foldl_keeps (fun t => SMap.get 0 t.regs k) g h l s

/-- No copy of a field lies below its first register. -/
theorem Fld.le_key (f : Fld) (i j : Nat) : 64 * f.base ≤ f.key i j := by
  unfold Fld.key
  omega

theorem State.setReg_listed {k : Nat} (s : State) (f : Fld) (v i j : Nat) (h : k < 64 * f.base) :
    SMap.get 0 (s.setReg f v i j).regs k = SMap.get 0 s.regs k :=
  SMap.get_set_other _ _ _ _ _ (h.trans_le (f.le_key i j)).ne

theorem State.satReg_listed {k : Nat} (s : State) (f : Fld) (i n : Nat) (h : k < 64 * f.base) :
    SMap.get 0 (s.satReg f i n).regs k = SMap.get 0 s.regs k := State.setReg_listed _ _ _ _ _ h

theorem State.addReg_listed {k : Nat} (s : State) (f : Fld) (i n : Nat) (h : k < 64 * f.base) :
    SMap.get 0 (s.addReg f i n).regs k = SMap.get 0 s.regs k := State.setReg_listed _ _ _ _ _ h

/-- A key that passes the test of a removal reads as before. -/
theorem SMap.get_keep_of {α : Type} (d : α) (m : SMap α) (p : Nat → Bool) (k : Nat) (h : p k = true) :
    SMap.get d (SMap.keep m p) k = SMap.get d m k := by
  induction m with
  | nil => rfl
  | cons e r ih =>
    obtain ⟨i, v⟩ := e
    by_cases hi : k = i
    · subst hi; simp [SMap.keep, SMap.get, h]
    · cases hp : p i <;> simpa [SMap.keep, SMap.get, hi, hp] using ih

theorem RegFile.listed_resetRegs (m : RegFile) (gone : Nat → Bool) (k : Nat) (h : gone k = false) :
    SMap.get 0 (m.resetRegs gone) k = SMap.get 0 m k := SMap.get_keep_of _ _ _ _ (by simp [h])

theorem State.ringFlow_listed (k : Nat) (s : State) (stop ch : Nat) :
    SMap.get 0 (s.ringFlow stop ch).regs k = SMap.get 0 s.regs k :=
  State.listed_of_mask k (State.ringFlow_parts (M := 262144) ..)

theorem State.updPorts_listed (k : Nat) (g : HxPort → HxPort) (l : List Nat) (s : State) :
    SMap.get 0 (l.foldl (fun s p => s.updPort p g) s).regs k = SMap.get 0 s.regs k :=
  State.listed_of_mask k (State.updPorts_parts g l s)

theorem State.restartKeys_listed (k : Nat) (s : State) (t : Nat) :
    SMap.get 0 (s.restartKeys t).regs k = SMap.get 0 s.regs k :=
  State.listed_of_mask k (State.restartKeys_parts (M := 131072) s t)

theorem State.bcResume_listed (k : Nat) (s : State) : SMap.get 0 s.bcResume.regs k = SMap.get 0 s.regs k :=
  State.listed_of_mask k (State.bcResume_parts (M := 12582912) s)

/-! ### The Hexkel ports and the transit ring write no register below the HX registers -/

section Ring
variable {k : Nat} (hk : k < 64 * 0xC0000)
include hk

theorem State.routeErr_listed (s : State) (p : Nat) : SMap.get 0 (s.routeErr p).regs k = SMap.get 0 s.regs k :=
  State.satReg_listed _ _ _ _ (hk.trans_le (by decide))

theorem State.passed_listed (s : State) (stop : Nat) : SMap.get 0 (s.passed stop).regs k = SMap.get 0 s.regs k := by
  unfold State.passed
  split
  · exact State.addReg_listed _ _ _ _ (hk.trans_le (by decide))
  · rfl

theorem State.ringDrop_listed (s : State) (stop : Nat) : SMap.get 0 (s.ringDrop stop).regs k = SMap.get 0 s.regs k := by
  unfold State.ringDrop
  split
  · exact State.satReg_listed _ _ _ _ (hk.trans_le (by decide))
  · rfl

theorem State.replyPut_listed (s : State) (stop : Nat) (d : Dyn) :
    SMap.get 0 (s.replyPut stop d).regs k = SMap.get 0 s.regs k := by
  unfold State.replyPut
  split
  · exact State.listed_of_mask k (State.ringPut_parts (M := 262144) ..)
  · exact State.listed_of_mask k (State.ringPut_parts (M := 262144) ..)
  · rw [State.ringDrop_listed hk, State.routeErr_listed hk]

theorem State.answerPut_listed (s : State) (d : Dyn) (op status : Nat) (payload : List Nat) :
    SMap.get 0 (s.answerPut d op status payload).regs k = SMap.get 0 s.regs k := State.replyPut_listed hk ..

theorem State.ringLeave_listed (s : State) (x : RingItem) :
    SMap.get 0 (s.ringLeave x).regs k = SMap.get 0 s.regs k := by
  unfold State.ringLeave
  (repeat' split) <;>
    simp only [State.passed_listed hk, State.answerPut_listed hk, State.ringDrop_listed hk, State.routeErr_listed hk]
  exact State.listed_of_mask k (State.enqueue_parts (M := 131072) ..)

theorem State.ringMove_listed (s : State) (x : RingItem) (rest : List RingItem) :
    SMap.get 0 (s.ringMove x rest).regs k = SMap.get 0 s.regs k := by
  simp only [State.ringMove, State.listed_ite, State.ringFlow_listed, State.ringLeave_listed hk, ite_self]

theorem State.ringRun_listed (n : Nat) (s : State) : SMap.get 0 (s.ringRun n).regs k = SMap.get 0 s.regs k := by
  induction n generalizing s with
  | zero => rfl
  | succ n ih =>
    unfold State.ringRun
    split
    · rfl
    · exact (ih _).trans (State.ringMove_listed hk ..)

theorem State.ringGo_listed (s : State) : SMap.get 0 s.ringGo.regs k = SMap.get 0 s.regs k :=
  State.ringRun_listed hk ..

theorem State.answer_listed (s : State) (d : Dyn) (op status : Nat) (payload : List Nat) :
    SMap.get 0 (s.answer d op status payload).regs k = SMap.get 0 s.regs k :=
  (State.ringGo_listed hk _).trans (State.answerPut_listed hk ..)

theorem State.ringDrain_listed (s : State) (p : Nat) : SMap.get 0 (s.ringDrain p).regs k = SMap.get 0 s.regs k :=
  (State.ringGo_listed hk _).trans (State.listed_foldl (fun s ch => State.ringFlow_listed k s p ch) _ _)

theorem State.cellOut_listed (s : State) (stop p : Nat) (c : Cell) :
    SMap.get 0 (s.cellOut stop p c).regs k = SMap.get 0 s.regs k :=
  (State.ringGo_listed hk _).trans (State.listed_of_mask k (State.ringPut_parts (M := 262144) ..))

theorem State.deliverCell_listed (s : State) (stop : Nat) (c : Cell) :
    SMap.get 0 (s.deliverCell stop c).regs k = SMap.get 0 s.regs k :=
  (State.ringGo_listed hk _).trans (State.listed_of_mask k (State.ringPut_parts (M := 262144) ..))

theorem State.cellStart_listed (s : State) (stop i : Nat) (c : Cell) :
    SMap.get 0 (s.cellStart stop i c).regs k = SMap.get 0 s.regs k := by
  unfold State.cellStart
  split
  · exact State.deliverCell_listed hk ..
  · simp only [State.listed_ite, State.cellOut_listed hk, ite_self]

theorem State.bcastFrom_listed (s : State) (stop i : Nat) (c : Cell) :
    SMap.get 0 (s.bcastFrom stop i c).regs k = SMap.get 0 s.regs k := by
  refine State.listed_foldl (fun s p => ?_) _ _
  simp only [State.listed_ite, State.cellOut_listed hk, ite_self]

theorem State.sendCell_listed (s : State) (dst type : Nat) (body : List Nat) :
    SMap.get 0 (s.sendCell dst type body).regs k = SMap.get 0 s.regs k := by
  simp only [State.sendCell, State.listed_ite, State.deliverCell_listed hk, State.routeErr_listed hk,
    State.cellStart_listed hk, ite_self]

theorem State.bcastCell_listed (s : State) (type : Nat) (body : List Nat) :
    SMap.get 0 (s.bcastCell type body).regs k = SMap.get 0 s.regs k := by
  simp only [State.bcastCell, State.listed_ite, State.bcastFrom_listed hk, State.deliverCell_listed hk, ite_self]

theorem State.flowControl_listed (s : State) (p : Nat) :
    SMap.get 0 (s.flowControl p).regs k = SMap.get 0 s.regs k := by
  simp (disch := exact hk.trans_le (by decide)) only [State.flowControl, State.setReg_listed]

theorem State.portDown_listed (s : State) (p : Nat) : SMap.get 0 (s.portDown p).regs k = SMap.get 0 s.regs k := by
  have hanswers : ∀ (l : List TxItem) (s : State), SMap.get 0
      (l.foldl (fun s it => (s.routeErr p).answer (dynOf it.bytes) 0x8F 3 []) s).regs k = SMap.get 0 s.regs k :=
    State.listed_foldl fun s it => (State.answer_listed hk ..).trans (State.routeErr_listed hk ..)
  simp (disch := exact hk.trans_le (by decide)) only [State.portDown, State.portFault, State.listed_ite,
    State.moduleFault_regs, State.ringDrain_listed hk, State.satReg_listed, hanswers, State.flowControl_listed hk,
    State.updPort_regs, State.setReg_listed, ite_self]

end Ring

/-! ### A change of a local need writes CLK_DIV, BC_ROPE_RATIO and HX registers only (R289, R290, R461) -/

section Needs
variable {k : Nat} (hk : k < 64 * 0xC0000) (hdiv : k / 64 ≠ 0x20008) (hratio : k / 64 ≠ 0x328)
include hdiv hratio

theorem State.setReg_divider_listed (s : State) (f : Fld) (v : Nat)
    (hf : f.key 0 0 / 64 = 0x20008 ∨ f.key 0 0 / 64 = 0x328) :
    SMap.get 0 (s.setReg f v).regs k = SMap.get 0 s.regs k :=
  SMap.get_set_other _ _ _ _ _ (by rintro rfl; omega)

theorem State.showNeeds_listed (s : State) : SMap.get 0 s.showNeeds.regs k = SMap.get 0 s.regs k := by
  simp (disch := decide) only [State.showNeeds, State.setReg_divider_listed hdiv hratio]

theorem State.announced_listed (s : State) (p target : Nat) :
    SMap.get 0 (s.announced p target).regs k = SMap.get 0 s.regs k := by
  simp (disch := decide) only [State.announced, State.setReg_divider_listed hdiv hratio]

include hk

theorem State.retarget_listed (s : State) : SMap.get 0 s.retarget.regs k = SMap.get 0 s.regs k := by
  simp only [State.retarget, State.listed_ite, State.bcastCell_listed hk, State.announced_listed hdiv hratio, ite_self]

theorem State.setNeed_listed (s : State) (reason d2 : Nat) :
    SMap.get 0 (s.setNeed reason d2).regs k = SMap.get 0 s.regs k := by
  simp only [State.setNeed, State.takeRequest, State.sendRatio, State.listed_ite, State.retarget_listed hk hdiv hratio,
    State.sendCell_listed hk, State.showNeeds_listed hdiv hratio, ite_self]

end Needs

theorem State.setNeed_bowarn (s : State) (reason d2 : Nat) :
    (s.setNeed reason d2).reg F.PWR_STATUS_BOWARN = s.reg F.PWR_STATUS_BOWARN :=
  State.reg_of_listed (State.setNeed_listed (by decide) (by decide) (by decide) ..)

theorem State.setNeed_reports (s : State) (reason d2 : Nat) : (s.setNeed reason d2).reports = s.reports :=
  Part.same_of_mask .reports (State.setNeed_parts (M := 34537480) ..) (by decide)

theorem State.bcastCell_pw (s : State) (type : Nat) (body : List Nat) : (s.bcastCell type body).pw = s.pw :=
  Part.same_of_mask .pw (State.bcastCell_parts (M := 33947656) ..) (by decide)

/-- A new target leaves the needs that stand. -/
theorem State.retarget_needs (s : State) : s.retarget.pw.needs = s.pw.needs := by
  simp only [State.retarget]
  split
  · rfl
  · split
    · exact congrArg Pw.needs (State.bcastCell_pw ..)
    · rfl

theorem State.setNeed_needs (s : State) (reason d2 : Nat) :
    (s.setNeed reason d2).pw.needs = s.pw.needs.set 0 reason d2 := by
  simp only [State.setNeed]
  split
  · rfl
  · split
    · split
      · exact State.retarget_needs _
      · exact congrArg Pw.needs (Part.same_of_mask .pw (State.sendRatio_parts (M := 33947656) ..) (by decide))
    · exact State.retarget_needs _

/-! ### What a reset request is made of -/

/-- A property of the state that each part of a reset below L4 preserves (R435 to R438, R451). -/
structure ResetKeeps (P : State → Prop) : Prop where
  hist : ∀ s q merged, P s → P (s.pushHist q merged)
  cause : ∀ s q first same all fields, P s → P (s.setCause q first same all fields)
  fault : ∀ s subject code field detail trig, P s → P (s.moduleFault subject code field detail trig)
  field : ∀ s q f, P s → P (s.enterField q f)
  install : ∀ s, P s → P s.cutInstall
  module : ∀ s lvl, P s → P (s.clearModule lvl)
  regs : ∀ s lvl all fs, lvl < 4 → P s → P (s.clearRegs lvl all fs)
  disabled : ∀ s, P s → P s.keepDisabled
  needs : ∀ s, P s → P s.keepNeeds
  controller : ∀ s r, P s → P { s with rst := r }
  sync : ∀ s, P s → P s.syncRst

theorem State.resetReq_keeps {P : State → Prop} (hP : ResetKeeps P) (s : State) (source qual level : Nat) (all0 : Bool)
    (fields0 : Nat) (hl : level ≠ 4) (hs : P s) : P (s.resetReq source qual level all0 fields0) := by
  have hfields : ∀ (l : List (Nat × Nat)) (q : RstReq) (s : State), P s →
      P (l.foldl (fun s t => s.enterField { q with level := t.2 } t.1) s) := by
    intro l q
    induction l with
    | nil => exact fun s h => h
    | cons t l ih => exact fun s h => ih _ (hP.field _ _ _ h)
  unfold State.resetReq
  extract_lets all q same abs r sHist warned lv whole mask sCause used sFault ts enter sEnter full sModule sRegs sKept low sLow
  have hHist : P sHist := hP.hist _ _ _ hs
  have hEnter : P sEnter := hP.install _ (hfields _ q _ (hP.fault _ _ _ _ _ _ (hP.cause _ _ _ _ _ _ hHist)))
  have hModule : P sModule := by
    unfold sModule
    split
    · exact hP.module _ _ hEnter
    · exact hEnter
  have hRegs : P sRegs := hP.regs _ _ _ _ (by omega) hModule
  have hKept : P sKept := by
    unfold sKept
    split
    · exact hP.needs _ (hP.disabled _ hRegs)
    · exact hRegs
  have hLow : P sLow := by
    unfold sLow
    split
    · exact hKept
    · exact hP.regs _ _ _ _ (by decide) hKept
  split
  · refine hP.sync _ ?_
    split
    · exact hP.cause _ _ _ _ _ _ hHist
    · exact hHist
  · exact hP.sync _ (hP.controller _ _ hLow)

/-! ### A reset below L4 leaves BC_BOOT alone -/

/-- BC_BOOT is of reset domain L4 (R387, R444). -/
theorem findReg_BC_BOOT : findReg bar0RegTable 8 = some (R.BC_BOOT, 0, 0) := rfl

section Reset
variable {k : Nat} (hk : k / 64 = 8)
include hk

theorem State.clearRegs_listed (s : State) (lvl : Nat) (all : Bool) (fs : List Nat) (hl : lvl < 4) :
    SMap.get 0 (s.clearRegs lvl all fs).regs k = SMap.get 0 s.regs k := by
  have hdom : ¬ R.BC_BOOT.dom ≤ lvl := Nat.not_le.2 hl
  dsimp only [State.clearRegs]
  refine RegFile.listed_resetRegs _ _ k ?_
  simp [hk, findReg_BC_BOOT, hdom]

theorem State.hostDown_listed (s : State) (port : Nat) :
    SMap.get 0 (s.hostDown port).regs k = SMap.get 0 s.regs k := by
  dsimp only [State.hostDown]
  refine (RegFile.listed_resetRegs _ _ k ?_).trans (State.listed_of_mask k (State.dropFlying_parts (M := 4194304) ..))
  simp [hk]

theorem State.pushHist_listed (s : State) (q : RstReq) (merged : Bool) :
    SMap.get 0 (s.pushHist q merged).regs k = SMap.get 0 s.regs k := by
  have hlt : k < 576 := by omega
  have hmove : ∀ l : List Fld, (∀ f ∈ l, 9 ≤ f.base) → ∀ (a b : Nat) (s : State),
      SMap.get 0 (l.foldl (fun s f => s.setReg f (s.reg f 0 a) 0 b) s).regs k = SMap.get 0 s.regs k := by
    intro l hl a b
    induction l with
    | nil => exact fun s => rfl
    | cons f l ih =>
      obtain ⟨hf, hl⟩ := List.forall_mem_cons.1 hl
      exact fun s => (ih hl _).trans (State.setReg_listed _ _ _ _ _ (by omega))
  simp (disch := exact hlt.trans_le (by decide)) only [State.pushHist, State.setReg_listed]
  exact State.listed_foldl (fun s n => hmove _ (by decide) _ _ s) _ _

theorem State.setCause_listed (s : State) (q : RstReq) (first same all : Bool) (fields : Nat) :
    SMap.get 0 (s.setCause q first same all fields).regs k = SMap.get 0 s.regs k := by
  have hlt : k < 576 := by omega
  simp (disch := exact hlt.trans_le (by decide)) only [State.setCause, State.listed_ite, State.setReg_listed,
    State.satReg_listed, ite_self]

theorem State.syncRst_listed (s : State) : SMap.get 0 s.syncRst.regs k = SMap.get 0 s.regs k := by
  have hlt : k < 576 := by omega
  simp (disch := exact hlt.trans_le (by decide)) only [State.syncRst, State.setReg_listed]

theorem State.stopLive_listed (s : State) (f : Nat) : SMap.get 0 (s.stopLive f).regs k = SMap.get 0 s.regs k := by
  have hlt : k < 576 := by omega
  simp (disch := exact hlt.trans_le (by decide)) only [State.stopLive, State.refreshStep, State.listed_ite,
    State.setReg_listed, State.updField_regs, ite_self]

theorem State.clearField_listed (s : State) (f lvl : Nat) :
    SMap.get 0 (s.clearField f lvl).regs k = SMap.get 0 s.regs k := by
  have hlt : k < 576 := by omega
  simp (disch := exact hlt.trans_le (by decide)) only [State.clearField, State.clearTel, State.setLock, State.listed_ite,
    State.stopLive_listed hk, State.setReg_listed, State.updField_regs, State.mapTiles_regs, ite_self]

theorem State.enterField_listed (s : State) (q : RstReq) (f : Nat) :
    SMap.get 0 (s.enterField q f).regs k = SMap.get 0 s.regs k := by
  have hlt : k < 576 := by omega
  simp (disch := exact hlt.trans_le (by decide)) only [State.enterField, State.listed_ite, State.setReg_listed,
    State.satReg_listed, State.clearField_listed hk, State.moduleFault_regs, State.invalidate_regs, ite_self]

theorem State.cutInstall_listed (s : State) : SMap.get 0 s.cutInstall.regs k = SMap.get 0 s.regs k := by
  have hlt : k < 576 := by omega
  simp (disch := exact hlt.trans_le (by decide)) only [State.cutInstall, State.wipeStaging, State.listed_ite,
    State.setReg_listed, ite_self]

theorem State.apAbort_listed (s : State) : SMap.get 0 s.apAbort.regs k = SMap.get 0 s.regs k := by
  have hlt : k < 576 := by omega
  refine State.listed_foldl (fun s x => ?_) _ _
  simp (disch := exact hlt.trans_le (by decide)) only [State.isoRead, State.listed_ite, State.emit_regs,
    State.satReg_listed, ite_self]

theorem State.ropeCut_listed (s : State) : SMap.get 0 s.ropeCut.regs k = SMap.get 0 s.regs k := by
  have hlt : k < 576 := by omega
  simp (disch := exact hlt.trans_le (by decide)) only [State.ropeCut, State.setRopeState, State.listed_ite,
    State.setReg_listed, ite_self]

theorem State.portsDown_listed (l : List Nat) (s : State) :
    SMap.get 0 (l.foldl (fun s p => s.portDown p) s).regs k = SMap.get 0 s.regs k :=
  State.listed_foldl (fun s p => State.portDown_listed (by omega) s p) l s

theorem State.clearModule_listed (s : State) (lvl : Nat) :
    SMap.get 0 (s.clearModule lvl).regs k = SMap.get 0 s.regs k := by
  have hset : ∀ (s : State) (f : Fld) (v : Nat), 9 ≤ f.base →
      SMap.get 0 (s.setReg f v).regs k = SMap.get 0 s.regs k :=
    fun s f v hf => State.setReg_listed _ _ _ _ _ (by omega)
  unfold State.clearModule
  extract_lets sKeys _ sRun sImage _ _ _ sRope sCkp _ sShort sPorts sCut sCopy _ sLedger sDown sHost sDebug _ _
  have hShort : SMap.get 0 sShort.regs k = SMap.get 0 s.regs k := by
    have hImage : SMap.get 0 sImage.regs k = SMap.get 0 sKeys.regs k := by
      simp only [sImage, State.listed_ite, hset _ F.BC_IMG_STATUS_STATE _ (by decide), sRun, ite_self]
    exact (hset sRope F.BC_ROPE_CKP_CAPTURING 0 (by decide)).trans (hImage.trans (State.restartKeys_listed k s 0))
  have hLedger : SMap.get 0 sLedger.regs k = SMap.get 0 s.regs k := by
    simp only [sLedger, sCopy, sCut, sPorts, State.listed_ite, hset _ F.BC_IMG_STATUS_STATE _ (by decide),
      State.ropeCut_listed hk, State.apAbort_listed hk, State.updPorts_listed, hShort, ite_self]
  have hDebug : SMap.get 0 sDebug.regs k = SMap.get 0 s.regs k := by
    simp only [sDebug, sHost, sDown, hset _ F.BC_TRUST_STATUS_DEBUG _ (by decide),
      hset _ F.BC_DBG_CMD_SCOPE _ (by decide), State.bcResume_listed, State.hostDown_listed hk,
      State.portsDown_listed hk, hLedger]
  simp only [State.listed_ite, hDebug, hLedger, hShort, ite_self]

theorem State.keepDisabled_listed (s : State) : SMap.get 0 s.keepDisabled.regs k = SMap.get 0 s.regs k := by
  have hlt : k < 576 := by omega
  refine State.listed_foldl (fun s p => ?_) _ _
  simp (disch := exact hlt.trans_le (by decide)) only [State.listed_ite, State.setReg_listed, ite_self]

theorem State.keepNeeds_listed (s : State) : SMap.get 0 s.keepNeeds.regs k = SMap.get 0 s.regs k :=
  State.showNeeds_listed (by omega) (by omega) _

theorem resetKeeps_listed (v : Nat) : ResetKeeps (fun t => SMap.get 0 t.regs k = v) where
  hist s q merged := (State.pushHist_listed hk s q merged).trans
  cause s q first same all fields := (State.setCause_listed hk s q first same all fields).trans
  fault _ _ _ _ _ _ h := h
  field s q f := (State.enterField_listed hk s q f).trans
  install s := (State.cutInstall_listed hk s).trans
  module s lvl := (State.clearModule_listed hk s lvl).trans
  regs s lvl all fs hl := (State.clearRegs_listed hk s lvl all fs hl).trans
  disabled s := (State.keepDisabled_listed hk s).trans
  needs s := (State.keepNeeds_listed hk s).trans
  controller _ _ h := h
  sync s := (State.syncRst_listed hk s).trans

end Reset

/-- A reset below L4 leaves the stage of start-up. -/
theorem State.resetReq_bootStage (s : State) (source qual level : Nat) (all0 : Bool) (fields0 : Nat) (hl : level ≠ 4) :
    (s.resetReq source qual level all0 fields0).reg F.BC_BOOT_STAGE = s.reg F.BC_BOOT_STAGE :=
  State.reg_of_listed (State.resetReq_keeps (resetKeeps_listed (by decide) _) s _ _ _ _ _ hl rfl)

/-! ### A reset leaves the level of LEAK_N -/

theorem State.leakLow_of_mask {m : Nat} {s t : State} (h : t.mask m = s.mask m)
    (hm : m / 2 ^ Part.pw.bit % 2 = 0 := by decide) : t.pw.leakLow = s.pw.leakLow :=
  congrArg Pw.leakLow (Part.same_of_mask .pw h hm)

theorem State.restartKeys_leakLow (s : State) (t : Nat) : (s.restartKeys t).pw.leakLow = s.pw.leakLow :=
  State.leakLow_of_mask (State.restartKeys_parts (M := 131072) s t)

theorem State.updPorts_leakLow (g : HxPort → HxPort) (l : List Nat) (s : State) :
    (l.foldl (fun s p => s.updPort p g) s).pw.leakLow = s.pw.leakLow :=
  State.leakLow_of_mask (State.updPorts_parts g l s)

theorem State.apAbort_leakLow (s : State) : s.apAbort.pw.leakLow = s.pw.leakLow :=
  State.leakLow_of_mask (State.apAbort_parts (M := 20971528) s)

theorem State.ropeCut_leakLow (s : State) : s.ropeCut.pw.leakLow = s.pw.leakLow :=
  State.leakLow_of_mask (State.ropeCut_parts (M := 81928) s)

theorem State.portsDown_leakLow (l : List Nat) (s : State) :
    (l.foldl (fun s p => s.portDown p) s).pw.leakLow = s.pw.leakLow :=
  State.leakLow_of_mask (State.portsDown_parts l s)

theorem State.hostDown_leakLow (s : State) (port : Nat) : (s.hostDown port).pw.leakLow = s.pw.leakLow :=
  State.leakLow_of_mask (State.hostDown_parts (M := 12582920) s port)

theorem State.bcResume_leakLow (s : State) : s.bcResume.pw.leakLow = s.pw.leakLow :=
  State.leakLow_of_mask (State.bcResume_parts (M := 12582912) s)

theorem State.clearModule_leakLow (s : State) (lvl : Nat) : (s.clearModule lvl).pw.leakLow = s.pw.leakLow := by
  unfold State.clearModule
  extract_lets sKeys _ sRun sImage _ _ _ sRope sCkp _ sShort sPorts sCut sCopy _ sLedger sDown sHost sDebug _ _
  have hShort : sShort.pw.leakLow = s.pw.leakLow := by
    have hImage : sImage.pw.leakLow = sRun.pw.leakLow := by
      unfold sImage
      split <;> rfl
    exact hImage.trans (State.restartKeys_leakLow s 0)
  have hLedger : sLedger.pw.leakLow = s.pw.leakLow := by
    have hCopy : sCopy.pw.leakLow = sCut.pw.leakLow := by
      unfold sCopy
      split <;> rfl
    refine hCopy.trans ?_
    unfold sCut sPorts
    rw [State.ropeCut_leakLow, State.apAbort_leakLow, State.updPorts_leakLow]
    exact hShort
  have hDebug : sDebug.pw.leakLow = s.pw.leakLow := by
    unfold sDebug sHost sDown
    rw [State.setReg_pw, State.setReg_pw, State.bcResume_leakLow, State.hostDown_leakLow, State.hostDown_leakLow,
      State.portsDown_leakLow]
    exact hLedger
  split
  · exact hShort
  · split
    · exact hLedger
    · dsimp only
      exact hDebug

theorem resetKeeps_leakLow (b : Bool) : ResetKeeps (fun t => t.pw.leakLow = b) where
  hist s q merged := (State.leakLow_of_mask (State.pushHist_parts (M := 8) s q merged)).trans
  cause s q first same all fields :=
    (State.leakLow_of_mask (State.setCause_parts (M := 8) s q first same all fields)).trans
  fault _ _ _ _ _ _ h := h
  field s q f := (State.leakLow_of_mask (State.enterField_parts (M := 1069176) s q f)).trans
  install s := (State.leakLow_of_mask (State.cutInstall_parts (M := 2952) s)).trans
  module s lvl := (State.clearModule_leakLow s lvl).trans
  regs _ _ _ _ _ h := h
  disabled s := (State.leakLow_of_mask (State.keepDisabled_parts (M := 8) s)).trans
  needs _ h := h
  controller _ _ h := h
  sync _ h := h

theorem State.resetReq_leakLow (s : State) (source qual level : Nat) (all0 : Bool) (fields0 : Nat) (hl : level ≠ 4) :
    (s.resetReq source qual level all0 fields0).pw.leakLow = s.pw.leakLow :=
  State.resetReq_keeps (resetKeeps_leakLow _) s _ _ _ _ _ hl rfl

/-! ### Standby, trip and leak response (R31, R41, R474) -/

theorem State.railsOff_bootStage (s : State) : s.railsOff.reg F.BC_BOOT_STAGE = s.reg F.BC_BOOT_STAGE := by
  refine State.reg_of_listed ((State.setReg_listed _ _ _ _ _ (by decide)).trans ?_)
  refine State.listed_foldl (fun s f => ?_) _ s
  simp (disch := decide) only [State.setRail, State.setLock, State.setReg_listed, F.BC_BOOT_STAGE_key]

theorem State.standby_regs (s : State) (h : s.reg F.BC_BOOT_STAGE ≠ 2) :
    s.standby.regs = ((s.resetReq 4 1 3 true 0).railsOff.setReg F.BC_BOOT_STAGE 3).regs := by
  have hreset : (s.resetReq 4 1 3 true 0).railsOff.reg F.BC_BOOT_STAGE ≠ 2 := by
    rwa [State.railsOff_bootStage, State.resetReq_bootStage _ _ _ _ _ _ (by decide)]
  simp only [State.standby]
  rw [if_neg hreset]

/-- Start-up waits in stage 3 after standby, unless stage 2 was still to be done. -/
theorem State.standby_bootStage (s : State) (h : s.reg F.BC_BOOT_STAGE ≠ 2) : s.standby.reg F.BC_BOOT_STAGE = 3 :=
  (State.reg_eq _ _ (s.standby_regs h) _ _ _).trans (State.reg_setReg_same ..)

theorem State.standby_standby (s : State) (h : s.reg F.BC_BOOT_STAGE ≠ 2) : s.standby.reg F.PWR_STATUS_STANDBY = 1 :=
  (State.reg_eq _ _ (s.standby_regs h) _ _ _).trans
    ((State.reg_setReg_other _ _ _ _ _ _ _ _ (by simp)).trans (State.reg_setReg_same ..))

theorem State.standby_boot (s : State) : s.standby.pw.boot = true := rfl

theorem State.standby_caps (s : State) : s.standby.pw.caps = 0 := by
  simp only [State.standby]
  split <;> rfl

theorem State.railsOff_leakLow (s : State) : s.railsOff.pw.leakLow = s.pw.leakLow := by
  have hfields : ∀ (l : List Nat) (s : State), (l.foldl (fun s f =>
      ((s.setRail f 0 false).setRail f 1 false).setLock f false) s).mask 8 = s.mask 8 := fun l s =>
    mask_foldl _ _ (fun s f => (State.setLock_parts ..).trans ((State.setRail_parts ..).trans (State.setRail_parts ..))) l s
  have hrails := State.leakLow_of_mask (hfields (List.range s.nFields) s)
  exact hrails

theorem State.standby_leakLow (s : State) : s.standby.pw.leakLow = s.pw.leakLow := by
  refine Eq.trans ?_ ((State.railsOff_leakLow _).trans (State.resetReq_leakLow s 4 1 3 true 0 (by decide)))
  simp only [State.standby]
  split <;> rfl

/-! ### A cold start (R434, R440) -/

theorem State.coldStart_effect (s : State) (source : Nat) :
    (s.coldStart source).rst = { Rst.zero with active := true, level := 4, all := true, step := 0 } ∧
    (s.coldStart source).image = none ∧ (s.coldStart source).ldg.mem = [] ∧
    (s.coldStart source).log.bootgen = s.log.bootgen + 1 := by
  unfold State.coldStart
  extract_lets _ _ _ _ _ _ zKept pin _ _ zStart zFields zRails zReplan zShown _
  have hregs : zShown.mask 8 = zStart.mask 8 := by
    unfold zShown zReplan zRails zFields
    simp only [State.syncRst_parts, State.pushHist_parts, State.setReg_parts, State.setRail_parts, mask_foldl,
      implies_true, Nat.reduceAnd]
  have hrst : zShown.rst = zStart.rst := Part.same_of_mask .rst hregs (by decide)
  have himage : zShown.image = zStart.image := Part.same_of_mask .image hregs (by decide)
  have hldg : zShown.ldg = zStart.ldg := Part.same_of_mask .ldg hregs (by decide)
  have hlog : zShown.log = zStart.log := Part.same_of_mask .log hregs (by decide)
  have hbootgen : zShown.log.bootgen = s.log.bootgen := by rw [hlog]
  have hmeas : ∀ (z : State) (k : Nat), (z.remeasure k).rst = z.rst ∧ (z.remeasure k).image = z.image ∧
      (z.remeasure k).ldg = z.ldg ∧ (z.remeasure k).log = z.log := fun z k => ⟨rfl, rfl, rfl, rfl⟩
  simp only [hmeas, hrst, himage, hldg, hbootgen]
  exact ⟨rfl, rfl, rfl, trivial⟩

theorem State.coldStart_custody (s : State) (source : Nat) :
    (s.coldStart source).fuse = s.fuse ∧ (s.coldStart source).trust.slots = s.trust.slots := by
  have hparts := State.coldStart_parts (M := 50331646) s source
  have howners : (s.coldStart source).trust.slots = s.trust.slots ∧ _ := Part.same_of_mask .owners hparts (by decide)
  exact ⟨Part.same_of_mask .fuse hparts (by decide), howners.1⟩

/-! ### The 48 V input (R465, R466) -/

theorem execBrownOutWarning_low (s : State) (v : BitVec 16) (hclear : s.reg F.PWR_STATUS_BOWARN = 0)
    (hlow : v.toNat < 10 * s.od 0x2400 1) : ∃ t, execBrownOutWarning v s = .next t ∧
      t.reg F.PWR_STATUS_BOWARN = 1 ∧ t.pw.needs.get 0 1 = min 32 (s.divNow + 2) ∧ s.reports1 t Code.pwrBrownout := by
  have hreg : ∀ x, (s.setReg F.PWR_BOR_VMIN x).reg F.PWR_STATUS_BOWARN = 0 := fun x => by
    rw [State.reg_setReg_other _ _ _ _ _ _ _ _ (by simp), hclear]
  simp only [execBrownOutWarning, hreg, State.setReg_od, Nat.not_le.2 hlow, decide_false]
  refine ⟨_, rfl, ?_, ?_, ?_⟩
  · rw [State.setNeed_bowarn, State.moduleFault_reg, State.satReg, State.reg_setReg_other _ _ _ _ _ _ _ _ (by simp),
      State.reg_setReg_same]
    rfl
  · rw [State.setNeed_needs, SMap.get_set_same, State.divNow, State.satReg]
    simp [State.reg_setReg_other, State.divNow]
  · rw [State.reports1, State.setNeed_reports]
    exact State.reports1_moduleFault s _ _ _ _ _ _ rfl

theorem execBrownOutClear_set (s : State) (hset : s.reg F.PWR_STATUS_BOWARN = 1) : ∃ t, execBrownOutClear s = .next t ∧
    t.reg F.PWR_STATUS_BOWARN = 0 ∧ t.pw.needs.get 0 1 = 0 ∧ s.reports1 t Code.pwrBrownoutClear := by
  simp only [execBrownOutClear, hset]
  refine ⟨_, rfl, ?_, ?_, ?_⟩
  · rw [State.moduleFault_reg, State.setNeed_bowarn, State.reg_setReg_same]
    rfl
  · rw [State.moduleFault_pw, State.setNeed_needs, SMap.get_set_same]
  · exact State.reports1_moduleFault s _ _ _ _ _ _ (State.setNeed_reports _ _ _)

/-! ### The pins (R29 to R33, R41) -/

/-- A write of one register changes that register only. -/
theorem State.onlyRegs_setReg (s : State) (f : Fld) (v i j : Nat) : s.onlyRegs (s.setReg f v i j) [f.key i j] :=
  ⟨rfl, fun _ _ _ h => State.reg_setReg_other _ _ _ _ _ _ _ _ (by simpa using h)⟩

theorem execModResetNLow_early (s : State) (h : s.reg F.BC_BOOT_STAGE < 2) :
    execModResetNLow s = .next (s.setReg F.RST_STATE_PINLOW 1) := by
  simp only [execModResetNLow, if_neg (Nat.not_le.2 h)]

theorem State.clearTrip_reg (s : State) : s.clearTrip.reg F.PWR_STATUS_TRIP = 0 ∧
    s.clearTrip.reg F.PWR_STATUS_TRIPCAUSE = 0 ∧ s.clearTrip.reg F.PWR_STATUS_LEAK = s.reg F.PWR_STATUS_LEAK := by
  simp [State.clearTrip, State.setStage, State.reg_setReg_other]

/-- The pins as PWR_EN high with LEAK_N high leaves them. -/
def State.enableSeen (s : State) : State :=
  { s with pw := { s.pw with pwrEn := true, leakLow := false, trayWet := s.pw.trayWet && false } }

theorem execPwrEnHigh_eq (s : State) (hlow : s.pw.pwrEn = false) :
    execPwrEnHigh false s = .next (s.enableSeen.setReg F.PWR_STATUS_LEAK 0).clearTrip := by
  have hleak : ¬ (s.enableSeen.setReg F.PWR_STATUS_LEAK 0).reg F.PWR_STATUS_LEAK = 1 := by
    rw [State.reg_setReg_same]
    decide
  calc execPwrEnHigh false s
      = if s.pw.pwrEn = true then .next s.enableSeen
        else .next (if (s.enableSeen.setReg F.PWR_STATUS_LEAK 0).reg F.PWR_STATUS_LEAK = 1
          then s.enableSeen.setReg F.PWR_STATUS_LEAK 0 else (s.enableSeen.setReg F.PWR_STATUS_LEAK 0).clearTrip) := rfl
    _ = _ := by rw [hlow, if_neg Bool.false_ne_true, if_neg hleak]

theorem execPwrEnHigh_edge (s : State) (hlow : s.pw.pwrEn = false) : ∃ t, execPwrEnHigh false s = .next t ∧
    t.pw.pwrEn = true ∧ t.pw.leakLow = false ∧ t.reg F.PWR_STATUS_LEAK = 0 ∧ t.reg F.PWR_STATUS_TRIP = 0 ∧
    t.reg F.PWR_STATUS_TRIPCAUSE = 0 ∧ t.fields = s.fields := by
  obtain ⟨htrip, hcause, hkept⟩ := State.clearTrip_reg (s.enableSeen.setReg F.PWR_STATUS_LEAK 0)
  refine ⟨_, execPwrEnHigh_eq s hlow, rfl, rfl, ?_, htrip, hcause, rfl⟩
  rw [hkept, State.reg_setReg_same]
  rfl

theorem execPwrEnLow_running (s : State) (h : 2 < s.reg F.BC_BOOT_STAGE) : ∃ t, execPwrEnLow s = .next t ∧
    t.reg F.PWR_STATUS_STANDBY = 1 ∧ t.reg F.BC_BOOT_STAGE = 3 ∧ t.pw.boot = true ∧ t.pw.caps = 0 := by
  have hruns : ∀ p : Pw, ({ s with pw := p } : State).fwRuns = true := fun p => decide_eq_true h.le
  have hstage : ∀ p : Pw, ({ s with pw := p } : State).reg F.BC_BOOT_STAGE ≠ 2 := fun p => h.ne'
  simp only [execPwrEnLow, hruns]
  exact ⟨_, rfl, State.standby_standby _ (hstage _), State.standby_bootStage _ (hstage _), State.standby_boot _,
    State.standby_caps _⟩

theorem State.trip_eq (s : State) (cause : Nat) (htrip : s.reg F.PWR_STATUS_TRIP = 0) : s.trip cause =
    (((s.moduleFault 5 Code.modTrip 0 cause false).setOd 0x2300 8 0).standby.setReg F.PWR_STATUS_TRIP 1).setReg
      F.PWR_STATUS_TRIPCAUSE cause :=
  if_neg (by omega)

/-- A module trip where none stood leaves start-up in stage 3, the cause shown, and LEAK_N as it was. -/
theorem State.trip_effect (s : State) (cause : Nat) (hstage : 2 < s.reg F.BC_BOOT_STAGE) (htrip : s.reg F.PWR_STATUS_TRIP = 0) :
    (s.trip cause).reg F.PWR_STATUS_TRIP = 1 ∧ (s.trip cause).reg F.PWR_STATUS_TRIPCAUSE = cause % 16 ∧
    (s.trip cause).reg F.BC_BOOT_STAGE = 3 ∧ (s.trip cause).pw.leakLow = s.pw.leakLow := by
  rw [State.trip_eq s cause htrip]
  have hbefore : ((s.moduleFault 5 Code.modTrip 0 cause false).setOd 0x2300 8 0).reg F.BC_BOOT_STAGE = s.reg F.BC_BOOT_STAGE := by
    rw [State.setOd_reg, State.moduleFault_reg]
  have hpw : ((s.moduleFault 5 Code.modTrip 0 cause false).setOd 0x2300 8 0).pw = s.pw := by
    rw [State.setOd_pw, State.moduleFault_pw]
  generalize (s.moduleFault 5 Code.modTrip 0 cause false).setOd 0x2300 8 0 = u at *
  refine ⟨?_, ?_, ?_, ?_⟩
  · rw [State.reg_setReg_other _ _ _ _ _ _ _ _ (by simp), State.reg_setReg_same]
    rfl
  · rw [State.reg_setReg_same]
    rfl
  · rw [State.reg_setReg_other _ _ _ _ _ _ _ _ (by simp), State.reg_setReg_other _ _ _ _ _ _ _ _ (by simp)]
    exact State.standby_bootStage u (by omega)
  · rw [State.setReg_pw, State.setReg_pw, State.standby_leakLow, hpw]

/-- LEAK_N low, with the free value drawn that says which sensor drives it. -/
def State.leakSeen (s : State) : State :=
  { s.fresh.2 with pw := { s.pw with leakLow := true, trayWet := decide (s.fresh.1 % 2 = 1) } }

theorem execLeakResponse_eq (s : State) : execLeakResponse s =
    if s.leakSeen.reg F.PWR_STATUS_LEAK = 1 || !s.leakSeen.fwRuns then .next s.leakSeen
    else .next ((((s.leakSeen.trip 5).setReg F.PWR_STATUS_LEAK 1).moduleFault 5 Code.cltLeak 0 0 false).setOd 0x2300 8 0) := rfl

theorem State.leakSeen_reg (s : State) (f : Fld) (i j : Nat) : s.leakSeen.reg f i j = s.reg f i j := rfl

theorem execLeakResponse_running (s : State) (hstage : 2 < s.reg F.BC_BOOT_STAGE) (hleak : s.reg F.PWR_STATUS_LEAK = 0)
    (htrip : s.reg F.PWR_STATUS_TRIP = 0) : ∃ t, execLeakResponse s = .next t ∧ t.pw.leakLow = true ∧
      t.reg F.PWR_STATUS_LEAK = 1 ∧ t.reg F.PWR_STATUS_TRIP = 1 ∧ t.reg F.PWR_STATUS_TRIPCAUSE = 5 ∧ t.od 0x2300 8 = 0 ∧
      t.reg F.BC_BOOT_STAGE = 3 ∧ t.lastReport Code.cltLeak := by
  have hruns : s.leakSeen.fwRuns = true := decide_eq_true hstage.le
  obtain ⟨ht, hcause, hboot, hlow⟩ := State.trip_effect s.leakSeen 5 hstage htrip
  rw [execLeakResponse_eq, if_neg (by simp [hruns, State.leakSeen_reg, hleak])]
  generalize s.leakSeen.trip 5 = u at *
  refine ⟨_, rfl, ?_, ?_, ?_, ?_, State.od_setOd_same _ _ _ _, ?_, ?_⟩
  · rw [State.setOd_pw, State.moduleFault_pw, State.setReg_pw, hlow]
    rfl
  · rw [State.setOd_reg, State.moduleFault_reg, State.reg_setReg_same]
    rfl
  · rw [State.setOd_reg, State.moduleFault_reg, State.reg_setReg_other _ _ _ _ _ _ _ _ (by simp), ht]
  · rw [State.setOd_reg, State.moduleFault_reg, State.reg_setReg_other _ _ _ _ _ _ _ _ (by simp), hcause]
  · rw [State.setOd_reg, State.moduleFault_reg, State.reg_setReg_other _ _ _ _ _ _ _ _ (by simp), hboot]
  · rw [State.lastReport, State.setOd_reports]
    exact State.lastReport_moduleFault _ _ _ _ _ _

theorem execLeakResponse_early (s : State) (h : s.reg F.BC_BOOT_STAGE < 2) : ∃ t, execLeakResponse s = .next t ∧
    t.pw.leakLow = true ∧ t.regs = s.regs ∧ t.fields = s.fields ∧ t.reports = s.reports := by
  have hruns : s.leakSeen.fwRuns = false := decide_eq_false (Nat.not_le.2 h)
  rw [execLeakResponse_eq, if_pos (by simp [hruns])]
  exact ⟨_, rfl, rfl, rfl, rfl, rfl⟩

/-! ### O8 -/

theorem execPor_effect (s : State) (latched : Bool) : ∃ t, execPor latched s = .next t ∧ t.rst.active = true ∧
    t.rst.level = 4 ∧ t.rst.all = true ∧ t.image = none ∧ t.ldg.mem = [] ∧ t.fuse = s.fuse ∧
    t.trust.slots = s.trust.slots ∧ t.log.bootgen = s.log.bootgen + 1 := by
  unfold execPor
  generalize (if latched && s.rst.latch then 1 else 0) = source
  obtain ⟨hrst, himage, hmem, hbootgen⟩ := State.coldStart_effect s source
  obtain ⟨hfuse, hslots⟩ := State.coldStart_custody s source
  generalize s.coldStart source = z at *
  exact ⟨z, rfl, by rw [hrst], by rw [hrst], by rw [hrst], himage, hmem, hfuse, hslots, hbootgen⟩

theorem execBor_effect (s : State) : ∃ t, execBor s = .next t ∧ t.rst.latch = true ∧ t.rst.level = 4 ∧ t.rst.all = true ∧
    t.pw.boot = false ∧ t.image = none ∧ t.ldg.mem = [] ∧ t.fuse = s.fuse ∧ t.trust.slots = s.trust.slots := by
  unfold execBor
  obtain ⟨hrst, himage, hmem, -⟩ := State.coldStart_effect s 1
  obtain ⟨hfuse, hslots⟩ := State.coldStart_custody s 1
  generalize s.coldStart 1 = z at *
  exact ⟨_, rfl, rfl, congrArg Rst.level hrst, congrArg Rst.all hrst, rfl, himage, hmem, hfuse, hslots⟩

/-- Settles O8: a clause per command, from the effect of a cold start, of standby and of a trip. -/
theorem powerInputAndPinCommandsComplete : Obligations.PowerInputAndPinCommandsComplete :=
  ⟨execPor_effect, execBor_effect, execBrownOutWarning_low, execBrownOutClear_set,
    fun s h => ⟨_, execModResetNLow_early s h, State.reg_setReg_same s _ 1 0 0, State.onlyRegs_setReg s _ 1 0 0⟩,
    fun s => ⟨_, rfl, State.reg_setReg_same s _ 0 0 0, State.onlyRegs_setReg s _ 0 0 0⟩,
    execPwrEnLow_running, execPwrEnHigh_edge, execLeakResponse_running, execLeakResponse_early⟩

/-! ### The stages of start-up (R387 to R395) -/

/-- The state after stage `k`, where that stage's condition is met. -/
def State.afterStage (s : State) (io : StageInput) (k : Nat) : State :=
  if k = 0 then s.stageRom
  else if k = 2 then s.stageFirmware io.sel.val
  else if k = 3 then s.stageStandby
  else if k = 5 then s.stageClocks io.ready.toNat io.lock
  else if k = 6 then s.stageTrain io
  else if k = 7 then s.stageMap (io.bad.map (·.val))
  else if k = 8 then s.stageBloom
  else s

theorem State.afterStage_rom (s : State) (io : StageInput) : s.afterStage io 0 = s.stageRom := rfl

theorem State.afterStage_clocks (s : State) (io : StageInput) :
    s.afterStage io 5 = s.stageClocks io.ready.toNat io.lock := rfl

theorem execStartupStage_at {s : State} {k : Nat} (io : StageInput) (hboot : s.pw.boot = true)
    (hstage : s.reg F.BC_BOOT_STAGE = k) : execStartupStage io s = .next (s.afterStage io k) := by
  subst hstage
  exact if_neg (by simp [hboot])

theorem execStartupStage_idle {s : State} (io : StageInput) (hboot : s.pw.boot = false) : execStartupStage io s = .next s :=
  if_pos (by simp [hboot])

/-! #### Stage 0: the boot ROM (R387, R388) -/

theorem State.recovery_effect (s : State) : s.recovery.reg F.BC_BOOT_STAGE = 1 ∧
    s.recovery.reg F.BC_BOOT_FAULT = Code.trustFwVerify ∧ s.recovery.reg F.BC_TRUST_STATUS_FAIL = Code.trustFwVerify ∧
    s.reports1 s.recovery Code.trustFwVerify := by
  unfold State.recovery
  refine ⟨?_, ?_, ?_, State.reports1_moduleFault s _ _ _ _ _ _ rfl⟩
  · simp [State.reg_setReg_other]
  · simp [State.reg_setReg_other, Code.trustFwVerify]
  · simp [Code.trustFwVerify]

theorem State.stageRom_none {s : State} (h : s.bootFlash = none) : s.stageRom = s.deriveKeys.recovery := by
  have hflash : s.deriveKeys.bootFlash = none := h
  simp only [State.stageRom, hflash]

theorem State.runFirmware_reg (s : State) (b : Bool) (w : Firmware) (f : Fld) (i j : Nat) : (s.runFirmware b w).reg f i j =
    (((s.setReg F.BC_TRUST_STATUS_BOOTB (b2n b)).setReg F.BC_ID_FWVER w.version.toNat).setReg F.BC_BOOT_STAGE 2).reg f i j := rfl

theorem State.runFirmware_regs (s : State) (b : Bool) (w : Firmware) : (s.runFirmware b w).reg F.BC_BOOT_STAGE = 2 ∧
    (s.runFirmware b w).reg F.BC_TRUST_STATUS_BOOTB = b2n b ∧ (s.runFirmware b w).reg F.BC_ID_FWVER = w.version.toNat := by
  simp only [State.runFirmware_reg]
  refine ⟨?_, ?_, ?_⟩
  · rw [State.reg_setReg_same]
    rfl
  · rw [State.reg_setReg_other _ _ _ _ _ _ _ _ (by simp), State.reg_setReg_other _ _ _ _ _ _ _ _ (by simp),
      State.reg_setReg_same]
    exact Nat.mod_eq_of_lt (by cases b <;> decide)
  · rw [State.reg_setReg_other _ _ _ _ _ _ _ _ (by simp), State.reg_setReg_same]
    exact Nat.mod_eq_of_lt w.version.isLt

theorem State.putEnts_nmt (s : State) (es : List (Ent × Nat)) : (s.putEnts es).dict.nmt = s.dict.nmt := by
  induction es generalizing s with
  | nil => rfl
  | cons e es ih => exact ih _

theorem State.nodeBoot_nmt (s : State) : s.nodeBoot.dict.nmt = .preOperational := State.putEnts_nmt _ _

theorem State.remeasures_nmt (l : List Nat) (s : State) : (l.foldl (fun s k => s.remeasure k) s).dict.nmt = s.dict.nmt :=
  foldl_keeps (fun t => t.dict.nmt) (fun s k => s.remeasure k) (fun _ _ => rfl) l s

theorem State.remeasures_parts (l : List Nat) (s : State) :
    (l.foldl (fun s k => s.remeasure k) s).mask 41943040 = s.mask 41943040 :=
  mask_foldl _ _ (fun s k => State.remeasure_parts s k) l s

/-- The state in which the ROM passes control to a flash that verifies, with the node booted. -/
def State.firmwareStarts (s : State) (b : Bool) (w : Firmware) : State :=
  [3, 5, 7, 8, 9].foldl (fun s k => s.remeasure k)
    ((((s.deriveKeys.remeasure 2).passControl.runFirmware b w).loadStored (fun _ => true)).nodeBoot)

theorem State.firmwareStarts_reg (s : State) (b : Bool) (w : Firmware) (f : Fld) :
    (s.firmwareStarts b w).reg f = ((s.deriveKeys.remeasure 2).passControl.runFirmware b w).reg f := by
  rw [State.firmwareStarts, State.reg_of_mask f 0 0 (State.remeasures_parts ..),
    State.reg_of_mask f 0 0 (State.nodeBoot_parts (M := 18874368) _),
    State.reg_of_mask f 0 0 (State.loadStored_parts (M := 2097152) ..)]

theorem State.firmwareStarts_nmt (s : State) (b : Bool) (w : Firmware) : (s.firmwareStarts b w).dict.nmt = .preOperational := by
  rw [State.firmwareStarts, State.remeasures_nmt, State.nodeBoot_nmt]

theorem State.stageRom_some {s : State} {b : Bool} {w : Firmware} (h : s.bootFlash = some (b, w)) : ∃ v,
    s.stageRom = (s.firmwareStarts b w).setReg F.FLT_REPLAN_FIELDS v := by
  have hflash : s.deriveKeys.bootFlash = some (b, w) := h
  simp only [State.stageRom, hflash]
  exact ⟨_, rfl⟩

theorem State.stageRom_effect {s : State} {b : Bool} {w : Firmware} (h : s.bootFlash = some (b, w)) :
    s.stageRom.reg F.BC_BOOT_STAGE = 2 ∧ s.stageRom.reg F.BC_TRUST_STATUS_BOOTB = b2n b ∧
    s.stageRom.reg F.BC_ID_FWVER = w.version.toNat ∧ s.stageRom.dict.nmt = .preOperational := by
  obtain ⟨v, hrom⟩ := State.stageRom_some h
  obtain ⟨hstage, hbootb, hversion⟩ := ((s.deriveKeys.remeasure 2).passControl).runFirmware_regs b w
  rw [hrom, State.setReg_dict]
  refine ⟨?_, ?_, ?_, s.firmwareStarts_nmt b w⟩
  · rw [State.reg_setReg_other _ _ _ _ _ _ _ _ (by simp), State.firmwareStarts_reg, hstage]
  · rw [State.reg_setReg_other _ _ _ _ _ _ _ _ (by simp), State.firmwareStarts_reg, hbootb]
  · rw [State.reg_setReg_other _ _ _ _ _ _ _ _ (by simp), State.firmwareStarts_reg, hversion]

/-! #### Stage 2: the parts' firmware (R34, R360) -/

theorem State.remeasure_pw (s : State) (k : Nat) : (s.remeasure k).pw = s.pw := rfl

theorem State.settleDict_pw (s : State) : s.settleDict.pw = s.pw := rfl

theorem State.warn_sel (s : State) (k : Nat) (on : Bool) : (s.warn k on).pw.sel = s.pw.sel := rfl

theorem State.activate_sel (s : State) (n source : Nat) : (s.activate n source).pw.sel = s.pw.sel := by
  have hload : ∀ k, (s.loadSlot k false).pw = s.pw := fun k =>
    Part.same_of_mask .pw (State.loadSlot_parts (M := 2097152) s k false) (by decide)
  unfold State.activate
  extract_lets bad slot u v w
  have hpw : w.pw = s.pw := by
    unfold w v u
    rw [State.remeasure_pw, State.setOd_pw, State.setOd_pw, State.setOd_pw, State.settleDict_pw, hload]
  clear_value w
  split
  · rw [State.warn_sel, State.moduleFault_pw, hpw]
  · rw [hpw]

theorem State.stageFirmware_effect (s : State) (sel : Nat) : (s.stageFirmware sel).reg F.BC_BOOT_STAGE = 3 ∧
    (s.stageFirmware sel).reg F.PWR_STATUS_STANDBY = 1 ∧ (s.stageFirmware sel).pw.sel = sel := by
  unfold State.stageFirmware
  refine ⟨?_, ?_, ?_⟩
  · rw [State.reg_setReg_other _ _ _ _ _ _ _ _ (by simp), State.reg_setReg_same]
    rfl
  · rw [State.reg_setReg_same]
    rfl
  · rw [State.setReg_pw, State.setReg_pw]
    refine Eq.trans ?_ (State.activate_sel { s with pw := { s.pw with sel := sel } } sel 0)
    generalize State.activate _ _ _ = u
    split <;> rfl

/-! #### Stage 3: standby (R31, R39, R41) -/

theorem State.stageStandby_effect {s : State} (hen : s.pw.pwrEn = true) (hflow : 4000 ≤ s.flow)
    (htrip : s.reg F.PWR_STATUS_TRIP = 0) (hleak : s.reg F.PWR_STATUS_LEAK = 0) (hparts : s.pw.tileFw.len ≠ 0) :
    s.stageStandby.reg F.BC_BOOT_STAGE = 4 ∧ s.stageStandby.reg F.PWR_STATUS_STANDBY = 0 ∧ s.stageStandby.pw.phase = 0 ∧
    s.stageStandby.pw.rail = 0 ∧ s.stageStandby.pw.tries = 0 ∧
    s.onlyRegs { s.stageStandby with pw := s.pw } [F.BC_BOOT_STAGE.key 0 0, F.PWR_STATUS_STANDBY.key 0 0] := by
  have hgo : ¬ (!s.pw.pwrEn || decide (s.flow < 4000) || s.reg F.PWR_STATUS_TRIP = 1 || s.reg F.PWR_STATUS_LEAK = 1 ||
      s.pw.tileFw.len = 0) = true := by simp [hen, hflow, htrip, hleak, hparts]
  have hstep : s.stageStandby = { (s.setReg F.BC_BOOT_STAGE 4).setReg F.PWR_STATUS_STANDBY 0 with
      pw := { s.pw with phase := 0, rail := 0, tries := 0 } } := if_neg hgo
  have hreg : ∀ f i j, s.stageStandby.reg f i j =
      ((s.setReg F.BC_BOOT_STAGE 4).setReg F.PWR_STATUS_STANDBY 0).reg f i j := fun f i j => by rw [hstep]; rfl
  have hpw : s.stageStandby.pw = { s.pw with phase := 0, rail := 0, tries := 0 } := by rw [hstep]
  refine ⟨?_, ?_, by rw [hpw], by rw [hpw], by rw [hpw], by rw [hstep]; rfl, fun f i j hkey => (hreg f i j).trans ?_⟩
  · rw [hreg, State.reg_setReg_other _ _ _ _ _ _ _ _ (by simp), State.reg_setReg_same]
    rfl
  · rw [hreg, State.reg_setReg_same]
    rfl
  · obtain ⟨hstage, hstandby⟩ := not_or.1 (fun h => hkey (List.mem_pair.2 h))
    rw [State.reg_setReg_other _ _ _ _ _ _ _ _ hstandby, State.reg_setReg_other _ _ _ _ _ _ _ _ hstage]

theorem State.stageStandby_off {s : State} (h : s.pw.pwrEn = false) : s.stageStandby = s := if_pos (by simp [h])

/-! #### Stage 5: the clocks (R32, R389) -/

theorem State.stageClocks_lock {s : State} (ready : Nat) (hpin : s.reg F.RST_STATE_PINLOW = 0) :
    (s.stageClocks ready true).reg F.CLK_PLL_MOD = 3 ∧ (s.stageClocks ready true).reg F.BC_BOOT_STAGE = 4 ∧
    (s.stageClocks ready true).fields = s.fields ∧ (s.stageClocks ready true).reports = s.reports := by
  have hparts := State.selectMref_parts (M := 8) s ready
  have hfields : (s.selectMref ready).fields = s.fields := Part.same_of_mask .fields hparts (by decide)
  have hreports : (s.selectMref ready).reports = s.reports := Part.same_of_mask .reports hparts (by decide)
  have hstep : s.stageClocks ready true = ((s.selectMref ready).setReg F.CLK_PLL_MOD 3).setReg F.BC_BOOT_STAGE 4 :=
    if_neg (by omega)
  rw [hstep]
  refine ⟨?_, ?_, hfields, hreports⟩
  · rw [State.reg_setReg_other _ _ _ _ _ _ _ _ (by simp), State.reg_setReg_same]
    rfl
  · rw [State.reg_setReg_same]
    rfl

theorem State.stageClocks_held {s : State} (ready : Nat) (lock : Bool) (hpin : s.reg F.RST_STATE_PINLOW = 1) :
    s.stageClocks ready lock = s := if_pos hpin

/-! #### Stages 6 and 7: the stacks' training and the crevasse maps (R194, R391, R493) -/

theorem State.stageTrain_stage {s : State} (io : StageInput) (h : s.rst.active = false) :
    (s.stageTrain io).reg F.BC_BOOT_STAGE = 7 := by
  rw [State.stageTrain, if_neg (by simp [h]), State.reg_setReg_same]
  rfl

/-- Pending row skips come into force: they join the rows that are skipped. -/
def Crev.settled (c : Crev) : Crev := { c with rows := c.pending.foldl (fun r x => insertAsc x r) c.rows, pending := [] }

theorem Crev.pending_foldl_settled (fs : List Nat) (m : SMap Crev) (f : Nat) (h : f ∈ fs ∨ (m.get Crev.zero f).pending = []) :
    ((fs.foldl (fun m f => SMap.upd Crev.zero m f Crev.settled) m).get Crev.zero f).pending = [] := by
  induction fs generalizing m with
  | nil => simpa using h
  | cons g gs ih =>
    refine ih _ ?_
    by_cases hf : f = g
    · subst hf
      exact .inr (congrArg Crev.pending (SMap.get_set_same _ _ _ _))
    · rw [show (SMap.upd Crev.zero m g Crev.settled).get Crev.zero f = m.get Crev.zero f from SMap.get_set_other _ _ _ _ _ hf]
      simpa [hf] using h

theorem State.stageMap_effect (s : State) (bad : List Nat) : (s.stageMap bad).reg F.BC_BOOT_STAGE = 8 ∧
    ∀ f, f < s.nFields → ((s.stageMap bad).log.crev.get Crev.zero f).pending = [] := by
  unfold State.stageMap
  refine ⟨State.reg_setReg_same _ _ _ _ _, fun f hf => ?_⟩
  extract_lets pend crev log u v drawn w
  have hsettled : (u.log.crev.get Crev.zero f).pending = [] :=
    Crev.pending_foldl_settled s.allFields s.log.crev f (.inl (List.mem_range.2 hf))
  have hv : v.log.crev = u.log.crev := by
    unfold v
    split <;> rfl
  have hw : w.log = v.log := by
    unfold w
    split
    · rfl
    · have hbad : (drawn.2.stageBad 7 (drawn.1 % 256) bad).log = drawn.2.log :=
        Part.same_of_mask .log (State.stageBad_parts (M := 16408) ..) (by decide)
      exact hbad
  rw [State.setReg_log, hw, hv, hsettled]

/-! #### Stage 8: HOST_READY (R332, R334, R387, R395) -/

/-- What the ledger's initialisation leaves alone once it has emptied the ledger memory. -/
def State.readyView (s : State) : SMap (BitVec 8) × SMap Session × Nat × Bool :=
  (s.ldg.mem, s.ldg.sessions, s.reg F.BC_BOOT_STAGE, s.pw.boot)

theorem State.signal_readyView (s : State) (port v : Nat) : (s.signal port v).readyView = s.readyView := by
  unfold State.signal
  split <;> rfl

theorem State.hpEvent_readyView (s : State) (port : Nat) (e : Fld) (h : F.BC_BOOT_STAGE.key 0 0 ≠ e.key port 0) :
    (s.hpEvent port e).readyView = s.readyView := by
  rw [State.hpEvent, State.signal_readyView, State.readyView, State.reg_setReg_other _ _ _ _ _ _ _ _ h]
  rfl

theorem State.setLedger_readyView (s : State) (v : Nat) : (s.setLedger v).readyView = s.readyView := by
  have hstate : ({ s with ldg := { s.ldg with state := v } } : State).readyView = s.readyView := rfl
  unfold State.setLedger
  generalize ({ s with ldg := { s.ldg with state := v } } : State) = u at *
  (repeat' split) <;> simp [State.hpEvent_readyView, hstate]

theorem State.refreshLedger_readyView (s : State) : s.refreshLedger.readyView = s.readyView := by
  unfold State.refreshLedger
  (repeat' split) <;> simp only [State.setLedger_readyView]

theorem State.stageBloom_full {s : State} (hlevel : s.pw.level = 4) (hrst : s.rst.active = false) :
    s.stageBloom.reg F.BC_BOOT_STAGE = 9 ∧ s.stageBloom.pw.boot = false ∧ s.stageBloom.ldg.mem = [] ∧
    s.stageBloom.ldg.sessions = [] := by
  rw [State.stageBloom, if_neg (not_not.2 hlevel), if_neg (by simp [hrst])]
  extract_lets settled stamped _ _ z
  have hz : z.readyView = ([], [], 9, false) := by
    have hreg : z.reg F.BC_BOOT_STAGE = 9 := by
      refine (State.reg_setReg_other _ _ _ _ _ _ _ _ (by simp)).trans ?_
      rw [State.reg_setReg_same]
      rfl
    rw [State.readyView, hreg]
  have hview : ((z.hpEvent 0 F.HP_EVENT_BOOTGEN).hpEvent 1 F.HP_EVENT_BOOTGEN).refreshLedger.readyView = z.readyView := by
    simp [State.refreshLedger_readyView, State.hpEvent_readyView]
  generalize ((z.hpEvent 0 F.HP_EVENT_BOOTGEN).hpEvent 1 F.HP_EVENT_BOOTGEN).refreshLedger = u at *
  rw [hz] at hview
  simp only [State.readyView, Prod.mk.injEq] at hview
  obtain ⟨hmem, hsessions, hstage, hboot⟩ := hview
  exact ⟨hstage, hboot, hmem, hsessions⟩

theorem State.stageBloom_kept {s : State} (hlevel : s.pw.level ≠ 4) (hlink : s.linkReset = false) :
    s.stageBloom.reg F.BC_BOOT_STAGE = 9 ∧ s.stageBloom.pw.boot = false ∧ s.stageBloom.ldg = s.ldg := by
  rw [State.stageBloom, if_pos hlevel, if_neg (by simp [hlink])]
  exact ⟨State.reg_setReg_same _ _ _ _ _, rfl, rfl⟩

/-! ### O13 -/

/-- Settles O13: a clause per stage, from what that stage leaves. -/
theorem startupStagesComplete : Obligations.StartupStagesComplete := by
  refine ⟨fun s io hb hk hflash => ⟨_, execStartupStage_at io hb hk, ?_⟩,
    fun s io b w hb hk hflash => ⟨_, execStartupStage_at io hb hk, State.stageRom_effect hflash⟩,
    fun s io hb hk => ⟨_, execStartupStage_at io hb hk, State.stageFirmware_effect s io.sel.val⟩,
    fun s io hb hk hen hflow htrip hleak hparts =>
      ⟨_, execStartupStage_at io hb hk, State.stageStandby_effect hen hflow htrip hleak hparts⟩,
    fun s io hb hk hen => (execStartupStage_at io hb hk).trans (congrArg _ (State.stageStandby_off hen)),
    fun s io hb hk hpin hlock => ⟨_, execStartupStage_at io hb hk, ?_⟩,
    fun s io hb hk hrst => ⟨_, execStartupStage_at io hb hk, State.stageTrain_stage io hrst⟩,
    fun s io hb hk => ⟨_, execStartupStage_at io hb hk, State.stageMap_effect s _⟩,
    fun s io hb hk hlevel hrst => ⟨_, execStartupStage_at io hb hk, State.stageBloom_full hlevel hrst⟩,
    fun s io hb hk hlevel hlink => ⟨_, execStartupStage_at io hb hk, State.stageBloom_kept hlevel hlink⟩,
    fun s io hb hk hpin => (execStartupStage_at io hb hk).trans (congrArg _ (State.stageClocks_held _ _ hpin)),
    fun s io hidle => ?_⟩
  · rw [State.afterStage_rom, State.stageRom_none hflash]
    exact State.recovery_effect s.deriveKeys
  · rw [State.afterStage_clocks, hlock]
    exact State.stageClocks_lock _ hpin
  · cases hboot : s.pw.boot with
    | false => exact execStartupStage_idle io hboot
    | true => exact execStartupStage_at io hboot (hidle.resolve_left (by simp [hboot]))

end Sys2Proof.Machine

/-!
PROOFS. The statements of spec 02_tile: the tile commands, the control core, the message interface and the system agent, and fields held
out.
-/

namespace Sys2Proof.Machine

/-! ### Places and tiles in two states

A tile's place depends on the fuses and the crevasse map of the logbook alone, and what it holds on the listed tiles of its
field besides. -/

theorem State.position_congr {s t : State} (hfuse : t.fuse = s.fuse) (hlog : t.log = s.log) (f key : Nat) :
    t.position f key = s.position f key := by
  simp only [State.position, State.crev, hfuse, hlog]

theorem State.pairAt_congr {s t : State} (hfuse : t.fuse = s.fuse) (hlog : t.log = s.log) (f key : Nat) :
    t.pairAt f key = s.pairAt f key := by
  simp only [State.pairAt, State.position_congr hfuse hlog]

theorem State.locate_congr {s t : State} (hfuse : t.fuse = s.fuse) (hlog : t.log = s.log) (a : Nat) :
    t.locate a = s.locate a := by
  simp only [State.locate, State.keyAt, State.crev, State.present, State.nFields, State.rows, hfuse, hlog]
  rfl

/-- An update of a field that leaves its tiles leaves every tile. -/
theorem State.tile_updField (s : State) (n : Nat) (g : FieldSt → FieldSt)
    (hg : ∀ x, (g x).logical = x.logical ∧ (g x).spare = x.spare ∧ (g x).tiles = x.tiles) (f key : Nat) :
    (s.updField n g).tile f key = s.tile f key := by
  have hpos : (s.updField n g).position f key = s.position f key := rfl
  unfold State.tile State.tileBase
  rw [hpos]
  by_cases hf : f = n
  · subst hf
    obtain ⟨hlogical, hspare, htiles⟩ := hg (s.field f)
    rw [State.field_updField_same, hlogical, hspare, htiles]
  · rw [State.field_updField_other _ _ _ _ hf]

@[simp] theorem State.tile_setReg (s : State) (r : Fld) (v i j f key : Nat) : (s.setReg r v i j).tile f key = s.tile f key := rfl
@[simp] theorem State.tile_satReg (s : State) (r : Fld) (i n f key : Nat) : (s.satReg r i n).tile f key = s.tile f key := rfl
@[simp] theorem State.tile_pkts (s : State) (l : List Flight) (f key : Nat) :
    ({ s with pkts := l } : State).tile f key = s.tile f key := rfl

@[simp] theorem State.tile_report (s : State) (r : Report) (f key : Nat) : (s.report r).tile f key = s.tile f key := by
  unfold State.report
  split
  · rfl
  · split
    · exact State.tile_updField s r.field (fun g => { g with queued := g.queued + 1 }) (fun _ => ⟨rfl, rfl, rfl⟩) f key
    · rfl

@[simp] theorem State.tile_collect (s : State) (n code lxy f key : Nat) : (s.collect n code lxy).tile f key = s.tile f key := by
  unfold State.collect
  split <;> rfl

@[simp] theorem State.tile_tileReport (s : State) (n k code acyc : Nat) (trig : Bool) (f key : Nat) :
    (s.tileReport n k code acyc trig).tile f key = s.tile f key := by
  simp only [State.tileReport, State.tile_report, State.tile_collect]

@[simp] theorem State.tile_fieldFault (s : State) (n code f key : Nat) : (s.fieldFault n code).tile f key = s.tile f key :=
  State.tile_report ..

@[simp] theorem State.tile_countBeats (s : State) (n now beats f key : Nat) :
    (s.countBeats n now beats).tile f key = s.tile f key := by
  unfold State.countBeats
  extract_lets s1 s2 anew s3
  have h2 : s2.tile f key = s.tile f key :=
    State.tile_updField s n (fun g => { g with beats := logBeats g.beats now beats }) (fun _ => ⟨rfl, rfl, rfl⟩) f key
  have h3 : s3.tile f key = s2.tile f key :=
    State.tile_updField s2 n (fun g => { g with excess := some now }) (fun _ => ⟨rfl, rfl, rfl⟩) f key
  split
  · rfl
  · split
    · exact h2
    · split
      · rw [State.tile_fieldFault, State.tile_satReg, h3, h2]
      · rw [h3, h2]

@[simp] theorem State.tile_drive (s : State) (x y now o : Nat) (tok : Tok) (f key : Nat) :
    (s.drive x y now o tok).tile f key = s.tile f key := by
  unfold State.drive
  split <;> rfl

theorem State.tile_stackUe_other (s : State) (n k a : Nat) (sched : Bool) (f key : Nat) (h : ¬ (f = n ∧ key = k)) :
    (s.stackUe n k a sched).1.tile f key = s.tile f key := by
  unfold State.stackUe
  extract_lets t p hs caches plain onlyRes w s1 s2 s3 s4
  have h1 : s1.tile f key = s.tile f key := State.tile_setTile_other _ _ _ _ _ _ h
  have h2 : s2.tile f key = s1.tile f key := by unfold s2; split <;> rfl
  have h3 : s3.tile f key = s2.tile f key := State.tile_satReg ..
  have h4 : s4.tile f key = s3.tile f key := by
    unfold s4
    clear_value s3
    split
    · simp only [State.tile_setReg]
    · rfl
  exact h4.trans (h3.trans (h2.trans h1))

/-! ### Work of a tile, as its surroundings take it in

`State.absorb` in three steps: the tile's memories with the counters of its beats and words, its reports, and the rest. -/

/-- The uncorrectable stack words at byte addresses are handled one after the other. The Bool says that one is an abort trigger. -/
def State.stackUes (s : State) (f key : Nat) (l : List Nat) (sched : Bool) : State × Bool :=
  l.foldl (fun (r : State × Bool) a =>
    let q := r.1.stackUe f key a sched
    (q.1, r.2 || q.2)) (s, false)

/-- The tile written, its words on their links, and its beats and stack words counted and handled. -/
def State.absorbMem (s : State) (f key : Nat) (w : TW) : State × Bool :=
  let p := s.tpos f key
  let s := w.words.foldl (fun s o => s.drive p.lx p.ly w.now o.1 o.2) (s.setTile f key w.t)
  ((s.countBeats f w.now w.beats).satReg F.FLD_STK_ECC_CE_COUNT f w.stkCe).stackUes f key w.stkUe.reverse w.inval

/-- The reports of the tile's faults, oldest first. -/
def State.absorbFaults (s : State) (f key : Nat) (w : TW) (ue : Bool) : State :=
  w.faults.reverse.foldl (fun s c =>
    s.tileReport f key c (w.t.secAcyc w.now) (trigCode c && (w.inval || (c = Code.eccStkUe && ue)))) s

/-- What the tile's work leaves before its packets join the mesh. -/
def State.absorbWork (s : State) (f key : Nat) (w : TW) : State :=
  let r := s.absorbMem f key w
  let s := r.1.absorbFaults f key w r.2
  (if w.inval then s.invalidate else s).satReg F.FLD_STK_REF_CLASH f
    (w.faults.filter (fun c => c = Code.stkRefreshClash)).length

theorem State.absorb_eq (s : State) (f key : Nat) (w : TW) : s.absorb f key w = { s.absorbWork f key w with
    pkts := (s.absorbWork f key w).pkts ++ w.pkts.map (fun q =>
      ⟨(s.absorbWork f key w).pairAt f key, (s.absorbWork f key w).pairAt f key, q⟩) } := rfl

theorem foldl_fst_keeps {α β γ : Type} (p : State → β) (g : State × γ → α → State × γ) (h : ∀ r x, p (g r x).1 = p r.1)
    (l : List α) (r : State × γ) : p (l.foldl g r).1 = p r.1 := by
  induction l generalizing r with
  | nil => rfl
  | cons a l ih => rw [List.foldl_cons, ih, h]

theorem State.tile_absorbFaults (s : State) (n k : Nat) (w : TW) (ue : Bool) (f key : Nat) :
    (s.absorbFaults n k w ue).tile f key = s.tile f key :=
  foldl_keeps (fun u => u.tile f key) _ (fun _ _ => State.tile_tileReport ..) _ _

theorem State.tile_driveAll (s : State) (x y now : Nat) (l : List (Nat × Tok)) (f key : Nat) :
    (l.foldl (fun s o => s.drive x y now o.1 o.2) s).tile f key = s.tile f key :=
  foldl_keeps (fun u => u.tile f key) _ (fun _ _ => State.tile_drive ..) _ _

theorem State.tile_stackUes_other (s : State) (n k : Nat) (l : List Nat) (sched : Bool) (f key : Nat)
    (h : ¬ (f = n ∧ key = k)) : (s.stackUes n k l sched).1.tile f key = s.tile f key := by
  refine foldl_fst_keeps (fun u => u.tile f key) _ (fun r a => ?_) l (s, false)
  exact State.tile_stackUe_other r.1 n k a sched f key h

theorem State.tile_absorbMem_other (s : State) (n k : Nat) (w : TW) (f key : Nat) (h : ¬ (f = n ∧ key = k)) :
    (s.absorbMem n k w).1.tile f key = s.tile f key := by
  simp only [State.absorbMem, State.tile_stackUes_other _ _ _ _ _ _ _ h, State.tile_satReg, State.tile_countBeats,
    State.tile_driveAll, State.tile_setTile_other _ _ _ _ _ _ h]

theorem State.tile_absorbMem_same (s : State) (f key : Nat) (w : TW) (h : w.stkUe = []) :
    (s.absorbMem f key w).1.tile f key = w.t := by
  simp only [State.absorbMem, State.stackUes, h, List.reverse_nil, List.foldl_nil, State.tile_satReg,
    State.tile_countBeats, State.tile_driveAll, State.tile_setTile_same]

theorem State.tile_absorb (s : State) (n k : Nat) (w : TW) (f key : Nat) :
    (s.absorb n k w).tile f key = (s.absorbMem n k w).1.tile f key := by
  have hinval : ∀ u : State, (if w.inval then u.invalidate else u).tile f key = u.tile f key := fun u => by split <;> rfl
  simp only [State.absorb_eq, State.absorbWork, State.tile_pkts, State.tile_satReg, hinval, State.tile_absorbFaults]

/-- Work of a tile changes no other tile. -/
theorem State.tile_absorb_other (s : State) (n k : Nat) (w : TW) (f key : Nat) (h : ¬ (f = n ∧ key = k)) :
    (s.absorb n k w).tile f key = s.tile f key := by
  rw [State.tile_absorb, State.tile_absorbMem_other _ _ _ _ _ _ h]

/-- A tile whose work met no uncorrectable stack word is as the work left it. -/
theorem State.tile_absorb_same (s : State) (f key : Nat) (w : TW) (h : w.stkUe = []) : (s.absorb f key w).tile f key = w.t := by
  rw [State.tile_absorb, State.tile_absorbMem_same _ _ _ _ h]

/-! ### Quiet work: what the surroundings see of it -/

/-- The work drives no word, issues no scheduled beat and meets no uncorrectable stack word. -/
structure TW.Quiet (w : TW) : Prop where
  words : w.words = []
  beats : w.beats = 0
  stkUe : w.stkUe = []

/-- The work is quiet and records no fault: the tile and the packets it sends are all there is to see. -/
structure TW.Clean (w : TW) : Prop extends w.Quiet where
  faults : w.faults = []
  inval : w.inval = false

theorem TW.clean_start (t : Tile) (now : Nat) : (TW.start t now).Clean := ⟨⟨rfl, rfl, rfl⟩, rfl, rfl⟩

theorem State.absorbMem_quiet (s : State) (f key : Nat) {w : TW} (h : w.Quiet) :
    s.absorbMem f key w = ((s.setTile f key w.t).satReg F.FLD_STK_ECC_CE_COUNT f w.stkCe, false) := by
  simp [State.absorbMem, State.stackUes, State.countBeats, h.words, h.beats, h.stkUe]

theorem State.absorbFaults_parts (s : State) (f key : Nat) (w : TW) (ue : Bool) :
    (s.absorbFaults f key w ue).mask 16408 = s.mask 16408 :=
  mask_foldl _ _ (fun _ _ => by exact State.tileReport_parts ..) _ _

theorem State.stackUes_parts (s : State) (f key : Nat) (l : List Nat) (sched : Bool) :
    (s.stackUes f key l sched).1.mask 4194328 = s.mask 4194328 :=
  mask_foldl1 _ _ (fun _ _ => by exact State.stackUe_parts _ _ _ _ sched) _ _

theorem State.driveAll_parts (s : State) (x y now : Nat) (l : List (Nat × Tok)) :
    (l.foldl (fun s o => s.drive x y now o.1 o.2) s).mask 131104 = s.mask 131104 :=
  mask_foldl _ _ (fun _ _ => by exact State.drive_parts ..) _ _

/-- Of quiet work the state shows the tile, the field's counters, the reports, the packets, and an invalid section. -/
theorem State.absorbWork_quiet (s : State) (f key : Nat) {w : TW} (h : w.Quiet) (hi : w.inval = false) :
    (s.absorbWork f key w).mask 16408 = s.mask 16408 := by
  simp only [State.absorbWork, State.absorbMem_quiet s f key h, hi, Bool.false_eq_true, if_false, State.satReg_parts,
    State.absorbFaults_parts, State.setTile_parts, Nat.reduceAnd]

theorem State.absorb_fuse (s : State) (f key : Nat) (w : TW) : (s.absorb f key w).fuse = s.fuse :=
  Part.same_of_mask .fuse (State.absorb_parts (M := 4345976) s f key w) (by decide)

theorem State.absorb_log (s : State) (f key : Nat) (w : TW) : (s.absorb f key w).log = s.log :=
  Part.same_of_mask .log (State.absorb_parts (M := 4345976) s f key w) (by decide)

theorem State.absorb_pairAt (s : State) (f key : Nat) (w : TW) (g k : Nat) :
    (s.absorb f key w).pairAt g k = s.pairAt g k :=
  State.pairAt_congr (s.absorb_fuse f key w) (s.absorb_log f key w) g k

theorem State.absorbWork_pkts (s : State) (f key : Nat) (w : TW) : (s.absorbWork f key w).pkts = s.pkts := by
  have hfaults := fun (u : State) ue => mask_mono (M := 4345912) (u.absorbFaults_parts f key w ue) (by decide)
  have hues := fun (u : State) l sched => mask_mono (M := 4345912) (u.stackUes_parts f key l sched) (by decide)
  have hwords := fun (u : State) x y now l => mask_mono (M := 4345912) (u.driveAll_parts x y now l) (by decide)
  refine Part.same_of_mask .pkts (m := 4345912) ?_ (by decide)
  simp only [State.absorbWork, State.absorbMem, mask_ite, State.invalidate_parts, State.satReg_parts, hfaults, hues, hwords,
    State.countBeats_parts, State.setTile_parts, Nat.reduceAnd, ite_self]

/-- The packets that a tile sends join the mesh at the tile. -/
theorem State.absorb_pkts (s : State) (f key : Nat) (w : TW) :
    (s.absorb f key w).pkts = s.pkts ++ w.pkts.map (fun q => ⟨s.pairAt f key, s.pairAt f key, q⟩) := by
  have hpair : (s.absorbWork f key w).pairAt f key = s.pairAt f key := s.absorb_pairAt f key w f key
  rw [State.absorb_eq, hpair, s.absorbWork_pkts]

section Quiet
variable {s : State} {f key : Nat} {w : TW} (h : w.Quiet)
include h

theorem State.absorb_quiet_run (hi : w.inval = false) : (s.absorb f key w).run = s.run := by
  have hrun : (s.absorb f key w).run = (s.absorbWork f key w).run := rfl
  rw [hrun]
  exact Part.same_of_mask .run (s.absorbWork_quiet f key h hi) (by decide)

end Quiet

section Clean
variable {s : State} {f key : Nat} {w : TW} (h : w.Clean)
include h

theorem State.absorb_clean : s.absorb f key w =
    { ((s.setTile f key w.t).satReg F.FLD_STK_ECC_CE_COUNT f w.stkCe).satReg F.FLD_STK_REF_CLASH f 0 with
      pkts := s.pkts ++ w.pkts.map (fun q => ⟨s.pairAt f key, s.pairAt f key, q⟩) } := by
  have hwork : s.absorbWork f key w =
      ((s.setTile f key w.t).satReg F.FLD_STK_ECC_CE_COUNT f w.stkCe).satReg F.FLD_STK_REF_CLASH f 0 := by
    simp [State.absorbWork, State.absorbMem_quiet s f key h.toQuiet, State.absorbFaults, h.faults, h.inval]
  rw [State.absorb_eq, hwork]
  rfl

theorem State.absorb_clean_tile : (s.absorb f key w).tile f key = w.t := State.tile_absorb_same _ _ _ _ h.stkUe

theorem State.absorb_clean_reports : (s.absorb f key w).reports = s.reports := by rw [State.absorb_clean h]; rfl

theorem State.absorb_clean_run : (s.absorb f key w).run = s.run := State.absorb_quiet_run h.toQuiet h.inval

end Clean

/-! ### A report of a tile -/

theorem State.collect_reports (s : State) (f code lxy : Nat) : (s.collect f code lxy).reports = s.reports := by
  unfold State.collect
  split <;> rfl

theorem State.collect_field (s : State) (f code lxy g : Nat) : (s.collect f code lxy).field g = s.field g := by
  unfold State.collect
  split <;> rfl

theorem State.reports1_tileReport (s : State) (f key code acyc : Nat) (trig : Bool) (hroom : (s.field f).queued < 64) :
    s.reports1 (s.tileReport f key code acyc trig) code := by
  have hroom' : ¬ 64 ≤ ((s.collect f code (s.pairAt f key)).field f).queued := by rw [State.collect_field]; omega
  unfold State.tileReport State.report State.reports1
  simp [hroom', State.collect_reports, State.updField]

theorem State.setTile_queued (s : State) (f key : Nat) (t : Tile) (g : Nat) :
    ((s.setTile f key t).field g).queued = (s.field g).queued := by
  by_cases hg : g = f
  · subst hg
    simp [State.setTile]
  · simp [State.setTile, State.field_updField_other _ _ _ _ hg]

theorem State.reports1_absorbFaults {s : State} {f key : Nat} {w : TW} {code : Nat} (ue : Bool) (hf : w.faults = [code])
    (hroom : (s.field f).queued < 64) : s.reports1 (s.absorbFaults f key w ue) code := by
  rw [State.absorbFaults, hf]
  exact State.reports1_tileReport s f key code _ _ hroom

/-- Quiet work that records one fault adds its report behind those that wait. -/
theorem State.absorb_reports1 {s : State} {f key : Nat} {w : TW} {code : Nat} (h : w.Quiet) (hf : w.faults = [code])
    (hroom : (s.field f).queued < 64) : s.reports1 (s.absorb f key w) code := by
  have hreports : (s.absorb f key w).reports =
      (((s.setTile f key w.t).satReg F.FLD_STK_ECC_CE_COUNT f w.stkCe).absorbFaults f key w false).reports := by
    rw [State.absorb_eq, State.absorbWork, State.absorbMem_quiet s f key h]
    cases w.inval <;> rfl
  obtain ⟨r, hr, hcode⟩ := State.reports1_absorbFaults (s := (s.setTile f key w.t).satReg F.FLD_STK_ECC_CE_COUNT f w.stkCe)
    (key := key) false hf (by rwa [State.satReg_field, State.setTile_queued])
  exact ⟨r, hreports.trans hr, hcode⟩

theorem State.absorb_invalid {s : State} {f key : Nat} {w : TW} (hi : w.inval = true) : (s.absorb f key w).run.invalid = true := by
  simp [State.absorb_eq, State.absorbWork, hi, State.invalidate]

theorem State.absorb_links {s : State} {f key : Nat} {w : TW} (h : w.words = []) : (s.absorb f key w).links = s.links := by
  have hfaults := fun (u : State) ue => mask_mono (M := 4214808) (u.absorbFaults_parts f key w ue) (by decide)
  have hues := fun (u : State) l sched => mask_mono (M := 4214808) (u.stackUes_parts f key l sched) (by decide)
  have hlinks : (s.absorb f key w).links = (s.absorbWork f key w).links := rfl
  rw [hlinks]
  refine Part.same_of_mask .links (m := 4214808) ?_ (by decide)
  simp only [State.absorbWork, State.absorbMem, h, List.foldl_nil, mask_ite, State.invalidate_parts, State.satReg_parts, hfaults,
    hues, State.countBeats_parts, State.setTile_parts, Nat.reduceAnd, ite_self]

/-! ### Commands of the compute side -/

section Serves
variable {s : State} {a f key : Nat} (hloc : s.locate a = some (f, key)) (hserves : s.coreServes f = true)
include hloc

theorem State.atTile_located (g : State → Nat → Nat → TPos → Tile → TW) :
    s.atTile a g = s.absorb f key (g s f key (s.tpos f key) (s.tile f key)) := by
  simp only [State.atTile, hloc]

include hserves

theorem State.coreWork_served {g : State → Nat → TPos → TW → TW} {w : TW}
    (hw : g s f (s.tpos f key) (TW.start (s.tile f key) s.acyc) = w) : s.coreWork a g = s.absorb f key w := by
  simp only [State.coreServes, Bool.and_eq_true, Bool.not_eq_true'] at hserves
  obtain ⟨⟨hreset, hdark⟩, hon⟩ := hserves
  rw [State.coreWork, State.atTile_located hloc, ← hw]
  simp [hreset, hdark, hon]

theorem State.coreWork_ungated (hgate : s.coreGated f = false) {g : State → Nat → TPos → TW → TW} {w : TW}
    (hw : g s f (s.tpos f key) (TW.start (s.tile f key) s.acyc) = w) :
    s.coreWork a (fun s f p w => if s.coreGated f then w else g s f p w) = s.absorb f key w :=
  State.coreWork_served hloc hserves (by simp [hgate, hw])

end Serves

end Sys2Proof.Machine

namespace Sys2Proof.Machine

/-! ### The control-point event queue -/

/-- A waiting core whose tag 0x3FF is unbound drops the oldest event and does nothing else (R536). -/
theorem TW.dispatch_unbound {t : Tile} {now : Nat} {ev : Byte} {rest : List Byte} (hwait : t.core.state = .waiting)
    (hevq : t.seq.evq = ev :: rest) (hunbound : (t.core.tags.get TagEntry.zero 0x3FF).valid = false) :
    (TW.start t now).dispatch = TW.start { t with seq := { t.seq with evq := rest } } now := by
  simp [TW.dispatch, TW.start, hwait, hevq, hunbound]

/-- Settles O26: the dispatch is the tile's work of `TW.dispatch_unbound`, which is clean and sends nothing. -/
theorem unboundControlPointEventsAreDiscarded : Obligations.UnboundControlPointEventsAreDiscarded := by
  intro s a f key ev rest hloc hserves hgate hwait hevq hunbound
  have hclean := TW.clean_start { s.tile f key with seq := { (s.tile f key).seq with evq := rest } } s.acyc
  exact ⟨_, congrArg Host.Outcome.next (State.coreWork_ungated hloc hserves hgate (TW.dispatch_unbound hwait hevq hunbound)),
    State.absorb_clean_tile hclean, State.absorb_clean_reports hclean, State.absorb_clean_run hclean,
    (State.absorb_pkts ..).trans (List.append_nil _)⟩

/-! ### The commands of the tile registers -/

theorem Tile.setCmd_status (t : Tile) (st op : Fld) (status code : Nat) (h : st.key 0 0 ≠ op.key 0 0) :
    (t.setCmd st op status code).reg st = status % 2 ^ st.w :=
  (Tile.reg_setReg_other _ _ _ _ _ _ h).trans (Tile.reg_setReg_same ..)

theorem Tile.setCmd_op (t : Tile) (st op : Fld) (status code : Nat) : (t.setCmd st op status code).reg op = code % 2 ^ op.w :=
  Tile.reg_setReg_same ..

theorem Tile.cmdArm_accepted {t : Tile} (hidle : t.scrOp = .none)
    (hstate : t.seq.state = .halt ∨ t.seq.state = .idle ∧ t.seq.actValid = true) :
    t.cmdArm = ({ t with seq := { t.seq with state := .armed, cmdArm := true } }).setCmd F.SCH_CMD_STATUS F.SCH_CMD_OP 0 1 :=
  if_pos (by simpa [hidle] using hstate)

theorem Tile.cmdArm_refused {t : Tile} (hstate : t.seq.state = .run ∨ t.seq.state = .done ∨ t.seq.state = .armed) :
    t.cmdArm = t.setCmd F.SCH_CMD_STATUS F.SCH_CMD_OP 2 1 :=
  if_neg (by rcases hstate with h | h | h <;> simp [h])

theorem Tile.cmdHalt_accepted {t : Tile} (hstate : t.seq.state = .run ∨ t.seq.state = .done ∨ t.seq.state = .armed) :
    t.cmdHalt = ({ t with seq := { t.seq with state := .halt, cmdArm := false } }).setCmd F.SCH_CMD_STATUS F.SCH_CMD_OP 0 2 :=
  if_pos (by simpa [or_assoc] using hstate)

section Scratch
variable {t : Tile} (hstate : t.seq.state = .idle ∨ t.seq.state = .halt) (hidle : t.scrOp = .none)
include hstate hidle

theorem Tile.cmdScrub_accepted : t.cmdScrub = ({ t with scrOp := .scrub }).setCmd F.SCR_CMD_STATUS F.SCR_CMD_OP 1 1 :=
  if_pos (by simpa [hidle] using hstate)

theorem Tile.cmdZeroize_accepted :
    t.cmdZeroize = ({ t.zeroScratch with scrOp := .zeroize }).setCmd F.SCR_CMD_STATUS F.SCR_CMD_OP 1 2 :=
  if_pos (by simpa [hidle] using hstate)

end Scratch

theorem Tile.cmdRun_accepted {t : Tile} (now : Nat) (hstate : t.core.state = .held ∨ t.core.state = .waiting) :
    t.cmdRun now = (t.startRun now).setCmd F.CC_CMD_STATUS F.CC_CMD_OP 0 1 := if_pos (by simpa using hstate)

theorem Tile.cmdRestart_accepted {t : Tile} (now : Nat) (hstate : t.core.state = .trap ∨ t.core.state = .lockup) :
    t.cmdRestart now = (t.startRun now).setCmd F.CC_CMD_STATUS F.CC_CMD_OP 0 3 := if_pos (by simpa using hstate)

/-! ### Scrub -/

theorem SMap.get_unlisted {α : Type} (d : α) (m : SMap α) (i : Nat) (h : ∀ p, p ∈ m → i ≠ p.1) : SMap.get d m i = d := by
  induction m with
  | nil => rfl
  | cons p r ih =>
    obtain ⟨k, v⟩ := p
    rw [SMap.get, if_neg (h (k, v) (by simp)), ih (fun q hq => h q (by simp [hq]))]

/-- A map of a sorted list's values, with the values that an unlisted key reads as left out. -/
theorem SMap.get_filter_map {α : Type} [DecidableEq α] (d : α) (g : α → α) (hd : g d = d) (m : SMap α) (i : Nat)
    (hm : m.Pairwise (fun a b => a.1 < b.1)) :
    SMap.get d ((m.map (fun p => (p.1, g p.2))).filter (fun p => decide (p.2 ≠ d))) i = g (SMap.get d m i) := by
  induction m with
  | nil => exact hd.symm
  | cons p r ih =>
    obtain ⟨k, v⟩ := p
    obtain ⟨hlt, hr⟩ := List.pairwise_cons.1 hm
    replace ih := ih hr
    simp only [ne_eq, decide_not] at ih
    by_cases hi : i = k
    · subst hi
      have hrest : SMap.get d r i = d := SMap.get_unlisted _ _ _ fun p hp => (hlt p hp).ne
      by_cases hv : g v = d
      · simp [hv, ih, hrest, SMap.get, hd]
      · simp [hv, SMap.get]
    · by_cases hv : g v = d <;> simp [hv, ih, SMap.get, hi]

/-- A read of a map whose listed values all have a property, which the unlisted value has too, has it. -/
theorem SMap.get_forall {α : Type} {d : α} {p : α → Prop} (hd : p d) (m : SMap α) (i : Nat) (h : ∀ e, e ∈ m → p e.2) :
    p (SMap.get d m i) := by
  induction m with
  | nil => exact hd
  | cons e r ih =>
    obtain ⟨k, v⟩ := e
    rw [SMap.get]
    split
    · exact h (k, v) (by simp)
    · exact ih fun q hq => h q (by simp [hq])

theorem scrubWord_zero : scrubWord CWord.zero = CWord.zero := rfl

theorem scrubWord_correctable {w : CWord} (h : w.ecc ≠ .multi) : scrubWord w = { w with err := 0 } := by
  unfold scrubWord
  split
  · contradiction
  · rfl

/-- A scrub of scratch without an uncorrectable word corrects every word (R69). -/
theorem Tile.scrWord_scrubAll {t u : Tile} (hu : u.scratch = scrubAll t.scratch) (hwf : SMap.wf CWord.zero t.scratch = true)
    (hgood : ∀ e, e ∈ t.scratch → e.2.ecc ≠ .multi) (i : Nat) : u.scrWord i = { t.scrWord i with err := 0 } := by
  simp only [SMap.wf, Bool.and_eq_true, SMap.sorted_iff_pairwise] at hwf
  obtain ⟨hsorted, -⟩ := hwf
  have hread : u.scrWord i = scrubWord (t.scrWord i) := by
    rw [Tile.scrWord, hu]
    exact SMap.get_filter_map CWord.zero scrubWord scrubWord_zero t.scratch _ hsorted
  rw [hread]
  exact scrubWord_correctable (SMap.get_forall (p := fun w => w.ecc ≠ .multi) (by decide) t.scratch _ hgood)

/-- A tile whose scrub or zeroize has ended, with the scratch given. -/
def Tile.scrubEnded (t : Tile) (m : SMap CWord) : Tile := ({ t with scrOp := .none, scratch := m }).setReg F.SCR_CMD_STATUS 0

theorem TW.scrubDone_zeroize {t : Tile} (now : Nat) (hop : t.scrOp = .zeroize) :
    (TW.start t now).scrubDone = TW.start (t.scrubEnded t.scratch) now := by
  simp [TW.scrubDone, TW.start, TW.upd, hop, Tile.scrubEnded]

theorem filter_uncorrectable {m : SMap CWord} (hgood : ∀ e, e ∈ m → e.2.ecc ≠ .multi) :
    m.filter (fun p => p.2.ecc = .multi) = [] := by simpa using hgood

theorem TW.scrubDone_scrub {t : Tile} (now : Nat) (hop : t.scrOp = .scrub) (hgood : ∀ e, e ∈ t.scratch → e.2.ecc ≠ .multi) :
    ∃ n, (TW.start t now).scrubDone = TW.start ((t.countSat F.SCR_ECC_CE_COUNT n).scrubEnded (scrubAll t.scratch)) now := by
  refine ⟨(t.scratch.filter (fun p => p.2.ecc = .one)).length, ?_⟩
  have hbad := filter_uncorrectable hgood
  simp only [TW.scrubDone, TW.start, TW.upd, hop, hbad, List.foldl_nil]
  rfl

/-- SCRUB_DONE that meets no upset and no uncorrectable word reloads nothing. -/
theorem execScrubDone_eq {s : State} {a : Addr} {f key : Nat} (hloc : s.locate a.toNat = some (f, key))
    (h : (s.tile f key).scrOp ≠ .scrub ∨ ∀ e, e ∈ (s.tile f key).scratch → e.2.ecc ≠ .multi) :
    execScrubDone a [] s = .next (s.coreWork a.toNat (fun _ _ _ w => w.scrubDone)) := by
  unfold execScrubDone
  simp only [hloc]
  refine congrArg Host.Outcome.next (if_neg fun hcond => ?_)
  simp only [List.foldl_nil, Bool.and_eq_true] at hcond
  obtain ⟨⟨hop, -⟩, hlost⟩ := hcond
  rcases h with hnot | hgood
  · exact hnot (of_decide_eq_true hop)
  · simp [filter_uncorrectable hgood] at hlost


/-! ### O23 -/

section Serves
variable {s : State} {a : Addr} {f key : Nat} (hloc : s.locate a.toNat = some (f, key))
include hloc

/-- A command of the sequencer, where no reset of the field holds it. -/
theorem State.atTile_seqCmd {g : Tile → Tile} (hreset : s.inReset f = false) :
    s.seqCmd a.toNat g = s.absorb f key (TW.start (g (s.tile f key)) s.acyc) := by
  rw [State.seqCmd, State.atTile_located hloc]
  simp [hreset]

/-- A command of the compute side that only changes the tile. -/
theorem State.coreWork_upd (hserves : s.coreServes f = true) (g : State → Tile → Tile) :
    s.coreWork a.toNat (fun s _ _ w => w.upd (g s)) = s.absorb f key (TW.start (g s (s.tile f key)) s.acyc) :=
  State.coreWork_served hloc hserves rfl

/-- ARM of a tile in a field out of reset is `Tile.cmdArm`, or a refusal while the release of the field has not passed step 8. -/
theorem execArm_located (hreset : s.inReset f = false) : execArm a s = .next (s.absorb f key (TW.start
    (if s.rst.active && (s.rst.all || bitOf s.rst.fields f) then (s.tile f key).setCmd F.SCH_CMD_STATUS F.SCH_CMD_OP 2 1
      else (s.tile f key).cmdArm) s.acyc)) := by
  rw [execArm, State.atTile_located hloc]
  simp [hreset]

end Serves

theorem Res.next_congr {s t : State} (h : s = t) : (Host.Outcome.next s : Res) = .next t := congrArg _ h

/-- The tile after work that only changed it. -/
theorem State.tile_absorb_start (s : State) (f key : Nat) (t : Tile) (now : Nat) :
    (s.absorb f key (TW.start t now)).tile f key = t := State.absorb_clean_tile (TW.clean_start t now)

/-- Settles O23: a clause per command, from the equation of its accepting or refusing branch. -/
theorem tileCommandRegistersComplete : Obligations.TileCommandRegistersComplete := by
  refine ⟨fun s a f key hloc hreset hrel hidle hstate => ⟨_, execArm_located hloc hreset, ?_⟩,
    fun s a f key hloc hreset hstate => ⟨_, execArm_located hloc hreset, ?_⟩,
    fun s a f key hloc hreset hstate => ⟨_, Res.next_congr (State.atTile_seqCmd hloc hreset), ?_⟩,
    fun s a f key hloc hserves hstate hidle => ⟨_, Res.next_congr (State.coreWork_upd hloc hserves _), ?_⟩,
    fun s a f key hloc hserves hstate hidle => ⟨_, Res.next_congr (State.coreWork_upd hloc hserves _), ?_⟩,
    fun s a f key hloc hserves hop => ⟨_, (execScrubDone_eq hloc (.inl (by simp [hop]))).trans
      (Res.next_congr (State.coreWork_served hloc hserves (TW.scrubDone_zeroize _ hop))), ?_⟩,
    fun s a f key hloc hserves hop hwf hgood => ?_,
    fun s a f key hloc hserves hstate => ⟨_, Res.next_congr (State.coreWork_upd hloc hserves _), ?_⟩,
    fun s a f key hloc hserves => ⟨_, Res.next_congr (State.coreWork_upd hloc hserves _), ?_⟩,
    fun s a f key hloc hserves hstate => ⟨_, Res.next_congr (State.coreWork_upd hloc hserves _), ?_⟩⟩
  · rw [State.tile_absorb_start, hrel, if_neg (by simp), Tile.cmdArm_accepted hidle hstate]
    exact ⟨rfl, Tile.setCmd_status _ _ _ _ _ (by decide), Tile.setCmd_op ..⟩
  · rw [State.tile_absorb_start, Tile.cmdArm_refused hstate, ite_self]
    exact ⟨rfl, Tile.setCmd_status _ _ _ _ _ (by decide)⟩
  · rw [State.tile_absorb_start, Tile.cmdHalt_accepted hstate]
    exact ⟨rfl, Tile.setCmd_status _ _ _ _ _ (by decide), Tile.setCmd_op ..⟩
  · rw [State.tile_absorb_start, Tile.cmdScrub_accepted hstate hidle]
    exact ⟨rfl, Tile.setCmd_status _ _ _ _ _ (by decide), rfl⟩
  · rw [State.tile_absorb_start, Tile.cmdZeroize_accepted hstate hidle]
    exact ⟨rfl, Tile.setCmd_status _ _ _ _ _ (by decide), fun _ => rfl⟩
  · rw [State.tile_absorb_start]
    exact ⟨rfl, Tile.reg_setReg_same .., rfl⟩
  · obtain ⟨n, hdone⟩ := TW.scrubDone_scrub s.acyc hop hgood
    refine ⟨_, (execScrubDone_eq hloc (.inr hgood)).trans (Res.next_congr (State.coreWork_served hloc hserves hdone)), ?_⟩
    rw [State.tile_absorb_start]
    exact ⟨rfl, Tile.reg_setReg_same .., Tile.scrWord_scrubAll rfl hwf hgood⟩
  · rw [State.tile_absorb_start, Tile.cmdRun_accepted _ hstate]
    exact ⟨rfl, rfl, Tile.setCmd_status _ _ _ _ _ (by decide)⟩
  · rw [State.tile_absorb_start]
    exact ⟨rfl, Tile.setCmd_status _ _ _ _ _ (by decide), Tile.setCmd_op ..⟩
  · rw [State.tile_absorb_start, Tile.cmdRestart_accepted _ hstate]
    exact ⟨rfl, rfl, Tile.setCmd_status _ _ _ _ _ (by decide)⟩

end Sys2Proof.Machine

namespace Sys2Proof.Machine

/-! ### O24: a word arrives at a full landing FIFO -/

/-- What decoding delivers of a word whose hop is not uncorrectable is the word as it was sent (R82). -/
theorem CWord.read_correctable {w : CWord} (h : w.ecc ≠ .multi) : w.read = ⟨w.data, w.tag, 0⟩ := if_neg h

/-- The decoder of an input counts a corrected hop and changes nothing else. -/
def Tile.hopped (t : Tile) (hop : BitVec 80) : Tile :=
  match errOutcome hop with
  | .good => t
  | _ => t.countSat F.RTR_ECC_CE_COUNT

theorem Tile.hopped_rtr (t : Tile) (hop : BitVec 80) : (t.hopped hop).rtr = t.rtr := by
  unfold Tile.hopped
  split <;> rfl

theorem Tile.hopped_reg (t : Tile) (hop : BitVec 80) (f : Fld) (h : f.key 0 0 ≠ F.RTR_ECC_CE_COUNT.key 0 0) :
    (t.hopped hop).reg f = t.reg f := by
  unfold Tile.hopped
  split
  · rfl
  · exact Tile.reg_setReg_other _ _ _ _ _ _ h

/-- A word of the tile's colour that finds 16 words in its landing FIFO is discarded with a fault (R78). -/
theorem TW.arrive_overflow {t : Tile} {now p : Nat} {tok : Tok} {hop : BitVec 80} (hhop : errOutcome hop ≠ .multi)
    (hcolour : tok.colour = t.seq.colour) (hfull : 16 ≤ (t.rtr.fifo p).length) :
    (TW.start t now).arrive p tok hop = (TW.start (t.hopped hop) now).fault Code.fifoOverflow := by
  have hread : (CWord.read ⟨tok.data, t.seq.colour, hop⟩).tag = t.seq.colour :=
    congrArg CWord.tag (CWord.read_correctable (w := ⟨tok.data, t.seq.colour, hop⟩) hhop)
  unfold TW.arrive Tile.hopped
  cases hout : errOutcome hop with
  | good => simp [CWord.ecc, hout, hread, TW.start, hcolour, hfull]
  | one => simp [CWord.ecc, hout, hread, TW.start, TW.upd, Tile.countSat, Tile.setReg, hcolour, hfull]
  | multi => exact absurd hout hhop

/-- TILE_FAULT after a fault: the code, where it held none (R85). -/
theorem Tile.latchFault_first {t : Tile} (code acyc : Nat) (h : t.reg F.TILE_FAULT_VALID = 0) :
    (t.latchFault code acyc).reg F.TILE_FAULT_CODE = code % 2 ^ F.TILE_FAULT_CODE.w ∧
      (t.latchFault code acyc).reg F.TILE_FAULT_VALID = 1 := by
  rw [Tile.latchFault, if_pos h]
  constructor
  · rw [Tile.reg_setReg_other _ _ _ _ _ _ (by decide), Tile.reg_setReg_other _ _ _ _ _ _ (by decide), Tile.reg_setReg_same]
  · rw [Tile.reg_setReg_other _ _ _ _ _ _ (by decide), Tile.reg_setReg_other _ _ _ _ _ _ (by decide),
      Tile.reg_setReg_other _ _ _ _ _ _ (by decide), Tile.reg_setReg_same]
    rfl

/-- TILE_FAULT after a later fault: MULTI, and the first code (R85). -/
theorem Tile.latchFault_later {t : Tile} (code acyc : Nat) (h : t.reg F.TILE_FAULT_VALID ≠ 0) :
    (t.latchFault code acyc).reg F.TILE_FAULT_CODE = t.reg F.TILE_FAULT_CODE ∧
      (t.latchFault code acyc).reg F.TILE_FAULT_MULTI = 1 := by
  rw [Tile.latchFault, if_neg h]
  exact ⟨Tile.reg_setReg_other _ _ _ _ _ _ (by decide), Tile.reg_setReg_same ..⟩

theorem Tile.latchFault_rtr (t : Tile) (code acyc : Nat) : (t.latchFault code acyc).rtr = t.rtr := by
  unfold Tile.latchFault
  split <;> rfl

/-- A word for a tile whose field is in no reset and not held out is decoded there. -/
theorem State.arriveWord_open {s : State} {l : LinkWord} {hop : BitVec 80} {f key : Nat} (hloc : s.locate l.dest = some (f, key))
    (hreset : s.inReset f = false) (hheld : s.heldOut f = false) :
    s.arriveWord l hop false = s.absorb f key ((TW.start (s.tile f key) l.due).arrive l.port l.tok hop) := by
  simp [State.arriveWord, hloc, hreset, hheld]

/-- WORD_ARRIVAL of the next word on a link that is due. -/
theorem execWordArrival_due {s : State} {a : Addr} {port : Fin 8} {hop : BitVec 80} {late : Bool} {l : LinkWord}
    {r : List LinkWord} (htake : takeFirst (fun l => l.dest = a.toNat && l.port = port.val && s.mayArrive l) s.links = some (l, r)) :
    execWordArrival a port hop late s = .next (({ s with links := r } : State).arriveWord l hop late) := by
  rw [execWordArrival, htake]

/-- Settles O24: the arrival is the tile's work of `TW.arrive_overflow`. -/
theorem fullLandingFifoOverflows : Obligations.FullLandingFifoOverflows := by
  intro s a port hop f key l r hhop hloc hdest hport hreset hheld htake hcolour hfull hroom
  rw [← hport] at hfull
  have hrtr := (s.tile f key).hopped_rtr hop
  obtain ⟨w, hw⟩ : ∃ w, (TW.start ((s.tile f key).hopped hop) l.due).fault Code.fifoOverflow = w := ⟨_, rfl⟩
  have hquiet : w.Quiet := hw ▸ ⟨rfl, rfl, rfl⟩
  have hwt : w.t = ((s.tile f key).hopped hop).latchFault Code.fifoOverflow (((s.tile f key).hopped hop).secAcyc l.due) :=
    hw ▸ rfl
  have hexec : exec (.wordArrival a port hop false) s = .next (({ s with links := r } : State).absorb f key w) := by
    rw [← hw, ← TW.arrive_overflow hhop hcolour hfull]
    exact (execWordArrival_due htake).trans (Res.next_congr
      (State.arriveWord_open (s := { s with links := r }) (hdest ▸ hloc) hreset hheld))
  have htile : (({ s with links := r } : State).absorb f key w).tile f key = w.t := State.tile_absorb_same _ _ _ _ hquiet.stkUe
  refine ⟨_, hexec, State.absorb_links hquiet.words, ?_, State.absorb_invalid (hw ▸ rfl),
    State.absorb_reports1 hquiet (hw ▸ rfl) hroom, ?_, ?_⟩
  · rw [htile, hwt]
    exact (Tile.latchFault_rtr ..).trans hrtr
  · intro hvalid
    rw [htile, hwt]
    exact Tile.latchFault_first _ _ (((s.tile f key).hopped_reg hop _ (by decide)).trans hvalid)
  · intro hvalid
    rw [htile, hwt, ← (s.tile f key).hopped_reg hop F.TILE_FAULT_CODE (by decide)]
    exact Tile.latchFault_later _ _ (by rwa [(s.tile f key).hopped_reg hop _ (by decide)])

end Sys2Proof.Machine

namespace Sys2Proof.Machine

/-! ### The hold register of a field -/

theorem State.onlyRegs_cmd (s : State) (st op : Fld) (status code i : Nat) :
    s.onlyRegs (s.cmd st op status code i) [st.key i 0, op.key i 0] := by
  refine ⟨rfl, fun f i' j hf => ?_⟩
  simp only [List.mem_cons, List.not_mem_nil, or_false, not_or] at hf
  exact (State.reg_setReg_other _ _ _ _ _ _ _ _ hf.2).trans (State.reg_setReg_other _ _ _ _ _ _ _ _ hf.1)

theorem State.cmd_op (s : State) (st op : Fld) (status code i : Nat) :
    (s.cmd st op status code i).reg op i = code % 2 ^ op.w := State.reg_setReg_same ..

theorem State.cmd_status (s : State) (st op : Fld) (status code i : Nat) (h : st.key i 0 ≠ op.key i 0) :
    (s.cmd st op status code i).reg st i = status % 2 ^ st.w :=
  (State.reg_setReg_other _ _ _ _ _ _ _ _ h).trans (State.reg_setReg_same ..)

theorem State.cmd_reg_other (s : State) (st op r : Fld) (status code i : Nat) (hst : r.key i 0 ≠ st.key i 0)
    (hop : r.key i 0 ≠ op.key i 0) : (s.cmd st op status code i).reg r i = s.reg r i :=
  (State.reg_setReg_other _ _ _ _ _ _ _ _ hop).trans (State.reg_setReg_other _ _ _ _ _ _ _ _ hst)

/-- Two fields of one register have different keys where their lowest bits differ. -/
theorem Fld.key_ne_of_lo {f g : Fld} (i j : Nat) (hb : f.base = g.base) (h1 : f.s1 = g.s1) (h2 : f.s2 = g.s2)
    (hlo : f.lo ≠ g.lo) : f.key i j ≠ g.key i j := by
  simp only [Fld.key, hb, h1, h2]
  omega

/-- FLD_HOLD with a new STATE, and the status of the operation that set it. -/
def State.putHold (s : State) (state status code f : Nat) : State :=
  (s.setReg F.FLD_HOLD_STATE state f).cmd F.FLD_HOLD_STATUS F.FLD_HOLD_OP status code f

theorem State.putHold_state (s : State) (state status code f : Nat) :
    (s.putHold state status code f).reg F.FLD_HOLD_STATE f = state % 4 := by
  have hst : F.FLD_HOLD_STATE.key f 0 ≠ F.FLD_HOLD_STATUS.key f 0 := Fld.key_ne_of_lo f 0 rfl rfl rfl (by decide)
  have hop : F.FLD_HOLD_STATE.key f 0 ≠ F.FLD_HOLD_OP.key f 0 := Fld.key_ne_of_lo f 0 rfl rfl rfl (by decide)
  rw [State.putHold, State.cmd_reg_other _ _ _ _ _ _ _ hst hop, State.reg_setReg_same]
  rfl

theorem State.putHold_status (s : State) (state status code f : Nat) :
    (s.putHold state status code f).reg F.FLD_HOLD_STATUS f = status % 4 := by
  have hop : F.FLD_HOLD_STATUS.key f 0 ≠ F.FLD_HOLD_OP.key f 0 := Fld.key_ne_of_lo f 0 rfl rfl rfl (by decide)
  rw [State.putHold, State.cmd_status _ _ _ _ _ _ hop]
  rfl

theorem State.putHold_op (s : State) (state status code f : Nat) :
    (s.putHold state status code f).reg F.FLD_HOLD_OP f = code % 16 := by
  rw [State.putHold, State.cmd_op]
  rfl

theorem State.putHold_fields (s : State) (state status code f : Nat) : (s.putHold state status code f).fields = s.fields := rfl

theorem State.putHold_pw (s : State) (state status code f : Nat) : (s.putHold state status code f).pw = s.pw := rfl

theorem State.putHold_reports (s : State) (state status code f : Nat) : (s.putHold state status code f).reports = s.reports := rfl

/-- A field of another register of the field block reads as before. -/
theorem State.putHold_reg_other (s : State) (state status code f : Nat) {r : Fld} (h1 : r.s1 = 0x4000) (h2 : r.s2 = 0)
    (hlo : r.lo < 64) (hbase : r.base % 0x4000 ≠ 0x10) : (s.putHold state status code f).reg r f = s.reg r f := by
  have hkey : ∀ g : Fld, g.base = 0x100010 → g.s1 = 0x4000 → g.s2 = 0 → g.lo < 64 → r.key f 0 ≠ g.key f 0 := by
    intro g hgb hgs hg2 hglo
    simp only [Fld.key, h1, h2, hgb, hgs, hg2]
    omega
  rw [State.putHold, State.cmd_reg_other _ _ _ _ _ _ _ (hkey _ rfl rfl rfl (by decide)) (hkey _ rfl rfl rfl (by decide)),
    State.reg_setReg_other _ _ _ _ _ _ _ _ (hkey _ rfl rfl rfl (by decide))]

/-! ### Every tile of a field -/

theorem State.everyTile_congr {s t : State} {f : Nat} {p : Tile → Prop} (h : t.fields = s.fields) :
    t.everyTile f p ↔ s.everyTile f p := by
  simp only [State.everyTile, State.field, h]

theorem State.everyTile_tile {s : State} {f : Nat} {p : Tile → Prop} (h : s.everyTile f p) (key : Nat) : p (s.tile f key) := by
  obtain ⟨hlogical, hspare, htiles⟩ := h
  refine SMap.get_forall ?_ _ _ htiles
  unfold State.tileBase
  split
  · exact hlogical
  · exact hspare

theorem SMap.mem_set {α : Type} [DecidableEq α] {d : α} {m : SMap α} {i : Nat} {v : α} {e : Nat × α}
    (h : e ∈ SMap.set d m i v) : e = (i, v) ∨ e ∈ m := by
  unfold SMap.set at h
  split at h
  · exact .inr (List.mem_filter.1 h).1
  · exact SMap.mem_ins m i v e h

theorem State.everyTile_setTile {s : State} {f key : Nat} {t : Tile} {p : Tile → Prop} (h : s.everyTile f p) (ht : p t) :
    (s.setTile f key t).everyTile f p := by
  obtain ⟨hlogical, hspare, htiles⟩ := h
  simp only [State.everyTile, State.setTile, State.field_updField_same]
  refine ⟨hlogical, hspare, fun e he => ?_⟩
  rcases SMap.mem_set he with rfl | he
  · exact ht
  · exact htiles e he

/-- What every tile of a field has, and every changed tile, every tile has after the live ones are changed. -/
theorem State.everyTile_mapLive {s : State} {f : Nat} {g : Tile → Tile} {p : Tile → Prop} (h : s.everyTile f p)
    (hg : ∀ x, p x → p (g x)) : (s.mapLive f g).everyTile f p := by
  have hmap : (s.mapTiles f g).everyTile f p := by
    obtain ⟨hlogical, hspare, htiles⟩ := h
    refine ⟨?_, ?_, fun e he => ?_⟩ <;> simp only [State.mapTiles, State.field_updField_same] at *
    · exact hg _ hlogical
    · exact hg _ hspare
    · obtain ⟨x, hx, rfl⟩ := List.mem_map.1 (List.mem_filter.1 he).1
      exact hg _ (htiles x hx)
  have hfold : ∀ (l : List Nat) (u : State), u.everyTile f p → (l.foldl (fun u k => u.setTile f k (s.tile f k)) u).everyTile f p := by
    intro l
    induction l with
    | nil => exact fun _ hu => hu
    | cons k l ih => exact fun u hu => ih _ (State.everyTile_setTile hu (State.everyTile_tile h k))
  exact hfold _ _ hmap

theorem mem_insertAsc (x : Nat) (l : List Nat) : x ∈ insertAsc x l := by
  induction l with
  | nil => simp [insertAsc]
  | cons y l ih =>
    unfold insertAsc
    split
    · simp
    · split
      · next h => simp [h]
      · simp [ih]

/-! ### The bloom of a field -/

theorem State.bloomField_reg (s : State) (f : Nat) :
    (s.bloomField f).reg F.FLD_BLOOM_DONE f = 0 ∧ (s.bloomField f).reg F.FLD_BLOOM_ATTEMPTS f = 1 := by
  have hkey : F.FLD_BLOOM_ATTEMPTS.key f 0 ≠ F.FLD_BLOOM_DONE.key f 0 := Fld.key_ne_of_lo f 0 rfl rfl rfl (by decide)
  constructor
  · rw [State.bloomField, State.reg_setReg_same]
    rfl
  · rw [State.bloomField, State.reg_setReg_other _ _ _ _ _ _ _ _ hkey, State.reg_setReg_same]
    rfl

theorem State.bloomField_pw (s : State) (f : Nat) : (s.bloomField f).pw = s.pw :=
  Part.same_of_mask .pw (State.bloomField_parts (M := 24) s f) (by decide)

/-- The scratch of a tile is of data 0 and tag 0. -/
def Tile.scratchZero (t : Tile) : Prop := ∀ i, i < 8192 → t.scrWord i = CWord.zero

theorem Tile.scratchZero_returnWork (t : Tile) : t.returnWork.scratchZero := fun _ _ => rfl

theorem Tile.scratchZero_bloomLoad {t : Tile} (fw : Blob) (h : t.scratchZero) : (t.bloomLoad fw).scratchZero := h

theorem State.bloomField_fields (s : State) (f : Nat) :
    (s.bloomField f).fields = (s.mapLive f (Tile.bloomLoad s.pw.tileFw)).fields := by
  simp only [State.bloomField, State.setReg_fields]

theorem State.scratchZero_bloomField {s : State} {f : Nat} (h : s.everyTile f Tile.scratchZero) :
    (s.bloomField f).everyTile f Tile.scratchZero :=
  (State.everyTile_congr (s.bloomField_fields f)).2
    (State.everyTile_mapLive h fun _ => Tile.scratchZero_bloomLoad s.pw.tileFw)

/-! ### HOLD_OUT, RETURN and its completion -/

/-- RETURN of a field that is OUT, up to its status. -/
def State.returning (s : State) (f : Nat) : State :=
  let s := if s.compOn f then s else { s with pw := { s.pw with wake := insertAsc f s.pw.wake } }
  (s.mapTiles f Tile.returnWork).bloomField f

theorem execHoldOut_accepted {s : State} {f : Fin 48} (hp : s.present f.val = true) (hmode : s.mode f.val = 0)
    (hheld : s.heldOut f.val = false) : execHoldOut f s = .next
      ((s.mapTiles f.val Tile.holdOut).putHold 1 0 1 f.val) := by
  simp [execHoldOut, hp, hmode, hheld, State.putHold]

theorem execHoldOut_refused {s : State} {f : Fin 48} (hp : s.present f.val = true)
    (h : s.mode f.val ≠ 0 ∨ s.heldOut f.val = true) :
    execHoldOut f s = .next (s.cmd F.FLD_HOLD_STATUS F.FLD_HOLD_OP 2 1 f.val) := by
  simp [execHoldOut, hp, h]

theorem execReturn_accepted {s : State} {f : Fin 48} (hp : s.present f.val = true) (hout : s.reg F.FLD_HOLD_STATE f.val = 1) :
    execReturn f s = .next ((s.returning f.val).putHold 2 1 2 f.val) := by
  simp [execReturn, hp, hout, State.returning, State.putHold]

theorem execReturn_refused {s : State} {f : Fin 48} (hp : s.present f.val = true) (h : s.reg F.FLD_HOLD_STATE f.val ≠ 1) :
    execReturn f s = .next (s.cmd F.FLD_HOLD_STATUS F.FLD_HOLD_OP 2 2 f.val) := by
  simp [execReturn, hp, h]

theorem State.wake_returning {s : State} {f : Nat} (h : s.compOn f = false) : f ∈ (s.returning f).pw.wake := by
  rw [State.returning, State.bloomField_pw, if_neg (by simp [h])]
  exact mem_insertAsc f s.pw.wake

theorem State.scratchZero_returning (s : State) (f : Nat) : (s.returning f).everyTile f Tile.scratchZero :=
  State.scratchZero_bloomField (State.everyTile_mapTiles _ _ _ _ Tile.scratchZero_returnWork)

theorem execReturnComplete_on {s : State} {f : Fin 48} (hback : s.reg F.FLD_HOLD_STATE f.val = 2) (hon : s.compOn f.val = true) :
    execReturnComplete f s = .next ((s.bloomFinish f.val).putHold 0 0 2 f.val) := by
  simp [execReturnComplete, hback, hon, State.putHold]

/-- Settles O20: a clause per branch of the three commands. -/
theorem heldOutFieldCommandsComplete : Obligations.HeldOutFieldCommandsComplete := by
  refine ⟨fun s f hp hmode hheld => ⟨_, execHoldOut_accepted hp hmode hheld, ?_⟩,
    fun s f hp h => ⟨_, execHoldOut_refused hp h, State.cmd_status _ _ _ _ _ _ (Fld.key_ne_of_lo _ 0 rfl rfl rfl (by decide)),
      State.cmd_op .., State.onlyRegs_cmd ..⟩,
    fun s f hp hout => ⟨_, execReturn_accepted hp hout, ?_⟩,
    fun s f hp h => ⟨_, execReturn_refused hp h, State.cmd_status _ _ _ _ _ _ (Fld.key_ne_of_lo _ 0 rfl rfl rfl (by decide)),
      State.cmd_op .., State.onlyRegs_cmd ..⟩,
    fun s f hback hon => ⟨_, execReturnComplete_on hback hon, State.putHold_state .., State.putHold_status ..,
      State.putHold_op ..⟩,
    fun s f _ hoff => if_pos (by simp [hoff])⟩
  · exact ⟨State.putHold_state .., State.putHold_status .., (State.everyTile_congr (State.putHold_fields ..)).2
      (State.everyTile_mapTiles s f.val Tile.holdOut _ fun _ => ⟨rfl, rfl⟩), State.putHold_reports ..⟩
  · refine ⟨State.putHold_state .., State.putHold_status .., ?_, ?_, fun hoff => ?_,
      (State.everyTile_congr (State.putHold_fields ..)).2 (s.scratchZero_returning f.val)⟩
    · rw [State.putHold_reg_other _ _ _ _ _ rfl rfl (by decide) (by decide)]
      exact (State.bloomField_reg _ f.val).1
    · rw [State.putHold_reg_other _ _ _ _ _ rfl rfl (by decide) (by decide)]
      exact (State.bloomField_reg _ f.val).2
    · rw [State.putHold_pw]
      exact State.wake_returning hoff

end Sys2Proof.Machine

namespace Sys2Proof.Machine

/-! ### The registers of the control core -/

@[simp] theorem CCore.get_put_same (c : CCore) (n : Nat) (v : Lane) : (c.put n v).get n = if n = 0 then 0 else v := by
  unfold CCore.get CCore.put
  split
  · rfl
  · exact SMap.get_set_same ..

theorem CCore.get_put_other (c : CCore) {m n : Nat} (v : Lane) (h : m ≠ n) : (c.put n v).get m = c.get m := by
  unfold CCore.get CCore.put
  split
  · rfl
  · split
    · rfl
    · exact SMap.get_set_other _ _ _ _ _ h

/-- A write of a register changes the registers alone. -/
theorem CCore.put_eq (c : CCore) (n : Nat) (v : Lane) : c.put n v = { c with x := (c.put n v).x } := by
  unfold CCore.put
  split <;> rfl

/-! ### Retiring an instruction of the extension -/

/-- An extension instruction that retires changes the registers, the pc and CC_STATE.PC alone. -/
theorem Tile.tsDone_eq (t : Tile) (rd v : Nat) : t.tsDone rd v = { t with core := { t.core with
    x := (t.core.put rd (BitVec.ofNat 32 v)).x
    retired := BitVec.ofNat 13 (t.core.pc.toNat - 0x20000)
    pc := BitVec.ofNat 32 (wrapNat 32 ((t.core.pc.toNat : Int) + 4)) } } := by
  unfold Tile.tsDone Tile.retire
  rw [CCore.put_eq]

theorem Tile.tsDone_get (t : Tile) (rd v : Nat) : (t.tsDone rd v).core.get rd = if rd = 0 then 0 else BitVec.ofNat 32 v :=
  CCore.get_put_same t.core rd _

section TsDone
variable (t : Tile) (rd v : Nat)

@[simp] theorem Tile.tsDone_msg : (t.tsDone rd v).msg = t.msg := rfl
@[simp] theorem Tile.tsDone_scratch : (t.tsDone rd v).scratch = t.scratch := rfl
@[simp] theorem Tile.tsDone_stack : (t.tsDone rd v).stack = t.stack := rfl
@[simp] theorem Tile.tsDone_replied : (t.tsDone rd v).core.replied = t.core.replied := by rw [Tile.tsDone_eq]
@[simp] theorem Tile.tsDone_mboxReady : (t.tsDone rd v).core.mboxReady = t.core.mboxReady := by rw [Tile.tsDone_eq]
@[simp] theorem Tile.tsDone_mboxId : (t.tsDone rd v).core.mboxId = t.core.mboxId := by rw [Tile.tsDone_eq]
@[simp] theorem Tile.tsDone_mboxValue : (t.tsDone rd v).core.mboxValue = t.core.mboxValue := by rw [Tile.tsDone_eq]

end TsDone

/-! ### Dispatch (R145, R214) -/

/-- A handler starts with the tag in a0 and the first argument in a1. -/
theorem Tile.enter_args (t : Tile) (now tag a1 a2 : Nat) (e : TagEntry) (msg : Option Packet) :
    (t.enter now tag a1 a2 e msg).core.get 10 = BitVec.ofNat 32 tag ∧
      (t.enter now tag a1 a2 e msg).core.get 11 = BitVec.ofNat 32 a1 := by
  let c := ((t.core.put 10 (BitVec.ofNat 32 tag)).put 11 (BitVec.ofNat 32 a1)).put 12 (BitVec.ofNat 32 a2)
  have h : ∀ n, (t.enter now tag a1 a2 e msg).core.get n = c.get n := fun _ => rfl
  constructor
  · rw [h, CCore.get_put_other _ _ (by decide), CCore.get_put_other _ _ (by decide), CCore.get_put_same]
    rfl
  · rw [h, CCore.get_put_other _ _ (by decide), CCore.get_put_same]
    rfl

section Dispatch
variable {t : Tile} {now : Nat} (hwait : t.core.state = .waiting)
include hwait

theorem TW.dispatch_event {ev : Byte} {rest : List Byte} (hevq : t.seq.evq = ev :: rest)
    (hbound : (t.core.tags.get TagEntry.zero 0x3FF).valid = true) :
    (TW.start t now).dispatch = TW.start (({ t with seq := { t.seq with evq := rest } }).enter now 0x3FF ev.toNat 0
      (t.core.tags.get TagEntry.zero 0x3FF) none) now := by
  simp [TW.dispatch, TW.start, hwait, hevq, hbound]

/-- The tile after the dispatch of its oldest request. -/
def Tile.takeInHand (t : Tile) (now : Nat) (p : Packet) (rest : List Landed) : Tile :=
  let u := (({ t with msg := { t.msg with landed := rest } }).enter now p.tag.toNat p.src.toNat p.a2
    (t.core.tags.get TagEntry.zero p.tag.toNat) (some p)).count 6 1
  { u with core := { u.core with inHand := some p } }

theorem TW.dispatch_request {p : Packet} {rest : List Landed} (hevq : t.seq.evq = []) (hlanded : t.msg.landed = .request p :: rest)
    (hbound : (t.core.tags.get TagEntry.zero p.tag.toNat).valid = true) :
    (TW.start t now).dispatch = TW.start (t.takeInHand now p rest) now := by
  simp only [TW.dispatch, TW.start, hwait, hevq, hlanded, hbound]
  rfl

end Dispatch

/-! ### One instruction (R47, R55) -/

theorem TW.coreInstr_ok {t u : Tile} {now next : Nat} {p : TPos} (hactive : t.coreActive = true) (hrun : t.coreRun p = .ok u next) :
    (TW.start t now).coreInstr p = TW.start (u.retire next) now := by
  simp only [TW.coreInstr, TW.start, hactive, hrun]
  rfl

theorem TW.coreInstr_trap {t : Tile} {now cause : Nat} {p : TPos} (hactive : t.coreActive = true) (hrun : t.coreRun p = .trap cause) :
    (TW.start t now).coreInstr p = (TW.start t now).coreTrap cause := by
  simp only [TW.coreInstr, TW.start, hactive, hrun]
  rfl

/-- A trap stops the core with its cause and records SCH_CORE_TRAP (R55). -/
theorem TW.coreTrap_start (t : Tile) (now cause : Nat) : ((TW.start t now).coreTrap cause).Quiet ∧
    ((TW.start t now).coreTrap cause).faults = [Code.coreTrap] ∧ ((TW.start t now).coreTrap cause).inval = false ∧
    ((TW.start t now).coreTrap cause).t.core.state = .trap ∧
    ((TW.start t now).coreTrap cause).t.core.mcause = BitVec.ofNat 4 cause := by
  have hcore : ∀ (u : Tile) (code acyc : Nat), (u.latchFault code acyc).core = u.core := fun u _ _ => by
    unfold Tile.latchFault
    split <;> rfl
  refine ⟨⟨rfl, rfl, rfl⟩, rfl, rfl, ?_, ?_⟩
  · exact congrArg CCore.state (hcore ..)
  · exact congrArg CCore.mcause (hcore ..)

/-! ### TS.SEND and TS.REPLY (R208, R215) -/

theorem TW.tsSend_refused {t : Tile} {now i : Nat} {p : TPos} (hts : t.tsAt 0 = some i) (hidle : t.msg.send = .idle)
    (href : p.spare = true ∨ t.sendOk p.rows (t.tsArgs i).2.1 (t.tsArgs i).2.2 = false) :
    (TW.start t now).tsSend p = ((TW.start t now).note Code.msgFlowRefused).upd (·.tsDone (bits i 7 5) 1) := by
  have hword : t.sendWord = some i := by simp [Tile.sendWord, hidle, hts]
  rcases href with h | h <;> simp [TW.tsSend, TW.start, hword, hidle, h] <;> rfl

/-- The request of a TS.SEND whose word and slot are given. -/
def Tile.sendPacket (t : Tile) (p : TPos) (i k : Nat) : Packet :=
  let a := t.tsArgs i
  { reply := false
    inc := t.msg.inc
    slot := BitVec.ofNat 3 k
    status := 0
    cls := 0
    tag := BitVec.ofNat 10 (bits a.2.2 0 10)
    src := BitVec.ofNat 20 (pairOf2 p.lx p.ly)
    dst := BitVec.ofNat 20 a.2.1
    words := t.core.sendWords (bits a.2.2 10 4) }

/-- The message interface while the request that the slot `k` takes is out. -/
def Tile.sending (t : Tile) (p : TPos) (now i k : Nat) : Tile :=
  let a := t.tsArgs i
  let m : MsgIf := { t.msg with
    tag := BitVec.ofNat 10 (bits a.2.2 0 10)
    dest := BitVec.ofNat 20 a.2.1
    txRd := a.1
    txStart := if t.msg.send = .awaitSlot then t.msg.txStart else now }
  let m : MsgIf := { m.setSlot k { Slot.free with reserved := true, tag := m.tag, dest := m.dest } with
    send := .awaitAnswer, txPkt := some (t.sendPacket p i k) }
  ({ t with msg := m }).count 5 1

theorem TW.tsSend_sends {w : TW} {i k : Nat} {p : TPos} (hword : w.t.sendWord = some i)
    (hok : w.t.msg.send = .awaitSlot ∨ p.spare = false ∧ w.t.sendOk p.rows (w.t.tsArgs i).2.1 (w.t.tsArgs i).2.2 = true)
    (hslot : w.t.msg.freeSlot = some k) :
    w.tsSend p = (w.upd (·.sending p w.now i k)).emit (w.t.sendPacket p i k) := by
  have hpass : (decide (w.t.msg.send ≠ .awaitSlot) && (p.spare || !w.t.sendOk p.rows (w.t.tsArgs i).2.1 (w.t.tsArgs i).2.2)) =
      false := by
    rcases hok with h | ⟨h1, h2⟩
    · simp [h]
    · simp [h1, h2]
  have hslot' : ∀ tag dest rd start, MsgIf.freeSlot { w.t.msg with tag := tag, dest := dest, txRd := rd, txStart := start } = some k :=
    fun _ _ _ _ => hslot
  simp only [TW.tsSend, hword, hpass, hslot']
  rfl

theorem TW.tsReply_sends {w : TW} {i : Nat} {q : Packet} (hts : w.t.tsAt 1 = some i) (hhand : w.t.core.inHand = some q)
    (hstate : w.t.core.state = .handler) (hrpl : w.t.rpl q.tag.toNat = true) (hfirst : w.t.core.replied = false)
    (hlen : bits (w.t.tsArgs i).2.2 0 4 ≤ 8) : w.tsReply false =
      (w.upd (fun t => (({ t with core := { t.core with replied := true } }).count 5 1).tsDone (bits i 7 5) 0)).emit
        (q.answer 0 0 (w.t.core.sendWords (bits (w.t.tsArgs i).2.2 0 4))) := by
  have hlong : ¬ 8 < bits (w.t.tsArgs i).2.2 0 4 := by omega
  simp [TW.tsReply, hts, hhand, hstate, hrpl, hfirst, hlong, TW.upd]
  rfl

/-- TS.YIELD ends the handler, or the start-up run, with the reply that is still missing (R215). -/
theorem TW.tsYield_eq {w : TW} {i : Nat} (hts : w.t.tsAt 2 = some i) : ∃ l, (w.t.core.inHand = none → l = []) ∧
    w.tsYield = { w with
      t := { w.t.tsDone 0 0 with core := { (w.t.tsDone 0 0).core with state := .waiting, inHand := none, replied := false } }
      pkts := w.pkts ++ l } := by
  cases hhand : w.t.core.inHand with
  | none => exact ⟨[], fun _ => rfl, by simp [TW.tsYield, hts, hhand, TW.upd]⟩
  | some q =>
    by_cases hmissing : (w.t.rpl q.tag.toNat && !w.t.core.replied) = true
    · exact ⟨[q.answer 0 5 []], nofun, by simp only [TW.tsYield, hts, hhand, TW.upd, hmissing, if_true]; rfl⟩
    · exact ⟨[], nofun, by simp only [TW.tsYield, hts, hhand, TW.upd, hmissing]; simp⟩

/-! ### The mailbox and the handle table (R53, R62) -/

theorem Tile.tsCppost_eq {t : Tile} {i : Nat} (hts : t.tsAt 3 = some i) : t.tsCppost =
    ({ t with core := { t.core with
      mboxReady := true
      mboxId := BitVec.ofNat 8 (t.tsArgs i).2.1
      mboxValue := BitVec.ofNat 32 (t.tsArgs i).2.2 } }).tsDone (bits i 7 5) (b2n t.core.mboxReady) := by
  simp only [Tile.tsCppost, hts]
  rfl

theorem Tile.tsHget_base {t : Tile} {i : Nat} (hts : t.tsAt 4 = some i) (hfield : bits i 25 7 = 0) :
    t.tsHget = t.tsDone (bits i 7 5) (t.handle ((t.tsArgs i).2.1 % 64)).base.toNat := by
  simp only [Tile.tsHget, hts, hfield]
  rfl

theorem Tile.tsHset_base {t : Tile} {p : TPos} {i : Nat} (hts : t.tsAt 5 = some i) (hfield : bits i 25 7 = 0)
    (hv : (t.tsArgs i).2.2 < 2 ^ 23) (hbound : t.boundOk p ((t.tsArgs i).2.1 % 64) (t.tsArgs i).2.2
      (t.nextBounds ((t.tsArgs i).2.1 % 64)).2 = true) :
    t.tsHset p = ({ t with shadows := (t.shadows.set Shadow.zero ((t.tsArgs i).2.1 % 64)
      { t.shadow ((t.tsArgs i).2.1 % 64) with base := BitVec.ofNat 23 (t.tsArgs i).2.2, pBase := true }) }).tsDone (bits i 7 5) 0 := by
  simp only [Tile.tsHset, hts, hfield, hv, hbound, and_self, if_true]
  rfl

/-! ### Words written to the two memories -/

@[simp] theorem Tile.scrWord_setScrWord_same (t : Tile) (i : Nat) (d : Word) (tag : BitVec 4) :
    (t.setScrWord i d tag).scrWord i = ⟨d, tag, 0⟩ := SMap.get_set_same ..

theorem Tile.scrWord_setScrWord_other (t : Tile) {i j : Nat} (d : Word) (tag : BitVec 4) (h : j % 8192 ≠ i % 8192) :
    (t.setScrWord i d tag).scrWord j = t.scrWord j := SMap.get_set_other _ _ _ _ _ h

theorem Tile.scrWord_landScr_other (t : Tile) (i j : Nat) (l : List CWord) (h : ∀ q, q < l.length → j % 8192 ≠ (i + q) % 8192) :
    (t.landScr i l).scrWord j = t.scrWord j := by
  induction l generalizing t i with
  | nil => rfl
  | cons d l ih =>
    rw [Tile.landScr, ih _ _ fun q hq => by
      have hnext := h (q + 1) (by simpa using hq)
      rwa [show i + (q + 1) = i + 1 + q by omega] at hnext]
    exact Tile.scrWord_setScrWord_other _ _ _ (h 0 (by simp))

/-- Consecutive words land in scratch with their own tags and no error (R76). -/
theorem Tile.scrWord_landScr (t : Tile) (i j : Nat) (l : List CWord) (hj : j < l.length) (hlen : l.length ≤ 8192) :
    (t.landScr i l).scrWord (i + j) = ⟨l[j].data, l[j].tag, 0⟩ := by
  induction l generalizing t i j with
  | nil => simp at hj
  | cons d l ih =>
    rw [List.length_cons] at hlen
    rw [Tile.landScr]
    cases j with
    | zero =>
      rw [Tile.scrWord_landScr_other _ _ _ _ fun q hq => by omega]
      exact Tile.scrWord_setScrWord_same ..
    | succ j =>
      rw [show i + (j + 1) = i + 1 + j by omega]
      exact ih _ _ _ (by simpa using hj) (by omega)

theorem Tile.stkWord_landStk_other (t : Tile) (i j : Nat) (l : List CWord) (h : j < i ∨ i + l.length ≤ j) :
    (t.landStk i l).stkWord j = t.stkWord j := by
  induction l generalizing t i with
  | nil => rfl
  | cons d l ih =>
    rw [List.length_cons] at h
    rw [Tile.landStk, ih _ _ (by omega)]
    exact SMap.get_set_other _ _ _ _ _ (by omega)

theorem Tile.stkWord_landStk (t : Tile) (i j : Nat) (l : List CWord) (hj : j < l.length) :
    (t.landStk i l).stkWord (i + j) = ⟨l[j].data, l[j].tag, 0⟩ := by
  induction l generalizing t i j with
  | nil => simp at hj
  | cons d l ih =>
    rw [Tile.landStk]
    cases j with
    | zero =>
      rw [Tile.stkWord_landStk_other _ _ _ _ (by omega)]
      exact SMap.get_set_same ..
    | succ j =>
      rw [show i + (j + 1) = i + 1 + j by omega]
      exact ih _ _ _ (by simpa using hj)

theorem Tile.landScr_stack (t : Tile) (i : Nat) (l : List CWord) : (t.landScr i l).stack = t.stack := by
  induction l generalizing t i with
  | nil => rfl
  | cons d l ih => exact ih _ _

theorem Tile.landStk_scratch (t : Tile) (i : Nat) (l : List CWord) : (t.landStk i l).scratch = t.scratch := by
  induction l generalizing t i with
  | nil => rfl
  | cons d l ih => exact ih _ _

theorem Tile.writeScr_eq (t : Tile) (i : Nat) (tag : BitVec 4) (ds : List Word) :
    t.writeScr i tag ds = t.landScr i (ds.map (fun d => ⟨d, tag, 0⟩)) := by
  induction ds generalizing t i with
  | nil => rfl
  | cons d ds ih => exact ih _ _

/-! ### The control core's words of a memory -/

section PutWords
variable (t : Tile) (stk : Bool) (i : Nat) (tag : BitVec 4) (ds : List Word)

/-- The words written by the control core are read back, with the tag given. -/
theorem Tile.spaceWord_putWords (j : Nat) (hj : j < ds.length) (hlen : ds.length ≤ 8192) :
    (t.putWords stk i tag ds).spaceWord stk (i + j) = ⟨ds.getD j 0, tag, 0⟩ := by
  rw [List.getD_eq_getElem _ _ hj]
  cases stk
  · simp only [Tile.putWords, Tile.spaceWord, Tile.writeScr_eq, Bool.false_eq_true, if_false]
    rw [Tile.scrWord_landScr _ _ _ _ (by simpa using hj) (by simpa using hlen)]
    simp
  · simp only [Tile.putWords, Tile.spaceWord, if_true]
    rw [Tile.stkWord_landStk _ _ _ _ (by simpa using hj)]
    simp

theorem Tile.stkWord_putWords_other (j : Nat) (h : j < i ∨ i + ds.length ≤ j) :
    (t.putWords stk i tag ds).stkWord j = t.stkWord j := by
  cases stk
  · simp only [Tile.putWords, Tile.writeScr_eq, Tile.stkWord, Tile.landScr_stack, Bool.false_eq_true, if_false]
  · exact Tile.stkWord_landStk_other _ _ _ _ (by simpa using h)

theorem Tile.scrWord_putWords_other (j : Nat) (h : ∀ q, q < ds.length → j % 8192 ≠ (i + q) % 8192) :
    (t.putWords stk i tag ds).scrWord j = t.scrWord j := by
  cases stk
  · simp only [Tile.putWords, Tile.writeScr_eq, Bool.false_eq_true, if_false]
    exact Tile.scrWord_landScr_other _ _ _ _ (by simpa using h)
  · simp only [Tile.putWords, Tile.scrWord, Tile.landStk_scratch, if_true]

end PutWords

theorem putBytes_length (ws : List Word) (a0 a v n : Nat) : (putBytes ws a0 a v n).length = ws.length := by
  induction n generalizing ws a v with
  | zero => rfl
  | succ n ih => rw [putBytes, ih, List.length_set]

/-- The bytes of words depend on their data alone. -/
theorem leBytes_congr {ws us : List CWord} (h : ws.map (·.data) = us.map (·.data)) (a0 a n : Nat) :
    leBytes ws a0 a n = leBytes us a0 a n := by
  have hbyte : ∀ b, byteIn ws a0 b = byteIn us a0 b := by
    intro b
    have hd : ∀ (l : List CWord) k, (l.getD k CWord.zero).data = (l.map (·.data)).getD k 0 := fun l k =>
      (List.getD_map (f := fun w : CWord => w.data) ..).symm
    rw [byteIn, byteIn, hd, hd, h]
  induction n generalizing a with
  | zero => rfl
  | succ n ih => rw [leBytes, leBytes, hbyte, ih]

/-- Words that decode without an uncorrectable outcome deliver their data. -/
theorem map_read_data {ws : List CWord} (h : ∀ w, w ∈ ws → w.ecc ≠ .multi) : (ws.map CWord.read).map (·.data) = ws.map (·.data) := by
  rw [List.map_map]
  refine List.map_congr_left fun w hw => ?_
  rw [Function.comp_apply, CWord.read_correctable (h w hw)]

/-! ### Reads of the control core -/

/-- A read has noted its outcomes: of the tile its registers alone have changed, and nothing is to be seen outside but a fault or
a count. -/
structure TW.Noted (w w' : TW) : Prop where
  tile : w'.t = { w.t with regs := w'.t.regs }
  words : w'.words = w.words
  beats : w'.beats = w.beats
  stkUe : w'.stkUe = w.stkUe
  pkts : w'.pkts = w.pkts

theorem TW.Noted.refl (w : TW) : w.Noted w := ⟨rfl, rfl, rfl, rfl, rfl⟩

theorem TW.Noted.trans {w w' w'' : TW} (h : w.Noted w') (h' : w'.Noted w'') : w.Noted w'' := by
  refine ⟨?_, h'.words.trans h.words, h'.beats.trans h.beats, h'.stkUe.trans h.stkUe, h'.pkts.trans h.pkts⟩
  rw [h'.tile, h.tile]

theorem TW.Noted.quiet {w w' : TW} (h : w.Noted w') (hq : w.Quiet) : w'.Quiet :=
  ⟨h.words.trans hq.words, h.beats.trans hq.beats, h.stkUe.trans hq.stkUe⟩

theorem Tile.latchFault_regs (t : Tile) (code acyc : Nat) :
    t.latchFault code acyc = { t with regs := (t.latchFault code acyc).regs } := by
  unfold Tile.latchFault
  split <;> rfl

theorem TW.noted_fault (w : TW) (code : Nat) : w.Noted (w.fault code) := ⟨Tile.latchFault_regs .., rfl, rfl, rfl, rfl⟩

theorem TW.noted_noteScr (w : TW) (i : Nat) : w.Noted (w.noteScr i) := by
  unfold TW.noteScr
  split
  · exact TW.Noted.refl w
  · exact ⟨rfl, rfl, rfl, rfl, rfl⟩
  · split
    · exact TW.Noted.trans (w' := w.upd fun t => (t.setReg F.SCR_ECC_UE 1).setReg F.SCR_ECC_UE_ADDR (i % 8192 * 8))
        ⟨rfl, rfl, rfl, rfl, rfl⟩ (TW.noted_fault _ _)
    · exact TW.noted_fault w _

theorem TW.noted_noteStk {w : TW} {i : Nat} (h : (w.t.stkWord i).ecc ≠ .multi) : w.Noted (w.noteStk i) := by
  unfold TW.noteStk
  split
  · exact TW.Noted.refl w
  · exact ⟨rfl, rfl, rfl, rfl, rfl⟩
  · contradiction

theorem TW.noted_foldl {α : Type} {g : TW → α → TW} (l : List α) {w : TW}
    (h : ∀ x, x ∈ l → ∀ w', w.Noted w' → w'.Noted (g w' x)) : w.Noted (l.foldl g w) := by
  have key : ∀ (l : List α) (w' : TW), (∀ x, x ∈ l → ∀ w', w.Noted w' → w'.Noted (g w' x)) → w.Noted w' →
      w.Noted (l.foldl g w') := by
    intro l
    induction l with
    | nil => exact fun _ _ hw => hw
    | cons x l ih =>
      exact fun w' hl hw => ih _ (fun y hy => hl y (List.mem_cons_of_mem _ hy)) (hw.trans (hl x (by simp) w' hw))
  exact key l w h (TW.Noted.refl w)

/-- The words that a read of the control core meets. -/
def Tile.spaceWords (t : Tile) (stk : Bool) (i k : Nat) : List CWord := (List.range k).map (fun j => t.spaceWord stk (i + j))

theorem TW.readCore_correctable {w : TW} {stk : Bool} {i k : Nat} (h : ∀ u, u ∈ w.t.spaceWords stk i k → u.ecc ≠ .multi) :
    ∃ w', w.Noted w' ∧ w.readCore stk i k = (w', (w.t.spaceWords stk i k).map CWord.read, false) := by
  refine ⟨{ (List.range k).foldl (fun (w : TW) j => if stk then w.noteStk (i + j) else w.noteScr (i + j)) w with
    inval := w.inval }, ?_, ?_⟩
  · have hfold : w.Noted ((List.range k).foldl (fun (w : TW) j => if stk then w.noteStk (i + j) else w.noteScr (i + j)) w) := by
      refine TW.noted_foldl _ fun j hj w' hw => ?_
      cases stk with
      | false => exact TW.noted_noteScr w' _
      | true =>
        have hword := h _ (List.mem_map_of_mem hj)
        refine TW.noted_noteStk ?_
        rw [hw.tile]
        exact hword
    exact ⟨hfold.tile, hfold.words, hfold.beats, hfold.stkUe, hfold.pkts⟩
  · have hnone : (w.t.spaceWords stk i k).any (fun c => c.ecc = .multi) = false := by simpa using h
    rw [← hnone]
    rfl

/-- TS.HLD whose checks pass and whose words decode (R54). -/
theorem TW.tsHld_reads {w : TW} {i n addr : Nat} (hts : w.t.tsAt 6 = some i)
    (hcheck : w.t.coreHandle (w.t.tsArgs i).2.1 false = (n, addr, none))
    (hws : ∀ u, u ∈ w.t.spaceWords (w.t.handle n).stackSpace (addr / 8) (wordSpan addr 4).2 → u.ecc ≠ .multi) :
    ∃ w', w.Noted w' ∧ w.tsHld = w'.upd (fun t => (if (w.t.handle n).stackSpace then t.count 3 4 else t).tsDone (bits i 7 5)
      (leBytes (w.t.spaceWords (w.t.handle n).stackSpace (addr / 8) (wordSpan addr 4).2) (8 * (addr / 8)) addr 4)) := by
  obtain ⟨w', hnoted, hread⟩ := TW.readCore_correctable hws
  refine ⟨w', hnoted, ?_⟩
  have hspan : (wordSpan addr 4).1 = addr / 8 := rfl
  simp only [TW.tsHld, hts, hcheck, hspan, hread, Bool.false_eq_true, if_false]
  rw [leBytes_congr (map_read_data hws)]
  rfl

/-- TS.HST whose checks pass and whose words decode (R54). -/
theorem TW.tsHst_writes {w : TW} {i n addr : Nat} (hts : w.t.tsAt 7 = some i)
    (hcheck : w.t.coreHandle (w.t.tsArgs i).2.1 true = (n, addr, none))
    (hws : ∀ u, u ∈ w.t.spaceWords (w.t.handle n).stackSpace (addr / 8) (wordSpan addr 4).2 → u.ecc ≠ .multi) :
    ∃ w', w.Noted w' ∧ w.tsHst = w'.upd (fun t =>
      (((if (w.t.handle n).stackSpace then t.count 4 4 else t).putWords (w.t.handle n).stackSpace (addr / 8) (w.t.handle n).ten
        (putBytes ((w.t.spaceWords (w.t.handle n).stackSpace (addr / 8) (wordSpan addr 4).2).map (·.data)) (8 * (addr / 8)) addr
          (w.t.tsArgs i).2.2 4)).advance n 4).tsDone 0 0) := by
  obtain ⟨w', hnoted, hread⟩ := TW.readCore_correctable hws
  refine ⟨w', hnoted, ?_⟩
  have hspan : (wordSpan addr 4).1 = addr / 8 := rfl
  simp only [TW.tsHst, hts, hcheck, hspan, hread, Bool.false_eq_true, if_false, map_read_data hws]

end Sys2Proof.Machine

namespace Sys2Proof.Machine

/-! ### Handle accesses of the control core (R54, R185) -/

theorem State.tile_served (u : State) (f n key : Nat) : (u.served f n).tile f key = u.tile f key :=
  State.tile_updField u f (fun g => { g with others := logBeats g.others u.acyc n }) (fun _ => ⟨rfl, rfl, rfl⟩) f key

/-- An instruction of the extension that only changes the tile. -/
theorem State.coreWork_ungated_upd {s : State} {a : Addr} {f key : Nat} (hloc : s.locate a.toNat = some (f, key))
    (hserves : s.coreServes f = true) (hgate : s.coreGated f = false) (g : TPos → Tile → Tile) :
    s.coreWork a.toNat (fun s f p w => if s.coreGated f then w else w.upd (g p)) =
      s.absorb f key (TW.start (g (s.tpos f key) (s.tile f key)) s.acyc) :=
  State.coreWork_ungated hloc hserves hgate rfl

section Access
variable {s : State} {a f key : Nat} (hloc : s.locate a = some (f, key)) (hserves : s.coreServes f = true)
  (hgate : s.coreGated f = false)
include hloc hserves hgate

/-- An access of the core: made where R185 admits its beats, and waiting where it does not. -/
theorem State.coreAccess_served (f3 n : Nat) (g : TW → TW) : s.coreAccess a f3 n g =
    if (s.tile f key).coreBeats f3 n = 0 then s.coreWork a (fun _ _ _ w => g w)
    else if !s.admits f 2 then s.updField f (fun h => { h with coreWait := insertAsc key h.coreWait })
    else ((s.coreWork a (fun _ _ _ w => g w)).served f ((s.tile f key).coreBeats f3 n)).updField f (fun h =>
      { h with coreWait := h.coreWait.filter (fun q => q ≠ key) }) := by
  have hopen : (s.coreGated f || s.coreReset f || s.dark f || !s.compOn f) = false := by
    simp only [State.coreServes, Bool.and_eq_true, Bool.not_eq_true'] at hserves
    simp [hgate, hserves]
  simp only [State.coreAccess, hloc, hopen, Bool.false_eq_true, if_false]

theorem State.coreAccess_waits {f3 n : Nat} {g : TW → TW} (hbeats : (s.tile f key).coreBeats f3 n ≠ 0)
    (hfull : s.admits f 2 = false) : (s.coreAccess a f3 n g).tile f key = s.tile f key := by
  rw [State.coreAccess_served hloc hserves hgate, if_neg hbeats, if_pos (by simp [hfull])]
  exact State.tile_updField s f (fun h => { h with coreWait := insertAsc key h.coreWait }) (fun _ => ⟨rfl, rfl, rfl⟩) f key

theorem State.coreAccess_made {f3 n : Nat} {g : TW → TW} {w : TW} (hadmitted : (s.tile f key).coreBeats f3 n = 0 ∨ s.admits f 2 = true)
    (hw : g (TW.start (s.tile f key) s.acyc) = w) (hues : w.stkUe = []) : (s.coreAccess a f3 n g).tile f key = w.t := by
  have hwork : s.coreWork a (fun _ _ _ w => g w) = s.absorb f key w := State.coreWork_served hloc hserves hw
  have htile : (s.absorb f key w).tile f key = w.t := State.tile_absorb_same _ _ _ _ hues
  rw [State.coreAccess_served hloc hserves hgate, hwork]
  split
  · exact htile
  · next hbeats =>
    rw [if_neg (by simp [hadmitted.resolve_left hbeats])]
    exact (State.tile_updField _ f (fun h => { h with coreWait := h.coreWait.filter (fun q => q ≠ key) })
      (fun _ => ⟨rfl, rfl, rfl⟩) f key).trans ((State.tile_served ..).trans htile)

end Access

theorem Tile.advance_scratch (t : Tile) (hn n : Nat) : (t.advance hn n).scratch = t.scratch := by
  simp only [Tile.advance]
  split <;> rfl

theorem Tile.advance_stack (t : Tile) (hn n : Nat) : (t.advance hn n).stack = t.stack := by
  simp only [Tile.advance]
  split <;> rfl

/-- The bytes that an access counts, where it reaches the stack (R86). -/
theorem Tile.counted_memories (t : Tile) (stk : Bool) (i : Nat) : (if stk then t.count i 4 else t).scratch = t.scratch ∧
    (if stk then t.count i 4 else t).stack = t.stack := by
  cases stk <;> exact ⟨rfl, rfl⟩

section Handle
variable {t : Tile} {i n addr : Nat} (now : Nat)

/-- TS.HLD whose checks pass and whose words decode returns the 32 bits and leaves both memories (R54). -/
theorem TW.tsHld_effect (hts : t.tsAt 6 = some i) (hcheck : t.coreHandle (t.tsArgs i).2.1 false = (n, addr, none))
    (hws : ∀ u, u ∈ t.spaceWords (t.handle n).stackSpace (addr / 8) (wordSpan addr 4).2 → u.ecc ≠ .multi) :
    (TW.start t now).tsHld.stkUe = [] ∧ (TW.start t now).tsHld.t.scratch = t.scratch ∧
    (TW.start t now).tsHld.t.stack = t.stack ∧ (TW.start t now).tsHld.t.core.get (bits i 7 5) = (if bits i 7 5 = 0 then 0 else
      BitVec.ofNat 32 (leBytes (t.spaceWords (t.handle n).stackSpace (addr / 8) (wordSpan addr 4).2) (8 * (addr / 8)) addr 4)) := by
  obtain ⟨w, hnoted, hw⟩ := TW.tsHld_reads (w := TW.start t now) hts hcheck hws
  obtain ⟨hscratch, hstack⟩ := w.t.counted_memories (t.handle n).stackSpace 3
  rw [hnoted.tile] at hscratch hstack
  rw [hw, TW.upd, hnoted.tile]
  exact ⟨hnoted.stkUe, hscratch, hstack, Tile.tsDone_get ..⟩

/-- TS.HST whose checks pass and whose words decode writes the bytes with the handle's tag, and no other word (R54). -/
theorem TW.tsHst_effect (hts : t.tsAt 7 = some i) (hcheck : t.coreHandle (t.tsArgs i).2.1 true = (n, addr, none))
    (hws : ∀ u, u ∈ t.spaceWords (t.handle n).stackSpace (addr / 8) (wordSpan addr 4).2 → u.ecc ≠ .multi) :
    (TW.start t now).tsHst.stkUe = [] ∧ ∃ u : Tile, u.scratch = t.scratch ∧ u.stack = t.stack ∧
      (TW.start t now).tsHst.t.scratch = (u.putWords (t.handle n).stackSpace (addr / 8) (t.handle n).ten
        (putBytes ((t.spaceWords (t.handle n).stackSpace (addr / 8) (wordSpan addr 4).2).map (·.data)) (8 * (addr / 8)) addr
          (t.tsArgs i).2.2 4)).scratch ∧
      (TW.start t now).tsHst.t.stack = (u.putWords (t.handle n).stackSpace (addr / 8) (t.handle n).ten
        (putBytes ((t.spaceWords (t.handle n).stackSpace (addr / 8) (wordSpan addr 4).2).map (·.data)) (8 * (addr / 8)) addr
          (t.tsArgs i).2.2 4)).stack := by
  obtain ⟨w, hnoted, hw⟩ := TW.tsHst_writes (w := TW.start t now) hts hcheck hws
  obtain ⟨hscratch, hstack⟩ := w.t.counted_memories (t.handle n).stackSpace 4
  rw [hnoted.tile] at hscratch hstack
  rw [hw, TW.upd, hnoted.tile]
  exact ⟨hnoted.stkUe, _, hscratch, hstack, Tile.advance_scratch .., Tile.advance_stack ..⟩

end Handle

/-! ### O27 -/

theorem Tile.takeInHand_args (t : Tile) (now : Nat) (p : Packet) (rest : List Landed) :
    (t.takeInHand now p rest).core.get 10 = BitVec.ofNat 32 p.tag.toNat ∧
      (t.takeInHand now p rest).core.get 11 = BitVec.ofNat 32 p.src.toNat :=
  Tile.enter_args ({ t with msg := { t.msg with landed := rest } }) now p.tag.toNat p.src.toNat p.a2
    (t.core.tags.get TagEntry.zero p.tag.toNat) (some p)

/-- The packets after work that sends one. -/
theorem State.absorb_pkts_one {s : State} {f key : Nat} {w : TW} {p : Packet} (h : w.pkts = [p]) :
    (s.absorb f key w).pkts = s.pkts ++ [⟨s.pairAt f key, s.pairAt f key, p⟩] := by
  rw [State.absorb_pkts, h]
  rfl

theorem State.absorb_pkts_none {s : State} {f key : Nat} {w : TW} (h : w.pkts = []) : (s.absorb f key w).pkts = s.pkts := by
  rw [State.absorb_pkts, h]
  exact List.append_nil _

theorem execTsHld_start (a : Addr) (s : State) : exec (.tsHld a []) s = .next (s.coreAccess a.toNat 6 1 TW.tsHld) := rfl

theorem execTsHst_start (a : Addr) (s : State) : exec (.tsHst a []) s = .next (s.coreAccess a.toNat 7 2 TW.tsHst) := rfl

theorem Tile.scrWord_congr {t u : Tile} (h : t.scratch = u.scratch) (j : Nat) : t.scrWord j = u.scrWord j := by
  rw [Tile.scrWord, h, Tile.scrWord]

theorem Tile.stkWord_congr {t u : Tile} (h : t.stack = u.stack) (j : Nat) : t.stkWord j = u.stkWord j := by
  rw [Tile.stkWord, h, Tile.stkWord]

theorem Tile.spaceWord_congr {t u : Tile} (hscratch : t.scratch = u.scratch) (hstack : t.stack = u.stack) (stk : Bool) (j : Nat) :
    t.spaceWord stk j = u.spaceWord stk j := by
  rw [Tile.spaceWord, Tile.stkWord_congr hstack, Tile.scrWord_congr hscratch, Tile.spaceWord]

theorem wordSpan_four (addr : Nat) : (wordSpan addr 4).2 ≤ 2 := by
  simp only [wordSpan]
  omega

/-- Settles O27: a clause per command, from the equation of the tile's work. -/
theorem controlCoreCommandsComplete : Obligations.ControlCoreCommandsComplete := by
  refine ⟨?event, ?request, ?ran, ?trapped, ?refused, ?sent, ?replied, ?yielded, ?posted, ?get, ?set, ?load, ?store,
    ?loadWaits, ?storeWaits⟩
  case event =>
    intro s a f key ev rest hloc hserves hgate hwait hevq hbound
    refine ⟨_, Res.next_congr (State.coreWork_ungated hloc hserves hgate (TW.dispatch_event hwait hevq hbound)), ?_⟩
    rw [State.tile_absorb_start]
    obtain ⟨h10, h11⟩ := Tile.enter_args _ s.acyc 0x3FF ev.toNat 0 _ none
    exact ⟨rfl, rfl, h10, h11, rfl⟩
  case request =>
    intro s a f key p rest hloc hserves hgate hwait hevq hlanded hbound
    refine ⟨_, Res.next_congr (State.coreWork_ungated hloc hserves hgate (TW.dispatch_request hwait hevq hlanded hbound)), ?_⟩
    rw [State.tile_absorb_start]
    exact ⟨rfl, rfl, rfl, Tile.takeInHand_args ..⟩
  case ran =>
    intro s a f key u next hloc hserves hgate hactive hrun
    refine ⟨_, Res.next_congr (State.coreWork_ungated hloc hserves hgate (TW.coreInstr_ok hactive hrun)),
      State.tile_absorb_start .., State.absorb_clean_reports (TW.clean_start ..), State.absorb_pkts_none rfl⟩
  case trapped =>
    intro s a f key cause hloc hserves hgate hactive hrun hroom
    obtain ⟨hquiet, hfaults, hinval, hstate, hcause⟩ := TW.coreTrap_start (s.tile f key) s.acyc cause
    refine ⟨_, Res.next_congr (State.coreWork_ungated hloc hserves hgate (TW.coreInstr_trap hactive hrun)), ?_, ?_,
      State.absorb_reports1 hquiet hfaults hroom, State.absorb_quiet_run hquiet hinval⟩
    · rw [State.tile_absorb_same _ _ _ _ hquiet.stkUe, hstate]
    · rw [State.tile_absorb_same _ _ _ _ hquiet.stkUe, hcause]
  case refused =>
    intro s a f key i hloc hserves hgate hts hidle href hrd
    have hw := TW.tsSend_refused (now := s.acyc) (p := s.tpos f key) hts hidle href
    refine ⟨_, Res.next_congr (State.coreWork_ungated hloc hserves hgate hw), State.absorb_pkts_none rfl, ?_⟩
    rw [State.tile_absorb_same _ _ _ _ rfl]
    refine ⟨(Tile.tsDone_get ..).trans (if_neg hrd), ?_⟩
    rw [TW.upd, Tile.tsDone_msg, TW.note, Tile.latchFault_regs]
    exact hidle
  case sent =>
    intro s a f key i k hloc hserves hgate hword hok hslot
    have hplace : (s.tile f key).msg.send = .awaitSlot ∨ (s.tpos f key).spare = false ∧
        (s.tile f key).sendOk (s.tpos f key).rows ((s.tile f key).tsArgs i).2.1 ((s.tile f key).tsArgs i).2.2 = true :=
      hok.imp_right fun ⟨hlogical, hsend⟩ => ⟨by simpa [State.tpos] using hlogical, hsend⟩
    have hw := TW.tsSend_sends (w := TW.start (s.tile f key) s.acyc) hword hplace hslot
    refine ⟨_, (s.tile f key).sendPacket (s.tpos f key) i k, Res.next_congr (State.coreWork_ungated hloc hserves hgate hw),
      State.absorb_pkts_one rfl, rfl, rfl, rfl, rfl, ?_, ?_⟩
    · simp [Tile.sendPacket, CCore.sendWords]
    · rw [State.tile_absorb_same _ _ _ _ rfl]
      rfl
  case replied =>
    intro s a f key i q hloc hserves hgate hts hhand hstate hrpl hfirst hlen
    have hw := TW.tsReply_sends (w := TW.start (s.tile f key) s.acyc) hts hhand hstate hrpl hfirst hlen
    refine ⟨_, Res.next_congr (State.coreWork_ungated hloc hserves hgate hw), State.absorb_pkts_one rfl, ?_⟩
    rw [State.tile_absorb_same _ _ _ _ rfl]
    exact ⟨Tile.tsDone_replied .., (Tile.tsDone_get ..).trans (ite_self _)⟩
  case yielded =>
    intro s a f key i hloc hserves hgate hts
    obtain ⟨l, hnone, hw⟩ := TW.tsYield_eq (w := TW.start (s.tile f key) s.acyc) hts
    refine ⟨_, Res.next_congr (State.coreWork_ungated hloc hserves hgate hw), ?_⟩
    rw [State.tile_absorb_same _ _ _ _ rfl]
    exact ⟨rfl, rfl, fun hhand => State.absorb_pkts_none (hnone hhand)⟩
  case posted =>
    intro s a f key i hloc hserves hgate hts
    refine ⟨_, Res.next_congr (State.coreWork_ungated_upd hloc hserves hgate _), ?_⟩
    rw [State.tile_absorb_start, Tile.tsCppost_eq hts]
    exact ⟨Tile.tsDone_mboxReady .., Tile.tsDone_mboxId .., Tile.tsDone_mboxValue .., Tile.tsDone_get ..⟩
  case get =>
    intro s a f key i hloc hserves hgate hts hfield
    refine ⟨_, Res.next_congr (State.coreWork_ungated_upd hloc hserves hgate _), ?_⟩
    rw [State.tile_absorb_start, Tile.tsHget_base hts hfield]
    exact ⟨rfl, Tile.tsDone_get ..⟩
  case set =>
    intro s a f key i hloc hserves hgate hts hfield hv hbound
    refine ⟨_, Res.next_congr (State.coreWork_ungated_upd hloc hserves hgate _), ?_⟩
    rw [State.tile_absorb_start, Tile.tsHset_base hts hfield hv hbound]
    exact ⟨rfl, SMap.get_set_same ..⟩
  case load =>
    intro s a f key i n addr ws hloc hserves hgate hts hcheck hadmitted hws hgood
    subst hws
    obtain ⟨hues, heffect⟩ := TW.tsHld_effect s.acyc hts hcheck hgood
    refine ⟨_, execTsHld_start a s, ?_⟩
    rw [State.coreAccess_made hloc hserves hgate hadmitted rfl hues]
    exact heffect
  case store =>
    intro s a f key i n addr ws hloc hserves hgate hts hcheck hadmitted hws hgood
    subst hws
    obtain ⟨hues, u, hscratch, hstack, hscratch', hstack'⟩ := TW.tsHst_effect s.acyc hts hcheck hgood
    refine ⟨_, execTsHst_start a s, ?_⟩
    have hlen : ∀ v, (putBytes (((s.tile f key).spaceWords ((s.tile f key).handle n).stackSpace (addr / 8)
        (wordSpan addr 4).2).map (·.data)) (8 * (addr / 8)) addr v 4).length = (wordSpan addr 4).2 := fun v => by
      rw [putBytes_length]
      simp [Tile.spaceWords]
    have hspan := wordSpan_four addr
    rw [State.coreAccess_made hloc hserves hgate hadmitted rfl hues]
    refine ⟨fun j hj => ?_, fun j hj => ?_, fun j hj => ?_⟩
    · rw [Tile.spaceWord_congr hscratch' hstack']
      exact Tile.spaceWord_putWords _ _ _ _ _ _ (by rwa [hlen]) (by rw [hlen]; omega)
    · rw [Tile.stkWord_congr hstack', Tile.stkWord_putWords_other _ _ _ _ _ _ (by rwa [hlen]), Tile.stkWord_congr hstack]
    · rw [Tile.scrWord_congr hscratch', Tile.scrWord_putWords_other _ _ _ _ _ _ (by rwa [hlen]), Tile.scrWord_congr hscratch]
  case loadWaits =>
    intro s a f key hloc hserves hgate hbeats hfull
    exact ⟨_, rfl, State.coreAccess_waits hloc hserves hgate hbeats hfull⟩
  case storeWaits =>
    intro s a f key hloc hserves hgate hbeats hfull
    exact ⟨_, rfl, State.coreAccess_waits hloc hserves hgate hbeats hfull⟩

end Sys2Proof.Machine

namespace Sys2Proof.Machine

/-! ### Saturating counters -/

theorem satAdd_mod (w n k : Nat) : satAdd w n k % 2 ^ w = satAdd w n k := by
  have := Nat.two_pow_pos w
  exact Nat.mod_eq_of_lt (by unfold satAdd; omega)

theorem Tile.reg_countSat (t : Tile) (f : Fld) (n : Nat) : (t.countSat f n).reg f = satAdd f.w (t.reg f) n :=
  (Tile.reg_setReg_same ..).trans (satAdd_mod ..)

theorem State.reg_satReg (s : State) (f : Fld) (i n : Nat) : (s.satReg f i n).reg f i = satAdd f.w (s.reg f i) n :=
  (State.reg_setReg_same ..).trans (satAdd_mod ..)

/-! ### The slots of the message interface -/

@[simp] theorem MsgIf.slot_setSlot_same (m : MsgIf) (i : Nat) (x : Slot) : (m.setSlot i x).slot i = x := SMap.get_set_same ..

theorem MsgIf.slot_setSlot_other (m : MsgIf) {i j : Nat} (x : Slot) (h : j ≠ i) : (m.setSlot i x).slot j = m.slot j :=
  SMap.get_set_other _ _ _ _ _ h

/-! ### A packet at its destination (R212, R213) -/

/-- Packet `k`, first of its input and arrived at a tile whose message fabric is in no reset, is taken there. -/
theorem State.deliver_arrived {s : State} {k f key : Nat} {x : Flight} {ok : Packet → Bool} {g : State → Nat → Packet → TW → TW}
    {w : TW} (hx : s.pkts[k]? = some x) (hhead : s.atHead k = true) (hat : x.at_ = x.pkt.dst.toNat)
    (hreset : s.msgReset (pairField x.at_) = false) (hloc : s.locate x.at_ = some (f, key)) (hok : ok x.pkt = true)
    (hw : g { s with pkts := s.pkts.eraseIdx k } f x.pkt (TW.start (s.tile f key) s.acyc) = w) :
    s.deliver k ok g = ({ s with pkts := s.pkts.eraseIdx k } : State).absorb f key w := by
  have htake : s.takePkt k = some (x, { s with pkts := s.pkts.eraseIdx k }) := by simp [State.takePkt, hx, hhead]
  have hpass : (decide (x.at_ ≠ x.pkt.dst.toNat) || !ok x.pkt) = false := by simp [hat, hok]
  simp only [State.deliver, htake, hpass, hreset, Bool.false_eq_true, if_false]
  rw [State.atTile_located (s := { s with pkts := s.pkts.eraseIdx k }) hloc, ← hw]
  rfl

/-- The same for work that only changes the tile. -/
theorem State.deliver_upd {s : State} {k f key : Nat} {x : Flight} {ok : Packet → Bool} {g : State → Nat → Packet → TW → TW}
    {u : Tile → Tile} (hx : s.pkts[k]? = some x) (hhead : s.atHead k = true) (hat : x.at_ = x.pkt.dst.toNat)
    (hreset : s.msgReset (pairField x.at_) = false) (hloc : s.locate x.at_ = some (f, key)) (hok : ok x.pkt = true)
    (hw : g { s with pkts := s.pkts.eraseIdx k } f x.pkt (TW.start (s.tile f key) s.acyc) =
      (TW.start (s.tile f key) s.acyc).upd u) :
    (s.deliver k ok g).tile f key = u (s.tile f key) ∧ (s.deliver k ok g).pkts = s.pkts.eraseIdx k := by
  rw [State.deliver_arrived hx hhead hat hreset hloc hok hw]
  exact ⟨State.tile_absorb_same _ _ _ _ rfl, State.absorb_pkts_none rfl⟩

section Answers
variable {w : TW} {p : Packet}

/-- The tile whose awaited request has its ACK. -/
def Tile.acked (t : Tile) (now : Nat) (p : Packet) : Tile :=
  let sl := t.msg.slot p.slot.toNat
  (t.msgUpd (·.setSlot p.slot.toNat
    (if t.rpl p.tag.toNat then { sl with ackAt := some now } else { sl with reserved := false }))).sendReturn 0

/-- The tile whose awaited request has a BUSY. -/
def Tile.backedOff (t : Tile) (now : Nat) : Tile :=
  (t.msgUpd (fun m => { m with send := .backoff, backoffAt := now })).countSat F.MSG_CNT_BUSY_RX

theorem TW.takeAck_awaited (hmatch : w.t.answerMatches p = true) (hawait : w.t.awaits p = true) :
    w.takeAck p = w.upd (·.acked w.now p) := by
  simp only [TW.takeAck, hmatch, if_true, TW.upd, hawait]
  rfl

theorem TW.takeBusy_awaited (hmatch : w.t.answerMatches p = true) (hawait : w.t.awaits p = true) :
    w.takeBusy p = w.upd (·.backedOff w.now) := by
  simp only [TW.takeBusy, hmatch, if_true, TW.upd, hawait]
  rfl

/-- The tile in which a reply has landed in its slot. -/
def Tile.landed (t : Tile) (live : Bool) (now : Nat) (p : Packet) : Tile :=
  let u := t.msgUpd (fun m => { m.setSlot p.slot.toNat { m.slot p.slot.toNat with held := some p } with
    landed := m.landReply live now p.slot.toNat })
  if p.status ≠ 0 then u.countSat F.MSG_CNT_ERR_RX else u

theorem TW.takeReply_lands {live : Bool} (hmatch : w.t.answerMatches p = true) (hawait : w.t.awaits p = false)
    (hfree : (w.t.msg.slot p.slot.toNat).held = none) : w.takeReply live p = w.upd (·.landed live w.now p) := by
  simp only [TW.takeReply, hmatch, hfree, Option.isNone_none, Bool.and_self, if_true, TW.upd, hawait, Bool.false_eq_true, if_false]
  rfl

/-- An answer for a slot that is not reserved is late, whatever it is (R211). -/
theorem TW.late_of_unreserved (hfree : (w.t.msg.slot p.slot.toNat).reserved = false) :
    w.takeAck p = w.lateAnswer ∧ w.takeBusy p = w.lateAnswer ∧ ∀ live, w.takeReply live p = w.lateAnswer := by
  have hmatch : w.t.answerMatches p = false := by simp [Tile.answerMatches, hfree]
  exact ⟨by simp [TW.takeAck, hmatch], by simp [TW.takeBusy, hmatch], fun _ => by simp [TW.takeReply, hmatch]⟩

end Answers

theorem Tile.acked_slot (t : Tile) (now : Nat) (p : Packet) : (t.acked now p).msg.slot p.slot.toNat =
    if t.rpl p.tag.toNat then { t.msg.slot p.slot.toNat with ackAt := some now } else { t.msg.slot p.slot.toNat with reserved := false } :=
  MsgIf.slot_setSlot_same ..

/-- An ACK keeps the reservation of its slot where a reply is to come, and ends it else (R208). -/
theorem Tile.acked_reserved {t : Tile} (now : Nat) {p : Packet} (hres : (t.msg.slot p.slot.toNat).reserved = true) :
    ((t.acked now p).msg.slot p.slot.toNat).reserved = t.rpl p.tag.toNat := by
  rw [Tile.acked_slot]
  cases hrpl : t.rpl p.tag.toNat
  · rfl
  · exact hres

theorem Tile.sendReturn_get (t : Tile) (v : Nat) :
    (t.sendReturn v).core.get t.msg.txRd = if t.msg.txRd = 0 then 0 else BitVec.ofNat 32 v := Tile.tsDone_get ..

theorem Tile.landed_frame (t : Tile) (live : Bool) (now : Nat) (p : Packet) :
    ((t.landed live now p).msg.slot p.slot.toNat).held = some p ∧
      (t.landed live now p).msg.landed = t.msg.landReply live now p.slot.toNat ∧ (t.landed live now p).core = t.core := by
  have hslot : ∀ l : List Landed, MsgIf.slot { t.msg.setSlot p.slot.toNat { t.msg.slot p.slot.toNat with held := some p } with
      landed := l } p.slot.toNat = { t.msg.slot p.slot.toNat with held := some p } := fun _ => MsgIf.slot_setSlot_same ..
  have hheld := fun l => congrArg Slot.held (hslot l)
  unfold Tile.landed
  split <;> exact ⟨hheld _, rfl, rfl⟩

/-- A reply that no request has landed beside in its acycle lands behind what has landed (R214). -/
theorem MsgIf.landReply_last {m : MsgIf} {live : Bool} {now : Nat} (slot : Nat) (h : live = false ∨ m.reqAt ≠ now + 1) :
    m.landReply live now slot = m.landed ++ [.reply slot] := by
  unfold MsgIf.landReply
  split
  · exact if_neg (by simpa using Or.resolve_left h)
  · rfl

/-- A reply is taken before the request that landed in the same acycle of a run (R214). -/
theorem MsgIf.landReply_before {m : MsgIf} {now : Nat} {q : Packet} (slot : Nat) (hreq : m.reqAt = now + 1)
    (hlast : m.landed.getLast? = some (.request q)) :
    m.landReply true now slot = m.landed.dropLast ++ [.reply slot, .request q] := by
  simp [MsgIf.landReply, hlast, hreq]

/-! ### The timers (R208, R211) -/

theorem TW.resend_backoff {w : TW} {p : Packet} (hsend : w.t.msg.send = .backoff) (htx : w.t.msg.txPkt = some p) :
    w.resend = (w.upd (·.msgUpd (fun m => { m with send := .awaitAnswer }))).emit p := by
  simp only [TW.resend, hsend, htx]

/-- The tile whose awaited answer has not come in time. -/
def Tile.sendTimedOut (t : Tile) (now slot : Nat) : Tile :=
  (t.msgUpd (fun m => m.setSlot slot
    { m.slot slot with reserved := false, abandoned := true, ackAt := none, quarantineAt := now })).sendReturn 2

theorem TW.sendTimeout_waiting {w : TW} {p : Packet} (hsend : w.t.msg.send = .awaitAnswer) (htx : w.t.msg.txPkt = some p)
    (hlimit : w.t.reg F.MSG_CFG_SEND_TIMEOUT ≠ 0) :
    w.sendTimeout = (w.upd (·.sendTimedOut w.now p.slot.toNat)).note Code.msgSendTimeout := by
  simp [TW.sendTimeout, hsend, htx, hlimit, TW.upd, Tile.sendTimedOut]

theorem Tile.sendTimedOut_slot (t : Tile) (now slot : Nat) : (t.sendTimedOut now slot).msg.slot slot =
    { t.msg.slot slot with reserved := false, abandoned := true, ackAt := none, quarantineAt := now } :=
  MsgIf.slot_setSlot_same t.msg slot { t.msg.slot slot with reserved := false, abandoned := true, ackAt := none, quarantineAt := now }

/-- The reply that the interface delivers for a slot whose REPLY_TIMEOUT has passed (R211). -/
def Tile.timeoutReply (t : Tile) (own slot : Nat) : Packet where
  reply := true
  inc := t.msg.inc
  slot := BitVec.ofNat 3 slot
  status := 6
  cls := 0
  tag := (t.msg.slot slot).tag
  src := (t.msg.slot slot).dest
  dst := BitVec.ofNat 20 own
  words := []

/-- The tile whose reply has not come in time. -/
def Tile.replyTimedOut (t : Tile) (own : Nat) (live : Bool) (now slot : Nat) : Tile :=
  (t.msgUpd (fun m => { m.setSlot slot { m.slot slot with
      held := some (t.timeoutReply own slot), abandoned := true, quarantineAt := now } with
    landed := m.landReply live now slot })).countSat F.MSG_CNT_ERR_RX

theorem TW.replyTimeout_acked {w : TW} {own slot n : Nat} {live : Bool} (hres : (w.t.msg.slot slot).reserved = true)
    (hack : (w.t.msg.slot slot).ackAt = some n) (hheld : (w.t.msg.slot slot).held = none)
    (hlimit : w.t.reg F.MSG_CFG_REPLY_TIMEOUT ≠ 0) :
    w.replyTimeout own live slot = (w.upd (·.replyTimedOut own live w.now slot)).note Code.msgReplyTimeout := by
  unfold TW.replyTimeout
  exact (if_pos (by simp [hres, hack, hheld, hlimit])).trans rfl

theorem Tile.replyTimedOut_slot (t : Tile) (own : Nat) (live : Bool) (now slot : Nat) :
    (t.replyTimedOut own live now slot).msg.slot slot = { t.msg.slot slot with
      held := some (t.timeoutReply own slot), abandoned := true, quarantineAt := now } := MsgIf.slot_setSlot_same ..

theorem TW.note_tile (w : TW) (code : Nat) : (w.note code).t.msg = w.t.msg ∧ (w.note code).t.core = w.t.core := by
  rw [TW.note, Tile.latchFault_regs]
  exact ⟨rfl, rfl⟩

/-! ### O30 -/

/-- A late answer counts in MSG_CNT.LATE and leaves the message interface. -/
theorem Tile.countSat_late (t : Tile) : (t.countSat F.MSG_CNT_LATE).msg = t.msg ∧
    (t.countSat F.MSG_CNT_LATE).reg F.MSG_CNT_LATE = satAdd 16 (t.reg F.MSG_CNT_LATE) 1 := ⟨rfl, Tile.reg_countSat ..⟩

/-- Settles O30: an answer is a delivery whose work changes the tile alone, and a timer is the tile's own work. -/
theorem answersAndTimersOfTheMessageInterface : Obligations.AnswersAndTimersOfTheMessageInterface := by
  refine ⟨?ack, ?busy, ?backoff, ?reply, ?lateAck, ?lateBusy, ?lateReply, ?sendTimeout, ?replyTimeout, ?quarantine⟩
  case ack =>
    intro s k x f key hx hhead hat hreply hcls hreset hloc hmatch hawait
    obtain ⟨htile, hpkts⟩ := State.deliver_upd (ok := fun p => p.reply && p.cls = 1)
      (g := fun _ _ p w => w.takeAck p) hx hhead hat hreset hloc
      (by simp [hreply, hcls]) (TW.takeAck_awaited (w := TW.start (s.tile f key) s.acyc) hmatch hawait)
    refine ⟨_, rfl, ?_⟩
    rw [htile]
    simp only [Tile.answerMatches, Bool.and_eq_true] at hmatch
    exact ⟨rfl, (Tile.sendReturn_get ..).trans (ite_self _), hpkts, Tile.acked_reserved _ hmatch.1⟩
  case busy =>
    intro s k x f key hx hhead hat hreply hcls hreset hloc hmatch hawait
    obtain ⟨htile, hpkts⟩ := State.deliver_upd (ok := fun p => p.reply && p.cls = 2)
      (g := fun _ _ p w => w.takeBusy p) hx hhead hat hreset hloc
      (by simp [hreply, hcls]) (TW.takeBusy_awaited (w := TW.start (s.tile f key) s.acyc) hmatch hawait)
    refine ⟨_, rfl, ?_⟩
    rw [htile]
    exact ⟨rfl, rfl, hpkts⟩
  case backoff =>
    intro s a f key p hloc hserves hsend htx
    refine ⟨_, Res.next_congr (State.coreWork_served hloc hserves
      (TW.resend_backoff (w := TW.start (s.tile f key) s.acyc) hsend htx)), ?_, State.absorb_pkts_one rfl⟩
    rw [State.tile_absorb_same _ _ _ _ rfl]
    rfl
  case reply =>
    intro s k x f key hx hhead hat hreply hcls hreset hloc hmatch hawait hfree
    obtain ⟨htile, hpkts⟩ := State.deliver_upd (ok := fun p => p.reply && p.cls = 0)
      (g := fun s _ p w => w.takeReply s.run.cur.isSome p) hx hhead hat hreset hloc
      (by simp [hreply, hcls])
      (TW.takeReply_lands (w := TW.start (s.tile f key) s.acyc) (live := s.run.cur.isSome) hmatch hawait hfree)
    obtain ⟨hheld, hlanded, hcore⟩ := Tile.landed_frame (s.tile f key) s.run.cur.isSome s.acyc x.pkt
    refine ⟨_, rfl, ?_⟩
    rw [htile]
    refine ⟨hheld, fun hlast => hlanded.trans (MsgIf.landReply_last _ (hlast.imp_left fun h => by rw [h]; rfl)),
      fun q hrun hreq hlast => hlanded.trans ?_, hcore, hpkts⟩
    rw [Option.isSome_iff_ne_none.2 hrun, MsgIf.landReply_before _ hreq hlast]
  case lateAck =>
    intro s k x f key hx hhead hat hreply hcls hreset hloc hfree
    obtain ⟨hlate, -, -⟩ := TW.late_of_unreserved (w := TW.start (s.tile f key) s.acyc) hfree
    obtain ⟨htile, hpkts⟩ := State.deliver_upd (ok := fun p => p.reply && p.cls = 1)
      (g := fun _ _ p w => w.takeAck p) hx hhead hat hreset hloc
      (by simp [hreply, hcls]) hlate
    refine ⟨_, rfl, hpkts, ?_⟩
    rw [htile]
    exact Tile.countSat_late _
  case lateBusy =>
    intro s k x f key hx hhead hat hreply hcls hreset hloc hfree
    obtain ⟨-, hlate, -⟩ := TW.late_of_unreserved (w := TW.start (s.tile f key) s.acyc) hfree
    obtain ⟨htile, hpkts⟩ := State.deliver_upd (ok := fun p => p.reply && p.cls = 2)
      (g := fun _ _ p w => w.takeBusy p) hx hhead hat hreset hloc
      (by simp [hreply, hcls]) hlate
    refine ⟨_, rfl, hpkts, ?_⟩
    rw [htile]
    exact Tile.countSat_late _
  case lateReply =>
    intro s k x f key hx hhead hat hreply hcls hreset hloc hfree
    obtain ⟨-, -, hlate⟩ := TW.late_of_unreserved (w := TW.start (s.tile f key) s.acyc) hfree
    obtain ⟨htile, hpkts⟩ := State.deliver_upd (ok := fun p => p.reply && p.cls = 0)
      (g := fun s _ p w => w.takeReply s.run.cur.isSome p) hx hhead hat hreset hloc
      (by simp [hreply, hcls]) (hlate s.run.cur.isSome)
    refine ⟨_, rfl, hpkts, ?_⟩
    rw [htile]
    exact Tile.countSat_late _
  case sendTimeout =>
    intro s a f key p hloc hserves hsend htx hlimit hroom hrd
    have hw := TW.sendTimeout_waiting (w := TW.start (s.tile f key) s.acyc) hsend htx hlimit
    refine ⟨_, Res.next_congr (State.coreWork_served hloc hserves hw), ?_⟩
    rw [State.tile_absorb_same _ _ _ _ rfl, (TW.note_tile _ _).1, (TW.note_tile _ _).2]
    have hslot := (s.tile f key).sendTimedOut_slot s.acyc p.slot.toNat
    exact ⟨rfl, (Tile.sendReturn_get ..).trans (if_neg hrd), congrArg Slot.abandoned hslot, congrArg Slot.reserved hslot,
      State.absorb_reports1 ⟨rfl, rfl, rfl⟩ rfl hroom, State.absorb_quiet_run ⟨rfl, rfl, rfl⟩ rfl⟩
  case replyTimeout =>
    intro s a slot f key n hloc hserves hres hack hheld hlimit hroom
    have hw := TW.replyTimeout_acked (w := TW.start (s.tile f key) s.acyc)
      (own := pairOf2 (s.tpos f key).lx (s.tpos f key).ly) (live := s.run.cur.isSome) hres hack hheld hlimit
    refine ⟨_, (s.tile f key).timeoutReply (pairOf2 (s.tpos f key).lx (s.tpos f key).ly) slot.val,
      Res.next_congr (State.coreWork_served hloc hserves hw), ?_⟩
    rw [State.tile_absorb_same _ _ _ _ rfl, (TW.note_tile _ _).1]
    have hslot := (s.tile f key).replyTimedOut_slot (pairOf2 (s.tpos f key).lx (s.tpos f key).ly) s.run.cur.isSome s.acyc slot.val
    exact ⟨congrArg Slot.held hslot, rfl, rfl, rfl, congrArg Slot.abandoned hslot,
      fun hlast => MsgIf.landReply_last _ (hlast.imp_left fun h => by rw [h]; rfl),
      State.absorb_reports1 ⟨rfl, rfl, rfl⟩ rfl hroom, State.absorb_quiet_run ⟨rfl, rfl, rfl⟩ rfl⟩
  case quarantine =>
    intro s a slot f key hloc hserves
    refine ⟨_, Res.next_congr (State.coreWork_served hloc hserves rfl), ?_⟩
    rw [State.tile_absorb_same _ _ _ _ rfl]
    exact ⟨MsgIf.slot_setSlot_same .., fun j hj => MsgIf.slot_setSlot_other _ _ hj⟩

end Sys2Proof.Machine

namespace Sys2Proof.Machine

/-! ### Work at one tile leaves the others -/

section Other
variable {s : State} {a f key : Nat} (hother : s.locate a ≠ some (f, key))
include hother

theorem State.tile_atTile_other (g : State → Nat → Nat → TPos → Tile → TW) : (s.atTile a g).tile f key = s.tile f key := by
  unfold State.atTile
  split
  · rfl
  · next n k hloc => exact State.tile_absorb_other _ _ _ _ _ _ fun h => hother (by rw [hloc, h.1, h.2])

theorem State.tile_land_other : (s.land a).tile f key = s.tile f key := by
  unfold State.land State.atTile'
  exact State.tile_atTile_other hother _

theorem State.tile_coreWork_other (g : State → Nat → TPos → TW → TW) : (s.coreWork a g).tile f key = s.tile f key :=
  State.tile_atTile_other hother _

theorem State.tile_coreAccess_other (f3 n : Nat) (g : TW → TW) : (s.coreAccess a f3 n g).tile f key = s.tile f key := by
  have hwork := State.tile_coreWork_other hother (fun _ _ _ w => g w)
  have hkeep : ∀ (u : State) (m : Nat) (l : FieldSt → List Nat),
      (u.updField m (fun g => { g with coreWait := l g })).tile f key = u.tile f key :=
    fun u m l => State.tile_updField u m (fun g => { g with coreWait := l g }) (fun _ => ⟨rfl, rfl, rfl⟩) f key
  have hserved : ∀ (u : State) (m k : Nat), (u.served m k).tile f key = u.tile f key := fun u m k =>
    State.tile_updField u m (fun g => { g with others := logBeats g.others u.acyc k }) (fun _ => ⟨rfl, rfl, rfl⟩) f key
  unfold State.coreAccess
  split
  · rfl
  · split
    · rfl
    · dsimp only
      split
      · exact hwork
      · split
        · exact hkeep ..
        · exact (hkeep ..).trans ((hserved ..).trans hwork)

end Other

/-- Lost scratch words are reloaded in their tile alone. -/
theorem State.tile_reloadLost_other (s : State) (n k : Nat) (lost : List Nat) (f key : Nat) (h : ¬ (f = n ∧ key = k)) :
    (s.reloadLost n k lost).tile f key = s.tile f key := by
  unfold State.reloadLost
  split
  · split
    · rfl
    · exact State.tile_setTile_other _ _ _ _ _ _ h
  · rfl

/-! ### Packets from Base Camp with no flit in error (R203, R221) -/

/-- A router changes nothing where no flit is in error. -/
theorem State.pass_clean (l : List Nat) (z : Nat) (s : State) : (State.pass [] l z s).1 = s := by
  induction l generalizing z with
  | nil => rfl
  | cons b r ih =>
    have hdecode : s.decodeAt b (errsAt [] b) = (s, false) := rfl
    unfold State.pass
    split
    · rfl
    · simp only [hdecode, Bool.false_eq_true, if_false]
      exact ih b

section Other
variable {s : State} {a : Addr} {f key : Nat} (hother : s.locate a.toNat ≠ some (f, key))
include hother

/-- A SYSTEM packet from Base Camp touches the tile that it names alone. -/
theorem State.tile_sysOp_other (op : Nat) (ws : List Tok) : (s.sysOp a.toNat op ws []).tile f key = s.tile f key := by
  have hdst : (sysPacket a.toNat op ws).dst.toNat = a.toNat := by simp [sysPacket]
  unfold State.sysOp
  split
  · rfl
  · have hpass := State.pass_clean (bcRoute a.toNat) bcPair s
    split
    · next heq =>
      rw [heq] at hpass
      subst hpass
      exact State.tile_atTile_other (by rwa [hdst]) _
    · next heq =>
      rw [heq] at hpass
      rw [← hpass]
    · next heq =>
      rw [heq] at hpass
      subst hpass
      dsimp only
      split
      · rfl
      · rfl

theorem execScrubDone_other (ups : List Upset) : ∃ u, execScrubDone a ups s = .next u ∧ u.tile f key = s.tile f key := by
  refine ⟨_, rfl, ?_⟩
  have hwork := State.tile_coreWork_other hother (fun _ _ _ w => (w.upd (fun t => ups.foldl Tile.upset t)).scrubDone)
  split
  · next n k hloc =>
    dsimp only
    split
    · exact (State.tile_reloadLost_other _ _ _ _ _ _ fun h => hother (by rw [hloc, h.1, h.2])).trans hwork
    · exact hwork
  · exact hwork

end Other

/-! ### O28 -/

/-- A command that answers a next state leaves the tile as it was. -/
def State.Spares (s : State) (f key : Nat) (r : Res) : Prop := ∀ t, r = .next t → t.tile f key = s.tile f key

theorem State.spares_next {s u : State} {f key : Nat} (h : u.tile f key = s.tile f key) : s.Spares f key (.next u) := by
  intro t ht
  cases ht
  exact h

/-- Settles O28: every command of the list is work of the tile that its pair names, the scrub's reload included. -/
theorem tileCommandsTouchOneTile : Obligations.TileCommandsTouchOneTile := by
  intro s t a c ups stuck slot addr n data number f key hc hexec hother
  refine (?_ : s.Spares f key (exec c s)) t hexec
  revert c
  have hwork := fun g => State.spares_next (State.tile_atTile_other hother g)
  have hland := State.spares_next (State.tile_land_other hother)
  have haccess := fun f3 n g => State.spares_next (State.tile_coreAccess_other hother f3 n g)
  have hsys := fun op ws => State.spares_next (State.tile_sysOp_other hother op ws)
  obtain ⟨u, hscrub, hspared⟩ := execScrubDone_other hother ups
  have hscrubbed : s.Spares f key (execScrubDone a ups s) := hscrub ▸ State.spares_next hspared
  suffices h : ∀ c ∈ _, s.Spares f key (exec c s) from fun c hc _ => h c hc
  simp only [List.forall_mem_cons]
  exact ⟨hland, hland, hland, hland, hland, hland, hwork _, hwork _, hwork _, hwork _, hscrubbed, hwork _, hwork _, hwork _, hwork _,
    hwork _, hwork _, hwork _, hwork _, hwork _, hwork _, hwork _, haccess _ _ _, haccess _ _ _, hwork _, hwork _, hwork _,
    hwork _, hsys _ _, hsys _ _, hsys _ _, by simp⟩

end Sys2Proof.Machine

namespace Sys2Proof.Machine

/-! ### The header words of system packets (R219, R220) -/

theorem word64_one_toNat {x : Nat} (hx : x < 2 ^ 64) : (word64 [(0, x)]).toNat = x := by
  simpa [word64] using hx

theorem word64_pair_toNat {x y : Nat} (hx : x < 2 ^ 20) (hy : y < 2 ^ 44) : (word64 [(0, x), (20, y)]).toNat = y * 2 ^ 20 + x := by
  have hshift : y <<< 20 = y * 2 ^ 20 := Nat.shiftLeft_eq ..
  have hword : (word64 [(0, x), (20, y)]).toNat = y <<< 20 ||| x := by
    have hx' : x % 2 ^ 64 = x := Nat.mod_eq_of_lt (by omega)
    have hy' : y % 2 ^ 64 = y := Nat.mod_eq_of_lt (by omega)
    have hs : (y <<< 20) % 2 ^ 64 = y <<< 20 := Nat.mod_eq_of_lt (by omega)
    simp only [word64, List.foldl_cons, List.foldl_nil, BitVec.toNat_or, BitVec.toNat_shiftLeft, BitVec.toNat_ofNat, hx', hy', hs,
      Nat.shiftLeft_zero]
    exact (congrArg (· ||| y <<< 20) (Nat.zero_or x)).trans (Nat.or_comm ..)
  rw [hword, ← Nat.shiftLeft_add_eq_or_of_lt hx, hshift]

theorem bits_word64_one {x : Nat} (hx : x < 2 ^ 20) : bits (word64 [(0, x)]).toNat 0 20 = x := by
  rw [word64_one_toNat (by omega)]
  exact Nat.mod_eq_of_lt hx

theorem bits_word64_low {x y : Nat} (hx : x < 2 ^ 20) (hy : y < 2 ^ 44) : bits (word64 [(0, x), (20, y)]).toNat 0 20 = x := by
  rw [word64_pair_toNat hx hy, bits, Nat.shiftRight_zero]
  omega

theorem bits_word64_high {x y w : Nat} (hx : x < 2 ^ 20) (hy : y < 2 ^ w) (hw : w ≤ 44) :
    bits (word64 [(0, x), (20, y)]).toNat 20 w = y := by
  have hy44 : y < 2 ^ 44 := hy.trans_le (Nat.pow_le_pow_right (by decide) hw)
  rw [word64_pair_toNat hx hy44, bits, Nat.shiftRight_eq_div_pow, show (y * 2 ^ 20 + x) / 2 ^ 20 = y by omega]
  exact Nat.mod_eq_of_lt hy

/-! ### The agent's writes to scratch (R219) -/

/-- The code words that data with tag symbols leave in scratch. -/
def tokWords (ds : List Tok) : List CWord := ds.map (fun d => ⟨d.data, d.colour, 0⟩)

theorem TPos.shuts_scratch (p : TPos) {a : Nat} (group : Nat) (h : a < 0x10000) : p.shuts a group = false := by
  have h1 : ¬ (0x10080 ≤ a ∧ a < 0x100A0 ∨ 0x20000 ≤ a ∧ a < 0x29000) := by omega
  have h2 : a ≠ 0x10730 := by omega
  simp [TPos.shuts, h1, h2]

theorem Tile.writeAddr_scratch (t : Tile) (p : TPos) {a : Nat} (v : Tok) (h : a < 0x10000) :
    t.writeAddr p a v = some (t.setScrWord (a / 8) v.data v.colour) := by
  simp only [Tile.writeAddr, p.shuts_scratch _ h, Bool.false_eq_true, if_false, h, if_true]

theorem inTileMap_scratch {a : Nat} (h : a < 0x10000) : inTileMap a = true := by
  simp [inTileMap, show a < 0x11000 by omega]

theorem Tile.sysWriteAll_scratch (t : Tile) (p : TPos) (a : Nat) (ds : List Tok) (h : a + 8 * ds.length ≤ 0x10000) :
    t.sysWriteAll p a ds = some (t.landScr (a / 8) (tokWords ds)) := by
  induction ds generalizing t a with
  | nil => rfl
  | cons d ds ih =>
    rw [List.length_cons] at h
    have ha : a < 0x10000 := by omega
    rw [Tile.sysWriteAll, inTileMap_scratch ha, t.writeAddr_scratch p d ha]
    refine (ih _ (a + 8) (by omega)).trans ?_
    rw [show (a + 8) / 8 = a / 8 + 1 by omega]
    rfl

theorem Tile.sysWrite_scratch (t : Tile) (p : TPos) {a : Nat} {ds : List Tok} (halign : a % 8 = 0) (hpos : 0 < ds.length)
    (hlen : ds.length ≤ 7) (h : a + 8 * ds.length ≤ 0x10000) :
    t.sysWrite p a ds = some (t.landScr (a / 8) (tokWords ds)) := by
  have hne : ds ≠ [] := List.ne_nil_of_length_pos hpos
  simp [Tile.sysWrite, halign, hne, Nat.not_lt.2 hlen, t.sysWriteAll_scratch p a ds h]

/-! ### SYSTEM packets at their tile (R219) -/

section Serve
variable (s : State) {a : Addr} {f key : Nat} (hloc : s.locate a.toNat = some (f, key))

theorem State.pass_through {l : List Nat} (h : ∀ b, b ∈ l → s.msgReset (pairField b) = false) (z : Nat) :
    State.pass [] l z s = (s, .through) := by
  induction l generalizing z with
  | nil => rfl
  | cons b r ih =>
    have hdecode : s.decodeAt b (errsAt [] b) = (s, false) := rfl
    simp only [State.pass, h b (by simp), hdecode, Bool.false_eq_true, if_false]
    exact ih (fun c hc => h c (by simp [hc])) b

variable {s}
include hloc

/-- A SYSTEM packet whose way is free is served by the agent of its tile. -/
theorem State.sysOp_served (hway : ∀ b, b ∈ bcRoute a.toNat → s.msgReset (pairField b) = false) (haway : s.agentAway f = false)
    (op : Nat) (ws : List Tok) : s.sysOp a.toNat op ws [] = s.absorb f key
      ((TW.start (s.tile f key) s.acyc).system (s.tpos f key) (sysPacket a.toNat op ws) false) := by
  have hdst : (sysPacket a.toNat op ws).dst.toNat = a.toNat := by simp [sysPacket]
  have hcls : (sysPacket a.toNat op ws).cls = 1 := rfl
  simp only [State.sysOp, hloc, State.pass_through s hway, State.serveAgent, hdst]
  rw [State.atTile_located hloc]
  simp only [hcls, if_true, haway]

variable {z b : Nat} (hpass : State.pass [] (bcRoute a.toNat) bcPair s = (s, .held z b)) (op : Nat) (ws : List Tok)
include hpass

/-- A SYSTEM packet for a field whose message fabric is in reset is answered UNAVAILABLE at the seam (R221). -/
theorem State.sysOp_unavailable (hown : pairField a.toNat = pairField b) :
    s.sysOp a.toNat op ws [] = { s.satReg F.RST_ISO_MSG with
      pkts := s.pkts ++ [⟨z, z, (sysPacket a.toNat op ws).answer 0 3 []⟩] } := by
  simp only [State.sysOp, hloc, hpass, hown, if_true]
  rfl

/-- One that only passes through such a field waits before the seam (R221). -/
theorem State.sysOp_waits (hown : pairField a.toNat ≠ pairField b) :
    s.sysOp a.toNat op ws [] = { s with pkts := s.pkts ++ [⟨z, z, sysPacket a.toNat op ws⟩] } := by
  simp only [State.sysOp, hloc, hpass, hown, if_false]

end Serve

/-! ### READ -/

theorem TW.sysRead_refused (w : TW) (p : TPos) {arg : Nat} (h : bits arg 0 20 % 8 ≠ 0 ∨ bits arg 20 4 = 0 ∨ 8 < bits arg 20 4 ∨
    ∃ k, k < bits arg 20 4 ∧ inTileMap (bits arg 0 20 + 8 * k) = false) : w.sysRead p arg = (w, none) := by
  refine if_pos ?_
  simpa [or_assoc] using h

/-- The outcomes of a read's scratch words, noted; the read is no part of the schedule (R71). -/
def TW.noteRead (w : TW) (a n : Nat) : TW := { (List.range n).foldl (fun (w : TW) (k : Nat) =>
  if a + 8 * k < 0x10000 then w.noteScr (a / 8 + k) else w) w with inval := w.inval }

theorem TW.noted_noteRead (w : TW) (a n : Nat) : w.Noted (w.noteRead a n) := by
  have hfold : w.Noted ((List.range n).foldl (fun (w : TW) (k : Nat) =>
      if a + 8 * k < 0x10000 then w.noteScr (a / 8 + k) else w) w) := by
    refine TW.noted_foldl _ fun k _ w' _ => ?_
    split
    · exact TW.noted_noteScr w' _
    · exact TW.Noted.refl w'
  obtain ⟨htile, hwords, hbeats, hstkUe, hpkts⟩ := hfold
  exact ⟨htile, hwords, hbeats, hstkUe, hpkts⟩

/-- A read inside the bounds delivers the words. -/
theorem TW.sysRead_words (w : TW) (p : TPos) {arg : Nat} (halign : bits arg 0 20 % 8 = 0) (hpos : 0 < bits arg 20 4)
    (hlen : bits arg 20 4 ≤ 8) (hmap : ∀ k, k < bits arg 20 4 → inTileMap (bits arg 0 20 + 8 * k) = true) :
    w.sysRead p arg = (w.noteRead (bits arg 0 20) (bits arg 20 4),
      some ((List.range (bits arg 20 4)).map (fun k => w.t.readAddr p (bits arg 0 20 + 8 * k)))) := by
  refine if_neg ?_
  simpa [halign, hpos.ne', Nat.not_lt.2 hlen] using hmap

section System
variable (w : TW) (p : TPos) (dst : Nat) (ws : List Tok)

theorem TW.system_read {arg : Tok} {w' : TW} {ds : List Tok} (hread : w.sysRead p arg.data.toNat = (w', some ds)) :
    w.system p (sysPacket dst 0 [arg]) false = (w'.upd (·.sysNote 0 0)).emit ((sysPacket dst 0 [arg]).answer 0 0 ds) := by
  have hop : (sysPacket dst 0 [arg]).tag.toNat = 0 := rfl
  have harg : ((sysPacket dst 0 [arg]).words.headD ⟨0, 0⟩).data.toNat = arg.data.toNat := rfl
  simp only [TW.system, hop, harg, hread, Bool.false_eq_true, if_false]

theorem TW.system_read_refused {arg : Tok} {w' : TW} (hread : w.sysRead p arg.data.toNat = (w', none)) :
    w.system p (sysPacket dst 0 [arg]) false = (w.upd (·.sysNote 0 2)).emit ((sysPacket dst 0 [arg]).answer 0 2 []) := by
  have hop : (sysPacket dst 0 [arg]).tag.toNat = 0 := rfl
  have harg : ((sysPacket dst 0 [arg]).words.headD ⟨0, 0⟩).data.toNat = arg.data.toNat := rfl
  simp only [TW.system, hop, harg, hread, Bool.false_eq_true, if_false]

theorem TW.system_write {arg : Tok} {ds : List Tok} {t : Tile} (hwrite : w.t.sysWrite p (bits arg.data.toNat 0 20) ds = some t) :
    w.system p (sysPacket dst 1 (arg :: ds)) false =
      (w.upd (fun _ => t.sysNote 1 0)).emit ((sysPacket dst 1 (arg :: ds)).answer 0 0 []) := by
  have hop : (sysPacket dst 1 (arg :: ds)).tag.toNat = 1 := rfl
  have harg : ((sysPacket dst 1 (arg :: ds)).words.headD ⟨0, 0⟩).data.toNat = arg.data.toNat := rfl
  have htail : (sysPacket dst 1 (arg :: ds)).words.tail = ds := rfl
  simp only [TW.system, hop, harg, htail, hwrite, Bool.false_eq_true, if_false]
  rfl

theorem TW.system_test (arg : Tok) : w.system p (sysPacket dst 2 [arg]) false =
    (w.upd (fun t => ({ t with test := some (arg.data.toNat % 2 ^ 16) }).sysNote 2 0)).emit
      ((sysPacket dst 2 [arg]).answer 0 0 []) := rfl

end System

end Sys2Proof.Machine

namespace Sys2Proof.Machine

/-! ### RECT (R220) -/

/-- Field registers of different offsets have different keys, whatever their fields. -/
theorem Fld.key_ne_of_offset {f g : Fld} (i j : Nat) (hf : f.s1 = 0x4000) (hg : g.s1 = 0x4000)
    (h : (f.base * 64 + f.lo) % 0x100000 ≠ (g.base * 64 + g.lo) % 0x100000) : f.key i 0 ≠ g.key j 0 := by
  simp only [Fld.key, hf, hg]
  omega

/-- The module's places, its message fabric and its agents are as they were, and so are the packets in flight. -/
structure State.SameFabric (s u : State) : Prop where
  locate : ∀ a, u.locate a = s.locate a
  msgReset : ∀ f, u.msgReset f = s.msgReset f
  agentAway : ∀ f, u.agentAway f = s.agentAway f
  pkts : u.pkts = s.pkts

theorem State.SameFabric.refl (s : State) : s.SameFabric s := ⟨fun _ => rfl, fun _ => rfl, fun _ => rfl, rfl⟩

theorem State.SameFabric.trans {s u v : State} (h : s.SameFabric u) (h' : u.SameFabric v) : s.SameFabric v :=
  ⟨fun a => (h'.locate a).trans (h.locate a), fun f => (h'.msgReset f).trans (h.msgReset f),
    fun f => (h'.agentAway f).trans (h.agentAway f), h'.pkts.trans h.pkts⟩

/-- Clean work changes two counters of its field's registers, and no other register. -/
theorem State.absorb_clean_reg {s : State} {f key : Nat} {w : TW} (h : w.Clean) {r : Fld} (i : Nat) (hs : r.s1 = 0x4000)
    (hce : (r.base * 64 + r.lo) % 0x100000 ≠ (F.FLD_STK_ECC_CE_COUNT.base * 64 + F.FLD_STK_ECC_CE_COUNT.lo) % 0x100000)
    (hclash : (r.base * 64 + r.lo) % 0x100000 ≠ (F.FLD_STK_REF_CLASH.base * 64 + F.FLD_STK_REF_CLASH.lo) % 0x100000) :
    (s.absorb f key w).reg r i = s.reg r i := by
  have hpkts : ∀ (u : State) (l : List Flight), ({ u with pkts := l } : State).reg r i = u.reg r i := fun _ _ => rfl
  rw [State.absorb_clean h, hpkts, State.satReg, State.reg_setReg_other _ _ _ _ _ _ _ _ (Fld.key_ne_of_offset i f hs rfl hclash),
    State.satReg, State.reg_setReg_other _ _ _ _ _ _ _ _ (Fld.key_ne_of_offset i f hs rfl hce)]
  rfl

/-- Clean work that sends nothing leaves the fabric. -/
theorem State.sameFabric_absorb {s : State} {f key : Nat} {w : TW} (h : w.Clean) (hpkts : w.pkts = []) :
    s.SameFabric (s.absorb f key w) := by
  have hrst : (s.absorb f key w).rst = s.rst :=
    Part.same_of_mask .rst (State.absorb_parts (M := 4345976) s f key w) (by decide)
  have htrust : (s.absorb f key w).trust = s.trust := by
    rw [State.absorb_clean h]
    rfl
  have hreset := fun i => State.absorb_clean_reg (s := s) (f := f) (key := key) h (r := F.FLD_RST_STATE) i rfl (by decide) (by decide)
  have hhold := fun i => State.absorb_clean_reg (s := s) (f := f) (key := key) h (r := F.FLD_HOLD_STATE) i rfl (by decide) (by decide)
  have hdark := fun i => State.absorb_clean_reg (s := s) (f := f) (key := key) h (r := F.FLD_PWR_DARK) i rfl (by decide) (by decide)
  have hrails := fun i => State.absorb_clean_reg (s := s) (f := f) (key := key) h (r := F.FLD_PWR_RAILS) i rfl (by decide) (by decide)
  exact ⟨State.locate_congr (s.absorb_fuse f key w) (s.absorb_log f key w),
    fun i => by rw [State.msgReset, State.inL1, State.fieldStep, hreset, hrst]; rfl,
    fun i => by simp only [State.agentAway, State.heldOut, State.dark, State.compOn, hhold, hdark, hrails, htrust],
    State.absorb_pkts_none hpkts⟩

/-- The copy of a RECT writes the data to scratch at a tile whose agent answers; at another it changes no memory. -/
theorem Tile.rect_write (t : Tile) (p : TPos) {addr : Nat} {ds : List Tok} (away : Bool) (halign : addr % 8 = 0)
    (hpos : 0 < ds.length) (hlen : ds.length ≤ 7) (hend : addr + 8 * ds.length ≤ 0x10000) :
    (t.rect p 1 addr ds away).scratch = if away then t.scratch else (t.landScr (addr / 8) (tokWords ds)).scratch := by
  cases away
  · simp only [Tile.rect, t.sysWrite_scratch p halign hpos hlen hend, Bool.false_eq_true, if_false, if_true]
    rfl
  · rfl

section Copies
variable {addr : Nat} {ds : List Tok} (halign : addr % 8 = 0) (hpos : 0 < ds.length) (hlen : ds.length ≤ 7)
  (hend : addr + 8 * ds.length ≤ 0x10000)

/-- The data stand in the scratch of a tile, with their tags and no error. -/
def State.Written (s : State) (addr : Nat) (ds : List Tok) (f key : Nat) : Prop :=
  ∀ j (h : j < ds.length), (s.tile f key).scrWord (addr / 8 + j) = ⟨ds[j].data, ds[j].colour, 0⟩

theorem Tile.scrWord_tokWords (t : Tile) (i : Nat) {ds : List Tok} (hlen : ds.length ≤ 7) (j : Nat) (h : j < ds.length) :
    (t.landScr i (tokWords ds)).scrWord (i + j) = ⟨ds[j].data, ds[j].colour, 0⟩ := by
  have htok : (tokWords ds).length = ds.length := List.length_map ..
  rw [Tile.scrWord_landScr _ _ _ _ (by omega) (by omega)]
  simp [tokWords]

include halign hpos hlen hend

/-- One copy of a RECT: the fabric stays, the tile that it names has the data where its agent answers, and a tile that has them
keeps them. -/
theorem State.serveAgent_rect {s : State} {q : Nat} (hq : q < 2 ^ 20) (haddr : addr < 2 ^ 20) :
    s.SameFabric (s.serveAgent (rectPacket q 1 addr ds)) ∧
      (∀ f key, s.locate q = some (f, key) → s.agentAway f = false → (s.serveAgent (rectPacket q 1 addr ds)).Written addr ds f key) ∧
      ∀ f key, s.Written addr ds f key → (s.serveAgent (rectPacket q 1 addr ds)).Written addr ds f key := by
  have hdst : (rectPacket q 1 addr ds).dst.toNat = q := Nat.mod_eq_of_lt hq
  have htag : (rectPacket q 1 addr ds).tag.toNat = 1 := rfl
  have hcls : ¬ (rectPacket q 1 addr ds).cls = 1 := by simp [rectPacket]
  have haddr' : bits ((rectPacket q 1 addr ds).words.headD ⟨0, 0⟩).data.toNat 20 20 = addr :=
    bits_word64_high hq haddr (by decide)
  have htail : (rectPacket q 1 addr ds).words.tail = ds := rfl
  cases hloc : s.locate q with
  | none =>
    have hnone : s.serveAgent (rectPacket q 1 addr ds) = s := by simp only [State.serveAgent, State.atTile, hdst, hloc]
    rw [hnone]
    exact ⟨State.SameFabric.refl s, nofun, fun _ _ h => h⟩
  | some e =>
    obtain ⟨n, k⟩ := e
    have hserve : s.serveAgent (rectPacket q 1 addr ds) = s.absorb n k
        (TW.start ((s.tile n k).rect (s.tpos n k) 1 addr ds (s.agentAway n)) s.acyc) := by
      rw [State.serveAgent, hdst, State.atTile_located hloc]
      simp only [hcls, if_false, htag, haddr', htail]
    have hscratch := (s.tile n k).rect_write (s.tpos n k) (s.agentAway n) halign hpos hlen hend
    have hwritten : s.agentAway n = false ∨ s.Written addr ds n k →
        (s.serveAgent (rectPacket q 1 addr ds)).Written addr ds n k := by
      intro h j hj
      rw [hserve, State.tile_absorb_start]
      cases haway : s.agentAway n with
      | false =>
        rw [haway] at hscratch
        exact (Tile.scrWord_congr hscratch _).trans (Tile.scrWord_tokWords _ _ hlen j hj)
      | true =>
        rw [haway] at hscratch
        exact (Tile.scrWord_congr hscratch _).trans (h.resolve_left (by simp [haway]) j hj)
    refine ⟨hserve ▸ State.sameFabric_absorb (TW.clean_start ..) rfl, ?_, fun f key hw => ?_⟩
    · rintro f key ⟨rfl, rfl⟩ haway
      exact hwritten (.inl haway)
    · by_cases hsame : f = n ∧ key = k
      · obtain ⟨rfl, rfl⟩ := hsame
        exact hwritten (.inr hw)
      · intro j hj
        rw [hserve, State.tile_absorb_other _ _ _ _ _ _ hsame]
        exact hw j hj

/-- The copies of a RECT one after the other. -/
theorem State.serveAgent_rects {l : List Nat} (hl : ∀ q, q ∈ l → q < 2 ^ 20) (haddr : addr < 2 ^ 20) (s : State) :
    s.SameFabric (l.foldl (fun s q => s.serveAgent (rectPacket q 1 addr ds)) s) ∧
      (∀ q f key, q ∈ l → s.locate q = some (f, key) → s.agentAway f = false →
        (l.foldl (fun s q => s.serveAgent (rectPacket q 1 addr ds)) s).Written addr ds f key) ∧
      ∀ f key, s.Written addr ds f key → (l.foldl (fun s q => s.serveAgent (rectPacket q 1 addr ds)) s).Written addr ds f key := by
  induction l generalizing s with
  | nil => exact ⟨State.SameFabric.refl s, nofun, fun _ _ h => h⟩
  | cons q l ih =>
    obtain ⟨hfabric, hnamed, hkept⟩ := State.serveAgent_rect (s := s) halign hpos hlen hend (hl q (by simp)) haddr
    obtain ⟨hfabric', hnamed', hkept'⟩ := ih (fun r hr => hl r (by simp [hr])) (s.serveAgent (rectPacket q 1 addr ds))
    refine ⟨hfabric.trans hfabric', fun r f key hr hloc haway => ?_, fun f key h => hkept' f key (hkept f key h)⟩
    rcases List.mem_cons.1 hr with rfl | hr
    · exact hkept' f key (hnamed f key hloc haway)
    · exact hnamed' r f key hr ((hfabric.locate r).trans hloc) ((hfabric.agentAway f).trans haway)

end Copies

theorem rectPairs_lt {a b q : Nat} (h : q ∈ rectPairs a b) : q < 2 ^ 20 := by
  simp only [rectPairs, List.mem_flatMap, List.mem_map, List.mem_range] at h
  obtain ⟨j, hj, i, hi, rfl⟩ := h
  simp only [pairX, pairY, pairOf2] at *
  omega

/-- A copy of a RECT whose way is free is served at its tile. -/
theorem State.rectCopy_served {s : State} {a q : Nat} (p : Packet)
    (hway : ∀ r, r ∈ rectRoute a q → s.msgReset (pairField r) = false) : s.rectCopy [] a q p = s.serveAgent p := by
  have hall : (rectRoute a q).takeWhile (fun b => !([] : List Nat).contains b) = rectRoute a q :=
    List.takeWhile_eq_self_iff.2 (by simp)
  simp only [State.rectCopy, hall, State.pass_through s hway]
  simp

section Copies
variable {addr : Nat} {ds : List Tok} (halign : addr % 8 = 0) (hpos : 0 < ds.length) (hlen : ds.length ≤ 7)
  (hend : addr + 8 * ds.length ≤ 0x10000)
include halign hpos hlen hend

/-- The copies of a RECT whose ways are free are all served: none closes the way of a later one. -/
theorem State.rectCopies_served {l : List Nat} {a : Nat} (hl : ∀ q, q ∈ l → q < 2 ^ 20) (haddr : addr < 2 ^ 20) (s : State)
    (hway : ∀ q r, q ∈ l → r ∈ rectRoute a q → s.msgReset (pairField r) = false) :
    l.foldl (fun s q => s.rectCopy [] a q (rectPacket q 1 addr ds)) s =
      l.foldl (fun s q => s.serveAgent (rectPacket q 1 addr ds)) s := by
  induction l generalizing s with
  | nil => rfl
  | cons q l ih =>
    obtain ⟨hfabric, -, -⟩ := State.serveAgent_rect (s := s) halign hpos hlen hend (hl q (by simp)) haddr
    rw [List.foldl_cons, List.foldl_cons, State.rectCopy_served _ fun r hr => hway q r (by simp) hr]
    exact ih (fun r hr => hl r (by simp [hr])) _ fun r b hr hb => (hfabric.msgReset _).trans (hway r b (by simp [hr]) hb)

end Copies

/-! ### O31 -/

/-- The header word of a READ. -/
def readHeader (addr : BitVec 20) (n : Fin 16) : Word := word64 [(0, addr.toNat), (20, n.val)]

theorem bits_readHeader (addr : BitVec 20) (n : Fin 16) :
    bits (readHeader addr n).toNat 0 20 = addr.toNat ∧ bits (readHeader addr n).toNat 20 4 = n.val :=
  ⟨bits_word64_low addr.isLt (n.isLt.trans (by decide)), bits_word64_high addr.isLt n.isLt (by decide)⟩

/-- The data of a WRITE as the flits carry them. -/
def dataToks (data : List (BitVec 64 × BitVec 4)) : List Tok := data.map (fun d => ⟨d.1, d.2⟩)

theorem dataToks_length (data : List (BitVec 64 × BitVec 4)) : (dataToks data).length = data.length := List.length_map ..

theorem dataToks_getElem (data : List (BitVec 64 × BitVec 4)) (j : Nat) (h : j < (dataToks data).length) :
    (dataToks data)[j] = ⟨(data.getD j (0, 0)).1, (data.getD j (0, 0)).2⟩ := by
  rw [List.getD_eq_getElem _ _ (by rwa [dataToks_length] at h)]
  exact List.getElem_map ..

theorem execRect_write {s : State} {a b : Addr} (addr : BitVec 20) (data : List (BitVec 64 × BitVec 4))
    (hok : rectOk s.rows a.toNat b.toNat = true) : exec (.rect a b false addr ⟨data, []⟩) s =
      .next ((rectPairs a.toNat b.toNat).foldl (fun s q => s.rectCopy [] a.toNat q (rectPacket q 1 addr.toNat (dataToks data))) s) := by
  refine (if_neg (by simp [hok])).trans ?_
  rfl

@[simp] theorem Tile.setReg_scratch (t : Tile) (r : Fld) (v j : Nat) : (t.setReg r v j).scratch = t.scratch := rfl
@[simp] theorem Tile.setReg_stack (t : Tile) (r : Fld) (v j : Nat) : (t.setReg r v j).stack = t.stack := rfl
@[simp] theorem Tile.setReg_test (t : Tile) (r : Fld) (v j : Nat) : (t.setReg r v j).test = t.test := rfl

theorem Tile.sysNote_frame (t : Tile) (op status : Nat) :
    (t.sysNote op status).scratch = t.scratch ∧ (t.sysNote op status).stack = t.stack ∧ (t.sysNote op status).test = t.test := by
  unfold Tile.sysNote
  split <;> simp [Tile.countSat]

/-- An operation that is refused sets MSG_SYS.ERR. -/
theorem Tile.sysNote_refused (t : Tile) (op : Nat) {status : Nat} (h : status ≠ 0) : (t.sysNote op status).reg F.MSG_SYS_ERR = 1 := by
  rw [Tile.sysNote, if_neg h, Tile.reg_setReg_same]
  rfl

theorem TW.Noted.scratch {w w' : TW} (h : w.Noted w') : w'.t.scratch = w.t.scratch := by rw [h.tile]

/-- What work that changed the tile and answered one packet leaves in its state. -/
theorem State.absorb_answered {s : State} {f key : Nat} {w : TW} (h : w.Quiet) (hpkts : w.pkts = []) (g : Tile → Tile) (p : Packet) :
    (s.absorb f key ((w.upd g).emit p)).tile f key = g w.t ∧
      (s.absorb f key ((w.upd g).emit p)).pkts = s.pkts ++ [⟨s.pairAt f key, s.pairAt f key, p⟩] :=
  ⟨State.tile_absorb_same _ _ _ _ h.stkUe, State.absorb_pkts_one (congrArg (· ++ [p]) hpkts)⟩

theorem State.absorb_answered_run {s : State} {f key : Nat} {w : TW} (h : w.Quiet) (hinval : w.inval = false) (g : Tile → Tile)
    (p : Packet) : (s.absorb f key ((w.upd g).emit p)).run = s.run :=
  State.absorb_quiet_run ⟨h.words, h.beats, h.stkUe⟩ hinval

/-- Settles O31: each operation is the equation of the agent at the tile that `State.sysOp_served` reaches; a RECT is the fold of its
copies. -/
theorem systemAgentServesBaseCamp : Obligations.SystemAgentServesBaseCamp := by
  refine ⟨?read, ?denied, ?write, ?test, ?rect, ?illegal, ?unavailable, ?waits⟩
  case read =>
    intro s a addr n f key hloc hway haway halign hpos hlen hmap
    obtain ⟨haddr, hn⟩ := bits_readHeader addr n
    have hread := (TW.start (s.tile f key) s.acyc).sysRead_words (s.tpos f key)
      (arg := (readHeader addr n).toNat) (by rwa [haddr]) (by rwa [hn]) (by rwa [hn]) (by rwa [haddr, hn])
    rw [haddr, hn] at hread
    have hserved := State.sysOp_served hloc hway haway 0 [⟨readHeader addr n, 0⟩]
    rw [TW.system_read (arg := ⟨readHeader addr n, 0⟩) _ _ _ hread] at hserved
    have hnoted := (TW.start (s.tile f key) s.acyc).noted_noteRead addr.toNat n.val
    have hquiet := hnoted.quiet (TW.clean_start (s.tile f key) s.acyc).toQuiet
    obtain ⟨htile, hpkts⟩ := State.absorb_answered (s := s) (f := f) (key := key) hquiet hnoted.pkts (·.sysNote 0 0) _
    refine ⟨_, _, Res.next_congr hserved, hpkts, rfl, rfl, rfl, rfl, ?_, State.absorb_answered_run hquiet rfl _ _⟩
    rw [htile]
    exact (Tile.sysNote_frame _ 0 0).1.trans hnoted.scratch
  case denied =>
    intro s a addr n f key hloc hway haway hbad
    obtain ⟨haddr, hn⟩ := bits_readHeader addr n
    have hread := (TW.start (s.tile f key) s.acyc).sysRead_refused (s.tpos f key)
      (arg := (readHeader addr n).toNat) (by rwa [haddr, hn])
    have hserved := State.sysOp_served hloc hway haway 0 [⟨readHeader addr n, 0⟩]
    rw [TW.system_read_refused (arg := ⟨readHeader addr n, 0⟩) _ _ _ hread] at hserved
    obtain ⟨htile, hpkts⟩ := State.absorb_answered (s := s) (f := f) (key := key)
      (TW.clean_start (s.tile f key) s.acyc).toQuiet rfl (·.sysNote 0 2) _
    refine ⟨_, _, Res.next_congr hserved, hpkts, rfl, rfl, ?_⟩
    rw [htile]
    exact Tile.sysNote_refused _ 0 (by decide)
  case write =>
    intro s a addr data f key hloc hway haway halign hpos hlen hend
    have haddr : bits (word64 [(0, addr.toNat)]).toNat 0 20 = addr.toNat := bits_word64_one addr.isLt
    have hlength := dataToks_length data
    have hwrite : (TW.start (s.tile f key) s.acyc).t.sysWrite (s.tpos f key) (bits (word64 [(0, addr.toNat)]).toNat 0 20)
        (dataToks data) = some ((s.tile f key).landScr (addr.toNat / 8) (tokWords (dataToks data))) := by
      rw [haddr]
      exact (s.tile f key).sysWrite_scratch _ halign (by omega) (by omega) (by omega)
    have hserved := State.sysOp_served hloc hway haway 1 (⟨word64 [(0, addr.toNat)], 0⟩ :: dataToks data)
    rw [TW.system_write (arg := ⟨word64 [(0, addr.toNat)], 0⟩) _ _ _ hwrite] at hserved
    obtain ⟨hscratch, hstack, -⟩ := ((s.tile f key).landScr (addr.toNat / 8) (tokWords (dataToks data))).sysNote_frame 1 0
    have htok : (tokWords (dataToks data)).length = data.length := (List.length_map ..).trans hlength
    refine ⟨_, _, Res.next_congr hserved, State.absorb_pkts_one rfl, rfl, ?_⟩
    rw [State.tile_absorb_same _ _ _ _ rfl]
    refine ⟨fun j hj => (Tile.scrWord_congr hscratch _).trans ?_, fun i hi hout => (Tile.scrWord_congr hscratch _).trans ?_,
      hstack.trans (Tile.landScr_stack ..)⟩
    · rw [Tile.scrWord_tokWords _ _ (by omega) j (by omega), dataToks_getElem]
    · exact Tile.scrWord_landScr_other _ _ _ _ fun q hq => by omega
  case test =>
    intro s a number f key hloc hway haway
    have hnumber : (word64 [(0, number.toNat)]).toNat % 2 ^ 16 = number.toNat := by
      rw [word64_one_toNat (by omega)]
      exact Nat.mod_eq_of_lt number.isLt
    have hserved := State.sysOp_served hloc hway haway 2 [⟨word64 [(0, number.toNat)], 0⟩]
    rw [TW.system_test] at hserved
    obtain ⟨htile, hpkts⟩ := State.absorb_answered (s := s) (f := f) (key := key)
      (TW.clean_start (s.tile f key) s.acyc).toQuiet rfl
      (fun t => ({ t with test := some ((word64 [(0, number.toNat)]).toNat % 2 ^ 16) }).sysNote 2 0) _
    refine ⟨_, _, Res.next_congr hserved, ?_, hpkts, rfl⟩
    rw [htile, (Tile.sysNote_frame _ 2 0).2.2, hnumber]
  case rect =>
    intro s a b addr data hok hway halign hpos hlen hend
    have hlength := dataToks_length data
    have hserved := State.rectCopies_served (ds := dataToks data) halign (by omega) (by omega) (by omega)
      (fun q hq => rectPairs_lt hq) addr.isLt s hway
    obtain ⟨hfabric, hwritten, -⟩ := State.serveAgent_rects (ds := dataToks data) halign (by omega) (by omega) (by omega)
      (fun q hq => rectPairs_lt hq) addr.isLt s
    refine ⟨_, (execRect_write addr data hok).trans (Res.next_congr hserved), hfabric.pkts, fun q f key hq hloc haway j hj => ?_⟩
    rw [hwritten q f key hq hloc haway j (by omega), dataToks_getElem]
  case illegal => exact fun s a b test addr data hok => if_pos (by simp [hok])
  case unavailable =>
    intro s a addr data f key z b hloc hpass hown
    exact ⟨_, _, Res.next_congr (State.sysOp_unavailable hloc hpass 1 _ hown), rfl, rfl, State.satReg_fields s F.RST_ISO_MSG 0 1,
      State.reg_satReg s F.RST_ISO_MSG 0 1⟩
  case waits => exact fun s a number f key z b hloc hpass hown => Res.next_congr (State.sysOp_waits hloc hpass 2 _ hown)

end Sys2Proof.Machine

/-!
PROOFS. The statements of spec 04_scheduled_fabric: words that arrive at a tile, and the bundle that a running tile issues.
-/

namespace Sys2Proof.Machine

/-! ### A word joins its landing FIFO (R127, R148, R151) -/

/-- The tile with a word behind those of a landing FIFO. -/
def Tile.joined (t : Tile) (p : Nat) (tok : Tok) : Tile :=
  { t with rtr := { t.rtr with fifos := t.rtr.fifos.upd [] p (· ++ [tok]) } }

theorem Tile.joined_fifo_same (t : Tile) (p : Nat) (tok : Tok) : (t.joined p tok).rtr.fifo p = t.rtr.fifo p ++ [tok] :=
  SMap.get_set_same ..

theorem Tile.joined_fifo_other (t : Tile) (p : Nat) (tok : Tok) {q : Nat} (h : q ≠ p) :
    (t.joined p tok).rtr.fifo q = t.rtr.fifo q := SMap.get_set_other _ _ _ _ _ h

/-- A word of the tile's colour that finds fewer than 16 words in its landing FIFO joins them as it was sent. -/
theorem TW.arrive_joins {t : Tile} {now p : Nat} {tok : Tok} {hop : BitVec 80} (hhop : errOutcome hop ≠ .multi)
    (hcolour : tok.colour = t.seq.colour) (hroom : (t.rtr.fifo p).length < 16) :
    (TW.start t now).arrive p tok hop = TW.start ((t.hopped hop).joined p tok) now := by
  obtain ⟨data, colour⟩ := tok
  obtain rfl : colour = t.seq.colour := hcolour
  have hread : CWord.read ⟨data, t.seq.colour, hop⟩ = ⟨data, t.seq.colour, 0⟩ :=
    CWord.read_correctable (w := ⟨data, t.seq.colour, hop⟩) hhop
  have hroom' : ¬ 16 ≤ (t.rtr.fifo p).length := by omega
  unfold TW.arrive Tile.hopped
  cases hout : errOutcome hop with
  | good => simp [CWord.ecc, hread, hout, TW.start, TW.upd, Tile.joined, hroom']
  | one => simp [CWord.ecc, hread, hout, TW.start, TW.upd, Tile.joined, Tile.countSat, Tile.setReg, hroom']
  | multi => exact absurd hout hhop

/-! ### What the start of an acycle leaves (R101, R116, R138, R161, R164) -/

/-- What no step of a fold over a tile changes, the fold does not change. -/
theorem Tile.foldl_keeps {α β : Type} (p : Tile → β) (g : Tile → α → Tile) (h : ∀ t x, p (g t x) = p t) (l : List α) (t : Tile) :
    p (l.foldl g t) = p t := by
  induction l generalizing t with
  | nil => rfl
  | cons a r ih => rw [List.foldl_cons, ih, h]

theorem Tile.upset_seq (t : Tile) (u : Upset) : (t.upset u).seq = t.seq := by
  unfold Tile.upset
  split <;> rfl

theorem Tile.gatherVu_seq (t : Tile) (issued : Nat) (f : Flags) : (t.gatherVu issued f).seq = t.seq := by
  unfold Tile.gatherVu Tile.firstFlag
  split
  · rfl
  · split <;> rfl

theorem Tile.completeFlags_seq (t : Tile) (now : Nat) : (t.completeFlags now).seq = t.seq :=
  Tile.foldl_keeps Tile.seq _ (fun _ _ => Tile.gatherVu_seq ..) _ _

theorem Tile.setStandby_seq (t : Tile) (i : Nat) (b : BitVec 128) : (t.setStandby i b).seq = t.seq := by
  unfold Tile.setStandby
  split <;> rfl

theorem Tile.landScr_seq (t : Tile) (i : Nat) (l : List CWord) : (t.landScr i l).seq = t.seq := by
  induction l generalizing t i with
  | nil => rfl
  | cons d l ih => exact ih _ _

theorem Tile.landSld_state (t : Tile) (ws : List CWord) : (t.landSld ws).seq.state = t.seq.state := by
  unfold Tile.landSld
  extract_lets c bs u
  split
  · rfl
  · exact Tile.foldl_keeps (fun x => x.seq.state) _ (fun _ _ => congrArg Seq.state (Tile.setStandby_seq ..)) _ t

theorem Tile.landBeat_state (t : Tile) (b : Beat) : (t.landBeat b).seq.state = t.seq.state := by
  unfold Tile.landBeat
  split
  · rfl
  · split
    · exact Tile.landSld_state ..
    · exact congrArg Seq.state (Tile.landScr_seq ..)

/-- Only an armed sequencer changes its state at the start of an acycle. -/
theorem Tile.startAcycle_state {t : Tile} (now : Nat) (h : t.seq.state ≠ .armed) :
    (t.startAcycle now).seq.state = t.seq.state := by
  unfold Tile.startAcycle
  extract_lets t1 t2 early t3
  have hflags : t2.seq = t.seq := Tile.completeFlags_seq t1 now
  have hbeats : t3.seq.state = t2.seq.state := Tile.foldl_keeps (fun u => u.seq.state) _ Tile.landBeat_state _ _
  have hstate : t3.seq.state = t.seq.state := hbeats.trans (congrArg Seq.state hflags)
  rw [if_neg (by simp [hstate, h]), hstate]

/-- Nothing of the tile is on its way: no next-buffer write, no VU result or flag word, no injected word and no beat. -/
structure Tile.Settled (t : Tile) : Prop where
  loads : t.mxu.loads = []
  pending : t.vu.pending = []
  flagsOpen : t.vu.flagsOpen = []
  injects : t.rtr.injects = []
  beats : t.beats = []

theorem Mxu.land_none {m : Mxu} (now : Nat) (h : m.loads = []) : m.land now = m := by
  cases m
  cases h
  rfl

theorem Vu.land_none {v : Vu} (now : Nat) (h : v.pending = []) : v.land now = v := by
  cases v
  cases h
  rfl

theorem Rtr.landInjects_none {r : Rtr} (now : Nat) (h : r.injects = []) : r.landInjects now = r := by
  cases r
  cases h
  rfl

theorem Tile.completeFlags_none {t : Tile} (now : Nat) (h : t.vu.flagsOpen = []) : t.completeFlags now = t := by
  obtain ⟨seq, mxu, ⟨regs, c, m, k, pending, flagsOpen, flagsLast⟩⟩ := t
  cases h
  rfl

/-- With nothing on its way and no armed start, the start of an acycle ages the accumulators alone (R105). -/
theorem Tile.startAcycle_settled {t : Tile} (now : Nat) (h : t.Settled) (harmed : t.seq.state ≠ .armed) :
    t.startAcycle now = { t with mxu := t.mxu.ageAcc now } := by
  have hflags : ({ t with mxu := t.mxu.ageAcc now } : Tile).completeFlags now = { t with mxu := t.mxu.ageAcc now } :=
    Tile.completeFlags_none now h.flagsOpen
  unfold Tile.startAcycle
  rw [Mxu.land_none now h.loads, Vu.land_none now h.pending, Rtr.landInjects_none now h.injects]
  simp only [hflags]
  simp [h.beats, harmed]

/-! ### The parts of a bundle of zeros (R131) -/

/-- A bundle that names no source drives nothing, records nothing and pops nothing. -/
theorem Tile.routed_none (t : Tile) (e : TEnv) {b : Bundle} (h : b.selections = []) : t.routed e b = ⟨[], [], []⟩ := by
  simp [Tile.routed, h]

theorem Bundle.ofBits_zero : Bundle.ofBits 0 = ⟨false, 0, 0, 0, 0, 0, 0, 0, 0⟩ := by decide

theorem Bundle.selections_zero : (Bundle.ofBits 0).selections = [] := by decide

theorem Tile.requests_zero {t : Tile} (now : Nat) (h : t.beats = []) :
    t.requests now (Bundle.ofBits 0) (MxuSlot.ofNat 0) (VuSlot.ofNat 0) = [] := by
  unfold Tile.requests
  rw [h]
  rfl

theorem MxuSlot.illegal_zero : (MxuSlot.ofNat 0).illegal = false := rfl

theorem VuSlot.illegal_zero : (VuSlot.ofNat 0).illegal = false := rfl

theorem TW.mxu_zero (w : TW) (won : Bool) : (w.mxuAccess (MxuSlot.ofNat 0) won).mxuCompute (MxuSlot.ofNat 0) = w := rfl

theorem TW.vu_zero (w : TW) (won : Bool) : w.vuIssue (VuSlot.ofNat 0) won = w := rfl

theorem TW.landBeats_none {w : TW} (won : Bool) (h : w.t.beats = []) : w.landBeats won = w := by
  obtain ⟨t, now⟩ := w
  cases t
  cases h
  cases won <;> rfl

theorem TW.nextBundle_following {w : TW} {pc : Nat} (hloops : w.t.seq.loops = []) (hpc : pc < 511) :
    w.nextBundle pc none = w.upd (fun t => { t with seq := { t.seq with nextPc := BitVec.ofNat 9 (pc + 1) } }) := by
  have hlast : ¬ 512 ≤ pc + 1 := by omega
  simp [TW.nextBundle, hloops, closeLoops, hlast, TW.faultIf, TW.upd]

/-- The sequencer after it has issued a bundle that the next one of the store follows. -/
def Seq.issued (q : Seq) (now : Nat) : Seq :=
  { q with pc := q.nextPc, next := now + 1, nextPc := BitVec.ofNat 9 (q.nextPc.toNat + 1) }

theorem Seq.issued_nextPc {q : Seq} (now : Nat) (h : q.nextPc.toNat < 511) :
    (q.issued now).nextPc.toNat = q.nextPc.toNat + 1 :=
  (BitVec.toNat_ofNat ..).trans (Nat.mod_eq_of_lt (by omega))

/-- A tile with no beat on its way and no loop open issues a bundle of zeros: its sequencer moves on, its counter of acycles
counts one, and nothing else happens. The facts follow the steps of R147 in their order. -/
theorem Tile.issue_zero {t : Tile} {e : TEnv} (now : Nat) (hblocked : e.blocked = none) (hbeats : t.beats = [])
    (hloops : t.seq.loops = []) (hpc : t.seq.nextPc.toNat < 511) (hzero : t.activeBundle t.seq.nextPc.toNat = 0) :
    t.issue e now = TW.start ({ t with seq := t.seq.issued now }.count 0 1) now := by
  unfold Tile.issue
  extract_lets pc b0 q w0 w1 b su w2 r w3 ms vs rs w4 w5 w6 w7 w8 lo w9 w10 w11 w12 w13 w14 w15 w16
  have hb : b = Bundle.ofBits 0 := by
    have hb0 : b0 = Bundle.ofBits 0 := congrArg Bundle.ofBits hzero
    simp only [b, hblocked, hb0, Option.isSome_none, Bool.false_eq_true, if_false]
  have hsetup : b.setup = false := by rw [hb, Bundle.ofBits_zero]
  have hsu : su = none := by simp [su, hsetup]
  have hms : ms = MxuSlot.ofNat 0 := by simp only [ms, hb, Bundle.ofBits_zero]
  have hvs : vs = VuSlot.ofNat 0 := by simp only [vs, hb, Bundle.ofBits_zero]
  have hsetUp : w2 = w0 := by simp only [w2, hsu, w1, hblocked]
  have hr : r = ⟨[], [], []⟩ := Tile.routed_none _ e (hb ▸ Bundle.selections_zero)
  have hrouted : w3 = w0 := by simp only [w3, hr, hsetUp, TW.faultAll, List.foldl_nil]
  have hrs : rs = [] := by
    simp only [rs, hb, hms, hvs, hrouted]
    exact Tile.requests_zero now hbeats
  have hlanded : w5 = w0 := by
    have hclash : w4 = w0 := by simp only [w4, hrs, hrouted]; rfl
    simp only [w5, hclash]
    exact TW.landBeats_none _ hbeats
  have hstack : w6 = w0 := by simp only [w6, hb, Bundle.ofBits_zero, hlanded]; rfl
  have hunits : w8 = w0 := by
    simp only [w8, w7, hms, hvs, hsetup, hstack, MxuSlot.illegal_zero, VuSlot.illegal_zero, Bool.false_eq_true, if_false,
      TW.mxu_zero, TW.vu_zero]
  have hports : w12 = w0 := by simp only [w12, w11, w10, w9, hb, Bundle.ofBits_zero, hunits]; rfl
  have hdriven : w15 = w0 := by simp only [w15, w14, w13, hr, hports]; rfl
  have hnext : w16 = w0.upd (fun t => { t with seq := { t.seq with nextPc := BitVec.ofNat 9 (pc + 1) } }) := by
    simp only [w16, hsu, hdriven]
    exact TW.nextBundle_following hloops hpc
  simp only [hsu, hnext]
  rfl

/-! ### A tile issues its next bundle (R147, R160, R161) -/

theorem State.arriveDue_none {s : State} (a now : Nat) (h : s.links = []) : s.arriveDue a now = s := by
  unfold State.arriveDue
  rw [h]
  exact congrArg (fun l => ({ s with links := l } : State)) h.symm

/-- A tile that neither runs nor is armed issues nothing. -/
theorem execBundleIssue_still {s : State} {a : Addr} {f key : Nat} (ups : List Upset) (hloc : s.locate a.toNat = some (f, key))
    (hlinks : s.links = []) (hrun : (s.tile f key).seq.state ≠ .run) (harmed : (s.tile f key).seq.state ≠ .armed) :
    execBundleIssue a ups s = .next s := by
  have hups : (ups.foldl Tile.upset (s.tile f key)).seq = (s.tile f key).seq := Tile.foldl_keeps Tile.seq _ Tile.upset_seq _ _
  have hstart : ∀ now, ((ups.foldl Tile.upset (s.tile f key)).startAcycle now).seq.state ≠ .run := fun now => by
    rwa [Tile.startAcycle_state now (by rwa [hups]), hups]
  simp [execBundleIssue, hloc, State.arriveDue_none _ _ hlinks, hstart]

section Issue
variable {s : State} {a : Addr} {f key : Nat}

/-- A settled tile in RUN, its field not stopped and the next switch not reached, issues one bundle. -/
theorem execBundleIssue_runs (hloc : s.locate a.toNat = some (f, key)) (hreset : s.inReset f = false)
    (hstopped : (s.field f).stopped = false) (hlinks : s.links = []) (hrun : (s.tile f key).seq.state = .run)
    {now : Nat} (hnow : s.issueAt (s.tile f key) = now) (hbefore : s.beforeSwitch now = true) :
    execBundleIssue a [] s =
      .next ((s.advance now).absorb f key (((s.tile f key).startAcycle now).issue (s.tenv f key now) now)) := by
  have hstart : ((s.tile f key).startAcycle now).seq.state = .run :=
    (Tile.startAcycle_state now (by simp [hrun])).trans hrun
  simp [execBundleIssue, hloc, hreset, hstopped, hnow, hbefore, State.arriveDue_none _ _ hlinks, hstart]

theorem State.tenv_open (hdark : s.dark f = false) (hmode : s.mode f = 2) (now : Nat) : (s.tenv f key now).blocked = none := by
  simp [State.tenv, hdark, hmode]

end Issue

/-! ### O25 -/

/-- The tile after it has issued a bundle of zeros in acycle `now` with nothing on its way. -/
def Tile.idled (t : Tile) (now : Nat) : Tile :=
  ({ t with mxu := t.mxu.ageAcc now, seq := t.seq.issued now } : Tile).count 0 1

theorem Tile.issue_settled {t : Tile} {e : TEnv} (now : Nat) (hblocked : e.blocked = none) (h : t.Settled)
    (hrun : t.seq.state = .run) (hloops : t.seq.loops = []) (hpc : t.seq.nextPc.toNat < 511)
    (hzero : t.activeBundle t.seq.nextPc.toNat = 0) :
    (t.startAcycle now).issue e now = TW.start (t.idled now) now := by
  rw [Tile.startAcycle_settled now h (by simp [hrun])]
  exact Tile.issue_zero now hblocked h.beats hloops hpc hzero

/-- Settles O25: the arrival is `TW.arrive_joins`, and the issue `Tile.issue_settled`. -/
theorem wordsArriveAndBundlesIssue : Obligations.WordsArriveAndBundlesIssue := by
  refine ⟨?arrival, ?done, ?issue⟩
  case arrival =>
    intro s a port hop f key l r hhop hloc hdest hport hreset hheld htake hcolour hroom
    rw [← hport] at hroom ⊢
    have hrtr := (s.tile f key).hopped_rtr hop
    have hexec : exec (.wordArrival a port hop false) s = .next (({ s with links := r } : State).absorb f key
        (TW.start (((s.tile f key).hopped hop).joined l.port l.tok) l.due)) := by
      rw [← TW.arrive_joins hhop hcolour hroom]
      exact (execWordArrival_due htake).trans (Res.next_congr
        (State.arriveWord_open (s := { s with links := r }) (hdest ▸ hloc) hreset hheld))
    refine ⟨_, hexec, State.absorb_links rfl, ?_, fun q hq => ?_, State.absorb_clean_reports (TW.clean_start ..),
      State.absorb_clean_run (TW.clean_start ..)⟩
    · rw [State.tile_absorb_start, Tile.joined_fifo_same, hrtr]
    · rw [State.tile_absorb_start, Tile.joined_fifo_other _ _ _ hq, hrtr]
  case done =>
    intro s a f key ups hloc hdone hlinks
    exact execBundleIssue_still ups hloc hlinks (by simp [hdone]) (by simp [hdone])
  case issue =>
    intro s a f key hloc hreset hstopped hdark hmode hlinks hrun hloops hbeats hloads hpending hflags hinjects hpc hzero hbefore _
    obtain ⟨now, hnow⟩ : ∃ now, s.issueAt (s.tile f key) = now := ⟨_, rfl⟩
    rw [hnow] at hbefore ⊢
    have hexec := execBundleIssue_runs hloc hreset hstopped hlinks hrun hnow hbefore
    rw [Tile.issue_settled now (State.tenv_open hdark hmode now) ⟨hloads, hpending, hflags, hinjects, hbeats⟩ hrun hloops hpc
      hzero] at hexec
    refine ⟨_, hexec, ?_⟩
    rw [State.tile_absorb_start]
    exact ⟨hrun, rfl, Seq.issued_nextPc now hpc, rfl, rfl, rfl, rfl⟩

end Sys2Proof.Machine

/-!
PROOFS. The statements of spec 05_sections: standalone tests, INSTALL and REMOVE, and invocations from their issue to their end;
and of 09_ropes: a rope's start, its time and its anchor's cells.
-/

namespace Sys2Proof.Machine

/-! ### Registers that an operation does not write -/

/-- A write leaves the fields of every register at another offset alone. -/
theorem State.setReg_listed_offset {k : Nat} (s : State) (f : Fld) (v i j : Nat) (h : k / 64 ≠ f.key i j / 64) :
    SMap.get 0 (s.setReg f v i j).regs k = SMap.get 0 s.regs k :=
  SMap.get_set_other _ _ _ _ _ (by rintro rfl; exact h rfl)

/-- A rope of one that forms writes BC_ROPE_STATUS only (R271). -/
theorem State.formSolo_listed {k : Nat} (hk : k / 64 ≠ 0x308) (s : State) :
    SMap.get 0 s.formSolo.regs k = SMap.get 0 s.regs k := by
  have hset : ∀ (s : State) (f : Fld) (v : Nat), f.key 0 0 / 64 = 0x308 → SMap.get 0 (s.setReg f v).regs k = SMap.get 0 s.regs k :=
    fun s f v hf => State.setReg_listed_offset s f v 0 0 (by omega)
  unfold State.formSolo
  extract_lets sRope sSolo sAnchor sMembers
  have hMembers : SMap.get 0 sMembers.regs k = SMap.get 0 s.regs k := by
    simp (disch := decide) only [sMembers, sAnchor, sSolo, sRope, hset]
  split
  · exact (hset sMembers F.BC_ROPE_STATUS_LSTATE 6 (by decide)).trans hMembers
  · exact (hset sMembers F.BC_ROPE_STATUS_LSTATE 3 (by decide)).trans hMembers

/-! ### The staging area -/

/-- A key that fails the test of a removal reads as unlisted. -/
theorem SMap.get_keep_dropped {α : Type} (d : α) (m : SMap α) (p : Nat → Bool) (k : Nat) (h : p k = false) :
    SMap.get d (SMap.keep m p) k = d := by
  refine SMap.get_unlisted d _ k fun e he hk => ?_
  have hpe : p e.1 = true := (List.mem_filter.1 he).2
  rw [← hk, h] at hpe
  cases hpe

/-- A zeroized range of the staging area reads zero (R372). -/
theorem State.wipeStaging_get (s : State) (n : Nat) {i : Nat} (h : i < n) : (s.wipeStaging 0 n).staging.get 0 i = 0 :=
  SMap.get_keep_dropped 0 s.staging (fun k => decide (k < 0) || decide (0 + n ≤ k)) i (by simpa using h)

/-! ### INSTALL, its commit and REMOVE (R175 to R178) -/

/-- An image of a tenant in place (R177 step 5), with `len` bytes of the staging area zeroized (R373). -/
def State.withImage (s : State) (m : Img) (tag len : Nat) : State :=
  { s.wipeStaging 0 len with
    image := some m
    copy := some m
    pendingImg := none
    tenant := tag
    run := Run.zero
    invq := [] }

theorem State.withImage_staging (s : State) (m : Img) (tag len : Nat) {i : Nat} (h : i < len) :
    (s.withImage m tag len).staging.get 0 i = 0 := s.wipeStaging_get len h

/-- What follows the placing of an image writes registers, the rope and the ledger only. -/
theorem State.putInstall_withImage (s : State) (m : Img) (tag len : Nat) :
    ∃ u : State, (s.putInstall m tag len).mask 4259848 = (u.withImage m tag len).mask 4259848 := by
  unfold State.putInstall
  extract_lets same sTenant sUnformed sCommitted _ sPlaced _ sNew d sRegs
  have hPlaced : sPlaced = sCommitted.withImage m tag len := rfl
  have hNew : sNew.mask 4259848 = sPlaced.mask 4259848 := by
    unfold sNew
    split
    · rfl
    · simp only [mask_upd, true_or, or_true, and_self, Nat.reducePow, Nat.reduceDiv, Nat.reduceMod]
  have hRegs : sRegs.mask 4259848 = sPlaced.mask 4259848 := (State.imageRegs_parts ..).trans hNew
  refine ⟨sCommitted, ?_⟩
  rw [← hPlaced, ← hRegs]
  split
  · rfl
  · exact State.formSolo_parts _

theorem State.imageRegs_state (s : State) (m : Img) (d : Nat) : (s.imageRegs m d).reg F.BC_IMG_STATUS_STATE = 2 := by
  simp [State.imageRegs, State.reg_setReg_other]

theorem State.putInstall_state (s : State) (m : Img) (tag len : Nat) :
    (s.putInstall m tag len).reg F.BC_IMG_STATUS_STATE = 2 := by
  unfold State.putInstall
  extract_lets same sTenant sUnformed sCommitted _ sPlaced _ sNew d sRegs
  have hRegs : sRegs.reg F.BC_IMG_STATUS_STATE = 2 := State.imageRegs_state _ _ _
  split
  · exact hRegs
  · exact (State.reg_of_listed (State.formSolo_listed (by decide) _)).trans hRegs

theorem State.putInstall_effect (s : State) (m : Img) (tag len : Nat) :
    (s.putInstall m tag len).image = some m ∧ (s.putInstall m tag len).copy = some m ∧
    (s.putInstall m tag len).pendingImg = none ∧ (s.putInstall m tag len).tenant = tag ∧
    (s.putInstall m tag len).run = Run.zero ∧ (s.putInstall m tag len).invq = [] ∧
    ∀ i, i < len → (s.putInstall m tag len).staging.get 0 i = 0 := by
  obtain ⟨u, h⟩ := s.putInstall_withImage m tag len
  have hplaced : (u.withImage m tag len).image = some m ∧ (u.withImage m tag len).copy = some m ∧
    (u.withImage m tag len).pendingImg = none ∧ (u.withImage m tag len).tenant = tag ∧
    (u.withImage m tag len).run = Run.zero ∧ (u.withImage m tag len).invq = [] := ⟨rfl, rfl, rfl, rfl, rfl, rfl⟩
  have hwiped : ∀ i, i < len → (u.withImage m tag len).staging.get 0 i = 0 := fun i hi => u.withImage_staging m tag len hi
  generalize s.putInstall m tag len = t at h ⊢
  generalize u.withImage m tag len = v at *
  have himage : t.image = v.image := Part.same_of_mask .image h (by decide)
  have hcopy : t.copy = v.copy := Part.same_of_mask .copy h (by decide)
  have hpend : t.pendingImg = v.pendingImg := Part.same_of_mask .pendingImg h (by decide)
  have htenant : t.tenant = v.tenant := Part.same_of_mask .tenant h (by decide)
  have hrun : t.run = v.run := Part.same_of_mask .run h (by decide)
  have hinvq : t.invq = v.invq := Part.same_of_mask .invq h (by decide)
  have hstaging : t.staging = v.staging := Part.same_of_mask .staging h (by decide)
  rw [himage, hcopy, hpend, htenant, hrun, hinvq, hstaging]
  obtain ⟨h1, h2, h3, h4, h5, h6⟩ := hplaced
  exact ⟨h1, h2, h3, h4, h5, h6, hwiped⟩

/-- An installed image leaves the dictionary. -/
theorem State.putInstall_dict (s : State) (m : Img) (tag len : Nat) : (s.putInstall m tag len).dict = s.dict :=
  Part.same_of_mask .dict (State.putInstall_parts (M := 46219160) s m tag len) (by decide)

theorem State.refuseImage_effect (s : State) (op reason : Nat) :
    (s.refuseImage op reason).reg F.BC_IMG_STATUS_REASON = reason % 2 ^ 8 ∧ (s.refuseImage op reason).reg F.BC_IMG_CMD_STATUS = 2 ∧
    (s.refuseImage op reason).reg F.BC_IMG_CMD_OP = op % 2 ^ 4 ∧ ({ s.refuseImage op reason with regs := s.regs } : State) = s := by
  refine ⟨?_, ?_, ?_, ?_⟩
  · simp [State.refuseImage, State.cmd, State.reg_setReg_other]
  · simp [State.refuseImage, State.cmd, State.reg_setReg_other]
  · simp [State.refuseImage, State.cmd]
  · unfold State.refuseImage
    split <;> rfl

theorem execInstall_busy {s : State} (len : BitVec 48) (a b c : Bool) (plain : Blob) (hpend : s.pendingImg = none)
    (h : s.invocationRuns = true ∨ s.tenantBusy = true ∨ s.ropeIdle = false) :
    execInstall len a b c plain s = .next (s.refuseImage 1 0x10) := by
  have hbusy : (s.invocationRuns || s.tenantBusy || !s.ropeIdle) = true := by
    rcases h with h | h | h <;> simp [h]
  simp only [execInstall, hpend, Option.isSome_none, Bool.false_eq_true, if_false, hbusy, if_true]

section Install
variable {s : State} {len : BitVec 48} {a b c : Bool} {plain : Blob} (hpend : s.pendingImg = none)
  (hruns : s.invocationRuns = false) (htenant : s.tenantBusy = false) (hrope : s.ropeIdle = true)
include hpend hruns htenant hrope

theorem execInstall_checked {k : Nat}
    (hcheck : (s.setReg F.BC_IMG_CMD_LENGTH len.toNat).installCheck ⟨plain⟩ (s.containerOk len.toNat a b c plain) = k) :
    execInstall len a b c plain s = if k ≠ 0 then
        .next (if s.containerOk len.toNat a b c plain
          then ((s.setReg F.BC_IMG_CMD_LENGTH len.toNat).wipeStaging 0 len.toNat).refuseImage 1 k
          else ((((s.setReg F.BC_IMG_CMD_LENGTH len.toNat).wipeStaging 0 len.toNat).refuseImage 1 k).moduleFault 6
            Code.trustContainer 0 0 false).setReg F.BC_TRUST_STATUS_FAIL Code.trustContainer)
      else .next (({ s.setReg F.BC_IMG_CMD_LENGTH len.toNat with pendingImg := some ⟨plain⟩ }.setReg F.BC_IMG_STATUS_STATE 1).cmd
        F.BC_IMG_CMD_STATUS F.BC_IMG_CMD_OP 1 1) := by
  have hfree : (s.invocationRuns || s.tenantBusy || !s.ropeIdle) = false := by simp [hruns, htenant, hrope]
  have hcontainer : (s.setReg F.BC_IMG_CMD_LENGTH len.toNat).containerOk len.toNat a b c plain = s.containerOk len.toNat a b c plain :=
    rfl
  simp only [execInstall, hpend, Option.isSome_none, Bool.false_eq_true, if_false, hfree, hcontainer, hcheck]

theorem execInstall_refused {k : Nat} (hk : k ≠ 0) (hsmall : k < 256)
    (hcheck : (s.setReg F.BC_IMG_CMD_LENGTH len.toNat).installCheck ⟨plain⟩ (s.containerOk len.toNat a b c plain) = k) :
    ∃ t, execInstall len a b c plain s = .next t ∧ t.reg F.BC_IMG_STATUS_REASON = k ∧ t.reg F.BC_IMG_CMD_STATUS = 2 ∧
      t.image = s.image ∧ t.copy = s.copy ∧ t.pendingImg = none ∧ ∀ i, i < len.toNat → t.staging.get 0 i = 0 := by
  rw [execInstall_checked hpend hruns htenant hrope hcheck, if_pos hk]
  have hwiped : ∀ i, i < len.toNat →
      ((s.setReg F.BC_IMG_CMD_LENGTH len.toNat).wipeStaging 0 len.toNat).staging.get 0 i = 0 :=
    fun i hi => State.wipeStaging_get _ _ hi
  have hkept : ((s.setReg F.BC_IMG_CMD_LENGTH len.toNat).wipeStaging 0 len.toNat).image = s.image ∧
    ((s.setReg F.BC_IMG_CMD_LENGTH len.toNat).wipeStaging 0 len.toNat).copy = s.copy ∧
    ((s.setReg F.BC_IMG_CMD_LENGTH len.toNat).wipeStaging 0 len.toNat).pendingImg = none := ⟨rfl, rfl, hpend⟩
  generalize (s.setReg F.BC_IMG_CMD_LENGTH len.toNat).wipeStaging 0 len.toNat = u at *
  obtain ⟨himage, hcopy, hnone⟩ := hkept
  obtain ⟨hreason, hstatus, -, hframe⟩ := u.refuseImage_effect 1 k
  rw [Nat.mod_eq_of_lt (show k < 2 ^ 8 from hsmall)] at hreason
  have h1 : (u.refuseImage 1 k).image = u.image := (congrArg State.image hframe :)
  have h2 : (u.refuseImage 1 k).copy = u.copy := (congrArg State.copy hframe :)
  have h3 : (u.refuseImage 1 k).pendingImg = u.pendingImg := (congrArg State.pendingImg hframe :)
  have h4 : (u.refuseImage 1 k).staging = u.staging := (congrArg State.staging hframe :)
  refine ⟨_, rfl, ?_⟩
  split
  · exact ⟨hreason, hstatus, h1.trans himage, h2.trans hcopy, h3.trans hnone, fun i hi => h4 ▸ hwiped i hi⟩
  · refine ⟨?_, ?_, h1.trans himage, h2.trans hcopy, h3.trans hnone, fun i hi => ?_⟩
    · rw [State.reg_setReg_other _ _ _ _ _ _ _ _ (by simp), State.moduleFault_reg, hreason]
    · rw [State.reg_setReg_other _ _ _ _ _ _ _ _ (by simp), State.moduleFault_reg, hstatus]
    · rw [State.setReg_staging, State.moduleFault_staging, h4, hwiped i hi]

theorem execInstall_accepted
    (hcheck : (s.setReg F.BC_IMG_CMD_LENGTH len.toNat).installCheck ⟨plain⟩ (s.containerOk len.toNat a b c plain) = 0) :
    ∃ t, execInstall len a b c plain s = .next t ∧ t.pendingImg = some ⟨plain⟩ ∧ t.reg F.BC_IMG_STATUS_STATE = 1 ∧
      t.reg F.BC_IMG_CMD_STATUS = 1 ∧ t.reg F.BC_IMG_CMD_OP = 1 ∧ t.image = s.image ∧ t.copy = s.copy ∧ t.fields = s.fields := by
  rw [execInstall_checked hpend hruns htenant hrope hcheck, if_neg (by simp)]
  refine ⟨_, rfl, rfl, ?_, ?_, ?_, rfl, rfl, rfl⟩
  · rw [State.cmd_reg_other _ _ _ _ _ _ _ (by simp) (by simp), State.reg_setReg_same]
    rfl
  · exact State.cmd_status _ _ _ _ _ _ (by simp)
  · exact State.cmd_op _ _ _ _ _ _

end Install

theorem execInstallCommit_some {s : State} {m : Img} (hpend : s.pendingImg = some m) : ∃ t, execInstallCommit s = .next t ∧
    t.image = some m ∧ t.copy = some m ∧ t.pendingImg = none ∧ t.tenant = s.staged 7 1 ∧ t.run = Run.zero ∧ t.invq = [] ∧
    t.reg F.BC_IMG_STATUS_STATE = 2 ∧ t.reg F.BC_IMG_CMD_STATUS = 0 ∧ t.reg F.BC_IMG_CMD_OP = 1 ∧
    ∀ i, i < s.reg F.BC_IMG_CMD_LENGTH → t.staging.get 0 i = 0 := by
  simp only [execInstallCommit, hpend]
  obtain ⟨himage, hcopy, hnone, htenant, hrun, hinvq, hstaging⟩ :=
    s.putInstall_effect m (s.staged 7 1) (s.reg F.BC_IMG_CMD_LENGTH)
  have hstate := s.putInstall_state m (s.staged 7 1) (s.reg F.BC_IMG_CMD_LENGTH)
  generalize s.putInstall m (s.staged 7 1) (s.reg F.BC_IMG_CMD_LENGTH) = u at *
  refine ⟨_, rfl, himage, hcopy, hnone, htenant, hrun, hinvq, ?_, State.cmd_status _ _ _ _ _ _ (by simp),
    State.cmd_op _ _ _ _ _ _, hstaging⟩
  rw [State.cmd_reg_other _ _ _ _ _ _ _ (by simp) (by simp), hstate]

theorem execRemove_free {s : State} (hpend : s.pendingImg = none) (hruns : s.invocationRuns = false) (hrope : s.ropeIdle = true) :
    ∃ t, execRemove s = .next t ∧ t.image = none ∧ t.copy = none ∧ t.run = Run.zero ∧ t.tenant = s.tenant ∧
      t.reg F.BC_IMG_STATUS_STATE = 0 ∧ t.reg F.BC_IMG_CMD_STATUS = 0 ∧ t.reg F.BC_IMG_CMD_OP = 2 ∧ t.staging = s.staging := by
  have hfree : (s.invocationRuns || !s.ropeIdle) = false := by simp [hruns, hrope]
  simp only [execRemove, hpend, hfree, Option.isSome_none, Bool.false_eq_true, if_false]
  have hparts : (s.unformSolo.clearArray true).mask 65560 = s.mask 65560 :=
    (State.clearArray_parts _ _).trans (State.unformSolo_parts s)
  have htenant : (s.unformSolo.clearArray true).tenant = s.tenant := Part.same_of_mask .tenant hparts (by decide)
  have hstaging : (s.unformSolo.clearArray true).staging = s.staging := Part.same_of_mask .staging hparts (by decide)
  generalize s.unformSolo.clearArray true = u at *
  refine ⟨_, rfl, rfl, rfl, rfl, ?_, ?_, State.cmd_status _ _ _ _ _ _ (by simp), State.cmd_op _ _ _ _ _ _, ?_⟩
  · simpa only [State.cmd, State.setReg_tenant] using htenant
  · rw [State.cmd_reg_other _ _ _ _ _ _ _ (by simp) (by simp)]
    simp [State.reg_setReg_other]
  · simpa only [State.cmd, State.setReg_staging] using hstaging

theorem execRemove_busy {s : State} (hpend : s.pendingImg = none) (h : s.invocationRuns = true ∨ s.ropeIdle = false) :
    execRemove s = .next (s.refuseImage 2 0x10) := by
  have hbusy : (s.invocationRuns || !s.ropeIdle) = true := by
    rcases h with h | h <;> simp [h]
  simp only [execRemove, hpend, Option.isSome_none, Bool.false_eq_true, if_false, hbusy, if_true]

/-! ### Standalone operation (R398, R399) -/

theorem State.odCmd_status (s : State) (ix sub status abort : Nat) :
    (s.odCmd ix sub status abort).dict.cmdStatus.get 0 (odKey ix sub) = status + 2 ^ 32 * abort := SMap.get_set_same ..

/-- The index written to 0x2600:01 is not what refuses a test. -/
theorem State.soloRefused_setOd (s : State) (ix sub v : Nat) : (s.setOd ix sub v).soloRefused = s.soloRefused := rfl

theorem State.soloInstall_refused {s : State} (ix : Nat) (ok : Bool) (tenant : Nat) (plain : Blob) (until_ : Option Nat)
    (h : s.soloRefused = true) : s.soloInstall ix ok tenant plain until_ = (s.setOd 0x2600 1 ix).odCmd 0x2600 1 2 Abort.state := by
  simp only [State.soloInstall, State.soloRefused_setOd, h, if_true]

theorem State.soloInstall_accepted {s : State} {ix : Nat} {ok : Bool} {tenant : Nat} {plain : Blob} (until_ : Option Nat)
    (h : s.soloRefused = false)
    (hcheck : (s.setOd 0x2600 1 ix).installCheck ⟨plain⟩ (ok && decide (ix < 8 ∧ 1 ≤ tenant ∧ tenant ≤ 15)) = 0) :
    (s.soloInstall ix ok tenant plain until_).image = some ⟨plain⟩ ∧ (s.soloInstall ix ok tenant plain until_).copy = some ⟨plain⟩ ∧
    (s.soloInstall ix ok tenant plain until_).tenant = tenant ∧
    (s.soloInstall ix ok tenant plain until_).dict.test = some ⟨ix, until_, false, 0⟩ ∧
    (s.soloInstall ix ok tenant plain until_).dict.cmdStatus.get 0 (odKey 0x2600 1) = 1 := by
  simp only [State.soloInstall, State.soloRefused_setOd, h, hcheck, Bool.false_eq_true, if_false, ne_eq, not_true_eq_false]
  obtain ⟨himage, hcopy, -, htenant, -⟩ := (s.setOd 0x2600 1 ix).putInstall_effect ⟨plain⟩ tenant 0
  exact ⟨himage, hcopy, htenant, trivial, State.odCmd_status _ _ _ _ _⟩

theorem execBurnIn_crocus {s : State} {ix : BitVec 8} {ok : Bool} {tenant : Fin 16} {plain : Blob} (secs : BitVec 32) (d2 : BitVec 8)
    (hcrocus : s.crocus = true) (h : s.soloRefused = false) (htest : s.dict.test = none)
    (hcheck : (s.setOd 0x2600 1 ix.toNat).installCheck ⟨plain⟩
      (ok && decide (ix.toNat < 8 ∧ 1 ≤ tenant.val ∧ tenant.val ≤ 15)) = 0) :
    ∃ t, execBurnIn ix secs d2 ok tenant plain s = .next t ∧ t.image = some ⟨plain⟩ ∧ t.tenant = tenant.val ∧
      t.dict.test = some ⟨ix.toNat, some (s.ref + secs.toNat * 100000000), false, 0⟩ ∧
      t.pw.needs.get 0 4 = min 32 (max 8 d2.toNat) := by
  obtain ⟨himage, -, htenant, hwaits, -⟩ :=
    State.soloInstall_accepted (some (s.ref + secs.toNat * 100000000)) h hcheck
  simp only [execBurnIn, hcrocus, htest, Bool.not_true, Bool.false_eq_true, if_false, Option.isNone_none, Bool.true_and]
  generalize s.soloInstall ix.toNat ok tenant.val plain (some (s.ref + secs.toNat * 100000000)) = u at *
  rw [hwaits, Option.isSome_some, if_pos rfl]
  have hparts : (u.setNeed 4 (min 32 (max 8 d2.toNat))).mask 34537480 = u.mask 34537480 := State.setNeed_parts ..
  have hkept : (u.setNeed 4 (min 32 (max 8 d2.toNat))).image = u.image := Part.same_of_mask .image hparts (by decide)
  have htag : (u.setNeed 4 (min 32 (max 8 d2.toNat))).tenant = u.tenant := Part.same_of_mask .tenant hparts (by decide)
  have hdict : (u.setNeed 4 (min 32 (max 8 d2.toNat))).dict = u.dict := Part.same_of_mask .dict hparts (by decide)
  refine ⟨_, rfl, hkept.trans himage, htag.trans htenant, hdict ▸ hwaits, ?_⟩
  rw [State.setNeed_needs, SMap.get_set_same]

theorem execBurnIn_other {s : State} (ix : BitVec 8) (secs : BitVec 32) (d2 : BitVec 8) (ok : Bool) (tenant : Fin 16) (plain : Blob)
    (h : s.crocus = false) : execBurnIn ix secs d2 ok tenant plain s = .next (s.odCmd 0x2600 1 2 Abort.state) := by
  simp only [execBurnIn, h, Bool.not_false, if_true]

/-! ### The commands of tests, installation and removal complete -/

/-- Settles O19: a clause per command and outcome, from the equation of that branch and what placing an image leaves. -/
theorem testAndInstallCommandsComplete : Obligations.TestAndInstallCommandsComplete := by
  refine ⟨?test, ?testRefused, ?burnIn, ?burnInOther, ?installBusy, ?installRefused, ?install, ?commit, ?remove, ?removeBusy⟩
  case test =>
    intro s ix ok tenant plain hfree hcheck
    exact ⟨_, rfl, State.soloInstall_accepted none hfree hcheck⟩
  case testRefused =>
    intro s ix ok tenant plain h
    exact ⟨_, Res.next_congr (State.soloInstall_refused ix.toNat ok tenant.val plain none h), rfl, rfl, State.odCmd_status _ _ _ _ _⟩
  case burnIn =>
    intro s ix secs d2 ok tenant plain hcrocus hfree htest hcheck
    exact execBurnIn_crocus secs d2 hcrocus hfree htest hcheck
  case burnInOther =>
    intro s ix secs d2 ok tenant plain h
    exact ⟨_, execBurnIn_other ix secs d2 ok tenant plain h, rfl, rfl, State.odCmd_status _ _ _ _ _, rfl⟩
  case installBusy =>
    intro s len a b c plain hpend h
    exact ⟨_, execInstall_busy len a b c plain hpend h, s.refuseImage_effect 1 0x10⟩
  case installRefused =>
    intro s len a b c plain k hpend hruns htenant hrope hk hsmall hcheck
    exact execInstall_refused hpend hruns htenant hrope hk hsmall hcheck
  case install =>
    intro s len a b c plain hpend hruns htenant hrope hcheck
    exact execInstall_accepted hpend hruns htenant hrope hcheck
  case commit => exact fun s m hpend => execInstallCommit_some hpend
  case remove => exact fun s hpend hruns hrope => execRemove_free hpend hruns hrope
  case removeBusy =>
    intro s hpend h
    obtain ⟨hreason, hstatus, -, hframe⟩ := s.refuseImage_effect 2 0x10
    exact ⟨_, execRemove_busy hpend h, hreason, hstatus, hframe⟩

/-! ### INVOCATION_START (R167 to R170, R231) -/

/-- Loading the streams of a cold start leaves the running invocation. -/
theorem State.coldLoad_run (s : State) (streams : List (Addr × BitVec 23)) : (s.coldLoad streams).run = s.run :=
  Part.same_of_mask .run (State.coldLoad_parts (M := 4210712) s streams) (by decide)

section Start
variable {s : State} {m : Img} {i : Invocation} {rest : List Invocation} (streams : List (Addr × BitVec 23))
  (himage : s.image = some m) (hinvq : s.invq = i :: rest) (hnxt : s.run.nxt = none)
include himage hinvq hnxt

theorem execInvocationStart_short (hshort : s.usedShort = true) :
    execInvocationStart streams s = .next { s with invq := rest } := by
  simp only [execInvocationStart, himage, hinvq, hnxt, hshort, Option.isSome_none, Bool.false_eq_true, if_false, if_true]

theorem execInvocationStart_refused (hup : s.usedShort = false)
    (hlen : m.lengths i.params (m.sections + 1) (m.entrySec i.entry) = none) :
    execInvocationStart streams s = .next ({ s with invq := rest }.setReg F.BC_IMG_STATUS_REASON 0x11) := by
  simp only [execInvocationStart, himage, hinvq, hnxt, hup, hlen, Option.isSome_none, Bool.false_eq_true, if_false]

variable {ls : List Nat} (hup : s.usedShort = false)
  (hlen : m.lengths i.params (m.sections + 1) (m.entrySec i.entry) = some ls)
include hup hlen

theorem execInvocationStart_chained (hchains : s.chains m i = true) :
    execInvocationStart streams s = .next { s with
      invq := rest
      run := { s.run with nxt := some (i, false, ls) }
      rope := { s.rope with startedSince := true } } := by
  simp only [execInvocationStart, himage, hinvq, hnxt, hup, hlen, hchains, Option.isSome_none, Bool.false_eq_true, if_false, if_true]

theorem execInvocationStart_cold (hcur : s.run.cur = none) (hstart : s.acyc ≤ i.start) : ∃ t,
    execInvocationStart streams s = .next t ∧ t.invq = rest ∧ t.run.nxt = some (i, true, ls) ∧ t.reg F.BC_IMG_STATUS_STATE = 3 := by
  have hchains : s.chains m i = false := by simp [State.chains, hcur]
  simp only [execInvocationStart, himage, hinvq, hnxt, hup, hlen, hchains, hcur, hstart, Option.isSome_none, Option.isNone_none,
    decide_true, Bool.and_self, Bool.false_eq_true, if_false, if_true]
  exact ⟨_, rfl, rfl, rfl, State.reg_setReg_same ..⟩

end Start

/-! ### SECTION_SWITCH (R157, R161, R521) -/

theorem State.advance_acyc (s : State) (t : Nat) : (s.advance t).acyc = t := by
  unfold State.advance
  exact Part.same_of_mask .acyc (State.clearsDue_parts (M := 24) _ t) (by decide)

/-- No field's part in a switch changes the array acycle. -/
theorem State.switchFields_acyc (d : SwitchTo) (e : Sect) (ending : Bool) (fs : List Nat) (s : State) :
    (fs.foldl (fun s f => (s.settle f d.w).switchField f d e ending) s).acyc = s.acyc := by
  refine Part.same_of_mask .acyc (mask_foldl 4345976 _ (fun s f => ?_) fs s) (by decide)
  exact (State.switchField_parts ..).trans (State.settle_parts ..)

theorem execSectionSwitch_made {s : State} {m : Img} {d : SwitchTo} (himage : s.image = some m) (hnext : s.switchNext = some d)
    (hscan : (d.entry.isSome && s.usedFields.any (fun f => s.trust.scanning.contains f)) = false) :
    ∃ t, execSectionSwitch s = .next t ∧ t.acyc = d.w ∧ t.run.section_ = d.section_ ∧ t.run.len = d.len ∧
      t.run.next = d.w + d.len ∧ t.run.last = (m.sect d.section_).last ∧
      ∀ i cold, d.entry = some (i, cold) → t.run.cur = some i ∧ t.run.nxt = none ∧ t.run.invalid = false := by
  unfold execSectionSwitch
  split
  case h_2 hnone => exact absurd hnext (hnone m d himage)
  case h_1 m' d' himage' hnext' =>
    obtain rfl : m = m' := Option.some.inj (himage.symm.trans himage')
    obtain rfl : d = d' := Option.some.inj (hnext.symm.trans hnext')
    rw [if_neg (by simp only [hscan, Bool.false_eq_true, not_false_eq_true])]
    extract_lets e ending sAdv cold sCold fs sFields ended _ run sRun old seqNo _ sRope
    have hCold : sCold.acyc = d.w := by
      have hAdv : sAdv.acyc = d.w := State.advance_acyc _ _
      unfold sCold
      split
      · exact (Part.same_of_mask .acyc (State.coldRefresh_parts (M := 24) sAdv) (by decide) : _ = sAdv.acyc).trans hAdv
      · exact hAdv
    have hFields : sFields.acyc = d.w := by
      have hMiss : sCold.missSwitch.acyc = sCold.acyc :=
        Part.same_of_mask .acyc (State.missSwitch_parts (M := 16) sCold) (by decide)
      exact (State.switchFields_acyc d e ending fs _).trans (hMiss.trans hCold)
    have hRegs : (if d.entry.isSome then (List.range 6).foldl (fun s p => s.setReg F.HX_SCHED_PEAK 0 p) sRope
        else sRope).mask 8 = sRope.mask 8 := by
      rw [mask_ite, mask_foldl 8 _ (fun s p => State.setReg_parts ..), ite_self]
    refine ⟨_, rfl, ?_⟩
    generalize (if d.entry.isSome then (List.range 6).foldl (fun s p => s.setReg F.HX_SCHED_PEAK 0 p) sRope
      else sRope) = t at *
    have hacyc : t.acyc = sRope.acyc := Part.same_of_mask .acyc hRegs (by decide)
    have hrun : t.run = sRope.run := Part.same_of_mask .run hRegs (by decide)
    rw [hacyc, hrun]
    refine ⟨hFields, rfl, rfl, rfl, rfl, fun i cold hentry => ?_⟩
    have hnamed : run.cur = some i ∧ run.nxt = none ∧ run.invalid = false := by
      unfold run
      rw [hentry]
      exact ⟨rfl, rfl, rfl⟩
    exact hnamed

theorem execSectionSwitch_scanning {s : State} {m : Img} {d : SwitchTo} (himage : s.image = some m) (hnext : s.switchNext = some d)
    (hscan : (d.entry.isSome && s.usedFields.any (fun f => s.trust.scanning.contains f)) = true) :
    execSectionSwitch s = .next s := by
  simp only [execSectionSwitch, himage, hnext, hscan, if_true]

/-! ### INVOCATION_END (R169, R189) -/

theorem State.mapFields_acyc (s : State) (fs : List Nat) (g : Tile → Tile) : (s.mapFields fs g).acyc = s.acyc :=
  Part.same_of_mask .acyc (State.mapFields_parts (M := 16) s fs g) (by decide)

theorem State.stopLives_acyc (fs : List Nat) (s : State) : (fs.foldl State.stopLive s).acyc = s.acyc :=
  Part.same_of_mask .acyc (mask_foldl 24 State.stopLive (fun s f => State.stopLive_parts s f) fs s) (by decide)

theorem State.endTest_acyc_run (s : State) (q : Nat) : (s.endTest q).acyc = s.acyc ∧ (s.endTest q).run = s.run :=
  ⟨Part.same_of_mask .acyc (State.endTest_parts (M := 2097152) s q) (by decide),
    Part.same_of_mask .run (State.endTest_parts (M := 2097152) s q) (by decide)⟩

theorem State.endTest_reg (s : State) (q : Nat) (f : Fld) (i j : Nat) : (s.endTest q).reg f i j = s.reg f i j :=
  State.reg_of_mask f i j (State.endTest_parts (M := 2097152) s q)

theorem execInvocationEnd_last {s : State} {i : Invocation} (hcur : s.run.cur = some i) (hnxt : s.run.nxt = none)
    (hlast : s.run.last = true) : ∃ t, execInvocationEnd s = .next t ∧ t.run.cur = none ∧ t.run.last = false ∧
      t.acyc = s.run.next ∧ (∃ l, t.run.ended = (i.seqNo, s.run.next) :: l) ∧ t.reg F.BC_IMG_STATUS_STATE = 2 := by
  unfold execInvocationEnd
  split
  case h_1 hnone => rw [hcur] at hnone; cases hnone
  case h_2 j hj =>
    obtain rfl : i = j := Option.some.inj (hcur.symm.trans hj)
    rw [if_neg (by simp [hlast, hnxt])]
    extract_lets w sAdv sTiles sFields back run sEnded
    have hFields : sFields.acyc = w := by
      exact ((State.stopLives_acyc _ sTiles).trans (State.mapFields_acyc sAdv _ _)).trans (State.advance_acyc _ _)
    clear_value sFields
    have hstate : sEnded.reg F.BC_IMG_STATUS_STATE = 2 := State.reg_setReg_same _ F.BC_IMG_STATUS_STATE 2 0 0
    obtain ⟨hTestAcyc, hTestRun⟩ := sEnded.endTest_acyc_run i.seqNo
    refine ⟨_, rfl, ?_⟩
    rw [hTestAcyc, hTestRun, State.endTest_reg]
    exact ⟨rfl, rfl, hFields, ⟨_, rfl⟩, hstate⟩

/-! ### Numbers in the body of a cell (R286) -/

theorem leNat_bytesLe (n v : Nat) : leNat (bytesLe n v) = v % 256 ^ n := by
  induction n generalizing v with
  | zero => simp [leNat, bytesLe, Nat.mod_one]
  | succ n ih =>
    have hsplit : v % (256 * 256 ^ n) = v % 256 + 256 * (v / 256 % 256 ^ n) := Nat.mod_mul
    rw [bytesLe, leNat, ih, Nat.mod_mod, pow_succ', hsplit]

/-- A number reads back where it was put. -/
theorem leAt_bytesLe (l r : List Nat) (n v : Nat) {i : Nat} (hi : l.length = i) :
    leAt (l ++ (bytesLe n v ++ r)) i n = v % 256 ^ n := by
  rw [leAt, List.drop_left' hi, List.take_left' (bytesLe_length n v), leNat_bytesLe]

theorem leAt_params (ps l : List Nat) {i k : Nat} (hi : l.length = i) (hk : k < ps.length) :
    leAt (l ++ ps.flatMap (bytesLe 4)) (i + 4 * k) 4 = ps[k] % 2 ^ 32 := by
  induction ps generalizing l i k with
  | nil => cases hk
  | cons p ps ih =>
    rw [List.flatMap_cons]
    cases k with
    | zero => exact leAt_bytesLe l _ 4 p hi
    | succ k =>
      have hrest := ih (l ++ bytesLe 4 p) (i := i + 4) (k := k) (by simp [hi]) (by simpa using hk)
      rw [← List.append_assoc, show i + 4 * (k + 1) = i + 4 + 4 * k by omega, hrest, List.getElem_cons_succ]

/-- The body of an INVOKE cell. -/
def invokeBody (e q start : Nat) (ps : List Nat) : List Nat :=
  [3, e, 0, 0] ++ bytesLe 8 q ++ bytesLe 8 start ++ ps.flatMap (bytesLe 4)

theorem invokeBody_type {e q start : Nat} {ps : List Nat} : leAt (invokeBody e q start ps) 0 1 = 3 := rfl

theorem invokeBody_entry {e q start : Nat} {ps : List Nat} : leAt (invokeBody e q start ps) 1 1 = e % 256 := by simp [invokeBody, leAt, leNat]

theorem invokeBody_seqNo {e q start : Nat} {ps : List Nat} : leAt (invokeBody e q start ps) 4 8 = q % 256 ^ 8 := by
  rw [invokeBody, List.append_assoc, List.append_assoc]
  exact leAt_bytesLe [3, e, 0, 0] _ 8 q rfl

theorem invokeBody_start {e q start : Nat} {ps : List Nat} : leAt (invokeBody e q start ps) 12 8 = start % 256 ^ 8 := by
  rw [invokeBody, List.append_assoc]
  exact leAt_bytesLe ([3, e, 0, 0] ++ bytesLe 8 q) _ 8 start (by simp)

section Body
variable {e q start : Nat} {ps : List Nat} (hlen : ps.length = 8)
include hlen

theorem padTo_invokeBody : padTo 52 (invokeBody e q start ps) = invokeBody e q start ps := by
  have hparams : (ps.flatMap (bytesLe 4)).length = 32 := by simp [List.length_flatMap, hlen]
  have h52 : (invokeBody e q start ps).length = 52 := by simp [invokeBody, hparams]
  rw [padTo, List.take_left' h52]

theorem invokeBody_params (hps : ∀ p, p ∈ ps → p < 2 ^ 32) :
    (List.range 8).map (fun k => leAt (invokeBody e q start ps) (20 + 4 * k) 4) = ps := by
  refine List.ext_getElem (by simp [hlen]) fun k hk hk' => ?_
  rw [List.getElem_map, List.getElem_range, invokeBody, leAt_params ps _ (by simp) hk', Nat.mod_eq_of_lt (hps _ (List.getElem_mem hk'))]

end Body

/-! ### INVOKE at a member (R286) -/

/-- The invocation that the body of an INVOKE cell names. -/
def invocationOf (b : List Nat) : Invocation :=
  ⟨leAt b 4 8, leAt b 1 1, leAt b 12 8, (List.range 8).map (fun k => leAt b (20 + 4 * k) 4)⟩

theorem invocationOf_invokeBody {e q start : Nat} {ps : List Nat} (hlen : ps.length = 8) (hps : ∀ p, p ∈ ps → p < 2 ^ 32)
    (he : e < 256) (hq : q < 256 ^ 8) (hstart : start < 256 ^ 8) : invocationOf (invokeBody e q start ps) = ⟨q, e, start, ps⟩ := by
  rw [invocationOf, invokeBody_seqNo, invokeBody_entry, invokeBody_start, invokeBody_params hlen hps, Nat.mod_eq_of_lt he,
    Nat.mod_eq_of_lt hq, Nat.mod_eq_of_lt hstart]

/-- A member that has journalled an INVOKE as it came. -/
def State.journalInvoke (s : State) (c : Cell) : State := { s with
  rope := { s.rope with
    journal := s.rope.journal ++ [invocationOf c.body]
    nextSeq := leAt c.body 4 8 + 1
    lastEnd := leAt c.body 12 8 + (match s.image with
      | some m => (m.invLength (leAt c.body 1 1) (invocationOf c.body).params).getD 0
      | none => 0) }
  ldg := s.ldg.append 2 0xFFFF (leAt c.body 4 8) false c.bytes }

theorem State.takeInvoke_running {s : State} (c : Cell) (hstate : s.ropeState = 4) :
    s.takeInvoke c = if leAt c.body 12 8 < s.acyc + 4096
      then (s.journalInvoke c).moduleFault 5 Code.schInvokeLate 0 (leAt c.body 4 8) true
      else { s.journalInvoke c with invq := s.invq ++ [invocationOf c.body] } := by
  have hnow : (s.journalInvoke c).issueNow = s.acyc := if_pos hstate
  have htake : s.takeInvoke c = if leAt c.body 12 8 < (s.journalInvoke c).issueNow + 4096
      then (s.journalInvoke c).moduleFault 5 Code.schInvokeLate 0 (leAt c.body 4 8) true
      else if s.ropeState = 4 then { s.journalInvoke c with invq := s.invq ++ [invocationOf c.body] } else s.journalInvoke c := rfl
  rw [htake, hnow, if_pos hstate]

theorem State.takeInvoke_queued {s : State} {c : Cell} (hstate : s.ropeState = 4) (h : s.acyc + 4096 ≤ leAt c.body 12 8) :
    s.takeInvoke c = { s.journalInvoke c with invq := s.invq ++ [invocationOf c.body] } := by
  rw [State.takeInvoke_running c hstate, if_neg (Nat.not_lt.2 h)]

/-! ### INVOCATION_ISSUE (R286, R341) -/

theorem State.takeEpoch_invoke (s : State) {c : Cell} (h : leAt c.body 0 1 = 3) : s.takeEpoch c = s.takeInvoke c := by
  simp only [State.takeEpoch, h]

/-- An INVOKE that a rope of one originates takes effect at once (R271). -/
theorem State.castEpoch_invoke {s : State} {e q start : Nat} {ps : List Nat} (hsolo : s.solo = true) (hstate : s.ropeState = 4)
    (hlen : ps.length = 8) (hps : ∀ p, p ∈ ps → p < 2 ^ 32) (he : e < 256) (hq : q < 256 ^ 8) (hstart : start < 256 ^ 8)
    (hlead : s.acyc + 4096 ≤ start) :
    (s.castEpoch (invokeBody e q start ps)).invq = s.invq ++ [⟨q, e, start, ps⟩] ∧
    (s.castEpoch (invokeBody e q start ps)).rope.nextSeq = q + 1 ∧
    (s.castEpoch (invokeBody e q start ps)).run = s.run ∧ (s.castEpoch (invokeBody e q start ps)).image = s.image := by
  have hat : leAt (invokeBody e q start ps) 12 8 = start := invokeBody_start.trans (Nat.mod_eq_of_lt hstart)
  have hseq : leAt (invokeBody e q start ps) 4 8 = q := invokeBody_seqNo.trans (Nat.mod_eq_of_lt hq)
  rw [State.castEpoch, if_pos hsolo, padTo_invokeBody hlen, State.takeEpoch_invoke _ invokeBody_type,
    State.takeInvoke_queued hstate (by rwa [hat]), invocationOf_invokeBody hlen hps he hq hstart]
  exact ⟨rfl, congrArg (· + 1) hseq, rfl, rfl⟩

theorem State.invParams_length (s : State) (e q : Nat) : (s.invParams e q).length = 8 := by simp [State.invParams]

/-- The anchor of a rope of one that runs places an invocation a flight of the cell ahead. -/
theorem State.placeOk_lead {s : State} {m : Img} {e now start : Nat} (hsolo : s.solo = true) (hstate : s.ropeState = 4)
    (h : s.placeOk m e now start = true) : s.acyc + 4096 ≤ start := by
  have hnow : s.issueNow = s.acyc := if_pos hstate
  have hlead : max s.issueNow now + 4096 ≤ start := by
    simp only [State.placeOk, hsolo, if_true, Bool.and_eq_true, decide_eq_true_eq] at h
    exact h.1
  omega

section Issue
variable {u : State} {m : Img} {e : BitVec 8} {start now : BitVec 64} (himage : u.image = some m)
include himage

theorem execInvocationIssue_refused {s : State} {ups : List (Addr × Upset)} (hu : u = s.upsets ups)
    (h : u.usedShort = true ∨ u.entryWanted e.toNat = false) : execInvocationIssue e start now ups s = .next u := by
  have hrefused : ∀ fresh : Bool, (!u.isAnchor || u.usedShort || !(decide (u.ropeState = 4) || fresh) ||
      decide (m.entries ≤ e.toNat) || !u.entryWanted e.toNat) = true := by
    rcases h with h | h <;> simp [h]
  simp only [execInvocationIssue, ← hu, himage, hrefused, if_true]

theorem execInvocationIssue_placed {s : State} {ups : List (Addr × Upset)} {n : Nat} (hu : u = s.upsets ups)
    (hsolo : u.solo = true) (hstate : u.ropeState = 4) (hup : u.usedShort = false) (he : e.toNat < m.entries)
    (hwanted : u.entryWanted e.toNat = true) (hlen : m.invLength e.toNat (u.invParams e.toNat u.rope.nextSeq) = some n)
    (hplace : u.placeOk m e.toNat now.toNat start.toNat = true) :
    ∃ v : State, v.mask 2162688 = u.mask 2162688 ∧ execInvocationIssue e start now ups s =
      .next (v.castEpoch (invokeBody e.toNat u.rope.nextSeq start.toNat (u.invParams e.toNat u.rope.nextSeq))) := by
  unfold execInvocationIssue
  rw [← hu]
  clear hu
  extract_lets sUps fresh was sStart q ps r k sPlan d sTest
  have hUps : sUps = u := rfl
  clear_value sUps
  subst hUps
  split
  case h_1 hnone => rw [himage] at hnone; cases hnone
  case h_2 m' himage' =>
    obtain rfl : m = m' := Option.some.inj (himage.symm.trans himage')
    have hfresh : fresh = false := by simp [fresh, hstate]
    have hStart : sStart = sUps := if_neg (by simp [hfresh])
    have hgo : (!sUps.isAnchor || sUps.usedShort || !(decide (sUps.ropeState = 4) || fresh) || decide (m.entries ≤ e.toNat) ||
        !sUps.entryWanted e.toNat) = false := by simp [State.isAnchor, hsolo, hup, hstate, he, hwanted]
    have hqu : q = sUps.rope.nextSeq := by unfold q; rw [hStart]
    have hpsu : ps = sUps.invParams e.toNat sUps.rope.nextSeq := by unfold ps; rw [hStart, hqu]
    have hTest : sTest.mask 2162688 = sUps.mask 2162688 := by
      have hPlan : sPlan.mask 2162688 = sUps.mask 2162688 := by
        unfold sPlan
        rw [hStart]
        split <;> rfl
      refine Eq.trans ?_ hPlan
      unfold sTest
      split
      · simp only [mask_upd, true_or, or_true, and_self, Nat.reducePow, Nat.reduceDiv, Nat.reduceMod]
      · rfl
    rw [if_neg (by rw [hgo]; decide), hpsu, hlen, hStart, hplace]
    exact ⟨sTest, hTest, by rw [hqu]; rfl⟩

end Issue

/-- The rope state lies in the registers. -/
theorem State.rope_of_regs {s t : State} (h : t.regs = s.regs) : t.solo = s.solo ∧ t.ropeState = s.ropeState := by
  have hsolo : t.solo = s.solo := by unfold State.solo; rw [State.reg_eq s t h]
  refine ⟨hsolo, ?_⟩
  unfold State.ropeState
  rw [hsolo, State.reg_eq s t h, State.reg_eq s t h]

/-- Settles O21: an issue is the INVOKE that the rope of one takes at once, and a start, a switch and an end each read the branch
that their hypotheses name. -/
theorem invocationCommandsComplete : Obligations.InvocationCommandsComplete := by
  unfold Obligations.InvocationCommandsComplete
  refine ⟨?issue, ?noIssue, ?cold, ?chained, ?short, ?refused, ?section_, ?entry, ?scan, ?last⟩
  case issue =>
    intro s u m e start now ups n hu himage hsolo hstate hup he hwanted hlen hplace hq hps
    obtain ⟨v, hv, hexec⟩ := execInvocationIssue_placed himage hu hsolo hstate hup he hwanted hlen hplace
    have hregs : v.regs = u.regs := Part.same_of_mask .regs hv (by decide)
    have hacyc : v.acyc = u.acyc := Part.same_of_mask .acyc hv (by decide)
    have hinvq : v.invq = u.invq := Part.same_of_mask .invq hv (by decide)
    have hrun : v.run = u.run := Part.same_of_mask .run hv (by decide)
    have himg : v.image = u.image := Part.same_of_mask .image hv (by decide)
    obtain ⟨hvsolo, hvstate⟩ := State.rope_of_regs hregs
    have hlead : v.acyc + 4096 ≤ start.toNat := hacyc ▸ State.placeOk_lead hsolo hstate hplace
    obtain ⟨hq', hseq', hrun', himg'⟩ := State.castEpoch_invoke (hvsolo.trans hsolo) (hvstate.trans hstate) (u.invParams_length _ _)
      hps e.isLt hq start.isLt hlead
    exact ⟨_, hexec, hq'.trans (by rw [hinvq]), hseq', hrun'.trans hrun, himg'.trans himg⟩
  case noIssue => exact fun s u m e start now ups hu himage h => execInvocationIssue_refused himage hu h
  case cold =>
    intro s m i rest ls streams himage hinvq hup hnxt hcur hstart hlen
    exact execInvocationStart_cold streams himage hinvq hnxt hup hlen hcur hstart
  case chained =>
    intro s m i rest ls streams himage hinvq hup hnxt hchains hlen
    exact ⟨_, execInvocationStart_chained streams himage hinvq hnxt hup hlen hchains, rfl, rfl, rfl, rfl⟩
  case short => exact fun s m i rest streams himage hinvq hshort hnxt => execInvocationStart_short streams himage hinvq hnxt hshort
  case refused =>
    intro s m i rest streams himage hinvq hup hnxt hlen
    exact ⟨_, execInvocationStart_refused streams himage hinvq hnxt hup hlen, rfl, rfl, State.reg_setReg_same ..⟩
  case section_ =>
    intro s m d himage hnext hentry
    obtain ⟨t, hexec, hacyc, hsect, hlen, hnextAt, hlast, -⟩ := execSectionSwitch_made himage hnext (by simp [hentry])
    exact ⟨t, hexec, hacyc, hsect, hlen, hnextAt, hlast⟩
  case entry =>
    intro s m d i cold himage hnext hentry hscan
    have hclear : (d.entry.isSome && s.usedFields.any (fun f => s.trust.scanning.contains f)) = false := by
      rw [Bool.and_eq_false_iff, List.any_eq_false]
      exact Or.inr fun f hf => by rw [hscan f hf]; decide
    obtain ⟨t, hexec, hacyc, -, -, hnextAt, -, hnamed⟩ := execSectionSwitch_made himage hnext hclear
    obtain ⟨hcur, hnxt, hinvalid⟩ := hnamed i cold hentry
    exact ⟨t, hexec, hacyc, hcur, hnxt, hinvalid, hnextAt⟩
  case scan =>
    intro s m d e f himage hnext hentry hf hscan
    refine execSectionSwitch_scanning himage hnext ?_
    rw [hentry, Option.isSome_some, Bool.true_and, List.any_eq_true]
    exact ⟨f, hf, hscan⟩
  case last => exact fun s i hcur hnxt hlast => execInvocationEnd_last hcur hnxt hlast

/-! ### COMMIT (R311, R340) -/

/-- A slot becomes the committed one, and the journal records that it covers are freed (R311, R340). -/
def State.commitSlot (s : State) (k e : Nat) : State :=
  let x := s.slot k
  let s := ((((s.setSlot k { x with commit := some e }).setReg F.BC_ROPE_CKP_COMMITTED e).setReg F.BC_ROPE_CKP_CVALID 1).setReg
    F.BC_ROPE_CKP_CSLOT k)
  { s with
    rope := { s.rope with journal := s.rope.journal.filter (fun i => decide (x.invSeq ≤ i.seqNo)) }
    ldg := s.ldg.keepJ (fun r => !((r.type = 2 || r.type = 3) && decide (r.key < x.invSeq))) }

theorem State.commitSlot_slot (s : State) (k e : Nat) : ((s.commitSlot k e).slot k).commit = some e ∧
    ((s.commitSlot k e).slot k).content = (s.slot k).content := by
  unfold State.commitSlot State.setSlot State.slot
  split <;> exact ⟨rfl, rfl⟩

theorem State.commitSlot_regs (s : State) {k e : Nat} (hk : k < 2) (he : e < 2 ^ 32) :
    (s.commitSlot k e).reg F.BC_ROPE_CKP_COMMITTED = e ∧ (s.commitSlot k e).reg F.BC_ROPE_CKP_CVALID = 1 ∧
    (s.commitSlot k e).reg F.BC_ROPE_CKP_CSLOT = k := by
  have hregs : ∃ u : State, (s.commitSlot k e).regs =
      (((u.setReg F.BC_ROPE_CKP_COMMITTED e).setReg F.BC_ROPE_CKP_CVALID 1).setReg F.BC_ROPE_CKP_CSLOT k).regs := ⟨_, rfl⟩
  obtain ⟨u, hu⟩ := hregs
  refine ⟨?_, ?_, ?_⟩
  · simpa [State.reg_eq _ _ hu, State.reg_setReg_other] using he
  · simp [State.reg_eq _ _ hu, State.reg_setReg_other]
  · simpa [State.reg_eq _ _ hu, State.reg_setReg_other] using hk

theorem State.commitSlot_journal (s : State) (k e : Nat) :
    (s.commitSlot k e).rope.journal = s.rope.journal.filter (fun i => decide ((s.slot k).invSeq ≤ i.seqNo)) := by
  unfold State.commitSlot State.setSlot
  split <;> rfl

/-- The slot that a COMMIT names is the first usable one of its epoch. -/
theorem State.find_slot {s : State} {k e : Nat} (hk : k < 2) (husable : s.usable (s.slot k) = true) (hepoch : (s.slot k).epoch = e)
    (hfirst : k = 0 ∨ (s.slot 0).epoch ≠ e) :
    (List.range 2).find? (fun j => s.usable (s.slot j) && (s.slot j).epoch = e) = some k := by
  rw [List.find?_range_eq_some]
  refine ⟨by rw [husable, hepoch, decide_eq_true rfl]; rfl, List.mem_range.2 hk, fun j hj => ?_⟩
  obtain rfl : j = 0 := by omega
  have hne : (s.slot 0).epoch ≠ e := hfirst.resolve_left (by omega)
  rw [decide_eq_false hne, Bool.and_false]
  rfl

/-- COMMIT commits the slot that it finds, in the slots and the journal as they were. -/
theorem State.takeCommit_found {s : State} {b : List Nat} {k : Nat}
    (h : (List.range 2).find? (fun j => s.usable (s.slot j) && (s.slot j).epoch = leAt b 4 8) = some k) :
    ∃ v : State, s.takeCommit b = v.commitSlot k (leAt b 4 8) ∧ v.slot k = s.slot k ∧ v.rope.journal = s.rope.journal := by
  unfold State.takeCommit
  extract_lets e sReplays late _ sBurst
  have hfind : (List.range 2).find? (fun j => sBurst.usable (sBurst.slot j) && (sBurst.slot j).epoch = e) = some k := h
  rw [hfind]
  exact ⟨sBurst, rfl, rfl, rfl⟩

/-! ### The cells that a member takes (R285) -/

/-- The delivered cells left after one is taken. -/
def State.cellsLeft (s : State) (r : List (Nat × Cell)) : State := { s with bcl := { s.bcl with cells := r } }

/-- A member that has noted a MARK (R279). -/
def State.marked (s : State) : State := { s with rope := { s.rope with lastMark := s.acyc } }

theorem State.takeMark_eq (s : State) (b : List Nat) : s.takeMark b =
    if leAt b 4 8 = s.epochNow then s.marked else s.marked.moduleFault 5 Code.schRopeTime 0 (leAt b 4 8) true := rfl

section Cells
variable {s : State} {p : Nat} {c : Cell} {r : List (Nat × Cell)} (hcells : s.bcl.cells = (p, c) :: r)
include hcells

/-- The first delivered cell is taken where it passes the test. -/
theorem State.takeCell_first {test : Cell → Bool} (h : test c = true) : s.takeCell test = some ((p, c), s.cellsLeft r) := by
  rw [State.takeCell, hcells, State.takeCell.go, if_pos h, Option.map_some, State.cellsLeft]

theorem State.nextEpoch_first {sub : Nat} (htype : c.type = 1) (hsub : leAt c.body 0 1 = sub)
    (hanchor : [1, 2, 3, 5, 6, 7].contains sub = true) : s.nextEpoch sub = some (c, s.cellsLeft r) := by
  have htest : anchorCell c = true := by rw [anchorCell, htype, hsub, hanchor]; rfl
  simp only [State.nextEpoch, State.takeCell_first hcells htest, hsub, if_true]

theorem State.serveEpoch_first {sub : Nat} (htype : c.type = 1) (hsub : leAt c.body 0 1 = sub)
    (hanchor : [1, 2, 3, 5, 6, 7].contains sub = true) : s.serveEpoch sub = (s.cellsLeft r).takeEpoch c := by
  simp only [State.serveEpoch, State.nextEpoch_first hcells htype hsub hanchor]

/-! ### START, MARK, INVOKE, CLEAR and ANNOUNCE (R283 to R290) -/

theorem execStart_ready (slack : BitVec 32) (htype : c.type = 1) (hsub : leAt c.body 0 1 = 2) (hstate : s.ropeState = 3) :
    ∃ t, execStart slack s = .next t ∧ t.rope.start = some
      ⟨leAt c.body 4 8, leAt c.body 12 8, optEpoch (leAt c.body 20 8), leAt c.body 28 1, leAt c.body 29 1,
        bitOf (leAt c.body 1 1) 0, leAt c.body 30 1⟩ ∧ t.bcl.cells = r := by
  have htake : (s.cellsLeft r).takeEpoch c = (s.cellsLeft r).takeStart c.body := by simp only [State.takeEpoch, hsub]
  have hkeeps : ((s.cellsLeft r).takeStart c.body).bcl = (s.cellsLeft r).bcl :=
    Part.same_of_mask .bcl (State.takeStart_parts (M := 4259848) ..) (by decide)
  have hstate' : (s.cellsLeft r).ropeState = 3 := hstate
  refine ⟨(s.cellsLeft r).takeStart c.body, ?_, ?_, by rw [hkeeps]; rfl⟩
  · simp only [execStart, State.nextEpoch_first hcells htype hsub rfl, htake]
  · rw [State.takeStart, hstate', if_neg (fun h => h rfl)]

theorem execMark_noted (htype : c.type = 1) (hsub : leAt c.body 0 1 = 1) :
    ∃ t, execMark s = .next t ∧ t.rope.lastMark = s.acyc ∧ (leAt c.body 4 8 = s.epochNow → t.reports = s.reports) ∧
      (leAt c.body 4 8 ≠ s.epochNow → s.reports1 t Code.schRopeTime) := by
  have htake : (s.cellsLeft r).takeEpoch c = (s.cellsLeft r).takeMark c.body := by simp only [State.takeEpoch, hsub]
  refine ⟨_, by rw [execMark, State.serveEpoch_first hcells htype hsub rfl, htake], ?_⟩
  have hnow : (s.cellsLeft r).epochNow = s.epochNow := rfl
  rw [State.takeMark_eq, hnow]
  by_cases h : leAt c.body 4 8 = s.epochNow
  · rw [if_pos h]
    exact ⟨rfl, fun _ => rfl, fun hne => absurd h hne⟩
  · rw [if_neg h]
    exact ⟨rfl, fun heq => absurd heq h, fun _ => State.reports1_moduleFault _ _ _ _ _ _ _ rfl⟩

theorem execClear_cleared (htype : c.type = 1) (hsub : leAt c.body 0 1 = 5) :
    ∃ t, execClear s = .next t ∧ t.reg F.BC_ROPE_CLEAR_CLEAR = leAt c.body 4 8 % 2 ^ 64 ∧ t.rope = s.rope ∧ t.bcl.cells = r := by
  have htake : (s.cellsLeft r).takeEpoch c = (s.cellsLeft r).takeClear c.body := by simp only [State.takeEpoch, hsub]
  refine ⟨_, by rw [execClear, State.serveEpoch_first hcells htype hsub rfl, htake], ?_⟩
  exact ⟨State.reg_setReg_same _ F.BC_ROPE_CLEAR_CLEAR _ 0 0, rfl, rfl⟩

theorem execInvoke_taken (htype : c.type = 1) (hsub : leAt c.body 0 1 = 3) (hstate : s.ropeState = 4) :
    ∃ t, execInvoke s = .next t ∧ t.rope.journal = s.rope.journal ++ [invocationOf c.body] ∧
      t.rope.nextSeq = leAt c.body 4 8 + 1 ∧
      (s.acyc + 4096 ≤ leAt c.body 12 8 → t.reports = s.reports ∧ t.invq = s.invq ++ [invocationOf c.body]) ∧
      (leAt c.body 12 8 < s.acyc + 4096 → t.invq = s.invq ∧ s.reports1 t Code.schInvokeLate) := by
  have hnow : (s.cellsLeft r).acyc = s.acyc := rfl
  refine ⟨_, by rw [execInvoke, State.serveEpoch_first hcells htype hsub rfl, State.takeEpoch_invoke _ hsub], ?_⟩
  rw [State.takeInvoke_running (s := s.cellsLeft r) c hstate, hnow]
  by_cases h : leAt c.body 12 8 < s.acyc + 4096
  · rw [if_pos h]
    exact ⟨rfl, rfl, fun hle => absurd h (Nat.not_lt.2 hle), fun _ => ⟨rfl, State.reports1_moduleFault _ _ _ _ _ _ _ rfl⟩⟩
  · rw [if_neg h]
    exact ⟨rfl, rfl, fun _ => ⟨rfl, rfl⟩, fun hlt => absurd hlt h⟩

theorem execAnnounce_kept (htype : c.type = 3) (hsub : leAt c.body 0 1 = 2) (hstate : s.ropeState = 4)
    (h : s.acyc ≤ leAt c.body 4 8) : ∃ t, execAnnounce s = .next t ∧
      t.pw.anns = s.pw.anns ++ [(leAt c.body 4 8, leAt c.body 1 1)] ∧ t.reports = s.reports := by
  have hstate' : (s.cellsLeft r).ropeState = 4 := hstate
  have hsoon : ¬ leAt c.body 4 8 < (s.cellsLeft r).acyc := Nat.not_lt.2 h
  refine ⟨(((s.cellsLeft r).setReg F.BC_ROPE_RATIO_FLOOR (leAt c.body 2 1)).announced (leAt c.body 4 8) (leAt c.body 1 1)), ?_,
    rfl, rfl⟩
  rw [execAnnounce, State.takeCell_first hcells (by simp [htype, hsub])]
  simp only [hstate', hsoon, ne_eq, not_true_eq_false, if_false]

theorem execAnnounce_late (htype : c.type = 3) (hsub : leAt c.body 0 1 = 2) (hstate : s.ropeState = 4)
    (h : leAt c.body 4 8 < s.acyc) : ∃ t, execAnnounce s = .next t ∧ t.pw = s.pw ∧ s.reports1 t Code.schRatioLate := by
  have hstate' : (s.cellsLeft r).ropeState = 4 := hstate
  have hlate : leAt c.body 4 8 < (s.cellsLeft r).acyc := h
  refine ⟨(s.cellsLeft r).moduleFault 5 Code.schRatioLate 0 (leAt c.body 4 8) true, ?_, rfl,
    State.reports1_moduleFault _ _ _ _ _ _ _ rfl⟩
  rw [execAnnounce, State.takeCell_first hcells (by simp [htype, hsub])]
  simp only [hstate', hlate, ne_eq, not_true_eq_false, if_false, if_true]

theorem execCommit_committed {k : Nat} (htype : c.type = 1) (hsub : leAt c.body 0 1 = 6) (hk : k < 2)
    (husable : s.usable (s.slot k) = true) (hepoch : (s.slot k).epoch = leAt c.body 4 8)
    (hfirst : k = 0 ∨ (s.slot 0).epoch ≠ leAt c.body 4 8) (he : leAt c.body 4 8 < 2 ^ 32) :
    ∃ t, execCommit s = .next t ∧
      (t.slot k).commit = some (leAt c.body 4 8) ∧ (t.slot k).content = (s.slot k).content ∧
      t.reg F.BC_ROPE_CKP_COMMITTED = leAt c.body 4 8 ∧ t.reg F.BC_ROPE_CKP_CVALID = 1 ∧ t.reg F.BC_ROPE_CKP_CSLOT = k ∧
      t.rope.journal = s.rope.journal.filter (fun i => decide ((s.slot k).invSeq ≤ i.seqNo)) := by
  have htake : (s.cellsLeft r).takeEpoch c = (s.cellsLeft r).takeCommit c.body := by simp only [State.takeEpoch, hsub]
  have hfind : (List.range 2).find? (fun j => (s.cellsLeft r).usable ((s.cellsLeft r).slot j) &&
      ((s.cellsLeft r).slot j).epoch = leAt c.body 4 8) = some k := State.find_slot hk husable hepoch hfirst
  obtain ⟨v, hcommit, hslot, hjournal⟩ := State.takeCommit_found hfind
  obtain ⟨hepochAt, hcontent⟩ := v.commitSlot_slot k (leAt c.body 4 8)
  obtain ⟨hcommitted, hvalid, hkept⟩ := v.commitSlot_regs hk he
  refine ⟨_, by rw [execCommit, State.serveEpoch_first hcells htype hsub rfl, htake, hcommit], hepochAt,
    hcontent.trans (congrArg _ hslot), hcommitted, hvalid, hkept, ?_⟩
  rw [v.commitSlot_journal, hslot, hjournal]
  rfl

end Cells

/-! ### TIME and its absence (R276, R279) -/

/-- The time of day that a TIME brings is kept in TEL_TOD. -/
theorem State.takeTod_rope_reg (s : State) (ns : Nat) {f : Fld} (hf : f.key 0 0 / 64 = 0x308) :
    (s.takeTod ns).reg f = s.reg f := by
  refine State.reg_of_listed ?_
  have hset : ∀ (s : State) (g : Fld) (v : Nat), g.key 0 0 / 64 = 0x50110 →
      SMap.get 0 (s.setReg g v).regs (f.key 0 0) = SMap.get 0 s.regs (f.key 0 0) :=
    fun s g v hg => State.setReg_listed_offset s g v 0 0 (by omega)
  unfold State.takeTod
  split
  · rfl
  · simp (disch := decide) only [hset]

theorem State.takeTod_keeps (s : State) (ns : Nat) :
    (s.takeTod ns).rope = s.rope ∧ (s.takeTod ns).ref = s.ref ∧ (s.takeTod ns).reports = s.reports := by
  have h := State.takeTod_parts (M := 524296) s ns
  exact ⟨Part.same_of_mask .rope h (by decide), Part.same_of_mask .ref h (by decide), Part.same_of_mask .reports h (by decide)⟩

/-- A member that has heard a TIME cell at this refcycle (R279). -/
def State.heard (s : State) : State := { s with rope := { s.rope with lastTime := s.ref + 1 } }

/-- A member that has taken a TIME cell (R276, R513). -/
def State.timed (s : State) (r : List (Nat × Cell)) (ns : Nat) : State := (s.cellsLeft r).heard.takeTod ns

theorem State.timed_keeps (s : State) (r : List (Nat × Cell)) (ns : Nat) :
    (s.timed r ns).rope = { s.rope with lastTime := s.ref + 1 } ∧ (s.timed r ns).ref = s.ref ∧
    (s.timed r ns).reports = s.reports := State.takeTod_keeps (s.cellsLeft r).heard ns

theorem State.timed_rope_regs (s : State) (r : List (Nat × Cell)) (ns : Nat) {f : Fld} (hf : f.key 0 0 / 64 = 0x308) :
    (s.timed r ns).reg f = s.reg f := (State.takeTod_rope_reg _ ns hf).trans rfl

theorem State.timed_rt (s : State) (r : List (Nat × Cell)) (ns : Nat) : (s.timed r ns).rt = s.rt := by
  obtain ⟨hrope, href, -⟩ := s.timed_keeps r ns
  rw [State.rt, hrope, href]
  rfl

theorem State.timed_inRope (s : State) (r : List (Nat × Cell)) (ns : Nat) :
    (s.timed r ns).solo = s.solo ∧ (s.timed r ns).inRope = s.inRope := by
  have hreg : ∀ f : Fld, f.key 0 0 / 64 = 0x308 → (s.timed r ns).reg f = s.reg f := fun f hf => s.timed_rope_regs r ns hf
  have hsolo : (s.timed r ns).solo = s.solo := by rw [State.solo, hreg _ (by decide)]; rfl
  refine ⟨hsolo, ?_⟩
  rw [State.inRope, hsolo, State.ropeIdle, hreg _ (by decide)]
  rfl

/-- What the rope time that a TIME cell brings does (R276, R279). -/
def State.takeTime (s : State) (want : Nat) : State :=
  if s.solo then s
  else if s.reg F.BC_ROPE_STATUS_STATE = 1 then
    { s with rope := { s.rope with rtOff := (want + 2 ^ 64 - 64 * s.ref % 2 ^ 64) % 2 ^ 64 } }
  else if !s.inRope then s
  else
    let d := (s.rt + 2 ^ 64 - want) % 2 ^ 64
    if d ≤ 64 ∨ 2 ^ 64 ≤ d + 64 then s else s.moduleFault 5 Code.schRopeTime 0 d true

theorem execTime_first {s : State} {p : Nat} {c : Cell} {r : List (Nat × Cell)} {want : Nat} (hcells : s.bcl.cells = (p, c) :: r)
    (htype : c.type = 2)
    (hwant : want = (leAt c.body 0 8 + s.reg F.HX_LAT_RTT (s.reg F.BC_ROPE_STATUS_TPORT) * 256 / 125) % 2 ^ 64) :
    execTime s = .next ((s.timed r (leAt c.body 8 8)).takeTime want) := by
  have hcell : s.takeCell (fun c => c.type = 2) = some ((p, c), s.cellsLeft r) := State.takeCell_first hcells (by simp [htype])
  rw [execTime, hcell, hwant]
  simp only [State.takeTime, apply_ite Host.Outcome.next]
  rfl

/-- The offset of a count that reaches a value modulo `N`. -/
theorem offset_mod {N w : Nat} (x : Nat) (hw : w < N) : ((w + N - x % N) % N + x) % N = w := by
  have hx : x % N < N := Nat.mod_lt _ (by omega)
  have hsum : w + N - x % N + x % N = w + N := by omega
  rw [Nat.mod_add_mod, ← Nat.add_mod_mod, hsum, Nat.add_mod_right, Nat.mod_eq_of_lt hw]

/-- The rope time with an offset to the refcycle count. -/
def State.withOffset (s : State) (off : Nat) : State := { s with rope := { s.rope with rtOff := off } }

theorem State.withOffset_rt (s : State) (off : Nat) : (s.withOffset off).rt = (off + 64 * s.ref) % 2 ^ 64 := by
  have hoff : (s.withOffset off).rope.rtOff = off := rfl
  have href : (s.withOffset off).ref = s.ref := rfl
  rw [State.rt, hoff, href]

theorem State.withOffset_lastTime (s : State) (off : Nat) : (s.withOffset off).rope.lastTime = s.rope.lastTime := rfl

/-- In PREPARE the rope time is set. -/
theorem State.takeTime_prepare {s : State} (want : Nat) (hsolo : s.solo = false) (hstate : s.reg F.BC_ROPE_STATUS_STATE = 1) :
    s.takeTime want = s.withOffset ((want + 2 ^ 64 - 64 * s.ref % 2 ^ 64) % 2 ^ 64) := by
  simp only [State.takeTime, State.withOffset, hsolo, hstate, Bool.false_eq_true, if_false, if_true]

/-- Later it is compared only. -/
theorem State.takeTime_compared {s : State} {want : Nat} (hsolo : s.solo = false) (hstate : s.reg F.BC_ROPE_STATUS_STATE ≠ 1) :
    (s.takeTime want).rope = s.rope ∧ (s.takeTime want).ref = s.ref ∧
    (s.inRope = false → (s.takeTime want).reports = s.reports) ∧
    (s.inRope = true → 64 < (s.rt + 2 ^ 64 - want) % 2 ^ 64 ∧ (s.rt + 2 ^ 64 - want) % 2 ^ 64 + 64 < 2 ^ 64 →
      s.reports1 (s.takeTime want) Code.schRopeTime) ∧
    ((s.rt + 2 ^ 64 - want) % 2 ^ 64 ≤ 64 → (s.takeTime want).reports = s.reports) := by
  have hcompared : s.takeTime want = if !s.inRope then s
      else if (s.rt + 2 ^ 64 - want) % 2 ^ 64 ≤ 64 ∨ 2 ^ 64 ≤ (s.rt + 2 ^ 64 - want) % 2 ^ 64 + 64 then s
      else s.moduleFault 5 Code.schRopeTime 0 ((s.rt + 2 ^ 64 - want) % 2 ^ 64) true := by
    simp only [State.takeTime, hsolo, hstate, Bool.false_eq_true, if_false]
  rw [hcompared]
  generalize (s.rt + 2 ^ 64 - want) % 2 ^ 64 = d
  cases hin : s.inRope with
  | false => exact ⟨rfl, rfl, fun _ => rfl, fun h => absurd h (by decide), fun _ => rfl⟩
  | true =>
    rw [if_neg (by decide)]
    by_cases hd : d ≤ 64 ∨ 2 ^ 64 ≤ d + 64
    · rw [if_pos hd]
      exact ⟨rfl, rfl, fun _ => rfl, fun _ h => absurd hd (by omega), fun _ => rfl⟩
    · rw [if_neg hd]
      exact ⟨rfl, rfl, fun h => absurd h (by decide), fun _ _ => State.reports1_moduleFault _ _ _ _ _ _ _ rfl,
        fun h => absurd (Or.inl h) hd⟩

section Time
variable {s : State} {p : Nat} {c : Cell} {r : List (Nat × Cell)} {want : Nat} (hcells : s.bcl.cells = (p, c) :: r)
  (htype : c.type = 2) (hsolo : s.solo = false)
  (hwant : want = (leAt c.body 0 8 + s.reg F.HX_LAT_RTT (s.reg F.BC_ROPE_STATUS_TPORT) * 256 / 125) % 2 ^ 64)
include hcells htype hsolo hwant

theorem execTime_prepare (hstate : s.reg F.BC_ROPE_STATUS_STATE = 1) :
    ∃ t, execTime s = .next t ∧ t.rt = want ∧ t.rope.lastTime = s.ref + 1 := by
  obtain ⟨hrope, -, -⟩ := s.timed_keeps r (leAt c.body 8 8)
  obtain ⟨hTsolo, -⟩ := s.timed_inRope r (leAt c.body 8 8)
  have hTstate : (s.timed r (leAt c.body 8 8)).reg F.BC_ROPE_STATUS_STATE = 1 := (s.timed_rope_regs r _ (by decide)).trans hstate
  have hlt : want < 2 ^ 64 := hwant.trans_lt (Nat.mod_lt _ (Nat.two_pow_pos 64))
  refine ⟨_, execTime_first hcells htype hwant, ?_, ?_⟩
  · rw [State.takeTime_prepare want (hTsolo.trans hsolo) hTstate, State.withOffset_rt, offset_mod _ hlt]
  · rw [State.takeTime_prepare want (hTsolo.trans hsolo) hTstate, State.withOffset_lastTime, hrope]

theorem execTime_compared (hstate : s.reg F.BC_ROPE_STATUS_STATE ≠ 1) :
    ∃ t, execTime s = .next t ∧ t.rt = s.rt ∧ t.rope.lastTime = s.ref + 1 ∧
      (s.inRope = false → t.reports = s.reports) ∧
      (s.inRope = true → 64 < (s.rt + 2 ^ 64 - want) % 2 ^ 64 ∧ (s.rt + 2 ^ 64 - want) % 2 ^ 64 + 64 < 2 ^ 64 →
        s.reports1 t Code.schRopeTime) ∧
      ((s.rt + 2 ^ 64 - want) % 2 ^ 64 ≤ 64 → t.reports = s.reports) := by
  obtain ⟨hrope, href, hreports⟩ := s.timed_keeps r (leAt c.body 8 8)
  obtain ⟨hTsolo, hTrope⟩ := s.timed_inRope r (leAt c.body 8 8)
  have hTrt := s.timed_rt r (leAt c.body 8 8)
  have hTstate : (s.timed r (leAt c.body 8 8)).reg F.BC_ROPE_STATUS_STATE ≠ 1 := by rwa [s.timed_rope_regs r _ (by decide)]
  obtain ⟨hkeeps, hrefKept, hout, hfar, hnear⟩ := State.takeTime_compared (want := want) (hTsolo.trans hsolo) hTstate
  simp only [hTrope, hTrt, State.reports1, hreports] at hout hfar hnear
  refine ⟨_, execTime_first hcells htype hwant, ?_, ?_, hout, hfar, hnear⟩
  · exact (by rw [State.rt, State.rt, hkeeps, hrefKept] : _ = (s.timed r (leAt c.body 8 8)).rt).trans hTrt
  · rw [hkeeps, hrope]

end Time

/-- TIME_MISSING reports where three TIME intervals have passed since the last cell, or before the first since FORM. -/
theorem execTimeMissing_reported {s : State} (hrope : s.inRope = true) (hanchor : s.isAnchor = false)
    (hpassed : s.rope.lastTime ≠ 0 ∧ s.rope.lastTime + 196608 ≤ s.ref + 1 ∨
      s.rope.lastTime = 0 ∧ s.rope.waitFrom + 196608 ≤ s.ref) :
    ∃ t, execTimeMissing s = .next t ∧ s.reports1 t Code.schRopeTime ∧ t.rope.lastTime = s.ref + 1 := by
  have hlate : ¬ s.ref < (if s.rope.lastTime = 0 then s.rope.waitFrom else s.rope.lastTime - 1) + 196608 := by
    split <;> omega
  refine ⟨s.heard.moduleFault 5 Code.schRopeTime 0 0 true, ?_, State.reports1_moduleFault _ _ _ _ _ _ _ rfl, rfl⟩
  rw [execTimeMissing, if_neg (by simp [hrope, hanchor, Nat.not_lt.1 hlate])]
  rfl

/-! ### A cell on its way from Base Camp to port 0 (R263, R264) -/

theorem State.ringFlow_ring (s : State) (stop ch : Nat) : (s.ringFlow stop ch).bcl.ring = s.bcl.ring := rfl

/-- OFF and ON of a stop leave those of the other stops. -/
theorem State.ringFlow_isOff (s : State) {stop stop' : Nat} (ch : Nat) (hne : stop' ≠ stop) (hlt : stop' < 7) :
    (s.ringFlow stop ch).ringIsOff stop' 0 ch = s.ringIsOff stop' 0 ch := by
  have h0 : ringKey stop' 0 ch ≠ ringKey stop 0 ch := by simp only [ringKey]; omega
  have h1 : ringKey stop' 0 ch ≠ ringKey stop 1 ch := by simp only [ringKey]; omega
  simp only [State.ringFlow, State.ringIsOff, List.foldl_cons, List.foldl_nil, SMap.get_set_other _ _ _ _ _ h0,
    SMap.get_set_other _ _ _ _ _ h1]

/-- One item is all that the ring carries, what is beside the ring is as in `u`, and the listed stops do not send OFF. -/
structure State.Carries (u s : State) (x : RingItem) (ahead : List Nat) : Prop where
  ring : s.bcl.ring = [x]
  same : s.mask 262144 = u.mask 262144
  room : ∀ stop ∈ ahead, s.ringIsOff stop 0 4 = false

/-- The only item moves on where the next stop does not send OFF. -/
theorem State.Carries.move {u s : State} {x : RingItem} {next : Nat} {ahead : List Nat} (h : u.Carries s x (next :: ahead))
    (hch : x.load.ch = 4) (hlane : x.lane = 0) (hstop : x.stop ≠ x.to_) (hnext : ringNext x.stop x.to_ = (next, false))
    (hahead : ∀ stop ∈ ahead, stop ≠ x.stop ∧ stop ≠ next ∧ stop < 7) (n : Nat) :
    ∃ v, s.ringRun (n + 1) = v.ringRun n ∧ u.Carries v { x with stop := next } ahead := by
  have hmoves : s.ringMoves x = true := by
    simp only [State.ringMoves, hnext, hlane, hch, h.room next List.mem_cons_self, Bool.false_eq_true, if_false, Bool.not_false,
      Bool.or_true]
  refine ⟨s.ringMove x [], ?_, ?_⟩
  · rw [State.ringRun, h.ring, takeFirst, hmoves]
    rfl
  · have hmove : ∃ v : State, s.ringMove x [] = (v.ringFlow x.stop 4).ringFlow next 4 ∧ v.bcl.ring = [{ x with stop := next }] ∧
        v.mask 262144 = s.mask 262144 ∧ v.bcl.ringOff = s.bcl.ringOff := by
      simp only [State.ringMove, if_neg hstop, hnext, hch]
      exact ⟨_, rfl, by simp only [hlane]; rfl, rfl, rfl⟩
    obtain ⟨v, hv, hring, hsame, hoff⟩ := hmove
    rw [hv]
    refine ⟨hring, ?_, fun stop hs => ?_⟩
    · exact ((State.ringFlow_parts ..).trans (State.ringFlow_parts ..)).trans (hsame.trans h.same)
    · obtain ⟨hne, hne', hlt⟩ := hahead stop hs
      rw [State.ringFlow_isOff _ _ hne' hlt, State.ringFlow_isOff _ _ hne hlt, State.ringIsOff, hoff]
      exact h.room stop (List.mem_cons_of_mem _ hs)

theorem State.ringRun_empty {s : State} (h : s.bcl.ring = []) (n : Nat) : s.ringRun n = s := by
  cases n with
  | zero => rfl
  | succ n => rw [State.ringRun, h]; rfl

/-- The state with an empty ring. -/
def State.ringCleared (s : State) : State := { s with bcl := { s.bcl with ring := [] } }

/-- At the stop of its port, which is UP, the item joins the queue. -/
theorem State.Carries.leave {u s : State} {x : RingItem} (h : u.Carries s x []) (hstop : x.stop = 0) (hto : x.to_ = 0)
    (hfrom : x.from_ = 6) (hch : x.load.ch = 4) (hup : u.portUp 0 = true) (n : Nat) :
    (s.ringRun (n + 1)).ports = (u.enqueue 0 4 x.load.bytes).ports := by
  have hmoves : s.ringMoves x = true := by simp [State.ringMoves, hstop, hto]
  have hcleared : s.ringCleared.portUp 0 = true := by
    have hsame : s.ringCleared.mask 262144 = u.mask 262144 := h.same
    rw [State.portUp, State.portState, State.reg_of_mask F.HX_STATUS_STATE 0 0 hsame]
    exact hup
  have hleave : s.ringCleared.ringLeave x = s.ringCleared.enqueue 0 4 x.load.bytes := by
    simp only [State.ringLeave, State.passed, hto, hfrom, hch, hcleared, if_true, Nat.lt_irrefl, decide_false, if_false,
      OfNat.zero_ne_ofNat]
  have hmove : s.ringMove x [] = (s.ringCleared.enqueue 0 4 x.load.bytes).ringFlow 0 4 := by
    rw [← hleave]
    simp only [State.ringMove, hstop, hto, hch, if_true]
    rfl
  have hrun : s.ringRun (n + 1) = (s.ringCleared.enqueue 0 4 x.load.bytes).ringFlow 0 4 := by
    rw [← hmove, State.ringRun, h.ring, takeFirst, hmoves]
    exact State.ringRun_empty (by rw [hmove]; rfl) n
  have hports : s.ports = u.ports := Part.same_of_mask .ports h.same (by decide)
  have hacyc : s.acyc = u.acyc := Part.same_of_mask .acyc h.same (by decide)
  rw [hrun]
  show (s.enqueue 0 4 x.load.bytes).ports = _
  unfold State.enqueue State.updPort
  rw [hports, hacyc]

/-- What Base Camp puts on an empty, open ring for port 0, which is UP, joins its queue. -/
theorem State.ringPut_portZero {s : State} {l : Load} (hring : s.bcl.ring = []) (hopen : ∀ k, s.bcl.ringOff.get false k = false)
    (hch : l.ch = 4) (hup : s.portUp 0 = true) : ((s.ringPut 6 0 l).ringGo).ports = (s.enqueue 0 4 l.bytes).ports := by
  have hput : s.Carries (s.ringPut 6 0 l) ⟨6, 0, 6, 0, l⟩ [3, 0] := by
    refine ⟨by rw [State.ringPut, State.ringFlow_ring, hring]; rfl, State.ringPut_parts .., fun stop hs => ?_⟩
    have hne : stop ≠ 6 ∧ stop < 7 := by
      rcases List.mem_pair.1 hs with rfl | rfl <;> decide
    rw [State.ringPut, hch, State.ringFlow_isOff _ 4 hne.1 hne.2]
    exact hopen _
  have hnext6 : ringNext 6 0 = (3, false) := by decide
  have hnext3 : ringNext 3 0 = (0, false) := by decide
  have hahead : ∀ stop ∈ [0], stop ≠ 6 ∧ stop ≠ 3 ∧ stop < 7 := by decide
  obtain ⟨v, hrun, hv⟩ := hput.move hch rfl (Nat.succ_ne_zero 5) hnext6 hahead 7
  obtain ⟨w, hrun', hw⟩ := hv.move hch rfl (Nat.succ_ne_zero 2) hnext3 (List.forall_mem_nil _) 6
  have hgo : (s.ringPut 6 0 l).ringGo = (s.ringPut 6 0 l).ringRun 8 := by rw [State.ringGo, hput.ring]; rfl
  rw [hgo, hrun, hrun']
  exact hw.leave rfl rfl rfl hch hup 5

/-! ### TIME_SEND (R276) -/

theorem execTimeSend_outside {s : State} (h : s.inRope = false) : execTimeSend s = .next s := by
  rw [execTimeSend, h]
  rfl

theorem State.enqueue_queue (s : State) (p ch : Nat) (bs : List Nat) :
    ((s.enqueue p ch bs).port p).queue ch = (s.port p).queue ch ++ [⟨bs, 0, s.acyc, false, false⟩] := by
  simp only [State.enqueue, State.updPort, State.port, HxPort.queue, SMap.upd, SMap.get_set_same]

/-- A cell's number is used up. -/
def State.cellNumbered (s : State) : State := { s with bcl := { s.bcl with nextCell := (s.bcl.nextCell + 1) % 2 ^ 16 } }

section SendCell
variable {s : State} {dst n : Nat} (hring : s.bcl.ring = []) (hopen : ∀ k, s.bcl.ringOff.get false k = false)
  (htopo : s.reg F.HX_TOPO_VALID = 1) (hin : s.inTorus dst = true) (hne : dst ≠ s.own) (hx : coordOf dst 0 ≠ coordOf s.own 0)
  (hn : n = s.ringSize 0) (hup : (coordOf dst 0 + n - coordOf s.own 0) % n ≤ n - (coordOf dst 0 + n - coordOf s.own 0) % n)
  (hwrap : coordOf s.own 0 + 1 ≠ n) (hport : s.portUp 0 = true) (type : Nat) (body : List Nat)
include htopo hin hne hx hn hup hwrap

/-- A cell to a module ahead in X, on the shorter way up and not over the wraparound link, goes to port 0 on VC0 (R257, R258). -/
theorem State.sendCell_up : s.sendCell dst type body = (s.cellNumbered.ringPut 6 0 (.cell ⟨false, dst, s.own, type, 0, 0,
    (coordOf dst 0 + n - coordOf s.own 0) % n - 1, s.bcl.nextCell, body⟩)).ringGo := by
  have hown : s.cellNumbered.own = s.own := rfl
  have hsize : s.cellNumbered.ringSize 0 = n := hn.symm
  have hdim : (List.range 3).find? (fun k => decide (0 ≤ k) && coordOf dst k ≠ coordOf s.own k) = some 0 := by
    simp [List.range_succ, hx]
  have hstart : s.sendCell dst type body =
      s.cellNumbered.cellStart 6 0 ⟨false, dst, s.own, type, 0, 0, 0, s.bcl.nextCell, body⟩ := by
    have hgo : (s.cellNumbered.reg F.HX_TOPO_VALID = 0 || !s.cellNumbered.inTorus dst) = false := by
      rw [show s.cellNumbered.reg F.HX_TOPO_VALID = 1 from htopo, show s.cellNumbered.inTorus dst = true from hin]
      rfl
    have hpattern : s.sendCell dst type body = if dst = s.own
        then s.cellNumbered.deliverCell 6 ⟨false, dst, s.own, type, 0, 0, 0, s.bcl.nextCell, body⟩
        else if s.cellNumbered.reg F.HX_TOPO_VALID = 0 || !s.cellNumbered.inTorus dst then s.cellNumbered.routeErr 0
        else s.cellNumbered.cellStart 6 0 ⟨false, dst, s.own, type, 0, 0, 0, s.bcl.nextCell, body⟩ := rfl
    rw [hpattern, if_neg hne, hgo]
    rfl
  rw [hstart, State.cellStart]
  simp only [hown, hdim, hsize, hup, if_true]
  rw [State.cellOut]
  simp only [hown, hsize, hwrap, Nat.mul_zero, Nat.zero_mod, Nat.zero_div, if_true, decide_false, Bool.false_eq_true, if_false]

include hring hopen hport

theorem State.sendCell_portZero : ∃ it, ((s.sendCell dst type body).port 0).queue 4 = (s.port 0).queue 4 ++ [it] ∧
    it.bytes = Cell.bytes ⟨false, dst, s.own, type, 0, 0, (coordOf dst 0 + n - coordOf s.own 0) % n - 1, s.bcl.nextCell, body⟩ := by
  have hports := State.ringPut_portZero (s := s.cellNumbered) (l := .cell ⟨false, dst, s.own, type, 0, 0,
    (coordOf dst 0 + n - coordOf s.own 0) % n - 1, s.bcl.nextCell, body⟩) hring hopen rfl hport
  rw [← State.sendCell_up htopo hin hne hx hn hup hwrap] at hports
  have hqueue := State.enqueue_queue s.cellNumbered 0 4 (Cell.bytes ⟨false, dst, s.own, type, 0, 0,
    (coordOf dst 0 + n - coordOf s.own 0) % n - 1, s.bcl.nextCell, body⟩)
  exact ⟨_, by rw [State.port, hports]; exact hqueue, rfl⟩

end SendCell

/-- A parent sends its only child TIME, without a time of day where it has none. -/
theorem execTimeSend_child {s : State} {c n : Nat} (hrope : s.inRope = true) (hring : s.bcl.ring = [])
    (hopen : ∀ k, s.bcl.ringOff.get false k = false) (hchild : s.childCoords = [c]) (htopo : s.reg F.HX_TOPO_VALID = 1)
    (hin : s.inTorus c = true) (hne : c ≠ s.own) (hx : coordOf c 0 ≠ coordOf s.own 0) (hn : n = s.ringSize 0)
    (hup : (coordOf c 0 + n - coordOf s.own 0) % n ≤ n - (coordOf c 0 + n - coordOf s.own 0) % n)
    (hwrap : coordOf s.own 0 + 1 ≠ n) (hport : s.portUp 0 = true) (htod : s.reg F.TEL_TOD_VALID = 0) :
    ∃ t it, execTimeSend s = .next t ∧ (t.port 0).queue 4 = (s.port 0).queue 4 ++ [it] ∧
      it.bytes = Cell.bytes ⟨false, c, s.own, 2, 0, 0, (coordOf c 0 + n - coordOf s.own 0) % n - 1, s.bcl.nextCell,
        bytesLe 8 s.rt ++ bytesLe 8 0⟩ := by
  obtain ⟨it, hqueue, hbytes⟩ := State.sendCell_portZero hring hopen htopo hin hne hx hn hup hwrap hport 2
    (bytesLe 8 s.rt ++ bytesLe 8 0)
  refine ⟨_, it, ?_, hqueue, hbytes⟩
  have hunknown : ¬ s.reg F.TEL_TOD_VALID = 1 := by rw [htod]; decide
  simp only [execTimeSend, hrope, hchild, hunknown, Bool.not_true, Bool.false_eq_true, if_false, decide_false, Bool.false_and,
    List.foldl_cons, List.foldl_nil]

/-! ### The rope state in BC_ROPE_STATUS (R271, R272) -/

/-- The rope state is what BC_ROPE_STATUS shows. -/
theorem State.ropeState_of_listed {s t : State} (h : ∀ k, k / 64 = 0x308 → SMap.get 0 t.regs k = SMap.get 0 s.regs k) :
    t.solo = s.solo ∧ t.ropeState = s.ropeState := by
  have hreg : ∀ f : Fld, f.key 0 0 / 64 = 0x308 → t.reg f = s.reg f := fun f hf => State.reg_of_listed (h _ hf)
  have hsolo : t.solo = s.solo := by rw [State.solo, hreg _ (by decide)]; rfl
  refine ⟨hsolo, ?_⟩
  rw [State.ropeState, hsolo, hreg F.BC_ROPE_STATUS_STATE (by decide), hreg F.BC_ROPE_STATUS_LSTATE (by decide)]
  rfl

theorem State.setRopeState_ropeState {s : State} {v : Nat} (hsolo : s.solo = true → s.reg F.BC_ROPE_STATUS_STATE = 0)
    (hv : v < 16) : (s.setRopeState v).ropeState = v := by
  unfold State.setRopeState
  by_cases h : s.solo = true
  · have hone : s.reg F.BC_ROPE_STATUS_SOLO = 1 := of_decide_eq_true h
    have hzero := hsolo h
    rw [if_pos h]
    simpa [State.ropeState, State.solo, State.reg_setReg_other, hone, hzero] using hv
  · have hne : s.reg F.BC_ROPE_STATUS_SOLO ≠ 1 := fun h' => h (decide_eq_true h')
    rw [if_neg h]
    simpa [State.ropeState, State.solo, State.reg_setReg_other, hne] using hv

/-- The rope state moves in BC_ROPE_STATUS only. -/
theorem State.setRopeState_listed {k : Nat} (hk : k / 64 ≠ 0x308) (s : State) (v : Nat) :
    SMap.get 0 (s.setRopeState v).regs k = SMap.get 0 s.regs k := by
  unfold State.setRopeState
  split
  · exact State.setReg_listed_offset s F.BC_ROPE_STATUS_LSTATE v 0 0 hk
  · exact State.setReg_listed_offset s F.BC_ROPE_STATUS_STATE v 0 0 hk

theorem State.setDivider_listed {k : Nat} (hdiv : k / 64 ≠ 0x20008) (hratio : k / 64 ≠ 0x328) (s : State) (d2 : Nat) :
    SMap.get 0 (s.setDivider d2).regs k = SMap.get 0 s.regs k := by
  simp (disch := decide) only [State.setDivider, State.setReg_divider_listed hdiv hratio]

theorem State.setDivider_current (s : State) (d2 : Nat) : (s.setDivider d2).reg F.CLK_DIV_CURRENT = d2 % 2 ^ 8 := by
  simp [State.setDivider, State.reg_setReg_other]

theorem State.announced_current (s : State) (p target : Nat) :
    (s.announced p target).reg F.CLK_DIV_CURRENT = s.reg F.CLK_DIV_CURRENT := by
  simp [State.announced, State.reg_setReg_other]
  rfl

/-! ### ROPE_START (R156, R283) -/

theorem execRopeStart_early {s : State} {c : StartCell} (hstart : s.rope.start = some c) (h : s.rrc < c.rs) :
    execRopeStart s = .next s := by
  simp only [execRopeStart, hstart, h, decide_true, Bool.or_true, if_true]

/-- A member that begins rope acycle `k0` RUNNING at a divider: BC_ROPE_CLEAR no later than it. -/
def State.runningFrom (s : State) (k0 d2 : Nat) : State :=
  ((s.setReg F.BC_ROPE_CLEAR_CLEAR (min (s.reg F.BC_ROPE_CLEAR_CLEAR) k0)).setRopeState 4).setDivider d2

theorem State.runningFrom_parts (s : State) (k0 d2 : Nat) : (s.runningFrom k0 d2).mask 524296 = s.mask 524296 :=
  (State.setDivider_parts ..).trans ((State.setRopeState_parts ..).trans (State.setReg_parts ..))

theorem State.runningFrom_ropeState {s : State} (k0 d2 : Nat) (hsolo : s.solo = true → s.reg F.BC_ROPE_STATUS_STATE = 0) :
    (s.runningFrom k0 d2).ropeState = 4 := by
  have hcleared : ∀ f : Fld, f.key 0 0 / 64 = 0x308 →
      (s.setReg F.BC_ROPE_CLEAR_CLEAR (min (s.reg F.BC_ROPE_CLEAR_CLEAR) k0)).reg f = s.reg f :=
    fun f hf => State.reg_of_listed (State.setReg_listed_offset s F.BC_ROPE_CLEAR_CLEAR _ 0 0 (by rw [hf]; decide))
  refine (State.ropeState_of_listed fun k hk => State.setDivider_listed (by omega) (by omega) _ d2).2.trans
    (State.setRopeState_ropeState ?_ (by decide))
  rw [State.solo, hcleared _ (by decide), hcleared _ (by decide)]
  exact hsolo

theorem State.runningFrom_clear (s : State) (k0 d2 : Nat) : (s.runningFrom k0 d2).reg F.BC_ROPE_CLEAR_CLEAR ≤ k0 := by
  have hkept : (s.runningFrom k0 d2).reg F.BC_ROPE_CLEAR_CLEAR =
      (s.setReg F.BC_ROPE_CLEAR_CLEAR (min (s.reg F.BC_ROPE_CLEAR_CLEAR) k0)).reg F.BC_ROPE_CLEAR_CLEAR := State.reg_of_listed
    ((State.setDivider_listed (by decide) (by decide) _ d2).trans (State.setRopeState_listed (by decide) _ 4))
  rw [hkept, State.reg_setReg_same]
  exact (Nat.mod_le _ _).trans (Nat.min_le_right _ _)

/-- What an announced target leaves of a member that has begun to run. -/
theorem State.announced_running (s : State) (p target : Nat) : (s.announced p target).ropeState = s.ropeState ∧
    (s.announced p target).reg F.CLK_DIV_CURRENT = s.reg F.CLK_DIV_CURRENT ∧
    (s.announced p target).reg F.BC_ROPE_CLEAR_CLEAR = s.reg F.BC_ROPE_CLEAR_CLEAR := by
  have hlisted : ∀ k, k / 64 ≠ 0x20008 → k / 64 ≠ 0x328 →
      SMap.get 0 (s.announced p target).regs k = SMap.get 0 s.regs k := fun k h h' => State.announced_listed h h' s p target
  exact ⟨(State.ropeState_of_listed fun k hk => hlisted k (by omega) (by omega)).2, State.announced_current s p target,
    State.reg_of_listed (hlisted _ (by decide) (by decide))⟩

/-- A start without a restore: the journal is queued, and the member runs from K0; then the floor is announced. -/
theorem execRopeStart_running {s : State} {c : StartCell} (hstart : s.rope.start = some c) (hstate : s.ropeState = 3)
    (hrs : c.rs ≤ s.rrc) (hrestore : c.restore = none) : ∃ u : State, u.regs = s.regs ∧ u.acyc = c.k0 ∧ u.invq = s.rope.journal ∧
      u.rope.start = none ∧ u.rope.bad = none ∧ (execRopeStart s = .next (u.runningFrom c.k0 c.d2) ∨
        ∃ p, execRopeStart s = .next ((u.runningFrom c.k0 c.d2).announced p c.floor)) := by
  unfold execRopeStart
  split
  case h_1 hnone => rw [hstart] at hnone; cases hnone
  case h_2 c' hc' =>
    obtain rfl : c = c' := Option.some.inj (hstart.symm.trans hc')
    rw [if_neg (by simp [hstate, hrs])]
    extract_lets sRestored inv js ended cut e0 last sKeys _ _ _ sRope sCleared sDiv lead
    have hRestored : sRestored = s := by unfold sRestored; rw [hrestore]
    have hjs : js = s.rope.journal := by
      have hinv : inv = 0 := by unfold inv; rw [hrestore]
      unfold js
      rw [hRestored, hinv]
      exact List.filter_eq_self.2 fun _ _ => decide_eq_true (Nat.zero_le _)
    have hregs : sRope.regs = s.regs := by
      have hKeys : sKeys.regs = sRestored.regs :=
        Part.same_of_mask .regs (State.restartKeys_parts (M := 131072) sRestored c.k0) (by decide)
      rw [← hRestored, ← hKeys]
    refine ⟨sRope, hregs, rfl, hjs, rfl, rfl, ?_⟩
    by_cases hfloor : c.floor = c.d2
    · rw [if_pos hfloor]
      exact Or.inl rfl
    · rw [if_neg hfloor]
      exact Or.inr ⟨_, rfl⟩

theorem execRopeStart_started {s : State} {c : StartCell} (hstart : s.rope.start = some c) (hstate : s.ropeState = 3)
    (hsolo : s.solo = true → s.reg F.BC_ROPE_STATUS_STATE = 0) (hrs : c.rs ≤ s.rrc) (hrestore : c.restore = none) (hd2 : c.d2 < 64) :
    ∃ t, execRopeStart s = .next t ∧ t.acyc = c.k0 ∧ t.ropeState = 4 ∧
      t.rope.start = none ∧ t.invq = s.rope.journal ∧ t.reg F.CLK_DIV_CURRENT = c.d2 ∧
      t.reg F.BC_ROPE_CLEAR_CLEAR ≤ c.k0 ∧ t.rope.bad = none := by
  obtain ⟨u, hregs, hacyc, hinvq, hnone, hbad, hexec⟩ := execRopeStart_running hstart hstate hrs hrestore
  have husolo : u.solo = true → u.reg F.BC_ROPE_STATUS_STATE = 0 := by
    rw [(State.rope_of_regs hregs).1, State.reg_eq s u hregs]
    exact hsolo
  have hsame := u.runningFrom_parts c.k0 c.d2
  have hrun := State.runningFrom_ropeState c.k0 c.d2 husolo
  have hcurrent : (u.runningFrom c.k0 c.d2).reg F.CLK_DIV_CURRENT = c.d2 :=
    (State.setDivider_current _ _).trans (Nat.mod_eq_of_lt (by omega))
  have hclear := u.runningFrom_clear c.k0 c.d2
  generalize u.runningFrom c.k0 c.d2 = v at *
  have hvacyc : v.acyc = c.k0 := (Part.same_of_mask .acyc hsame (by decide) : _ = u.acyc).trans hacyc
  have hvinvq : v.invq = s.rope.journal := (Part.same_of_mask .invq hsame (by decide) : _ = u.invq).trans hinvq
  have hvrope : v.rope = u.rope := Part.same_of_mask .rope hsame (by decide)
  rw [← hvrope] at hnone hbad
  rcases hexec with hexec | ⟨p, hexec⟩
  · exact ⟨v, hexec, hvacyc, hrun, hnone, hvinvq, hcurrent, hclear, hbad⟩
  · obtain ⟨hstate', hcurrent', hclear'⟩ := v.announced_running p c.floor
    exact ⟨_, hexec, hvacyc, hstate'.trans hrun, hnone, hvinvq, hcurrent'.trans hcurrent, hclear'.trans_le hclear, hbad⟩

/-! ### EPOCH_BOUNDARY (R285, R289) -/

theorem execEpochBoundary_same {s : State} (h : s.epochNow ≤ s.rope.epoch) : execEpochBoundary s = .next s := by
  simp only [execEpochBoundary, h, decide_true, Bool.or_true, if_true]

theorem State.bcastCell_epoch (s : State) (type : Nat) (body : List Nat) : (s.bcastCell type body).rope.epoch = s.rope.epoch :=
  congrArg Rope.epoch (Part.same_of_mask .rope (State.bcastCell_parts (M := 33947656) s type body) (by decide))

/-- A MARK that the anchor sends leaves the marked epoch. -/
theorem State.castEpoch_mark (s : State) {b : List Nat} (hsub : leAt (padTo 52 b) 0 1 = 1) :
    (s.castEpoch b).rope.epoch = s.rope.epoch := by
  unfold State.castEpoch
  split
  · have hmark : s.takeEpoch ⟨true, 0, 0, 1, 0, 0, 0, 0, padTo 52 b⟩ = s.takeMark (padTo 52 b) := by
      simp only [State.takeEpoch, hsub]
    rw [hmark, State.takeMark_eq]
    split <;> rfl
  · exact State.bcastCell_epoch ..

theorem State.retarget_epoch (s : State) : s.retarget.rope.epoch = s.rope.epoch := by
  unfold State.retarget
  extract_lets f t p n _
  split
  · rfl
  · split
    · exact State.bcastCell_epoch ..
    · rfl

theorem State.sendRatio_epoch (s : State) : s.sendRatio.rope.epoch = s.rope.epoch :=
  congrArg Rope.epoch (Part.same_of_mask .rope (State.sendRatio_parts (M := 33947656) s) (by decide))

theorem State.request_epoch (s : State) (dst op arg : Nat) (payload : List Nat) :
    (s.request dst op arg payload).rope.epoch = s.rope.epoch :=
  congrArg Rope.epoch (Part.same_of_mask .rope (State.request_parts (M := 33947656) s dst op arg payload) (by decide))

/-- A new epoch is marked once. -/
theorem execEpochBoundary_marked {s : State} (hstate : s.ropeState = 4) (h : s.rope.epoch < s.epochNow) :
    ∃ t, execEpochBoundary s = .next t ∧ t.rope.epoch = s.epochNow := by
  unfold execEpochBoundary
  extract_lets e _ sEpoch sCast kept _ sKept sTold
  have hCast : sCast.rope.epoch = e := State.castEpoch_mark sEpoch rfl
  have hTold : sTold.rope.epoch = e := by
    unfold sTold
    split
    · exact (State.retarget_epoch sKept).trans hCast
    · split
      · rfl
      · exact State.sendRatio_epoch sEpoch
  rw [if_neg (by simp [hstate, e, h])]
  split
  · exact ⟨_, rfl, (State.request_epoch ..).trans hTold⟩
  · exact ⟨_, rfl, hTold⟩

/-! ### What keeps BC_ROPE_STATUS (R272) -/

/-- BC_ROPE_STATUS is of reset domain L4 (R444). -/
theorem findReg_BC_ROPE_STATUS : findReg bar0RegTable 0x308 = some (R.BC_ROPE_STATUS, 0, 0) := rfl

/-- The registers from RST_CAUSE on lie above those of Base Camp. -/
theorem State.setReg_below {k : Nat} (hk : k < 64 * 0x10000) (s : State) (f : Fld) (v i j : Nat) (hf : 0x10000 ≤ f.base) :
    SMap.get 0 (s.setReg f v i j).regs k = SMap.get 0 s.regs k := State.setReg_listed _ _ _ _ _ (by omega)

section BaseCamp
variable {k : Nat} (hk : k < 64 * 0x10000)
include hk

theorem State.satReg_below (s : State) (f : Fld) (i j : Nat) (hf : 0x10000 ≤ f.base) :
    SMap.get 0 (s.satReg f i j).regs k = SMap.get 0 s.regs k := State.satReg_listed _ _ _ _ (by omega)

theorem State.stopLive_below (s : State) (f : Nat) : SMap.get 0 (s.stopLive f).regs k = SMap.get 0 s.regs k := by
  simp (disch := decide) only [State.stopLive, State.refreshStep, State.listed_ite, State.setReg_below hk, State.updField_regs,
    ite_self]

theorem State.clearField_below (s : State) (f lvl : Nat) : SMap.get 0 (s.clearField f lvl).regs k = SMap.get 0 s.regs k := by
  simp (disch := decide) only [State.clearField, State.clearTel, State.setLock, State.listed_ite, State.stopLive_below hk,
    State.setReg_below hk, State.updField_regs, State.mapTiles_regs, ite_self]

theorem State.enterField_below (s : State) (q : RstReq) (f : Nat) :
    SMap.get 0 (s.enterField q f).regs k = SMap.get 0 s.regs k := by
  simp (disch := decide) only [State.enterField, State.listed_ite, State.setReg_below hk, State.satReg_below hk,
    State.clearField_below hk, State.moduleFault_regs, State.invalidate_regs, ite_self]

theorem State.pushHist_below (s : State) (q : RstReq) (merged : Bool) :
    SMap.get 0 (s.pushHist q merged).regs k = SMap.get 0 s.regs k := by
  have hmove : ∀ (n : Nat) (l : List Fld), (∀ f ∈ l, 0x10000 ≤ f.base) → ∀ s : State, SMap.get 0
      (l.foldl (fun s f => s.setReg f (s.reg f 0 (14 - n)) 0 (15 - n)) s).regs k = SMap.get 0 s.regs k := by
    intro n l hl
    induction l with
    | nil => exact fun s => rfl
    | cons f l ih =>
      obtain ⟨hf, hl⟩ := List.forall_mem_cons.1 hl
      exact fun s => (ih hl _).trans (State.setReg_below hk _ _ _ _ _ hf)
  simp (disch := decide) only [State.pushHist, State.setReg_below hk]
  exact State.listed_foldl (fun s n => hmove n _ (by decide) s) _ _

theorem State.setCause_below (s : State) (q : RstReq) (first same all : Bool) (fields : Nat) :
    SMap.get 0 (s.setCause q first same all fields).regs k = SMap.get 0 s.regs k := by
  simp (disch := decide) only [State.setCause, State.listed_ite, State.setReg_below hk, State.satReg_below hk, ite_self]

theorem State.syncRst_below (s : State) : SMap.get 0 s.syncRst.regs k = SMap.get 0 s.regs k := by
  simp (disch := decide) only [State.syncRst, State.setReg_below hk]

end BaseCamp

/-- A member that stays as its abort left it: its rope state, what it restores, and nothing that runs or waits. -/
structure State.StaysAborted (s t : State) : Prop where
  status : ∀ k, k / 64 = 0x308 → SMap.get 0 t.regs k = SMap.get 0 s.regs k
  restore : t.rope.restore = s.rope.restore
  ready : t.rope.ready = s.rope.ready
  bad : t.rope.bad = s.rope.bad
  cur : s.run.cur = none → t.run.cur = none
  invq : s.invq = [] → t.invq = []

namespace State.StaysAborted

theorem refl (s : State) : s.StaysAborted s := ⟨fun _ _ => rfl, rfl, rfl, rfl, id, id⟩

theorem trans {s t u : State} (h : s.StaysAborted t) (h' : t.StaysAborted u) : s.StaysAborted u where
  status k hk := (h'.status k hk).trans (h.status k hk)
  restore := h'.restore.trans h.restore
  ready := h'.ready.trans h.ready
  bad := h'.bad.trans h.bad
  cur := h'.cur ∘ h.cur
  invq := h'.invq ∘ h.invq

theorem ite {s t u : State} (c : Prop) [Decidable c] (h : s.StaysAborted t) (h' : s.StaysAborted u) :
    s.StaysAborted (if c then t else u) := by
  split
  · exact h
  · exact h'

/-- What keeps the rope, the run and the waiting invocations needs to keep BC_ROPE_STATUS. -/
theorem of_mask {m : Nat} {s t : State} (h : t.mask m = s.mask m)
    (hstatus : ∀ k, k / 64 = 0x308 → SMap.get 0 t.regs k = SMap.get 0 s.regs k)
    (hrope : m / 2 ^ Part.rope.bit % 2 = 0 := by decide) (hrun : m / 2 ^ Part.run.bit % 2 = 0 := by decide)
    (hinvq : m / 2 ^ Part.invq.bit % 2 = 0 := by decide) : s.StaysAborted t := by
  have hr : t.rope = s.rope := Part.same_of_mask .rope h hrope
  have hc : t.run = s.run := Part.same_of_mask .run h hrun
  have hq : t.invq = s.invq := Part.same_of_mask .invq h hinvq
  exact ⟨hstatus, by rw [hr], by rw [hr], by rw [hr], fun e => by rw [hc, e], fun e => by rw [hq, e]⟩

/-- A field's entry into a reset may make the running section invalid, and no more. -/
theorem enterField (s : State) (q : RstReq) (f : Nat) : s.StaysAborted (s.enterField q f) := by
  have hrest : (s.enterField q f).mask 1069176 = s.mask 1069176 := State.enterField_parts ..
  have hr : (s.enterField q f).rope = s.rope := Part.same_of_mask .rope hrest (by decide)
  have hq : (s.enterField q f).invq = s.invq := Part.same_of_mask .invq hrest (by decide)
  have hcur : (s.enterField q f).run.cur = s.run.cur := by
    unfold State.enterField
    extract_lets old up cut sCut sClear sState sResets sLevel
    have hLevel : sLevel.mask 120 = sCut.mask 120 := by
      simp only [sLevel, sResets, sState, sClear, State.setReg_parts, State.satReg_parts, State.clearField_parts, mask_ite, ite_self, Nat.reduceAnd]
    have hCut : sCut.run.cur = s.run.cur := by
      unfold sCut
      split <;> rfl
    exact (congrArg Run.cur (Part.same_of_mask .run hLevel (by decide))).trans hCut
  exact ⟨fun k hk => State.enterField_below (by omega) s q f, by rw [hr], by rw [hr], by rw [hr],
    fun e => by rw [hcur, e], fun e => by rw [hq, e]⟩

theorem enterFields (q : RstReq) (l : List (Nat × Nat)) (s : State) :
    s.StaysAborted (l.foldl (fun s t => s.enterField { q with level := t.2 } t.1) s) := by
  induction l generalizing s with
  | nil => exact refl s
  | cons t l ih => exact (enterField s _ _).trans (ih _)

theorem cutInstall (s : State) : s.StaysAborted s.cutInstall := by
  refine of_mask (State.cutInstall_parts (M := 2952) s) fun k hk => ?_
  have hset : ∀ s : State, SMap.get 0 (s.setReg F.BC_IMG_STATUS_STATE 0).regs k = SMap.get 0 s.regs k :=
    fun s => State.setReg_listed_offset s F.BC_IMG_STATUS_STATE 0 0 0 (by rw [hk]; decide)
  simp only [State.cutInstall, State.wipeStaging, State.listed_ite, hset, ite_self]

/-- An L1 of the module empties what runs (R434). -/
theorem clearModule (s : State) : s.StaysAborted (s.clearModule 1) := by
  have hKeys : (s.restartKeys 0).rope = s.rope := Part.same_of_mask .rope (State.restartKeys_parts (M := 131072) s 0) (by decide)
  have hKeysRegs : ∀ k, SMap.get 0 (s.restartKeys 0).regs k = SMap.get 0 s.regs k := fun k => State.restartKeys_listed k s 0
  unfold State.clearModule
  generalize s.restartKeys 0 = t at hKeys hKeysRegs ⊢
  extract_lets sKeys _ sRun sImage _ _ _ sRope sCkp _ sShort
  rw [if_pos (by decide)]
  have hImage : sImage.mask 8 = sRun.mask 8 := by
    unfold sImage
    split
    · exact State.setReg_parts ..
    · rfl
  have hImageRegs : ∀ k, k / 64 = 0x308 → SMap.get 0 sImage.regs k = SMap.get 0 sRun.regs k := fun k hk => by
    unfold sImage
    split
    · exact State.setReg_listed_offset sRun F.BC_IMG_STATUS_STATE 2 0 0 (by rw [hk]; decide)
    · rfl
  have hrope : sImage.rope = s.rope := (Part.same_of_mask .rope hImage (by decide) : _ = sRun.rope).trans hKeys
  have hrun : sImage.run = sRun.run := Part.same_of_mask .run hImage (by decide)
  have hinvq : sImage.invq = sRun.invq := Part.same_of_mask .invq hImage (by decide)
  have hstatus : ∀ k, k / 64 = 0x308 → SMap.get 0 sShort.regs k = SMap.get 0 s.regs k := fun k hk =>
    (State.setReg_listed_offset sRope F.BC_ROPE_CKP_CAPTURING 0 0 0 (by rw [hk]; decide)).trans
      ((hImageRegs k hk).trans (hKeysRegs k))
  have hrestore : sRope.rope.restore = s.rope.restore := by rw [← hrope]
  have hready : sRope.rope.ready = s.rope.ready := by rw [← hrope]
  have hbad : sRope.rope.bad = s.rope.bad := by rw [← hrope]
  have hcur : sRope.run.cur = none := congrArg Run.cur hrun
  exact ⟨hstatus, hrestore, hready, hbad, fun _ => hcur, fun _ => hinvq⟩

theorem clearRegs (s : State) {lvl : Nat} (all : Bool) (fs : List Nat) (hl : lvl < 4) : s.StaysAborted (s.clearRegs lvl all fs) := by
  have hmask : (s.clearRegs lvl all fs).mask 8 = s.mask 8 := State.clearRegs_parts ..
  have hdom : ¬ R.BC_ROPE_STATUS.dom ≤ lvl := Nat.not_le.2 hl
  have hstatus : ∀ k, k / 64 = 0x308 → SMap.get 0 (s.clearRegs lvl all fs).regs k = SMap.get 0 s.regs k := fun k hk => by
    dsimp only [State.clearRegs]
    refine RegFile.listed_resetRegs s.regs _ k ?_
    simp [hk, findReg_BC_ROPE_STATUS, hdom]
  exact of_mask hmask hstatus

theorem syncRst (s : State) : s.StaysAborted s.syncRst :=
  of_mask (State.syncRst_parts (M := 8) s) fun k hk => State.syncRst_below (by omega) s

theorem setCause (s : State) (q : RstReq) (first same all : Bool) (fields : Nat) :
    s.StaysAborted (s.setCause q first same all fields) :=
  of_mask (State.setCause_parts (M := 8) s q first same all fields) fun k hk => State.setCause_below (by omega) s q first same all fields

theorem pushHist (s : State) (q : RstReq) (merged : Bool) : s.StaysAborted (s.pushHist q merged) :=
  of_mask (State.pushHist_parts (M := 8) s q merged) fun k hk => State.pushHist_below (by omega) s q merged

theorem moduleFault (s : State) (a b c d : Nat) (e : Bool) : s.StaysAborted (s.moduleFault a b c d e) :=
  ⟨fun _ _ => rfl, rfl, rfl, rfl, id, id⟩

theorem withRst (s : State) (r : Rst) : s.StaysAborted { s with rst := r } := ⟨fun _ _ => rfl, rfl, rfl, rfl, id, id⟩

/-- An L1 of the module leaves an aborted member aborted, in a reset. -/
theorem resetReq (s : State) (source qual fields : Nat) (hlevel : s.rst.active = true → s.rst.level ≤ 1) :
    s.StaysAborted (s.resetReq source qual 1 true fields) ∧ (s.resetReq source qual 1 true fields).rst.active = true := by
  unfold State.resetReq
  extract_lets all q same abs r sHist warned lv whole mask sCause used sFault ts enter sEnter full sModule sRegs sKept low sLow
  have hHist : s.StaysAborted sHist := pushHist s q r.active
  have hlv : lv = 1 := by
    unfold lv
    split
    · next h => exact max_eq_right (hlevel h)
    · rfl
  have hEnter : s.StaysAborted sEnter :=
    ((((hHist.trans (setCause _ _ _ _ _ _)).trans (moduleFault _ _ _ _ _ _)).trans (enterFields q enter sFault)).trans (cutInstall _))
  have hModule : s.StaysAborted sModule := by
    refine ite _ ?_ hEnter
    rw [hlv]
    exact hEnter.trans (clearModule sEnter)
  have hRegs : s.StaysAborted sRegs := hModule.trans (clearRegs sModule _ _ (by omega))
  have hKept : s.StaysAborted sKept := by
    unfold sKept
    rw [if_neg (by simp [hlv])]
    exact hRegs
  have hLow : s.StaysAborted sLow := ite _ hKept (hKept.trans (clearRegs sKept _ _ (by decide)))
  by_cases habs : abs = true
  · have hactive : s.rst.active = true := by
      have h : s.absorbs q = true := habs
      simp only [State.absorbs, Bool.and_eq_true] at h
      exact h.1.1
    rw [if_pos habs]
    refine ⟨(ite _ (hHist.trans (setCause _ _ _ _ _ _)) hHist).trans (syncRst _), ?_⟩
    have hsame : (if same = true then sHist.setCause q false true r.all r.fields else sHist).syncRst.mask 8 = s.mask 8 := by
      simp only [sHist, State.syncRst_parts, State.setCause_parts, State.pushHist_parts, mask_ite, ite_self, Nat.reduceAnd]
    generalize (if same = true then sHist.setCause q false true r.all r.fields else sHist).syncRst = t at *
    have hrst : t.rst = s.rst := Part.same_of_mask .rst hsame (by decide)
    rwa [hrst]
  · rw [if_neg habs, if_neg (by decide)]
    exact ⟨(hLow.trans (withRst sLow _)).trans (syncRst _), rfl⟩

end State.StaysAborted

/-! ### ABORT (R293, R316) -/

theorem State.haltAll_run (s : State) : s.haltAll.run.cur = none ∧ s.haltAll.invq = [] := by
  unfold State.haltAll
  extract_lets sTiles sLive sHalt
  split <;> exact ⟨rfl, rfl⟩

theorem State.flushRope_run (s : State) : s.flushRope.run = s.run ∧ s.flushRope.invq = s.invq :=
  ⟨Part.same_of_mask .run (State.flushRope_parts (M := 4915208) s) (by decide),
    Part.same_of_mask .invq (State.flushRope_parts (M := 4915208) s) (by decide)⟩

/-- Nothing runs or waits at a member that is halted and flushed. -/
theorem State.halted_run (s : State) : s.haltAll.flushRope.run.cur = none ∧ s.haltAll.flushRope.invq = [] := by
  obtain ⟨hrun, hinvq⟩ := s.haltAll.flushRope_run
  rw [hrun, hinvq]
  exact s.haltAll_run

theorem State.halted_status (s : State) (k : Nat) (hk : k / 64 = 0x308) :
    SMap.get 0 s.haltAll.flushRope.regs k = SMap.get 0 s.regs k := by
  have hbelow : k < 64 * 0x10000 := by omega
  have hhalt : SMap.get 0 s.haltAll.regs k = SMap.get 0 s.regs k := by
    unfold State.haltAll
    extract_lets sTiles sLive _ sHalt
    have hlive : SMap.get 0 sLive.regs k = SMap.get 0 s.regs k :=
      (State.listed_foldl (fun s f => State.stopLive_below hbelow s f) _ sTiles).trans
        (State.listed_of_mask k (State.mapFields_parts (M := 16) s _ _))
    split
    · exact (State.setReg_listed_offset sHalt F.BC_IMG_STATUS_STATE 2 0 0 (by rw [hk]; decide)).trans hlive
    · exact hlive
  have hflush : ∀ s : State, SMap.get 0 s.flushRope.regs k = SMap.get 0 s.regs k := by
    intro s
    unfold State.flushRope
    extract_lets sPorts _ _ sQuiet sShown
    have hshown : SMap.get 0 sShown.regs k = SMap.get 0 s.regs k :=
      (State.setReg_listed_offset sQuiet F.BC_ROPE_CKP_CAPTURING 0 0 0 (by rw [hk]; decide)).trans
        (State.updPorts_listed k _ _ s)
    split
    · exact ((State.setReg_below hbelow _ _ _ _ _ (by decide)).trans (State.setReg_below hbelow _ _ _ _ _ (by decide))).trans hshown
    · exact hshown
  exact (hflush _).trans hhalt

theorem State.stopRope_status (s : State) (reason : Nat) : (s.stopRope reason).reg F.BC_ROPE_STATUS_STATE = 7 ∧
    (s.stopRope reason).reg F.BC_ROPE_STATUS_REASON = reason % 2 ^ 8 := by
  unfold State.stopRope
  generalize s.haltAll.flushRope = t
  extract_lets sHalted sReason _ sRope
  have hreason : sRope.regs = sReason.regs := rfl
  have hstate : sReason.reg F.BC_ROPE_STATUS_STATE = 7 ∧ sReason.reg F.BC_ROPE_STATUS_REASON = reason % 2 ^ 8 := by
    constructor <;> simp [sReason, State.reg_setReg_other]
  rw [← State.reg_eq _ _ hreason, ← State.reg_eq _ _ hreason] at hstate
  simpa [State.reg_setReg_other] using hstate

theorem State.stopRope_run (s : State) (reason : Nat) : (s.stopRope reason).run.cur = none ∧ (s.stopRope reason).invq = [] := by
  have hhalted := s.halted_run
  unfold State.stopRope
  generalize s.haltAll.flushRope = t at *
  exact hhalted

/-- A member that an ABORT takes to a restore: halted and flushed, its triggers dropped, with the restore epoch and REPLAYS. -/
def State.abortedBy (s : State) (b : List Nat) : State :=
  let s := s.haltAll.flushRope
  let s : State := { s with
    reports := s.reports.map (fun r => { r with trig := false })
    log := { s.log with retested := 0 }
    rope := { s.rope with bad := none, low := none, burst := s.rope.burst || leAt b 2 2 = Code.crnMismatch, badSent := false,
                          ready := false, noCkp := false, restore := optEpoch (leAt b 4 8),
                          children := s.rope.children.map (fun c => { c with ready := false }) } }
  s.setReg F.BC_ROPE_STATUS_REPLAYS (leAt b 14 1)

theorem State.takeAbort_eq (s : State) (b : List Nat) : s.takeAbort b =
    if s.ropeState = 0 then s
    else if leAt b 1 1 = 2 then s.stopRope (leAt b 2 2)
    else if 7 ≤ s.ropeState then s
    else if leAt b 1 1 = 3 then s.stopRope 9
    else if s.rope.rejoin then s.abortedBy b
    else ((s.abortedBy b).setRopeState 5).resetReq 4 2 1 true 0 := rfl

section Aborted
variable (s : State) (b : List Nat)

theorem State.abortedBy_rope : (s.abortedBy b).rope.restore = optEpoch (leAt b 4 8) ∧ (s.abortedBy b).rope.ready = false ∧
    (s.abortedBy b).rope.bad = none := ⟨rfl, rfl, rfl⟩

theorem State.abortedBy_run : (s.abortedBy b).run.cur = none ∧ (s.abortedBy b).invq = [] := by
  have hhalted := s.halted_run
  unfold State.abortedBy
  generalize s.haltAll.flushRope = t at *
  exact hhalted

theorem State.abortedBy_rst : (s.abortedBy b).rst = s.rst := by
  have hflush : s.haltAll.flushRope.mask 4927512 = s.mask 4927512 := (State.flushRope_parts ..).trans (State.haltAll_parts ..)
  have hrst : s.haltAll.flushRope.rst = s.rst := Part.same_of_mask .rst hflush (by decide)
  unfold State.abortedBy
  generalize s.haltAll.flushRope = t at *
  exact hrst

theorem State.abortedBy_solo : (s.abortedBy b).solo = s.solo ∧
    (s.abortedBy b).reg F.BC_ROPE_STATUS_STATE = s.reg F.BC_ROPE_STATUS_STATE := by
  have hhalted : ∀ f : Fld, f.key 0 0 / 64 = 0x308 → s.haltAll.flushRope.reg f = s.reg f :=
    fun f hf => State.reg_of_listed (s.halted_status _ hf)
  have hkept : ∀ f : Fld, f.key 0 0 ≠ F.BC_ROPE_STATUS_REPLAYS.key 0 0 →
      (s.abortedBy b).reg f = s.haltAll.flushRope.reg f := by
    intro f hf
    unfold State.abortedBy
    generalize s.haltAll.flushRope = t
    exact State.reg_setReg_other _ _ _ _ _ _ _ _ hf
  have hsolo := (hkept F.BC_ROPE_STATUS_SOLO (by decide)).trans (hhalted _ (by decide))
  exact ⟨by rw [State.solo, hsolo]; rfl, (hkept _ (by decide)).trans (hhalted _ (by decide))⟩

end Aborted

/-- A member that an ABORT with a fault's reason reaches is ABORTING, in an L1 of the module. -/
theorem State.takeAbort_aborting {s : State} {b : List Nat} (hsolo : s.solo = true → s.reg F.BC_ROPE_STATUS_STATE = 0)
    (hreason : leAt b 1 1 ≤ 1) (hin : s.ropeState ≠ 0) (hstate : s.ropeState < 7) (hrejoin : s.rope.rejoin = false)
    (hlevel : s.rst.active = true → s.rst.level ≤ 1) :
    (s.takeAbort b).ropeState = 5 ∧ (s.takeAbort b).rope.restore = optEpoch (leAt b 4 8) ∧ (s.takeAbort b).rope.ready = false ∧
    (s.takeAbort b).rope.bad = none ∧ (s.takeAbort b).run.cur = none ∧ (s.takeAbort b).invq = [] ∧
    (s.takeAbort b).rst.active = true := by
  have htake : s.takeAbort b = ((s.abortedBy b).setRopeState 5).resetReq 4 2 1 true 0 := by
    rw [State.takeAbort_eq, if_neg hin, if_neg (by omega), if_neg (by omega), if_neg (by omega), hrejoin]
    rfl
  obtain ⟨hrestore, hready, hbad⟩ := s.abortedBy_rope b
  obtain ⟨hcur, hinvq⟩ := s.abortedBy_run b
  obtain ⟨hAsolo, hAstate⟩ := s.abortedBy_solo b
  have hrst := s.abortedBy_rst b
  rw [htake]
  generalize s.abortedBy b = u at *
  have hmoved : (u.setRopeState 5).ropeState = 5 := State.setRopeState_ropeState (by rwa [hAsolo, hAstate]) (by decide)
  have hkept : (u.setRopeState 5).mask 8 = u.mask 8 := State.setRopeState_parts ..
  generalize u.setRopeState 5 = v at *
  have hrope : v.rope = u.rope := Part.same_of_mask .rope hkept (by decide)
  have hrun : v.run = u.run := Part.same_of_mask .run hkept (by decide)
  have hq : v.invq = u.invq := Part.same_of_mask .invq hkept (by decide)
  have hvrst : v.rst = u.rst := Part.same_of_mask .rst hkept (by decide)
  obtain ⟨hstays, hactive⟩ := State.StaysAborted.resetReq v 4 2 0 (by rwa [hvrst, hrst])
  rw [← hrope] at hrestore hready hbad
  exact ⟨(State.ropeState_of_listed hstays.status).2.trans hmoved, hstays.restore.trans hrestore, hstays.ready.trans hready,
    hstays.bad.trans hbad, hstays.cur (by rw [hrun, hcur]), hstays.invq (by rw [hq, hinvq]), hactive⟩

section Abort
variable {s : State} {p : Nat} {c : Cell} {r : List (Nat × Cell)} (hcells : s.bcl.cells = (p, c) :: r) (htype : c.type = 1)
  (hsub : leAt c.body 0 1 = 7)
include hcells htype hsub

theorem execAbort_taken : execAbort s = .next ((s.cellsLeft r).takeAbort c.body) := by
  have htake : (s.cellsLeft r).takeEpoch c = (s.cellsLeft r).takeAbort c.body := by simp only [State.takeEpoch, hsub]
  rw [execAbort, State.serveEpoch_first hcells htype hsub rfl, htake]

theorem execAbort_stop (hin : s.ropeState ≠ 0) (hreason : leAt c.body 1 1 = 2) :
    execAbort s = .next ((s.cellsLeft r).stopRope (leAt c.body 2 2)) := by
  have hin' : (s.cellsLeft r).ropeState ≠ 0 := hin
  rw [execAbort_taken hcells htype hsub, State.takeAbort_eq, if_neg hin', if_pos hreason]

theorem execAbort_stopped (hreason : leAt c.body 1 1 ≠ 2) (hstate : 7 ≤ s.ropeState) :
    execAbort s = .next (s.cellsLeft r) := by
  have hstate' : 7 ≤ (s.cellsLeft r).ropeState := hstate
  rw [execAbort_taken hcells htype hsub, State.takeAbort_eq, if_neg (by omega), if_neg hreason, if_pos hstate']

theorem execAbort_noEpoch (hin : s.ropeState ≠ 0) (hreason : leAt c.body 1 1 = 3) (hstate : s.ropeState < 7) :
    execAbort s = .next ((s.cellsLeft r).stopRope 9) := by
  have hin' : (s.cellsLeft r).ropeState ≠ 0 := hin
  have hstate' : ¬ 7 ≤ (s.cellsLeft r).ropeState := Nat.not_le.2 hstate
  rw [execAbort_taken hcells htype hsub, State.takeAbort_eq, if_neg hin', if_neg (by omega), if_neg hstate', if_pos hreason]

end Abort

/-- Settles O40: the first of the anchor's cells takes effect by its subtype, and each clause is what the branch that its
hypotheses name does; an ABORT's L1 leaves what the ABORT set. -/
theorem ropeStartsKeepsTimeAndInvokes : Obligations.RopeStartsKeepsTimeAndInvokes := by
  unfold Obligations.RopeStartsKeepsTimeAndInvokes
  refine ⟨?start, ?ropeStart, ?time, ?missing, ?send, ?mark, ?invoke, ?commit, ?abort, ?announce, ?epoch⟩
  case start => exact fun s slack p c r hcells htype hsub hstate => execStart_ready hcells slack htype hsub hstate
  case ropeStart =>
    exact fun s c hstart hstate hsolo => ⟨execRopeStart_early hstart, execRopeStart_started hstart hstate hsolo⟩
  case time =>
    exact fun s p c r want hcells htype hsolo hwant =>
      ⟨execTime_prepare hcells htype hsolo hwant, execTime_compared hcells htype hsolo hwant⟩
  case missing => exact fun s hrope hanchor hpassed => execTimeMissing_reported hrope hanchor hpassed
  case send =>
    exact fun s c n => ⟨execTimeSend_outside, fun hrope hring hopen hchild htopo hin hne hx hn hup hwrap hport htod =>
      execTimeSend_child hrope hring hopen hchild htopo hin hne hx hn hup hwrap hport htod⟩
  case mark =>
    exact fun s p c r hcells htype => ⟨execMark_noted hcells htype, execClear_cleared hcells htype⟩
  case invoke => exact fun s p c r hcells htype hsub hstate => execInvoke_taken hcells htype hsub hstate
  case commit =>
    exact fun s p k c r hcells htype hsub hk husable hepoch hfirst he =>
      execCommit_committed hcells htype hsub hk husable hepoch hfirst he
  case abort =>
    intro s p c r hcells htype hsub hin hsolo
    refine ⟨fun hreason => ?_, fun hreason hstate => ?_, fun hreason hstate => ?_, fun hreason hstate hrejoin hlevel => ?_⟩
    · obtain ⟨hstopped, hshown⟩ := (s.cellsLeft r).stopRope_status (leAt c.body 2 2)
      obtain ⟨hcur, hinvq⟩ := (s.cellsLeft r).stopRope_run (leAt c.body 2 2)
      exact ⟨_, execAbort_stop hcells htype hsub hin hreason, hstopped, hshown, hcur, hinvq⟩
    · exact ⟨_, execAbort_stopped hcells htype hsub hreason hstate, rfl, rfl, rfl⟩
    · obtain ⟨hstopped, hshown⟩ := (s.cellsLeft r).stopRope_status 9
      exact ⟨_, execAbort_noEpoch hcells htype hsub hin hreason hstate, hstopped, hshown⟩
    · exact ⟨_, execAbort_taken hcells htype hsub,
        State.takeAbort_aborting (s := s.cellsLeft r) hsolo hreason hin hstate hrejoin hlevel⟩
  case announce =>
    exact fun s p c r hcells htype hsub hstate =>
      ⟨execAnnounce_kept hcells htype hsub hstate, execAnnounce_late hcells htype hsub hstate⟩
  case epoch => exact fun s hstate => ⟨execEpochBoundary_same, execEpochBoundary_marked hstate⟩

end Sys2Proof.Machine

/-
PROOFS. The statements of spec 06_stacked_memory: the canonical form of the staging area and the ledger memory, the refresh and
the waiting beats of the stacked memory, and the accesses of the host apertures.
-/

namespace Sys2Proof.Machine

set_option Elab.async false

/-! ### States and answers in the canonical form -/

/-- The staging area and the ledger memory are in the canonical form. -/
def MemCanon (s : State) : Prop := (SMap.wf 0 s.staging && SMap.wf 0 s.ldg.mem) = true

/-- `MemCanon` of the state without every part but those two memories (bits 11 and 22 are not in the mask), so an operation's
`_parts` lemma rewrites `State.Canon` of its result. -/
abbrev State.Canon (s : State) : Prop := MemCanon (s.mask 130021375)

theorem canon_iff (s : State) : s.Canon ↔ (SMap.wf 0 s.staging && SMap.wf 0 s.ldg.mem) = true := Iff.rfl

/-- Where a command answers a next state, that state is canonical. -/
def ResCanon (r : Res) : Prop := ∀ t, r = .next t → t.Canon

theorem resCanon_next (t : State) : ResCanon (.next t) ↔ t.Canon :=
  ⟨fun h => h t rfl, fun h u hu => by cases hu; exact h⟩

theorem resCanon_ite (c : Prop) [Decidable c] (a b : Res) :
    ResCanon (if c then a else b) ↔ if c then ResCanon a else ResCanon b := by split <;> rfl

theorem State.Canon.staging {s : State} (hs : s.Canon) : SMap.wf 0 s.staging = true := (Bool.and_eq_true_iff.1 hs).1

theorem State.Canon.ledger {s : State} (hs : s.Canon) : SMap.wf 0 s.ldg.mem = true := (Bool.and_eq_true_iff.1 hs).2

theorem canon_of_wf {t : State} (hstaging : SMap.wf 0 t.staging = true) (hledger : SMap.wf 0 t.ldg.mem = true) : t.Canon :=
  Bool.and_eq_true_iff.2 ⟨hstaging, hledger⟩

theorem State.Canon.setStaging {s : State} (hs : s.Canon) {m : SMap Byte} (hm : SMap.wf 0 m = true) :
    State.Canon { s with staging := m } := canon_of_wf hm hs.ledger

theorem State.Canon.setLedger {s : State} (hs : s.Canon) {l : Ledger} (hl : SMap.wf 0 l.mem = true) :
    State.Canon { s with ldg := l } := canon_of_wf hs.staging hl

/-- An update of a state that leaves the staging area and the ledger memory as they are. -/
theorem canon_upd {fuse ref acyc regs fields links pkts image copy pendingImg tenant staging run invq reports log rope ports bcl
    pw rst dict ldg trust out free} (s : State) (hstaging : staging = s.staging) (hledger : ldg.mem = s.ldg.mem) :
    State.Canon ⟨fuse, ref, acyc, regs, fields, links, pkts, image, copy, pendingImg, tenant, staging, run, invq, reports, log,
      rope, ports, bcl, pw, rst, dict, ldg, trust, out, free, s.pending⟩ ↔ s.Canon := by
  rw [canon_iff, canon_iff, hstaging, hledger]

theorem State.Canon.upd {fuse ref acyc regs fields links pkts image copy pendingImg tenant staging run invq reports log rope
    ports bcl pw rst dict ldg trust out free} {s : State} (hs : s.Canon) (hstaging : staging = s.staging := by rfl)
    (hledger : ldg.mem = s.ldg.mem := by rfl) :
    State.Canon ⟨fuse, ref, acyc, regs, fields, links, pkts, image, copy, pendingImg, tenant, staging, run, invq, reports, log,
      rope, ports, bcl, pw, rst, dict, ldg, trust, out, free, s.pending⟩ := (canon_upd s hstaging hledger).2 hs

theorem State.Canon.of_parts {s t : State} (hs : s.Canon) (h : t.mask 130021375 = s.mask 130021375) : t.Canon := by
  rwa [State.Canon, h]

theorem canon_of_parts {s t : State} (h : t.mask 130021375 = s.mask 130021375) : t.Canon ↔ s.Canon := by
  rw [State.Canon, h]

theorem canon_ite (c : Prop) [Decidable c] (a b : State) :
    (if c then a else b).Canon ↔ if c then a.Canon else b.Canon := by split <;> rfl

theorem canon_ite1 {β : Type} (c : Prop) [Decidable c] (a b : State × β) :
    (if c then a else b).1.Canon ↔ if c then a.1.Canon else b.1.Canon := by split <;> rfl

theorem canon_foldl {α : Type} (g : State → α → State) (h : ∀ s x, (g s x).Canon ↔ s.Canon) (xs : List α) (s : State) :
    (xs.foldl g s).Canon ↔ s.Canon := by
  induction xs generalizing s with
  | nil => exact Iff.rfl
  | cons x xs ih => rw [List.foldl_cons, ih, h]

theorem canon_foldl1 {α β : Type} (g : State × β → α → State × β) (h : ∀ s x, (g s x).1.Canon ↔ s.1.Canon) (xs : List α)
    (s : State × β) : (xs.foldl g s).1.Canon ↔ s.1.Canon := by
  induction xs generalizing s with
  | nil => exact Iff.rfl
  | cons x xs ih => rw [List.foldl_cons, ih, h]

theorem canon_foldl_of {α : Type} {g : State → α → State} (h : ∀ s x, s.Canon → (g s x).Canon) (xs : List α) {s : State}
    (hs : s.Canon) : (xs.foldl g s).Canon := by
  induction xs generalizing s with
  | nil => exact hs
  | cons x xs ih => exact ih (h s x hs)

theorem canon_foldl1_of {α β : Type} {g : State × β → α → State × β} (h : ∀ w x, w.1.Canon → (g w x).1.Canon) (xs : List α)
    {w : State × β} (hw : w.1.Canon) : (xs.foldl g w).1.Canon := by
  induction xs generalizing w with
  | nil => exact hw
  | cons x xs ih => exact ih (h w x hw)

theorem resCanon_of_keeps {s : State} {r : Res} (h : Keeps 130021375 s r) (hs : s.Canon) : ResCanon r := by
  obtain ⟨t, rfl, ht⟩ := h
  exact (resCanon_next _).2 (hs.of_parts ht)

/-! ### Ledger operations that leave the ledger memory as it is -/

theorem Ledger.foldl_mem {α : Type} (g : Ledger → α → Ledger) (h : ∀ l x, (g l x).mem = l.mem) (xs : List α) (l : Ledger) :
    (xs.foldl g l).mem = l.mem := by
  induction xs generalizing l with
  | nil => rfl
  | cons x xs ih => rw [List.foldl_cons, ih, h]

theorem Ledger.upd_mem (l : Ledger) (i : Nat) (g : Session → Session) : (l.upd i g).mem = l.mem := rfl

theorem Ledger.append_mem (l : Ledger) (a b c : Nat) (p : Bool) (x : List Nat) : (l.append a b c p x).mem = l.mem := rfl

theorem Ledger.discard_mem (l : Ledger) : l.discard.mem = l.mem :=
  Ledger.foldl_mem _ (by intros; rfl) _ _

theorem Ledger.rebuild_mem (l : Ledger) (i : Nat) : (l.rebuild i).mem = l.mem := by
  simp only [Ledger.rebuild]
  split <;> rfl

theorem Ledger.rebuildAll_mem (l : Ledger) : l.rebuildAll.mem = l.mem :=
  Ledger.foldl_mem _ Ledger.rebuild_mem _ _

theorem Ledger.rebuildSome_mem (l : Ledger) (p : Nat → Bool) : (l.rebuildSome p).mem = l.mem :=
  Ledger.foldl_mem _ Ledger.rebuild_mem _ _

theorem Ledger.rebuildBegun_mem (l : Ledger) : l.rebuildBegun.mem = l.mem :=
  Ledger.foldl_mem _ Ledger.rebuild_mem _ _

theorem Ledger.ite_mem (c : Prop) [Decidable c] (a b : Ledger) : (if c then a else b).mem = if c then a.mem else b.mem := by
  split <;> rfl

theorem Ledger.drainEntry_mem (l : Ledger) (a : Nat) (rs : List (List Nat)) (e : List Nat) :
    (l.drainEntry a rs e).mem = l.mem := by
  unfold Ledger.drainEntry
  dsimp only
  split
  · rfl
  · split
    · rfl
    · exact Ledger.foldl_mem (fun l d => l.upd (leAt e 0 2) (fun x => x.drained (leAt e 0 2) (leAt e 4 8) a d))
        (fun _ _ => rfl) _ l

/-! ### Tiles, words and packets -/

theorem State.stackUe_canon (s : State) (f key a : Nat) (sched : Bool) : (State.stackUe s f key a sched).1.Canon ↔ s.Canon := by
  simp only [State.Canon, State.stackUe, State.satReg_parts, State.setReg_parts, State.setTile_parts, canon_upd, canon_ite,
    ite_self, Nat.reduceAnd, Ledger.rebuildSome_mem]

theorem State.foundUe_canon (s : State) (f key a : Nat) : (State.foundUe s f key a).Canon ↔ s.Canon := by
  unfold State.foundUe
  exact (canon_of_parts (State.tileReport_parts ..)).trans ((State.stackUe_canon ..).trans (canon_of_parts
    (State.setTile_parts ..)))

theorem State.noteStack_canon (s : State) (f key a n : Nat) : (State.noteStack s f key a n).Canon ↔ s.Canon := by
  simp only [State.Canon, State.noteStack, State.foundUe_canon, State.satReg_parts, State.setTile_parts, canon_ite, ite_self,
    canon_foldl, implies_true, Nat.reduceAnd]

theorem State.absorb_canon (s : State) (f key : Nat) (w : TW) : (State.absorb s f key w).Canon ↔ s.Canon := by
  simp only [State.Canon, State.absorb, State.countBeats_parts, State.drive_parts, State.invalidate_parts, State.satReg_parts,
    State.setTile_parts, State.stackUe_canon, State.tileReport_parts, canon_upd, canon_ite, ite_self, canon_foldl,
    canon_foldl1, implies_true, Nat.reduceAnd]

theorem State.atTile_canon (s : State) (a : Nat) (g : State → Nat → Nat → TPos → Tile → TW) :
    (State.atTile s a g).Canon ↔ s.Canon := by
  unfold State.atTile
  (repeat' split) <;> simp only [State.Canon, State.absorb_canon]

theorem State.atTile'_canon (s : State) (a : Nat) (g : TPos → Tile → Tile) : (State.atTile' s a g).Canon ↔ s.Canon := by
  simp only [State.Canon, State.atTile', State.atTile_canon]

theorem State.land_canon (s : State) (a : Nat) : (State.land s a).Canon ↔ s.Canon := by
  simp only [State.Canon, State.land, State.atTile'_canon]

theorem State.arriveWord_canon (s : State) (l : LinkWord) (hop : BitVec 80) (late : Bool) :
    (State.arriveWord s l hop late).Canon ↔ s.Canon := by
  unfold State.arriveWord
  cases s.locate l.dest with
  | none => rfl
  | some e =>
    dsimp only
    split
    · exact canon_of_parts (State.intrude_parts ..)
    · split
      · rfl
      · split
        · refine (State.absorb_canon ..).trans ?_
          split <;> exact canon_of_parts (State.satReg_parts ..)
        · exact State.absorb_canon ..

theorem State.arriveDue_canon (s : State) (a now : Nat) : (State.arriveDue s a now).Canon ↔ s.Canon := by
  simp only [State.Canon, State.arriveDue, State.arriveWord_canon, canon_upd, canon_foldl, implies_true]

theorem execWordArrival_canon (a : Addr) (port : Fin 8) (hop : BitVec 80) (late : Bool) (s : State) (hs : s.Canon) :
    ResCanon (execWordArrival a port hop late s) := by
  unfold execWordArrival
  cases takeFirst (fun l => l.dest = a.toNat && l.port = port.val && s.mayArrive l) s.links with
  | none => exact (resCanon_next _).2 hs
  | some e => exact (resCanon_next _).2 ((State.arriveWord_canon ..).2 hs)

theorem execBundleIssue_canon (a : Addr) (ups : List Upset) (s : State) (hs : s.Canon) :
    ResCanon (execBundleIssue a ups s) := by
  unfold execBundleIssue
  (repeat' split) <;> simp only [State.Canon, resCanon_next, resCanon_ite, State.absorb_canon, State.advance_parts,
    State.arriveDue_canon, Nat.reduceAnd, hs, ite_self]

theorem State.seqCmd_canon (s : State) (a : Nat) (g : Tile → Tile) : (State.seqCmd s a g).Canon ↔ s.Canon := by
  simp only [State.Canon, State.seqCmd, State.atTile_canon]

theorem State.coreWork_canon (s : State) (a : Nat) (g : State → Nat → TPos → TW → TW) :
    (State.coreWork s a g).Canon ↔ s.Canon := by
  simp only [State.Canon, State.coreWork, State.atTile_canon]

theorem execScrubDone_canon (a : Addr) (ups : List Upset) (s : State) (hs : s.Canon) : ResCanon (execScrubDone a ups s) := by
  unfold execScrubDone
  (repeat' split) <;> simp only [State.Canon, resCanon_next, State.coreWork_canon, State.reloadLost_parts, canon_ite, ite_self,
    Nat.reduceAnd, hs]

theorem State.coreAccess_canon (s : State) (a f3 n : Nat) (g : TW → TW) : (State.coreAccess s a f3 n g).Canon ↔ s.Canon := by
  unfold State.coreAccess
  (repeat' split) <;> simp only [State.Canon, State.coreWork_canon, State.served_parts, State.updField_parts, canon_ite,
    ite_self, Nat.reduceAnd]

theorem State.wrapperAnswer_canon (s : State) (at_ : Nat) (p : Packet) : (State.wrapperAnswer s at_ p).Canon ↔ s.Canon := by
  simp only [State.Canon, State.wrapperAnswer, State.atTile'_canon, State.satReg_parts, canon_upd, canon_ite, ite_self,
    Nat.reduceAnd]

theorem State.decodeAt_canon (s : State) (b : Nat) (errs : List (BitVec 80)) : (State.decodeAt s b errs).1.Canon ↔ s.Canon := by
  simp only [State.Canon, State.decodeAt, State.atTile_canon, canon_ite1, ite_self]

theorem State.serveAgent_canon (s : State) (p : Packet) : (State.serveAgent s p).Canon ↔ s.Canon := by
  simp only [State.Canon, State.serveAgent, State.atTile_canon]

theorem State.hop_canon (s : State) (x : Flight) (k : Nat) (errs : List (BitVec 80)) :
    (State.hop s x k errs).Canon ↔ s.Canon := by
  unfold State.hop
  (repeat' split) <;> simp only [State.Canon, State.decodeAt_canon, State.serveAgent_canon, State.toBaseCamp_parts,
    State.wrapperAnswer_canon, canon_upd, canon_ite, ite_self, Nat.reduceAnd]

theorem execPacketHop_canon (k : Nat) (errs : List (BitVec 80)) (s : State) (hs : s.Canon) :
    ResCanon (execPacketHop k errs s) := by
  unfold execPacketHop
  (repeat' split) <;> simp only [State.Canon, resCanon_next, State.hop_canon, hs]

theorem takePkt_canon {s s' : State} {k : Nat} {x : Flight} (h : s.takePkt k = some (x, s')) : s'.Canon ↔ s.Canon :=
  canon_of_parts (takePkt_parts h)

theorem State.deliver_canon (s : State) (k : Nat) (ok : Packet → Bool) (g : State → Nat → Packet → TW → TW) :
    (State.deliver s k ok g).Canon ↔ s.Canon := by
  unfold State.deliver
  cases h : s.takePkt k with
  | none => rfl
  | some e =>
    dsimp only
    split
    · rfl
    · split
      · exact (State.wrapperAnswer_canon ..).trans (takePkt_canon h)
      · exact (State.atTile_canon ..).trans (takePkt_canon h)

theorem State.pass_canon (hops : List (Addr × List (BitVec 80))) (l : List Nat) (a : Nat) (s : State) :
    (State.pass hops l a s).1.Canon ↔ s.Canon := by
  induction l generalizing a s with
  | nil => rfl
  | cons b r ih =>
    unfold State.pass
    split
    · rfl
    · dsimp only
      split
      · exact State.decodeAt_canon ..
      · exact (ih ..).trans (State.decodeAt_canon ..)

theorem State.sysOp_canon (s : State) (a op : Nat) (ws : List Tok) (hops : List (Addr × List (BitVec 80))) :
    (State.sysOp s a op ws hops).Canon ↔ s.Canon := by
  have hpass := State.pass_canon hops (bcRoute a) bcPair s
  unfold State.sysOp
  dsimp only
  split
  · rfl
  · split
    · rename_i e
      rw [e] at hpass
      exact (State.serveAgent_canon ..).trans hpass
    · rename_i e
      rwa [e] at hpass
    · rename_i e
      rw [e] at hpass
      split
      · exact (State.wrapperAnswer_canon ..).trans hpass
      · exact (canon_upd _ rfl rfl).trans hpass

theorem State.rectCopy_canon (s : State) (lost : List Nat) (a q : Nat) (p : Packet) :
    (State.rectCopy s lost a q p).Canon ↔ s.Canon := by
  unfold State.rectCopy
  (repeat' split) <;> simp only [State.Canon, State.serveAgent_canon, canon_upd]

theorem execRect_canon (a b : Addr) (test : Bool) (addr : BitVec 20) (data : Carried (List (BitVec 64 × BitVec 4)))
    (s : State) (hs : s.Canon) :
    ResCanon (execRect a b test addr data s) := by
  simp only [State.Canon, execRect, resCanon_next, resCanon_ite, State.decodeAt_canon, State.rectCopy_canon, canon_foldl,
    canon_foldl1, implies_true, hs, ite_self]

/-! ### The stacked memory and the aperture -/

theorem State.scrubField_canon (s : State) (f n : Nat) : (State.scrubField s f n).Canon ↔ s.Canon := by
  simp only [State.Canon, State.scrubField, State.addReg_parts, State.foundUe_canon, State.mapTiles_parts, State.satReg_parts,
    State.setReg_parts, canon_ite, ite_self, canon_foldl, implies_true, Nat.reduceAnd]

theorem execRefreshWindow_canon (f : Fin 48) (ups : List (Addr × Upset)) (s : State) (hs : s.Canon) :
    ResCanon (execRefreshWindow f ups s) := by
  unfold execRefreshWindow
  (repeat' split) <;> simp only [State.Canon, resCanon_next, resCanon_ite, State.refreshStep_parts, State.scrubField_canon,
    State.updField_parts, State.upsets_parts, Nat.reduceAnd, hs, ite_self]

theorem execAutonomousRefresh_canon (f : Fin 48) (ups : List (Addr × Upset)) (s : State) (hs : s.Canon) :
    ResCanon (execAutonomousRefresh f ups s) := by
  simp only [State.Canon, execAutonomousRefresh, resCanon_next, resCanon_ite, State.refreshStep_parts, State.scrubField_canon,
    State.upsets_parts, Nat.reduceAnd, hs, ite_self]

theorem execForcedRefresh_canon (f : Fin 48) (s : State) (hs : s.Canon) : ResCanon (execForcedRefresh f s) := by
  simp only [State.Canon, execForcedRefresh, resCanon_next, resCanon_ite, State.absorb_canon, State.fieldFault_parts,
    State.refreshStep_parts, State.satReg_parts, State.updField_parts, canon_ite, ite_self, canon_foldl, implies_true,
    Nat.reduceAnd, hs]

theorem State.apServe_canon {s : State} (x : ApAccess) (hs : s.Canon) : (State.apServe s x).Canon := by
  unfold State.apServe
  dsimp only
  split
  · simp only [State.Canon, canon_ite, State.satReg_parts, State.emit_parts, Nat.reduceAnd, hs, ite_self]
  · next b _ =>
    have hserved : (s.served (s.reserveField b) (beatCount b (if x.write then x.data.length else x.n))).Canon :=
      hs.of_parts (State.served_parts ..)
    split
    · exact hserved.setStaging (SMap.wf_setList _ _ _ _ hserved.staging)
    · exact hserved.of_parts (State.emit_parts ..)
  · simp only [State.Canon, canon_ite, State.emit_parts, State.satReg_parts, State.served_parts, State.setTile_parts,
      State.noteStack_canon, canon_foldl, implies_true, Nat.reduceAnd, hs, ite_self]

theorem State.apArrive_canon (s : State) (x : ApAccess) (hs : s.Canon) : (State.apArrive s x).Canon := by
  simp only [State.Canon, State.apArrive, State.apServe_canon, canon_upd, canon_ite, ite_self, hs]

theorem execApertureRead_canon (port : Fin 2) (off : BitVec 36) (n : Fin 4097) (ups : List (Addr × Upset)) (s : State)
    (hs : s.Canon) : ResCanon (execApertureRead port off n ups s) := by
  simp only [State.Canon, execApertureRead, resCanon_next, resCanon_ite, State.apArrive_canon, State.isoRead_parts,
    State.upsets_parts, Nat.reduceAnd, hs, ite_self]

theorem execApertureWrite_canon (port : Fin 2) (off : BitVec 36) (data : List (BitVec 8)) (s : State) (hs : s.Canon) :
    ResCanon (execApertureWrite port off data s) := by
  simp only [State.Canon, execApertureWrite, resCanon_next, resCanon_ite, State.apArrive_canon, State.satReg_parts,
    Nat.reduceAnd, hs, ite_self]

theorem State.apDrain_canon (f n : Nat) {s : State} (hs : s.Canon) : (State.apDrain f n s).Canon := by
  induction n generalizing s with
  | zero => exact hs
  | succ n ih =>
    unfold State.apDrain
    dsimp only
    split
    · exact hs
    · exact ih (State.apServe_canon _ hs.upd)

theorem execNonscheduledBeat_canon (f : Fin 48) (cls : Fin 5) (s : State) (hs : s.Canon) :
    ResCanon (execNonscheduledBeat f cls s) := by
  unfold execNonscheduledBeat
  dsimp only
  repeat' split
  · exact (resCanon_next _).2 hs
  · exact (resCanon_next _).2 (State.apDrain_canon _ _ hs)
  · exact (resCanon_next _).2 hs
  · exact (resCanon_next _).2 ((canon_of_parts (State.updField_parts ..)).2 hs)

theorem State.apAbort_canon (s : State) : (State.apAbort s).Canon ↔ s.Canon := by
  simp only [State.Canon, State.apAbort, State.isoRead_parts, State.satReg_parts, canon_upd, canon_ite, ite_self, canon_foldl,
    implies_true, Nat.reduceAnd]

theorem execApertureTimeout_canon (port : Fin 2) (write : Bool) (s : State) (hs : s.Canon) :
    ResCanon (execApertureTimeout port write s) := by
  simp only [State.Canon, execApertureTimeout, resCanon_next, State.emit_parts, canon_ite, ite_self, Nat.reduceAnd]
  (repeat' split) <;> simp only [State.Canon, State.satReg_parts, canon_upd, Nat.reduceAnd, hs]

/-! ### Invocations and records -/

theorem State.coldLoad_canon (s : State) (streams : List (Addr × BitVec 23)) : (State.coldLoad s streams).Canon ↔ s.Canon := by
  refine (canon_foldl _ (fun s u => ?_) _ _).trans (canon_of_parts (State.mapFields_parts ..))
  cases s.locate u.1.toNat with
  | none => rfl
  | some e =>
    dsimp only
    split
    · rfl
    · exact (canon_of_parts (State.setTile_parts ..)).trans (State.noteStack_canon ..)

theorem execInvocationStart_canon (streams : List (Addr × BitVec 23)) (s : State) (hs : s.Canon) :
    ResCanon (execInvocationStart streams s) := by
  unfold execInvocationStart
  (repeat' split) <;> simp only [State.Canon, resCanon_next, State.coldLoad_canon, State.setReg_parts, canon_upd,
    Nat.reduceAnd, hs]

theorem State.switchField_canon (s : State) (f : Nat) (d : SwitchTo) (e : Sect) (ending : Bool) :
    (State.switchField s f d e ending).Canon ↔ s.Canon := by
  simp only [State.Canon, State.switchField, State.absorb_canon, State.baseFaults_parts, State.invalidate_parts,
    State.setReg_parts, State.updField_parts, canon_ite, ite_self, canon_foldl, implies_true, Nat.reducePow, Nat.reduceAnd]

theorem State.arriveAll_canon (s : State) (now : Nat) : (State.arriveAll s now).Canon ↔ s.Canon := by
  simp only [State.Canon, State.arriveAll, State.arriveWord_canon, canon_upd, canon_foldl, implies_true]

theorem execSectionSwitch_canon (s : State) (hs : s.Canon) : ResCanon (execSectionSwitch s) := by
  unfold execSectionSwitch
  (repeat' split) <;> simp only [State.Canon, resCanon_next, State.advance_parts, State.arriveAll_canon,
    State.coldRefresh_parts, State.missSwitch_parts, State.setReg_parts, State.settle_parts, State.switchField_canon,
    canon_upd, canon_ite, ite_self, canon_foldl, implies_true, Nat.reduceAnd, hs]

theorem execInvocationEnd_canon (s : State) (hs : s.Canon) : ResCanon (execInvocationEnd s) := by
  unfold execInvocationEnd
  (repeat' split) <;> simp only [State.Canon, resCanon_next, State.advance_parts, State.arriveAll_canon, State.endTest_parts,
    State.mapFields_parts, State.setReg_parts, State.stopLive_parts, canon_upd, canon_foldl, implies_true, Nat.reduceAnd, hs]

theorem State.landRecord_canon (s : State) (p : Nat) (r : Record) (errs : List (BitVec 80)) :
    (State.landRecord s p r errs).Canon ↔ s.Canon := by
  unfold State.landRecord
  split
  · rfl
  · refine canon_foldl _ (fun s w => ?_) _ _
    dsimp only
    cases s.locate (s.landingTile p w.1.1).1 with
    | none => rfl
    | some e =>
      dsimp only
      split
      · exact canon_of_parts (State.satReg_parts ..)
      · exact State.absorb_canon ..

theorem execRecordLanding_canon (l : Landing) (s : State) (hs : s.Canon) : ResCanon (execRecordLanding l s) := by
  simp only [execRecordLanding]
  (repeat' split) <;> simp only [State.Canon, resCanon_next, State.feedEngines_parts, State.landRecord_canon,
    State.updPort_parts, Nat.reduceAnd, hs]

theorem takeDyn_canon {s s' : State} {p : Dyn → Bool} {d : Dyn} (h : s.takeDyn p = some (d, s')) : s'.Canon ↔ s.Canon :=
  canon_of_parts (takeDyn_parts h)

theorem State.serve_canon {s : State} (op : Nat) {g : State → Dyn → State} (hg : ∀ s d, s.Canon → (g s d).Canon)
    (hs : s.Canon) : (s.serve op g).Canon := by
  unfold State.serve
  cases h : s.takeDyn (fun d => d.op = op && d.vn = 0) with
  | none => exact hs
  | some e => exact hg _ _ ((takeDyn_canon h).2 hs)

theorem execRwrite_canon (admitted : Bool) (s : State) (hs : s.Canon) : ResCanon (execRwrite admitted s) := by
  refine (resCanon_next _).2 (State.serve_canon 2 (fun s d hs => ?_) hs)
  dsimp only
  split
  · exact hs.of_parts (State.answer_parts ..)
  · split
    · exact hs.of_parts (State.answer_parts ..)
    · exact (hs.setStaging (SMap.wf_setList _ _ _ _ hs.staging)).of_parts (State.answer_parts ..)

/-! ### The log, repairs and the survey's bloom -/

theorem State.signal_canon (s : State) (port v : Nat) : (State.signal s port v).Canon ↔ s.Canon := by
  simp only [State.Canon, State.signal, State.emit_parts, canon_upd, canon_ite, ite_self, Nat.reduceAnd]

theorem State.hpEvent_canon (s : State) (port : Nat) (e : Fld) : (State.hpEvent s port e).Canon ↔ s.Canon := by
  simp only [State.Canon, State.hpEvent, State.setReg_parts, State.signal_canon, Nat.reduceAnd]

theorem State.queueEntry_canon (s : State) (e : LogEntry) : (State.queueEntry s e).Canon ↔ s.Canon := by
  simp only [State.Canon, State.queueEntry, State.setReg_parts, State.signal_canon, canon_ite, ite_self, canon_foldl,
    implies_true, Nat.reduceAnd]

theorem State.newEntry_canon (s : State) (e : LogEntry) : (State.newEntry s e).Canon ↔ s.Canon := by
  simp only [State.Canon, State.newEntry, State.addReg_parts, State.bcastCell_parts, State.queueEntry_canon, canon_upd,
    canon_ite, ite_self, Nat.reduceAnd]

theorem State.logReport_canon (s : State) (r : Report) : (State.logReport s r).Canon ↔ s.Canon := by
  simp only [State.Canon, State.logReport, State.emcy_parts, State.hpEvent_canon, State.newEntry_canon, State.satReg_parts,
    State.setOd_parts, State.setReg_parts, State.updField_parts, canon_upd, canon_ite, ite_self, Nat.reduceAnd]

theorem State.unitLost_canon (s : State) (u : Nat) (hs : s.Canon) : (State.unitLost s u).Canon := by
  unfold State.unitLost
  refine canon_foldl_of (fun s a hs => ?_) _ hs
  split
  · exact hs.setStaging (SMap.wf_keep _ _ _ hs.staging)
  · simp only [State.Canon, canon_ite, canon_upd, hs, ite_self]

theorem State.reserveMoves_canon (s : State) (f key units : Nat) (hs : s.Canon) : (State.reserveMoves s f key units).Canon := by
  unfold State.reserveMoves
  split
  · exact hs
  · dsimp only
    refine (canon_upd _ rfl rfl).2 ?_
    split
    · exact hs
    · exact State.unitLost_canon _ _ hs

theorem State.permanent_canon (s : State) (f key units : Nat) (hs : s.Canon) : (State.permanent s f key units).Canon := by
  simp only [State.Canon, State.permanent, State.beginMigrations_parts, State.classReport_parts, State.replan_parts,
    State.reserveMoves_canon, canon_upd, canon_ite, ite_self, Nat.reduceAnd, hs]

theorem State.bloomSettle_canon {s : State} (f : Nat) (hs : s.Canon) : (State.bloomSettle s f).Canon := by
  have hbad : ∀ ks : List Nat, (ks.foldl (fun s k => s.permanent f k 1) s).Canon :=
    fun ks => canon_foldl_of (fun s k => State.permanent_canon s f k 1) ks hs
  simp only [State.Canon, State.bloomSettle, canon_ite, State.confirm_parts, State.addReg_parts, State.mapLive_parts,
    State.setReg_parts, Nat.reduceAnd, hbad, hs, ite_self]

theorem State.bloomFinish_canon {s : State} (f : Nat) (hs : s.Canon) : (State.bloomFinish s f).Canon := by
  have honce : ∀ (s : State) (n : Nat), s.Canon →
      (((s.mapTiles f (Tile.bloomEnd true)).setReg F.FLD_BLOOM_OKCOUNT n f).bloomSettle f).Canon :=
    fun s n hs => State.bloomSettle_canon f ((canon_of_parts ((State.setReg_parts ..).trans (State.mapTiles_parts ..))).2 hs)
  unfold State.bloomFinish
  dsimp only
  split
  · exact hs
  · exact honce _ _ (honce _ _ (honce _ _ hs))

theorem State.wipeStaging_canon (s : State) (off n : Nat) (hs : s.Canon) : (State.wipeStaging s off n).Canon :=
  hs.setStaging (SMap.wf_keep _ _ _ hs.staging)

theorem State.dropFlying_canon (s : State) (port : Nat) : (State.dropFlying s port).Canon ↔ s.Canon := by
  unfold State.dropFlying
  dsimp only
  refine canon_foldl _ (fun s e => ?_) _ _
  refine (canon_foldl _ (fun s k => ?_) _ _).trans ?_ <;> exact canon_upd _ (by rfl) (by rfl)

/-! ### Reset and release -/

theorem State.hostDown_canon (s : State) (port : Nat) : (State.hostDown s port).Canon ↔ s.Canon := by
  simp only [State.Canon, State.hostDown, State.dropFlying_canon, canon_upd]

theorem State.bcResume_canon (s : State) : (State.bcResume s).Canon ↔ s.Canon := by
  simp only [State.Canon, State.bcResume, canon_upd, canon_ite, ite_self]

theorem State.cutInstall_canon (s : State) (hs : s.Canon) : (State.cutInstall s).Canon := by
  simp only [State.Canon, State.cutInstall, State.setReg_parts, State.wipeStaging_canon, canon_upd, canon_ite, ite_self,
    Nat.reduceAnd, hs]

theorem State.clearModule_canon (s : State) (lvl : Nat) : (State.clearModule s lvl).Canon ↔ s.Canon := by
  simp only [State.Canon, State.clearModule, State.apAbort_canon, State.bcResume_canon, State.hostDown_canon,
    State.portDown_parts, State.restartKeys_parts, State.ropeCut_parts, State.setReg_parts, State.updPort_parts, canon_upd,
    canon_ite, ite_self, canon_foldl, implies_true, Nat.reduceAnd]

theorem State.coldStart_canon (s : State) (source : Nat) : (State.coldStart s source).Canon := by
  unfold State.coldStart
  dsimp only
  simp only [State.Canon, State.remeasure_parts, State.syncRst_parts, State.pushHist_parts, State.setReg_parts,
    State.setRail_parts, canon_upd, canon_foldl, implies_true, Nat.reduceAnd]
  rfl

theorem resetKeeps_canon : ResetKeeps State.Canon where
  hist _ _ _ := (canon_of_parts (State.pushHist_parts ..)).2
  cause _ _ _ _ _ _ := (canon_of_parts (State.setCause_parts ..)).2
  fault _ _ _ _ _ _ := (canon_of_parts (State.moduleFault_parts ..)).2
  field _ _ _ := (canon_of_parts (State.enterField_parts ..)).2
  install s := State.cutInstall_canon s
  module _ _ := (State.clearModule_canon ..).2
  regs _ _ _ _ _ := (canon_of_parts (State.clearRegs_parts ..)).2
  disabled _ := (canon_of_parts (State.keepDisabled_parts ..)).2
  needs _ := (canon_of_parts (State.keepNeeds_parts ..)).2
  controller s _ := (canon_upd s rfl rfl).2
  sync _ := (canon_of_parts (State.syncRst_parts ..)).2

theorem State.resetReq_canon (s : State) (source qual level : Nat) (all0 : Bool) (fields0 : Nat) (hs : s.Canon) :
    (State.resetReq s source qual level all0 fields0).Canon := by
  by_cases hl : level = 4
  · subst hl
    simp only [State.Canon, State.resetReq, canon_ite, State.coldStart_canon, State.syncRst_parts, State.setCause_parts,
      State.pushHist_parts, Nat.reduceAnd, hs, ite_self, ite_true]
  · exact State.resetReq_keeps resetKeeps_canon s _ _ _ _ _ hl hs

theorem State.migrateCut_canon (s : State) (f col : Nat) : (State.migrateCut s f col).Canon ↔ s.Canon := by
  simp only [State.Canon, State.migrateCut, State.moduleFault_parts, State.rebuildReserve_parts, State.reloadField_parts,
    State.remeasure_parts, State.setReg_parts, State.setTile_parts, State.updField_parts, canon_upd, canon_foldl, implies_true,
    Nat.reduceAnd, Ledger.rebuildAll_mem]

theorem State.step8_canon (s : State) (hs : s.Canon) : (State.step8 s).Canon := by
  have hbloom : (s.allFields.foldl (fun s f => s.bloomFinish f) s).Canon :=
    canon_foldl_of (fun _ f => State.bloomFinish_canon f) _ hs
  simp only [State.Canon, State.step8, canon_ite, canon_foldl, canon_upd, State.beginMigrations_parts, State.syncRst_parts,
    State.migrateCut_canon, State.reinstall_parts, State.retarget_parts, implies_true, Nat.reduceAnd, hbloom, hs, ite_self]

theorem State.releaseStep_canon (s : State) (ready sel : Nat) (hs : s.Canon) : (State.releaseStep s ready sel).Canon := by
  simp only [State.Canon, State.releaseStep, mask_ite]
  (repeat' split) <;> simp only [State.Canon, State.activate_parts, State.selectMref_parts, State.setReg_parts,
    State.settleDict_parts, State.step5_parts, State.step6_parts, State.step7_parts, State.step8_canon, State.syncRst_parts,
    State.updField_parts, canon_upd, canon_foldl, implies_true, Nat.reduceAnd, hs]

theorem execPor_canon (latched : Bool) (s : State) : ResCanon (execPor latched s) := by
  simp only [State.Canon, execPor, resCanon_next, State.coldStart_canon]

theorem execBor_canon (s : State) : ResCanon (execBor s) := by
  simp only [State.Canon, execBor, resCanon_next, State.coldStart_canon, canon_upd]

theorem execModResetNLow_canon (s : State) (hs : s.Canon) : ResCanon (execModResetNLow s) := by
  simp only [State.Canon, execModResetNLow, resCanon_next, State.resetReq_canon, State.setReg_parts, canon_ite, ite_self,
    Nat.reduceAnd, hs]

theorem State.swrDo_canon (s : State) (op level : Nat) (all0 : Bool) (fields : Nat) (hs : s.Canon) :
    (State.swrDo s op level all0 fields).Canon := by
  simp only [State.Canon, State.swrDo, State.resetReq_canon, State.syncRst_parts, canon_upd, canon_ite, ite_self,
    Nat.reduceAnd, hs]

theorem State.rstCmd_canon (s : State) (op level : Nat) (force : Bool) (hs : s.Canon) :
    (State.rstCmd s op level force).Canon := by
  simp only [State.Canon, State.rstCmd, State.cmd_parts, State.setReg_parts, State.swrDo_canon, canon_ite, ite_self,
    Nat.reduceAnd, hs]

theorem execReset_canon (level : BitVec 4) (force : Bool) (s : State) (hs : s.Canon) : ResCanon (execReset level force s) := by
  simp only [State.Canon, execReset, resCanon_next, State.rstCmd_canon, hs]

theorem execHold_canon (level : BitVec 4) (force : Bool) (s : State) (hs : s.Canon) : ResCanon (execHold level force s) := by
  simp only [State.Canon, execHold, resCanon_next, State.rstCmd_canon, hs]

theorem execRstRelease_canon (s : State) (hs : s.Canon) : ResCanon (execRstRelease s) := by
  simp only [State.Canon, execRstRelease, resCanon_next, State.rstCmd_canon, hs]

theorem execFieldPllUnlock_canon (f : Fin 48) (s : State) (hs : s.Canon) : ResCanon (execFieldPllUnlock f s) := by
  simp only [State.Canon, execFieldPllUnlock, resCanon_next, resCanon_ite, State.doneStep_parts, State.resetReq_canon,
    State.setLock_parts, State.setReg_parts, State.stopRamp_parts, canon_ite, ite_self, Nat.reduceAnd, hs]

theorem execModulePllUnlock_canon (link : Bool) (s : State) (hs : s.Canon) : ResCanon (execModulePllUnlock link s) := by
  simp only [State.Canon, execModulePllUnlock, resCanon_next, resCanon_ite, State.resetReq_canon, State.setReg_parts,
    State.stopRamp_parts, Nat.reduceAnd, hs, ite_self]

theorem execWdt_canon (s : State) (hs : s.Canon) : ResCanon (execWdt s) := by
  simp only [State.Canon, execWdt, resCanon_next, resCanon_ite, State.recovery_parts, State.resetReq_canon, State.setReg_parts,
    canon_ite, ite_self, Nat.reduceAnd, hs]

theorem State.lockupReset_canon (s : State) (f qual : Nat) (hs : s.Canon) : (State.lockupReset s f qual).Canon := by
  simp only [State.Canon, State.lockupReset, State.resetReq_canon, hs]

theorem execStall_canon (f : Fin 48) (s : State) (hs : s.Canon) : ResCanon (execStall f s) := by
  simp only [State.Canon, execStall, resCanon_next, resCanon_ite, State.lockupReset_canon, hs, ite_self]

theorem execSchCoreLockup_canon (a : Addr) (s : State) (hs : s.Canon) : ResCanon (execSchCoreLockup a s) := by
  unfold execSchCoreLockup
  (repeat' split) <;> simp only [State.Canon, resCanon_next, resCanon_ite, State.absorb_canon, State.lockupReset_canon, hs,
    ite_self]

/-! ### The rope -/

theorem State.flushRope_canon (s : State) : (State.flushRope s).Canon ↔ s.Canon := by
  simp only [State.Canon, State.flushRope, State.setReg_parts, State.updPort_parts, canon_upd, canon_ite, ite_self,
    canon_foldl, implies_true, Nat.reduceAnd, Ledger.discard_mem]

theorem State.stopRope_canon (s : State) (reason : Nat) : (State.stopRope s reason).Canon ↔ s.Canon := by
  simp only [State.Canon, State.stopRope, canon_upd, State.setReg_parts, State.flushRope_canon, State.haltAll_parts,
    Nat.reduceAnd]

theorem State.takeStart_canon (s : State) (b : List Nat) : (State.takeStart s b).Canon ↔ s.Canon := by
  simp only [State.Canon, State.takeStart, State.setReg_parts, canon_upd, canon_ite, ite_self, Nat.reduceAnd,
    Ledger.rebuildBegun_mem]

theorem State.takeInvoke_canon (s : State) (cell : Cell) : (State.takeInvoke s cell).Canon ↔ s.Canon := by
  unfold State.takeInvoke
  extract_lets b i _ s1
  have h1 : s1.Canon ↔ s.Canon := canon_upd s (by rfl) (by rfl)
  simp only [canon_ite, State.Canon, State.moduleFault_parts, canon_upd, Nat.reduceAnd, h1, ite_self]

theorem State.takeCommit_canon (s : State) (b : List Nat) : (State.takeCommit s b).Canon ↔ s.Canon := by
  unfold State.takeCommit
  extract_lets _ s1 _ _ s2
  have h2 : s2.Canon ↔ s.Canon := (canon_upd s1 (by rfl) (by rfl)).trans (canon_of_parts (State.setReg_parts ..))
  split
  · exact h2
  · extract_lets _ s3 s4
    have h4 : s4.Canon ↔ s2.Canon := canon_of_parts (by simp only [s4, s3, State.setReg_parts, State.setSlot_parts,
      Nat.reduceAnd])
    exact (canon_upd s4 (by rfl) (by rfl)).trans (h4.trans h2)

theorem State.takeAbort_canon (s : State) (b : List Nat) (hs : s.Canon) : (State.takeAbort s b).Canon := by
  simp only [State.Canon, State.takeAbort, State.flushRope_canon, State.haltAll_parts, State.resetReq_canon,
    State.setReg_parts, State.setRopeState_parts, State.stopRope_canon, canon_upd, canon_ite, ite_self, Nat.reduceAnd, hs]

theorem State.takeEpoch_canon (s : State) (c : Cell) (hs : s.Canon) : (State.takeEpoch s c).Canon := by
  simp only [State.Canon, State.takeEpoch]
  (repeat' split) <;> simp only [State.Canon, State.takeAbort_canon, State.takeClear_parts, State.takeCommit_canon,
    State.takeInvoke_canon, State.takeMark_parts, State.takeStart_canon, Nat.reduceAnd, hs]

theorem State.castEpoch_canon (s : State) (b : List Nat) (hs : s.Canon) : (State.castEpoch s b).Canon := by
  simp only [State.Canon, State.castEpoch, State.bcastCell_parts, State.takeEpoch_canon, canon_ite, ite_self, Nat.reduceAnd, hs]

theorem nextEpoch_canon {s s' : State} {sub : Nat} {c : Cell} (h : s.nextEpoch sub = some (c, s')) : s'.Canon ↔ s.Canon :=
  canon_of_parts (nextEpoch_parts h)

theorem State.serveEpoch_canon (s : State) (sub : Nat) (hs : s.Canon) : (State.serveEpoch s sub).Canon := by
  unfold State.serveEpoch
  cases h : s.nextEpoch sub with
  | none => exact hs
  | some e => exact State.takeEpoch_canon _ _ ((nextEpoch_canon h).2 hs)

theorem State.castAbort_canon (s : State) (code origin : Nat) (hs : s.Canon) : (State.castAbort s code origin).Canon := by
  unfold State.castAbort
  (repeat' split) <;> simp only [State.Canon, State.castEpoch_canon, canon_ite, ite_self, hs]

theorem State.trigger_canon (s : State) (code acyc origin : Nat) (hs : s.Canon) : (State.trigger s code acyc origin).Canon := by
  simp only [State.Canon, State.trigger, State.castAbort_canon, State.holdLow_parts, canon_upd, canon_ite, ite_self,
    Nat.reduceAnd, hs]

theorem State.enterReplan_canon (s : State) (reason : Nat) : (State.enterReplan s reason).Canon ↔ s.Canon := by
  simp only [State.Canon, State.enterReplan, State.bcastCell_parts, State.flushRope_canon, State.haltAll_parts,
    State.holdLow_parts, State.setReg_parts, canon_upd, canon_ite, ite_self, Nat.reduceAnd]

theorem State.standby_canon (s : State) (hs : s.Canon) : (State.standby s).Canon := by
  simp only [State.Canon, State.standby, State.railsOff_parts, State.resetReq_canon, State.setReg_parts, canon_upd, canon_ite,
    ite_self, Nat.reduceAnd, hs]

theorem State.trip_canon (s : State) (cause : Nat) (hs : s.Canon) : (State.trip s cause).Canon := by
  simp only [State.Canon, State.trip, State.moduleFault_parts, State.setOd_parts, State.setReg_parts, State.standby_canon,
    canon_ite, ite_self, Nat.reduceAnd, hs]

theorem execPwrEnLow_canon (s : State) (hs : s.Canon) : ResCanon (execPwrEnLow s) := by
  simp only [State.Canon, execPwrEnLow, resCanon_next, State.standby_canon, canon_upd, canon_ite, ite_self, hs]

theorem execLeakResponse_canon (s : State) (hs : s.Canon) : ResCanon (execLeakResponse s) := by
  simp only [State.Canon, execLeakResponse, resCanon_next, resCanon_ite, State.fresh_parts, State.moduleFault_parts,
    State.setOd_parts, State.setReg_parts, State.trip_canon, canon_upd, Nat.reduceAnd, hs, ite_self]

theorem execFlowLowTrip_canon (s : State) (hs : s.Canon) : ResCanon (execFlowLowTrip s) := by
  simp only [State.Canon, execFlowLowTrip, resCanon_next, resCanon_ite, State.trip_canon, hs, ite_self]

theorem execDiodeSample_canon (temps : List (BitVec 16)) (s : State) (hs : s.Canon) : ResCanon (execDiodeSample temps s) := by
  unfold execDiodeSample
  extract_lets s0 mx grad s1 s2 s3 s4 keep _ s5 past cause
  have h0 : s0.Canon := hs.of_parts (State.takeTemps_parts ..)
  have h3 : s3.Canon := by
    simp only [s3, s2, s1, State.Canon, canon_foldl, canon_ite, State.goDark_parts, State.setNeed_parts,
      State.moduleFault_parts, State.setStage_parts, implies_true, Nat.reduceAnd, h0, ite_self]
  have h5 : s5.Canon := (h3.of_parts (State.setStage_parts ..) : s4.Canon).upd
  refine (resCanon_next _).2 ?_
  split
  · exact h5
  · exact State.trip_canon _ _ (h5.of_parts (State.setStage_parts ..))

theorem execFieldReturn_canon (f : Fin 48) (s : State) (hs : s.Canon) : ResCanon (execFieldReturn f s) := by
  simp only [State.Canon, execFieldReturn, resCanon_next, resCanon_ite, State.bloomField_parts, State.bloomFinish_canon,
    State.catchUp_parts, State.mapTiles_parts, State.migrateCut_canon, State.reloadField_parts, State.restoreReturn_parts,
    State.undark_parts, State.wakeRail_parts, canon_foldl, implies_true, Nat.reduceAnd, hs, ite_self]

theorem execPwrRailFail_canon (rail : Fin 8) (f : Fin 48) (s : State) (hs : s.Canon) : ResCanon (execPwrRailFail rail f s) := by
  simp only [State.Canon, execPwrRailFail, resCanon_next, resCanon_ite, State.moduleFault_parts, State.replan_parts,
    State.setRail_parts, State.trip_canon, canon_ite, ite_self, Nat.reduceAnd, hs]

theorem execMrefFail_canon (s : State) (hs : s.Canon) : ResCanon (execMrefFail s) := by
  simp only [State.Canon, execMrefFail, resCanon_next, State.resetReq_canon, State.setReg_parts, State.stopRamp_parts,
    Nat.reduceAnd, hs]

theorem execStop_canon (s : State) (hs : s.Canon) : ResCanon (execStop s) := by
  simp only [State.Canon, execStop, resCanon_next, resCanon_ite, State.castEpoch_canon, State.ropeCmd_parts,
    State.stopRope_canon, Nat.reduceAnd, hs, ite_self]

theorem execPrepareDone_canon (mref : Bool) (s : State) (hs : s.Canon) : ResCanon (execPrepareDone mref s) := by
  have hstop : ∀ k, ResCanon (.next (s.stopRope k)) := fun k => (resCanon_next _).2 ((State.stopRope_canon s k).2 hs)
  unfold execPrepareDone
  extract_lets anchor right s1 kids d me back asked need _ s2 es e _ _
  have h1 : s1.Canon := by
    simp only [s1, State.Canon, canon_ite, State.takeMref_parts, Nat.reduceAnd, hs, ite_self]
  have h2 : s2.Canon := h1.upd
  have hset : ∀ v, (s2.setReg F.BC_ROPE_STATUS_STATE v).Canon := fun v => h2.of_parts (State.setReg_parts ..)
  split
  · exact (resCanon_next _).2 hs
  · split
    · exact hstop 3
    · split
      · exact hstop 4
      · split
        · exact hstop 5
        · split
          · exact (resCanon_next _).2 h1
          · split
            · refine (resCanon_next _).2 ?_
              cases e with
              | some e => exact (hset 6).upd
              | none => exact (hset 3).upd
            · split
              · exact (resCanon_next _).2 (hset 3).upd
              · exact (resCanon_next _).2 (hset 2)

theorem State.takeAnswer_canon {s : State} (op : Nat) {g : State → Dyn → State} (hg : ∀ s d, s.Canon → (g s d).Canon)
    (hs : s.Canon) : (s.takeAnswer op g).Canon := by
  unfold State.takeAnswer
  cases h : s.takeDyn (fun d => d.op = op && d.vn = 1) with
  | none => exact hs
  | some e =>
    have he := (takeDyn_canon h).2 hs
    dsimp only
    split
    · exact hg _ _ he.upd
    · exact he

theorem execMailDone_canon (s : State) (hs : s.Canon) : ResCanon (execMailDone s) := by
  refine (resCanon_next _).2 (State.takeAnswer_canon _ (fun s d hs => ?_) hs)
  simp only [State.Canon, canon_ite, canon_upd, State.setReg_parts, State.stopRope_canon, Nat.reduceAnd, hs, ite_self]

theorem execFormTimeout_canon (s : State) (hs : s.Canon) : ResCanon (execFormTimeout s) := by
  simp only [State.Canon, execFormTimeout, resCanon_next, resCanon_ite, State.bcastCell_parts, State.stopRope_canon,
    Nat.reduceAnd, hs, ite_self]

theorem State.castStart_canon (s : State) (slack : Nat) (e : Option Nat) (hs : s.Canon) :
    (State.castStart s slack e).Canon := by
  simp only [State.Canon, State.castStart, State.castEpoch_canon, hs]

theorem execStart_canon (slack : BitVec 32) (s : State) (hs : s.Canon) : ResCanon (execStart slack s) := by
  unfold execStart
  cases h : s.nextEpoch 2 with
  | some e => exact (resCanon_next _).2 (State.takeEpoch_canon _ _ ((nextEpoch_canon h).2 hs))
  | none =>
    dsimp only
    split
    · refine (resCanon_next _).2 ?_
      split
      · exact (canon_of_parts (State.retrainPoor_parts ..)).2 hs
      · exact hs
    · split
      · exact (resCanon_next _).2 (State.castEpoch_canon _ _ hs)
      · exact (resCanon_next _).2 (State.castStart_canon _ _ _ hs)

theorem execRopeStart_canon (s : State) (hs : s.Canon) : ResCanon (execRopeStart s) := by
  unfold execRopeStart
  (repeat' split) <;> simp only [State.Canon, resCanon_next, State.announced_parts, State.restartKeys_parts,
    State.restoreSlot_parts, State.setDivider_parts, State.setReg_parts, State.setRopeState_parts, canon_upd, Nat.reduceAnd, hs]

theorem execEpochBoundary_canon (s : State) (hs : s.Canon) : ResCanon (execEpochBoundary s) := by
  simp only [State.Canon, execEpochBoundary, resCanon_next, resCanon_ite, State.castEpoch_canon, State.request_parts,
    State.retarget_parts, State.sendRatio_parts, canon_upd, canon_ite, ite_self, Nat.reduceAnd, hs]

theorem execInvocationIssue_canon (e : BitVec 8) (start now : BitVec 64) (ups : List (Addr × Upset)) (s : State)
    (hs : s.Canon) : ResCanon (execInvocationIssue e start now ups s) := by
  unfold execInvocationIssue
  extract_lets u fresh was s1 q ps r k s2 _ s3
  have hu : u.Canon := hs.of_parts (State.upsets_parts ..)
  have h1 : s1.Canon := by
    unfold s1
    split
    · exact State.castStart_canon _ _ _ hu
    · exact hu
  have h2 : s2.Canon := by
    unfold s2
    split
    · exact h1.upd
    · exact h1
  have h3 : s3.Canon := by
    unfold s3
    split
    · exact h2.upd
    · exact h2
  split
  · exact (resCanon_next _).2 hu
  · split
    · exact (resCanon_next _).2 hu
    · split
      · exact (resCanon_next _).2 (hu.of_parts (State.setReg_parts ..))
      · split
        · exact (resCanon_next _).2 hu
        · exact (resCanon_next _).2 (State.castEpoch_canon _ _ h3)

theorem execClearBroadcast_canon (s : State) (hs : s.Canon) : ResCanon (execClearBroadcast s) := by
  unfold execClearBroadcast
  split
  · exact (resCanon_next _).2 hs
  · extract_lets c0 c1 c2 _ s1 s2
    have h1 : s1.Canon := hs.upd
    have h2 : s2.Canon := State.castEpoch_canon _ _ h1
    split
    · exact (resCanon_next _).2 h2
    · split
      · exact (resCanon_next _).2 h2
      · split
        · exact (resCanon_next _).2 h2
        · exact (resCanon_next _).2 (State.castEpoch_canon _ _ h2.upd)

theorem takeCell_canon {s s' : State} {p : Cell → Bool} {x : Nat × Cell} (h : s.takeCell p = some (x, s')) :
    s'.Canon ↔ s.Canon :=
  canon_of_parts (takeCell_parts h)

theorem execUp_canon (s : State) (hs : s.Canon) : ResCanon (execUp s) := by
  unfold execUp
  cases h : s.takeCell (fun c => c.type = 1 && leAt c.body 0 1 = 4) with
  | none => exact (resCanon_next _).2 hs
  | some e =>
    obtain ⟨x, u⟩ := e
    have hu := (takeCell_canon h).2 hs
    dsimp only
    split
    · exact (resCanon_next _).2 hu
    · refine (resCanon_next _).2 ?_
      split
      · exact State.trigger_canon (hs := hu.upd.of_parts (State.setReg_parts ..)) ..
      · exact hu.upd.of_parts (State.setReg_parts ..)

theorem execMemberLost_canon (s : State) (hs : s.Canon) : ResCanon (execMemberLost s) := by
  simp only [State.Canon, execMemberLost, resCanon_next, resCanon_ite, State.trigger_canon, hs, ite_self]

theorem execRestoreComplete_canon (csum : Bool) (s : State) (hs : s.Canon) : ResCanon (execRestoreComplete csum s) := by
  unfold execRestoreComplete
  (repeat' split) <;> simp only [State.Canon, resCanon_next, State.mapTiles_parts, State.moduleFault_parts,
    State.restoreSlot_parts, State.setRopeState_parts, State.stopRope_canon, canon_upd, canon_ite, ite_self, canon_foldl,
    implies_true, Nat.reduceAnd, hs]

theorem execShortWaitExpiry_canon (s : State) (hs : s.Canon) : ResCanon (execShortWaitExpiry s) := by
  simp only [State.Canon, execShortWaitExpiry, resCanon_next, resCanon_ite, State.enterReplan_canon, hs, ite_self]

theorem execAnchorLost_canon (s : State) (hs : s.Canon) : ResCanon (execAnchorLost s) := by
  simp only [State.Canon, execAnchorLost, resCanon_next, resCanon_ite, State.stopRope_canon, hs, ite_self]

theorem Ledger.wipeSessions_mem (xs : List (Nat × Session)) (l : Ledger) :
    (xs.foldl (fun (l : Ledger) e => (l.erase e.1).upd e.1 (fun x => { x with offer := none })) l).mem = l.mem :=
  Ledger.foldl_mem _ (by intros; rfl) _ _

theorem State.tenantWipe_canon (s : State) (keep : Nat) (hs : s.Canon) : (State.tenantWipe s keep).Canon := by
  unfold State.tenantWipe
  extract_lets l0 l1 u _
  have hu : u.Canon := hs.of_parts (State.mapFields_parts ..)
  have hsame : u.ldg = s.ldg := Part.same_of_mask .ldg (State.mapFields_parts (M := 16) ..) rfl
  have hmem : l1.mem = u.ldg.mem := (Ledger.wipeSessions_mem _ _).trans (congrArg Ledger.mem hsame.symm)
  clear_value u l1
  exact (hu.setStaging (SMap.wf_keep _ _ (fun k => decide (k < keep)) hu.staging)).upd rfl hmem

theorem State.debugWipe_canon (s : State) (hs : s.Canon) : (State.debugWipe s).Canon := by
  simp only [State.Canon, State.debugWipe, State.clearArray_parts, State.setReg_parts, State.tenantWipe_canon,
    State.unformSolo_parts, canon_upd, Nat.reduceAnd, hs]

theorem execInstall_canon (len : BitVec 48) (sigOk unwrapOk tagOk : Bool) (plain : Blob) (s : State) (hs : s.Canon) :
    ResCanon (execInstall len sigOk unwrapOk tagOk plain s) := by
  simp only [State.Canon, execInstall, resCanon_next, resCanon_ite, State.cmd_parts, State.moduleFault_parts,
    State.refuseImage_parts, State.setReg_parts, State.wipeStaging_canon, canon_upd, canon_ite, ite_self, Nat.reduceAnd, hs]

theorem State.putInstall_canon (s : State) (m : Img) (tag len : Nat) (hs : s.Canon) : (State.putInstall s m tag len).Canon := by
  simp only [State.Canon, State.putInstall, State.commitImage_parts, State.formSolo_parts, State.imageRegs_parts,
    State.tenantWipe_canon, State.unformSolo_parts, State.wipeStaging_canon, canon_upd, canon_ite, ite_self, Nat.reduceAnd,
    Ledger.rebuildAll_mem, hs]

theorem execInstallCommit_canon (s : State) (hs : s.Canon) : ResCanon (execInstallCommit s) := by
  unfold execInstallCommit
  (repeat' split) <;> simp only [State.Canon, resCanon_next, State.cmd_parts, State.putInstall_canon, Nat.reduceAnd, hs]

theorem execReturnComplete_canon (f : Fin 48) (s : State) (hs : s.Canon) : ResCanon (execReturnComplete f s) := by
  simp only [State.Canon, execReturnComplete, resCanon_next, resCanon_ite, State.bloomFinish_canon, State.cmd_parts,
    State.setReg_parts, Nat.reduceAnd, hs, ite_self]

theorem State.setLedger_canon (s : State) (v : Nat) : (State.setLedger s v).Canon ↔ s.Canon := by
  simp only [State.Canon, State.setLedger, State.hpEvent_canon, canon_upd, canon_ite, ite_self]

theorem State.refreshLedger_canon (s : State) : (State.refreshLedger s).Canon ↔ s.Canon := by
  simp only [State.Canon, State.refreshLedger, State.setLedger_canon, canon_ite, ite_self]

theorem State.stageBloom_canon (s : State) (hs : s.Canon) : (State.stageBloom s).Canon := by
  have hbloom : (s.allFields.foldl (fun s f => s.bloomFinish f) s).Canon :=
    canon_foldl_of (fun _ f => State.bloomFinish_canon f) _ hs
  unfold State.stageBloom
  split
  · simp only [State.Canon, canon_ite, canon_upd, State.setReg_parts, Nat.reduceAnd, hs, ite_self]
  · split
    · exact hs
    · simp only [State.Canon, State.refreshLedger_canon, State.hpEvent_canon]
      exact canon_of_wf hbloom.staging rfl

theorem execStartupStage_canon (io : StageInput) (s : State) (hs : s.Canon) : ResCanon (execStartupStage io s) := by
  simp only [State.Canon, execStartupStage, resCanon_next, resCanon_ite, State.stageBloom_canon, State.stageClocks_parts,
    State.stageFirmware_parts, State.stageMap_parts, State.stageRom_parts, State.stageStandby_parts, State.stageTrain_parts,
    canon_ite, ite_self, Nat.reduceAnd, hs]

theorem execBloomCheck_canon (a : Addr) (good : Bool) (s : State) (hs : s.Canon) : ResCanon (execBloomCheck a good s) := by
  unfold execBloomCheck
  (repeat' split) <;> simp only [State.Canon, resCanon_next, resCanon_ite, State.addReg_parts, State.bloomSettle_canon,
    State.setTile_parts, canon_ite, ite_self, Nat.reduceAnd, hs]

theorem State.soloInstall_canon (s : State) (ix : Nat) (ok : Bool) (tenant : Nat) (plain : Blob) (until_ : Option Nat)
    (hs : s.Canon) : (State.soloInstall s ix ok tenant plain until_).Canon := by
  simp only [State.Canon, State.soloInstall, State.odCmd_parts, State.putInstall_canon, State.setOd_parts, State.setReg_parts,
    canon_upd, canon_ite, ite_self, Nat.reduceAnd, hs]

theorem execBurnIn_canon (ix : BitVec 8) (secs : BitVec 32) (d2 : BitVec 8) (ok : Bool) (tenant : Fin 16) (plain : Blob)
    (s : State) (hs : s.Canon) :
    ResCanon (execBurnIn ix secs d2 ok tenant plain s) := by
  simp only [State.Canon, execBurnIn, resCanon_next, resCanon_ite, State.odCmd_parts, State.setNeed_parts,
    State.soloInstall_canon, canon_ite, ite_self, Nat.reduceAnd, hs]

theorem State.svyFails_canon (s : State) (f : Nat) (fails : List (Fin 17424 × BitVec 16)) (hs : s.Canon) :
    (State.svyFails s f fails).Canon :=
  canon_foldl_of (fun _ _ hs => State.permanent_canon _ _ _ _
    ((canon_of_parts ((State.satReg_parts ..).trans (State.classReport_parts ..))).2 hs)) _ hs

theorem execSurveySlice_canon (f : Fin 48) (fails : List (Fin 17424 × BitVec 16)) (s : State) (hs : s.Canon) :
    ResCanon (execSurveySlice f fails s) := by
  simp only [State.Canon, execSurveySlice, resCanon_next, resCanon_ite, State.addReg_parts, State.setReg_parts,
    State.svyFails_canon, Nat.reduceAnd, hs, ite_self]

theorem State.fullEnd_canon (s : State) (f : Nat) (hs : s.Canon) : (State.fullEnd s f).Canon := by
  have hbloom : (((s.fresh.2.mapTiles f (Tile.surveyed s.fresh.1)).bloomField f).bloomFinish f).Canon :=
    State.bloomFinish_canon f (hs.of_parts ((State.bloomField_parts ..).trans ((State.mapTiles_parts ..).trans
      (State.fresh_parts ..))))
  unfold State.fullEnd
  dsimp only
  split
  · exact hbloom
  · exact hbloom.upd

theorem execAbandonFull_canon (f : Fin 48) (s : State) (hs : s.Canon) : ResCanon (execAbandonFull f s) := by
  simp only [State.Canon, execAbandonFull, resCanon_next, resCanon_ite, State.cmd_parts, State.fullEnd_canon,
    State.setReg_parts, canon_upd, canon_ite, ite_self, Nat.reduceAnd, hs]

theorem execFullSurveyDone_canon (f : Fin 48) (fails : List (Fin 17424 × BitVec 16)) (s : State) (hs : s.Canon) :
    ResCanon (execFullSurveyDone f fails s) := by
  unfold execFullSurveyDone
  split
  · exact (resCanon_next _).2 hs
  · exact (resCanon_next _).2 (State.fullEnd_canon _ _ ((canon_of_parts ((State.cmd_parts ..).trans (State.setReg_parts ..))).2
      (State.svyFails_canon _ _ _ ((canon_of_parts (State.setReg_parts ..)).2 hs))))

theorem execFaultReport_canon (persist : Bool) (s : State) (hs : s.Canon) : ResCanon (execFaultReport persist s) := by
  unfold execFaultReport
  (repeat' split) <;> simp only [State.Canon, resCanon_next, State.chargeOrigin_parts, State.enterReplan_canon,
    State.holdLow_parts, State.logReport_canon, State.permanent_canon, State.seamSlip_parts, State.transient_parts,
    State.trigger_canon, State.updField_parts, canon_upd, canon_ite, ite_self, Nat.reduceAnd, hs]

theorem execFault_canon (s : State) (hs : s.Canon) : ResCanon (execFault s) := by
  unfold execFault
  cases h : s.takeCell (fun c => c.type = 5) with
  | none => exact (resCanon_next _).2 hs
  | some e =>
    obtain ⟨x, u⟩ := e
    have hu := (takeCell_canon h).2 hs
    dsimp only
    refine (resCanon_next _).2 ?_
    split
    · exact (canon_of_parts (State.satReg_parts ..)).2 hu
    · exact (State.newEntry_canon ..).2 hu

theorem execLogbookFlush_canon (s : State) (hs : s.Canon) : ResCanon (execLogbookFlush s) := by
  simp only [State.Canon, execLogbookFlush, resCanon_next, State.logReport_canon, canon_upd, canon_ite, ite_self, hs]

theorem execRetestResult_canon (f : Fin 48) (key : Fin 17424) (fails : BitVec 10) (s : State) (hs : s.Canon) :
    ResCanon (execRetestResult f key fails s) := by
  unfold execRetestResult
  (repeat' split) <;> simp only [State.Canon, resCanon_next, resCanon_ite, State.permanent_canon, State.setReg_parts,
    State.transient_parts, canon_upd, canon_ite, ite_self, Nat.reduceAnd, hs]

theorem execMarkDead_canon (px : BitVec 11) (py : BitVec 10) (s : State) (hs : s.Canon) : ResCanon (execMarkDead px py s) := by
  simp only [State.Canon, execMarkDead, resCanon_next, resCanon_ite, State.fltCmd_parts, State.permanent_canon, Nat.reduceAnd,
    hs, ite_self]

theorem execRprMigrated_canon (f : Fin 48) (s : State) (hs : s.Canon) : ResCanon (execRprMigrated f s) := by
  unfold execRprMigrated
  (repeat' split) <;> simp only [State.Canon, resCanon_next, State.beginMigrations_parts, State.classReport_parts,
    State.rebuildReserve_parts, State.remeasure_parts, State.setReg_parts, State.setTile_parts, canon_upd, canon_foldl,
    implies_true, Nat.reduceAnd, Ledger.rebuildSome_mem, hs]

theorem execBelayCompare_canon (f : Fin 48) (row : Fin 132) (cut t1 t2 cc : Bool) (s : State) (hs : s.Canon) :
    ResCanon (execBelayCompare f row cut t1 t2 cc s) := by
  unfold execBelayCompare
  (repeat' split) <;> simp only [State.Canon, resCanon_next, resCanon_ite, State.addReg_parts, State.blyFault_parts,
    State.charge_parts, State.permanent_canon, State.retestDue_parts, State.satReg_parts, State.setTile_parts,
    State.updField_parts, canon_ite, ite_self, canon_foldl, implies_true, Nat.reduceAnd, hs]

/-! ### The survey window and the dictionary -/

theorem State.surveyRead_canon (s : State) (view off n : Nat) : (State.surveyRead s view off n).1.Canon ↔ s.Canon := by
  simp only [State.Canon, State.surveyRead]
  (repeat' split) <;> simp only [State.Canon, State.absorb_canon, State.satReg_parts, State.svyNote_parts, Nat.reduceAnd]

theorem State.surveyWrite_canon (s : State) (view off : Nat) (data : List Nat) :
    (State.surveyWrite s view off data).1.Canon ↔ s.Canon := by
  unfold State.surveyWrite
  (repeat' split) <;> simp only [State.Canon, State.absorb_canon, State.satReg_parts, State.svyNote_parts, Nat.reduceAnd]

theorem State.odRead_canon (s : State) (ix sub : Nat) : (State.odRead s ix sub).1.Canon ↔ s.Canon := by
  unfold State.odRead
  cases odAt ix sub with
  | inr a => rfl
  | inl e =>
    dsimp only
    split
    · have h := State.surveyRead_canon s 2 (s.od 0x4020 2 % 2 ^ 18) 8
      split <;> rename_i hr <;> rw [hr] at h <;> exact h
    · split
      · rfl
      · split
        · cases s.odBytes ix sub <;> rfl
        · rfl

theorem State.switchProfile_canon (s : State) (n : Nat) (now : Bool) (hs : s.Canon) : (State.switchProfile s n now).Canon := by
  simp only [State.Canon, State.switchProfile, State.odCmd_parts, State.resetReq_canon, State.setOd_parts,
    State.switchPending_parts, canon_ite, ite_self, Nat.reduceAnd, hs]

theorem State.odCommand_canon (s : State) (ix sub v : Nat) (hs : s.Canon) : (State.odCommand s ix sub v).1.Canon := by
  unfold State.odCommand
  (repeat' split) <;> simp only [State.Canon, State.applyTopology_parts, State.loadFactory_parts, State.odCmd_parts,
    State.saveProfile_parts, State.setOd_parts, State.switchProfile_canon, State.swrDo_canon, canon_ite1, ite_self,
    Nat.reduceAnd, hs]

theorem State.odEffectOf_canon (s : State) (ix sub v : Nat) : (State.odEffectOf s ix sub v).Canon ↔ s.Canon := by
  simp only [State.Canon, State.odEffectOf, State.refreshLedger_canon, State.setReg_parts, canon_upd, canon_ite, ite_self,
    Nat.reduceAnd]

theorem State.odWrite_canon (s : State) (transport ix sub : Nat) (data : List Nat) (hs : s.Canon) :
    (State.odWrite s transport ix sub data).1.Canon := by
  unfold State.odWrite
  (repeat' split) <;> simp only [State.Canon, State.odCommand_canon, State.odEffectOf_canon, State.surveyWrite_canon,
    State.writeOd_parts, canon_upd, canon_ite1, ite_self, Nat.reduceAnd, hs]

theorem State.sdoStore_canon (s : State) (src transport key : Nat) (data : List Nat) (ok : List Nat) (hs : s.Canon) :
    (State.sdoStore s src transport key data ok).1.Canon := by
  simp only [State.Canon, State.sdoStore, State.odWrite_canon, State.setSdo_parts, Nat.reduceAnd, hs]

theorem State.sdoDownload_canon (s : State) (src transport : Nat) (fr : List Nat) (hs : s.Canon) :
    (State.sdoDownload s src transport fr).1.Canon := by
  simp only [State.Canon, State.sdoDownload, State.sdoStore_canon, canon_ite1, hs]
  (repeat' split) <;> simp only [State.setSdo_parts, Nat.reduceAnd, hs]

theorem State.sdoUpload_canon (s : State) (src : Nat) (fr : List Nat) : (State.sdoUpload s src fr).1.Canon ↔ s.Canon := by
  simp only [State.Canon, State.sdoUpload, State.odRead_canon, State.setSdo_parts, canon_ite1, ite_self, Nat.reduceAnd]

theorem State.sdoSegment_canon (s : State) (src transport : Nat) (down : Bool) (fr : List Nat) (hs : s.Canon) :
    (State.sdoSegment s src transport down fr).1.Canon := by
  unfold State.sdoSegment
  (repeat' split) <;> simp only [State.Canon, State.sdoStore_canon, State.setSdo_parts, canon_ite1, ite_self, Nat.reduceAnd, hs]

theorem State.sdoServe_canon (s : State) (src transport : Nat) (fr : List Nat) (hs : s.Canon) :
    (State.sdoServe s src transport fr).1.Canon := by
  unfold State.sdoServe
  (repeat' split) <;> simp only [State.Canon, State.sdoDownload_canon, State.sdoSegment_canon, State.sdoUpload_canon,
    State.setSdo_parts, Nat.reduceAnd, hs]

theorem execSdoRequest_canon (frame : List (BitVec 8)) (s : State) (hs : s.Canon) : ResCanon (execSdoRequest frame s) := by
  simp only [State.Canon, execSdoRequest, resCanon_next, resCanon_ite, State.emit_parts, State.sdoServe_canon, canon_ite,
    ite_self, Nat.reduceAnd, hs]

theorem execUdpDatagram_canon (source : BitVec 48) (recs : List (BitVec 16 × List (BitVec 8))) (s : State) (hs : s.Canon) :
    ResCanon (execUdpDatagram source recs s) := by
  unfold execUdpDatagram
  split
  · exact (resCanon_next _).2 hs
  · refine (resCanon_next _).2 (State.Canon.of_parts ?_ (State.emit_parts ..))
    refine canon_foldl1_of (fun r x hr => ?_) _ hs
    split
    · exact hr
    · exact State.sdoServe_canon _ _ _ _ hr

theorem execDictRead_canon (i3c : Bool) (ix : BitVec 16) (sub : BitVec 8) (s : State) (hs : s.Canon) :
    ResCanon (execDictRead i3c ix sub s) := by
  simp only [State.Canon, execDictRead, resCanon_next, resCanon_ite, State.mctpAnswer_parts, State.odRead_canon, Nat.reduceAnd,
    hs, ite_self]

theorem execDictWrite_canon (i3c : Bool) (ix : BitVec 16) (sub : BitVec 8) (data : List (BitVec 8)) (s : State) (hs : s.Canon) :
    ResCanon (execDictWrite i3c ix sub data s) := by
  simp only [State.Canon, execDictWrite, resCanon_next, resCanon_ite, State.mctpAnswer_parts, State.odWrite_canon,
    Nat.reduceAnd, hs, ite_self]

theorem execOdRead_canon (port : Fin 2) (ix : BitVec 16) (sub : BitVec 8) (s : State) (hs : s.Canon) :
    ResCanon (execOdRead port ix sub s) := by
  simp only [State.Canon, execOdRead, resCanon_next, resCanon_ite, State.odRead_canon, State.odWindow_parts,
    State.putOdData_parts, Nat.reduceAnd, hs, ite_self]

theorem execOdWrite_canon (port : Fin 2) (ix : BitVec 16) (sub : BitVec 8) (len : BitVec 12) (s : State) (hs : s.Canon) :
    ResCanon (execOdWrite port ix sub len s) := by
  simp only [State.Canon, execOdWrite, resCanon_next, resCanon_ite, State.odWindow_parts, State.odWrite_canon, Nat.reduceAnd,
    hs, ite_self]

theorem execMgmt_canon (s : State) (hs : s.Canon) : ResCanon (execMgmt s) := by
  unfold execMgmt
  cases h : s.takeCell (fun c => c.type = 6) with
  | none => exact (resCanon_next _).2 hs
  | some e =>
    obtain ⟨x, u⟩ := e
    have hu := (takeCell_canon h).2 hs
    dsimp only
    split
    · exact (resCanon_next _).2 hu
    · split
      · exact (resCanon_next _).2 hu
      · split
        · refine (resCanon_next _).2 ?_
          split <;> exact (canon_of_parts (State.sendCell_parts ..)).2 ((State.odRead_canon ..).2 hu)
        · split
          · refine (resCanon_next _).2 ((canon_of_parts (State.sendCell_parts ..)).2 ?_)
            split
            · exact hu
            · exact State.odWrite_canon _ _ _ _ _ hu
          · exact (resCanon_next _).2 hu

theorem execSurveyRead_canon (port : Fin 2) (view : Fin 3) (off : BitVec 18) (n : Fin 4097) (ups : List (Addr × Upset))
    (s : State) (hs : s.Canon) :
    ResCanon (execSurveyRead port view off n ups s) := by
  simp only [State.Canon, execSurveyRead, resCanon_next]
  (repeat' split) <;> simp only [State.Canon, State.emit_parts, State.surveyRead_canon, State.upsets_parts, Nat.reduceAnd, hs]

theorem execIjtagRw_canon (u : IjtagUpdate) (s : State) (hs : s.Canon) : ResCanon (execIjtagRw u s) := by
  unfold execIjtagRw
  split
  · exact resCanon_of_keeps (execBypass_parts ..) hs
  · have hir : (s.tapIr .write).Canon := hs.of_parts (State.tapIr_parts ..)
    refine (resCanon_next _).2 ?_
    split
    · exact hir
    · cases u with
      | set ix v => exact hir.upd
      | stop f => simp only [State.Canon, canon_ite, State.stopAclk_parts, Nat.reduceAnd, hir, ite_self]
      | resume f => simp only [State.Canon, canon_ite, State.realign_parts, Nat.reduceAnd, hir, ite_self]
      | reset => exact State.resetReq_canon _ _ _ _ _ _ hir

theorem State.relock_canon (s : State) (hs : s.Canon) : (State.relock s).Canon := by
  unfold State.relock
  refine (canon_of_parts ((State.remeasure_parts ..).trans (State.setReg_parts ..))).2 ?_
  refine canon_foldl_of (fun s f hs => ?_) _ ?_
  · exact State.bloomFinish_canon f ((canon_of_parts ((State.bloomField_parts ..).trans ((State.mapTiles_parts ..).trans
      (State.scanEnd_parts ..)))).2 hs)
  · refine (canon_foldl _ (fun s f => canon_of_parts (State.realign_parts ..)) _ _).2 ?_
    exact (canon_upd _ rfl rfl).2 ((canon_of_parts (State.setReg_parts ..)).2 ((State.bcResume_canon ..).2 hs))

/-! ### The host ports and the ledger -/

theorem execPerstN_canon (port : Fin 2) (low : Bool) (s : State) (hs : s.Canon) : ResCanon (execPerstN port low s) := by
  simp only [State.Canon, execPerstN, resCanon_next, State.hostDown_canon, canon_upd, canon_ite, ite_self, Ledger.ite_mem, hs]

theorem execPcieLinkUp_canon (port : Fin 2) (rate : Fin 6) (width : Fin 4) (s : State) (hs : s.Canon) :
    ResCanon (execPcieLinkUp port rate width s) := by
  simp only [State.Canon, execPcieLinkUp, resCanon_next, resCanon_ite, State.hpEvent_canon, State.moduleFault_parts,
    State.setReg_parts, canon_ite, ite_self, Nat.reduceAnd, hs]

theorem execHpLinkDown_canon (port : Fin 2) (s : State) (hs : s.Canon) : ResCanon (execHpLinkDown port s) := by
  simp only [State.Canon, execHpLinkDown, resCanon_next, resCanon_ite, State.dropFlying_canon, State.moduleFault_parts,
    State.setReg_parts, Nat.reduceAnd, hs, ite_self]

theorem Ledger.writeByte_wf {l : Ledger} (off b : Nat) (hl : SMap.wf 0 l.mem = true) :
    SMap.wf 0 (l.writeByte off b).mem = true := by
  unfold Ledger.writeByte
  split
  · exact hl
  · split
    · exact hl
    · exact SMap.wf_set _ _ _ _ hl

theorem Ledger.write_wf (port off : Nat) (bs : List Nat) {l : Ledger} (hl : SMap.wf 0 l.mem = true) :
    SMap.wf 0 (l.write port off bs).mem = true := by
  induction bs generalizing l off with
  | nil => exact hl
  | cons b r ih =>
    unfold Ledger.write
    refine ih _ ?_
    split
    · exact Ledger.writeByte_wf _ _ hl
    · exact hl

theorem Ledger.consumed_mem (l : Ledger) (port k : Nat) (c : Nat × Nat × Nat × Bool) : (l.consumed port k c).mem = l.mem := by
  unfold Ledger.consumed
  dsimp only
  split
  · rfl
  · split <;> rfl

theorem Ledger.ringWritten_mem (l : Ledger) (port k : Nat) : (l.ringWritten port k).mem = l.mem := by
  unfold Ledger.ringWritten
  dsimp only
  split
  · exact Ledger.foldl_mem _ (fun l c => Ledger.consumed_mem l port k c) _ _
  · rfl

theorem State.bar2Write_canon (s : State) (port off : Nat) (data : List Nat) (hs : s.Canon) :
    (State.bar2Write s port off data).Canon := by
  unfold State.bar2Write
  extract_lets bad l0 l1 u
  have h1 : l1.mem = l0.mem := Ledger.foldl_mem _ (fun l k => Ledger.ringWritten_mem l port k) _ _
  have hu : u.Canon := hs.setLedger (h1 ▸ Ledger.write_wf _ _ _ hs.ledger)
  split
  · exact hu.of_parts (State.satReg_parts ..)
  · exact hu

theorem State.hostBar2_canon (s : State) (port off : Nat) (data : List Nat) (hs : s.Canon) :
    (State.hostBar2 s port off data).Canon := by
  unfold State.hostBar2
  split
  · exact hs.of_parts (State.satReg_parts ..)
  · exact State.bar2Write_canon _ _ _ _ hs

theorem execBar2Write_canon (port : Fin 2) (off : BitVec 28) (data : List (BitVec 8)) (ideBad : Bool) (s : State)
    (hs : s.Canon) : ResCanon (execBar2Write port off data ideBad s) := by
  simp only [State.Canon, execBar2Write, resCanon_next, resCanon_ite, State.hostBar2_canon, State.ideDrop_parts, Nat.reduceAnd,
    hs, ite_self]

theorem State.leaseExpires_canon (s : State) (port : Nat) : (State.leaseExpires s port).Canon ↔ s.Canon := by
  simp only [State.Canon, State.leaseExpires, State.hpEvent_canon, State.moduleFault_parts, State.warn_parts, Nat.reduceAnd]
  exact canon_upd s rfl (Ledger.foldl_mem _ (fun l e => by simp only [Ledger.ite_mem, Ledger.upd_mem, ite_self]) _ _)

theorem execLeaseExpiry_canon (port : Fin 2) (s : State) (hs : s.Canon) : ResCanon (execLeaseExpiry port s) := by
  simp only [State.Canon, execLeaseExpiry, resCanon_next, State.leaseExpires_canon, canon_ite, ite_self, hs]

theorem execRenew_canon (port : Fin 2) (s : State) (hs : s.Canon) : ResCanon (execRenew port s) := by
  have hmem : ∀ xs : List (Nat × Session), (xs.foldl (fun (l : Ledger) e => if e.2.state = 2 && e.2.owner = port.val + 1 then
      l.upd e.1 (fun x => { x with state := 1 }) else l) s.ldg).mem = s.ldg.mem := fun xs =>
    Ledger.foldl_mem _ (fun l e => by simp only [Ledger.ite_mem, Ledger.upd_mem, ite_self]) xs s.ldg
  unfold execRenew
  extract_lets p l0 l1 s1
  have h1 : s1.Canon := State.Canon.of_parts (hs.upd rfl (by simp only [l1, l0, p, Ledger.ite_mem, hmem, ite_self]))
    (State.cmd_parts ..)
  simp only [State.Canon, resCanon_next, canon_ite, State.warn_parts, Nat.reduceAnd, h1, ite_self]

theorem State.claimAll_canon (s : State) (port : Nat) (is : List Nat) : (State.claimAll s port is).Canon ↔ s.Canon :=
  canon_upd s rfl (Ledger.foldl_mem _ (fun l i => by simp only [Ledger.ite_mem, Ledger.upd_mem, ite_self]) _ _)

theorem execClaim_canon (port : Fin 2) (s : State) (hs : s.Canon) : ResCanon (execClaim port s) := by
  simp only [State.Canon, execClaim, resCanon_next, State.claimAll_canon, State.cmd_parts, Nat.reduceAnd, hs]

theorem execClaimAll_canon (port : Fin 2) (s : State) (hs : s.Canon) : ResCanon (execClaimAll port s) := by
  simp only [State.Canon, execClaimAll, resCanon_next, State.claimAll_canon, State.cmd_parts, Nat.reduceAnd, hs]

theorem State.journalFull_canon (s : State) : (State.journalFull s).Canon ↔ s.Canon := by
  simp only [State.Canon, State.journalFull, State.moduleFault_parts, State.setLedger_canon, canon_upd, canon_ite, ite_self,
    Nat.reduceAnd]

theorem State.mirrorWrite_canon (s : State) (i : Nat) (r : Req) : (State.mirrorWrite s i r).Canon ↔ s.Canon := by
  unfold State.mirrorWrite
  dsimp only
  exact canon_foldl _ (fun s p => (canon_upd _ (by rfl) (by rfl)).trans
    (canon_foldl _ (fun _ _ => canon_of_parts (State.emit_parts ..)) _ _)) _ _

theorem State.takeRequestOf_canon (s : State) (i port : Nat) (free : Bool) (d : List Nat) (hs : s.Canon) :
    (State.takeRequestOf s i port free d).1.Canon := by
  unfold State.takeRequestOf
  extract_lets x broken v payload r s1 s2 s3 mir s4
  have h1 : s1.Canon := hs.upd
  have h4 : s4.Canon := by
    simp only [s4, s3, s2, State.Canon, canon_ite, State.mirrorWrite_canon, State.satReg_parts, State.moduleFault_parts,
      State.setReg_parts, Nat.reduceAnd, h1, hs, ite_self]
  split
  · exact (State.journalFull_canon s).2 hs
  · exact h4.upd

theorem Ledger.stamp_wf {l : Ledger} (i seq : Nat) (hl : SMap.wf 0 l.mem = true) : SMap.wf 0 (l.stamp i seq).mem = true :=
  SMap.wf_setList _ _ _ _ hl

theorem State.Canon.dup {s : State} (hs : s.Canon) (i seq : Nat) : State.Canon { s with ldg := s.ldg.dup i seq } :=
  hs.setLedger (Ledger.stamp_wf i seq hs.ledger)

theorem State.serveSlots_canon (i port : Nat) (n q : Nat) (free : Bool) {s : State} (hs : s.Canon) :
    (s.serveSlots i port n q free).1.Canon := by
  induction n generalizing s q free with
  | zero => exact hs
  | succ n ih =>
    have htaken : ∀ d, (s.takeRequestOf i port free d).1.Canon := fun d => State.takeRequestOf_canon _ _ _ _ _ hs
    unfold State.serveSlots
    dsimp only
    split
    · exact hs.upd
    · split
      · exact hs.upd
      · split
        · split
          · exact hs.dup _ _
          · exact hs
        · split
          · exact htaken _
          · exact ih _ _ (htaken _)

theorem State.serveSession_canon (s : State) (i port : Nat) (hs : s.Canon) : (State.serveSession s i port).1.Canon := by
  unfold State.serveSession
  refine State.serveSlots_canon _ _ _ _ _ ?_
  split
  · exact hs.dup _ _
  · exact hs

theorem State.servePosted_canon (a b : Nat) (w : State × Bool) (i : Nat) (hw : w.1.Canon) :
    (State.servePosted a b w i).1.Canon := by
  have hserve : ∀ p, (w.1.serveSession i p).1.Canon := fun p => State.serveSession_canon _ _ _ hw
  unfold State.servePosted
  extract_lets s pa pb back x r own other s1 r1
  have hback : ∀ t : State, t.Canon → (back t).Canon := fun t ht => ht.upd
  have h1 : s1.Canon := by simp only [s1, s, State.Canon, canon_ite, State.satReg_parts, Nat.reduceAnd, hw, ite_self]
  have hr1 : r1.1.Canon := State.serveSession_canon _ _ _ h1
  split
  · exact hw
  · split
    · exact hback _ hw
    · split
      · split
        · exact hback _ (hserve _)
        · exact hserve _
      · split
        · exact h1
        · split
          · exact hback _ hr1
          · exact hr1

theorem State.tellAnchor_canon (s : State) : (State.tellAnchor s).Canon ↔ s.Canon := by
  simp only [State.Canon, State.tellAnchor, State.request_parts, canon_upd, canon_ite, ite_self, canon_foldl, implies_true,
    Nat.reduceAnd]

theorem State.journalRoom_canon (s : State) : (State.journalRoom s).Canon ↔ s.Canon := by
  simp only [State.Canon, State.journalRoom, State.setLedger_canon, canon_ite, ite_self]

theorem execIntakeTick_canon (ups : List (Addr × Upset)) (s : State) (hs : s.Canon) : ResCanon (execIntakeTick ups s) := by
  unfold execIntakeTick
  split
  · exact (resCanon_next _).2 hs
  · extract_lets s1 s2 a b _ s3 s4
    have hups : (s.upsets ups).Canon := hs.of_parts (State.upsets_parts ..)
    have h2 : s2.Canon := by
      refine (State.refreshLedger_canon ..).2 ((State.journalRoom_canon ..).2 (canon_foldl_of (fun s p hs => ?_) _ hups))
      split
      · exact (State.leaseExpires_canon ..).2 hs
      · exact hs
    have h3 : s3.Canon := h2.upd
    have h4 : s4.Canon := by
      unfold s4
      split
      · exact h2
      · split
        · exact h3
        · exact canon_foldl1_of (fun w i => State.servePosted_canon a b w i) _ h3
    exact (resCanon_next _).2 ((State.tellAnchor_canon ..).2 h4)

theorem Ledger.restoreReq_mem (l : Ledger) (i : Nat) (r : Req) : (l.restoreReq i r).mem = l.mem := by
  unfold Ledger.restoreReq
  dsimp only
  split
  · rfl
  · exact Ledger.rebuild_mem _ _

theorem State.acceptNow_canon (s : State) (a : Accepting) (hs : s.Canon) : (State.acceptNow s a).Canon := by
  unfold State.acceptNow
  extract_lets i x _ r ok opens prompt l0 l1 l2 l3 l4 l5
  have h1 : l1.mem = s.ldg.mem := by simp only [l1, l0, Ledger.ite_mem, Ledger.append_mem, ite_self]
  have h2 : SMap.wf 0 l2.mem = true := Ledger.stamp_wf _ _ (h1 ▸ hs.ledger)
  have h5 : l5.mem = l2.mem := by simp only [l5, l4, l3, Ledger.ite_mem, Ledger.restoreReq_mem, Ledger.upd_mem, ite_self]
  exact hs.setLedger ((congrArg (SMap.wf 0) h5).trans h2)

theorem execAcceptance_canon (s : State) (hs : s.Canon) : ResCanon (execAcceptance s) := by
  unfold execAcceptance
  split
  · exact (resCanon_next _).2 hs
  · split
    · exact (resCanon_next _).2 hs
    · exact (resCanon_next _).2 ((State.acceptNow_canon _ _ hs.upd).of_parts (State.served_parts ..))

theorem execMirrorReadback_canon (ok : Bool) (s : State) (hs : s.Canon) : ResCanon (execMirrorReadback ok s) := by
  unfold execMirrorReadback
  (repeat' split) <;> simp only [State.Canon, resCanon_next, State.moduleFault_parts, canon_upd, Nat.reduceAnd, hs]

theorem execFeedWrite_canon (s : State) (hs : s.Canon) : ResCanon (execFeedWrite s) := by
  unfold execFeedWrite
  split
  · exact (resCanon_next _).2 hs
  · split
    · exact (resCanon_next _).2 hs
    · extract_lets q base put is ps b l
      have hput : ∀ (t : State) (b : List Nat), t.Canon → (put t b).Canon :=
        fun t b ht => ht.upd.of_parts (State.putHalf_parts ..)
      have hl : l.mem = s.ldg.mem := Ledger.foldl_mem _ (fun l p => Ledger.upd_mem l p.session _) ps s.ldg
      split
      · exact (resCanon_next _).2 (hput _ _ hs)
      · split
        · exact (resCanon_next _).2 ((State.journalFull_canon s).2 hs)
        · exact (resCanon_next _).2 (hput _ _ (hs.upd rfl hl))

theorem State.noteHalf_canon (s : State) (base n : Nat) : (State.noteHalf s base n).Canon ↔ s.Canon := by
  refine canon_foldl _ (fun s x => ?_) _ _
  cases s.locate (x % 128) with
  | none => rfl
  | some e => exact State.noteStack_canon ..

theorem execDrainRead_canon (s : State) (hs : s.Canon) : ResCanon (execDrainRead s) := by
  unfold execDrainRead
  split
  · exact (resCanon_next _).2 hs
  · split
    · exact (resCanon_next _).2 hs
    · refine (resCanon_next _).2 (State.Canon.of_parts ((State.noteHalf_canon ..).2 (hs.upd rfl ?_)) (State.served_parts ..))
      exact Ledger.foldl_mem _ (fun l e => Ledger.drainEntry_mem l _ _ e) _ _

theorem State.writeRecord_canon (s : State) (i : Nat) : (State.writeRecord s i).Canon ↔ s.Canon := by
  unfold State.writeRecord
  dsimp only
  split
  · rfl
  · split
    · rfl
    · exact (canon_upd _ (by rfl) (by rfl)).trans (canon_of_parts (State.emit_parts ..))

theorem State.diverge_canon (s : State) (i : Nat) (hs : s.Canon) : (State.diverge s i).Canon := by
  simp only [State.Canon, State.diverge, State.castEpoch_canon, State.moduleFault_parts, State.stopRope_canon, canon_ite,
    ite_self, Nat.reduceAnd, hs]

theorem State.releaseRecord_canon (s : State) (i : Nat) (hs : s.Canon) : (State.releaseRecord s i).Canon := by
  unfold State.releaseRecord
  extract_lets x
  split
  · exact hs
  · split
    · exact hs
    · extract_lets without old s1 l0 l1 l2
      have h1 : s1.Canon := hs.upd
      have hmem : l2.mem = s.ldg.mem := by simp only [l2, l1, l0, Ledger.ite_mem, Ledger.append_mem, Ledger.upd_mem, ite_self]
      split
      · split
        · exact State.diverge_canon _ _ h1
        · exact h1.of_parts (State.satReg_parts ..)
      · split
        · exact (State.journalFull_canon s).2 hs
        · split
          · refine State.Canon.of_parts ?_ (State.wipeFeed_parts ..)
            exact hs.upd rfl hmem
          · exact hs.upd rfl hmem

theorem execCompletionWrite_canon (i : Fin 4096) (s : State) (hs : s.Canon) : ResCanon (execCompletionWrite i s) := by
  simp only [State.Canon, execCompletionWrite, resCanon_next, resCanon_ite, State.releaseRecord_canon, State.writeRecord_canon,
    hs, ite_self]

theorem execCompletionWriteDone_canon (port : Fin 2) (k : Fin 64) (s : State) (hs : s.Canon) :
    ResCanon (execCompletionWriteDone port k s) := by
  unfold execCompletionWriteDone
  dsimp only
  split
  · exact (resCanon_next _).2 hs
  · exact (resCanon_next _).2 hs.upd

theorem execMsixCoalesce_canon (port : Fin 2) (k : Fin 64) (s : State) (hs : s.Canon) :
    ResCanon (execMsixCoalesce port k s) := by
  unfold execMsixCoalesce
  dsimp only
  split
  · exact (resCanon_next _).2 hs
  · exact (resCanon_next _).2 ((State.signal_canon ..).2 hs.upd)

/-! ### Trust and register writes -/

theorem execRelease_canon (a : OwnerAuth) (s : State) (hs : s.Canon) : ResCanon (execRelease a s) := by
  simp only [State.Canon, execRelease, resCanon_next, resCanon_ite, State.debugWipe_canon, State.ownerDenied_parts,
    State.ownerDone_parts, canon_upd, Nat.reduceAnd, hs, ite_self]

theorem State.stageBytes_canon (s : State) (b : Nat) (l : List Nat) (hs : s.Canon) : (State.stageBytes s b l).Canon :=
  hs.setStaging (SMap.wf_setList _ _ _ _ hs.staging)

theorem execOffer_canon (i : Fin 4096) (stage : BitVec 30) (s : State) (hs : s.Canon) : ResCanon (execOffer i stage s) := by
  unfold execOffer
  dsimp only
  split
  · exact (resCanon_next _).2 (hs.of_parts (State.sealCmd_parts ..))
  · have hdrawn : ((s.fresh.2.fresh.2.fresh.2).freshBytes 3373).1.Canon :=
      hs.of_parts ((State.freshBytes_parts ..).trans ((State.fresh_parts ..).trans ((State.fresh_parts ..).trans
        (State.fresh_parts ..))))
    exact (resCanon_next _).2 ((State.stageBytes_canon _ _ _ hdrawn).upd.of_parts (State.sealCmd_parts ..))

theorem execOpen_canon (i : Fin 4096) (stage : BitVec 30) (ups : List (Addr × Upset)) (s : State) (hs : s.Canon) :
    ResCanon (execOpen i stage ups s) := by
  have hups : (s.upsets ups).Canon := hs.of_parts (State.upsets_parts ..)
  unfold execOpen
  dsimp only
  split
  · exact (resCanon_next _).2 ((State.stageBytes_canon _ _ _ hups).upd.of_parts (State.sealCmd_parts ..))
  · exact (resCanon_next _).2 (hups.upd.of_parts ((State.moduleFault_parts ..).trans ((State.setReg_parts ..).trans
      (State.sealCmd_parts ..))))

theorem execAbandon_canon (i : Fin 4096) (s : State) (hs : s.Canon) : ResCanon (execAbandon i s) :=
  (resCanon_next _).2 (hs.upd.of_parts (State.sealCmd_parts ..))

theorem execOfferExpiry_canon (i : Fin 4096) (s : State) (hs : s.Canon) : ResCanon (execOfferExpiry i s) := by
  unfold execOfferExpiry
  split
  · exact (resCanon_next _).2 hs
  · exact (resCanon_next _).2 hs.upd

theorem execUnlock_canon (t : DebugToken) (s : State) (hs : s.Canon) : ResCanon (execUnlock t s) := by
  have hdrop : s.dropNonce.Canon := hs.of_parts (State.dropNonce_parts ..)
  unfold execUnlock
  dsimp only
  split
  · exact (resCanon_next _).2 ((State.resetReq_canon _ _ _ _ _ _ ((State.debugWipe_canon _ hdrop).of_parts
      (State.remeasure_parts ..))).upd.of_parts ((State.dbgCmd_parts ..).trans ((State.setReg_parts ..).trans
        (State.setReg_parts ..))))
  · exact (resCanon_next _).2 (hdrop.upd.of_parts ((State.moduleFault_parts ..).trans ((State.setReg_parts ..).trans
      (State.dbgCmd_parts ..))))

theorem execRelock_canon (s : State) (hs : s.Canon) : ResCanon (execRelock s) := by
  simp only [State.Canon, execRelock, resCanon_next, State.dbgCmd_parts, State.relock_canon, canon_ite, ite_self,
    Nat.reduceAnd, hs]

theorem execUnlockExpiry_canon (s : State) (hs : s.Canon) : ResCanon (execUnlockExpiry s) := by
  unfold execUnlockExpiry
  (repeat' split) <;> simp only [State.Canon, resCanon_next, State.relock_canon, hs]

theorem State.ownerWrite_canon (s : State) (op v : Nat) (hs : s.Canon) : ResCanon (State.ownerWrite s op v) := by
  have hslot : s.fresh.2.fresh.2.Canon := hs.of_parts ((State.fresh_parts ..).trans (State.fresh_parts ..))
  unfold State.ownerWrite
  dsimp only
  split
  · exact resCanon_of_keeps (execTake_parts ..) hslot
  · exact resCanon_of_keeps (execSetSlot_parts ..) hslot
  · exact resCanon_of_keeps (execRevoke_parts ..) hslot
  · exact resCanon_of_keeps (execAdvanceSvn_parts ..) hslot
  · exact execRelease_canon _ _ hslot

theorem State.installWrite_canon (s : State) (v : Nat) (hs : s.Canon) : ResCanon (State.installWrite s v) :=
  execInstall_canon _ _ _ _ _ _ (hs.of_parts (State.fresh_parts ..))

theorem State.unlockWrite_canon (s : State) (v : Nat) (hs : s.Canon) : ResCanon (State.unlockWrite s v) :=
  execUnlock_canon _ _ (hs.of_parts (State.fresh_parts ..))

theorem State.opWrite_canon (s : State) (base port i v : Nat) (hs : s.Canon) : ResCanon (State.opWrite s base port i v) := by
  unfold State.opWrite
  dsimp only
  split
  · exact State.installWrite_canon s v hs
  · exact resCanon_of_keeps (execRemove_parts ..) hs
  · exact resCanon_of_keeps (execForm_parts ..) hs
  · exact execStop_canon s hs
  · exact resCanon_of_keeps (execLeave_parts ..) hs
  · exact execOffer_canon _ _ s hs
  · exact execOpen_canon _ _ _ s hs
  · exact execAbandon_canon _ s hs
  · exact State.ownerWrite_canon s _ v hs
  · exact resCanon_of_keeps (execDebugChallenge_parts ..) hs
  · exact State.unlockWrite_canon s v hs
  · exact execRelock_canon s hs
  · exact resCanon_of_keeps (execTestStandby_parts ..) hs
  · exact resCanon_of_keeps (execSwap_parts ..) hs
  · exact execReset_canon _ _ s hs
  · exact execHold_canon _ _ s hs
  · exact execRstRelease_canon s hs
  · exact resCanon_of_keeps (execClearTrip_parts ..) hs
  · exact resCanon_of_keeps (execRetest_parts ..) hs
  · exact execMarkDead_canon _ _ s hs
  · exact resCanon_of_keeps (execClearReplan_parts ..) hs
  · exact execOdRead_canon _ _ _ s hs
  · exact execOdWrite_canon _ _ _ _ s hs
  · exact resCanon_of_keeps (execOdNext_parts ..) hs
  · exact execRenew_canon _ s hs
  · exact execClaim_canon _ s hs
  · exact execClaimAll_canon _ s hs
  · exact resCanon_of_keeps (execTrain_parts ..) hs
  · exact resCanon_of_keeps (execHoldDown_parts ..) hs
  · exact resCanon_of_keeps (execRetrain_parts ..) hs
  · exact resCanon_of_keeps (execHoldOut_parts ..) hs
  · exact resCanon_of_keeps (execReturn_parts ..) hs
  · exact resCanon_of_keeps (execStartPass_parts ..) hs
  · exact resCanon_of_keeps (execFull_parts ..) hs
  · exact execAbandonFull_canon _ s hs
  · exact resCanon_of_keeps (execTelClear_parts ..) hs
  · exact (resCanon_next _).2 hs

theorem State.after_canon {s : State} {r : Res} (hr : ResCanon r) (hs : s.Canon) : (s.after r).Canon := by
  cases r with
  | next t => exact hr t rfl
  | fault => exact hs
  | refused => exact hs

theorem State.opTaken_canon (s : State) (r : RegDef) (port i v : Nat) (hs : s.Canon) : (State.opTaken s r port i v).Canon := by
  unfold State.opTaken
  split
  · exact hs
  · split
    · exact hs.of_parts ((State.cmd_parts ..).trans (State.recordCmd_parts ..))
    · split
      · exact hs.of_parts ((State.cmd_parts ..).trans (State.recordCmd_parts ..))
      · exact State.after_canon (State.opWrite_canon _ _ _ _ _ hs) hs

theorem State.regWrite_canon (s : State) (port : Nat) (r : RegDef) (i j v lo n : Nat) (hs : s.Canon) :
    (State.regWrite s port r i j v lo n).Canon := by
  simp only [State.Canon, State.regWrite, State.after_parts, State.cmd_parts, State.opTaken_canon, State.setReg_parts,
    execHostreq_parts, execLoop_parts, execMrefSwitch_parts, execPortEnable_parts, execTelHistSel_parts, canon_upd, canon_ite,
    ite_self, Nat.reduceAnd, hs]

theorem State.msixWrite_canon (s : State) (port o : Nat) (b : List Nat) : (State.msixWrite s port o b).Canon ↔ s.Canon := by
  simp only [State.Canon, State.msixWrite, State.signal_canon, canon_upd, canon_ite, ite_self]

theorem State.barWrite_canon (s : State) (port o : Nat) (data : Nat) (wide : Bool) (hs : s.Canon) :
    (State.barWrite s port o data wide).Canon := by
  unfold State.barWrite
  (repeat' split) <;> simp only [State.Canon, State.msixWrite_canon, State.regWrite_canon, State.satReg_parts,
    State.surveyWrite_canon, canon_ite, ite_self, Nat.reducePow, Nat.reduceDiv, Nat.reduceAnd, hs]

theorem execRegisterWrite_canon (port : Fin 2) (off : BitVec 25) (data : BitVec 64) (wide ideBad : Bool) (s : State)
    (hs : s.Canon) : ResCanon (execRegisterWrite port off data wide ideBad s) := by
  simp only [State.Canon, execRegisterWrite, resCanon_next, resCanon_ite, State.barWrite_canon, State.ideDrop_parts,
    Nat.reduceAnd, hs, ite_self]

/-! ### Every command -/

theorem resCanon_of_parts {c : Instr} {s : State} (hs : s.Canon)
    (hc : 130021375 &&& Part.maskOf c.parts = Part.maskOf c.parts) : ResCanon (exec c s) :=
  resCanon_of_keeps (keeps_mono (exec_keeps_parts c s) hc) hs

/-- Each command keeps the two memories canonical; one whose parts have neither memory does so by its parts. -/
theorem exec_canon (c : Instr) {s : State} (hs : s.Canon) : ResCanon (exec c s) := by
  cases c with
  | por latched => exact execPor_canon latched s
  | bor => exact execBor_canon s
  | modResetNLow => exact execModResetNLow_canon s hs
  | pwrEnLow => exact execPwrEnLow_canon s hs
  | leakResponse => exact execLeakResponse_canon s hs
  | flowLowTrip => exact execFlowLowTrip_canon s hs
  | diodeSample temps => exact execDiodeSample_canon temps s hs
  | fieldReturn f => exact execFieldReturn_canon f s hs
  | pwrRailFail rail f => exact execPwrRailFail_canon rail f s hs
  | mrefFail => exact execMrefFail_canon s hs
  | fieldPllUnlock f => exact execFieldPllUnlock_canon f s hs
  | modulePllUnlock link => exact execModulePllUnlock_canon link s hs
  | wdt => exact execWdt_canon s hs
  | stall f => exact execStall_canon f s hs
  | reset level force => exact execReset_canon level force s hs
  | hold level force => exact execHold_canon level force s hs
  | rstRelease => exact execRstRelease_canon s hs
  | releaseStep ready sel => exact (resCanon_next _).2 (State.releaseStep_canon (hs := hs) ..)
  | startupStage io => exact execStartupStage_canon io s hs
  | bloomCheck a good => exact execBloomCheck_canon a good s hs
  | sdoRequest frame => exact execSdoRequest_canon frame s hs
  | udpDatagram source recs => exact execUdpDatagram_canon source recs s hs
  | dictRead i3c ix sub => exact execDictRead_canon i3c ix sub s hs
  | dictWrite i3c ix sub data => exact execDictWrite_canon i3c ix sub data s hs
  | odRead port ix sub => exact execOdRead_canon port ix sub s hs
  | odWrite port ix sub len => exact execOdWrite_canon port ix sub len s hs
  | mgmt => exact execMgmt_canon s hs
  | profileSwitchPending n => exact (resCanon_next _).2 (State.switchProfile_canon (hs := hs) ..)
  | profileSwitchImmediate n => exact (resCanon_next _).2 (State.switchProfile_canon (hs := hs) ..)
  | standaloneTest ix ok tenant plain => exact (resCanon_next _).2 (State.soloInstall_canon (hs := hs) ..)
  | burnIn ix secs d2 ok tenant plain => exact execBurnIn_canon ix secs d2 ok tenant plain s hs
  | install len sigOk unwrapOk tagOk plain => exact execInstall_canon len sigOk unwrapOk tagOk plain s hs
  | installCommit => exact execInstallCommit_canon s hs
  | returnComplete f => exact execReturnComplete_canon f s hs
  | invocationIssue e start now ups => exact execInvocationIssue_canon e start now ups s hs
  | invocationStart streams => exact execInvocationStart_canon streams s hs
  | sectionSwitch => exact execSectionSwitch_canon s hs
  | armedStart a => exact (resCanon_next _).2 ((State.land_canon ..).2 hs)
  | bundleIssue a ups => exact execBundleIssue_canon a ups s hs
  | nextBufferWrite a => exact (resCanon_next _).2 ((State.land_canon ..).2 hs)
  | vuResultLanding a => exact (resCanon_next _).2 ((State.land_canon ..).2 hs)
  | injectAvailable a => exact (resCanon_next _).2 ((State.land_canon ..).2 hs)
  | srdLanding a => exact (resCanon_next _).2 ((State.land_canon ..).2 hs)
  | sldLanding a => exact (resCanon_next _).2 ((State.land_canon ..).2 hs)
  | wordArrival a port hop late => exact execWordArrival_canon a port hop late s hs
  | arm a => exact (resCanon_next _).2 ((State.atTile_canon ..).2 hs)
  | halt a => exact (resCanon_next _).2 ((State.seqCmd_canon ..).2 hs)
  | scrub a => exact (resCanon_next _).2 ((State.coreWork_canon ..).2 hs)
  | zeroize a => exact (resCanon_next _).2 ((State.coreWork_canon ..).2 hs)
  | scrubDone a ups => exact execScrubDone_canon a ups s hs
  | run a => exact (resCanon_next _).2 ((State.coreWork_canon ..).2 hs)
  | ccHalt a => exact (resCanon_next _).2 ((State.coreWork_canon ..).2 hs)
  | restart a => exact (resCanon_next _).2 ((State.coreWork_canon ..).2 hs)
  | ccDispatch a => exact (resCanon_next _).2 ((State.coreWork_canon ..).2 hs)
  | coreInstruction a => exact (resCanon_next _).2 ((State.coreWork_canon ..).2 hs)
  | schCoreLockup a => exact execSchCoreLockup_canon a s hs
  | tsSend a => exact (resCanon_next _).2 ((State.coreWork_canon ..).2 hs)
  | tsReply a stuck => exact (resCanon_next _).2 ((State.coreWork_canon ..).2 hs)
  | tsYield a => exact (resCanon_next _).2 ((State.coreWork_canon ..).2 hs)
  | tsCppost a => exact (resCanon_next _).2 ((State.coreWork_canon ..).2 hs)
  | tsHget a => exact (resCanon_next _).2 ((State.coreWork_canon ..).2 hs)
  | tsHset a => exact (resCanon_next _).2 ((State.coreWork_canon ..).2 hs)
  | tsHld a ups => exact (resCanon_next _).2 ((State.coreAccess_canon ..).2 hs)
  | tsHst a ups => exact (resCanon_next _).2 ((State.coreAccess_canon ..).2 hs)
  | packetHop k errs => exact execPacketHop_canon k errs s hs
  | unicast k => exact (resCanon_next _).2 ((State.deliver_canon ..).2 hs)
  | ack k => exact (resCanon_next _).2 ((State.deliver_canon ..).2 hs)
  | busy k => exact (resCanon_next _).2 ((State.deliver_canon ..).2 hs)
  | busyBackoff a => exact (resCanon_next _).2 ((State.coreWork_canon ..).2 hs)
  | reply k => exact (resCanon_next _).2 ((State.deliver_canon ..).2 hs)
  | msgSendTimeout a => exact (resCanon_next _).2 ((State.coreWork_canon ..).2 hs)
  | msgReplyTimeout a slot => exact (resCanon_next _).2 ((State.coreWork_canon ..).2 hs)
  | slotQuarantineEnd a slot => exact (resCanon_next _).2 ((State.coreWork_canon ..).2 hs)
  | read a addr n => exact (resCanon_next _).2 ((State.sysOp_canon ..).2 hs)
  | write a addr data => exact (resCanon_next _).2 ((State.sysOp_canon ..).2 hs)
  | test a number => exact (resCanon_next _).2 ((State.sysOp_canon ..).2 hs)
  | rect a b test addr data => exact execRect_canon a b test addr data s hs
  | refreshWindow f ups => exact execRefreshWindow_canon f ups s hs
  | autonomousRefresh f ups => exact execAutonomousRefresh_canon f ups s hs
  | forcedRefresh f => exact execForcedRefresh_canon f s hs
  | nonscheduledBeat f cls => exact execNonscheduledBeat_canon f cls s hs
  | apertureRead port off n ups => exact execApertureRead_canon port off n ups s hs
  | apertureWrite port off data => exact execApertureWrite_canon port off data s hs
  | apertureTimeout port write => exact execApertureTimeout_canon port write s hs
  | recordLanding p => exact execRecordLanding_canon p s hs
  | rwrite admitted => exact execRwrite_canon admitted s hs
  | mailDone => exact execMailDone_canon s hs
  | stop => exact execStop_canon s hs
  | prepareDone mref => exact execPrepareDone_canon mref s hs
  | formTimeout => exact execFormTimeout_canon s hs
  | start slack => exact execStart_canon slack s hs
  | ropeStart => exact execRopeStart_canon s hs
  | epochBoundary => exact execEpochBoundary_canon s hs
  | mark => exact (resCanon_next _).2 (State.serveEpoch_canon (hs := hs) ..)
  | invoke => exact (resCanon_next _).2 (State.serveEpoch_canon (hs := hs) ..)
  | commit => exact (resCanon_next _).2 (State.serveEpoch_canon (hs := hs) ..)
  | up => exact execUp_canon s hs
  | memberLost => exact execMemberLost_canon s hs
  | clearBroadcast => exact execClearBroadcast_canon s hs
  | clear => exact (resCanon_next _).2 (State.serveEpoch_canon (hs := hs) ..)
  | abort => exact (resCanon_next _).2 (State.serveEpoch_canon (hs := hs) ..)
  | rprMigrated f => exact execRprMigrated_canon f s hs
  | restoreComplete csum => exact execRestoreComplete_canon csum s hs
  | fault => exact execFault_canon s hs
  | shortWaitExpiry => exact execShortWaitExpiry_canon s hs
  | anchorLost => exact execAnchorLost_canon s hs
  | belayCompare f row cut t1 t2 cc => exact execBelayCompare_canon f row cut t1 t2 cc s hs
  | perstN port low => exact execPerstN_canon port low s hs
  | hotReset port => exact (resCanon_next _).2 ((State.hostDown_canon ..).2 hs)
  | flr port => exact (resCanon_next _).2 ((State.hostDown_canon ..).2 hs)
  | pcieLinkUp port rate width => exact execPcieLinkUp_canon port rate width s hs
  | hpLinkDown port => exact execHpLinkDown_canon port s hs
  | postingMapWrite port off data => exact (resCanon_next _).2 (State.hostBar2_canon (hs := hs) ..)
  | bar2Write port off data ideBad => exact execBar2Write_canon port off data ideBad s hs
  | ringEnable port k => exact (resCanon_next _).2 (State.hostBar2_canon (hs := hs) ..)
  | consWrite port k v => exact (resCanon_next _).2 (State.hostBar2_canon (hs := hs) ..)
  | intakeTick ups => exact execIntakeTick_canon ups s hs
  | leaseExpiry port => exact execLeaseExpiry_canon port s hs
  | acceptance => exact execAcceptance_canon s hs
  | mirrorReadback ok => exact execMirrorReadback_canon ok s hs
  | feedWrite => exact execFeedWrite_canon s hs
  | drainRead => exact execDrainRead_canon s hs
  | completionWrite n => exact execCompletionWrite_canon n s hs
  | completionWriteDone port k => exact execCompletionWriteDone_canon port k s hs
  | msixCoalesce port k => exact execMsixCoalesce_canon port k s hs
  | renew port => exact execRenew_canon port s hs
  | claim port => exact execClaim_canon port s hs
  | claimAll port => exact execClaimAll_canon port s hs
  | release a => exact execRelease_canon a s hs
  | offer n stage => exact execOffer_canon n stage s hs
  | open_ n stage ups => exact execOpen_canon n stage ups s hs
  | abandon n => exact execAbandon_canon n s hs
  | offerExpiry n => exact execOfferExpiry_canon n s hs
  | unlock t => exact execUnlock_canon t s hs
  | relock => exact execRelock_canon s hs
  | unlockExpiry => exact execUnlockExpiry_canon s hs
  | faultReport persist => exact execFaultReport_canon persist s hs
  | logbookFlush => exact execLogbookFlush_canon s hs
  | retestResult f key fails => exact execRetestResult_canon f key fails s hs
  | markDead px py => exact execMarkDead_canon px py s hs
  | surveySlice f fails => exact execSurveySlice_canon f fails s hs
  | abandonFull f => exact execAbandonFull_canon f s hs
  | fullSurveyDone f fails => exact execFullSurveyDone_canon f fails s hs
  | surveyRead port view off n ups => exact execSurveyRead_canon port view off n ups s hs
  | surveyWrite view off data => exact (resCanon_next _).2 ((State.surveyWrite_canon ..).2 hs)
  | ijtagRw u => exact execIjtagRw_canon u s hs
  | registerWrite port off data wide ideBad => exact execRegisterWrite_canon port off data wide ideBad s hs
  | invocationEnd => exact execInvocationEnd_canon s hs
  | _ => exact resCanon_of_parts hs (by dsimp only [Instr.parts]; decide)

/-- Settles O7: every command keeps the two memories in the canonical form, and with no command pending a step is a tick, which
changes the reference count alone. -/
theorem stagingAndLedgerMemoryStayCanonical : Obligations.StagingAndLedgerMemoryStayCanonical := by
  intro s t hs hstep
  unfold step at hstep
  split at hstep
  · next c rest _ => exact exec_canon c (s := { s with pending := rest }) hs t hstep
  · cases hstep
    exact hs

end Sys2Proof.Machine

namespace Sys2Proof.Machine

/-! ### Refresh and waiting beats, on a field that lists a tile twice -/

/-- A stack beat of a tile that was due in acycle 0. -/
def landedBeat : Beat := ⟨0, false, 0, 0, []⟩

/-- After reset, with the refresh of field 0 on: its list of tiles has two entries for key 0. A read finds the first one, which has
no beat; the second has one. -/
def twoTilesListed : State := (State.reset.setReg F.FLD_STK_REF_MODE 1 0).updField 0 (fun g =>
  { g with tiles := [(0, Tile.zero), (0, { Tile.zero with beats := [landedBeat] })] })

theorem twoTilesListed_beats : (twoTilesListed.tile 0 0).beats = [] := by decide +kernel

/-- The forced step works through both entries, so the second one's beat becomes the tile's. -/
theorem execForcedRefresh_twoTilesListed :
    ∃ t, exec (.forcedRefresh 0) twoTilesListed = .next t ∧ (t.tile 0 0).beats = [landedBeat] :=
  ⟨_, rfl, by decide +kernel⟩

/-- Refutes O32: its clause on forced refresh has a tile keep only beats that it had, for every state. Where a field lists a tile
twice, the step takes the beats of the entry that no read finds. -/
theorem not_refreshAndWaitingBeats : ¬ Obligations.RefreshAndWaitingBeats := by
  rintro ⟨-, -, hforced, -⟩
  obtain ⟨u, hu, hbeats⟩ := execForcedRefresh_twoTilesListed
  obtain ⟨t, ht, -, -, -, -, -, hkept⟩ := hforced twoTilesListed 0 (by decide +kernel) (by decide +kernel)
  obtain rfl : u = t := Host.Outcome.next.inj (hu.symm.trans ht)
  obtain ⟨-, hold⟩ := hkept 0 (by decide +kernel)
  have hmem := (hold landedBeat (hbeats ▸ List.mem_singleton_self _)).1
  rw [show ((0 : Fin 48) : Nat) = 0 from rfl, twoTilesListed_beats] at hmem
  exact List.not_mem_nil hmem

/-! ### Accesses of the host aperture, on a stack segment that lists a word twice -/

/-- After reset, with window 0 of port A enabled on row 0: the stack of tile 0 has two entries for word 0. A read finds the first
one, a good zero; the second has two symbols in error. -/
def twoWordsListed : State := (State.reset.setReg F.HP_APW_EN 1 0 0).setTile 0 0
  { Tile.zero with stack := [(0, CWord.zero), (0, ⟨0, 0, 0x11⟩)] }

theorem twoWordsListed_good : ∀ i, i ∈ partialWords 0 1 → ((twoWordsListed.tile 0 0).stkWord i).ecc = .good := by decide +kernel

/-- The read of word 0, which a write of one byte covers in part, finds the second entry in error and counts it. -/
theorem execApertureWrite_twoWordsListed : ∃ t, exec (.apertureWrite 0 0 [1]) twoWordsListed = .next t ∧
    t.reg F.FLD_STK_ECC_UE_COUNT 0 = 1 := ⟨_, rfl, by decide +kernel⟩

/-- Refutes O33: its clause on segment writes has the registers unchanged where each word that the write covers in part reads good,
for every state. Where a stack lists such a word twice, the entry that no read finds is noted too. -/
theorem not_apertureAccesses : ¬ Obligations.ApertureAccesses := by
  rintro ⟨-, -, -, -, -, hwrite, -⟩
  obtain ⟨u, hu, hcount⟩ := execApertureWrite_twoWordsListed
  obtain ⟨t, ht, -, -, -, hregs⟩ := hwrite twoWordsListed 0 0 [1] 0 0 0 (by decide +kernel) (by decide +kernel)
    (by decide +kernel) (by decide +kernel) (by decide +kernel) (by decide +kernel) (by decide +kernel) (by decide +kernel)
    (by decide +kernel) (by decide +kernel) (by decide +kernel) (by decide +kernel)
    (fun i hi => by rw [twoWordsListed_good i hi]; decide)
  obtain rfl : u = t := Host.Outcome.next.inj (hu.symm.trans ht)
  have hsame := State.reg_eq _ _ (hregs twoWordsListed_good) F.FLD_STK_ECC_UE_COUNT 0 0
  have hzero : twoWordsListed.reg F.FLD_STK_ECC_UE_COUNT 0 = 0 := by decide +kernel
  exact absurd (hcount.symm.trans (hsame.trans hzero)) (by decide)

end Sys2Proof.Machine

/-!
PROOFS. The statements of spec 07_message_fabric that remain: packets that hop and requests at their tile, and the survey window.
-/

namespace Sys2Proof.Machine

/-! ### A packet at the head of a router input (R203 to R205, R209) -/

/-- The state without packet `k`, which leaves the mesh. -/
def State.withoutPkt (s : State) (k : Nat) : State := { s with pkts := s.pkts.eraseIdx k }

theorem execPacketHop_head {s : State} {k : Nat} {x : Flight} (errs : List (BitVec 80)) (hx : s.pkts[k]? = some x)
    (hhead : s.atHead k = true) : exec (.packetHop k errs) s = .next (s.hop x k errs) := by
  simp only [exec, execPacketHop, hx, hhead, if_true]

theorem execPacketHop_behind {s : State} {k : Nat} (errs : List (BitVec 80)) (hhead : s.atHead k = false) :
    exec (.packetHop k errs) s = .next s := by
  simp only [exec, execPacketHop, hhead, Bool.false_eq_true, if_false]
  split <;> rfl

section Hop
variable {s : State} {x : Flight} {b : Nat} (k : Nat) (errs : List (BitVec 80)) (hcls : x.pkt.cls ≠ 3)
include hcls

theorem State.hop_baseCamp (hnext : nextHop x.at_ x.pkt.dst.toNat = some bcPair) :
    s.hop x k errs = (s.withoutPkt k).toBaseCamp x.pkt := by
  simp only [State.hop, hcls, hnext, if_true, if_false]
  rfl

variable (hnext : nextHop x.at_ x.pkt.dst.toNat = some b) (hmesh : b ≠ bcPair) (hopen : s.msgReset (pairField b) = false)
include hnext hmesh hopen

theorem State.hop_off (hoff : s.inputOn x.pkt.reply x.at_ b = false) : s.hop x k errs = s := by
  simp only [State.hop, hcls, hnext, hmesh, hopen, hoff, Bool.false_and, Bool.not_false, Bool.false_eq_true, if_false, if_true]

variable (hon : s.inputOn x.pkt.reply x.at_ b = true)
include hon

/-- Where the next input signals ON, it decodes the flits. -/
theorem State.hop_on {r : State × Bool} (hdecode : (s.withoutPkt k).decodeAt b errs = r) :
    s.hop x k errs = if r.2 then r.1 else { r.1 with pkts := r.1.pkts ++ [⟨b, x.at_, x.pkt⟩] } := by
  subst hdecode
  simp only [State.hop, hcls, hnext, hmesh, hopen, hon, Bool.false_and, Bool.not_true, Bool.false_eq_true, if_false]
  rfl

end Hop

/-- A router input that meets an uncorrectable flit counts the corrected ones and reports ECC_MSG_UE (R203). -/
theorem State.decodeAt_lost {s : State} {b f key : Nat} {errs : List (BitVec 80)} (hloc : s.locate b = some (f, key))
    (hbad : ∃ e, e ∈ errs ∧ errOutcome e = .multi) :
    ∃ n, s.decodeAt b errs =
      (s.absorb f key ((TW.start ((s.tile f key).countSat F.RTR_ECC_CE_COUNT n) s.acyc).note Code.eccMsgUe), true) := by
  obtain ⟨e, he, hmulti⟩ := hbad
  have hne : errs.isEmpty = false := List.isEmpty_eq_false_iff_exists_mem.2 ⟨e, he⟩
  have hlost : errs.any (fun e => errOutcome e = .multi) = true := List.any_eq_true.2 ⟨e, he, decide_eq_true hmulti⟩
  refine ⟨(errs.filter (fun e => errOutcome e = .one)).length, ?_⟩
  simp only [State.decodeAt, hne, hlost, Bool.false_eq_true, if_false, if_true]
  rw [State.atTile_located hloc]

/-! ### A request at its tile (R212) -/

/-- A request refused with a status: it is counted and answered, and nothing lands. -/
def TW.refused (w : TW) (p : Packet) (status : Nat) : TW := (w.upd (·.countSat F.MSG_CNT_REFUSED)).emit (p.answer 0 status [])

/-- The core takes requests: it is neither held nor stopped by a trap or lock-up. -/
structure Tile.Serves (t : Tile) : Prop where
  held : t.core.state ≠ .held
  trap : t.core.state ≠ .trap
  lockup : t.core.state ≠ .lockup

theorem Tile.serves_of_waiting {t : Tile} (h : t.core.state = .waiting) : t.Serves := by
  constructor <;> simp [h]

section Tests
variable {t : Tile} {now : Nat} {p : Packet}

theorem TW.takeRequest_unavailable {away : Bool} (h : away = true ∨ t.core.state = .held) :
    (TW.start t now).takeRequest p away = (TW.start t now).refused p 3 :=
  if_pos (by simpa [show (TW.start t now).t = t from rfl] using h)

theorem TW.takeRequest_trapped (h : t.core.state = .trap ∨ t.core.state = .lockup) :
    (TW.start t now).takeRequest p false = (TW.start t now).refused p 4 := by
  have hstart : (TW.start t now).t = t := rfl
  have hheld : t.core.state ≠ .held := by rcases h with h | h <;> simp [h]
  refine (if_neg ?_).trans (if_pos ?_)
  · simpa [hstart] using hheld
  · simpa [hstart] using h

/-- The tile with a request behind those that have landed. -/
def Tile.requested (t : Tile) (now : Nat) (p : Packet) : Tile :=
  t.msgUpd (fun m => { m with landed := m.landed ++ [.request p], reqAt := now + 1 })

/-- A tile that serves goes on to test the flow mask, the tag's entry and the room for requests, in this order. -/
theorem TW.takeRequest_served (hserves : t.Serves) : (TW.start t now).takeRequest p false =
    if t.flowBit F.MSG_FLOW_IN_MASK p.tag.toNat = false then (TW.start t now).refused p 2
    else if (t.core.tags.get TagEntry.zero p.tag.toNat).valid = false then (TW.start t now).refused p 1
    else if 8 ≤ t.msg.requests then (TW.start t now).emit (p.answer 2 0 [])
    else ((TW.start t now).upd (·.requested now p)).emit (p.answer 1 0 []) := by
  obtain ⟨hheld, htrap, hlockup⟩ := hserves
  have hstart : (TW.start t now).t = t := rfl
  simp only [TW.takeRequest, TW.refused, hstart, hheld, htrap, hlockup, decide_false, Bool.or_false, Bool.false_eq_true, if_false,
    Bool.not_eq_true']
  rfl

end Tests

section Request
variable {s : State} {k f key : Nat} {x : Flight} (hx : s.pkts[k]? = some x) (hhead : s.atHead k = true)
  (hat : x.at_ = x.pkt.dst.toNat) (hreply : x.pkt.reply = false) (hcls : x.pkt.cls = 0)
  (hreset : s.msgReset (pairField x.at_) = false) (hloc : s.locate x.at_ = some (f, key))
include hx hhead hat hreply hcls hreset hloc

/-- A request that has arrived leaves the mesh and is tested at its tile. -/
theorem execUnicast_arrived {w : TW}
    (hw : (TW.start (s.tile f key) s.acyc).takeRequest x.pkt (s.away f || s.coreGated f) = w) :
    exec (.unicast k) s = .next ((s.withoutPkt k).absorb f key w) :=
  Res.next_congr (State.deliver_arrived hx hhead hat hreset hloc (by simp [hreply, hcls]) hw)

theorem execUnicast_refused {status : Nat}
    (hw : (TW.start (s.tile f key) s.acyc).takeRequest x.pkt (s.away f || s.coreGated f) =
      (TW.start (s.tile f key) s.acyc).refused x.pkt status) :
    ∃ t, exec (.unicast k) s = .next t ∧ (t.tile f key).msg = (s.tile f key).msg ∧
      t.pkts = s.pkts.eraseIdx k ++ [⟨s.pairAt f key, s.pairAt f key, x.pkt.answer 0 status []⟩] := by
  obtain ⟨htile, hpkts⟩ := State.absorb_answered (s := s.withoutPkt k) (f := f) (key := key)
    (TW.clean_start (s.tile f key) s.acyc).toQuiet rfl (·.countSat F.MSG_CNT_REFUSED) (x.pkt.answer 0 status [])
  exact ⟨_, execUnicast_arrived hx hhead hat hreply hcls hreset hloc hw, (congrArg Tile.msg htile).trans rfl, hpkts⟩

end Request

/-! ### O29 -/

/-- Settles O29: a hop is the branch that the next router's input selects, and a request the branch of the first test of R212 that it
fails. -/
theorem packetsHopAndRequestsAreTested : Obligations.PacketsHopAndRequestsAreTested := by
  refine ⟨?hops, ?lost, ?off, ?behind, ?baseCamp, ?lands, ?busy, ?noHandler, ?denied, ?unavailable, ?trapped⟩
  case hops =>
    intro s k x b hx hhead hcls hnext hmesh hopen hon
    exact (execPacketHop_head [] hx hhead).trans (Res.next_congr (State.hop_on k [] hcls hnext hmesh hopen hon rfl))
  case lost =>
    intro s k errs x b f key hx hhead hcls hnext hmesh hopen hon hloc hroom hbad
    obtain ⟨n, hdecode⟩ := State.decodeAt_lost (s := s.withoutPkt k) hloc hbad
    refine ⟨_, (execPacketHop_head errs hx hhead).trans
      (Res.next_congr (State.hop_on k errs hcls hnext hmesh hopen hon hdecode)), State.absorb_pkts_none rfl, ?_⟩
    exact State.absorb_reports1 (s := s.withoutPkt k) ⟨rfl, rfl, rfl⟩ rfl hroom
  case off =>
    intro s k errs x b hx hhead hnext hmesh hopen hcls hoff
    exact (execPacketHop_head errs hx hhead).trans (Res.next_congr (State.hop_off k errs hcls hnext hmesh hopen hoff))
  case behind => exact fun s k errs hhead => execPacketHop_behind errs hhead
  case baseCamp =>
    intro s k errs x hx hhead hcls hnext
    exact (execPacketHop_head errs hx hhead).trans (Res.next_congr (State.hop_baseCamp k errs hcls hnext))
  case lands =>
    intro s k x f key hx hhead hat hreply hcls hreset hloc haway hgate hheld htrap hlockup hmask hentry hroom
    have hw := TW.takeRequest_served (t := s.tile f key) (now := s.acyc) (p := x.pkt) ⟨hheld, htrap, hlockup⟩
    rw [if_neg (by simpa using hmask), if_neg (by simpa using hentry), if_neg (Nat.not_le.2 hroom)] at hw
    obtain ⟨htile, hpkts⟩ := State.absorb_answered (s := s.withoutPkt k) (f := f) (key := key)
      (TW.clean_start (s.tile f key) s.acyc).toQuiet rfl (·.requested s.acyc x.pkt) (x.pkt.answer 1 0 [])
    exact ⟨_, execUnicast_arrived hx hhead hat hreply hcls hreset hloc (by rw [haway, hgate]; exact hw),
      (congrArg Tile.msg htile).trans rfl, hpkts⟩
  case busy =>
    intro s k x f key hx hhead hat hreply hcls hreset hloc haway hgate hheld htrap hlockup hmask hentry hfull
    have hw := TW.takeRequest_served (t := s.tile f key) (now := s.acyc) (p := x.pkt) ⟨hheld, htrap, hlockup⟩
    rw [if_neg (by simpa using hmask), if_neg (by simpa using hentry), if_pos hfull] at hw
    exact ⟨_, execUnicast_arrived hx hhead hat hreply hcls hreset hloc (by rw [haway, hgate]; exact hw),
      State.absorb_answered (TW.clean_start (s.tile f key) s.acyc).toQuiet rfl id (x.pkt.answer 2 0 [])⟩
  case noHandler =>
    intro s k x f key hx hhead hat hreply hcls hreset hloc haway hgate hwait hmask hentry
    have hw := TW.takeRequest_served (t := s.tile f key) (now := s.acyc) (p := x.pkt) (Tile.serves_of_waiting hwait)
    rw [if_neg (by simpa using hmask), if_pos hentry] at hw
    exact execUnicast_refused hx hhead hat hreply hcls hreset hloc (by rw [haway, hgate]; exact hw)
  case denied =>
    intro s k x f key hx hhead hat hreply hcls hreset hloc haway hgate hwait hmask
    have hw := TW.takeRequest_served (t := s.tile f key) (now := s.acyc) (p := x.pkt) (Tile.serves_of_waiting hwait)
    rw [if_pos hmask] at hw
    exact execUnicast_refused hx hhead hat hreply hcls hreset hloc (by rw [haway, hgate]; exact hw)
  case unavailable =>
    intro s k x f key hx hhead hat hreply hcls hreset hloc hgone
    exact execUnicast_refused hx hhead hat hreply hcls hreset hloc
      (TW.takeRequest_unavailable (hgone.imp_left fun h => by simp [h]))
  case trapped =>
    intro s k x f key hx hhead hat hreply hcls hreset hloc haway hgate hstopped
    exact execUnicast_refused hx hhead hat hreply hcls hreset hloc
      (by rw [haway, hgate]; exact TW.takeRequest_trapped hstopped)

end Sys2Proof.Machine

namespace Sys2Proof.Machine

/-! ### What an access leaves in SVY_STAT (R516) -/

section Frame
variable (s : State) (view : Nat) (last : Option Nat) (err denied : Bool)

/-- Noting an access changes registers alone. -/
theorem State.svyNote_regs : s.svyNote view last err denied = { s with regs := (s.svyNote view last err denied).regs } := by
  unfold State.svyNote
  cases last <;> cases err <;> cases denied <;> rfl

theorem State.svyNote_fields : (s.svyNote view last err denied).fields = s.fields := by rw [State.svyNote_regs]

theorem State.svyNote_pkts : (s.svyNote view last err denied).pkts = s.pkts := by rw [State.svyNote_regs]

theorem State.svyNote_out : (s.svyNote view last err denied).out = s.out := by rw [State.svyNote_regs]

theorem State.svyNote_tile (f key : Nat) : (s.svyNote view last err denied).tile f key = s.tile f key := by
  rw [State.svyNote_regs]
  rfl

end Frame

/-- A field of SVY_STAT reads as before where another one is written. -/
theorem State.reg_setReg_svy (s : State) {f g : Fld} (v view : Nat) (hf : f ∈ R.SVY_STAT.flds) (hg : g ∈ R.SVY_STAT.flds)
    (hlo : f.lo ≠ g.lo) : (s.setReg g v 0 view).reg f 0 view = s.reg f 0 view := by
  have hplace : ∀ r, r ∈ R.SVY_STAT.flds → r.base = 0x2C0100 ∧ r.s1 = 0 ∧ r.s2 = 8 := by decide
  obtain ⟨hfb, hf1, hf2⟩ := hplace f hf
  obtain ⟨hgb, hg1, hg2⟩ := hplace g hg
  exact State.reg_setReg_other _ _ _ _ _ _ _ _
    (Fld.key_ne_of_lo 0 view (hfb.trans hgb.symm) (hf1.trans hg1.symm) (hf2.trans hg2.symm) hlo)

theorem satAdd_lt (w n k : Nat) : satAdd w n k < 2 ^ w := satAdd_mod w n k ▸ Nat.mod_lt _ (Nat.two_pow_pos w)

section Note
variable (s : State) (view : Nat) (last : Option Nat) (err denied : Bool)

theorem State.svyNote_last (v : Nat) : (s.svyNote view (some v) err denied).reg F.SVY_STAT_LAST 0 view = v % 16 := by
  cases err <;> cases denied <;> simp (disch := decide) [State.svyNote, State.reg_setReg_svy]

theorem State.svyNote_ops : (s.svyNote view last false denied).reg F.SVY_STAT_OPS 0 view =
    (s.reg F.SVY_STAT_OPS 0 view + 1) % 2 ^ 16 := by
  cases last <;> cases denied <;> simp (disch := decide) [State.svyNote, State.reg_setReg_svy]

theorem State.svyNote_err : (s.svyNote view last true denied).reg F.SVY_STAT_ERR 0 view =
    satAdd 16 (s.reg F.SVY_STAT_ERR 0 view) 1 := by
  cases last <;> cases denied <;> simp (disch := decide) [State.svyNote, State.reg_setReg_svy] <;> exact satAdd_lt 16 _ _

theorem State.svyNote_denied : (s.svyNote view last err true).reg F.SVY_STAT_DENIED 0 view =
    satAdd 16 (s.reg F.SVY_STAT_DENIED 0 view) 1 := by
  cases last <;> cases err <;> simp (disch := decide) [State.svyNote, State.reg_setReg_svy] <;> exact satAdd_lt 16 _ _

end Note

/-- Clean work at a tile leaves the module's registers: their keys are not those of the field's two counters, whichever the field. -/
theorem State.absorb_clean_reg_module {s : State} {f key : Nat} {w : TW} (h : w.Clean) {r : Fld} (j : Nat)
    (hce : r.key 0 j % 0x100000 ≠ F.FLD_STK_ECC_CE_COUNT.key 0 0 % 0x100000)
    (hclash : r.key 0 j % 0x100000 ≠ F.FLD_STK_REF_CLASH.key 0 0 % 0x100000) :
    (s.absorb f key w).reg r 0 j = s.reg r 0 j := by
  have hkey : ∀ g : Fld, g.s1 = 0x4000 → r.key 0 j % 0x100000 ≠ g.key 0 0 % 0x100000 → r.key 0 j ≠ g.key f 0 := by
    intro g hg hne heq
    rw [heq, Fld.key, Fld.key, hg] at hne
    omega
  have hpkts : ∀ (u : State) (l : List Flight), ({ u with pkts := l } : State).reg r 0 j = u.reg r 0 j := fun _ _ => rfl
  rw [State.absorb_clean h, hpkts, State.satReg, State.reg_setReg_other _ _ _ _ _ _ _ _ (hkey _ rfl hclash),
    State.satReg, State.reg_setReg_other _ _ _ _ _ _ _ _ (hkey _ rfl hce)]
  rfl

/-- Clean work at a tile leaves SVY_STAT of the views. -/
theorem State.absorb_clean_svyStat {s : State} {f key : Nat} {w : TW} (h : w.Clean) {r : Fld} {view : Nat}
    (hr : r ∈ R.SVY_STAT.flds) (hview : view < 2) : (s.absorb f key w).reg r 0 view = s.reg r 0 view := by
  have hfree : ∀ r, r ∈ R.SVY_STAT.flds → ∀ j, j < 2 →
      r.key 0 j % 0x100000 ≠ F.FLD_STK_ECC_CE_COUNT.key 0 0 % 0x100000 ∧
        r.key 0 j % 0x100000 ≠ F.FLD_STK_REF_CLASH.key 0 0 % 0x100000 := by decide
  obtain ⟨hce, hclash⟩ := hfree r hr view hview
  exact State.absorb_clean_reg_module h view hce hclash

theorem State.absorb_clean_scopeOpen {s : State} {f key : Nat} {w : TW} (h : w.Clean) (k : Nat) :
    (s.absorb f key w).scopeOpen k = s.scopeOpen k := by
  rw [State.scopeOpen, State.absorb_clean_reg_module h 0 (by decide) (by decide)]
  rfl

theorem State.absorb_clean_out {s : State} {f key : Nat} {w : TW} (h : w.Clean) : (s.absorb f key w).out = s.out := by
  rw [State.absorb_clean h]
  rfl

/-! ### One aligned scratch word of the survey window (R515) -/

theorem surveyBlocks_word {off : Nat} (halign : off % 8 = 0) : surveyBlocks off 8 = [(off, 1)] := by
  have hstart : off / 8 * 8 = off := by omega
  have hend : (off + 8 + 7) / 8 * 8 = off + 8 := by omega
  have hone : (off + 8 + 63) / 64 - off / 64 = 1 := by omega
  have hlow : max off (64 * (off / 64)) = off := by omega
  have hhigh : min (off + 8) (64 * (off / 64) + 64) = off + 8 := by omega
  rw [surveyBlocks, if_neg (by decide)]
  simp only [hstart, hend, hone, List.range_one, List.map_cons, List.map_nil, Nat.add_zero, hlow, hhigh, Nat.add_sub_cancel_left]

theorem CWord.read_of_good {c : CWord} (h : c.ecc = .good) : c.read = ⟨c.data, c.tag, 0⟩ := by simp [CWord.read, h]

section Word
variable {t : Tile} {off : Nat} (halign : off % 8 = 0) (hoff : off < 0x10000)
include hoff

theorem Tile.readAddr_scratch (p : TPos) (hgood : (t.scrWord (off / 8)).ecc = .good) :
    t.readAddr p off = ⟨(t.scrWord (off / 8)).data, (t.scrWord (off / 8)).tag⟩ := by
  simp [Tile.readAddr, p.shuts_scratch _ hoff, hoff, CWord.read_of_good hgood]

/-- A good word is read with nothing to note. -/
theorem TW.noteRead_good (now : Nat) (hgood : (t.scrWord (off / 8)).ecc = .good) :
    (TW.start t now).noteRead off 1 = TW.start t now := by
  have hnote : (TW.start t now).noteScr (off / 8) = TW.start t now := by
    unfold TW.noteScr
    rw [show (TW.start t now).t = t from rfl, hgood]
  simp [TW.noteRead, hoff, hnote]

include halign

theorem TW.sysRead_word (now : Nat) (p : TPos) {arg : Nat} (haddr : bits arg 0 20 = off) (hcount : bits arg 20 4 = 1)
    (hgood : (t.scrWord (off / 8)).ecc = .good) : (TW.start t now).sysRead p arg =
      (TW.start t now, some [⟨(t.scrWord (off / 8)).data, (t.scrWord (off / 8)).tag⟩]) := by
  have hread := (TW.start t now).sysRead_words p (arg := arg) (by rwa [haddr]) (by rw [hcount]; decide) (by rw [hcount]; decide)
    (fun k hk => by rw [hcount] at hk; rw [haddr]; exact inTileMap_scratch (by omega))
  rwa [haddr, hcount, TW.noteRead_good hoff now hgood, List.range_one, List.map_cons, List.map_nil, Nat.mul_zero, Nat.add_zero,
    show (TW.start t now).t = t from rfl, Tile.readAddr_scratch hoff p hgood] at hread

omit halign in
theorem bits_readArg : bits (off + 2 ^ 20 * 1) 0 20 = off ∧ bits (off + 2 ^ 20 * 1) 20 4 = 1 := by
  rw [bits, bits, Nat.shiftRight_zero, Nat.shiftRight_eq_div_pow]
  omega

theorem TW.surveyRead_word (now : Nat) (p : TPos) (hgood : (t.scrWord (off / 8)).ecc = .good) :
    (TW.start t now).surveyRead p (surveyBlocks off 8) =
      (TW.start (t.sysNote 0 0) now, some [(off, ⟨(t.scrWord (off / 8)).data, (t.scrWord (off / 8)).tag⟩)]) := by
  obtain ⟨haddr, hcount⟩ := bits_readArg hoff
  have hnote : (TW.start t now).upd (·.sysNote 0 0) = TW.start (t.sysNote 0 0) now := rfl
  simp only [surveyBlocks_word halign, TW.surveyRead, TW.sysRead_word halign hoff now p haddr hcount hgood, hnote, List.range_one,
    List.zipWith_cons_cons, List.zipWith_nil_left, Nat.mul_zero, Nat.add_zero, List.append_nil]

omit hoff in
/-- A write of a whole scratch word is one WRITE of one word. -/
theorem Tile.surveyWrites_word (p : TPos) {data : List Nat} (hlen : data.length = 8) :
    t.surveyWrites p off data = [(off, [⟨BitVec.ofNat 64 (leNat data), 0⟩])] := by
  have hbytes : ∀ i, i < 8 → (if off ≤ off + i ∧ off + i < off + data.length then data.getD (off + i - off) 0
      else bits (t.readAddr p off).data.toNat (8 * i) 8) = data.getD i 0 := by
    intro i hi
    rw [if_pos (by omega), Nat.add_sub_cancel_left]
  have hdata : (List.range 8).map (fun i => data.getD i 0) = data := by
    refine List.ext_getElem (by simp [hlen]) fun i _ hi => ?_
    rw [List.getElem_map, List.getElem_range, List.getD_eq_getElem _ _ hi]
  have hword : t.surveyWord p off data off = some (off, ⟨BitVec.ofNat 64 (leNat data), 0⟩) := by
    have hmap := (List.map_congr_left fun i hi => hbytes i (List.mem_range.1 hi)).trans hdata
    simp only [Tile.surveyWord, hmap]
    simp [hlen]
  simp [Tile.surveyWrites, hlen, surveyBlocks_word halign, hword]

theorem TW.surveyMerge_word (now : Nat) : (TW.start t now).surveyMerge off 8 = TW.start t now := by
  have hspan : wordSpan off 8 = (off / 8, 1) := by
    rw [wordSpan, show (off + 8 - 1) / 8 = off / 8 by omega]
    simp
  have hwhole : partialWords off 8 = [] := by
    have hword : 8 * (off / 8) = off := by omega
    simp [partialWords, hspan, hword]
  simp [TW.surveyMerge, hwhole]

theorem TW.surveyWrite_word (now : Nat) (p : TPos) (d : Tok) :
    (TW.start t now).surveyWrite p [(off, [d])] =
      (TW.start ((t.landScr (off / 8) (tokWords [d])).sysNote 1 0) now, true) := by
  have hwrite := t.sysWrite_scratch p (ds := [d]) halign (by simp) (by simp) (by simp; omega)
  simp [TW.surveyWrite, TW.start, hwrite]

omit halign in
/-- No word of scratch is kept from a host write (R218). -/
theorem surveyKept_scratch : surveyKept off = false := by
  have hflow : ¬ (0x10280 ≤ off ∧ off < 0x10400) := by omega
  have hbundle : ¬ (0x30000 ≤ off ∧ off < 0x34000) := by omega
  simp [surveyKept, hflow, hbundle]

end Word

/-! ### Accesses through a view (R514, R515) -/

section View
variable {s : State} {view : Nat} (hview : view < 2)
include hview

theorem State.surveyTarget_enabled (hen : s.reg F.SVY_SEL_EN 0 view = 1) :
    s.surveyTarget view = some (s.reg F.SVY_SEL_TARGET 0 view) := by
  simp [State.surveyTarget, hview.ne, hen]

theorem State.surveyTarget_disabled (hen : s.reg F.SVY_SEL_EN 0 view = 0) : s.surveyTarget view = none := by
  simp [State.surveyTarget, hview.ne, hen]

variable {off f key : Nat} (hen : s.reg F.SVY_SEL_EN 0 view = 1)
  (hloc : s.locate (s.reg F.SVY_SEL_TARGET 0 view) = some (f, key)) (hopen : s.msgReset f = false) (haway : s.agentAway f = false)
  (halign : off % 8 = 0) (hoff : off < 0x10000)
include hen hloc hopen haway halign hoff

/-- A read of a good scratch word delivers its bytes, or zeros where they are hidden. -/
theorem State.surveyRead_word {hidden : Bool} (hgood : ((s.tile f key).scrWord (off / 8)).ecc = .good)
    (hhidden : (decide (((s.tile f key).scrWord (off / 8)).tag ≠ 0) && !s.scopeOpen 0) = hidden) :
    s.surveyRead view off 8 =
      ((s.absorb f key (TW.start ((s.tile f key).sysNote 0 0) s.acyc)).svyNote view (some 0) false hidden,
        some (bytesLe 8 (if hidden then 0 else ((s.tile f key).scrWord (off / 8)).data.toNat))) := by
  have hscope := State.absorb_clean_scopeOpen (s := s) (f := f) (key := key) (TW.clean_start ((s.tile f key).sysNote 0 0) s.acyc) 0
  have hlength : ∀ v, (bytesLe 8 v).take 8 = bytesLe 8 v := fun v => List.take_of_length_le (bytesLe_length 8 v).le
  simp only [State.surveyRead, State.surveyTarget_enabled hview hen, hloc, hopen, haway, Bool.false_eq_true, if_false,
    TW.surveyRead_word halign hoff s.acyc (s.tpos f key) hgood, hscope]
  simp [hoff, halign, hlength, ← hhidden]

/-- A write of a scratch word with the write scope open and Crocus active stores it with tag 0. -/
theorem State.surveyWrite_word (hscope : s.scopeOpen 1 = true) (hcrocus : s.crocus = true) {data : List Nat} (hlen : data.length = 8) :
    (s.surveyWrite view off data).1 = (s.absorb f key (TW.start (((s.tile f key).landScr (off / 8)
      (tokWords [⟨BitVec.ofNat 64 (leNat data), 0⟩])).sysNote 1 0) s.acyc)).svyNote view (some 0) false false := by
  have hkept := surveyKept_scratch hoff
  simp [State.surveyWrite, hscope, hcrocus, hlen, surveyBlocks_word halign, hkept, State.surveyTarget_enabled hview hen, hloc,
    hopen, haway, TW.surveyMerge_word halign hoff, Tile.surveyWrites_word halign _ hlen, TW.surveyWrite_word halign hoff]

end View

theorem State.surveyWrite_refused {s : State} (view off : Nat) (data : List Nat) (h : s.scopeOpen 1 = false ∨ s.crocus = false) :
    (s.surveyWrite view off data).1 = s.svyNote view none true true := by
  rcases h with h | h <;> simp [State.surveyWrite, h]

theorem State.emit_out (s : State) (c : Chan) (p g : Nat) (body : List Nat) : (s.emit c p g body).out = ⟨c, p, g, body⟩ :: s.out := rfl

section Access
variable {s u : State} (port : Fin 2) {view : Fin 3} {off : BitVec 18} {n : Fin 4097}

theorem execSurveyRead_done {bs : List Nat} (h : s.surveyRead view.val off.toNat n.val = (u, some bs)) :
    exec (.surveyRead port view off n []) s = .next (u.emit .hostCpl port.val 0 bs) := by
  change execSurveyRead port view off n [] s = _
  simp only [execSurveyRead, State.upsets, List.foldl_nil, h]

theorem execSurveyRead_aborted (h : s.surveyRead view.val off.toNat n.val = (u, none)) :
    exec (.surveyRead port view off n []) s = .next (u.emit .hostCpl port.val 4 []) := by
  change execSurveyRead port view off n [] s = _
  simp only [execSurveyRead, State.upsets, List.foldl_nil, h]

theorem execSurveyWrite_eq {data : List (BitVec 8)} (h : (s.surveyWrite view.val off.toNat (data.map (·.toNat))).1 = u) :
    exec (.surveyWrite view off data) s = .next u := Res.next_congr h

theorem execSurveyTimeout_read : exec (.surveyTimeout port view false) s =
    .next ((s.svyNote view.val (some 6) true false).emit .hostCpl port.val 4 []) := rfl

theorem execSurveyTimeout_write : exec (.surveyTimeout port view true) s = .next (s.svyNote view.val (some 6) true false) := rfl

end Access

/-! ### O48 -/

/-- Settles O48: a read and a write of one word are the work of one READ and one WRITE at the tile, and every access is noted in
SVY_STAT. -/
theorem surveyWindowReadsAndWrites : Obligations.SurveyWindowReadsAndWrites := by
  refine ⟨?read, ?noTarget, ?write, ?refused, ?timeout⟩
  case read =>
    intro s port view off f key hview hen hloc hopen haway halign hoff hgood
    have hclean := TW.clean_start ((s.tile f key).sysNote 0 0) s.acyc
    refine ⟨fun hshown => ?_, fun htag hscope => ?_⟩
    · have hread := State.surveyRead_word hview hen hloc hopen haway halign hoff hgood (hidden := false)
        (by rcases hshown with h | h <;> simp [h])
      refine ⟨_, execSurveyRead_done port hread, ?_⟩
      rw [State.emit_out, State.emit_reg, State.emit_reg, State.svyNote_out, State.absorb_clean_out hclean, State.svyNote_last,
        State.svyNote_ops, State.absorb_clean_svyStat hclean (by decide) hview]
      exact ⟨rfl, rfl, rfl⟩
    · have hread := State.surveyRead_word hview hen hloc hopen haway halign hoff hgood (hidden := true)
        (by rw [decide_eq_true htag, hscope]; rfl)
      refine ⟨_, execSurveyRead_done port hread, ?_⟩
      rw [State.emit_out, State.emit_reg, State.svyNote_out, State.absorb_clean_out hclean, State.svyNote_denied,
        State.absorb_clean_svyStat hclean (by decide) hview, if_pos rfl]
      exact ⟨rfl, rfl⟩
  case noTarget =>
    intro s port view off n hview hen
    have hread : s.surveyRead view.val off.toNat n.val = (s.svyNote view.val none true false, none) := by
      simp only [State.surveyRead, State.surveyTarget_disabled hview hen]
    refine ⟨_, execSurveyRead_aborted port hread, ?_⟩
    rw [State.emit_out, State.emit_fields, State.emit_reg, State.svyNote_out, State.svyNote_fields, State.svyNote_err]
    exact ⟨rfl, rfl, rfl⟩
  case write =>
    intro s view off data f key hview hscope hcrocus hen hloc hopen haway halign hoff hlen
    have hwrite := State.surveyWrite_word hview hen hloc hopen haway halign hoff hscope hcrocus
      (data := data.map (·.toNat)) (by rwa [List.length_map])
    obtain ⟨hscratch, -, -⟩ := ((s.tile f key).landScr (off.toNat / 8)
      (tokWords [⟨BitVec.ofNat 64 (leNat (data.map (·.toNat))), 0⟩])).sysNote_frame 1 0
    refine ⟨_, execSurveyWrite_eq hwrite, ?_⟩
    rw [State.svyNote_tile, State.tile_absorb_start, State.svyNote_last, Tile.scrWord_congr hscratch]
    refine ⟨Tile.scrWord_tokWords _ _ (by simp) 0 (by simp), fun i hi hother => ?_, rfl⟩
    rw [Tile.scrWord_congr hscratch]
    refine Tile.scrWord_landScr_other _ _ _ _ fun q hq => ?_
    rw [tokWords, List.length_map, List.length_singleton] at hq
    omega
  case refused =>
    intro s view off data hclosed
    have hwrite := State.surveyWrite_refused view.val off.toNat (data.map (·.toNat)) hclosed
    exact ⟨_, execSurveyWrite_eq hwrite, State.svyNote_fields .., State.svyNote_pkts .., State.svyNote_denied ..,
      State.svyNote_err ..⟩
  case timeout =>
    intro s port view
    refine ⟨_, _, execSurveyTimeout_read port, execSurveyTimeout_write port, ?_⟩
    rw [State.emit_out, State.emit_fields, State.emit_reg, State.emit_reg, State.svyNote_out, State.svyNote_fields,
      State.svyNote_last, State.svyNote_err]
    exact ⟨rfl, rfl, rfl, rfl, rfl, rfl⟩

end Sys2Proof.Machine

/-!
PROOFS. The statements of spec 13_dictionary about profiles and topology: SAVE, LOAD, the profile switches and APPLY.
-/

namespace Sys2Proof.Machine

/-! ### Sparse data after a list of writes -/

/-- Of several writes under one key that agree, the key reads what they wrote. -/
theorem SMap.get_foldl_set {α β : Type} [DecidableEq β] (d : β) (key : α → Nat) (val : α → β) (m : SMap β) {l : List α} {x : α}
    (hx : x ∈ l) (hagree : ∀ y ∈ l, key y = key x → val y = val x) :
    SMap.get d (l.foldl (fun m y => SMap.set d m (key y) (val y)) m) (key x) = val x := by
  induction l using List.reverseRecOn with
  | nil => cases hx
  | append_singleton l y ih =>
    rw [List.foldl_append, List.foldl_cons, List.foldl_nil]
    by_cases hkey : key y = key x
    · rw [hkey, SMap.get_set_same]
      exact hagree y (by simp) hkey
    · have hxl : x ∈ l := by
        rcases List.mem_append.1 hx with h | h
        · exact h
        · exact absurd (congrArg key (List.mem_singleton.1 h).symm) hkey
      rw [SMap.get_set_other _ _ _ _ _ (Ne.symm hkey)]
      exact ih hxl fun z hz => hagree z (List.mem_append_left _ hz)

/-! ### Working values of profile-stored entries (R404, R408) -/

theorem Ent.odKey_address (e : Ent) : odKey (e.key / 256) (e.key % 256) = e.key := Nat.div_add_mod' e.key 256

theorem profileEnts_keys_nodup : (profileEnts.map (·.key)).Nodup := by decide +kernel

theorem profileEnts_key_injective {e e' : Ent} (he : e ∈ profileEnts) (he' : e' ∈ profileEnts) (h : e.key = e'.key) : e = e' :=
  List.inj_on_of_nodup_map profileEnts_keys_nodup he he' h

/-- No command of profiles or topology, and no entry that shows a profile, is itself stored in a profile. -/
theorem profileEnts_key_ne {e : Ent} (he : e ∈ profileEnts) :
    e.key ≠ odKey 0x1010 1 ∧ e.key ≠ odKey 0x1011 1 ∧ e.key ≠ odKey 0x2000 2 ∧ e.key ≠ odKey 0x2000 5 := by
  have hall : ∀ e ∈ profileEnts,
      e.key ≠ odKey 0x1010 1 ∧ e.key ≠ odKey 0x1011 1 ∧ e.key ≠ odKey 0x2000 2 ∧ e.key ≠ odKey 0x2000 5 := by decide +kernel
  exact hall e he

/-- An entry that is listed reads its listed value. -/
theorem State.od_listed {s : State} {ix sub v : Nat} (h : SMap.get 0 s.dict.work (odKey ix sub) = v + 1) : s.od ix sub = v := by
  unfold State.od
  rw [h]

/-- A write of an entry that gives no other its default leaves the other entries. -/
theorem State.od_setOd_apart (s : State) {ix sub jx sub' : Nat} (v : Nat) (h : odKey jx sub' ≠ odKey ix sub)
    (hprofile : odKey 0x2000 1 ≠ odKey ix sub) (hnode : odKey 0x2020 5 ≠ odKey ix sub) :
    (s.setOd ix sub v).od jx sub' = s.od jx sub' := by
  refine State.od_setOd_other s ix sub jx sub' v h fun e => ?_
  have hwork : ∀ k, k ≠ odKey ix sub → SMap.get 0 (s.setOd ix sub v).dict.work k = SMap.get 0 s.dict.work k :=
    fun k hk => SMap.get_set_other (α := Nat) 0 s.dict.work (odKey ix sub) k (v + 1) hk
  unfold State.odDefault
  rw [hwork _ hprofile, hwork _ hnode]
  rfl

/-- Entries written from a list change the working values alone. -/
theorem State.putEnts_eq (s : State) (es : List (Ent × Nat)) : s.putEnts es = { s with dict := { s.dict with
    work := es.foldl (fun m x => SMap.set 0 m x.1.key (x.2 + 1)) s.dict.work } } := by
  induction es generalizing s with
  | nil => rfl
  | cons x es ih => exact ih _

theorem State.loadSlot_eq (s : State) (n : Nat) (liveOnly : Bool) : s.loadSlot n liveOnly = { s with dict := { s.dict with
    work := (profileEnts.filter (fun e => e.live || !liveOnly)).foldl (fun m e => SMap.set 0 m e.key (s.slotValue n e + 1))
      s.dict.work } } := by
  rw [State.loadSlot, State.putEnts_eq, List.foldl_map]

theorem State.loadSlot_work (s : State) (n : Nat) (liveOnly : Bool) : (s.loadSlot n liveOnly).dict.work =
    (profileEnts.filter (fun e => e.live || !liveOnly)).foldl (fun m e => SMap.set 0 m e.key (s.slotValue n e + 1))
      s.dict.work := by
  rw [State.loadSlot_eq]

theorem State.loadSlot_live (s : State) (n : Nat) {e : Ent} (he : e ∈ profileEnts) (hlive : e.live = true) :
    SMap.get 0 (s.loadSlot n true).dict.work e.key = s.slotValue n e + 1 := by
  rw [State.loadSlot_work]
  refine SMap.get_foldl_set 0 (·.key) (fun e => s.slotValue n e + 1) _ (List.mem_filter.2 ⟨he, by simp [hlive]⟩)
    fun y hy hkey => ?_
  rw [profileEnts_key_injective (List.mem_filter.1 hy).1 he hkey]

/-- Writes of entries leave the registers and the fuses, and list each entry's value. -/
theorem State.foldl_writeOd (v : Ent → Nat) (l : List Ent) (s : State) :
    (l.foldl (fun s e => s.writeOd e (v e)) s).regs = s.regs ∧
    (l.foldl (fun s e => s.writeOd e (v e)) s).dict.work = l.foldl (fun m e => SMap.set 0 m e.key (v e + 1)) s.dict.work := by
  induction l generalizing s with
  | nil => exact ⟨rfl, rfl⟩
  | cons e l ih => exact ih (s.writeOd e (v e))

/-! ### SAVE and LOAD (R426) -/

/-- The slot that a save goes to does not depend on the command's own entry. -/
theorem State.saveTarget_setOd (s : State) (v : Nat) : (s.setOd 0x1010 1 v).saveTarget = s.saveTarget := by
  have hod : ∀ sub, odKey 0x2000 sub ≠ odKey 0x1010 1 → (s.setOd 0x1010 1 v).od 0x2000 sub = s.od 0x2000 sub :=
    fun sub h => s.od_setOd_apart v h (by decide) (by decide)
  simp only [State.saveTarget, State.odNumber, hod 4 (by decide), hod 1 (by decide)]

/-- A slot that is saved and whose record passes its check gives the value saved. -/
theorem State.slotValue_saved {s : State} {n v : Nat} {e : Ent} (hgood : s.dict.badSlots.contains n = false)
    (h : SMap.get 0 s.dict.slots (n * 2 ^ 24 + e.key) = v + 1) : s.slotValue n e = v := by
  simp only [State.slotValue, hgood, Bool.false_eq_true, if_false, h]

/-- The working profile values are stored in a slot, whose record is good again. -/
def State.slotSaved (s : State) (n : Nat) : State := { s with dict := { s.dict with
  slots := profileEnts.foldl (fun m e => SMap.set 0 m (n * 2 ^ 24 + e.key) (s.od (e.key / 256) (e.key % 256) + 1)) s.dict.slots
  badSlots := s.dict.badSlots.filter (fun k => k ≠ n) } }

theorem State.slotSaved_slots (s : State) (n : Nat) : (s.slotSaved n).dict.slots =
    profileEnts.foldl (fun m e => SMap.set 0 m (n * 2 ^ 24 + e.key) (s.od (e.key / 256) (e.key % 256) + 1)) s.dict.slots := by
  rw [State.slotSaved]

theorem State.slotSaved_good (s : State) (n : Nat) : (s.slotSaved n).dict.badSlots.contains n = false := by
  simp [State.slotSaved]

theorem State.slotSaved_value (s : State) (n : Nat) {e : Ent} (he : e ∈ profileEnts) :
    (s.slotSaved n).slotValue n e = s.od (e.key / 256) (e.key % 256) := by
  refine State.slotValue_saved (s.slotSaved_good n) ?_
  rw [State.slotSaved_slots]
  exact SMap.get_foldl_set 0 (fun e : Ent => n * 2 ^ 24 + e.key) (fun e => s.od (e.key / 256) (e.key % 256) + 1) s.dict.slots he
    fun y _ hkey => by rw [Nat.add_left_cancel hkey]

theorem State.odCmd_od (s : State) (ix sub st code jx sub' : Nat) : (s.odCmd ix sub st code).od jx sub' = s.od jx sub' := rfl

theorem State.odCmd_slotValue (s : State) (ix sub st code n : Nat) (e : Ent) :
    (s.odCmd ix sub st code).slotValue n e = s.slotValue n e := rfl

theorem State.saveProfile_stores {s : State} (h : s.saveTarget ≠ 0) :
    s.saveProfile = ((s.setOd 0x1010 1 odSave).slotSaved s.saveTarget).odCmd 0x1010 1 0 0 := by
  rw [State.saveProfile, State.saveTarget_setOd, if_neg h]
  rfl

theorem State.saveProfile_value {s : State} (h : s.saveTarget ≠ 0) {e : Ent} (he : e ∈ profileEnts) :
    s.saveProfile.slotValue s.saveTarget e = s.od (e.key / 256) (e.key % 256) := by
  rw [State.saveProfile_stores h, State.odCmd_slotValue, State.slotSaved_value _ _ he]
  refine s.od_setOd_apart odSave ?_ (by decide) (by decide)
  rw [e.odKey_address]
  exact (profileEnts_key_ne he).1

theorem State.saveProfile_refused {s : State} (h : s.saveTarget = 0) :
    s.saveProfile = (s.setOd 0x1010 1 odSave).odCmd 0x1010 1 2 Abort.state := by
  rw [State.saveProfile, State.saveTarget_setOd, if_pos h]

theorem State.loadFactory_loads (s : State) : ∃ t : State, s.loadFactory = t.odCmd 0x1011 1 0 0 ∧ t.regs = s.regs ∧
    ∀ e, e ∈ profileEnts → t.od (e.key / 256) (e.key % 256) =
      (if odKey 0x3000 1 ≤ e.key ∧ e.key ≤ odKey 0x3000 8 then s.fuse.levels.getD (e.key - odKey 0x3000 1) 0
        else factory (s.od 0x2000 1) e) := by
  have hslot : (s.setOd 0x1011 1 odLoad).od 0x2000 1 = s.od 0x2000 1 :=
    s.od_setOd_apart odLoad (by decide) (by decide) (by decide)
  refine ⟨_, rfl, (State.foldl_writeOd _ _ _).1, fun e he => State.od_listed ?_⟩
  rw [e.odKey_address, (State.foldl_writeOd _ _ _).2, hslot]
  exact SMap.get_foldl_set 0 (·.key) (fun e => (if odKey 0x3000 1 ≤ e.key ∧ e.key ≤ odKey 0x3000 8
      then s.fuse.levels.getD (e.key - odKey 0x3000 1) 0 else factory (s.od 0x2000 1) e) + 1) _ he
    fun y hy hkey => by rw [profileEnts_key_injective hy he hkey]

/-! ### Profile switches (R425) -/

/-- Showing the slot in force, and that the switch is done, leaves the registers, the resets, the values in force and the
slots. -/
theorem State.shown_keeps (s : State) (n : Nat) : ((s.setOd 0x2000 5 n).odCmd 0x2000 2 0 0).regs = s.regs ∧
    ((s.setOd 0x2000 5 n).odCmd 0x2000 2 0 0).rst = s.rst ∧
    ((s.setOd 0x2000 5 n).odCmd 0x2000 2 0 0).dict.effect = s.dict.effect ∧
    ((s.setOd 0x2000 5 n).odCmd 0x2000 2 0 0).dict.slots = s.dict.slots := ⟨rfl, rfl, rfl, rfl⟩

theorem State.switchPending_loads (s : State) (n : Nat) :
    (s.switchPending n).od 0x2000 5 = n ∧ (s.switchPending n).regs = s.regs ∧
    (∀ e, e ∈ profileEnts → e.live = true → (s.switchPending n).od (e.key / 256) (e.key % 256) = s.slotValue n e) ∧
    (s.switchPending n).dict.effect = s.dict.effect ∧ (s.switchPending n).dict.slots = s.dict.slots := by
  have hload := s.loadSlot_eq n true
  have hshown : (s.switchPending n).od 0x2000 5 = n := by rw [State.switchPending, State.odCmd_od, State.od_setOd_same]
  have hlive : ∀ e, e ∈ profileEnts → e.live = true → (s.switchPending n).od (e.key / 256) (e.key % 256) = s.slotValue n e := by
    intro e he hlive
    rw [State.switchPending, State.odCmd_od]
    refine State.od_listed ?_
    rw [e.odKey_address]
    exact (SMap.get_set_other (α := Nat) 0 (s.loadSlot n true).dict.work _ _ (n + 1) (profileEnts_key_ne he).2.2.2).trans
      (s.loadSlot_live n he hlive)
  obtain ⟨hregs, -, heffect, hslots⟩ := State.shown_keeps (s.loadSlot n true) n
  exact ⟨hshown, hregs.trans (by rw [hload]), hlive, heffect.trans (by rw [hload]), hslots.trans (by rw [hload])⟩

theorem State.switchPending_rst (s : State) (n : Nat) : (s.switchPending n).rst = s.rst := by
  obtain ⟨-, hrst, -, -⟩ := State.shown_keeps (s.loadSlot n true) n
  exact hrst.trans (by rw [State.loadSlot_eq])

/-- A request below L4 with no reset in progress starts one of its own level (R438). -/
theorem State.resetReq_starts {s : State} (hidle : s.rst.active = false) (source qual : Nat) {level : Nat} (fields0 : Nat)
    (hlevel : level ≠ 4) : (s.resetReq source qual level true fields0).rst.active = true ∧
      (s.resetReq source qual level true fields0).rst.level = level ∧ (s.resetReq source qual level true fields0).rst.all = true ∧
      (s.resetReq source qual level true fields0).rst.heldMin = false := by
  have habsorbs : ∀ q, s.absorbs q = false := fun q => by simp only [State.absorbs, hidle, Bool.false_and]
  simp only [State.resetReq, habsorbs, hidle, Bool.false_eq_true, if_false, hlevel, Bool.true_or]
  exact ⟨rfl, rfl, rfl, rfl⟩

/-! ### APPLY (R269, R411) -/

theorem State.applyTopology_refused {s : State} (h : s.reg F.BC_ROPE_STATUS_STATE ≠ 0 ∧ s.reg F.BC_ROPE_STATUS_STATE ≠ 7) :
    s.applyTopology = (s.setOd 0x6010 5 1).odCmd 0x6010 5 2 Abort.state := if_pos h

theorem State.applyTopology_copies {s : State} (h : s.reg F.BC_ROPE_STATUS_STATE = 0 ∨ s.reg F.BC_ROPE_STATUS_STATE = 7) :
    s.applyTopology = ((((((s.setOd 0x6010 5 1).setReg F.HX_TOPO_COORD (s.od 0x6010 1)).setReg F.HX_TOPO_NXM1
      (s.od 0x6010 2)).setReg F.HX_TOPO_NYM1 (s.od 0x6010 3)).setReg F.HX_TOPO_NZM1 (s.od 0x6010 4)).setReg
        F.HX_TOPO_VALID 1).odCmd 0x6010 5 0 0 := by
  have hod : ∀ sub, odKey 0x6010 sub ≠ odKey 0x6010 5 → (s.setOd 0x6010 5 1).od 0x6010 sub = s.od 0x6010 sub :=
    fun sub hne => s.od_setOd_apart 1 hne (by decide) (by decide)
  rw [State.applyTopology, if_neg (by rw [State.setOd_reg]; omega)]
  simp only [State.setReg_od, hod 1 (by decide), hod 2 (by decide), hod 3 (by decide), hod 4 (by decide)]

/-- Settles O18: a clause per command and outcome, from the equation of that branch and what it writes. -/
theorem profileAndTopologyCommandsComplete : Obligations.ProfileAndTopologyCommandsComplete := by
  refine ⟨?save, ?saveRefused, ?load, ?pending, ?busy, ?immediate, ?apply, ?applyRefused⟩
  case save =>
    refine fun s h => ⟨_, rfl, ?_, ?_, fun e he => State.saveProfile_value h he⟩ <;> rw [State.saveProfile_stores h]
    · exact State.odCmd_status ..
    · rfl
  case saveRefused => exact fun s h => ⟨_, Res.next_congr (State.saveProfile_refused h), rfl, State.odCmd_status ..⟩
  case load =>
    intro s
    obtain ⟨t, hload, hregs, hvalues⟩ := s.loadFactory_loads
    exact ⟨_, Res.next_congr hload, State.odCmd_status .., hregs, hvalues⟩
  case pending => exact fun s n => ⟨_, rfl, (s.setOd 0x2000 2 _).switchPending_loads n.val⟩
  case busy =>
    intro s n h
    refine ⟨_, Res.next_congr (if_pos h), rfl, State.odCmd_status .., rfl, rfl⟩
  case immediate =>
    intro s n hfree hidle
    have hfree' : ¬ (s.setOd 0x2000 2 (n.val + 128 * b2n true)).switchBusy = true := by
      rw [show (s.setOd 0x2000 2 (n.val + 128 * b2n true)).switchBusy = s.switchBusy from rfl, hfree]
      exact Bool.false_ne_true
    exact ⟨_, Res.next_congr (if_neg hfree'),
      State.resetReq_starts (by rw [State.switchPending_rst]; exact hidle) 4 3 0 (by decide)⟩
  case apply =>
    intro s h
    refine ⟨_, Res.next_congr (State.applyTopology_copies h), ?_⟩
    have hreg : ∀ (u : State) (f : Fld), (u.odCmd 0x6010 5 0 0).reg f = u.reg f := fun u f => rfl
    refine ⟨?_, ?_, ?_, ?_, ?_, State.odCmd_status ..⟩ <;> simp [hreg, State.reg_setReg_other]
  case applyRefused => exact fun s h h' => ⟨_, Res.next_congr (State.applyTopology_refused ⟨h, h'⟩), rfl, State.odCmd_status ..⟩

end Sys2Proof.Machine

/-!
PROOFS. Rules of the Hexkel ports and the transit ring that the statements of spec 08_hexkel rest on: a port's state beside its
registers, what traffic on the ring leaves alone, and what a port that goes DOWN is left with.
-/

namespace Sys2Proof.Machine

/-! ### The state of a port beside its registers -/

theorem State.port_of_ports {s t : State} (h : t.ports = s.ports) (p : Nat) : t.port p = s.port p := by
  rw [State.port, State.port, h]

@[simp] theorem State.port_setReg (s : State) (f : Fld) (v i j p : Nat) : (s.setReg f v i j).port p = s.port p := rfl
@[simp] theorem State.port_satReg (s : State) (f : Fld) (i n p : Nat) : (s.satReg f i n).port p = s.port p := rfl
@[simp] theorem State.port_hxCmd (s : State) (q status op p : Nat) : (s.hxCmd q status op).port p = s.port p := rfl
@[simp] theorem State.port_portFault (s : State) (q code : Nat) (trig : Bool) (p : Nat) :
    (s.portFault q code trig).port p = s.port p := rfl
@[simp] theorem State.port_flowControl (s : State) (q p : Nat) : (s.flowControl q).port p = s.port p := rfl
@[simp] theorem State.portFault_reg (s : State) (q code : Nat) (trig : Bool) (f : Fld) (i j : Nat) :
    (s.portFault q code trig).reg f i j = s.reg f i j := rfl

@[simp] theorem State.port_updPort_same (s : State) (p : Nat) (g : HxPort → HxPort) : (s.updPort p g).port p = g (s.port p) :=
  SMap.get_set_same ..

theorem State.port_updPort_other (s : State) {p q : Nat} (g : HxPort → HxPort) (h : p ≠ q) :
    (s.updPort q g).port p = s.port p := SMap.get_set_other _ _ _ _ _ h

theorem State.port_invalidate (s : State) (p : Nat) : s.invalidate.port p = s.port p := rfl

theorem State.portFault_reports (s : State) (p code : Nat) (trig : Bool) :
    ∃ r : Report, (s.portFault p code trig).reports = s.reports ++ [r] ∧ r.code = code :=
  State.reports1_moduleFault s s _ _ _ _ _ rfl

/-- A counter leaves the fields with another key alone. -/
theorem State.reg_satReg_other (s : State) (f g : Fld) (i n a b : Nat) (h : g.key a b ≠ f.key i 0) :
    (s.satReg f i n).reg g a b = s.reg g a b := State.reg_setReg_other _ _ _ _ _ _ _ _ h

/-! ### What traffic on the ring leaves alone (R252, R263 to R265) -/

/-- The registers that count what the ring passes on and discards (R254, R263, R267). -/
def ringCounter (k : Nat) : Prop := (∃ p, k = F.HX_ERR_ROUTE.key p 0) ∨ k = F.HX_RING_FWD.key 0 0 ∨ k = F.HX_RING_DROP.key 0 0

/-- A field with one copy for each port, or with one for the module, that does not lie where a counter of the ring lies. -/
def Fld.offRing (f : Fld) : Bool := f.s1 % 16384 == 0 && !([3088, 544, 528].contains ((f.base * 64 + f.lo) % 1048576))

theorem Fld.not_ringCounter {f : Fld} (h : f.offRing = true) (p : Nat) : ¬ ringCounter (f.key p 0) := by
  obtain ⟨hstride, hplace⟩ := Bool.and_eq_true_iff.1 h
  have hmod : f.key p 0 % 1048576 = (f.base * 64 + f.lo) % 1048576 := by
    have hkey : f.key p 0 = f.base * 64 + f.lo + 1048576 * (f.s1 / 16384 * p) := by
      have hs1 : 16384 * (f.s1 / 16384) = f.s1 := Nat.mul_div_cancel' (Nat.dvd_of_mod_eq_zero (beq_iff_eq.1 hstride))
      calc f.key p 0 = f.base * 64 + f.lo + 64 * (f.s1 * p) := by rw [Fld.key]; ring
        _ = f.base * 64 + f.lo + 64 * (16384 * (f.s1 / 16384) * p) := by rw [hs1]
        _ = _ := by ring
    rw [hkey, Nat.add_mul_mod_self_left]
  simp only [Bool.not_eq_true', List.contains_eq_mem, List.mem_cons, List.not_mem_nil, or_false, decide_eq_false_iff_not, not_or,
    ← hmod] at hplace
  simp only [ringCounter, F.HX_ERR_ROUTE_key, F.HX_RING_FWD_key, F.HX_RING_DROP_key]
  rintro (⟨q, hq⟩ | hq | hq) <;> omega

/-- What the ring may change: its own counters, the queues of the ports that are UP, what Base Camp holds of it, and
the values left free. -/
structure State.RingWork (s t : State) : Prop where
  listed : ∀ k, ¬ ringCounter k → SMap.get 0 t.regs k = SMap.get 0 s.regs k
  same : t.mask 33947656 = s.mask 33947656
  ports : ∀ p, ∃ q, t.port p = { s.port p with tx := q }
  down : ∀ p, s.portUp p = false → t.port p = s.port p

namespace State.RingWork

theorem refl (s : State) : s.RingWork s := ⟨fun _ _ => rfl, rfl, fun _ => ⟨_, rfl⟩, fun _ _ => rfl⟩

theorem reg {s t : State} (h : s.RingWork t) (f : Fld) (p : Nat) (hf : f.offRing = true := by decide) : t.reg f p = s.reg f p :=
  State.reg_of_listed (h.listed _ (Fld.not_ringCounter hf p))

theorem portUp {s t : State} (h : s.RingWork t) (p : Nat) : t.portUp p = s.portUp p := by
  rw [State.portUp, State.portState, h.reg F.HX_STATUS_STATE p, State.portUp, State.portState]

theorem trans {s t u : State} (h : s.RingWork t) (h' : t.RingWork u) : s.RingWork u where
  listed k hk := (h'.listed k hk).trans (h.listed k hk)
  same := h'.same.trans h.same
  ports p := by
    obtain ⟨q, hq⟩ := h.ports p
    obtain ⟨q', hq'⟩ := h'.ports p
    exact ⟨q', by rw [hq', hq]⟩
  down p hp := (h'.down p ((h.portUp p).trans hp)).trans (h.down p hp)

theorem foldl {α : Type} {g : State → α → State} (h : ∀ (s : State) x, s.RingWork (g s x)) (l : List α) (s : State) :
    s.RingWork (l.foldl g s) := by
  induction l generalizing s with
  | nil => exact refl s
  | cons x l ih => exact (h s x).trans (ih _)

theorem reports {s t : State} (h : s.RingWork t) : t.reports = s.reports := Part.same_of_mask .reports h.same (by decide)

theorem out {s t : State} (h : s.RingWork t) : t.out = s.out := Part.same_of_mask .out h.same (by decide)

/-- A change of what Base Camp holds, or of the values left free. -/
theorem of_parts {s t : State} (h : t.mask 33816576 = s.mask 33816576) : s.RingWork t := by
  have hports : t.ports = s.ports := Part.same_of_mask .ports h (by decide)
  exact ⟨fun k _ => State.listed_of_mask k h, mask_mono h (by decide), fun p => ⟨_, State.port_of_ports hports p⟩,
    fun p _ => State.port_of_ports hports p⟩

theorem counted (s : State) {f : Fld} {i : Nat} (v : Nat) (h : ringCounter (f.key i 0)) : s.RingWork (s.setReg f v i) where
  listed k hk := SMap.get_set_other _ _ _ _ _ fun e => hk (e ▸ h)
  same := State.setReg_parts ..
  ports _ := ⟨_, rfl⟩
  down _ _ := rfl

theorem queued (s : State) {p : Nat} (ch : Nat) (bs : List Nat) (transit : Bool) (h : s.portUp p = true) :
    s.RingWork (s.enqueue p ch bs transit) where
  listed _ _ := rfl
  same := State.enqueue_parts ..
  ports q := by
    by_cases hq : q = p
    · subst hq
      exact ⟨_, State.port_updPort_same ..⟩
    · exact ⟨_, State.port_updPort_other s _ hq⟩
  down q hq := State.port_updPort_other s _ fun e => by rw [e, h] at hq; cases hq

end State.RingWork

open State.RingWork

theorem State.routeErr_work (s : State) (p : Nat) : s.RingWork (s.routeErr p) := counted s _ (.inl ⟨p, rfl⟩)

theorem State.passed_work (s : State) (stop : Nat) : s.RingWork (s.passed stop) := by
  unfold State.passed
  split
  · exact counted s _ (.inr (.inl rfl))
  · exact refl s

theorem State.ringDrop_work (s : State) (stop : Nat) : s.RingWork (s.ringDrop stop) := by
  unfold State.ringDrop
  split
  · exact counted s _ (.inr (.inr rfl))
  · exact refl s

theorem State.ringFlow_work (s : State) (stop ch : Nat) : s.RingWork (s.ringFlow stop ch) := of_parts (State.ringFlow_parts ..)

theorem State.replyPut_work (s : State) (stop : Nat) (d : Dyn) : s.RingWork (s.replyPut stop d) := by
  unfold State.replyPut
  split
  · exact of_parts (State.ringPut_parts ..)
  · exact of_parts (State.ringPut_parts ..)
  · exact (s.routeErr_work _).trans (State.ringDrop_work _ _)

theorem State.answerPut_work (s : State) (d : Dyn) (op status : Nat) (payload : List Nat) :
    s.RingWork (s.answerPut d op status payload) :=
  (of_parts (State.fresh_parts s)).trans (State.replyPut_work _ _ _)

theorem State.ringLeave_work (s : State) (x : RingItem) : s.RingWork (s.ringLeave x) := by
  unfold State.ringLeave
  split
  · split <;> exact of_parts rfl
  · split
    · next h => exact (queued s _ _ _ h).trans (State.passed_work _ _)
    · split
      · split
        · exact (s.routeErr_work _).trans (State.answerPut_work ..)
        · exact (s.routeErr_work _).trans (State.ringDrop_work _ _)
      · exact (s.routeErr_work _).trans (State.ringDrop_work _ _)

/-- The state with another ring. -/
def State.withRing (s : State) (ring : List RingItem) : State := { s with bcl := { s.bcl with ring := ring } }

theorem State.ringMove_last (s : State) {x : RingItem} (rest : List RingItem) (h : x.stop = x.to_) :
    s.ringMove x rest = ((s.withRing rest).ringLeave x).ringFlow x.stop x.load.ch := if_pos h

/-- An item after a move along the ring (R264). -/
def RingItem.moved (x : RingItem) : RingItem :=
  { x with stop := (ringNext x.stop x.to_).1, lane := if (ringNext x.stop x.to_).2 then 1 else x.lane }

theorem State.ringMove_on (s : State) {x : RingItem} (rest : List RingItem) (h : x.stop ≠ x.to_) : s.ringMove x rest =
    ((s.withRing (rest ++ [x.moved])).ringFlow x.stop x.load.ch).ringFlow x.moved.stop x.load.ch := if_neg h

theorem State.withRing_work (s : State) (ring : List RingItem) : s.RingWork (s.withRing ring) := of_parts (mask_upd ..)

theorem State.ringMove_work (s : State) (x : RingItem) (rest : List RingItem) : s.RingWork (s.ringMove x rest) := by
  by_cases h : x.stop = x.to_
  · rw [s.ringMove_last rest h]
    exact (s.withRing_work rest).trans ((State.ringLeave_work _ x).trans (State.ringFlow_work ..))
  · rw [s.ringMove_on rest h]
    exact (s.withRing_work _).trans ((State.ringFlow_work ..).trans (State.ringFlow_work ..))

theorem State.ringRun_work (n : Nat) (s : State) : s.RingWork (s.ringRun n) := by
  induction n generalizing s with
  | zero => exact refl s
  | succ n ih =>
    unfold State.ringRun
    split
    · exact refl s
    · exact (State.ringMove_work ..).trans (ih _)

theorem State.ringDrain_work (s : State) (p : Nat) : s.RingWork (s.ringDrain p) :=
  (foldl (fun s ch => State.ringFlow_work s p ch) _ _).trans (State.ringRun_work _ _)

theorem State.answer_work (s : State) (d : Dyn) (op status : Nat) (payload : List Nat) :
    s.RingWork (s.answer d op status payload) :=
  (State.answerPut_work ..).trans (State.ringRun_work _ _)

/-! ### A port that goes DOWN (R233, R267) -/

/-- A port's state after it has gone DOWN. -/
def HxPort.cleared (g : HxPort) : HxPort :=
  { g with nak := false, attempts := 0, sent := [], resend := [], tx := [], rx := [], swaps := [], spdm := [], spdmIn := [],
           spdmSent := 0, spdmFrag := 0, txSecret := [], rxSecrets := [], rxKph := 0, rekey := false }

/-- The part of going DOWN before the port's queued traffic is answered and counted. -/
def State.portCleared (s : State) (p : Nat) : State :=
  ((((s.setReg F.HX_STATUS_STATE 1 p).setReg F.HX_STATUS_KEYED 0 p).setReg F.HX_FC_OFF_SEEN 0 p).updPort p
    HxPort.cleared).flowControl p

theorem State.portCleared_port (s : State) (p : Nat) : (s.portCleared p).port p = (s.port p).cleared := by
  simp [State.portCleared]

theorem State.flowControl_reg (s : State) (p : Nat) {f : Fld} {i : Nat} (hsent : f.key i 0 ≠ F.HX_FC_OFF_SENT.key p 0)
    (h0 : f.key i 0 ≠ F.HX_FC_OCC_VN0.key p 0) (h1 : f.key i 0 ≠ F.HX_FC_OCC_VN1.key p 0) :
    (s.flowControl p).reg f i = s.reg f i :=
  (State.reg_setReg_other _ _ _ _ _ _ _ _ h1).trans ((State.reg_setReg_other _ _ _ _ _ _ _ _ h0).trans
    (State.reg_setReg_other _ _ _ _ _ _ _ _ hsent))

theorem State.flowControl_reports (s : State) (p : Nat) : (s.flowControl p).reports = s.reports := by
  simp only [State.flowControl, State.setReg_reports]

theorem State.portCleared_state (s : State) (p : Nat) : (s.portCleared p).portState p = 1 := by
  simp [State.portCleared, State.portState, State.flowControl_reg, State.reg_setReg_other]

theorem State.portCleared_keyed (s : State) (p : Nat) : (s.portCleared p).reg F.HX_STATUS_KEYED p = 0 := by
  simp [State.portCleared, State.flowControl_reg, State.reg_setReg_other]

theorem State.portCleared_reports (s : State) (p : Nat) : (s.portCleared p).reports = s.reports := by
  simp only [State.portCleared, State.flowControl, State.setReg_reports, State.updPort_reports]

/-- What a port leaves behind is the ring's work; then its loss is reported where it was UP. -/
theorem State.portDown_work (s : State) (p : Nat) : ∃ u, (s.portCleared p).RingWork u ∧
    s.portDown p = if s.portUp p then u.portFault p Code.hxLinkDown false else u := by
  refine ⟨_, ?_, rfl⟩
  refine trans (foldl (fun s it => ?_) _ _) (trans (counted _ _ (.inl ⟨p, rfl⟩)) (trans (counted _ _ (.inr (.inr rfl)))
    (State.ringDrain_work _ p)))
  exact (s.routeErr_work p).trans (State.answer_work ..)

theorem State.portDown_port (s : State) (p : Nat) : (s.portDown p).port p = (s.port p).cleared := by
  obtain ⟨u, hu, heq⟩ := s.portDown_work p
  have hdown : (s.portCleared p).portUp p = false := by rw [State.portUp, s.portCleared_state p]; rfl
  have hport : u.port p = (s.port p).cleared := (hu.down p hdown).trans (s.portCleared_port p)
  rw [heq]
  split
  · exact (State.port_portFault ..).trans hport
  · exact hport

theorem State.portDown_reg (s : State) (p : Nat) (f : Fld) (i : Nat) (hf : f.offRing = true := by decide) :
    (s.portDown p).reg f i = (s.portCleared p).reg f i := by
  obtain ⟨u, hu, heq⟩ := s.portDown_work p
  rw [heq]
  split
  · exact (State.portFault_reg ..).trans (hu.reg f i hf)
  · exact hu.reg f i hf

theorem State.portDown_state (s : State) (p : Nat) : (s.portDown p).portState p = 1 :=
  (s.portDown_reg p F.HX_STATUS_STATE p).trans (s.portCleared_state p)

theorem State.portDown_keyed (s : State) (p : Nat) : (s.portDown p).reg F.HX_STATUS_KEYED p = 0 :=
  (s.portDown_reg p F.HX_STATUS_KEYED p).trans (s.portCleared_keyed p)

theorem State.portDown_reports_up {s : State} {p : Nat} (h : s.portUp p = true) : s.reports1 (s.portDown p) Code.hxLinkDown := by
  obtain ⟨u, hu, heq⟩ := s.portDown_work p
  rw [heq, if_pos h]
  exact State.reports1_moduleFault s u _ _ _ _ _ (hu.reports.trans (s.portCleared_reports p))

theorem State.portDown_reports_not_up {s : State} {p : Nat} (h : s.portUp p = false) : (s.portDown p).reports = s.reports := by
  obtain ⟨u, hu, heq⟩ := s.portDown_work p
  rw [heq, h, if_neg Bool.false_ne_true]
  exact hu.reports.trans (s.portCleared_reports p)

theorem State.portRetrain_state (s : State) (p : Nat) : (s.portRetrain p).portState p = 2 := by
  rw [State.portState, State.portRetrain, State.reg_setReg_same]
  rfl

theorem State.portRetrain_port (s : State) (p : Nat) : (s.portRetrain p).port p = (s.port p).cleared := by
  rw [State.portRetrain, State.port_setReg, s.portDown_port]

theorem State.portRetrain_keyed (s : State) (p : Nat) : (s.portRetrain p).reg F.HX_STATUS_KEYED p = 0 := by
  have hkey : F.HX_STATUS_KEYED.key p 0 ≠ F.HX_STATUS_STATE.key p 0 := by simp
  rw [State.portRetrain, State.reg_setReg_other _ _ _ _ _ _ _ _ hkey, s.portDown_keyed]

theorem State.portRetrain_reports {s : State} {p : Nat} (h : s.portUp p = true) :
    s.reports1 (s.portRetrain p) Code.hxLinkDown := by
  rw [State.portRetrain, State.reports1, State.setReg_reports]
  exact State.portDown_reports_up h

theorem State.portUp_of_state {s : State} {p : Nat} (h : s.portState p = 7) : s.portUp p = true := by
  rw [State.portUp, h]
  rfl

/-! ### Input taken from a port -/

theorem State.takeRx_port (s : State) (p ch n : Nat) : (s.takeRx p ch n).port p =
    { s.port p with rx := (s.port p).rx.set [] ch (((s.port p).rx.get [] ch).drop n) } := by
  rw [State.takeRx, State.port_flowControl, State.port_updPort_same]

theorem State.takeRx_rx (s : State) (p ch n : Nat) :
    ((s.takeRx p ch n).port p).rx.get [] ch = ((s.port p).rx.get [] ch).drop n := by
  rw [State.takeRx_port]
  exact SMap.get_set_same ..

theorem State.takeRx_reg (s : State) (p ch n : Nat) {f : Fld} {i : Nat} (hsent : f.key i 0 ≠ F.HX_FC_OFF_SENT.key p 0)
    (h0 : f.key i 0 ≠ F.HX_FC_OCC_VN0.key p 0) (h1 : f.key i 0 ≠ F.HX_FC_OCC_VN1.key p 0) :
    (s.takeRx p ch n).reg f i = s.reg f i := State.flowControl_reg _ p hsent h0 h1

/-- Input taken from a port changes the registers and the ports alone. -/
theorem State.takeRx_same (s : State) (p ch n : Nat) (q : Part) (hq : 131080 / 2 ^ q.bit % 2 = 0 := by decide) :
    q.same s (s.takeRx p ch n) := Part.same_of_mask q (State.takeRx_parts (M := 131080) s p ch n) hq

theorem State.takeRx_state (s : State) (p ch n : Nat) : (s.takeRx p ch n).portState p = s.portState p :=
  s.takeRx_reg p ch n (by simp) (by simp) (by simp)

theorem State.takeRx_stackReset (s : State) (p ch n : Nat) : (s.takeRx p ch n).stackReset = s.stackReset := by
  have hrst : (s.takeRx p ch n).rst = s.rst := s.takeRx_same p ch n .rst
  rw [State.stackReset, hrst, State.stackReset]

theorem State.takeRx_lclk (s : State) (p ch n : Nat) : (s.takeRx p ch n).lclk = s.lclk := by
  have href : (s.takeRx p ch n).ref = s.ref := s.takeRx_same p ch n .ref
  rw [State.lclk, href, State.lclk]

theorem State.takeRx_own (s : State) (p ch n : Nat) : (s.takeRx p ch n).own = s.own := by
  refine s.takeRx_reg p ch n ?_ ?_ ?_ <;> simp <;> omega

theorem State.takeRx_bcl (s : State) (p ch n : Nat) : (s.takeRx p ch n).bcl = s.bcl := s.takeRx_same p ch n .bcl

theorem State.takeRx_topoValid (s : State) (p ch n : Nat) : (s.takeRx p ch n).reg F.HX_TOPO_VALID = s.reg F.HX_TOPO_VALID := by
  refine s.takeRx_reg p ch n ?_ ?_ ?_ <;> simp <;> omega

/-! ### Cells of the link itself -/

theorem State.linkCell_port (s : State) (p type : Nat) (body : List Nat) :
    ∃ q, (s.linkCell p type body).port p = { s.port p with tx := q } := ⟨_, State.port_updPort_same ..⟩

theorem State.linkCell_queue (s : State) (p type : Nat) (body : List Nat) : ((s.linkCell p type body).port p).queue 6 =
    (s.port p).queue 6 ++ [⟨Cell.bytes ⟨false, s.reg F.HX_STATUS_NCOORD p, s.own, type, 0, 0, 0, s.bcl.nextCell, body⟩, 0, s.acyc,
      false, false⟩] := State.enqueue_queue ..

theorem State.linkSpdm_port (s : State) (p code : Nat) :
    ∃ q n, (s.linkSpdm p code).port p = { s.port p with tx := q, spdmSent := n } := by
  have hcells : ∀ (body : Nat → List Nat) (l : List Nat) (u : State),
      ∃ q, (l.foldl (fun (s : State) k => s.linkCell p 0x10 (body k)) u).port p = { u.port p with tx := q } := by
    intro body l
    induction l with
    | nil => exact fun u => ⟨_, rfl⟩
    | cons k l ih =>
      intro u
      obtain ⟨q, hq⟩ := ih (u.linkCell p 0x10 (body k))
      obtain ⟨q', hq'⟩ := u.linkCell_port p 0x10 (body k)
      exact ⟨q, by rw [List.foldl_cons, hq, hq']⟩
  obtain ⟨q, hq⟩ := hcells _ _ _
  exact ⟨q, _, hq.trans (by rw [State.port_updPort_same]; rfl)⟩

theorem State.linkAsk_port (s : State) (p : Nat) : ∃ q n, (s.linkAsk p).port p = { s.port p with tx := q, spdmSent := n } := by
  unfold State.linkAsk
  split
  · split
    · exact s.linkSpdm_port p _
    · exact ⟨_, _, rfl⟩
  · exact ⟨_, _, rfl⟩

/-! ### Lane masks -/

theorem bitOf_mod_two_pow {x w n : Nat} (h : n < w) : bitOf (x % 2 ^ w) n = bitOf x n := by
  simp [bitOf, Nat.testBit_mod_two_pow, h]

theorem nodup_eraseDups (l : List Nat) : l.eraseDups.Nodup := by
  induction h : l.length using Nat.strong_induction_on generalizing l with
  | _ n ih =>
    cases l with
    | nil => simp
    | cons a l =>
      rw [List.eraseDups_cons, List.nodup_cons]
      refine ⟨by simp [List.mem_eraseDups], ih _ ?_ _ rfl⟩
      have hlen := List.length_filter_le (fun b => !b == a) l
      rw [List.length_cons] at h
      omega

theorem laneMask_eq_sum (l : List Nat) : laneMask l = ∑ n ∈ l.toFinset, 2 ^ n := by
  rw [laneMask, ← List.sum_eq_foldl, ← List.sum_toFinset _ (nodup_eraseDups l)]
  congr 1
  ext n
  simp [List.mem_eraseDups]

theorem bitOf_laneMask (l : List Nat) (n : Nat) : bitOf (laneMask l) n = l.contains n := by
  rw [Bool.eq_iff_iff, bitOf, ← Nat.mem_bitIndices, laneMask_eq_sum, ← List.mem_toFinset, Finset.toFinset_bitIndices_sum_two_pow]
  simp

theorem laneMask_lt {l : List Nat} (h : ∀ n ∈ l, n < 26) : laneMask l < 2 ^ 26 := by
  refine Nat.lt_pow_two_of_testBit _ fun n hn => ?_
  have hout : l.contains n = false := by
    simp only [List.contains_eq_mem, decide_eq_false_iff_not]
    exact fun hmem => absurd (h n hmem) (Nat.not_lt.2 hn)
  exact (bitOf_laneMask l n).trans hout

theorem mem_laneList {m n : Nat} : n ∈ laneList m ↔ n < 26 ∧ bitOf m n = true := by simp [laneList]

end Sys2Proof.Machine

/-!
PROOFS. The statements of spec 08_hexkel about a port's training: its commands, its states and its way to UP.
-/

namespace Sys2Proof.Machine

/-! ### Enabling, holding and training (R228, R243, R268) -/

section Training
variable {s : State} {p : Fin 6} (hlive : s.portLive p.val = true)
include hlive

theorem execPortEnable_live (en : Bool) : execPortEnable p en s = .next (s.portEnable p.val en) := by
  rw [execPortEnable, hlive]
  rfl

theorem execTrain_trains (h : s.portState p.val ≠ 0) : execTrain p s =
    .next ((s.updPort p.val (fun g => { g with held := false, waiting := false })).hxCmd p.val 0 1) := by
  rw [execTrain, hlive, if_neg (by decide), if_neg h]

theorem execTrain_refused (h : s.portState p.val = 0) : execTrain p s = .next (s.hxCmd p.val 2 1) := by
  rw [execTrain, hlive, if_neg (by decide), if_pos h]

theorem execHoldDown_holds (h : s.portState p.val ≠ 0) (hbusy : s.portBusy p.val = false) : execHoldDown p s =
    .next (((s.portDown p.val).updPort p.val (fun g => { g with held := true })).hxCmd p.val 0 2) := by
  simp [execHoldDown, hlive, h, hbusy]

theorem execRetrain_retrains (h : s.portState p.val ≠ 0) (hbusy : s.portBusy p.val = false) : execRetrain p s =
    .next (((s.portDown p.val).updPort p.val (fun g => { g with waiting := false })).hxCmd p.val 0 3) := by
  simp [execRetrain, hlive, h, hbusy]

theorem execHoldDown_refused (h : s.portState p.val = 0 ∨ s.portBusy p.val = true) :
    execHoldDown p s = .next (s.hxCmd p.val 2 2) := by
  simp [execHoldDown, hlive, h]

theorem execRetrain_refused (h : s.portState p.val = 0 ∨ s.portBusy p.val = true) :
    execRetrain p s = .next (s.hxCmd p.val 2 3) := by
  simp [execRetrain, hlive, h]

/-- A port in the state that a transition starts from makes it. -/
theorem State.portMove_from {from_ : Nat} (h : s.portState p.val = from_) (to_ : Nat) (g : State → State) :
    s.portMove p.val from_ to_ g = (g s).setReg F.HX_STATUS_STATE to_ p.val := by
  rw [State.portMove, hlive, h]
  simp

end Training

theorem State.portEnable_on {s : State} {p : Nat} (h : s.portState p = 0) :
    s.portEnable p true = (s.setReg F.HX_CTRL_EN 1 p).setReg F.HX_STATUS_STATE 1 p := by
  have hstate : (s.setReg F.HX_CTRL_EN 1 p).portState p = 0 := by
    rw [State.portState, State.reg_setReg_other _ _ _ _ _ _ _ _ (by simp)]
    exact h
  rw [State.portEnable]
  simp only [hstate, if_true, Bool.not_true, Bool.false_eq_true, if_false]

theorem State.portEnable_off (s : State) (p : Nat) :
    s.portEnable p false = ((s.portDown p).setReg F.HX_CTRL_EN 0 p).setReg F.HX_STATUS_STATE 0 p := rfl

theorem State.hxCmd_status (s : State) (p status op : Nat) : (s.hxCmd p status op).reg F.HX_CMD_STATUS p = status % 4 := by
  rw [State.hxCmd, State.cmd_status _ _ _ _ _ _ (by simp)]
  rfl

theorem State.hxCmd_state (s : State) (p status op : Nat) : (s.hxCmd p status op).portState p = s.portState p :=
  State.cmd_reg_other _ _ _ _ _ _ _ (by simp) (by simp)

theorem State.setReg_state_state (s : State) (p v : Nat) : (s.setReg F.HX_STATUS_STATE v p).portState p = v % 16 := by
  rw [State.portState, State.reg_setReg_same]
  rfl

theorem execLoop_written {s : State} {p : Fin 6} {on : Bool} (hp : p.val < s.nPorts) (h : on = false ∨ s.crocus = true) :
    execLoop p on s = .next (s.setReg F.HX_CTRL_LOOP (b2n on) p.val) := by
  rcases h with h | h <;> simp [execLoop, hp, h]

theorem execLoop_ignored {s : State} (p : Fin 6) (h : s.crocus = false) : execLoop p true s = .next s := by
  simp [execLoop, h]

theorem execSignalDetect_trains {s : State} {p : Fin 6} (hlive : s.portLive p.val = true) (hstate : s.portState p.val = 1)
    (hheld : (s.port p.val).held = false) (hwait : (s.port p.val).waiting = false) (hen : s.reg F.HX_CTRL_EN p.val = 1) :
    execSignalDetect p s = .next (s.setReg F.HX_STATUS_STATE 2 p.val) := by
  simp [execSignalDetect, hheld, hwait, hen, State.portMove_from hlive hstate]

theorem execSignalDetect_stays {s : State} {p : Fin 6}
    (h : (s.port p.val).held = true ∨ (s.port p.val).waiting = true ∨ s.reg F.HX_CTRL_EN p.val = 0) :
    execSignalDetect p s = .next s := by
  rcases h with h | h | h <;> simp [execSignalDetect, h]

/-! ### Qualification of the lanes (R229, R230, R233) -/

/-- The registers and maps of a port whose lanes `ls` qualified, `w` of them in use. -/
def State.qualified (s : State) (p : Nat) (ls : List Nat) (w : Nat) : State :=
  (((((s.setReg F.HX_LANES_GOOD (laneMask ls) p).setReg F.HX_LANES_ACTIVE (laneMask (ls.take w)) p).setReg F.HX_STATUS_WIDTH w
    p).setReg F.HX_STATUS_SPARES (ls.length - w) p).updPort p (fun x =>
      { x with txMap := ls.take w, rxMap := ls.take w, lost := [] })).setReg F.HX_STATUS_STATE 3 p

theorem State.qualified_contract (s : State) (p : Nat) (ls : List Nat) (w q : Nat) :
    (s.qualified p ls w).contract q = s.contract q := by
  have hod : (s.qualified p ls w).od 0x6000 1 = s.od 0x6000 1 := by
    simp only [State.qualified, State.setReg_od, State.updPort_od]
  have hwidth : (s.qualified p ls w).portWidth q = s.portWidth q := by
    have himage : (s.qualified p ls w).image = s.image := by
      simp only [State.qualified, State.setReg_image, State.updPort_image]
    rw [State.portWidth, himage, State.portWidth]
  rw [State.contract, State.contract, hwidth, hod]

theorem execLaneQualify_aligns {s : State} {p : Fin 6} {good : BitVec 26} {ls : List Nat} {w : Nat}
    (hlive : s.portLive p.val = true) (hstate : s.portState p.val = 2)
    (hls : ls = (laneList good.toNat).filter (fun n => !(s.port p.val).lost.contains n)) (hne : ls ≠ [])
    (hw : w = min ls.length 24) :
    execLaneQualify p good s = .next (if w < s.contract p.val then
      (s.qualified p.val ls w).portFault p.val Code.hxPortShort false else s.qualified p.val ls w) := by
  have hgo : ¬ (ls.length = 0 || !s.portLive p.val || s.portState p.val ≠ 2) = true := by simp [hlive, hstate, hne]
  rw [execLaneQualify]
  simp only [← hls, ← hw]
  rw [if_neg hgo, State.portMove_from hlive hstate, ← State.qualified_contract s p.val ls w p.val]
  rfl

theorem State.qualified_regs (s : State) (p : Nat) {ls : List Nat} {w : Nat} (hlanes : ∀ n ∈ ls, n < 26)
    (hlen : ls.length ≤ 26) (hw : w = min ls.length 24) :
    (s.qualified p ls w).portState p = 3 ∧ (s.qualified p ls w).reg F.HX_LANES_GOOD p = laneMask ls ∧
      (s.qualified p ls w).reg F.HX_STATUS_WIDTH p = w ∧ (s.qualified p ls w).reg F.HX_STATUS_SPARES p = ls.length - w ∧
      (s.qualified p ls w).reg F.HX_LANES_ACTIVE p = laneMask (ls.take w) := by
  have hgood : laneMask ls % 67108864 = laneMask ls := Nat.mod_eq_of_lt (laneMask_lt hlanes)
  have hactive : laneMask (ls.take w) % 67108864 = laneMask (ls.take w) :=
    Nat.mod_eq_of_lt (laneMask_lt fun n hn => hlanes n (List.mem_of_mem_take hn))
  refine ⟨State.setReg_state_state .., ?_, ?_, ?_, ?_⟩ <;>
    simp [State.qualified, State.reg_setReg_other, hgood, hactive]
  · omega
  · omega

theorem State.qualified_port (s : State) (p : Nat) (ls : List Nat) (w : Nat) : (s.qualified p ls w).port p =
    { s.port p with txMap := ls.take w, rxMap := ls.take w, lost := [] } := by
  simp [State.qualified]

theorem State.qualified_reports (s : State) (p : Nat) (ls : List Nat) (w : Nat) : (s.qualified p ls w).reports = s.reports := by
  simp only [State.qualified, State.setReg_reports, State.updPort_reports]

/-! ### From ALIGN to UP (R234, R238, R239) -/

theorem execTrainTimeout_waits {s : State} {p : Fin 6} (hlive : s.portLive p.val = true) (hstate : s.portState p.val = 2) :
    execTrainTimeout p s =
      .next ((s.updPort p.val (fun g => { g with waiting := true })).setReg F.HX_STATUS_STATE 1 p.val) := by
  rw [execTrainTimeout, State.portMove_from hlive hstate]

theorem execTrainRetry_ready {s : State} {p : Fin 6} (hlive : s.portLive p.val = true) :
    execTrainRetry p s = .next (s.updPort p.val (fun g => { g with waiting := false })) := by
  rw [execTrainRetry, if_pos hlive]

/-- A port that starts to number its frames (R234). -/
def State.framesFromZero (s : State) (p : Nat) : State := s.updPort p (fun g =>
  { g with txSeq := 0, rxSeq := 0, attempts := 0, sent := [], resend := [], spdmIn := [] })

theorem execFrameLock_locks {s : State} {p : Fin 6} (hlive : s.portLive p.val = true) (hstate : s.portState p.val = 4) :
    execFrameLock p s = .next ((if s.reg F.HX_CTRL_LOOP p.val = 1 then s.framesFromZero p.val
      else (s.framesFromZero p.val).linkAsk p.val).setReg F.HX_STATUS_STATE (if s.reg F.HX_CTRL_LOOP p.val = 1 then 8 else 5)
        p.val) := by
  rw [execFrameLock]
  simp only [State.portMove_from hlive hstate]
  rfl

theorem State.framesFromZero_asked (s : State) (p : Nat) (loop : Prop) [Decidable loop] :
    ∃ q n, (if loop then s.framesFromZero p else (s.framesFromZero p).linkAsk p).port p =
      { (s.framesFromZero p).port p with tx := q, spdmSent := n } := by
  split
  · exact ⟨_, _, rfl⟩
  · exact State.linkAsk_port _ p

theorem execKeySessionEstablished_keyed {s : State} {p : Fin 6} (hlive : s.portLive p.val = true)
    (hstate : s.portState p.val = 5) : execKeySessionEstablished p true true s =
      .next (((((s.setReg F.HX_STATUS_KEYED 1 p.val).setReg F.HX_STATUS_KPH 0 p.val).setReg F.HX_STATUS_STATE 6 p.val).linkKeys
        p.val).linkCell p.val 0x12 (bytesLe 8 s.lclk ++ bytesLe 8 0)) := by
  simp only [execKeySessionEstablished, hlive, hstate]
  rfl

theorem execKeySessionEstablished_failed {s : State} {p : Fin 6} (accepted : Bool) (hlive : s.portLive p.val = true)
    (hstate : s.portState p.val = 5) : execKeySessionEstablished p false accepted s =
      .next (((s.portFault p.val Code.hxKeyFail false).portDown p.val).updPort p.val (fun g => { g with waiting := true })) := by
  simp [execKeySessionEstablished, hlive, hstate]

theorem State.linkKeys_reg (s : State) (p : Nat) (f : Fld) (i : Nat) : (s.linkKeys p).reg f i = s.reg f i := rfl
theorem State.linkCell_reg (s : State) (p type : Nat) (body : List Nat) (f : Fld) (i : Nat) :
    (s.linkCell p type body).reg f i = s.reg f i := rfl
theorem State.linkKeys_reports (s : State) (p : Nat) : (s.linkKeys p).reports = s.reports := rfl
theorem State.linkCell_reports (s : State) (p type : Nat) (body : List Nat) :
    (s.linkCell p type body).reports = s.reports := rfl

/-- Settles O34: a clause per command or event, from what it makes of the port and of its registers. -/
theorem portTrainsStepByStep : Obligations.PortTrainsStepByStep := by
  refine ⟨?enable, ?loop, ?train, ?down, ?refused, ?signal, ?qualify, ?timeout, ?map, ?lock, ?session, ?latency⟩
  case enable =>
    refine fun s p hlive => ⟨fun hstate => ?_, _, execPortEnable_live hlive false, ?_⟩
    · refine ⟨_, (execPortEnable_live hlive true).trans (Res.next_congr (State.portEnable_on hstate)),
        State.setReg_state_state .., ?_, rfl⟩
      simp [State.reg_setReg_other]
    · rw [State.portEnable_off]
      refine ⟨State.setReg_state_state .., ?_, ?_, ?_, ?_⟩ <;>
        simp [State.reg_setReg_other, State.portDown_keyed, State.portDown_port, HxPort.cleared]
  case loop =>
    refine fun s p on hp => ⟨fun h => ⟨_, execLoop_written hp h, ?_, State.onlyRegs_setReg ..⟩, ?_⟩
    · rw [State.reg_setReg_same]
      cases on <;> rfl
    · rintro rfl h
      exact execLoop_ignored p h
  case train =>
    refine fun s p hlive => ⟨fun h => ⟨_, execTrain_trains hlive h, ?_, ?_, State.hxCmd_status .., State.hxCmd_state ..⟩,
      fun h => ⟨_, execTrain_refused hlive h, State.hxCmd_status .., rfl⟩⟩ <;> simp
  case down =>
    refine fun s p hlive h hbusy => ⟨⟨_, execHoldDown_holds hlive h hbusy, ?_, ?_, State.hxCmd_status .., ?_⟩,
      _, execRetrain_retrains hlive h hbusy, ?_, ?_, State.hxCmd_status .., ?_⟩
    · exact (State.hxCmd_state ..).trans (s.portDown_state p.val)
    · simp
    · simp [State.portDown_port, HxPort.cleared]
    · exact (State.hxCmd_state ..).trans (s.portDown_state p.val)
    · simp
    · simp [State.portDown_port, HxPort.cleared]
  case refused =>
    exact fun s p hlive h => ⟨_, _, execHoldDown_refused hlive h, execRetrain_refused hlive h, State.hxCmd_status ..,
      State.hxCmd_status .., rfl, rfl, State.hxCmd_state .., State.hxCmd_state ..⟩
  case signal =>
    exact fun s p hlive hstate => ⟨fun hheld hwait hen => ⟨_, execSignalDetect_trains hlive hstate hheld hwait hen,
      State.setReg_state_state .., State.onlyRegs_setReg ..⟩, execSignalDetect_stays⟩
  case qualify =>
    intro s p good ls w hlive hstate hls hne hw
    have hlanes : ∀ n ∈ ls, n < 26 := fun n hn => by
      rw [hls] at hn
      exact (mem_laneList.1 (List.mem_of_mem_filter hn)).1
    have hlen : ls.length ≤ 26 := by
      rw [hls]
      exact (List.length_filter_le ..).trans ((List.length_filter_le ..).trans (List.length_range ..).le)
    obtain ⟨hst, hgood, hwidth, hspares, hactive⟩ := s.qualified_regs p.val hlanes hlen hw
    have hport := s.qualified_port p.val ls w
    refine ⟨_, execLaneQualify_aligns hlive hstate hls hne hw, ?_⟩
    split
    · next hshort =>
      exact ⟨hst, hgood, hwidth, hspares, hactive, congrArg HxPort.txMap hport, congrArg HxPort.rxMap hport,
        congrArg HxPort.lost hport, fun _ => State.reports1_moduleFault _ _ _ _ _ _ _ (s.qualified_reports p.val ls w),
        fun h => absurd hshort (Nat.not_lt.2 h)⟩
    · next hshort =>
      exact ⟨hst, hgood, hwidth, hspares, hactive, congrArg HxPort.txMap hport, congrArg HxPort.rxMap hport,
        congrArg HxPort.lost hport, fun h => absurd h hshort, fun _ => s.qualified_reports p.val ls w⟩
  case timeout =>
    refine fun s p hlive => ⟨fun hstate => ⟨_, execTrainTimeout_waits hlive hstate, State.setReg_state_state .., ?_⟩,
      _, execTrainRetry_ready hlive, ?_, rfl⟩ <;> simp
  case map =>
    refine fun s p nport ncoord hlive hstate => ⟨_, Res.next_congr (State.portMove_from hlive hstate 4 _),
      State.setReg_state_state .., ?_, ?_, ?_, rfl⟩
    · simp [State.reg_setReg_other]
      omega
    · simp [State.reg_setReg_other]
      omega
    · simp [State.reg_setReg_other]
  case lock =>
    intro s p hlive hstate
    obtain ⟨q, n, hport⟩ := s.framesFromZero_asked p.val (s.reg F.HX_CTRL_LOOP p.val = 1)
    refine ⟨_, execFrameLock_locks hlive hstate, ?_, ?_, ?_, ?_, ?_⟩
    · rw [State.setReg_state_state]
      split <;> rfl
    all_goals rw [State.port_setReg, hport, State.framesFromZero, State.port_updPort_same]
  case session =>
    refine fun s p accepted hlive hstate => ⟨⟨_, execKeySessionEstablished_keyed hlive hstate, ?_, ?_, ?_, ?_⟩,
      _, execKeySessionEstablished_failed accepted hlive hstate, ?_, ?_, ?_, ?_⟩
    · rw [State.portState, State.linkCell_reg, State.linkKeys_reg]
      exact State.setReg_state_state ..
    · rw [State.linkCell_reg, State.linkKeys_reg]
      simp [State.reg_setReg_other]
    · rw [State.linkCell_reg, State.linkKeys_reg]
      simp [State.reg_setReg_other]
    · rw [State.linkCell_reports, State.linkKeys_reports]
      rfl
    · exact State.portDown_state ..
    · exact State.portDown_keyed ..
    · rw [State.port_updPort_same]
    · have hup : (s.portFault p.val Code.hxKeyFail false).portUp p.val = false := by
        rw [State.portUp, show (s.portFault p.val Code.hxKeyFail false).portState p.val = 5 from hstate]
        rfl
      rw [State.reports1, State.updPort_reports, State.portDown_reports_not_up hup]
      exact s.portFault_reports ..
  case latency =>
    refine fun s p rtt base fibre hlive hstate => ⟨_, Res.next_congr (State.portMove_from hlive hstate 7 _),
      State.setReg_state_state .., ?_, ?_, ?_, rfl⟩ <;> simp [State.reg_setReg_other] <;> omega

end Sys2Proof.Machine

/-!
PROOFS. The statements of spec 08_hexkel about lanes that fail and a link that is lost.
-/

namespace Sys2Proof.Machine

/-! ### The next link-local cell (R250, R255, R256) -/

section Link
variable {s : State} {p : Nat} {b : List Nat} (hb : b = ((s.port p).rx.get [] 6).take 64) (hlen : b.length = 64)
  (hcrc : cellCrcOk b = true)
include hb hlen hcrc

/-- A whole cell of a link-local type with a good CRC stays at the head of the channel. -/
theorem State.pruneLink_good (htype : linkType (cellOf b).type = true) (n : Nat) : State.pruneLink p n s = s := by
  cases n with
  | zero => rfl
  | succ n =>
    rw [State.pruneLink]
    simp only [← hb, hlen, hcrc, htype, Nat.lt_irrefl, Bool.not_true, Bool.false_eq_true, if_false]

/-- It is the next cell of its type to be taken. -/
theorem State.takeLink_good (hlive : s.portLive p = true) {type : Nat} (htype : (cellOf b).type = type)
    (hlink : linkType type = true) (g : State → Cell → State) : s.takeLink p type g = g (s.takeRx p 6 64) (cellOf b) := by
  subst htype
  rw [State.takeLink, hlive]
  simp only [State.pruneLink_good hb hlen hcrc hlink, ← hb, hlen, Nat.lt_irrefl, decide_false, ne_eq, not_true_eq_false,
    Bool.or_self, Bool.not_true, Bool.false_eq_true, if_false]

end Link

/-! ### Loss of the link and of lanes (R232, R233, R267) -/

section Loss
variable {s : State} {p : Fin 6} (hlive : s.portLive p.val = true) (hstate : s.portState p.val = 7)
include hlive hstate

theorem execFrameLockLoss_retrains : execFrameLockLoss p s = .next (s.portRetrain p.val) := by
  rw [execFrameLockLoss, hlive, State.portUp_of_state hstate]
  rfl

variable {lane : Fin 26} (hlane : (s.port p.val).rxMap.contains lane.val = true)
include hlane

theorem execLaneFail_retrains (hspare : s.spareLane p.val = none) : execLaneFail p lane s =
    .next ((s.portRetrain p.val).updPort p.val (fun g => { g with lost := lane.val :: g.lost })) := by
  rw [execLaneFail, hlive, State.portUp_of_state hstate, hlane, hspare]
  rfl

theorem execLaneFail_agrees {sp : Nat} (hspare : s.spareLane p.val = some sp) : ∃ (u : State) (w : Swap) (body : List Nat),
    execLaneFail p lane s = .next ((u.linkCell p.val 0x11 body).updPort p.val (fun g => { g with swaps := g.swaps ++ [w] })) ∧
      u = s.fresh.2 ∧ w = ⟨lane.val, sp, s.fresh.1 % 256, (s.port p.val).rxSeq + 64, true⟩ := by
  rw [execLaneFail, hlive, State.portUp_of_state hstate, hlane, hspare]
  exact ⟨_, _, _, rfl, rfl, rfl⟩

end Loss

/-! ### The swap of a lane at its frame (R232) -/

/-- The lanes of a map with the spare of a swap in the failed lane's place. -/
def Swap.onMap (w : Swap) (m : List Nat) : List Nat := m.map (fun n => if n = w.failed then w.spare else n)

/-- A port's maps after a swap of its direction; the swaps behind it wait. -/
def HxPort.swapped (g : HxPort) (w : Swap) (r : List Swap) : HxPort :=
  { g with swaps := r, txMap := if w.rx then g.txMap else w.onMap g.txMap, rxMap := if w.rx then w.onMap g.rxMap else g.rxMap }

/-- The state whose port has swapped and has lost the failed lane from its good ones. -/
def State.laneSwapped (s : State) (p : Nat) (w : Swap) (r : List Swap) : State :=
  (s.updPort p (·.swapped w r)).setReg F.HX_LANES_GOOD
    (laneMask ((laneList (s.reg F.HX_LANES_GOOD p)).filter (fun n => n ≠ w.failed))) p

theorem execLaneSwap_swaps {s : State} {p : Fin 6} {w : Swap} {r : List Swap} (hlive : s.portLive p.val = true)
    (hswaps : (s.port p.val).swaps = w :: r)
    (hdue : w.seqNo ≤ (if w.rx then (s.port p.val).rxSeq else (s.port p.val).txSeq)) : execLaneSwap p s =
      .next (((s.laneSwapped p.val w r).laneRegs p.val).portFault p.val Code.hxLaneSpared false) := by
  have hgo : ¬ (!s.portLive p.val ||
      decide ((if w.rx then (s.port p.val).rxSeq else (s.port p.val).txSeq) < w.seqNo)) = true := by
    rw [hlive, decide_eq_false (Nat.not_lt.2 hdue)]
    decide
  rw [execLaneSwap]
  simp only [hswaps]
  rw [if_neg hgo]
  rfl

theorem execLaneSwap_waits {s : State} {p : Fin 6} {w : Swap} {r : List Swap} (hswaps : (s.port p.val).swaps = w :: r)
    (hdue : (if w.rx then (s.port p.val).rxSeq else (s.port p.val).txSeq) < w.seqNo) : execLaneSwap p s = .next s := by
  rw [execLaneSwap]
  simp only [hswaps]
  rw [if_pos (by rw [decide_eq_true hdue, Bool.or_true])]

theorem State.laneRegs_port (s : State) (p q : Nat) : (s.laneRegs p).port q = s.port q := rfl

theorem State.laneRegs_active (s : State) (p : Nat) {n : Nat} (hn : n < 26) :
    bitOf ((s.laneRegs p).reg F.HX_LANES_ACTIVE p) n = ((s.port p).txMap ++ (s.port p).rxMap).contains n := by
  have hreg : (s.laneRegs p).reg F.HX_LANES_ACTIVE p = laneMask ((s.port p).txMap ++ (s.port p).rxMap) % 2 ^ 26 := by
    simp [State.laneRegs, State.reg_setReg_other]
  rw [hreg, bitOf_mod_two_pow hn, bitOf_laneMask]

theorem State.laneRegs_reg (s : State) (p : Nat) {f : Fld} (h1 : f.key p 0 ≠ F.HX_LANES_ACTIVE.key p 0)
    (h2 : f.key p 0 ≠ F.HX_STATUS_SPARES.key p 0) : (s.laneRegs p).reg f p = s.reg f p :=
  (State.reg_setReg_other _ _ _ _ _ _ _ _ h2).trans (State.reg_setReg_other _ _ _ _ _ _ _ _ h1)

theorem State.laneRegs_reports (s : State) (p : Nat) : (s.laneRegs p).reports = s.reports := by
  simp only [State.laneRegs, State.setReg_reports]

theorem State.laneSwapped_port (s : State) (p : Nat) (w : Swap) (r : List Swap) :
    (s.laneSwapped p w r).port p = (s.port p).swapped w r := by
  rw [State.laneSwapped, State.port_setReg, State.port_updPort_same]

theorem State.laneSwapped_good (s : State) (p : Nat) (w : Swap) (r : List Swap) {n : Nat} (hn : n < 26) :
    bitOf ((s.laneSwapped p w r).reg F.HX_LANES_GOOD p) n = (bitOf (s.reg F.HX_LANES_GOOD p) n && decide (n ≠ w.failed)) := by
  have hreg : (s.laneSwapped p w r).reg F.HX_LANES_GOOD p =
      laneMask ((laneList (s.reg F.HX_LANES_GOOD p)).filter (fun n => n ≠ w.failed)) % 2 ^ 26 := State.reg_setReg_same ..
  rw [hreg, bitOf_mod_two_pow hn, bitOf_laneMask, Bool.eq_iff_iff]
  simp [mem_laneList, hn]

theorem State.laneSwapped_reports (s : State) (p : Nat) (w : Swap) (r : List Swap) :
    (s.laneSwapped p w r).reports = s.reports := by
  rw [State.laneSwapped, State.setReg_reports, State.updPort_reports]

/-- Settles O35: a clause per loss, from what the port that retrains is left with, and from the swap's own state. -/
theorem lanesFailAndTheLinkIsLost : Obligations.LanesFailAndTheLinkIsLost := by
  refine ⟨?lock, ?noSpare, ?spare, ?cell, ?swap, ?early⟩
  case lock =>
    intro s p hlive hstate
    have hport := s.portRetrain_port p.val
    exact ⟨_, execFrameLockLoss_retrains hlive hstate, s.portRetrain_state p.val, s.portRetrain_keyed p.val,
      congrArg HxPort.tx hport, congrArg HxPort.rx hport, State.portRetrain_reports (State.portUp_of_state hstate)⟩
  case noSpare =>
    intro s p lane hlive hstate hlane hspare
    refine ⟨_, execLaneFail_retrains hlive hstate hlane hspare, s.portRetrain_state p.val, ?_, ?_⟩
    · rw [State.port_updPort_same, s.portRetrain_port]
      rfl
    · rw [State.reports1, State.updPort_reports]
      exact State.portRetrain_reports (State.portUp_of_state hstate)
  case spare =>
    intro s p lane sp hlive hstate hlane hspare
    obtain ⟨u, w, body, hexec, rfl, rfl⟩ := execLaneFail_agrees hlive hstate hlane hspare
    obtain ⟨q, hport⟩ := s.fresh.2.linkCell_port p.val 0x11 body
    refine ⟨_, ⟨lane.val, sp, s.fresh.1 % 256, (s.port p.val).rxSeq + 64, true⟩, hexec, hstate, rfl, ?_, rfl, rfl, rfl, rfl, ?_⟩
    · rw [State.port_updPort_same, hport]
      rfl
    · rw [State.port_updPort_same]
      have hqueue := congrArg List.length (State.enqueue_queue s.fresh.2 p.val 6 (Cell.bytes ⟨false,
        s.reg F.HX_STATUS_NCOORD p.val, s.own, 0x11, 0, 0, 0, s.bcl.nextCell, body⟩))
      exact hqueue.trans List.length_append
  case cell =>
    intro s p b hlive hb hlen hcrc htype
    have hexec := State.takeLink_good hb hlen hcrc hlive htype rfl
    refine ⟨_, ⟨leAt (cellOf b).body 0 1, leAt (cellOf b).body 1 1, leAt (cellOf b).body 2 1, leAt (cellOf b).body 8 6, false⟩,
      Res.next_congr (hexec _), ?_, rfl, rfl, rfl, rfl, ?_⟩
    · rw [State.port_updPort_same, State.takeRx_port]
    · rw [State.port_updPort_same]
      exact s.takeRx_rx ..
  case swap =>
    intro s p w r swap hlive hswaps hdue hswap
    subst hswap
    have hport : ((s.laneSwapped p.val w r).laneRegs p.val).port p.val = (s.port p.val).swapped w r := by
      rw [State.laneRegs_port, s.laneSwapped_port]
    refine ⟨_, execLaneSwap_swaps hlive hswaps hdue, ?_, ?_, ?_, ?_, ?_, ?_, ?_⟩
    · rw [State.port_portFault, hport]
      rfl
    · rw [State.port_portFault, hport]
      rfl
    · rw [State.port_portFault, hport]
      rfl
    · intro n hn
      rw [State.portFault_reg, State.port_portFault, State.laneRegs_port]
      exact (s.laneSwapped p.val w r).laneRegs_active p.val hn
    · intro n hn
      rw [State.portFault_reg, State.laneRegs_reg _ _ (by simp) (by simp)]
      exact s.laneSwapped_good p.val w r hn
    · rw [State.portState, State.portFault_reg, State.laneRegs_reg _ _ (by simp) (by simp)]
      exact State.reg_setReg_other _ _ _ _ _ _ _ _ (by simp)
    · exact State.reports1_moduleFault s _ _ _ _ _ _ ((State.laneRegs_reports ..).trans (s.laneSwapped_reports p.val w r))
  case early => exact fun s p w r hswaps hdue => execLaneSwap_waits hswaps hdue

end Sys2Proof.Machine

/-!
PROOFS. The statements of spec 08_hexkel about the frames that a port sends, receives and sends again.
-/

namespace Sys2Proof.Machine

/-! ### A frame sent (R234, R236, R241, R244) -/

/-- Filling a frame takes from the queues alone. -/
theorem HxPort.fillUnits_port (g : HxPort) (off : Nat) (link : Bool) (n : Nat) :
    ∃ q, (g.fillUnits off link n).1 = { g with tx := q } := by
  induction n generalizing g with
  | zero => exact ⟨_, rfl⟩
  | succ n ih =>
    rw [HxPort.fillUnits]
    split
    · exact ⟨_, rfl⟩
    · next ch _ =>
      obtain ⟨q, hq⟩ := ih { g with tx := g.tx.set [] ch (takeUnit (g.queue ch) 64).2 }
      exact ⟨q, hq⟩

theorem State.newUnits_port (s : State) (p : Nat) : ∃ q, (s.newUnits p).1 = { s.port p with tx := q } := by
  rw [State.newUnits]
  split
  · exact ⟨_, rfl⟩
  · exact HxPort.fillUnits_port ..

/-- A new frame of a port that carries traffic: `s` is the state whose key phase has moved where it had to. -/
def State.newFrame (s : State) (p : Nat) : Sent :=
  ⟨(s.port p).txSeq, s.reg F.HX_STATUS_KPH p, false, s.reg F.HX_FC_OFF_SENT p, ((s.port p).rxSeq + 2 ^ 48 - 1) % 2 ^ 48,
    (s.port p).nak, (s.newUnits p).2, (s.newUnits p).1.txSecret⟩

/-- The port that has started the frame. -/
def State.portSent (s : State) (p : Nat) : HxPort :=
  { (s.newUnits p).1 with
    nak := false
    txSeq := ((s.port p).txSeq + 1) % 2 ^ 48
    sent := ((s.port p).sent ++ [s.newFrame p]).drop ((s.port p).sent.length - 127) }

/-- What the first frame after an epoch boundary changes of a port, and another frame not (R241). -/
theorem State.advanceKey_port (s : State) (p : Nat) : ∃ rekey secret,
    (s.advanceKey p).port p = { s.port p with rekey := rekey, keyAt := s.acyc, txSecret := secret } := by
  rw [State.advanceKey]
  split
  · exact ⟨_, _, by rw [State.port_updPort_same, State.port_setReg]⟩
  · exact ⟨_, _, State.port_updPort_same ..⟩

theorem State.advanceKey_due {s : State} {p : Nat} (h : s.keyDue p = true) :
    (s.advanceKey p).reg F.HX_STATUS_KPH p = (s.reg F.HX_STATUS_KPH p + 1) % 4 ∧
      ((s.advanceKey p).port p).txSecret = nextSecret (s.port p).txSecret := by
  rw [State.advanceKey, if_pos h]
  refine ⟨?_, ?_⟩ <;> simp

theorem State.advanceKey_not_due {s : State} {p : Nat} (h : s.keyDue p = false) :
    (s.advanceKey p).reg F.HX_STATUS_KPH p = s.reg F.HX_STATUS_KPH p := by
  rw [State.advanceKey, h, if_neg Bool.false_ne_true, State.updPort_reg]

theorem State.advanceKey_state (s : State) (p : Nat) : (s.advanceKey p).portState p = s.portState p := by
  rw [State.advanceKey]
  split
  · exact State.reg_setReg_other _ _ _ _ _ _ _ _ (by simp)
  · rfl

theorem State.advanceKey_out (s : State) (p : Nat) : (s.advanceKey p).out = s.out := by
  rw [State.advanceKey]
  split
  · rw [State.updPort_out, State.setReg_out]
  · rw [State.updPort_out]

theorem State.port_emitFrame (s : State) (p : Nat) (f : Sent) (replay : Bool) (q : Nat) :
    (s.emitFrame p f replay).port q = s.port q := rfl

/-- A port after the frame: what it sent leaves, and the room in its queues is used. -/
def State.frameSent (s : State) (p : Nat) : State :=
  ((s.updPort p (fun _ => s.portSent p)).emitFrame p (s.newFrame p) false).ringDrain p

theorem State.portSent_sent (s : State) (p : Nat) : (s.portSent p).sent.getLast? = some (s.newFrame p) := by
  simp only [State.portSent]
  rw [List.drop_append_of_le_length (Nat.sub_le ..), List.getLast?_concat]

theorem State.frameSent_port (s : State) (p : Nat) : ∃ q, (s.frameSent p).port p = { s.portSent p with tx := q } := by
  obtain ⟨q, hq⟩ := (State.ringDrain_work ((s.updPort p (fun _ => s.portSent p)).emitFrame p (s.newFrame p) false) p).ports p
  have hport : ((s.updPort p (fun _ => s.portSent p)).emitFrame p (s.newFrame p) false).port p = s.portSent p := by
    rw [State.port_emitFrame, State.port_updPort_same]
  exact ⟨q, by rw [State.frameSent, hq, hport]⟩

theorem State.frameSent_reg (s : State) (p : Nat) (f : Fld) (hf : f.offRing = true := by decide) :
    (s.frameSent p).reg f p = s.reg f p := (State.ringDrain_work _ p).reg f p hf

theorem State.frameSent_out (s : State) (p : Nat) : ∃ body, (s.frameSent p).out = ⟨.link, p, (s.port p).txSeq, body⟩ :: s.out :=
  ⟨_, (State.ringDrain_work _ p).out⟩

section Transmit
variable {s : State} {p : Fin 6} (hlive : s.portLive p.val = true)
include hlive

theorem execFrameTransmit_new (hstate : s.portState p.val = 7) (hresend : (s.port p.val).resend = []) :
    execFrameTransmit p s = .next ((s.advanceKey p.val).frameSent p.val) := by
  obtain ⟨rekey, secret, hport⟩ := s.advanceKey_port p.val
  have hsent : ((s.advanceKey p.val).port p.val).sent = (s.port p.val).sent := by rw [hport]
  have htx : ((s.advanceKey p.val).port p.val).txSeq = (s.port p.val).txSeq := by rw [hport]
  have hrx : ((s.advanceKey p.val).port p.val).rxSeq = (s.port p.val).rxSeq := by rw [hport]
  have hnak : ((s.advanceKey p.val).port p.val).nak = (s.port p.val).nak := by rw [hport]
  have hclear : clearState 7 = false := by decide
  rw [execFrameTransmit]
  simp only [hlive, hstate, hresend, hclear, State.frameSent, State.portSent, State.newFrame, hsent, htx, hrx, hnak]
  rfl

theorem execFrameTransmit_replay (hstate : 4 ≤ s.portState p.val) {f : Sent} {r : List Sent}
    (hresend : (s.port p.val).resend = f :: r) : execFrameTransmit p s =
      .next (((s.updPort p.val (fun g => { g with resend := r })).satReg F.HX_ERR_RETRY p.val).emitFrame p.val f true) := by
  have hgo : ¬ (!s.portLive p.val || s.portState p.val < 4) = true := by
    rw [hlive, decide_eq_false (Nat.not_lt.2 hstate)]
    decide
  rw [execFrameTransmit]
  simp only [hresend]
  rw [if_neg hgo]

end Transmit

/-! ### A frame received (R234, R235, R237, R242) -/

/-- The state in which a frame's symbols have been counted. -/
def State.symbolsCounted (s : State) (p corr uncorr : Nat) : State :=
  (s.satReg F.HX_FEC_CORR p corr).satReg F.HX_FEC_UNCORR p uncorr

theorem State.symbolsCounted_reg (s : State) (p corr uncorr : Nat) {f : Fld} (h1 : f.key p 0 ≠ F.HX_FEC_CORR.key p 0)
    (h2 : f.key p 0 ≠ F.HX_FEC_UNCORR.key p 0) : (s.symbolsCounted p corr uncorr).reg f p = s.reg f p :=
  (State.reg_satReg_other _ _ _ _ _ _ _ h2).trans (State.reg_satReg_other _ _ _ _ _ _ _ h1)

theorem State.symbolsCounted_state (s : State) (p corr uncorr : Nat) :
    (s.symbolsCounted p corr uncorr).portState p = s.portState p := s.symbolsCounted_reg p corr uncorr (by simp) (by simp)

theorem State.port_symbolsCounted (s : State) (p corr uncorr q : Nat) : (s.symbolsCounted p corr uncorr).port q = s.port q := rfl

theorem State.symbolsCounted_reports (s : State) (p corr uncorr : Nat) :
    (s.symbolsCounted p corr uncorr).reports = s.reports := by
  rw [State.symbolsCounted, State.satReg_reports, State.satReg_reports]

section Receive
variable {s : State} {p : Fin 6} {f : Frame} (hlive : s.portLive p.val = true) (hstate : s.portState p.val = 7)
include hlive hstate

theorem execFrameReceive_uncorrectable (corr : Nat) {uncorr : Nat} (ok : Bool) (h : uncorr ≠ 0) :
    execFrameReceive p f corr uncorr ok s = .next ((s.symbolsCounted p.val corr uncorr).badFrame p.val f false) := by
  rw [execFrameReceive]
  simp [hlive, hstate, h, State.symbolsCounted]

variable (hclear : f.clear = false)
include hclear

theorem execFrameReceive_unauthentic (corr : Nat) :
    execFrameReceive p f corr 0 false s = .next ((s.symbolsCounted p.val corr 0).badFrame p.val f true) := by
  rw [execFrameReceive]
  simp [hlive, hstate, hclear, State.symbolsCounted]

theorem execFrameReceive_good (corr : Nat) (hkeyed : s.reg F.HX_STATUS_KEYED p.val = 1) (hseq : f.seqNo = (s.port p.val).rxSeq)
    (hkey : (s.port p.val).holdsKey f = true) (hroom : (s.port p.val).roomFor f.units = true) :
    execFrameReceive p f corr 0 true s = .next ((((((s.symbolsCounted p.val corr 0).updPort p.val (·.takeFrame f)).setReg
      F.HX_FC_OFF_SEEN f.fc.toNat p.val)).takeUnits p.val f.units).flowControl p.val) := by
  have hkeyed' : ((s.satReg F.HX_FEC_CORR p.val corr).satReg F.HX_FEC_UNCORR p.val 0).reg F.HX_STATUS_KEYED p.val = 1 :=
    (s.symbolsCounted_reg p.val corr 0 (by simp) (by simp)).trans hkeyed
  rw [execFrameReceive]
  simp [hlive, hstate, hclear, clearOk, State.symbolsCounted, hkeyed', hseq, hkey, hroom]

end Receive

/-- A port that has received a bad frame: it asks for a replay, and counts an attempt of the frame it expects. -/
def HxPort.refused (g : HxPort) (f : Frame) : HxPort :=
  { g with nak := true, attempts := if f.seqNo = g.rxSeq then g.attempts + 1 else g.attempts }

theorem HxPort.refused_attempts_le (g : HxPort) (f : Frame) : (g.refused f).attempts ≤ g.attempts + 1 := by
  simp only [HxPort.refused]
  split <;> omega

theorem State.badFrame_kept {s : State} {p : Nat} {f : Frame} (hfails : (s.port p).fails.length < 16)
    (hattempts : (s.port p).attempts < 7) : s.badFrame p f false = s.updPort p (·.refused f) := by
  have hle := (s.port p).refused_attempts_le f
  have hport : (s.updPort p (·.refused f)).port p = (s.port p).refused f := State.port_updPort_same ..
  have hfails' : ¬ 16 ≤ ((s.port p).refused f).fails.length := Nat.not_le.2 hfails
  have hattempts' : ¬ 8 ≤ ((s.port p).refused f).attempts := by omega
  rw [← hport] at hfails' hattempts'
  exact (if_neg hfails').trans (if_neg hattempts')

/-- The tag failures of a port within the last second, with one now (R242). -/
def HxPort.failed (g : HxPort) (now : Nat) : HxPort :=
  { g with fails := now :: g.fails.filter (fun t => decide (now < t + 100000000)) }

theorem State.badFrame_failed {s : State} {p : Nat} {f : Frame} (hfails : (s.port p).fails.length < 15)
    (hattempts : (s.port p).attempts < 7) : s.badFrame p f true =
      ((s.updPort p (·.refused f)).satReg F.HX_ERR_AUTH p).updPort p (·.failed s.ref) := by
  have hle := (s.port p).refused_attempts_le f
  have hport : (((s.updPort p (·.refused f)).satReg F.HX_ERR_AUTH p).updPort p (·.failed s.ref)).port p =
      ((s.port p).refused f).failed s.ref := by simp
  have hfails' : ¬ 16 ≤ (((s.port p).refused f).failed s.ref).fails.length := by
    have hlen := List.length_filter_le (fun t => decide (s.ref < t + 100000000)) (s.port p).fails
    simp only [HxPort.failed, HxPort.refused, List.length_cons]
    omega
  have hattempts' : ¬ 8 ≤ (((s.port p).refused f).failed s.ref).attempts := by
    show ¬ 8 ≤ ((s.port p).refused f).attempts
    omega
  rw [← hport] at hfails' hattempts'
  exact (if_neg hfails').trans (if_neg hattempts')

theorem State.badFrame_given_up {s : State} {p : Nat} {f : Frame} (hfails : (s.port p).fails.length < 16)
    (hseq : f.seqNo = (s.port p).rxSeq) (hattempts : 7 ≤ (s.port p).attempts) :
    s.badFrame p f false = ((s.updPort p (·.refused f)).portFault p Code.hxRetryLimit false).portRetrain p := by
  have hport : (s.updPort p (·.refused f)).port p = (s.port p).refused f := State.port_updPort_same ..
  have hfails' : ¬ 16 ≤ ((s.port p).refused f).fails.length := Nat.not_le.2 hfails
  have hattempts' : 8 ≤ ((s.port p).refused f).attempts := by
    simp only [HxPort.refused, if_pos hseq]
    omega
  rw [← hport] at hfails' hattempts'
  exact (if_neg hfails').trans (if_pos hattempts')

theorem State.takeUnits_one (s : State) (p : Nat) {ch : BitVec 4} (bs : List (BitVec 8)) (h1 : 1 ≤ ch.toNat) (h6 : ch.toNat ≤ 6) :
    s.takeUnits p [(ch, bs)] =
      s.updPort p (fun g => { g with rx := g.rx.set [] ch.toNat (g.rx.get [] ch.toNat ++ bs.map (·.toNat)) }) := by
  have h0 : ch.toNat ≠ 0 := by omega
  have h7 : ¬ 7 ≤ ch.toNat := by omega
  rw [State.takeUnits, List.foldl_cons, List.foldl_nil]
  exact (if_neg h0).trans (if_neg h7)

/-- Settles O36: a clause per frame sent or received, from the state that the step gives. -/
theorem framesAreSentReceivedAndReplayed : Obligations.FramesAreSentReceivedAndReplayed := by
  refine ⟨?new, ?replay, ?good, ?uncorrectable, ?unauthentic, ?limit⟩
  case new =>
    intro s p hlive hstate hresend
    obtain ⟨body, hout⟩ := (s.advanceKey p.val).frameSent_out p.val
    obtain ⟨q, hport⟩ := (s.advanceKey p.val).frameSent_port p.val
    obtain ⟨rekey, secret, hkey⟩ := s.advanceKey_port p.val
    obtain ⟨q', hunits⟩ := (s.advanceKey p.val).newUnits_port p.val
    have htx : ((s.advanceKey p.val).port p.val).txSeq = (s.port p.val).txSeq := by rw [hkey]
    refine ⟨_, body, (s.advanceKey p.val).newFrame p.val, execFrameTransmit_new hlive hstate hresend, ?_, ?_, ?_, htx, ?_, ?_,
      rfl, ?_, ?_, fun h => ?_, fun h => ⟨?_, ?_⟩⟩
    · rw [hout, htx, s.advanceKey_out]
    · rw [hport, ← htx]
      rfl
    · simp only [hport, State.portSent_sent]
    · rw [State.newFrame, hkey]
    · rw [State.newFrame, hkey]
    · rw [hport]
      rfl
    · exact (State.frameSent_reg _ p.val F.HX_STATUS_STATE).trans ((s.advanceKey_state p.val).trans hstate)
    · exact (State.frameSent_reg _ p.val F.HX_STATUS_KPH).trans (State.advanceKey_not_due h)
    · exact (State.frameSent_reg _ p.val F.HX_STATUS_KPH).trans (State.advanceKey_due h).1
    · rw [State.newFrame, hunits]
      exact (State.advanceKey_due h).2
  case replay =>
    intro s p f r hlive hstate hresend
    have hport := State.port_updPort_same s p.val (fun g => { g with resend := r })
    refine ⟨_, execFrameTransmit_replay hlive hstate hresend, ?_, ?_, ?_, ?_⟩
    · rw [State.emitFrame, State.port_satReg, hport]
      rfl
    · rw [State.port_emitFrame, State.port_satReg, hport]
    · rw [State.port_emitFrame, State.port_satReg, hport]
    · rw [State.emitFrame, State.emit_reg, State.reg_satReg, State.updPort_reg]
      rfl
  case good =>
    intro s p f corr ch bs hlive hstate hkeyed hclear hseq hkey hroom hunits h1 h6
    have hexec := execFrameReceive_good hlive hstate hclear corr hkeyed hseq hkey hroom
    rw [hunits, State.takeUnits_one _ _ _ h1 h6] at hexec
    refine ⟨_, hexec, ?_, ?_, ?_, fun c hc => ?_, ?_, ?_⟩
    · simp [HxPort.takeFrame, State.port_symbolsCounted]
    · simp [HxPort.takeFrame]
    · simp [HxPort.takeFrame, State.port_symbolsCounted]
    · simp [HxPort.takeFrame, State.port_symbolsCounted, SMap.get_set_other _ _ _ _ _ hc]
    · rw [State.flowControl_reg _ _ (by simp) (by simp) (by simp), State.updPort_reg, State.reg_setReg_same]
      exact Nat.mod_eq_of_lt f.fc.isLt
    · rw [State.flowControl_reports, State.updPort_reports, State.setReg_reports, State.updPort_reports, s.symbolsCounted_reports]
  case uncorrectable =>
    intro s p f corr uncorr ok hlive hstate hclear hbad hfails hattempts
    have hexec := execFrameReceive_uncorrectable (f := f) hlive hstate corr ok hbad
    rw [State.badFrame_kept (s := s.symbolsCounted p.val corr uncorr) hfails hattempts] at hexec
    refine ⟨_, hexec, ?_, ?_, ?_, ?_, ?_, fun hseq => ?_⟩
    · simp [HxPort.refused]
    · simp [HxPort.refused, State.port_symbolsCounted]
    · simp [HxPort.refused, State.port_symbolsCounted]
    · rw [State.updPort_reports, s.symbolsCounted_reports]
    · rw [State.portState, State.updPort_reg]
      exact (s.symbolsCounted_state p.val corr uncorr).trans hstate
    · rw [State.port_updPort_same]
      exact if_pos hseq
  case unauthentic =>
    intro s p f corr hlive hstate hclear hfails hattempts
    have hexec := execFrameReceive_unauthentic hlive hstate hclear corr
    rw [State.badFrame_failed (s := s.symbolsCounted p.val corr 0) hfails hattempts] at hexec
    refine ⟨_, hexec, ?_, ?_, ?_, ?_, ?_⟩
    · simp [HxPort.refused, HxPort.failed]
    · simp [HxPort.refused, HxPort.failed, State.port_symbolsCounted]
    · simp [HxPort.refused, HxPort.failed, State.port_symbolsCounted]
    · rw [State.updPort_reg, State.reg_satReg, State.updPort_reg, State.symbolsCounted_reg _ _ _ _ (by simp) (by simp)]
      rfl
    · rw [State.updPort_reports, State.satReg_reports, State.updPort_reports, s.symbolsCounted_reports]
  case limit =>
    intro s p f corr uncorr ok hlive hstate hclear hbad hfails hseq hattempts
    have hexec := execFrameReceive_uncorrectable (f := f) hlive hstate corr ok hbad
    rw [State.badFrame_given_up (s := s.symbolsCounted p.val corr uncorr) hfails hseq hattempts] at hexec
    refine ⟨_, hexec, State.portRetrain_state .., ?_⟩
    have hup : (((s.symbolsCounted p.val corr uncorr).updPort p.val (·.refused f)).portFault p.val Code.hxRetryLimit
        false).portUp p.val = true := by
      refine State.portUp_of_state ?_
      rw [State.portState, State.portFault_reg, State.updPort_reg]
      exact (s.symbolsCounted_state p.val corr uncorr).trans hstate
    obtain ⟨r, hlimit, hcode⟩ :=
      ((s.symbolsCounted p.val corr uncorr).updPort p.val (·.refused f)).portFault_reports p.val Code.hxRetryLimit false
    obtain ⟨r', hdown, hcode'⟩ := State.portRetrain_reports hup
    rw [hdown, hlimit, List.map_append, List.map_append, List.map_singleton, List.map_singleton, hcode, hcode', List.append_assoc,
      State.updPort_reports, s.symbolsCounted_reports]
    rfl

end Sys2Proof.Machine

/-!
PROOFS. The statements of spec 08_hexkel about scheduled records and the link's own cells.
-/

namespace Sys2Proof.Machine

/-! ### Cairn engines (R296) -/

/-- The state with other engines. -/
def State.withEngines (s : State) (es : List Engine) : State := { s with rope := { s.rope with engines := es } }

theorem State.foldl_withEngines {α : Type} {g : State → α → State} (h : ∀ (s : State) x, ∃ es, g s x = s.withEngines es)
    (l : List α) (s : State) : ∃ es, l.foldl g s = s.withEngines es := by
  induction l generalizing s with
  | nil => exact ⟨_, rfl⟩
  | cons x l ih =>
    obtain ⟨es, hes⟩ := h s x
    obtain ⟨es', hes'⟩ := ih (g s x)
    exact ⟨es', by rw [List.foldl_cons, hes', hes]; rfl⟩

/-- Words given to the engines change the engines alone. -/
theorem State.feedEngines_engines (s : State) (p t : Nat) (kinds : Nat → Bool) (ws : List (Nat × Nat)) :
    ∃ es, s.feedEngines p t kinds ws = s.withEngines es := by
  refine State.foldl_withEngines (fun s d => ?_) _ s
  split
  · exact ⟨_, rfl⟩
  · dsimp only
    split
    · exact ⟨_, rfl⟩
    · exact ⟨_, rfl⟩

/-! ### Records sent (R245, R246) -/

/-- A port whose landing tiles' words have been taken. -/
def HxPort.edgeTaken (g : HxPort) : HxPort := { g with edge := [] }

theorem execScheduledRecord_sends {s : State} {p : Fin 6} (hlive : s.portLive p.val = true) (hedge : (s.port p.val).edge ≠ [])
    (hsent : ∀ w, w ∈ (s.port p.val).edge → s.tallied p.val (s.port p.val).edgeAt w.1 = false) :
    ∃ es, execScheduledRecord p s = .next (((s.withEngines es).updPort p.val HxPort.edgeTaken).enqueue p.val 1
      (recordBytes s.epochLog2 (s.port p.val).edgeAt (s.port p.val).edge)) := by
  obtain ⟨es, hes⟩ := s.feedEngines_engines p.val (s.port p.val).edgeAt (fun k => k ≠ 1)
    ((s.port p.val).edge.map (fun w => (w.1, w.2.data.toNat)))
  have hall : (s.port p.val).edge.filter (fun w => !(s.withEngines es).tallied p.val (s.port p.val).edgeAt w.1) =
      (s.port p.val).edge := by
    refine List.filter_eq_self.2 fun w hw => ?_
    have htallied : (s.withEngines es).tallied p.val (s.port p.val).edgeAt w.1 = false := hsent w hw
    rw [htallied]
    rfl
  have hsome : (s.port p.val).edge.isEmpty = false := by
    rw [Bool.eq_false_iff, ne_eq, List.isEmpty_iff]
    exact hedge
  refine ⟨es, ?_⟩
  rw [execScheduledRecord]
  simp only [hes, hall, hsome, hlive]
  rfl

theorem HxPort.queue_set (g : HxPort) (ch : Nat) (q : List TxItem) : ({ g with tx := g.tx.set [] ch q } : HxPort).queue ch = q :=
  SMap.get_set_same ..

/-- A queued record is over rate (R246). -/
def TxItem.overRate (acyc : Nat) (it : TxItem) : Bool := !it.noted && decide (it.at_ + 16 ≤ acyc)

/-- An item of a queue once its delay is recorded. -/
def TxItem.note (acyc : Nat) (it : TxItem) : TxItem := if it.overRate acyc then { it with noted := true } else it

theorem execHxSchedOverrate_reports {s : State} {p : Fin 6} (hlive : s.portLive p.val = true)
    (hany : ((s.port p.val).queue 1).any (TxItem.overRate s.acyc) = true) :
    ∃ u : State, execHxSchedOverrate p s = .next (u.portFault p.val Code.hxSchedOverrate true) ∧ u.run.invalid = true ∧
      u.reports = s.reports ∧ (u.port p.val).queue 1 = ((s.port p.val).queue 1).map (TxItem.note s.acyc) := by
  have hgo : ¬ (!s.portLive p.val || !((s.port p.val).queue 1).any (TxItem.overRate s.acyc)) = true := by
    rw [hlive, hany]
    decide
  refine ⟨_, if_neg hgo, rfl, rfl, ?_⟩
  rw [State.port_invalidate, State.port_satReg, State.port_updPort_same, HxPort.queue_set]
  rfl

/-! ### Records received (R247, R248, R266) -/

/-- The landing tiles that a record's presence bits name. -/
def recordTiles (b : List Nat) : List Nat := (List.range 128).filter (fun i => bitOf (leAt b 8 16) i)

/-- The record that the bytes `b` spell, captured at acycle `t`. -/
def recordOf (b : List Nat) (t : Nat) : Record := ⟨t, BitVec.ofNat 4 (leAt b 7 1),
  (List.range (recordTiles b).length).map (fun k => ((recordTiles b).getD k 0, BitVec.ofNat 64 (leAt b (24 + 8 * k) 8)))⟩

theorem State.takeRx_ropeStatus (s : State) (p ch n : Nat) :
    (s.takeRx p ch n).reg F.BC_ROPE_STATUS_STATE = s.reg F.BC_ROPE_STATUS_STATE ∧
      (s.takeRx p ch n).reg F.BC_ROPE_STATUS_LSTATE = s.reg F.BC_ROPE_STATUS_LSTATE := by
  refine ⟨s.takeRx_reg p ch n ?_ ?_ ?_, s.takeRx_reg p ch n ?_ ?_ ?_⟩ <;> simp <;> omega

theorem State.takeRx_ropeRuns (s : State) (p ch n : Nat) : (s.takeRx p ch n).ropeRuns = s.ropeRuns := by
  obtain ⟨hstate, hlocal⟩ := s.takeRx_ropeStatus p ch n
  rw [State.ropeRuns, hstate, hlocal, State.ropeRuns]

theorem State.takeRx_landDelay (s : State) (p ch n : Nat) : (s.takeRx p ch n).landDelay = s.landDelay := by
  have himage : (s.takeRx p ch n).image = s.image := s.takeRx_same p ch n .image
  rw [State.landDelay, himage, (s.takeRx_ropeStatus p ch n).1, State.landDelay]

section Arrival
variable {s : State} {p : Fin 6} {b : List Nat} (hlive : s.portLive p.val = true) (hb : b = (s.port p.val).rx.get [] 1)
  (hwhole : 24 + 8 * (recordTiles b).length ≤ b.length) (hstack : s.stackReset = false) (hruns : s.ropeRuns = true)
  (hpast : s.recordTime (leAt b 0 4) (leAt b 4 3) ≤ s.acyc + 65536)
  (hfuture : s.acyc ≤ s.recordTime (leAt b 0 4) (leAt b 4 3) + 65536)
include hlive hb hwhole hstack hruns hpast hfuture

/-- A whole record that a running member receives with a time near its own is late, overflows the buffer, or joins it. -/
theorem execRecordArrival_timed : execRecordArrival p s =
    if s.recordTime (leAt b 0 4) (leAt b 4 3) + s.landDelay < s.acyc + 2 then
      .next ((s.takeRx p.val 1 (24 + 8 * (recordTiles b).length)).satReg F.HX_SCHED_LATE p.val)
    else if 65536 < (s.port p.val).landingWords + (recordTiles b).length then
      .next (((s.takeRx p.val 1 (24 + 8 * (recordTiles b).length)).invalidate).portFault p.val Code.hxLandOverflow true)
    else .next (((s.takeRx p.val 1 (24 + 8 * (recordTiles b).length)).updPort p.val (fun g =>
      { g with landing := g.landing ++ [recordOf b (s.recordTime (leAt b 0 4) (leAt b 4 3))] })).setReg F.HX_SCHED_PEAK
        (max (((s.takeRx p.val 1 (24 + 8 * (recordTiles b).length)).updPort p.val (fun g =>
          { g with landing := g.landing ++ [recordOf b (s.recordTime (leAt b 0 4) (leAt b 4 3))] })).reg F.HX_SCHED_PEAK p.val)
          ((s.port p.val).landingWords + (recordTiles b).length)) p.val) := by
  have hgo : ¬ (!s.portLive p.val || b.length < 24 || b.length < 24 + 8 * (recordTiles b).length) = true := by
    simp [hlive]
    omega
  have hstack' := (s.takeRx_stackReset p.val 1 (24 + 8 * (recordTiles b).length)).trans hstack
  have hruns' := (s.takeRx_ropeRuns p.val 1 (24 + 8 * (recordTiles b).length)).trans hruns
  have hdelay := s.takeRx_landDelay p.val 1 (24 + 8 * (recordTiles b).length)
  have hacyc : (s.takeRx p.val 1 (24 + 8 * (recordTiles b).length)).acyc = s.acyc := s.takeRx_same _ _ _ .acyc
  have hwords : ((s.takeRx p.val 1 (24 + 8 * (recordTiles b).length)).port p.val).landingWords = (s.port p.val).landingWords := by
    rw [State.takeRx_port]
    rfl
  have hlen : ((List.range 128).filter (fun i => bitOf (leAt b 8 16) i)).length = (recordTiles b).length := rfl
  have hnear : ¬ (s.recordTime (leAt b 0 4) (leAt b 4 3) + 65536 < s.acyc ∨
      s.acyc + 65536 < s.recordTime (leAt b 0 4) (leAt b 4 3)) := by omega
  rw [execRecordArrival]
  simp only [← hb, hlen]
  generalize s.takeRx p.val 1 (24 + 8 * (recordTiles b).length) = u at hstack' hruns' hdelay hacyc hwords ⊢
  have hkept : ¬ (u.stackReset || !u.ropeRuns) = true := by
    rw [hstack', hruns']
    decide
  rw [if_neg hgo, if_neg hkept, hacyc, if_neg hnear, hdelay, hwords]
  rfl

end Arrival

/-! ### Records landed (R82, R226, R247) -/

theorem execRecordLanding_lands {s : State} {p : Fin 6} (errs : List (BitVec 80)) {r : Record} {rest : List Record}
    (hdue : takeFirst (fun (r : Record) => decide (r.at_ + s.landDelay ≤ s.acyc + 1)) (s.port p.val).landing = some (r, rest)) :
    ∃ es, execRecordLanding ⟨p, errs⟩ s =
      .next (((s.withEngines es).updPort p.val (fun g => { g with landing := rest })).landRecord p.val r errs) := by
  obtain ⟨es, hes⟩ := s.feedEngines_engines p.val r.at_ (fun k => k = 1) (r.words.map (fun w => (w.1, w.2.toNat)))
  refine ⟨es, ?_⟩
  rw [execRecordLanding]
  simp only [hdue, hes]

theorem State.landRecord_unused {s : State} {p : Nat} (h : s.portWidth p = 0) (r : Record) (errs : List (BitVec 80)) :
    s.landRecord p r errs = s := if_pos h

theorem State.absorb_clean_ports {s : State} {f key : Nat} {w : TW} (h : w.Clean) : (s.absorb f key w).ports = s.ports := by
  rw [State.absorb_clean h]
  simp only [State.satReg_ports, State.setTile_ports]

/-- The only word of a record reaches the landing tile of its port. -/
theorem State.landRecord_one {s : State} {p : Nat} (hused : s.portWidth p ≠ 0) {r : Record} (errs : List (BitVec 80))
    {i f key : Nat} {w : Word} (hwords : r.words = [(i, w)])
    (hloc : s.locate (s.landingTile p i).1 = some (f, key)) (hreset : s.inReset f = false) :
    s.landRecord p r errs = s.absorb f key ((TW.start (s.tile f key) (r.at_ + s.landDelay - 1)).arrive (s.landingTile p i).2
      ⟨w, r.colour⟩ (errs.getD 0 0)) := by
  rw [State.landRecord, if_neg hused, hwords]
  simp only [List.zipIdx_cons, List.zipIdx_nil, List.foldl_cons, List.foldl_nil, hloc, hreset, Bool.false_eq_true, if_false]

theorem execSchLateLanding_reports {s : State} {p : Fin 6} {t : Nat} (hlive : s.portLive p.val = true)
    (hused : s.portWidth p.val ≠ 0) (hlate : t + s.landDelay - 2 ≤ s.acyc)
    (hnone : ∀ r, r ∈ (s.port p.val).landing → r.at_ ≠ t) :
    execSchLateLanding p t s = .next ((s.invalidate).portFault p.val Code.lateLanding true) := by
  have hany : (s.port p.val).landing.any (fun r => r.at_ = t) = false := by simpa using hnone
  have hgo : ¬ (!s.portLive p.val || s.portWidth p.val = 0 || decide (s.acyc < t + s.landDelay - 2) ||
      (s.port p.val).landing.any (fun r => r.at_ = t)) = true := by
    rw [hlive, hany, decide_eq_false hused, decide_eq_false (Nat.not_lt.2 hlate)]
    decide
  rw [execSchLateLanding, if_neg hgo]

/-! ### SPDM messages and time stamps of a link (R238, R256) -/

theorem HxPort.fragment_spdm (g : HxPort) (b : List Nat) : (g.fragment b).spdm =
    if leAt b 2 1 = 0 then (b.drop 4).take 48
    else if leAt b 0 2 = g.spdmMsg ∧ leAt b 2 1 = g.spdmFrag then g.spdm ++ (b.drop 4).take 48 else g.spdm := by
  simp only [HxPort.fragment, Bool.and_eq_true, decide_eq_true_eq]
  split
  · rfl
  · split <;> rfl

theorem HxPort.fragment_first (g : HxPort) {b : List Nat} (h : leAt b 2 1 = 0) :
    g.fragment b = { g with spdm := (b.drop 4).take 48, spdmMsg := leAt b 0 2, spdmFrag := 1 } := if_pos h

/-- A port whose SPDM message is whole. -/
def HxPort.messageTaken (g : HxPort) : HxPort := { g with spdmIn := g.spdm :: g.spdmIn, spdm := [], spdmFrag := 0 }

theorem State.linkMessage_taken {s : State} {p : Nat} (h : s.portState p ≠ 5) :
    s.linkMessage p = s.updPort p HxPort.messageTaken := by
  have hports : s.updPort p (fun g => { g with spdmIn := (s.port p).spdm :: g.spdmIn, spdm := [], spdmFrag := 0 }) =
      s.updPort p HxPort.messageTaken := rfl
  rw [State.linkMessage, hports]
  exact if_pos h

section Cells
variable {s : State} {p : Fin 6} {b : List Nat} (hlive : s.portLive p.val = true)
  (hb : b = ((s.port p.val).rx.get [] 6).take 64) (hlen : b.length = 64) (hcrc : cellCrcOk b = true)
include hlive hb hlen hcrc

theorem execSpdm_fragment (htype : (cellOf b).type = 0x10) (hlast : bitOf (leAt (cellOf b).body 3 1) 0 = false) :
    execSpdm p s = .next ((s.takeRx p.val 6 64).updPort p.val (·.fragment (cellOf b).body)) := by
  rw [execSpdm, State.takeLink_good hb hlen hcrc hlive htype rfl]
  simp only [hlast, Bool.and_false, Bool.false_eq_true, if_false]

theorem execSpdm_whole (htype : (cellOf b).type = 0x10) (hlast : bitOf (leAt (cellOf b).body 3 1) 0 = true)
    (hfirst : leAt (cellOf b).body 2 1 = 0) :
    execSpdm p s = .next (((s.takeRx p.val 6 64).updPort p.val (·.fragment (cellOf b).body)).linkMessage p.val) := by
  rw [execSpdm, State.takeLink_good hb hlen hcrc hlive htype rfl]
  simp only [hlast, hfirst, decide_true, Bool.true_or, Bool.and_true, if_true]

theorem execProbe_echoes (htype : (cellOf b).type = 0x12) (hecho : leAt (cellOf b).body 8 8 = 0) :
    execProbe p s = .next ((s.takeRx p.val 6 64).linkCell p.val 0x12
      (bytesLe 8 s.lclk ++ bytesLe 8 (leAt (cellOf b).body 0 8))) := by
  rw [execProbe, State.takeLink_good hb hlen hcrc hlive htype rfl, ← s.takeRx_lclk p.val 6 64]
  exact Res.next_congr (if_pos hecho)

theorem execProbe_measures (htype : (cellOf b).type = 0x12) (hecho : leAt (cellOf b).body 8 8 ≠ 0) :
    execProbe p s = .next ((s.takeRx p.val 6 64).setReg F.HX_LAT_RTT ((s.lclk + 2 ^ 64 - leAt (cellOf b).body 8 8) % 2 ^ 64)
      p.val) := by
  rw [execProbe, State.takeLink_good hb hlen hcrc hlive htype rfl, ← s.takeRx_lclk p.val 6 64]
  exact Res.next_congr (if_neg hecho)

end Cells

/-- Settles O37: a clause per record or cell, from the state that its command gives. -/
theorem scheduledRecordsCrossTheLink : Obligations.ScheduledRecordsCrossTheLink := by
  refine ⟨?record, ?overrate, ?arrival, ?late, ?landing, ?missing, ?spdm, ?probe, ?unused⟩
  case record =>
    intro s p hlive hedge hsent
    obtain ⟨es, hexec⟩ := execScheduledRecord_sends hlive hedge hsent
    have hport : ((s.withEngines es).updPort p.val HxPort.edgeTaken).port p.val = (s.port p.val).edgeTaken :=
      State.port_updPort_same ..
    refine ⟨_, hexec, ?_, ?_⟩
    · rw [State.enqueue, State.port_updPort_same, hport]
      rfl
    · rw [State.enqueue_queue, hport]
      rfl
  case overrate =>
    intro s p it r hlive hqueue hnoted hlate
    have hover : it.overRate s.acyc = true := by simp [TxItem.overRate, hnoted, hlate]
    obtain ⟨u, hexec, hinvalid, hreports, hnoted⟩ :=
      execHxSchedOverrate_reports hlive (by rw [hqueue, List.any_cons, hover, Bool.true_or])
    refine ⟨_, hexec, hinvalid, State.reports1_moduleFault _ _ _ _ _ _ _ hreports, ?_, ?_⟩
    · rw [State.port_portFault, hnoted, List.length_map]
    · rw [State.port_portFault, hnoted, hqueue, List.map_cons, List.head?_cons, TxItem.note, if_pos hover]
  case arrival =>
    intro s p b n hlive hb hn hwhole hstack hruns hpast hfuture htime hroom
    obtain rfl : n = (recordTiles b).length := hn
    have hexec := execRecordArrival_timed hlive hb hwhole hstack hruns hpast hfuture
    rw [if_neg (Nat.not_lt.2 htime), if_neg (Nat.not_lt.2 hroom)] at hexec
    refine ⟨_, recordOf b (s.recordTime (leAt b 0 4) (leAt b 4 3)), hexec, ?_, rfl, ?_, ?_, ?_⟩
    · rw [State.port_setReg, State.port_updPort_same, State.takeRx_port]
    · rw [recordOf, List.length_map, List.length_range]
    · rw [State.port_setReg, State.port_updPort_same, hb]
      exact s.takeRx_rx ..
    · rw [State.setReg_reports, State.updPort_reports, State.takeRx, State.flowControl_reports, State.updPort_reports]
  case late =>
    intro s p b n hlive hb hn hwhole hstack hruns hpast hfuture htime
    obtain rfl : n = (recordTiles b).length := hn
    have hexec := execRecordArrival_timed hlive hb hwhole hstack hruns hpast hfuture
    rw [if_pos htime] at hexec
    refine ⟨_, hexec, ?_, ?_⟩
    · rw [State.port_satReg, State.takeRx_port]
    · rw [State.reg_satReg, s.takeRx_reg _ _ _ (by simp) (by simp) (by simp)]
      rfl
  case landing =>
    intro s p errs r rest i f key w hused hhop hdue hwords hloc hreset hcolour hroom
    obtain ⟨es, hexec⟩ := execRecordLanding_lands errs hdue
    have hland := State.landRecord_one (s := (s.withEngines es).updPort p.val (fun g => { g with landing := rest })) hused errs
      hwords hloc hreset
    have hport := State.port_updPort_same (s.withEngines es) p.val (fun g => { g with landing := rest })
    have htile : ((s.withEngines es).updPort p.val (fun g => { g with landing := rest })).tile f key = s.tile f key := rfl
    have hplace : ((s.withEngines es).updPort p.val (fun g => { g with landing := rest })).landingTile p.val i =
        s.landingTile p.val i := rfl
    have hreports : ((s.withEngines es).updPort p.val (fun g => { g with landing := rest })).reports = s.reports := rfl
    rw [htile, hplace, TW.arrive_joins hhop hcolour hroom] at hland
    rw [hland] at hexec
    generalize (s.withEngines es).updPort p.val (fun g => { g with landing := rest }) = u at hexec hport hreports
    refine ⟨_, hexec, ?_, ?_, (State.absorb_clean_reports (TW.clean_start ..)).trans hreports⟩
    · rw [State.port_of_ports (State.absorb_clean_ports (TW.clean_start ..)), hport]
    · rw [State.tile_absorb_start, Tile.joined_fifo_same, Tile.hopped_rtr]
  case missing =>
    intro s p at_ hlive hused hlate hnone
    exact ⟨_, execSchLateLanding_reports hlive hused hlate hnone, rfl, State.reports1_moduleFault _ _ _ _ _ _ _ rfl, rfl⟩
  case spdm =>
    intro s p b m hlive hb hlen hcrc htype hm
    refine ⟨fun hlast => ⟨_, execSpdm_fragment hlive hb hlen hcrc htype hlast, ?_⟩, fun hlast hfirst hstate =>
      ⟨_, execSpdm_whole hlive hb hlen hcrc htype hlast hfirst, ?_, ?_⟩⟩
    · rw [State.port_updPort_same, HxPort.fragment_spdm, State.takeRx_port, hm]
    all_goals
      rw [State.linkMessage_taken (by rw [State.portState, State.updPort_reg]; exact (s.takeRx_state p.val 6 64).trans_ne hstate),
        State.port_updPort_same, State.port_updPort_same, HxPort.fragment_first _ hfirst, State.takeRx_port]
    · rfl
    · rw [hm]
      rfl
  case probe =>
    intro s p b hlive hb hlen hcrc htype
    refine ⟨fun hecho => ⟨_, ⟨Cell.bytes ⟨false, s.reg F.HX_STATUS_NCOORD p.val, s.own, 0x12, 0, 0, 0, s.bcl.nextCell,
      bytesLe 8 s.lclk ++ bytesLe 8 (leAt (cellOf b).body 0 8)⟩, 0, s.acyc, false, false⟩,
      execProbe_echoes hlive hb hlen hcrc htype hecho, ?_, rfl⟩,
      fun hecho hle hlt => ⟨_, execProbe_measures hlive hb hlen hcrc htype hecho, ?_⟩⟩
    · have hcell := State.linkCell_queue (s.takeRx p.val 6 64) p.val 0x12
        (bytesLe 8 s.lclk ++ bytesLe 8 (leAt (cellOf b).body 0 8))
      have hbcl : (s.takeRx p.val 6 64).bcl = s.bcl := s.takeRx_same p.val 6 64 .bcl
      have hacyc : (s.takeRx p.val 6 64).acyc = s.acyc := s.takeRx_same p.val 6 64 .acyc
      have hqueue : ((s.takeRx p.val 6 64).port p.val).queue 6 = (s.port p.val).queue 6 := by
        rw [State.takeRx_port]
        rfl
      rw [s.takeRx_own, s.takeRx_reg p.val 6 64 (f := F.HX_STATUS_NCOORD) (by simp) (by simp) (by simp), hbcl, hacyc,
        hqueue] at hcell
      exact hcell
    · have hround : s.lclk + 2 ^ 64 - leAt (cellOf b).body 8 8 = s.lclk - leAt (cellOf b).body 8 8 + 2 ^ 64 := by omega
      rw [State.reg_setReg_same, hround, Nat.add_mod_right, Nat.mod_eq_of_lt ((Nat.sub_le ..).trans_lt hlt)]
      rfl
  case unused =>
    intro s p errs r rest hunused hdue
    obtain ⟨es, hexec⟩ := execRecordLanding_lands errs hdue
    rw [State.landRecord_unused (s := (s.withEngines es).updPort p.val _) hunused] at hexec
    refine ⟨_, hexec, ?_, rfl⟩
    rw [State.port_updPort_same]

end Sys2Proof.Machine

/-!
PROOFS. The statements of spec 08_hexkel about packets and cells on the transit ring, and the remote requests that Base
Camp serves.
-/

namespace Sys2Proof.Machine

/-! ### One item on an open ring (R252, R263, R264) -/

/-- The state with another ring and other OFF signs of its buffers. -/
def State.onRing (s : State) (ring : List RingItem) (off : SMap Bool) : State :=
  { s with bcl := { s.bcl with ring := ring, ringOff := off } }

/-- The state with other delivered packets. -/
def State.withDyns (s : State) (l : List Dyn) : State := { s with bcl := { s.bcl with dyns := l } }

theorem State.onRing_port (s : State) (ring : List RingItem) (off : SMap Bool) (p : Nat) :
    (s.onRing ring off).port p = s.port p := rfl
theorem State.withDyns_port (s : State) (l : List Dyn) (p : Nat) : (s.withDyns l).port p = s.port p := rfl
theorem State.onRing_dyns (s : State) (l : List Dyn) (ring : List RingItem) (off : SMap Bool) :
    ((s.withDyns l).onRing ring off).bcl.dyns = l := rfl

theorem State.ringFlow_onRing (s : State) (ring : List RingItem) (off : SMap Bool) (stop ch : Nat) :
    ∃ off', (s.onRing ring off).ringFlow stop ch = s.onRing ring off' := ⟨_, rfl⟩

/-- OFF and ON of a stop leave both lanes of the other stops. -/
theorem State.ringFlow_isOff_lane (s : State) {stop stop' lane : Nat} (ch : Nat) (hne : stop' ≠ stop) (hlt : stop < 7)
    (hlt' : stop' < 7) : (s.ringFlow stop ch).ringIsOff stop' lane ch = s.ringIsOff stop' lane ch := by
  have h0 : ringKey stop' lane ch ≠ ringKey stop 0 ch := by simp only [ringKey]; omega
  have h1 : ringKey stop' lane ch ≠ ringKey stop 1 ch := by simp only [ringKey]; omega
  simp only [State.ringFlow, State.ringIsOff, List.foldl_cons, List.foldl_nil, SMap.get_set_other _ _ _ _ _ h0,
    SMap.get_set_other _ _ _ _ _ h1]

/-- The list holds the stops from one to another in their order on the shorter way, none of them twice. -/
def ringLeads : Nat → Nat → List Nat → Bool
  | stop, to_, [] => decide (stop = to_)
  | stop, to_, m :: r => decide (stop ≠ to_) && decide ((ringNext stop to_).1 = m) &&
    (m :: r).all (fun q => decide (q ≠ stop) && decide (q < 7)) && ringLeads m to_ r

/-- The stops ahead of an item, at most `n`. -/
def ringAhead : Nat → Nat → Nat → List Nat
  | 0, _, _ => []
  | n + 1, stop, to_ => if stop = to_ then [] else (ringNext stop to_).1 :: ringAhead n (ringNext stop to_).1 to_

/-- Three stops lead from any stop to any other. -/
theorem ringAhead_leads : ∀ a b : Fin 7, ringLeads a b (ringAhead 3 a b) = true ∧ (ringAhead 3 a b).length ≤ 3 := by decide

theorem ringLeads_apart {stop to_ : Nat} {ahead : List Nat} (h : ringLeads stop to_ ahead = true) :
    ∀ q ∈ ahead, q ≠ stop ∧ q < 7 := by
  cases ahead with
  | nil => exact List.forall_mem_nil _
  | cons m r =>
    simp only [ringLeads, Bool.and_eq_true, List.all_eq_true, decide_eq_true_eq] at h
    exact h.1.2

/-- The ring carries one item, all beside the ring is as in `u`, and no stop ahead sends OFF. -/
structure State.Rides (u s : State) (x : RingItem) (ahead : List Nat) : Prop where
  eq : ∃ off, s = u.onRing [x] off
  leads : ringLeads x.stop x.to_ ahead = true
  stop : x.stop < 7
  lane : x.lane < 2
  room : ∀ q ∈ ahead, ∀ lane < 2, s.ringIsOff q lane x.load.ch = false

theorem RingItem.moved_lane {x : RingItem} (h : x.lane < 2) : x.moved.lane < 2 := by
  simp only [RingItem.moved]
  split
  · decide
  · exact h

/-- The only item makes its next move. -/
theorem State.Rides.move {u s : State} {x : RingItem} {m : Nat} {ahead : List Nat} (h : u.Rides s x (m :: ahead)) (n : Nat) :
    ∃ v, s.ringRun (n + 1) = v.ringRun n ∧ u.Rides v x.moved ahead := by
  obtain ⟨⟨off, hs⟩, hleads, hstop, hlane, hroom⟩ := h
  have hapart := ringLeads_apart hleads
  simp only [ringLeads, Bool.and_eq_true, decide_eq_true_eq] at hleads
  obtain ⟨⟨⟨hne, hm⟩, -⟩, hrest⟩ := hleads
  have hmoved : x.moved.stop = m := hm
  have hmlt : m < 7 := (hapart m List.mem_cons_self).2
  have hring : s.bcl.ring = [x] := by rw [hs]; rfl
  have hmoves : s.ringMoves x = true := by
    have hnext : s.ringIsOff (ringNext x.stop x.to_).1 (if (ringNext x.stop x.to_).2 then 1 else x.lane) x.load.ch = false := by
      rw [hm]
      exact hroom m List.mem_cons_self _ (RingItem.moved_lane hlane)
    simp only [State.ringMoves, hnext, Bool.not_false, Bool.or_true]
  refine ⟨s.ringMove x [], ?_, ?_, ?_, ?_, RingItem.moved_lane hlane, fun q hq lane hl => ?_⟩
  · rw [State.ringRun, hring, takeFirst, hmoves]
    rfl
  · obtain ⟨off', hflow⟩ := u.ringFlow_onRing [x.moved] off x.stop x.load.ch
    have hon : s.withRing ([] ++ [x.moved]) = u.onRing [x.moved] off := by
      rw [hs]
      rfl
    rw [s.ringMove_on [] hne, hon, hflow]
    exact u.ringFlow_onRing ..
  · rw [hmoved]
    exact hrest
  · rw [hmoved]
    exact hmlt
  · obtain ⟨hqstop, hqlt⟩ := hapart q (List.mem_cons_of_mem _ hq)
    obtain ⟨hqm, -⟩ := ringLeads_apart hrest q hq
    have hload : x.moved.load = x.load := rfl
    rw [s.ringMove_on [] hne, hload, hmoved, State.ringFlow_isOff_lane _ _ hqm hmlt hqlt,
      State.ringFlow_isOff_lane _ _ hqstop hstop hqlt]
    exact hroom q (List.mem_cons_of_mem _ hq) lane hl

/-- The only item comes to its last stop. -/
theorem State.Rides.arrive {u : State} {ahead : List Nat} (n : Nat) : ∀ {s : State} {x : RingItem}, u.Rides s x ahead →
    ∃ v y, s.ringRun (ahead.length + n) = v.ringRun n ∧ u.Rides v y [] ∧ y.to_ = x.to_ ∧ y.from_ = x.from_ ∧ y.load = x.load := by
  induction ahead with
  | nil =>
    intro s x h
    exact ⟨s, x, by rw [List.length_nil, Nat.zero_add], h, rfl, rfl, rfl⟩
  | cons m ahead ih =>
    intro s x h
    obtain ⟨v, hrun, hv⟩ := h.move (ahead.length + n)
    obtain ⟨w, y, hrun', hw, hto, hfrom, hload⟩ := ih hv
    have hlen : (m :: ahead).length + n = ahead.length + n + 1 := by rw [List.length_cons]; omega
    exact ⟨w, y, by rw [hlen, hrun, hrun'], hw, hto, hfrom, hload⟩

/-- At its last stop the only item leaves the ring. -/
theorem State.Rides.leave {u s : State} {x : RingItem} (h : u.Rides s x []) (n : Nat) :
    ∃ off, s.ringRun (n + 1) = (((u.onRing [] off).ringLeave x).ringFlow x.to_ x.load.ch).ringRun n := by
  obtain ⟨⟨off, hs⟩, hleads, -, -, -⟩ := h
  have hstop : x.stop = x.to_ := by simpa [ringLeads] using hleads
  have hring : s.bcl.ring = [x] := by rw [hs]; rfl
  have hmoves : s.ringMoves x = true := by simp [State.ringMoves, hstop]
  have hcleared : s.withRing [] = u.onRing [] off := by rw [hs]; rfl
  refine ⟨off, ?_⟩
  rw [State.ringRun, hring, takeFirst, hmoves]
  simp only [if_true]
  rw [s.ringMove_last [] hstop, hcleared, hstop]

section Transit
variable {s : State} (hring : s.bcl.ring = []) (hopen : ∀ k, s.bcl.ringOff.get false k = false)
include hring hopen

/-- What enters an empty ring with no buffer OFF leaves it at its stop. -/
theorem State.ringPut_leaves {a b : Nat} (ha : a < 7) (hb : b < 7) (l : Load) : ∃ off y n, (s.ringPut a b l).ringGo =
    (((s.onRing [] off).ringLeave y).ringFlow b l.ch).ringRun n ∧ y.to_ = b ∧ y.from_ = a ∧ y.load = l := by
  obtain ⟨hleads, hlen⟩ := ringAhead_leads ⟨a, ha⟩ ⟨b, hb⟩
  have hput : s.Rides (s.ringPut a b l) ⟨a, b, a, 0, l⟩ (ringAhead 3 a b) := by
    refine ⟨⟨_, by rw [State.ringPut, hring]; rfl⟩, hleads, ha, Nat.zero_lt_two, fun q hq lane hl => ?_⟩
    obtain ⟨hne, hlt⟩ := ringLeads_apart hleads q hq
    rw [State.ringPut, State.ringFlow_isOff_lane _ _ hne ha hlt]
    exact hopen _
  have hgo : (s.ringPut a b l).ringGo =
      (s.ringPut a b l).ringRun ((ringAhead 3 a b).length + (7 - (ringAhead 3 a b).length + 1)) := by
    obtain ⟨off, hs⟩ := hput.eq
    have hone : (s.ringPut a b l).bcl.ring.length = 1 := by rw [hs]; rfl
    have hlen' : (ringAhead 3 a b).length ≤ 3 := hlen
    rw [State.ringGo, hone]
    congr 1
    omega
  obtain ⟨v, y, hrun, hv, hto, hfrom, hload⟩ := hput.arrive (7 - (ringAhead 3 a b).length + 1)
  obtain ⟨off, hleave⟩ := hv.leave (7 - (ringAhead 3 a b).length)
  rw [hto, hload] at hleave
  exact ⟨off, y, _, by rw [hgo, hrun, hleave], hto, hfrom, hload⟩

theorem State.ringPut_delivers_dyn {a : Nat} (ha : a < 7) (d : Dyn) : ∃ off, (s.ringPut a 6 (.dyn d)).ringGo =
    (s.withDyns (s.bcl.dyns ++ [d])).onRing [] off := by
  obtain ⟨off, ⟨from_, to_, stop, lane, load⟩, n, hgo, rfl, rfl, rfl⟩ :=
    State.ringPut_leaves hring hopen ha (by decide : 6 < 7) (.dyn d)
  rw [hgo, State.ringRun_empty rfl]
  exact ⟨_, rfl⟩

theorem State.ringPut_delivers_cell {a : Nat} (ha : a < 7) (c : Cell) : ∃ off, (s.ringPut a 6 (.cell c)).ringGo =
    { s with bcl := { s.bcl with cells := s.bcl.cells ++ [(a, c)], ring := [], ringOff := off } } := by
  obtain ⟨off, ⟨from_, to_, stop, lane, load⟩, n, hgo, rfl, rfl, rfl⟩ :=
    State.ringPut_leaves hring hopen ha (by decide : 6 < 7) (.cell c)
  rw [hgo, State.ringRun_empty rfl]
  exact ⟨_, rfl⟩

/-- What Base Camp puts on the ring for a port that is UP joins its queue. -/
theorem State.ringPut_queues {q : Nat} (hq : q < 6) (hup : s.portUp q = true) (l : Load) :
    ∃ off, (s.ringPut 6 q l).ringGo = (s.enqueue q l.ch l.bytes).onRing [] off := by
  obtain ⟨off, ⟨from_, to_, stop, lane, load⟩, n, hgo, rfl, rfl, rfl⟩ := State.ringPut_leaves hring hopen (by decide : 6 < 7)
    (Nat.lt_succ_of_lt hq) l
  have hup' : (s.onRing [] off).portUp to_ = true := hup
  have hleave : (s.onRing [] off).ringLeave ⟨6, to_, stop, lane, load⟩ = (s.enqueue to_ load.ch load.bytes).onRing [] off := by
    rw [State.ringLeave, if_neg (Nat.ne_of_lt hq), if_pos hup']
    rfl
  obtain ⟨off', hflow⟩ := (s.enqueue to_ load.ch load.bytes).ringFlow_onRing [] off to_ load.ch
  rw [hgo, hleave, hflow, State.ringRun_empty rfl]
  exact ⟨off', rfl⟩

end Transit

/-! ### The way of a packet (R251) -/

theorem State.dynNext_own {s : State} (hvalid : s.reg F.HX_TOPO_VALID = 1) : s.dynNext s.own = .here := by
  rw [State.dynNext, hvalid, if_neg Nat.one_ne_zero, if_pos rfl]

theorem State.nPorts_le (s : State) : s.nPorts ≤ 6 := by
  rw [State.nPorts]
  split <;> decide

theorem State.dynNext_out_lt {s : State} {dst q : Nat} (h : s.dynNext dst = .out q) : q < 6 := by
  unfold State.dynNext at h
  split at h
  · split at h
    · next p hp =>
      cases h
      exact (List.mem_range.1 (List.mem_of_find?_eq_some hp)).trans_le s.nPorts_le
    · cases h
  · split at h
    · cases h
    · split at h
      · cases h
      · split at h
        · next i hi =>
          have hi3 := List.mem_range.1 (List.mem_of_find?_eq_some hi)
          cases h
          split <;> omega
        · cases h

/-! ### Packets and cells received (R249, R250, R255, R257) -/

theorem State.takeRx_crcCount (s : State) (p ch n : Nat) :
    ((s.takeRx p ch n).satReg F.HX_ERR_CRC p).reg F.HX_ERR_CRC p = satAdd 12 (s.reg F.HX_ERR_CRC p) 1 := by
  rw [State.reg_satReg, s.takeRx_reg _ _ _ (by simp) (by simp) (by simp)]
  rfl

section Packet
variable {s : State} {p : Fin 6} {ch : Nat} {b : List Nat} {n : Nat} (hlive : s.portLive p.val = true)
  (hopen : s.ringIsOff p.val 0 ch = false) (hb : b = (s.port p.val).rx.get [] ch) (hn : n = 20 + leAt b 4 2) (hlen : n ≤ b.length)
include hlive hopen hb hn hlen

theorem execDynamicPacket_taken {vn : Bool} (hch : ch = if vn then 3 else 2) : execDynamicPacket p vn s =
    if !dynLenOk (leAt b 4 2) || crc32c ((b.take n).take (n - 4)) ≠ leAt (b.take n) (n - 4) 4 then
      .next ((s.takeRx p.val ch n).satReg F.HX_ERR_CRC p.val)
    else if vn then .next ((s.takeRx p.val ch n).sendReply p.val (dynOf (b.take n)))
    else .next ((s.takeRx p.val ch n).sendRequest p.val (dynOf (b.take n))) := by
  have hgo : ¬ (!s.portLive p.val || b.length < 20 || b.length < n || s.ringIsOff p.val 0 ch) = true := by
    simp [hlive, hopen]
    omega
  rw [execDynamicPacket]
  simp only [← hch, ← hb, ← hn]
  rw [if_neg hgo]

end Packet

theorem execDynamicPacket_waits {s : State} {p : Fin 6} {vn : Bool} (h : s.ringIsOff p.val 0 (if vn then 3 else 2) = true) :
    execDynamicPacket p vn s = .next s := if_pos (by rw [h, Bool.or_true])

theorem execPrivilegedCell_waits {s : State} {p : Fin 6} {vc : Bool} (h : s.ringIsOff p.val 0 (if vc then 5 else 4) = true) :
    execPrivilegedCell p vc s = .next s := if_pos (by rw [h, Bool.or_true])

section Privileged
variable {s : State} {p : Fin 6} {vc : Bool} {b : List Nat} (hlive : s.portLive p.val = true)
  (hopen : s.ringIsOff p.val 0 (if vc then 5 else 4) = false) (hb : b = (s.port p.val).rx.get [] (if vc then 5 else 4))
  (hlen : 64 ≤ b.length)
include hlive hopen hb hlen

theorem execPrivilegedCell_taken : execPrivilegedCell p vc s =
    if !cellCrcOk (b.take 64) then .next ((s.takeRx p.val (if vc then 5 else 4) 64).satReg F.HX_ERR_CRC p.val)
    else if !forwardType (cellOf (b.take 64)).type then .next ((s.takeRx p.val (if vc then 5 else 4) 64).routeErr p.val)
    else if (cellOf (b.take 64)).bcast then
      .next ((s.takeRx p.val (if vc then 5 else 4) 64).cellBroadcast p.val (cellOf (b.take 64)))
    else .next ((s.takeRx p.val (if vc then 5 else 4) 64).cellUnicast p.val (cellOf (b.take 64))) := by
  have hgo : ¬ (!s.portLive p.val || (b.take 64).length < 64 || s.ringIsOff p.val 0 (if vc then 5 else 4)) = true := by
    simp [hlive, hopen]
    omega
  rw [execPrivilegedCell]
  simp only [← hb]
  rw [if_neg hgo]

end Privileged

/-! ### Requests that Base Camp serves (R253, R254) -/

theorem State.withDyns_stackReset (s : State) (l : List Dyn) : (s.withDyns l).stackReset = s.stackReset := rfl
theorem State.withDyns_stagingSize (s : State) (l : List Dyn) : (s.withDyns l).stagingSize = s.stagingSize := rfl

/-- The oldest delivered packet is taken where it passes the test. -/
theorem State.takeDyn_first {s : State} {d : Dyn} {r : List Dyn} (h : s.bcl.dyns = d :: r) {test : Dyn → Bool}
    (hd : test d = true) : s.takeDyn test = some (d, s.withDyns r) := by
  rw [State.takeDyn, h, State.takeDyn.go, if_pos hd]
  rfl

theorem State.serve_first {s : State} {d : Dyn} {r : List Dyn} (h : s.bcl.dyns = d :: r) (hvn : d.vn = 0)
    (g : State → Dyn → State) : s.serve d.op g = g (s.withDyns r) d := by
  rw [State.serve, State.takeDyn_first h (by simp [hvn])]

theorem State.takeAnswer_first {s : State} {d : Dyn} {r : List Dyn} (h : s.bcl.dyns = d :: r) (hvn : d.vn = 1)
    (hwait : ∃ w, w ∈ s.bcl.waiting ∧ w.1 = d.id) (g : State → Dyn → State) : s.takeAnswer d.op g =
      g { s with bcl := { s.bcl with dyns := r, waiting := s.bcl.waiting.filter (fun w => w.1 ≠ d.id) } } d := by
  have hany : s.bcl.waiting.any (fun w => w.1 = d.id) = true := by simpa using hwait
  rw [State.takeAnswer, State.takeDyn_first h (by simp [hvn])]
  exact if_pos hany

/-- The state after an answer has joined the queue of port `q`: the ring is as it was. -/
def State.answered (s : State) (q : Nat) (reply : Dyn) (off : SMap Bool) : State :=
  ((s.fresh.2).enqueue q 3 reply.bytes).onRing [] off

theorem State.answer_queues {s : State} {d : Dyn} {q : Nat} (hring : s.bcl.ring = [])
    (hopen : ∀ k, s.bcl.ringOff.get false k = false)
    (hnext : s.dynNext d.src = .out q) (hup : s.portUp q = true) (op status : Nat) (payload : List Nat) :
    ∃ x off, s.answer d op status payload = s.answered q ⟨d.src, 1, s.own, op, status, d.id, x, payload⟩ off := by
  have hnext' : s.fresh.2.dynNext d.src = .out q := hnext
  obtain ⟨off, hgo⟩ := State.ringPut_queues (s := s.fresh.2) hring hopen (State.dynNext_out_lt hnext) hup
    (.dyn ⟨d.src, 1, s.own, op, status, d.id, s.fresh.1 % 2 ^ 32, payload⟩)
  refine ⟨s.fresh.1 % 2 ^ 32, off, ?_⟩
  rw [State.answer, State.answerPut]
  simp only [State.replyPut, hnext']
  exact hgo

theorem State.answered_dyns (s : State) (q : Nat) (reply : Dyn) (off : SMap Bool) :
    (s.answered q reply off).bcl.dyns = s.bcl.dyns := rfl
theorem State.answered_staging (s : State) (q : Nat) (reply : Dyn) (off : SMap Bool) :
    (s.answered q reply off).staging = s.staging := rfl

theorem State.answered_queue (s : State) (q : Nat) (reply : Dyn) (off : SMap Bool) :
    ((s.answered q reply off).port q).queue 3 = (s.port q).queue 3 ++ [⟨reply.bytes, 0, s.acyc, false, false⟩] :=
  State.enqueue_queue s.fresh.2 q 3 reply.bytes

/-- The staging area with the bytes of a remote write. -/
def State.written (s : State) (a : Nat) (bytes : List Nat) : State :=
  { s with staging := s.staging.setList 0 a (bytes.map (BitVec.ofNat 8)) }

theorem SMap.get_setList_above {α : Type} [DecidableEq α] (d : α) (l : List α) (m : SMap α) (i j : Nat) (h : i + l.length ≤ j) :
    (SMap.setList d m i l).get d j = m.get d j := by
  induction l generalizing m i with
  | nil => rfl
  | cons v r ih =>
    rw [List.length_cons] at h
    exact (ih _ _ (by omega)).trans (SMap.get_set_other d m i j v (by omega))

theorem SMap.get_setList_inside {α : Type} [DecidableEq α] (d : α) (l : List α) (m : SMap α) (i : Nat) {k : Nat}
    (h : k < l.length) :
    (SMap.setList d m i l).get d (i + k) = l[k] := by
  have hread := SMap.getList_setList d l m i
  have hk : k < ((SMap.setList d m i l).getList d i l.length).length := by simpa [SMap.getList] using h
  have hget : ((SMap.setList d m i l).getList d i l.length)[k] = (SMap.setList d m i l).get d (i + k) := by
    simp [SMap.getList]
  rw [← hget]
  simp only [hread]

theorem State.written_inside (s : State) (a : Nat) (bytes : List Nat) {k : Nat} (h : k < bytes.length) :
    SMap.get 0 (s.written a bytes).staging (a + k) = BitVec.ofNat 8 (bytes.getD k 0) := by
  have hk : k < (bytes.map (BitVec.ofNat 8)).length := by rwa [List.length_map]
  rw [State.written, SMap.get_setList_inside 0 _ _ _ hk, List.getElem_map, List.getD_eq_getElem _ _ h]

theorem State.written_outside (s : State) (a : Nat) (bytes : List Nat) {j : Nat} (h : j < a ∨ a + bytes.length ≤ j) :
    SMap.get 0 (s.written a bytes).staging j = SMap.get 0 s.staging j := by
  rcases h with h | h
  · exact SMap.get_setList_below 0 _ _ _ _ h
  · exact SMap.get_setList_above 0 _ _ _ _ (by rwa [List.length_map])

section Serve
variable {s : State} {d : Dyn} {r : List Dyn} (hdyns : s.bcl.dyns = d :: r) (hvn : d.vn = 0) (hstack : s.stackReset = false)
include hdyns hvn hstack

theorem execRwrite_admitted (hop : d.op = 2) (hin : 64 * d.arg + d.payload.length ≤ s.stagingSize) : execRwrite true s =
    .next (((s.withDyns r).written (64 * d.arg) d.payload).answer d 0x82 0 []) := by
  have hserve := State.serve_first hdyns hvn
  rw [hop] at hserve
  have hstack' : ¬ (s.withDyns r).stackReset = true := by
    rw [s.withDyns_stackReset r, hstack]
    exact Bool.false_ne_true
  have hin' : ¬ (!true || decide ((s.withDyns r).stagingSize < 64 * d.arg + d.payload.length)) = true := by
    rw [s.withDyns_stagingSize r, decide_eq_false (Nat.not_lt.2 hin)]
    decide
  rw [execRwrite, hserve]
  exact Res.next_congr ((if_neg hstack').trans (if_neg hin'))

theorem execRwrite_denied (hop : d.op = 2) : execRwrite false s = .next ((s.withDyns r).answer d 0x82 1 []) := by
  have hserve := State.serve_first hdyns hvn
  rw [hop] at hserve
  have hstack' : ¬ (s.withDyns r).stackReset = true := by
    rw [s.withDyns_stackReset r, hstack]
    exact Bool.false_ne_true
  rw [execRwrite, hserve]
  exact Res.next_congr ((if_neg hstack').trans (if_pos rfl))

variable (hop : d.op = 3) {n : Nat} (hn : n = leAt d.payload 0 4)
include hop hn

/-- The bytes that an admitted read of the staging area takes are answered, where its length is allowed and they lie inside. -/
theorem execRread_read : execRread true s =
    if dynLenOk n && decide (64 * d.arg + n ≤ s.stagingSize) then
      .next ((s.withDyns r).answer d 0x83 0 ((List.range n).map (fun k => (SMap.get 0 s.staging (64 * d.arg + k)).toNat)))
    else .next ((s.withDyns r).answer d 0x83 1 []) := by
  have hserve := State.serve_first hdyns hvn
  rw [hop] at hserve
  have hstack' : ¬ (s.withDyns r).stackReset = true := by
    rw [s.withDyns_stackReset r, hstack]
    exact Bool.false_ne_true
  have hbytes : (SMap.getList 0 (s.withDyns r).staging (64 * d.arg) n).map (·.toNat) =
      (List.range n).map (fun k => (SMap.get 0 s.staging (64 * d.arg + k)).toNat) := List.map_map
  rw [execRread, hserve]
  simp only [← hn, hbytes, s.withDyns_stagingSize r]
  rw [if_neg hstack']
  by_cases hlen : dynLenOk n = true
  · by_cases hin : 64 * d.arg + n ≤ s.stagingSize
    · simp [hlen, hin]
    · simp [hlen, hin, Nat.lt_of_not_le hin]
  · simp [hlen]

end Serve

/-- Settles O38: a clause per packet, cell or request, over the ring that carries it and the state that serves it. -/
theorem remoteRequestsAndCellsAreServed : Obligations.RemoteRequestsAndCellsAreServed := by
  refine ⟨?packet, ?cell, ?waits, ?write, ?read, ?reply, fun _ _ => rfl⟩
  case packet =>
    intro s p vn b n hlive hring hopen hb hn hlen
    have hexec := execDynamicPacket_taken hlive (hopen _) hb hn hlen rfl
    have hbcl := s.takeRx_bcl p.val (if vn then 3 else 2) n
    have hrx := s.takeRx_rx p.val (if vn then 3 else 2) n
    rw [← hb] at hrx
    refine ⟨fun hok hcrc hvalid hdst => ?_, fun hbad => ?_⟩
    · have hhere := State.dynNext_own ((s.takeRx_topoValid p.val (if vn then 3 else 2) n).trans hvalid)
      rw [s.takeRx_own, ← hdst] at hhere
      obtain ⟨off, hgo⟩ := State.ringPut_delivers_dyn (s := s.takeRx p.val (if vn then 3 else 2) n) (by rw [hbcl]; exact hring)
        (by rw [hbcl]; exact hopen) (Nat.lt_succ_of_lt p.isLt) (dynOf (b.take n))
      rw [if_neg (by simp [hok, hcrc])] at hexec
      have hsent : execDynamicPacket p vn s =
          .next ((s.takeRx p.val (if vn then 3 else 2) n).ringPut p.val 6 (.dyn (dynOf (b.take n)))).ringGo := by
        rw [hexec, State.sendReply, State.replyPut, State.sendRequest, hhere, ite_self]
      refine ⟨_, hsent, ?_, ?_, ?_⟩ <;> rw [hgo]
      · rw [State.onRing_dyns, hbcl]
      · rfl
      · rw [State.onRing_port, State.withDyns_port, hrx]
    · rw [if_pos (by simpa using hbad)] at hexec
      refine ⟨_, hexec, ?_, ?_, s.takeRx_crcCount ..⟩
      · rw [State.satReg_bcl, hbcl]
      · rw [State.port_satReg, hrx]
  case cell =>
    intro s p vc b hlive hring hopen hb hlen
    have hexec := execPrivilegedCell_taken hlive (hopen _) hb hlen
    have hbcl := s.takeRx_bcl p.val (if vc then 5 else 4) 64
    refine ⟨fun hcrc htype hbcast hdst => ?_, fun hbad => ?_⟩
    · obtain ⟨off, hgo⟩ := State.ringPut_delivers_cell (s := s.takeRx p.val (if vc then 5 else 4) 64) (by rw [hbcl]; exact hring)
        (by rw [hbcl]; exact hopen) (Nat.lt_succ_of_lt p.isLt) (cellOf (b.take 64))
      rw [hcrc, htype, hbcast, State.cellUnicast, if_pos (hdst.trans (s.takeRx_own ..).symm)] at hexec
      refine ⟨_, hexec, ?_, ?_⟩ <;> rw [State.deliverCell, hgo]
      rw [hbcl]
    · rw [hbad] at hexec
      exact ⟨_, hexec, by rw [State.satReg_bcl, hbcl], s.takeRx_crcCount ..⟩
  case waits => exact fun s p v => ⟨execDynamicPacket_waits, execPrivilegedCell_waits⟩
  case write =>
    intro s d r q hdyns hop hvn hstack hring hopen hin hnext hup
    obtain ⟨x, off, hadmitted⟩ := State.answer_queues
      (s := (s.withDyns r).written (64 * d.arg) d.payload) hring hopen hnext hup 0x82 0 []
    obtain ⟨x', off', hdenied⟩ := State.answer_queues (s := s.withDyns r) hring hopen hnext hup 0x82 1 []
    have hyes := execRwrite_admitted hdyns hvn hstack hop hin
    have hno := execRwrite_denied hdyns hvn hstack hop
    rw [hadmitted] at hyes
    rw [hdenied] at hno
    refine ⟨⟨_, _, x, hyes, State.answered_dyns .., fun k hk => ?_, fun a ha => ?_, State.answered_queue .., rfl⟩,
      _, _, x', hno, State.answered_dyns .., State.answered_staging .., State.answered_queue .., rfl⟩
    · rw [State.answered_staging, State.written_inside _ _ _ hk]
    · rw [State.answered_staging, State.written_outside _ _ _ ha]
      rfl
  case read =>
    intro s d r q n hdyns hop hvn hstack hring hopen hn hnext hup
    refine ⟨fun hmax hmul hin => ?_, fun hbad => ?_⟩
    · obtain ⟨x, off, hanswer⟩ := State.answer_queues (s := s.withDyns r) hring hopen hnext hup 0x83 0
        ((List.range n).map (fun k => (SMap.get 0 s.staging (64 * d.arg + k)).toNat))
      have hexec := execRread_read hdyns hvn hstack hop hn
      rw [if_pos (by simp [dynLenOk, hmax, hmul, hin]), hanswer] at hexec
      exact ⟨_, _, x, hexec, State.answered_dyns .., State.answered_staging .., State.answered_queue .., rfl⟩
    · obtain ⟨x, off, hanswer⟩ := State.answer_queues (s := s.withDyns r) hring hopen hnext hup 0x83 1 []
      have hexec := execRread_read hdyns hvn hstack hop hn
      have hout : ¬ (dynLenOk n && decide (64 * d.arg + n ≤ s.stagingSize)) = true := by
        simp only [dynLenOk, Bool.and_eq_true, decide_eq_true_eq]
        omega
      rw [if_neg hout, hanswer] at hexec
      exact ⟨_, _, x, hexec, State.answered_dyns .., State.answered_staging .., State.answered_queue .., rfl⟩
  case reply =>
    intro s d r hdyns hvn hwait
    have htake := State.takeAnswer_first hdyns hvn hwait
    refine ⟨fun hop => ?_, fun hop => ?_, fun hop => ?_⟩ <;> rw [hop] at htake
    · exact Res.next_congr (htake _)
    · exact Res.next_congr (htake _)
    · exact Res.next_congr (htake _)

end Sys2Proof.Machine

/-!
PROOFS. The statements of spec 09_ropes about forming a rope and about feeds, drains and completions, which do not hold.
-/

namespace Sys2Proof.Machine

/-- What a register field's copy shows after a step. -/
def shownAfter (r : Res) (f : Fld) (i : Nat) : Nat := match r with
  | .next t => t.reg f i
  | _ => 0

/-! ### PREPARE at a member whose time port does not fit its field -/

/-- After reset, in PREPARE with rope time: TPORT, which has three bits, is listed at 8, so that it reads as no port's number. -/
def wideTimePort : State :=
  { State.reset.setReg F.BC_ROPE_STATUS_STATE 1 with
    regs := SMap.set 0 (State.reset.setReg F.BC_ROPE_STATUS_STATE 1).regs (F.BC_ROPE_STATUS_TPORT.key 0 0) 9
    rope := { Rope.zero with lastTime := 1 } }

theorem wideTimePort_tport : wideTimePort.reg F.BC_ROPE_STATUS_TPORT = 8 := by decide +kernel

/-- MREF is taken from the port that three bits of TPORT name. -/
theorem execPrepareDone_wideTimePort : shownAfter (exec (.prepareDone true) wideTimePort) F.CLK_MREF_CUR_PORT 0 = 0 := by
  decide +kernel

/-- Refutes O39: its clause on the end of PREPARE has CUR_PORT of CLK_MREF show TPORT, for every state. Where the register file lists
TPORT at a value that its three bits do not hold, CUR_PORT shows that value cut to three bits. -/
theorem not_ropeFormsJoinsAndStops : ¬ Obligations.RopeFormsJoinsAndStops := by
  rintro ⟨-, -, hprepare, -⟩
  obtain ⟨-, -, hjoining, -⟩ := hprepare wideTimePort true (by decide +kernel) (by decide +kernel) (by decide +kernel)
  obtain ⟨t, ht, -, -, hshown, -⟩ := hjoining (by decide +kernel) (by decide +kernel) (by decide +kernel) (by decide +kernel)
    (by decide +kernel) (by decide +kernel)
  have hport := execPrepareDone_wideTimePort
  rw [ht, shownAfter, hshown, wideTimePort_tport] at hport
  exact absurd hport (by decide)

/-! ### The drain of an invocation whose half lies on a stack that lists a word twice -/

/-- After reset, with invocation 0 ended: the stack of tile 0 has two entries for the first word of the drain half. A read finds the
first one, a good zero; the second has two symbols in error. -/
def drainWordTwice : State := State.setTile { State.reset with run := { Run.zero with ended := [(0, 0)] } } 0 0
  { Tile.zero with stack := [(0x9FE00, CWord.zero), (0x9FE00, ⟨0, 0, 0x11⟩)] }

theorem drainWordTwice_good (f key k : Nat) : ((drainWordTwice.tile f key).stkWord k).ecc = .good := by
  by_cases h : f = 0 ∧ key = 0
  · obtain ⟨rfl, rfl⟩ := h
    have htile : drainWordTwice.tile 0 0 =
        { Tile.zero with stack := [(0x9FE00, CWord.zero), (0x9FE00, ⟨0, 0, 0x11⟩)] } := State.tile_setTile_same ..
    rw [htile]
    simp only [Tile.stkWord, SMap.get]
    split <;> decide
  · have htile : (drainWordTwice.tile f key).stack = [] := by
      have hbase : ∀ b : Bool, (if b = true then FieldSt.zero.logical else FieldSt.zero.spare).stack = [] := by decide
      have hother : drainWordTwice.tile f key =
        State.tile { State.reset with run := { Run.zero with ended := [(0, 0)] } } f key := State.tile_setTile_other _ _ _ _ _ _ h
      rw [hother]
      exact hbase _
    simp only [Tile.stkWord, htile, SMap.get]
    decide

/-- The drain's read of that word finds the second entry in error and counts it. -/
theorem execDrainRead_drainWordTwice : shownAfter (exec .drainRead drainWordTwice) F.FLD_STK_ECC_UE_COUNT 0 = 1 := by
  decide +kernel

/-- Refutes O55: its clause on the drain has the registers unchanged where every word of every stack reads good, for every state.
Where a stack lists a word of the drain half twice, the entry that no read finds is noted too. -/
theorem not_feedsDrainsAndCompletions : ¬ Obligations.FeedsDrainsAndCompletions := by
  rintro ⟨-, hdrain, -⟩
  obtain ⟨hread, -⟩ := hdrain drainWordTwice 0 0 (by decide +kernel) (by decide +kernel) (by decide +kernel) (by decide +kernel)
  obtain ⟨t, ht, -, -, hclean⟩ := hread (by decide +kernel) (by decide +kernel)
  have hcount := execDrainRead_drainWordTwice
  rw [ht, shownAfter] at hcount
  have hsame := State.reg_eq _ _ (hclean drainWordTwice_good).2 F.FLD_STK_ECC_UE_COUNT 0 0
  have hzero : drainWordTwice.reg F.FLD_STK_ECC_UE_COUNT 0 = 0 := by decide +kernel
  exact absurd (hcount.symm.trans (hsame.trans hzero)) (by decide)

end Sys2Proof.Machine

/-!
PROOFS. The statement of spec 09_ropes about captures, CLEAR and restores.
-/

namespace Sys2Proof.Machine

/-! ### The slots of a member (R306) -/

/-- A slot written is the slot read. -/
theorem State.slot_setSlot (s : State) (b : Nat) (x : CkpSlot) : (s.setSlot b x).slot b = x := by
  by_cases h : b = 0 <;> simp [State.slot, State.setSlot, h]

/-! ### CAPTURE_POINT and CAPTURE_COMPLETE (R305 to R310) -/

/-- The slot that a new capture goes into: the one that holds no committed checkpoint (R306). -/
def State.freeSlot (s : State) : Nat := if s.reg F.BC_ROPE_CKP_CVALID = 1 then 1 - s.reg F.BC_ROPE_CKP_CSLOT else 0

/-- A capture begun of an epoch that ended with an invocation (R305, R306). -/
def State.captureBegun (s : State) (e q k : Nat) : State :=
  let s : State := { s with rope := { s.rope with capEpoch := e + 1, startedSince := false } }
  let s' := s.setSlot s.freeSlot ⟨1, false, e, k, q + 1, s.rdesc.idLo, 0, 0, [], none⟩
  { s' with rope := { s'.rope with capture := some (e, k, s.freeSlot) } }.setReg F.BC_ROPE_CKP_CAPTURING 1

/-- The content of a slot: the captures of the used fields (R307). -/
def State.captureUsed (s : State) : SMap FieldCap :=
  s.usedFields.foldl (fun m f => m.set FieldCap.zero f (s.captureField f)) []

theorem State.captureUsed_get (s : State) {f : Nat} (hf : f ∈ s.usedFields) :
    SMap.get FieldCap.zero s.captureUsed f = s.captureField f :=
  SMap.get_foldl_set FieldCap.zero id s.captureField [] hf (fun _ _ hkey => congrArg s.captureField hkey)

theorem execCapturePoint_begun {s : State} {q k : Nat} {l : List (Nat × Nat)} (hended : s.run.ended = (q, k) :: l)
    (hstate : s.ropeState = 4) (hcur : s.run.cur = none) (hk : k ≤ s.acyc) (hepoch : s.rope.capEpoch ≤ k / 2 ^ s.rdesc.epochLog2)
    (hstarted : s.rope.startedSince = true) (hcapture : s.rope.capture = none) (hcommit : s.rope.awaitCommit = false) :
    execCapturePoint s = .next (s.captureBegun (k / 2 ^ s.rdesc.epochLog2) q k) := by
  have hguard : ¬ ((decide (s.ropeState ≠ 4) || s.run.cur.isSome || decide (s.acyc < k) ||
      decide (k / 2 ^ s.rdesc.epochLog2 < s.rope.capEpoch) || !s.rope.startedSince || s.rope.capture.isSome) = true) := by
    simp [hstate, hcur, hk, hepoch, hstarted, hcapture]
  simp only [execCapturePoint, hended, if_neg hguard]
  exact if_neg (by simp [hcommit])

theorem State.captureBegun_slot (s : State) (e q k : Nat) :
    (s.captureBegun e q k).slot s.freeSlot = ⟨1, false, e, k, q + 1, s.rdesc.idLo, 0, 0, [], none⟩ := State.slot_setSlot ..

/-- A capture done of the used fields into a slot (R307, R310). -/
def State.captureDone (s : State) (b : Nat) : State :=
  let w := weighFields s.captureUsed s.usedFields
  let s' := s.setSlot b { s.slot b with state := 2, crcOk := true, length := 8 * w.1, csum := w.2, content := s.captureUsed }
  { s' with rope := { s'.rope with capture := none, awaitCommit := true } }.setReg F.BC_ROPE_CKP_CAPTURING 0

theorem execCaptureComplete_done {s : State} {e k b : Nat} (h : s.rope.capture = some (e, k, b)) :
    execCaptureComplete s = .next (s.captureDone b) := by
  unfold execCaptureComplete
  rw [h]
  rfl

theorem State.captureDone_slot (s : State) (b : Nat) : (s.captureDone b).slot b =
    { s.slot b with
      state := 2
      crcOk := true
      length := 8 * (weighFields s.captureUsed s.usedFields).1
      csum := (weighFields s.captureUsed s.usedFields).2
      content := s.captureUsed } := State.slot_setSlot ..

/-! ### CLEAR_BROADCAST in a rope of one (R271, R303, R311) -/

/-- The body of a CLEAR cell. -/
def clearBody (c : Nat) : List Nat := [5, 0, 0, 0] ++ bytesLe 8 c

theorem clearBody_acycle (c : Nat) : leAt (padTo 52 (clearBody c)) 4 8 = c % 2 ^ 64 := by
  have hbody : padTo 52 (clearBody c) = [5, 0, 0, 0] ++ (bytesLe 8 c ++ List.replicate 40 0) := by
    simp [padTo, clearBody]
  rw [hbody]
  exact leAt_bytesLe [5, 0, 0, 0] _ 8 c rfl

section Solo
variable {s : State} (hsolo : s.solo = true)
include hsolo

/-- A CLEAR that a rope of one originates takes effect at once. -/
theorem State.castEpoch_clear (c : Nat) : s.castEpoch (clearBody c) = s.setReg F.BC_ROPE_CLEAR_CLEAR (c % 2 ^ 64) := by
  rw [State.castEpoch, if_pos hsolo, ← clearBody_acycle]
  rfl

/-- A COMMIT that a rope of one originates takes effect at once. -/
theorem State.castEpoch_commit (l : List Nat) : ∃ b, s.castEpoch (6 :: l) = s.takeCommit b := by
  refine ⟨_, if_pos hsolo⟩

end Solo

/-- A commit leaves CLEAR and the acycle of its last broadcast alone. -/
theorem State.takeCommit_clear (s : State) (b : List Nat) :
    (s.takeCommit b).reg F.BC_ROPE_CLEAR_CLEAR = s.reg F.BC_ROPE_CLEAR_CLEAR ∧ (s.takeCommit b).rope.clearAt = s.rope.clearAt := by
  unfold State.takeCommit
  extract_lets e sReplays late src sAwait
  have hreplays : sReplays.reg F.BC_ROPE_CLEAR_CLEAR = s.reg F.BC_ROPE_CLEAR_CLEAR :=
    State.reg_setReg_other _ _ _ _ _ _ _ _ (by simp)
  split
  · exact ⟨hreplays, rfl⟩
  · next k _ =>
    extract_lets x sSlot sShown
    refine ⟨?_, ?_⟩
    · have hshown : sShown.reg F.BC_ROPE_CLEAR_CLEAR = sSlot.reg F.BC_ROPE_CLEAR_CLEAR := by
        simp [sShown, State.reg_setReg_other]
      exact hshown.trans hreplays
    · change (sAwait.setSlot k _).rope.clearAt = _
      unfold State.setSlot
      split <;> rfl

theorem execClearBroadcast_solo {s : State} (hsolo : s.solo = true) (hstate : s.ropeState = 4)
    (hdue : s.rope.clearAt + 4096 ≤ s.acyc) (hbad : s.rope.bad = none) (hall : s.rdesc.size ≤ s.subtreeCount)
    (hsums : s.rope.sums = false) (hcleared : s.subtreeCleared < 2 ^ 64) (hclear : s.reg F.BC_ROPE_CLEAR_CLEAR < 2 ^ 64) :
    ∃ t, execClearBroadcast s = .next t ∧
      t.reg F.BC_ROPE_CLEAR_CLEAR = max s.subtreeCleared (s.reg F.BC_ROPE_CLEAR_CLEAR) ∧ t.rope.clearAt = s.acyc := by
  have hanchor : s.isAnchor = true := by simp [State.isAnchor, hsolo]
  unfold execClearBroadcast
  rw [if_neg (by simp [hanchor, hstate, hdue, hbad, hall])]
  extract_lets cAll cSum c src sAt sCast
  have hc : c = max s.subtreeCleared (s.reg F.BC_ROPE_CLEAR_CLEAR) := by simp [c, cSum, cAll, hsums]
  have hcast : sCast = sAt.setReg F.BC_ROPE_CLEAR_CLEAR (c % 2 ^ 64) := State.castEpoch_clear (s := sAt) hsolo c
  have hshown : sCast.reg F.BC_ROPE_CLEAR_CLEAR = max s.subtreeCleared (s.reg F.BC_ROPE_CLEAR_CLEAR) := by
    rw [hcast, State.reg_setReg_same, hc]
    exact (Nat.mod_mod _ _).trans (Nat.mod_eq_of_lt (max_lt hcleared hclear))
  have hat : sCast.rope.clearAt = s.acyc := by rw [hcast]; rfl
  have hsoloCast : sCast.solo = true := by
    rw [hcast, State.solo, State.reg_setReg_other _ _ _ _ _ _ _ _ (by simp)]
    exact hsolo
  clear_value sCast
  split
  · exact ⟨_, rfl, hshown, hat⟩
  · next e _ =>
    split
    · exact ⟨_, rfl, hshown, hat⟩
    · next x _ =>
      split
      · exact ⟨_, rfl, hshown, hat⟩
      · extract_lets sCommitted
        obtain ⟨b, hb⟩ := State.castEpoch_commit (s := sCommitted) hsoloCast ([0, 0, 0] ++ bytesLe 8 e ++ bytesLe 8 x.k)
        have hkept := sCommitted.takeCommit_clear b
        exact ⟨_, congrArg Host.Outcome.next hb, hkept.1.trans hshown, hkept.2.trans hat⟩

/-! ### RESTORE_COMPLETE (R316) -/

/-- The fields that run get their tiles back at their first instruction (R316 step 7). -/
def State.rerun (s : State) : State :=
  (s.allFields.filter (fun f => s.compOn f && !s.dark f && !s.heldOut f)).foldl
    (fun s f => s.mapTiles f (fun t => { t with core := { t.core with dmem := [] } }.startRun s.acyc)) s

theorem State.rerun_parts (s : State) : s.rerun.mask 16 = s.mask 16 := mask_foldl _ _ (fun _ _ => State.mapTiles_parts ..) _ s

theorem State.restored_parts (s : State) (e : Nat) : (s.restoreSlot e).rerun.mask 16 = s.mask 16 :=
  (State.rerun_parts _).trans (State.restoreSlot_parts ..)

section Restore
variable {s : State} (hstate : s.ropeState = 6) (hreset : s.rst.active = false) (hmigrate : s.log.migrate = [])
include hstate hreset hmigrate

theorem execRestoreComplete_none (csum : Bool) (hrestore : s.rope.restore = none) : execRestoreComplete csum s =
    .next { s.setRopeState 3 with rope := { s.rope with ready := true, journal := [] } } := by
  rw [execRestoreComplete, if_neg (by simp [hstate, hreset, hmigrate]), hrestore]

theorem execRestoreComplete_restored {e : Nat} (hrestore : s.rope.restore = some e) (hcsum : s.csumOk e = true) :
    execRestoreComplete true s = .next { (s.restoreSlot e).rerun.setRopeState 3 with
      rope := { (s.restoreSlot e).rerun.rope with ready := true, noCkp := false, waitFrom := (s.restoreSlot e).rerun.ref } } := by
  rw [execRestoreComplete, if_neg (by simp [hstate, hreset, hmigrate]), hrestore]
  simp only [hcsum, Bool.not_true, Bool.or_self, Bool.false_eq_true, if_false]
  rfl

theorem execRestoreComplete_failed {csum : Bool} {e : Nat} (hrestore : s.rope.restore = some e) (hsolo : s.solo = true)
    (hcsum : csum = false ∨ s.csumOk e = false) :
    execRestoreComplete csum s = .next ((s.moduleFault 5 Code.eccStkUe 0 e false).stopRope 11) := by
  have hfails : (!csum || !s.csumOk e) = true := by simpa using hcsum
  have hsolo' : (s.moduleFault 5 Code.eccStkUe 0 e false).solo = true := hsolo
  rw [execRestoreComplete, if_neg (by simp [hstate, hreset, hmigrate]), hrestore]
  simp only [hfails, if_true, hsolo']

theorem restoreComplete_ends {e : Nat} (hsolo : s.solo = true → s.reg F.BC_ROPE_STATUS_STATE = 0)
    (hrestore : s.rope.restore = some e) (hcsum : s.csumOk e = true) : ∃ t, execRestoreComplete true s = .next t ∧
      t.ropeState = 3 ∧ t.rope.ready = true ∧ t.rope.restore = some e ∧ t.reports = s.reports := by
  rw [execRestoreComplete_restored hstate hreset hmigrate hrestore hcsum]
  have hparts := s.restored_parts e
  generalize (s.restoreSlot e).rerun = u at hparts
  have hregs : u.regs = s.regs := Part.same_of_mask .regs hparts (by decide)
  have hrope : u.rope = s.rope := Part.same_of_mask .rope hparts (by decide)
  have hreports : u.reports = s.reports := Part.same_of_mask .reports hparts (by decide)
  have hsolo' : u.solo = true → u.reg F.BC_ROPE_STATUS_STATE = 0 := fun h => by
    rw [State.reg_eq _ _ hregs]
    exact hsolo (by rwa [State.solo, State.reg_eq _ _ hregs] at h)
  have hkept : (u.setRopeState 3).reports = u.reports :=
    Part.same_of_mask .reports (State.setRopeState_parts (M := 8) u 3) (by decide)
  exact ⟨_, rfl, State.setRopeState_ropeState hsolo' (by decide), rfl, (congrArg Rope.restore hrope).trans hrestore,
    hkept.trans hreports⟩

end Restore

/-- Settles O41: captures by the slot written and read back, CLEAR by the cell that a rope of one takes at once, and restores by the
parts that they leave alone. -/
theorem checkpointsAreCapturedAndRestored : Obligations.CheckpointsAreCapturedAndRestored := by
  refine ⟨fun s q k l hended hstate hcur hk hepoch hstarted hcapture hcommit => ?_, fun s e k b hcapture => ?_,
    fun s hsolo hstate hdue hbad hall hsums hcleared hclear =>
      execClearBroadcast_solo hsolo hstate hdue hbad hall hsums hcleared hclear,
    fun s csum hstate hsolo hreset hmigrate => ⟨fun hrestore => ?_, fun e hrestore hcsum => ?_, fun e hrestore hone hcsum => ?_⟩⟩
  · have hslot := s.captureBegun_slot (k / 2 ^ s.rdesc.epochLog2) q k
    refine ⟨_, s.freeSlot, execCapturePoint_begun hended hstate hcur hk hepoch hstarted hcapture hcommit, rfl, rfl, ?_⟩
    rw [hslot]
    refine ⟨rfl, rfl, rfl, rfl, State.reg_setReg_same .., ?_, rfl⟩
    simp only [State.captureBegun, State.setSlot]
    split <;> rfl
  · have hslot := s.captureDone_slot b
    refine ⟨_, execCaptureComplete_done hcapture, ?_⟩
    rw [hslot]
    exact ⟨rfl, rfl, rfl, fun f hf => s.captureUsed_get hf, rfl, rfl, rfl, rfl, State.reg_setReg_same .., rfl⟩
  · have hkept : (s.setRopeState 3).fields = s.fields :=
      Part.same_of_mask .fields (State.setRopeState_parts (M := 8) s 3) (by decide)
    exact ⟨_, execRestoreComplete_none hstate hreset hmigrate csum hrestore, State.setRopeState_ropeState hsolo (by decide), rfl, rfl,
      hkept⟩
  · exact restoreComplete_ends hstate hreset hmigrate hsolo hrestore hcsum
  · obtain ⟨hstop, hreason⟩ := (s.moduleFault 5 Code.eccStkUe 0 e false).stopRope_status 11
    exact ⟨_, execRestoreComplete_failed hstate hreset hmigrate hrestore hone hcsum, hstop, hreason⟩

end Sys2Proof.Machine

/-!
PROOFS. The statement about belay samples and their comparison (R482 to R485).
-/

namespace Sys2Proof.Machine

/-! ### Several tiles of a field changed -/

/-- The tiles with the keys of a list changed, one after another. -/
def State.changeTiles (s : State) (f : Nat) (ks : List Nat) (g : Tile → Tile) : State :=
  ks.foldl (fun s k => s.setTile f k (g (s.tile f k))) s

section ChangeTiles
variable {f : Nat} {g : Tile → Tile}

theorem State.changeTiles_parts (s : State) (f : Nat) (ks : List Nat) (g : Tile → Tile) :
    (s.changeTiles f ks g).mask 16 = s.mask 16 :=
  mask_foldl _ _ (fun _ _ => State.setTile_parts ..) ks s

/-- Beside its tiles the field is as before. -/
theorem State.changeTiles_field (s : State) (f : Nat) (ks : List Nat) (g : Tile → Tile) :
    ∃ ts, (s.changeTiles f ks g).field f = { s.field f with tiles := ts } := by
  induction ks generalizing s with
  | nil => exact ⟨_, rfl⟩
  | cons k ks ih =>
    obtain ⟨ts, hts⟩ := ih (s.setTile f k (g (s.tile f k)))
    exact ⟨ts, hts.trans (by rw [State.setTile, State.field_updField_same])⟩

theorem State.changeTiles_tile_keeps {p : Tile → Prop} (hg : ∀ t, p t → p (g t)) (s : State) (ks : List Nat) {k : Nat}
    (h : p (s.tile f k)) : p ((s.changeTiles f ks g).tile f k) := by
  induction ks generalizing s with
  | nil => exact h
  | cons a ks ih =>
    refine ih _ ?_
    by_cases ha : k = a
    · subst ha
      exact (State.tile_setTile_same ..).symm ▸ hg _ h
    · rwa [State.tile_setTile_other _ _ _ _ _ _ fun h => ha h.2]

theorem State.changeTiles_tile_mem {p : Tile → Prop} (hg : ∀ t, p (g t)) (s : State) {ks : List Nat} {k : Nat} (hk : k ∈ ks) :
    p ((s.changeTiles f ks g).tile f k) := by
  induction ks generalizing s with
  | nil => cases hk
  | cons a ks ih =>
    rcases List.mem_cons.1 hk with rfl | hk
    · exact State.changeTiles_tile_keeps (fun t _ => hg t) _ ks ((State.tile_setTile_same ..).symm ▸ hg _)
    · exact ih _ hk

theorem State.changeTiles_tile_other (s : State) {ks : List Nat} {k : Nat} (hk : k ∉ ks) :
    (s.changeTiles f ks g).tile f k = s.tile f k := by
  induction ks generalizing s with
  | nil => rfl
  | cons a ks ih =>
    obtain ⟨ha, hks⟩ := not_or.1 (List.mem_cons.not.1 hk)
    exact (ih _ hks).trans (State.tile_setTile_other _ _ _ _ _ _ fun h => ha h.2)

end ChangeTiles

/-- A tile depends on the fields, the fuses and the crevasse map of the logbook alone. -/
theorem State.tile_of_places {s t : State} (hfields : t.fields = s.fields) (hfuse : t.fuse = s.fuse)
    (hcrev : t.log.crev = s.log.crev) (f key : Nat) : t.tile f key = s.tile f key := by
  have hpos : t.position f key = s.position f key := by rw [State.position, State.position, State.crev, State.crev, hfuse, hcrev]
  rw [State.tile, State.tile, State.tileBase, State.tileBase, hpos, State.field, State.field, hfields]

/-! ### Taps of the belay (R482, R483) -/

/-- A tile whose tap has a role and a peer. -/
def Tile.tapped (role peer : Nat) (t : Tile) : Tile := (t.setReg F.BLY_TAP_ROLE role).setReg F.BLY_TAP_PEER peer

theorem Tile.tapped_role (role peer : Nat) (t : Tile) : (t.tapped role peer).reg F.BLY_TAP_ROLE = role % 4 :=
  (Tile.reg_setReg_other _ _ _ _ _ _ (by simp)).trans (Tile.reg_setReg_same ..)

theorem Tile.count_role (t : Tile) (i n : Nat) : (t.count i n).reg F.BLY_TAP_ROLE = t.reg F.BLY_TAP_ROLE :=
  Tile.reg_setReg_other _ _ _ _ _ _ (by simp; omega)

/-- The checkers of a sample: two of the free spares, or the only one. -/
def belayCheckers (sp : List Nat) (k : Nat) : List Nat :=
  if 2 ≤ sp.length then [sp.getD (2 * k % sp.length) 0, sp.getD ((2 * k + 1) % sp.length) 0] else sp

theorem belayCheckers_ne_nil {sp : List Nat} (k : Nat) (h : sp ≠ []) : belayCheckers sp k ≠ [] := by
  unfold belayCheckers
  split
  · exact List.cons_ne_nil _ _
  · exact h

theorem belayCheckers_length (sp : List Nat) (k : Nat) : (belayCheckers sp k).length ≤ 2 := by
  unfold belayCheckers
  split
  · exact le_rfl
  · omega

theorem mem_of_mem_belayCheckers {sp : List Nat} {k x : Nat} (h : x ∈ belayCheckers sp k) : x ∈ sp := by
  unfold belayCheckers at h
  split at h
  · next hlen =>
    have hget : ∀ i, sp.getD (i % sp.length) 0 ∈ sp := fun i => by
      have hi : i % sp.length < sp.length := Nat.mod_lt _ (by omega)
      rw [List.getD_eq_getElem _ _ hi]
      exact List.getElem_mem hi
    rcases List.mem_pair.1 h with rfl | rfl
    · exact hget _
    · exact hget _
  · exact h

/-- A spare tile has no logical position. -/
theorem State.position_of_freeSpare {s : State} {f row x : Nat} (h : x ∈ s.freeSpares f row) : s.position f x = none := by
  have hfree := (List.mem_filter.1 h).2
  simp only [Bool.and_eq_true, Option.isNone_iff_eq_none] at hfree
  exact hfree.1

/-! ### Samples of the belay (R483) -/

/-- The next sample of a row is taken. -/
def State.sampleTaken (s : State) (f row : Nat) : State :=
  s.updField f (fun g => { g with samples := g.samples.set 0 row ((s.field f).samples.get 0 row + 1) })

/-- The tile of a sample taps as the source, and free spares as its checkers. -/
def State.sampleTapped (s : State) (f row key : Nat) (vu : Bool) (checkers : List Nat) : State :=
  let s := s.sampleTaken f row
  let s := s.setTile f key (((s.tile f key).tapped 1 (physX f (checkers.getD 0 0))).count 7 1)
  let s := s.changeTiles f checkers (Tile.tapped 2 (s.pairAt f key))
  s.updField f (fun g => { g with belay := g.belay ++ [⟨row, key, vu, checkers⟩] })

section Sample
variable {s : State} {f : Fin 48} {row : Fin 132} (hint : s.belayInterval ≠ 0) (hmode : s.mode f.val = 2)
  (hlive : (s.field f.val).live = true) (hdue : s.acyc % s.belayInterval = 17 * row.val % s.belayInterval)
  (hfree : s.freeSpares f.val row.val ≠ []) (hnone : ∀ b, b ∈ (s.field f.val).belay → b.row ≠ row.val)
  (hrow : (s.position f.val (physOf (s.crev f.val).cols 0 + 132 * row.val)).isSome = true)
include hint hmode hlive hdue hfree hnone hrow

theorem execBelaySample_due (found : Bool) : execBelaySample f row found s = .next (
    if !found then (s.sampleTaken f.val row.val).satReg F.FLD_BLY_CNT_IDLE f.val
    else s.sampleTapped f.val row.val
      (physOf (s.crev f.val).cols ((s.field f.val).samples.get 0 row.val % 128) + 132 * row.val)
      (decide ((s.field f.val).samples.get 0 row.val / 128 % 2 = 1))
      (belayCheckers (s.freeSpares f.val row.val) ((s.field f.val).samples.get 0 row.val))) := by
  have hguard : ¬ ((decide (s.belayInterval = 0) || decide (s.mode f.val ≠ 2) || !(s.field f.val).live ||
      (s.position f.val (physOf (s.crev f.val).cols 0 + 132 * row.val)).isNone ||
      decide (s.acyc % s.belayInterval ≠ 17 * row.val % s.belayInterval) || (s.freeSpares f.val row.val).isEmpty ||
      (s.field f.val).belay.any (fun b => b.row = row.val)) = true) := by
    obtain ⟨p, hp⟩ := Option.isSome_iff_exists.1 hrow
    simpa [hint, hmode, hlive, hdue, hfree, hp] using hnone
  unfold execBelaySample
  extract_lets i c sp
  rw [if_neg hguard]
  cases found <;> rfl

end Sample

theorem State.sampleTaken_field (s : State) (f row : Nat) : ((s.sampleTaken f row).field f) =
    { s.field f with samples := (s.field f).samples.set 0 row ((s.field f).samples.get 0 row + 1) } :=
  State.field_updField_same ..

/-- What the taps of a sample leave of its field, beside the tiles. -/
theorem State.sampleTapped_field (s : State) (f row key : Nat) (vu : Bool) (checkers : List Nat) :
    ∃ ts, (s.sampleTapped f row key vu checkers).field f =
      { s.field f with
        tiles := ts
        samples := (s.field f).samples.set 0 row ((s.field f).samples.get 0 row + 1)
        belay := (s.field f).belay ++ [⟨row, key, vu, checkers⟩] } := by
  unfold State.sampleTapped
  extract_lets sTaken sSource sChecked
  have hsource : ∃ us, sSource.field f = { sTaken.field f with tiles := us } := ⟨_, State.field_updField_same ..⟩
  have htaken : sTaken.field f = _ := s.sampleTaken_field f row
  clear_value sSource
  obtain ⟨ts, hts⟩ := sSource.changeTiles_field f checkers (Tile.tapped 2 (sSource.pairAt f key))
  obtain ⟨us, hus⟩ := hsource
  exact ⟨ts, by rw [State.field_updField_same, hts, hus, htaken]⟩

theorem State.tile_sampleAdded (s : State) (f : Nat) (b : Sample) (g key : Nat) :
    (s.updField f (fun x => { x with belay := x.belay ++ [b] })).tile g key = s.tile g key :=
  State.tile_updField s f (fun x => { x with belay := x.belay ++ [b] }) (fun _ => ⟨rfl, rfl, rfl⟩) g key

theorem State.sampleTapped_tile (s : State) (f row key : Nat) (vu : Bool) {checkers : List Nat} (hkey : key ∉ checkers) :
    ((s.sampleTapped f row key vu checkers).tile f key).reg F.BLY_TAP_ROLE = 1 ∧
    ∀ x, x ∈ checkers → ((s.sampleTapped f row key vu checkers).tile f x).reg F.BLY_TAP_ROLE = 2 := by
  unfold State.sampleTapped
  extract_lets sTaken sSource sChecked
  refine ⟨?_, fun x hx => ?_⟩
  · rw [State.tile_sampleAdded, State.changeTiles_tile_other _ hkey, State.tile_setTile_same, Tile.count_role, Tile.tapped_role]
  · rw [State.tile_sampleAdded]
    exact State.changeTiles_tile_mem (p := fun t => t.reg F.BLY_TAP_ROLE = 2) (Tile.tapped_role 2 _) sSource hx

/-! ### Comparisons of the belay (R484, R485) -/

/-- The sample of a field ends, and its taps are idle. -/
def State.sampleEnded (s : State) (f : Nat) (b : Sample) : State :=
  (s.updField f (fun g => { g with belay := g.belay.filter (fun x => x ≠ b) })).changeTiles f (b.key :: b.checkers) (Tile.tapped 0 0)

/-- A whole comparison is counted at its field and at the checkers. -/
def State.comparisonCounted (s : State) (f : Nat) (checkers : List Nat) : State :=
  (s.addReg F.FLD_BLY_CNT_COMPARED f).changeTiles f checkers (fun t => t.count 7 1)

/-- What a comparison with two checkers finds, where nothing has been charged before (R484, R485, R489). -/
def State.belayVerdict (s : State) (f : Nat) (b : Sample) (t1 t2 cc : Bool) : State :=
  let phys := fun (k : Nat) => physKey (physX f k) (physY f k)
  let checker := b.checkers.getD (if t1 then 1 else 0) 0
  if t1 && t2 then s
  else if cc && !t1 then
    (((s.satReg F.FLD_BLY_CNT_MISMATCH f).blyFault f b.key Code.blyMismatch b.vu 0 true).charge 0 (phys b.key)).retestDue f b.key 1
      b.key
  else if t1 || t2 then
    ((s.satReg F.FLD_BLY_CNT_CHECKER f).blyFault f checker Code.blyChecker b.vu 2 false).charge 1 (phys checker)
  else (b.key :: b.checkers).foldl (fun s k => s.retestDue f k 2 b.key)
    ((s.satReg F.FLD_BLY_CNT_MISMATCH f).blyFault f b.key Code.blyMismatch b.vu 1 true)

theorem State.sampleEnded_field (s : State) (f : Nat) (b : Sample) : ∃ ts, (s.sampleEnded f b).field f =
    { s.field f with tiles := ts, belay := (s.field f).belay.filter (fun x => x ≠ b) } := by
  obtain ⟨ts, hts⟩ := State.changeTiles_field (s.updField f (fun g => { g with belay := g.belay.filter (fun x => x ≠ b) })) f
    (b.key :: b.checkers) (Tile.tapped 0 0)
  exact ⟨ts, hts.trans (by rw [State.field_updField_same])⟩

theorem State.sampleEnded_parts (s : State) (f : Nat) (b : Sample) : (s.sampleEnded f b).mask 16 = s.mask 16 :=
  (State.changeTiles_parts ..).trans (State.updField_parts ..)

theorem State.sampleEnded_role (s : State) (f : Nat) (b : Sample) {x : Nat} (hx : x ∈ b.key :: b.checkers) :
    ((s.sampleEnded f b).tile f x).reg F.BLY_TAP_ROLE = 0 :=
  State.changeTiles_tile_mem (p := fun t => t.reg F.BLY_TAP_ROLE = 0) (Tile.tapped_role 0 0) _ hx

/-- The sample of a field ends, compared as a whole. -/
def State.sampleCompared (s : State) (f : Nat) (b : Sample) : State := (s.sampleEnded f b).comparisonCounted f b.checkers

theorem State.sampleCompared_parts (s : State) (f : Nat) (b : Sample) : (s.sampleCompared f b).mask 24 = s.mask 24 :=
  calc (s.sampleCompared f b).mask 24
    _ = ((s.sampleEnded f b).addReg F.FLD_BLY_CNT_COMPARED f).mask 24 :=
      mask_foldl _ _ (fun _ _ => State.setTile_parts ..) _ _
    _ = (s.sampleEnded f b).mask 24 := State.addReg_parts ..
    _ = (s.updField f (fun g => { g with belay := g.belay.filter (fun x => x ≠ b) })).mask 24 :=
      mask_foldl _ _ (fun _ _ => State.setTile_parts ..) _ _
    _ = s.mask 24 := State.updField_parts ..

theorem State.sampleCompared_field (s : State) (f : Nat) (b : Sample) : ∃ ts, (s.sampleCompared f b).field f =
    { s.field f with tiles := ts, belay := (s.field f).belay.filter (fun x => x ≠ b) } := by
  obtain ⟨us, hus⟩ := s.sampleEnded_field f b
  obtain ⟨ts, hts⟩ := State.changeTiles_field ((s.sampleEnded f b).addReg F.FLD_BLY_CNT_COMPARED f) f b.checkers
    (fun t => t.count 7 1)
  have hcounted : ((s.sampleEnded f b).addReg F.FLD_BLY_CNT_COMPARED f).field f = (s.sampleEnded f b).field f := rfl
  exact ⟨ts, hts.trans (by rw [hcounted, hus])⟩

theorem State.sampleCompared_role (s : State) (f : Nat) (b : Sample) {x : Nat} (hx : x ∈ b.key :: b.checkers) :
    ((s.sampleCompared f b).tile f x).reg F.BLY_TAP_ROLE = 0 :=
  State.changeTiles_tile_keeps (p := fun t => t.reg F.BLY_TAP_ROLE = 0) (fun t ht => (t.count_role 7 1).trans ht)
    ((s.sampleEnded f b).addReg F.FLD_BLY_CNT_COMPARED f) b.checkers (s.sampleEnded_role f b hx)

theorem State.sampleCompared_counted (s : State) (f : Nat) (b : Sample) :
    (s.sampleCompared f b).reg F.FLD_BLY_CNT_COMPARED f = (s.reg F.FLD_BLY_CNT_COMPARED f + 1) % 2 ^ 32 := by
  have hcount : (s.sampleCompared f b).regs = ((s.sampleEnded f b).addReg F.FLD_BLY_CNT_COMPARED f).regs :=
    Part.same_of_mask .regs (State.changeTiles_parts ..) (by decide)
  have hend : (s.sampleEnded f b).regs = s.regs := Part.same_of_mask .regs (s.sampleEnded_parts f b) (by decide)
  rw [State.reg_eq _ _ hcount, State.addReg, State.reg_setReg_same, State.reg_eq _ _ hend]
  rfl

section Compare
variable {s : State} {f : Fin 48} {row : Fin 132} {b : Sample} (hbelay : (s.field f.val).belay = [b]) (hrow : b.row = row.val)
  (hlen : b.checkers.length = 2) (hcharges : s.log.charges = [])
include hbelay hrow hlen hcharges

theorem execBelayCompare_two (cut t1 t2 cc : Bool) : execBelayCompare f row cut t1 t2 cc s = .next (
    if cut || !(s.field f.val).live then s.sampleEnded f.val b else (s.sampleCompared f.val b).belayVerdict f.val b t1 t2 cc) := by
  have hfind : (s.field f.val).belay.find? (fun b => b.row = row.val) = some b := by simp [hbelay, hrow]
  unfold execBelayCompare
  split
  case h_1 hnone => rw [hfind] at hnone; cases hnone
  case h_2 b' hb' =>
    obtain rfl : b = b' := Option.some.inj (hfind.symm.trans hb')
    extract_lets idle sEnded sIdle sCount sCompared two unit phys nTile sTile sTileCharged checker nChecker sChecker sCheckerCharged
      sSplit
    have hidle : sIdle = s.sampleEnded f.val b := rfl
    have hcompared : sCompared = s.sampleCompared f.val b := rfl
    have htwo : two = true := by simp [two, hlen]
    have hlog : sCompared.log = s.log := by
      rw [hcompared]
      exact Part.same_of_mask .log (s.sampleCompared_parts f.val b) (by decide)
    have hnone : ∀ kind k, sCompared.chargesOf kind k = 0 := fun kind k => by simp [State.chargesOf, hlog, hcharges]
    have hlive : (sIdle.field f.val).live = (s.field f.val).live := by
      obtain ⟨ts, hts⟩ := s.sampleEnded_field f.val b
      rw [hidle, hts]
    have hverdict : (if (t1 && (t2 || !two)) = true then Host.Outcome.next sCompared else
        if (two && cc && !t1) = true then .next (if 0 < nTile then sTileCharged.permanent f.val b.key unit
          else sTileCharged.retestDue f.val b.key 1 b.key)
        else if (two && (t1 || t2)) = true then .next (if 0 < nChecker then sCheckerCharged.permanent f.val checker unit
          else sCheckerCharged)
        else .next ((b.key :: b.checkers).foldl (fun s k => s.retestDue f.val k 2 b.key) sSplit)) =
        (Host.Outcome.next (sCompared.belayVerdict f.val b t1 t2 cc) : Res) := by
      have hTile : ¬ 0 < nTile := Nat.not_lt.2 (hnone 0 (phys b.key)).le
      have hChecker : ¬ 0 < nChecker := Nat.not_lt.2 (hnone 1 (phys checker)).le
      rw [htwo, if_neg hTile, if_neg hChecker]
      cases t1 <;> cases t2 <;> cases cc <;> rfl
    rw [hlive, hverdict, hidle, hcompared]
    split <;> rfl

end Compare

/-! ### What a verdict leaves unchanged -/

/-- The places of the tiles and the count of whole comparisons of a field are the same in two states. -/
structure State.SameTiles (s t : State) (f : Nat) : Prop where
  fields : t.fields = s.fields
  fuse : t.fuse = s.fuse
  crev : t.log.crev = s.log.crev
  compared : t.reg F.FLD_BLY_CNT_COMPARED f = s.reg F.FLD_BLY_CNT_COMPARED f

section SameTiles
variable {s t u : State} {f : Nat}

theorem State.SameTiles.trans (h : s.SameTiles t f) (h' : t.SameTiles u f) : s.SameTiles u f :=
  ⟨h'.fields.trans h.fields, h'.fuse.trans h.fuse, h'.crev.trans h.crev, h'.compared.trans h.compared⟩

theorem State.SameTiles.tile (h : s.SameTiles t f) (g key : Nat) : t.tile g key = s.tile g key :=
  State.tile_of_places h.fields h.fuse h.crev g key

/-- The other counters of the belay leave the count of whole comparisons alone. -/
theorem State.satReg_sameTiles (s : State) {g : Fld} (hkey : F.FLD_BLY_CNT_COMPARED.key f 0 ≠ g.key f 0) :
    s.SameTiles (s.satReg g f) f := ⟨rfl, rfl, rfl, State.reg_setReg_other _ _ _ _ _ _ _ _ hkey⟩

theorem State.blyFault_sameTiles (s : State) (key code : Nat) (vu : Bool) (vote : Nat) (trig : Bool) :
    s.SameTiles (s.blyFault f key code vu vote trig) f := by
  cases trig <;> exact ⟨rfl, rfl, rfl, rfl⟩

theorem State.charge_sameTiles (s : State) (kind k : Nat) : s.SameTiles (s.charge kind k) f := ⟨rfl, rfl, rfl, rfl⟩

theorem State.retestDue_sameTiles (s : State) (key why sampled : Nat) : s.SameTiles (s.retestDue f key why sampled) f := by
  unfold State.retestDue
  split <;> exact ⟨rfl, rfl, rfl, rfl⟩

theorem State.retestsDue_sameTiles (s : State) (keys : List Nat) (why sampled : Nat) :
    s.SameTiles (keys.foldl (fun s k => s.retestDue f k why sampled) s) f := by
  induction keys generalizing s with
  | nil => exact ⟨rfl, rfl, rfl, rfl⟩
  | cons k keys ih => exact (s.retestDue_sameTiles k why sampled).trans (ih _)

end SameTiles

/-- A fault of the belay is reported once. -/
theorem State.blyFault_reports1 (s : State) (f key code : Nat) (vu : Bool) (vote : Nat) (trig : Bool) :
    s.reports1 (s.blyFault f key code vu vote trig) code := by
  cases trig <;> exact ⟨_, rfl, rfl⟩

/-- A retest that becomes due is due. -/
theorem State.mem_retestDue (s : State) (f key why sampled : Nat) :
    ∃ r, r ∈ (s.retestDue f key why sampled).log.retests ∧ r.field = f ∧ r.key = key := by
  unfold State.retestDue
  split
  · next hany => simpa using hany
  · exact ⟨⟨f, key, why, sampled⟩, List.mem_append_right _ (List.mem_singleton_self _), rfl, rfl⟩

section Verdict
variable (s : State) (f : Nat) (b : Sample)

theorem State.belayVerdict_sameTiles (t1 t2 cc : Bool) : s.SameTiles (s.belayVerdict f b t1 t2 cc) f := by
  have hmismatch : F.FLD_BLY_CNT_COMPARED.key f 0 ≠ F.FLD_BLY_CNT_MISMATCH.key f 0 := Fld.key_ne_of_lo f 0 rfl rfl rfl (by decide)
  have hchecker : F.FLD_BLY_CNT_COMPARED.key f 0 ≠ F.FLD_BLY_CNT_CHECKER.key f 0 := Fld.key_ne_of_lo f 0 rfl rfl rfl (by decide)
  unfold State.belayVerdict
  extract_lets phys checker
  split
  · exact ⟨rfl, rfl, rfl, rfl⟩
  · split
    · exact (((s.satReg_sameTiles hmismatch).trans (State.blyFault_sameTiles ..)).trans (State.charge_sameTiles ..)).trans
        (State.retestDue_sameTiles ..)
    · split
      · exact ((s.satReg_sameTiles hchecker).trans (State.blyFault_sameTiles ..)).trans (State.charge_sameTiles ..)
      · exact ((s.satReg_sameTiles hmismatch).trans (State.blyFault_sameTiles ..)).trans (State.retestsDue_sameTiles ..)

theorem State.belayVerdict_agree (cc : Bool) : s.belayVerdict f b true true cc = s := rfl

theorem State.belayVerdict_mismatch (t2 : Bool) : s.reports1 (s.belayVerdict f b false t2 true) Code.blyMismatch ∧
    (s.belayVerdict f b false t2 true).run.invalid = true ∧
    ∃ r, r ∈ (s.belayVerdict f b false t2 true).log.retests ∧ r.field = f ∧ r.key = b.key := by
  have hverdict : s.belayVerdict f b false t2 true = ((((s.satReg F.FLD_BLY_CNT_MISMATCH f).blyFault f b.key Code.blyMismatch
    b.vu 0 true).charge 0 (physKey (physX f b.key) (physY f b.key))).retestDue f b.key 1 b.key) := rfl
  obtain ⟨r, hr, hcode⟩ := State.blyFault_reports1 (s.satReg F.FLD_BLY_CNT_MISMATCH f) f b.key Code.blyMismatch b.vu 0 true
  rw [hverdict]
  generalize hu : ((s.satReg F.FLD_BLY_CNT_MISMATCH f).blyFault f b.key Code.blyMismatch b.vu 0 true).charge 0
    (physKey (physX f b.key) (physY f b.key)) = u
  have hkept : (u.retestDue f b.key 1 b.key).mask 32768 = u.mask 32768 := State.retestDue_parts ..
  refine ⟨⟨r, ?_, hcode⟩, ?_, State.mem_retestDue ..⟩
  · rw [(Part.same_of_mask .reports hkept (by decide) : (u.retestDue f b.key 1 b.key).reports = u.reports), ← hu]
    exact hr
  · rw [(Part.same_of_mask .run hkept (by decide) : (u.retestDue f b.key 1 b.key).run = u.run), ← hu]
    rfl

theorem State.belayVerdict_checker {t1 t2 : Bool} (h : t1 ≠ t2) : s.reports1 (s.belayVerdict f b t1 t2 false) Code.blyChecker ∧
    (s.belayVerdict f b t1 t2 false).run = s.run := by
  have hverdict : ∃ x, s.belayVerdict f b t1 t2 false = ((s.satReg F.FLD_BLY_CNT_CHECKER f).blyFault f x Code.blyChecker b.vu 2
      false).charge 1 (physKey (physX f x) (physY f x)) := by
    refine ⟨b.checkers.getD (if t1 then 1 else 0) 0, ?_⟩
    cases t1 <;> cases t2
    · exact absurd rfl h
    · rfl
    · rfl
    · exact absurd rfl h
  obtain ⟨x, hx⟩ := hverdict
  rw [hx]
  exact ⟨State.blyFault_reports1 (s.satReg F.FLD_BLY_CNT_CHECKER f) f x Code.blyChecker b.vu 2 false, rfl⟩

theorem State.belayVerdict_split : s.reports1 (s.belayVerdict f b false false false) Code.blyMismatch ∧
    (s.belayVerdict f b false false false).run.invalid = true := by
  have hkept : (s.belayVerdict f b false false false).mask 32768 =
      ((s.satReg F.FLD_BLY_CNT_MISMATCH f).blyFault f b.key Code.blyMismatch b.vu 1 true).mask 32768 :=
    mask_foldl _ _ (fun _ _ => State.retestDue_parts ..) (b.key :: b.checkers) _
  obtain ⟨r, hr, hcode⟩ := State.blyFault_reports1 (s.satReg F.FLD_BLY_CNT_MISMATCH f) f b.key Code.blyMismatch b.vu 1 true
  exact ⟨⟨r, (Part.same_of_mask .reports hkept (by decide)).trans hr, hcode⟩,
    congrArg Run.invalid (Part.same_of_mask .run hkept (by decide) :)⟩

end Verdict

/-- A sample that finds no section to come counts as idle. -/
theorem State.sampleTaken_idle (s : State) (f row : Nat) :
    (((s.sampleTaken f row).satReg F.FLD_BLY_CNT_IDLE f).field f).samples.get 0 row = (s.field f).samples.get 0 row + 1 ∧
    ((s.sampleTaken f row).satReg F.FLD_BLY_CNT_IDLE f).reg F.FLD_BLY_CNT_IDLE f = satAdd 16 (s.reg F.FLD_BLY_CNT_IDLE f) 1 ∧
    (((s.sampleTaken f row).satReg F.FLD_BLY_CNT_IDLE f).field f).belay = (s.field f).belay := by
  have hfield : ((s.sampleTaken f row).satReg F.FLD_BLY_CNT_IDLE f).field f = (s.sampleTaken f row).field f := rfl
  have hcount := SMap.get_set_same 0 (s.field f).samples row ((s.field f).samples.get 0 row + 1)
  have hlt : satAdd 16 (s.reg F.FLD_BLY_CNT_IDLE f) 1 < 2 ^ 16 := by unfold satAdd; omega
  rw [hfield, s.sampleTaken_field]
  exact ⟨hcount, (State.reg_setReg_same ..).trans (Nat.mod_eq_of_lt hlt), rfl⟩

/-- The comparison leaves no sample under way and the taps idle. -/
theorem State.sampleDone_of_sameTiles {s t : State} {f : Nat} {b : Sample} (hbelay : (s.field f).belay = [b])
    (h : (s.sampleCompared f b).SameTiles t f) : (t.field f).belay = [] ∧
    (∀ x, x ∈ b.key :: b.checkers → (t.tile f x).reg F.BLY_TAP_ROLE = 0) ∧
    t.reg F.FLD_BLY_CNT_COMPARED f = (s.reg F.FLD_BLY_CNT_COMPARED f + 1) % 2 ^ 32 := by
  obtain ⟨ts, hts⟩ := s.sampleCompared_field f b
  have hfield : t.field f = (s.sampleCompared f b).field f := by rw [State.field, h.fields]; rfl
  refine ⟨?_, fun x hx => ?_, h.compared.trans (s.sampleCompared_counted f b)⟩
  · rw [hfield, hts]
    simp [hbelay]
  · rw [h.tile]
    exact s.sampleCompared_role f b hx

theorem State.sampleEnded_done {s : State} {f : Nat} {b : Sample} (hbelay : (s.field f).belay = [b]) :
    ((s.sampleEnded f b).field f).belay = [] ∧
    (∀ x, x ∈ b.key :: b.checkers → ((s.sampleEnded f b).tile f x).reg F.BLY_TAP_ROLE = 0) := by
  obtain ⟨ts, hts⟩ := s.sampleEnded_field f b
  refine ⟨?_, fun x hx => s.sampleEnded_role f b hx⟩
  rw [hts]
  simp [hbelay]

/-- A comparison that counts leaves the run, the reports and the logbook to its verdict. -/
theorem State.sampleCompared_kept (s : State) (f : Nat) (b : Sample) : (s.sampleCompared f b).reports = s.reports ∧
    (s.sampleCompared f b).run = s.run ∧ (s.sampleCompared f b).log = s.log := by
  have hparts := s.sampleCompared_parts f b
  exact ⟨Part.same_of_mask .reports hparts (by decide), Part.same_of_mask .run hparts (by decide),
    Part.same_of_mask .log hparts (by decide)⟩

section Settled
variable {s : State} {f : Fin 48} {row : Fin 132}

theorem belaySample_taps {k key : Nat} (hint : s.belayInterval ≠ 0) (hmode : s.mode f.val = 2)
    (hlive : (s.field f.val).live = true) (hdue : s.acyc % s.belayInterval = 17 * row.val % s.belayInterval)
    (hfree : s.freeSpares f.val row.val ≠ []) (hnone : ∀ b, b ∈ (s.field f.val).belay → b.row ≠ row.val)
    (hrow : (s.position f.val (physOf (s.crev f.val).cols 0 + 132 * row.val)).isSome = true)
    (hk : k = (s.field f.val).samples.get 0 row.val) (hkey : key = physOf (s.crev f.val).cols (k % 128) + 132 * row.val)
    (hplace : (s.position f.val key).isSome = true) : ∃ t b, execBelaySample f row true s = .next t ∧
      (t.field f.val).samples.get 0 row.val = k + 1 ∧
      (t.field f.val).belay = (s.field f.val).belay ++ [b] ∧ b.row = row.val ∧ b.key = key ∧
      b.vu = decide (k / 128 % 2 = 1) ∧ b.checkers ≠ [] ∧ b.checkers.length ≤ 2 ∧
      (∀ x, x ∈ b.checkers → x ∈ s.freeSpares f.val row.val ∧ (t.tile f.val x).reg F.BLY_TAP_ROLE = 2) ∧
      (t.tile f.val key).reg F.BLY_TAP_ROLE = 1 := by
  have hexec := execBelaySample_due hint hmode hlive hdue hfree hnone hrow true
  rw [← hk, ← hkey] at hexec
  have hother : key ∉ belayCheckers (s.freeSpares f.val row.val) k := fun h => by
    have hspare := State.position_of_freeSpare (mem_of_mem_belayCheckers h)
    rw [hspare] at hplace
    cases hplace
  obtain ⟨ts, hfield⟩ := s.sampleTapped_field f.val row.val key (decide (k / 128 % 2 = 1))
    (belayCheckers (s.freeSpares f.val row.val) k)
  obtain ⟨hsource, hcheckers⟩ := s.sampleTapped_tile f.val row.val key (decide (k / 128 % 2 = 1)) hother
  refine ⟨_, ⟨row.val, key, decide (k / 128 % 2 = 1), belayCheckers (s.freeSpares f.val row.val) k⟩, hexec, ?_, ?_, rfl, rfl, rfl,
    belayCheckers_ne_nil k hfree, belayCheckers_length _ k, fun x hx => ⟨mem_of_mem_belayCheckers hx, hcheckers x hx⟩, hsource⟩
  · refine (congrArg (fun g : FieldSt => g.samples.get 0 row.val) hfield).trans ?_
    rw [← hk]
    exact SMap.get_set_same 0 (s.field f.val).samples row.val (k + 1)
  · exact congrArg FieldSt.belay hfield

end Settled

/-- Settles O45: a sample by its taps, tile after tile, and a comparison by its verdict, which leaves the tiles alone. -/
theorem belaySamplesAreCompared : Obligations.BelaySamplesAreCompared := by
  refine ⟨fun s f row found k key hint hmode hlive _ hdue hfree hnone hk hkey hplace hrow => ⟨fun hfound => ?_, fun hfound => ?_⟩,
    fun s f row cut t1 t2 cc b hbelay hrow hlen hcharges => ?_⟩
  · obtain ⟨hsamples, hidle, hbelay⟩ := s.sampleTaken_idle f.val row.val
    subst hfound
    exact ⟨_, execBelaySample_due hint hmode hlive hdue hfree hnone hrow false, by rw [hk]; exact hsamples, hidle, hbelay⟩
  · subst hfound
    exact belaySample_taps hint hmode hlive hdue hfree hnone hrow hk hkey hplace
  · have hexec := execBelayCompare_two hbelay hrow hlen hcharges cut t1 t2 cc
    have hsame := (s.sampleCompared f.val b).belayVerdict_sameTiles f.val b t1 t2 cc
    obtain ⟨hdone, htaps, hcounted⟩ := State.sampleDone_of_sameTiles hbelay hsame
    obtain ⟨hreports, hrun, hlog⟩ := s.sampleCompared_kept f.val b
    by_cases hwhole : cut = false ∧ (s.field f.val).live = true
    · obtain ⟨rfl, hlive⟩ := hwhole
      rw [hlive, if_neg (by decide)] at hexec
      refine ⟨_, hexec, hdone, htaps, nofun, fun _ _ => ⟨hcounted, ?_, ?_, ?_, ?_⟩⟩
      · rintro rfl rfl
        rw [State.belayVerdict_agree]
        exact ⟨hreports, hrun, hlog⟩
      · rintro rfl rfl
        have hmismatch := (s.sampleCompared f.val b).belayVerdict_mismatch f.val b t2
        rwa [State.reports1, hreports] at hmismatch
      · rintro hne rfl
        have hchecker := (s.sampleCompared f.val b).belayVerdict_checker f.val b hne
        rwa [State.reports1, hreports, hrun] at hchecker
      · rintro rfl rfl rfl
        have hsplit := (s.sampleCompared f.val b).belayVerdict_split f.val b
        rwa [State.reports1, hreports] at hsplit
    · have hcut : (cut || !(s.field f.val).live) = true := by
        cases cut
        · simpa using hwhole
        · rfl
      rw [if_pos hcut] at hexec
      obtain ⟨hended, hidle⟩ := State.sampleEnded_done hbelay
      have hparts := s.sampleEnded_parts f.val b
      exact ⟨_, hexec, hended, hidle,
        fun _ => ⟨Part.same_of_mask .reports hparts (by decide), Part.same_of_mask .run hparts (by decide)⟩,
        fun hzero hlive => absurd ⟨hzero, hlive⟩ hwhole⟩

end Sys2Proof.Machine

/-!
PROOFS. The statement of spec 09_ropes about reports, lost members and cairns.
-/

namespace Sys2Proof.Machine

/-! ### The number of the next cell (R255)

The transit ring leaves the number alone, so a cell sent uses up one number. -/

section Number
variable (s : State)

theorem State.passed_nextCell (stop : Nat) : (s.passed stop).bcl.nextCell = s.bcl.nextCell := by
  unfold State.passed
  split <;> rfl

theorem State.ringDrop_nextCell (stop : Nat) : (s.ringDrop stop).bcl.nextCell = s.bcl.nextCell := by
  unfold State.ringDrop
  split <;> rfl

theorem State.replyPut_nextCell (stop : Nat) (d : Dyn) : (s.replyPut stop d).bcl.nextCell = s.bcl.nextCell := by
  unfold State.replyPut
  split
  · rfl
  · rfl
  · exact State.ringDrop_nextCell _ _

theorem State.ringLeave_nextCell (x : RingItem) : (s.ringLeave x).bcl.nextCell = s.bcl.nextCell := by
  unfold State.ringLeave
  split
  · split <;> rfl
  · split
    · exact State.passed_nextCell _ _
    · split
      · split
        · exact State.replyPut_nextCell _ _ _
        · exact State.ringDrop_nextCell _ _
      · exact State.ringDrop_nextCell _ _

theorem State.ringMove_nextCell (x : RingItem) (rest : List RingItem) : (s.ringMove x rest).bcl.nextCell = s.bcl.nextCell := by
  by_cases h : x.stop = x.to_
  · rw [s.ringMove_last rest h]
    exact State.ringLeave_nextCell _ _
  · rw [s.ringMove_on rest h]
    rfl

theorem State.ringRun_nextCell (n : Nat) : (s.ringRun n).bcl.nextCell = s.bcl.nextCell := by
  induction n generalizing s with
  | zero => rfl
  | succ n ih =>
    unfold State.ringRun
    split
    · rfl
    · exact (ih _).trans (State.ringMove_nextCell ..)

theorem State.cellStart_nextCell (stop i : Nat) (c : Cell) : (s.cellStart stop i c).bcl.nextCell = s.bcl.nextCell := by
  unfold State.cellStart
  split
  · exact State.ringRun_nextCell ..
  · dsimp only
    split <;> exact State.ringRun_nextCell ..

theorem State.sendCell_nextCell (dst type : Nat) (body : List Nat) :
    (s.sendCell dst type body).bcl.nextCell = (s.bcl.nextCell + 1) % 2 ^ 16 := by
  unfold State.sendCell
  dsimp only
  split
  · exact State.ringRun_nextCell ..
  · split
    · rfl
    · exact State.cellStart_nextCell ..

end Number

theorem State.sendCell_rope (s : State) (dst type : Nat) (body : List Nat) : (s.sendCell dst type body).rope = s.rope :=
  Part.same_of_mask .rope (State.sendCell_parts (M := 33947656) ..) (by decide)

/-! ### UP_REPORT (R301) -/

/-- A member that is no anchor and has a parent reports (R301). -/
structure State.HasParent (s : State) : Prop where
  solo : s.solo = false
  anchor : s.isAnchor = false
  state : s.reg F.BC_ROPE_STATUS_STATE ≠ 0
  port : s.reg F.BC_ROPE_STATUS_TPORT ≠ 7
  runs : s.trust.halted = false

theorem State.HasParent.guard {s : State} (h : s.HasParent) : (s.solo || s.isAnchor || s.reg F.BC_ROPE_STATUS_STATE = 0 ||
    s.reg F.BC_ROPE_STATUS_TPORT = 7 || s.trust.halted) = false := by
  simp [h.solo, h.anchor, h.state, h.port, h.runs]

/-- A report to the parent, noted (R301). -/
def State.reported (s : State) (b : List Nat) : State :=
  { s with rope := { s.rope with upAt := s.acyc, upCleared := s.subtreeCleared } }.sendCell
    (s.rdesc.next s.own (s.reg F.BC_ROPE_STATUS_TPORT)) 0x01 b

theorem State.reported_nextCell (s : State) (b : List Nat) : (s.reported b).bcl.nextCell = (s.bcl.nextCell + 1) % 2 ^ 16 :=
  State.sendCell_nextCell ..

theorem State.reported_rope (s : State) (b : List Nat) :
    (s.reported b).rope = { s.rope with upAt := s.acyc, upCleared := s.subtreeCleared } := State.sendCell_rope ..

theorem execUpReport_bad {s : State} {code acyc origin : Nat} (h : s.HasParent) (hbad : s.rope.bad = some (code, acyc, origin))
    (hsent : s.rope.badSent = false) : ∃ t, execUpReport s = .next t ∧ t.rope.badSent = true ∧ t.rope.bad = s.rope.bad ∧
      t.bcl.nextCell = (s.bcl.nextCell + 1) % 2 ^ 16 := by
  refine ⟨{ s.reported (s.upBytes 1 code acyc origin) with rope := { s.rope with badSent := true, upAt := s.acyc } }, ?_, rfl, rfl,
    s.reported_nextCell _⟩
  unfold execUpReport
  extract_lets st parent send
  rw [if_neg (by rw [h.guard]; decide), hbad, hsent]
  rfl

theorem execUpReport_cleared {s : State} (h : s.HasParent) (hstate : s.reg F.BC_ROPE_STATUS_STATE = 4) (hbad : s.rope.bad = none)
    (hrisen : s.rope.upCleared < s.subtreeCleared) (hlate : s.rope.upAt + 4096 ≤ s.acyc) : ∃ t, execUpReport s = .next t ∧
      t.rope.upAt = s.acyc ∧ t.rope.upCleared = s.subtreeCleared ∧ t.bcl.nextCell = (s.bcl.nextCell + 1) % 2 ^ 16 := by
  have hrope := s.reported_rope (s.upBytes 0 0 0 0)
  refine ⟨s.reported (s.upBytes 0 0 0 0), ?_, by rw [hrope], by rw [hrope], s.reported_nextCell _⟩
  unfold execUpReport
  extract_lets st parent send
  have hst : st = 4 := hstate
  rw [if_neg (by rw [h.guard]; decide), hbad]
  simp only [hst]
  rw [if_neg (by decide), if_pos (by simp [hrisen, hlate])]
  rfl

/-! ### UP (R301, R313) -/

/-- A child as its parent notes it after a report (R301). -/
def Child.noted (k : Child) (acyc : Nat) (b : List Nat) : Child :=
  let set := (if bitOf (leAt b 22 1) 0 then [(leAt b 36 8, bitOf (leAt b 23 1) 0)] else []) ++
    (if bitOf (leAt b 22 1) 1 then [(leAt b 44 8, bitOf (leAt b 23 1) 1)] else [])
  { k with
    lastUp := acyc
    cleared := leAt b 4 8
    counted := leAt b 24 4
    captured := optEpoch (leAt b 28 8)
    ready := if leAt b 1 1 = 2 then true else if leAt b 1 1 = 3 then false else k.ready
    slots := if 2 ≤ leAt b 1 1 then set else k.slots }

/-- The parent's children after a report of one of them. -/
def State.childNoted (s : State) (c : Cell) : State :=
  let s : State := { s with rope := { s.rope with
    children := s.rope.children.map (fun k => if k.coord ≠ c.src then k else k.noted s.acyc c.body) } }
  s.setReg F.BC_ROPE_STATUS_MEMBERS (min 0xFFFF s.subtreeCount)

theorem State.mem_childNoted {s : State} {c : Cell} {k : Child} (hk : k ∈ s.rope.children) (hcoord : k.coord = c.src) :
    k.noted s.acyc c.body ∈ (s.childNoted c).rope.children :=
  List.mem_map.2 ⟨k, hk, by rw [if_neg (by simp [hcoord])]⟩

theorem execUp_noted {s : State} {p : Nat} {c : Cell} {r : List (Nat × Cell)} {k : Child} (hcells : s.bcl.cells = (p, c) :: r)
    (htype : c.type = 1) (hsub : leAt c.body 0 1 = 4) (hrope : s.inRope = true) (hk : k ∈ s.rope.children)
    (hcoord : k.coord = c.src) (hstatus : leAt c.body 1 1 ≠ 1) : execUp s = .next ((s.cellsLeft r).childNoted c) := by
  have hchild : ((s.cellsLeft r).rope.children.any (fun k => k.coord = c.src)) = true :=
    List.any_eq_true.2 ⟨k, hk, decide_eq_true hcoord⟩
  have hrope' : (s.cellsLeft r).inRope = true := hrope
  rw [execUp, State.takeCell_first hcells (by simp [htype, hsub])]
  simp only [hrope', hchild, Bool.not_true, Bool.or_self, Bool.false_eq_true, if_false, if_neg hstatus]
  rfl

/-! ### MEMBER_LOST (R301, R314) -/

theorem execMemberLost_triggers {s : State} {k : Child} (hrope : s.inRope = true) (hstate : s.ropeState = 4)
    (hanchor : s.isAnchor = false) (hk : k ∈ s.rope.children) (hlate : k.lastUp + 131072 ≤ s.acyc) (hbad : s.rope.bad = none) :
    ∃ t, execMemberLost s = .next t ∧ t.rope.bad = some (7, s.acyc, s.own) ∧ t.rope.badSent = false := by
  have hlost : s.rope.children.any (fun k => decide (k.lastUp + 131072 ≤ s.acyc)) = true :=
    List.any_eq_true.2 ⟨k, hk, decide_eq_true hlate⟩
  have hfirst : (s.holdLow s.acyc).rope.bad.isSome = false := by
    rw [show (s.holdLow s.acyc).rope.bad = s.rope.bad from rfl, hbad]
    rfl
  have hmember : ({ s.holdLow s.acyc with rope := { (s.holdLow s.acyc).rope with
      bad := some (7, s.acyc, s.own), badSent := false } } : State).isAnchor = false := hanchor
  refine ⟨_, by rw [execMemberLost, if_neg (by simp [hrope, hstate, hlost])], ?_⟩
  unfold State.trigger
  extract_lets sLow sBad
  rw [if_neg (by simp [hstate]), hfirst, if_neg (by decide), hmember, if_neg (by decide)]
  exact ⟨rfl, rfl⟩

/-! ### Engines of streams (R296) -/

/-- The engine of a stream is of that stream and of the invocation it is asked for. -/
theorem State.engine_of (s : State) (n q : Nat) : (s.engine n q).entry = n ∧ (s.engine n q).seqNo = q := by
  unfold State.engine
  cases h : s.rope.engines.find? (fun e => e.entry = n && e.seqNo = q) with
  | none => exact ⟨rfl, rfl⟩
  | some e => simpa using List.find?_some h

/-- An engine written is read under its stream and its invocation. -/
theorem State.engine_setEngine (s : State) (e : Engine) : (s.setEngine e).engine e.entry e.seqNo = e := by
  simp [State.engine, State.setEngine]

/-- An engine's stream is settled. -/
def State.settleStream (s : State) (n q : Nat) : State := s.setEngine { s.engine n q with done := true }

theorem State.settleStream_engine (s : State) (n q : Nat) : (s.settleStream n q).engine n q = { s.engine n q with done := true } := by
  obtain ⟨hentry, hseq⟩ := s.engine_of n q
  have hread := s.engine_setEngine { s.engine n q with done := true }
  rwa [hentry, hseq] at hread

theorem State.engine_of_rope {s t : State} (h : t.rope = s.rope) (n q : Nat) : t.engine n q = s.engine n q := by
  rw [State.engine, State.engine, h]

theorem State.cairnBad_rope (s : State) (p : Nat) : (s.cairnBad p).rope = s.rope := rfl

theorem execHopSend_sent {s : State} {p : Fin 6} {n : Nat} {d : CairnDef} {i : Inst} (hstate : s.ropeState = 4)
    (hdue : s.hopDue p.val 0 0 = some (n, d, i)) : ∃ t, execHopSend p s = .next t ∧ (t.engine n i.seqNo).done = true ∧
      (t.engine n i.seqNo).lsum = (s.engine n i.seqNo).lsum ∧ t.bcl.nextCell = (s.bcl.nextCell + 1) % 2 ^ 16 := by
  unfold execHopSend
  rw [if_neg (by simp [hstate]), hdue]
  dsimp only
  generalize hu : (if (s.engine n i.seqNo).half.isSome = true then (s.setEngine { s.engine n i.seqNo with done := true }).cairnBad p.val
    else s.setEngine { s.engine n i.seqNo with done := true }) = u
  have hrope : u.rope = (s.settleStream n i.seqNo).rope := by
    subst hu
    split <;> rfl
  have hbcl : u.bcl = s.bcl := by
    subst hu
    split <;> rfl
  refine ⟨_, rfl, ?_, ?_, ?_⟩
  · rw [State.engine_of_rope ((State.sendCell_rope ..).trans hrope), State.settleStream_engine]
  · rw [State.engine_of_rope ((State.sendCell_rope ..).trans hrope), State.settleStream_engine]
  · rw [State.sendCell_nextCell, hbcl]

theorem execCrnMissing_reported {s : State} {p : Fin 6} {n : Nat} {d : CairnDef} {i : Inst} (hstate : s.ropeState = 4)
    (hdue : s.hopDue p.val 1 (s.rdesc.land + 4096) = some (n, d, i)) : ∃ t, execCrnMissing p s = .next t ∧
      (t.engine n i.seqNo).done = true ∧ s.reports1 t Code.crnMissing ∧
      t.reg F.CRN_STAT_MISSING p.val = satAdd 16 (s.reg F.CRN_STAT_MISSING p.val) 1 := by
  refine ⟨((s.settleStream n i.seqNo).satReg F.CRN_STAT_MISSING p.val).portFault p.val Code.crnMissing true, ?_, ?_, ?_, ?_⟩
  · unfold execCrnMissing
    rw [if_neg (by simp [hstate]), hdue]
    rfl
  · exact (congrArg Engine.done (s.settleStream_engine n i.seqNo) :)
  · exact State.reports1_moduleFault _ _ _ _ _ _ _ rfl
  · have hlt : satAdd 16 (s.reg F.CRN_STAT_MISSING p.val) 1 < 2 ^ 16 := by unfold satAdd; omega
    rw [State.portFault_reg, State.satReg, State.reg_setReg_same]
    exact Nat.mod_eq_of_lt hlt

/-! ### HOP (R298) -/

/-- A hop cairn of an IN stream is compared with the engine's (R298). -/
def State.compareHop (s : State) (c : Cell) (d : CairnDef) (q : Nat) : State :=
  let e := s.engine (leAt c.body 1 1) q
  let v := leAt c.body 12 16
  let s := (s.setReg F.CRN_LAST_LO_CAIRN v d.port).setReg F.CRN_LAST_HI_CAIRN (v / 2 ^ 64) d.port
  let s := (s.addReg F.CRN_STAT_CHECKED d.port).setEngine { e with done := true }
  if v = e.cairn (s.rdesc.next s.own d.port) && e.half.isNone then s else s.cairnBad d.port

section Hop
variable {s : State} {p : Nat} {c : Cell} {r : List (Nat × Cell)} {d : CairnDef} {i : Inst} (hcells : s.bcl.cells = (p, c) :: r)
  (htype : c.type = 4)
include hcells htype

theorem execHop_compared (hsub : leAt c.body 0 1 = 1)
    (hdef : s.cairnDefs.find? (fun x => x.1 = leAt c.body 1 1) = some (leAt c.body 1 1, d)) (hinsts : s.rope.insts = [i])
    (hseq : i.seqNo = leAt c.body 4 8) (hsection : d.section_ = i.section_) (hend : streamEnd d i + s.rdesc.land ≤ s.acyc) :
    execHop s = .next ((s.cellsLeft r).compareHop c d i.seqNo) := by
  have hinst : s.rope.insts.find? (fun i => i.seqNo = leAt c.body 4 8 && decide (d.section_ = i.section_)) = some i := by
    simp [hinsts, hseq, hsection]
  unfold execHop
  rw [State.takeCell_first hcells (by simp [htype, hsub])]
  simp only [hdef, hinst, if_neg (Nat.not_lt.2 hend), hseq]
  rfl

end Hop

theorem State.compareHop_effect {s : State} {c : Cell} {d : CairnDef} {q : Nat}
    (hhalf : (s.engine (leAt c.body 1 1) q).half = none) :
    ((s.compareHop c d q).engine (leAt c.body 1 1) q).done = true ∧
    (leAt c.body 12 16 = (s.engine (leAt c.body 1 1) q).cairn (s.rdesc.next s.own d.port) →
      (s.compareHop c d q).reports = s.reports) ∧
    (leAt c.body 12 16 ≠ (s.engine (leAt c.body 1 1) q).cairn (s.rdesc.next s.own d.port) →
      s.reports1 (s.compareHop c d q) Code.crnMismatch) := by
  unfold State.compareHop
  extract_lets e v sLast sDone
  have hengine : sDone.engine (leAt c.body 1 1) q = { e with done := true } := s.settleStream_engine (leAt c.body 1 1) q
  have hown : sDone.own = s.own := by
    have hother : ∀ (t : State) (f : Fld) (v i : Nat), F.HX_TOPO_COORD.key 0 0 ≠ f.key i 0 → (t.setReg f v i).own = t.own :=
      fun _ _ _ _ hkey => State.reg_setReg_other _ _ _ _ _ _ _ _ hkey
    exact ((hother sLast F.CRN_STAT_CHECKED _ _ (by simp; omega)).trans (hother _ F.CRN_LAST_HI_CAIRN _ _ (by simp; omega))).trans
      (hother s F.CRN_LAST_LO_CAIRN _ _ (by simp; omega))
  have hrdesc : sDone.rdesc = s.rdesc := rfl
  have hreports : sDone.reports = s.reports := rfl
  have hnone : e.half = none := hhalf
  rw [hrdesc, hown, hnone]
  clear_value sDone
  by_cases hequal : v = e.cairn (s.rdesc.next s.own d.port)
  · rw [if_pos (by simp [hequal])]
    exact ⟨congrArg Engine.done hengine, fun _ => hreports, fun hne => absurd hequal hne⟩
  · rw [if_neg (by simp [hequal])]
    refine ⟨(congrArg Engine.done ((State.engine_of_rope (sDone.cairnBad_rope d.port) _ _).trans hengine) :),
      fun heq => absurd heq hequal, fun _ => ?_⟩
    exact State.reports1_moduleFault _ _ _ _ _ _ _ hreports

/-! ### Windows of sums (R299) -/

/-- A member without cairn streams has a δ of zero. -/
theorem State.ownDelta_of_no_cairns {s : State} (h : s.cairnDefs = []) (j : Nat) : s.ownDelta j = 0 := by
  simp [State.ownDelta, h]

/-- The sum of a window over the children of a member without cairn streams. -/
def State.kidsSum (s : State) (j : Nat) : Nat := (s.windowKids j).foldl (fun a w => (a + w.2.1) % cairnP) 0

/-- The windows up to one are settled. -/
def State.windowClosed (s : State) (j : Nat) : State :=
  { s with rope := { s.rope with verified := j + 1, windows := s.rope.windows.filter (fun w => decide (j < w.j)) } }

/-- A window that does not sum to zero stays to be verified, and is reported. -/
def State.windowBad (s : State) (j : Nat) : State :=
  ({ (s.windowClosed j).setReg F.BC_ROPE_CRN_MM 1 with rope := { (s.windowClosed j).rope with verified := j } }.setReg
    F.BC_ROPE_CRN_DELTA 0).moduleFault 5 Code.crnMismatch 0 j true

theorem State.settleWindow_anchor {s : State} (hanchor : s.isAnchor = true) (hstate : s.ropeState = 4) (hsums : s.rope.sums = true)
    (hdue : s.windowDue s.rope.verified = true) (hdefs : s.cairnDefs = [])
    (hall : (s.windowKids s.rope.verified).foldl (fun n w => n + w.2.2) 1 = s.rdesc.size) : s.settleWindow =
      if s.kidsSum s.rope.verified = 0 then (s.windowClosed s.rope.verified).setReg F.BC_ROPE_CRN_DELTA 0
      else s.windowBad s.rope.verified := by
  unfold State.settleWindow
  extract_lets j kids own odd total count src sClosed sOdd sMarked src'
  have hodd : odd = false := by simp [odd, hdefs]
  have hown : own = 0 := State.ownDelta_of_no_cairns hdefs j
  have htotal : total = s.kidsSum s.rope.verified := by rw [State.kidsSum, ← hown]
  have hcount : count = sOdd.rdesc.size := by
    simp only [sOdd, hodd, Bool.false_eq_true, if_false]
    exact hall
  have hOdd : sOdd = s.windowClosed s.rope.verified := by simp only [sOdd, hodd, Bool.false_eq_true, if_false]; rfl
  have hanchor' : sOdd.isAnchor = true := by rw [hOdd]; exact hanchor
  rw [if_neg (by simp [hstate, hsums, j, hdue]), if_pos hanchor', htotal, hown, hOdd]
  by_cases hzero : s.kidsSum s.rope.verified = 0
  · rw [if_pos hzero, if_pos (by simp [hzero, hcount, hOdd])]
  · rw [if_neg hzero, if_neg (by simp [hzero])]
    simp only [sMarked, src', hOdd]
    rfl

theorem State.windowBad_effect (s : State) (j : Nat) : (s.windowBad j).rope.verified = j ∧
    (s.windowBad j).reg F.BC_ROPE_CRN_MM = 1 ∧ s.reports1 (s.windowBad j) Code.crnMismatch := by
  have hkey : F.BC_ROPE_CRN_MM.key 0 0 ≠ F.BC_ROPE_CRN_DELTA.key 0 0 := by simp
  refine ⟨rfl, ?_, State.reports1_moduleFault _ _ _ _ _ _ _ rfl⟩
  have hother := State.reg_setReg_other
    { (s.windowClosed j).setReg F.BC_ROPE_CRN_MM 1 with rope := { (s.windowClosed j).rope with verified := j } }
    F.BC_ROPE_CRN_DELTA F.BC_ROPE_CRN_MM 0 0 0 0 0 hkey
  exact hother.trans (State.reg_setReg_same (s.windowClosed j) F.BC_ROPE_CRN_MM 1 0 0)

/-- A child's sum has joined its window. -/
def State.sumJoined (s : State) (c : Cell) : State :=
  let j := leAt c.body 4 8
  let new := (c.src, leAt c.body 12 8 % cairnP, leAt c.body 20 4) :: (s.windowKids j).filter (fun x => x.1 ≠ c.src)
  { s with rope := { s.rope with windows := ⟨j, new⟩ :: s.rope.windows.filter (fun x => x.j ≠ j) } }

theorem State.sumJoined_windowKids_same (s : State) (c : Cell) : (s.sumJoined c).windowKids (leAt c.body 4 8) =
    (c.src, leAt c.body 12 8 % cairnP, leAt c.body 20 4) :: (s.windowKids (leAt c.body 4 8)).filter (fun x => x.1 ≠ c.src) := by
  simp [State.windowKids, State.sumJoined]

theorem State.sumJoined_windowKids_other (s : State) (c : Cell) {j : Nat} (h : j ≠ leAt c.body 4 8) :
    (s.sumJoined c).windowKids j = s.windowKids j := by
  have hrest : (s.rope.windows.filter (fun x => x.j ≠ leAt c.body 4 8)).find? (fun x => x.j = j) =
      s.rope.windows.find? (fun x => x.j = j) := by
    rw [List.find?_filter]
    refine congrArg (s.rope.windows.find? ·) (funext fun x => ?_)
    by_cases hx : x.j = j <;> simp [hx, h]
  have hfirst : ¬ leAt c.body 4 8 = j := fun h' => h h'.symm
  simp only [State.windowKids, State.sumJoined, List.find?_cons, hfirst, decide_false, hrest]

theorem execSum_joined {s : State} {p : Nat} {c : Cell} {r : List (Nat × Cell)} (hcells : s.bcl.cells = (p, c) :: r)
    (htype : c.type = 4) (hsub : leAt c.body 0 1 = 2) (hanchor : s.isAnchor = false) :
    execSum s = .next ((s.cellsLeft r).sumJoined c) := by
  have hmember : ((s.cellsLeft r).sumJoined c).isAnchor = false := hanchor
  unfold execSum
  rw [State.takeCell_first hcells (by simp [htype, hsub])]
  exact congrArg Host.Outcome.next (if_neg (Bool.eq_false_iff.1 hmember))

/-- Settles O42: reports by the cell they send, cairns by the engine they settle, and sums by the window they join or close. -/
theorem reportsAndCairnsOfARope : Obligations.ReportsAndCairnsOfARope := by
  refine ⟨fun s code acyc origin hsolo hanchor hstate hport hruns hbad hsent =>
      execUpReport_bad ⟨hsolo, hanchor, hstate, hport, hruns⟩ hbad hsent,
    fun s hsolo hanchor hstate hport hruns hbad hrisen hlate =>
      execUpReport_cleared ⟨hsolo, hanchor, by simp [hstate], hport, hruns⟩ hstate hbad hrisen hlate,
    fun s p c r k hcells htype hsub hrope hk hcoord hstatus => ?_,
    fun s k hrope hstate hanchor hk hlate hbad => execMemberLost_triggers hrope hstate hanchor hk hlate hbad,
    fun s p n d i hstate hdue => execHopSend_sent hstate hdue,
    fun s p c r d i hcells htype hsub hdef hinsts hseq hsection hend hhalf => ?_,
    fun s p n d i hstate hdue => execCrnMissing_reported hstate hdue,
    fun s hanchor hstate hsums hdue hdefs hall => ?_,
    fun s p c r hcells htype hsub hanchor => ?_⟩
  · refine ⟨_, k.noted s.acyc c.body, execUp_noted hcells htype hsub hrope hk hcoord hstatus,
      State.mem_childNoted (s := s.cellsLeft r) hk hcoord, hcoord, rfl, rfl, rfl, ?_, rfl⟩
    exact List.length_map _
  · obtain ⟨hdone, hequal, hdiffers⟩ := State.compareHop_effect (s := s.cellsLeft r) (d := d) hhalf
    exact ⟨_, execHop_compared hcells htype hsub hdef hinsts hseq hsection hend, hdone, hequal, hdiffers⟩
  · have hsettled := State.settleWindow_anchor hanchor hstate hsums hdue hdefs hall
    refine ⟨fun (hzero : s.kidsSum s.rope.verified = 0) => ⟨_, rfl, ?_⟩,
      fun (hne : s.kidsSum s.rope.verified ≠ 0) => ⟨_, rfl, ?_⟩⟩
    · rw [hsettled, if_pos hzero]
      exact ⟨rfl, rfl⟩
    · rw [hsettled, if_neg hne]
      exact s.windowBad_effect _
  · refine ⟨_, execSum_joined hcells htype hsub hanchor, ?_, fun j hj => State.sumJoined_windowKids_other (s.cellsLeft r) c hj, rfl⟩
    rw [State.sumJoined_windowKids_same]
    exact List.mem_cons_self

end Sys2Proof.Machine
